-- ==== Sys2Proof/Word.lean ====
section
/-!
DEFINITION. Words and the plainest arithmetic of the model: 32-bit register words, bytes, bit fields of a
word, little- and big-endian byte groups, two's-complement readings (R8, R94).
-/

namespace Sys2Proof

/-- A 32-bit word: a register, a slot sample (Q1.31, R94), a memory word. -/
abbrev Word := BitVec 32

/-- A byte of memory, of a descriptor or of a frame. -/
abbrev Byte := BitVec 8

/-- An 80-bit accumulator value (R94). -/
abbrev Acc := BitVec 80

/-- Bits `hi` down to `lo` of a word, as a number (R8). -/
def bitsOf (w : Word) (hi lo : Nat) : Nat := (w.toNat >>> lo) % 2 ^ (hi + 1 - lo)

/-- The word with bits `hi` down to `lo` replaced by the low bits of `v` (R8). -/
def setBits (w : Word) (hi lo v : Nat) : Word :=
  let m : Word := BitVec.ofNat 32 ((2 ^ (hi + 1 - lo) - 1) <<< lo)
  (w &&& ~~~m) ||| (BitVec.ofNat 32 (v <<< lo) &&& m)

/-- A number as a 32-bit word, modulo 2^32. -/
abbrev word (n : Nat) : Word := BitVec.ofNat 32 n

/-- An integer as a 32-bit two's-complement word, modulo 2^32. -/
abbrev wordI (i : Int) : Word := BitVec.ofInt 32 i

/-- A Boolean as the number of its bit. -/
def bit (b : Bool) : Nat := if b then 1 else 0

/-- The 32-bit saturation of an integer (R96). -/
def sat32 (i : Int) : Int :=
  if i > 2147483647 then 2147483647 else if i < -2147483648 then -2147483648 else i

/-- Bytes of a number, least significant first (R8). -/
def leBytes : Nat → Nat → List Byte
  | 0, _ => []
  | k + 1, n => BitVec.ofNat 8 n :: leBytes k (n / 256)

/-- Bytes of a number, most significant first: network order (R8). -/
def beBytes (k n : Nat) : List Byte := (leBytes k n).reverse

/-- The number that bytes spell, least significant first (R8). -/
def leNat : List Byte → Nat
  | [] => 0
  | b :: bs => b.toNat + 256 * leNat bs

/-- The number that bytes spell, most significant first (R8). -/
def beNat (bs : List Byte) : Nat := leNat bs.reverse

/-- `len` bytes of a list from `off`, short lists read as ending there. -/
def slice (bs : List Byte) (off len : Nat) : List Byte := (bs.drop off).take len

/-- The little-endian number at `off`, `len` bytes wide. -/
def leAt (bs : List Byte) (off len : Nat) : Nat := leNat (slice bs off len)

/-- The big-endian number at `off`, `len` bytes wide. -/
def beAt (bs : List Byte) (off len : Nat) : Nat := beNat (slice bs off len)

/-- The integer that the low `w` bits of `n` spell in two's complement. -/
def signExt (w n : Nat) : Int :=
  let m := n % 2 ^ w
  if m < 2 ^ (w - 1) then (m : Int) else (m : Int) - (2 : Int) ^ w

end Sys2Proof
end

