-- ==== Sys2Proof/Syntax.lean ====
section
/-!
DEFINITION. The commands of the KX2048 block: the one inductive `Instr`, one constructor for each row of
spec/opcode_table.json, and the plain data that their operands are made of. The table gives no operands and no bits;
the operands are this model's (DESIGN CHOICE, assumption log entry 2): they carry what reaches the module from outside.
What a command carries beside its row's own event (errors corrected, a message's CRC, counts of a tick) has the plain case as its
default.
-/

namespace Sys2Proof

/-- An engine number (R12). -/
abbrev Eng := Fin 96

/-- One frame that a TDM capture window holds: the port, the position in the window, the bits of DIN (R22, R374, R377). -/
structure CapFrame where
  /-- TDM port (R12). -/
  port : Fin 16
  /-- Position in the capture window, 0 for the oldest. -/
  pos : Nat
  /-- DIN at the capture edges of BCLK, from the frame-sync edge on. -/
  din : List Bool
deriving DecidableEq, Repr

/-- A clock output line (R216): BCLK or FSYNC of the port, an MCLK output, the sense clock of the channel's group. -/
inductive ClkLine where
  | bclk
  | fsync
  | mclk (m : Fin 4)
  | sclk
deriving DecidableEq, Repr

/-- An edge of a clock output (R237): its line, its time in fine counts of 203.45 ps from the start of the frame or the period,
the level after it. -/
structure ClkEdge where
  line : ClkLine
  time : Int
  level : Bool
deriving DecidableEq, Repr

/-- One frame read back from a TDM port's output lines (R237): the port, the position in the window, DOUT sampled on the module's own
sampling edges from the frame-sync edge on, and the edges of its BCLK, FSYNC and the MCLK outputs; those of a port that gives no
clocks are the edges of the MCLK outputs from the instant of the position on. -/
structure LbFrame where
  port : Fin 16
  pos : Nat
  dout : List Bool
  edges : List ClkEdge
deriving DecidableEq, Repr

/-- The bitstream of one sense input over one capture window (R261). -/
structure SnsCap where
  /-- Amplifier channel. -/
  ch : Fin 32
  /-- True for the current input, false for the voltage input. -/
  cur : Bool
  /-- The bits sampled on the rising edges of the sense clock, oldest first (R260). -/
  bits : List Bool
deriving DecidableEq, Repr

/-- A command the module read from a command ring: the ring, the raw 64-byte descriptor, the bytes that the
module's read of the buffers named by the descriptor returned (R350, R352). -/
structure HostCmd where
  /-- Command ring 0-3 (R342). -/
  ring : Fin 4
  /-- The 64 bytes of the descriptor (R350). -/
  desc : List Byte
  /-- Bytes that the read of host memory returned. -/
  data : List Byte
deriving DecidableEq, Repr

/-- What an engine's memories or parity check reported (R72). -/
inductive EngCause where
  /-- Uncorrectable ECC error in local memory. -/
  | lmEcc
  /-- Uncorrectable ECC error in program memory. -/
  | pmEcc
  /-- Uncorrectable error in a register file. -/
  | rfEcc
  /-- Parity error in the control logic. -/
  | parity
deriving DecidableEq, Repr

/-- A corrected ECC error of an engine that no load of a bundle met (R109): by its program fetch, its prefetch, its task DMA, its
register file, or while it is idle or fenced. -/
structure EccFix where
  e : Eng
  /-- 0 program memory, 1 X, 2 Y, 3 register file. -/
  mem : Fin 4
  /-- Word address or bundle index. -/
  addr : BitVec 16
deriving DecidableEq, Repr

/-- Addressing mode of a memory slot (R100, R101, R103). -/
inductive AddrMode where
  /-- The word at Pn; Pn keeps its value. -/
  | plain
  /-- Pn then takes Pn + Mn in its modulo buffer. -/
  | postMod
  /-- Pn then takes Pn + 1 (linear or modulo). -/
  | postInc
  /-- Pn then takes the bit-reversed sum of Pn and Mn. -/
  | bitRev
deriving DecidableEq, Repr

/-- Branch condition (R128), by its code 0-15. -/
abbrev Cond := BitVec 4

/-- A commit proposal on the partner link (R178, R229): its identifier, target tick, whether it is of streams, and
for each member its index and the CRC-32 of its shadow image. -/
structure Proposal where
  /-- Identifier of the proposal. -/
  id : Word
  /-- Target tick N. -/
  tick : BitVec 64
  /-- True for a stream commit, false for parameter sets. -/
  streams : Bool
  /-- Members: set or stream number, CRC-32. -/
  items : List (Nat × Word)
deriving DecidableEq, Repr

/-- The body of a HELLO message (R225). -/
structure HelloMsg where
  /-- PREF strap of the sender. -/
  pref : Bool
  /-- The sender's ticks are running. -/
  running : Bool
  /-- Module identity. -/
  moduleId : BitVec 64
  /-- Graph identity loaded. -/
  graphId : Word
  /-- The sender's TCK_CFG. -/
  tckCfg : Word
  /-- The sender's TICK_NUM. -/
  tick : BitVec 64
  /-- Firmware version. -/
  fwVersion : Word
deriving DecidableEq, Repr

/-- The body of a heartbeat (R229, R232). -/
structure HeartbeatMsg where
  /-- Tick of the heartbeat. -/
  tick : BitVec 64
  /-- True when the sender is the owner. -/
  owner : Bool
  /-- Twin state of the sender. -/
  state : BitVec 4
  /-- Worst unrecovered class plus the `any` bit, as FLT_WORST. -/
  worst : BitVec 3
  /-- Flags: OWN_OUT, OWN_IN, OWN requested, revert eligible. -/
  ownOut : Bool
  /-- The sender sees OWN_IN. -/
  ownIn : Bool
  /-- The sender requests OWN. -/
  ownReq : Bool
  /-- The sender is eligible for revertive return. -/
  revertEligible : Bool
  /-- Receive offset of the partner's markers that the sender measured, in ps. -/
  markerOffset : Int
  /-- False when the message failed its CRC (R228). -/
  crcOk : Bool
deriving DecidableEq, Repr

namespace Machine

/-- A ramp or crossfade that runs: the gain it starts from, the tick of its first sample, its length in samples (R143). -/
structure Ramp where
  fromG : Int
  n0 : Nat
  len : Nat
deriving DecidableEq, Repr

/-- A route entry (R145). -/
structure Route where
  dst : Nat := 0
  /-- Source slot, 0xFFFF for silence. -/
  src : Nat := 0
  gain : Word := 0
  fade : Nat := 0
  phase : Nat := 0
  enable : Bool := false
  range : Bool := false
  dlyEn : Bool := false
  delay : Nat := 0
  line : Nat := 0
deriving DecidableEq, Repr

/-- A tap of a delay line: line, delay, samples written to the line since it started empty (R152). -/
structure Tap where
  line : Nat
  delay : Nat
  cnt : Nat
deriving DecidableEq, Repr

/-- A route entry in force, with its fades (R147 to R149). -/
structure RouteSt where
  /-- The entry in force. -/
  e : Route := {}
  /-- The entry as last committed. -/
  tab : Route := {}
  /-- Ramp of the gain (R143). -/
  ramp : Option Ramp := none
  /-- Crossfade of the source: the old source (none for silence), its gain, first tick, length (R144). -/
  cross : Option (Option Nat × Ramp) := none
  /-- Samples written to the line since it started empty (R152). -/
  cnt : Nat := 0
  /-- Crossfade of the tap: the old tap (none for the undelayed signal), first tick, length. -/
  tap : Option (Option Tap × Nat × Nat) := none
  /-- A change that waits for the end of a running crossfade (R149). -/
  defer : Option Route := none
deriving DecidableEq, Repr

/-- A crosspoint entry (R153). -/
structure Xp where
  src : Nat := 0
  bus : Nat := 0
  range : Bool := false
  enable : Bool := false
  gain : Word := 0
deriving DecidableEq, Repr

/-- A crosspoint in force, with its ramp and the contributions that fade out (R155, R156). -/
structure XpSt where
  /-- The crosspoint in force. -/
  e : Xp := {}
  /-- The crosspoint as last committed. -/
  tab : Xp := {}
  ramp : Option Ramp := none
  /-- Old contributions: source, bus, ramp to 0. -/
  out : List (Nat × Nat × Ramp) := []
  /-- A change of src, bus or enable that waits (R156). -/
  defer : Option Xp := none
deriving DecidableEq, Repr

end Machine

/-- A parameter set as step 1 of resynchronisation carries it (R235). -/
structure SetMove where
  id : Nat
  /-- Offset and size in the parameter area, bytes. -/
  off : Nat
  size : Nat
  /-- Active bank. -/
  bank : Nat
  /-- Active contents. -/
  data : List Byte
deriving DecidableEq, Repr

/-- A pending commit as step 1 carries it. -/
structure CommitMove where
  tick : Nat
  streams : Bool
  ids : List Nat
  /-- Identifier of its proposal. -/
  id : Nat
deriving DecidableEq, Repr

/-- The lookahead crossfade and the deferred lookahead of a dynamics unit as step 1 carries them. -/
structure LookMove where
  unit : Nat
  look : Option (Nat × Nat)
  defer : Option Nat
deriving DecidableEq, Repr

/-- An amplifier channel as step 1 carries it (R278). -/
structure AmpMove where
  ch : Fin 32
  /-- State, as MOD_CH_STATUS codes it. -/
  state : Nat
  timer : Nat
  /-- g_ramp: where its ramp comes from, its target, its length, samples of it so far. -/
  gFrom : Int
  gTo : Int
  gLen : Nat
  gK : Nat
  /-- gr and the sub-block sums of R273. -/
  gr : Int
  sums : List Int
  /-- The window's samples, Vc, Vs, Ic, Is, none where none runs. -/
  win : Option (Nat × Int × Int × Int × Int)
  zBase : Nat
  learn : Option (Nat × Nat)
  flags : Nat
  uv : Bool
deriving DecidableEq, Repr

/-- A step of resynchronisation (R235): its number 1-5 and, for step 1, the configuration that the source sends. -/
structure ResyncCfg where
  step : Fin 6
  sets : List SetMove := []
  /-- Active contexts: receive, transmit. -/
  rx : List (Nat × List Byte) := []
  tx : List (Nat × List Byte) := []
  commits : List CommitMove := []
  routes : List (Nat × Machine.RouteSt) := []
  xps : List (Nat × Machine.XpSt) := []
  looks : List LookMove := []
  amps : List AmpMove := []
deriving DecidableEq, Repr

/-- Group of owned pins that a handover switches (R241): the data, BCLK and FSYNC of a port; PWMA, PWMB and PSTAGE_EN_N of a
channel; an MCLK output; a sense clock output; the two-wire controllers. -/
inductive PinGroup where
  | tdm (p : Fin 16)
  | pwm (c : Fin 32)
  | mclk (m : Fin 4)
  | sclk (g : Fin 4)
  | twi
deriving DecidableEq, Repr

/-- Slip event sent to the partner (R388). -/
inductive SlipEvent where
  | drop | rep | resync | loss | fallback | back
deriving DecidableEq, Repr

/-- An edge on a pulse-width pin (R237, R255): leg B?, time in fine counts of 203.45 ps from the period's start, level after it. -/
structure PinEdge where
  legB : Bool
  time : Int
  level : Bool
deriving DecidableEq, Repr

/-- What a failed host access was for (R370). -/
inductive DmaKind where
  | descriptor (ring : Fin 12)
  /-- The payload of the command at the front of its ring. -/
  | payload (c : HostCmd)
  /-- The frame of the management transmit descriptor at a position from mtx_cons. -/
  | frame (k : Nat)
  | completion (ring : Fin 12)
  /-- A write to a received frame's buffer or to a management descriptor. -/
  | writeBack
  | event
  | meter
  | shadow
  | doorbell
deriving DecidableEq, Repr

/-- What an uncorrectable SRAM word held for its reader (R403). -/
inductive SramHit where
  /-- Nothing that a rule gives an effect. -/
  | other
  /-- A prefetch or task DMA of an engine read it. -/
  | task (e : Eng)
  /-- Two samples, 2 x pair and the next, of a slot's block: committed, or written earlier in the present tick. -/
  | samples (slot : Fin 4096) (pair : Fin 16) (committed : Bool)
  /-- The read was that of a write of less than 64 bits (R402): the bytes that the word had before it. -/
  | partWrite (old : List Byte)
  /-- Two samples of an input block of the tick being processed. -/
  | input (slot : Fin 4096) (pair : Fin 16)
  /-- Two channels of a sample in the staging of a receive stream. -/
  | staged (i : Fin 512) (pos pair : Nat)
  /-- Two slots of a frame in the input rows of a TDM port. -/
  | tdm (p : Fin 16) (row pair : Nat)
  /-- Two samples of the history of a dynamics unit. -/
  | dyn (u : Fin 1024) (pair : Fin 32)
  /-- A COPY_OUT. -/
  | copyOut (c : HostCmd)
deriving DecidableEq, Repr

/-- What read an uncorrectable DRAM word (R413, R414). -/
inductive DramHit where
  /-- Nothing that a rule gives an effect beside the master's. -/
  | other
  /-- A COPY_OUT. -/
  | copyOut (c : HostCmd)
  /-- A write of less than 64 bits: the bytes that the word had before it. -/
  | partWrite (old : List Byte)
deriving DecidableEq, Repr

/-- The levels of the RT port's buffers (R418): bytes of returned data in the read buffer, its reads outstanding, bytes in the write
buffer. -/
structure RtBuf where
  rd : Nat := 0
  reads : Nat := 0
  wr : Nat := 0
deriving DecidableEq, Repr

/-- What the memory system counted since the boundary before. -/
structure TickSeen where
  /-- Conflict cycles by master and tick-store bank (R408). -/
  conf : List (Fin 17 × Fin 16 × Nat) := []
  /-- Controller cycles with panic asserted (R418). -/
  panic : Nat := 0
  /-- SRAM words corrected, by reads and by the patrol scrub (R401, R404). -/
  fixed : Nat := 0
  /-- DRAM words corrected and written back, by reads and by the scrub (R413, R415). -/
  dramFixed : Nat := 0
deriving DecidableEq, Repr

/-- What the firmware finds at the end of a training helper step (R428, R429): its sweep goes on, the step passed, or its
window is below the minimum on a byte lane. -/
inductive TrainEnd where
  | sweep
  | passed
  | failed (lane : Fin 9)
deriving DecidableEq, Repr

/-- Who wrote PWR_DOM_REQ (R473, R474). -/
inductive ReqSource where
  | bar0 | twi | firmware
deriving DecidableEq, Repr

/-- A firmware image slot's contents as the boot ROM reads them (R479, R480). -/
structure BootImage where
  /-- The flash answered. -/
  answering : Bool
  /-- The header's bytes. -/
  hdr : List Byte
  /-- The bytes of the primary segment. -/
  primary : List Byte
deriving DecidableEq, Repr

/-- The commands of the block, in the order of spec/opcode_table.json. -/
inductive Instr where
  /-- TCK_CFG_WRITE (R15). -/
  | tckCfgWrite (w : Word)
  /-- TICK_RUN_SET (R20). -/
  | tickRunSet
  /-- TICK_RUN_CLEAR (R21). -/
  | tickRunClear
  /-- TICK_START (R20). -/
  | tickStart
  /-- TICK_STOP (R21). -/
  | tickStop
  /-- TICK_BOUNDARY (R22). -/
  | tickBoundary (seen : TickSeen := {})
  /-- CAPTURE_WINDOW_CLOSE (R22). -/
  | captureWindowClose (tdm : List CapFrame) (sns : List SnsCap) (lb : List LbFrame)
  /-- TICK_OVERRUN_WARNING (R64). -/
  | tickOverrunWarning
  /-- TICK_DEADLINE (R65). -/
  | tickDeadline
  /-- DOORBELL_FETCH_COMPLETE (R25). -/
  | doorbellFetchComplete (db : List Byte)
  /-- DOORBELL_FETCH_LATE (R24). -/
  | doorbellFetchLate
  /-- SHADOW_BLOCK_WRITE (R347). -/
  | shadowBlockWrite
  /-- TCK_NUM_LO_READ (R36). -/
  | tckNumLoRead
  /-- TCK_START_LO_WRITE (R36). -/
  | tckStartLoWrite (w : Word)
  /-- CAPTURE_REGISTER_READ (R36). -/
  | captureRegisterRead (off : BitVec 24)
  /-- COUNTER_READ_CLEAR (R9). -/
  | counterReadClear (off : BitVec 24)
  /-- REGISTER_WRITE (R9). -/
  | registerWrite (off : BitVec 24) (w : Word)
  /-- GRAPH_LOAD (R52). -/
  | graphLoad (c : HostCmd)
  /-- UNLOAD (R52). -/
  | unload
  /-- PHASE_RELEASE (R55). -/
  | phaseRelease
  /-- BACKLOG_APPEND (R57). -/
  | backlogAppend (e : Eng)
  /-- DEPTH_BROADCAST (R59). -/
  | depthBroadcast (fixed : List EccFix := [])
  /-- TASK_ACQUIRE (R60). -/
  | taskAcquire (e : Eng)
  /-- STEAL_COMPLETE (R61). -/
  | stealComplete (e : Eng)
  /-- TASK_TAKE (R58). -/
  | taskTake (e : Eng)
  /-- PREFETCH_COMPLETE (R83). -/
  | prefetchComplete (e : Eng)
  /-- TASK_COMPLETE (R87). -/
  | taskComplete (e : Eng)
  /-- TASK_BUDGET_EXCEEDED (R67). -/
  | taskBudgetExceeded (e : Eng)
  /-- ENGINE_FAULT (R72). -/
  | engineFault (e : Eng) (cause : EngCause)
  /-- ENGINE_HANG (R72). -/
  | engineHang (e : Eng)
  /-- FAB_FENCE_WRITE (R76). -/
  | fabFenceWrite (j : Fin 3) (w : Word)
  /-- PLANNED_FENCE (R76). -/
  | plannedFence (e : Eng)
  /-- FAB_UNFENCE_WRITE (R77). -/
  | fabUnfenceWrite (j : Fin 3) (w : Word)
  /-- ENGINE_ACTIVATE (R77). -/
  | engineActivate (e : Eng) (marchOk : Bool)
  /-- UNFENCE_REPAIR (R441). -/
  | unfenceRepair (e : Eng)
  /-- BUNDLE_ILLEGAL (R117). -/
  | bundleIllegal (e : Eng) (b : BitVec 64)
  /-- BUNDLE_NOP (R116). -/
  | bundleNop (e : Eng)
  /-- ADD (R123). -/
  | add (e : Eng) (d s t : BitVec 4) (last : Bool)
  /-- SUB (R123). -/
  | sub (e : Eng) (d s t : BitVec 4) (last : Bool)
  /-- AND (R123). -/
  | and (e : Eng) (d s t : BitVec 4) (last : Bool)
  /-- OR (R123). -/
  | or (e : Eng) (d s t : BitVec 4) (last : Bool)
  /-- XOR (R123). -/
  | xor (e : Eng) (d s t : BitVec 4) (last : Bool)
  /-- MIN (R123). -/
  | min (e : Eng) (d s t : BitVec 4) (last : Bool)
  /-- MAX (R123). -/
  | max (e : Eng) (d s t : BitVec 4) (last : Bool)
  /-- ASR (R123). -/
  | asr (e : Eng) (d s t : BitVec 4) (last : Bool)
  /-- LSR (R123). -/
  | lsr (e : Eng) (d s t : BitVec 4) (last : Bool)
  /-- LSL (R123). -/
  | lsl (e : Eng) (d s t : BitVec 4) (last : Bool)
  /-- CMP (R123). -/
  | cmp (e : Eng) (s t : BitVec 4) (last : Bool)
  /-- MOV (R123). -/
  | mov (e : Eng) (d s : BitVec 4) (last : Bool)
  /-- NEG (R123). -/
  | neg (e : Eng) (d s : BitVec 4) (last : Bool)
  /-- ABS (R123). -/
  | abs (e : Eng) (d s : BitVec 4) (last : Bool)
  /-- NOT (R123). -/
  | not (e : Eng) (d s : BitVec 4) (last : Bool)
  /-- ADDI (R123). -/
  | addi (e : Eng) (d s : BitVec 4) (imm : BitVec 10) (last : Bool)
  /-- CMPI (R123). -/
  | cmpi (e : Eng) (s : BitVec 4) (imm : BitVec 10) (last : Bool)
  /-- MOVI (R123). -/
  | movi (e : Eng) (d : BitVec 4) (imm : BitVec 10) (last : Bool)
  /-- ASRI (R123). -/
  | asri (e : Eng) (d s : BitVec 4) (sh : BitVec 5) (last : Bool)
  /-- LSRI (R123). -/
  | lsri (e : Eng) (d s : BitVec 4) (sh : BitVec 5) (last : Bool)
  /-- LSLI (R123). -/
  | lsli (e : Eng) (d s : BitVec 4) (sh : BitVec 5) (last : Bool)
  /-- BEXP (R97). -/
  | bexp (e : Eng) (s : BitVec 4) (last : Bool)
  /-- MAC1 (R98). -/
  | mac1 (e : Eng) (a : BitVec 2) (x c : BitVec 4) (last : Bool)
  /-- MSU1 (R98). -/
  | msu1 (e : Eng) (a : BitVec 2) (x c : BitVec 4) (last : Bool)
  /-- MPY1 (R98). -/
  | mpy1 (e : Eng) (a : BitVec 2) (x c : BitVec 4) (last : Bool)
  /-- MPN1 (R98). -/
  | mpn1 (e : Eng) (a : BitVec 2) (x c : BitVec 4) (last : Bool)
  /-- MAC2 (R98). -/
  | mac2 (e : Eng) (ap : Bool) (x0 x1 c : BitVec 4) (last : Bool)
  /-- MSU2 (R98). -/
  | msu2 (e : Eng) (ap : Bool) (x0 x1 c : BitVec 4) (last : Bool)
  /-- MPY2 (R98). -/
  | mpy2 (e : Eng) (ap : Bool) (x0 x1 c : BitVec 4) (last : Bool)
  /-- MPN2 (R98). -/
  | mpn2 (e : Eng) (ap : Bool) (x0 x1 c : BitVec 4) (last : Bool)
  /-- MAC4O (R98). -/
  | mac4o (e : Eng) (dp cp : BitVec 3) (last : Bool)
  /-- MSU4O (R98). -/
  | msu4o (e : Eng) (dp cp : BitVec 3) (last : Bool)
  /-- MPY4O (R98). -/
  | mpy4o (e : Eng) (dp cp : BitVec 3) (last : Bool)
  /-- MPN4O (R98). -/
  | mpn4o (e : Eng) (dp cp : BitVec 3) (last : Bool)
  /-- MAC4C (R98). -/
  | mac4c (e : Eng) (ap : Bool) (dp cp : BitVec 3) (last : Bool)
  /-- MSU4C (R98). -/
  | msu4c (e : Eng) (ap : Bool) (dp cp : BitVec 3) (last : Bool)
  /-- MPY4C (R98). -/
  | mpy4c (e : Eng) (ap : Bool) (dp cp : BitVec 3) (last : Bool)
  /-- MPN4C (R98). -/
  | mpn4c (e : Eng) (ap : Bool) (dp cp : BitVec 3) (last : Bool)
  /-- MAC4J (R98). -/
  | mac4j (e : Eng) (ap : Bool) (dp cp : BitVec 3) (last : Bool)
  /-- MSU4J (R98). -/
  | msu4j (e : Eng) (ap : Bool) (dp cp : BitVec 3) (last : Bool)
  /-- MPY4J (R98). -/
  | mpy4j (e : Eng) (ap : Bool) (dp cp : BitVec 3) (last : Bool)
  /-- MPN4J (R98). -/
  | mpn4j (e : Eng) (ap : Bool) (dp cp : BitVec 3) (last : Bool)
  /-- CNV (R96). -/
  | cnv (e : Eng) (d : BitVec 4) (a : BitVec 2) (sc : BitVec 5) (last : Bool)
  /-- CNV2 (R96). -/
  | cnv2 (e : Eng) (dp : BitVec 3) (ap : Bool) (sc : BitVec 5) (last : Bool)
  /-- ALD (R95). -/
  | ald (e : Eng) (a : BitVec 2) (d : BitVec 4) (last : Bool)
  /-- ALDS (R95). -/
  | alds (e : Eng) (a : BitVec 2) (d : BitVec 4) (last : Bool)
  /-- ALD2 (R123). -/
  | ald2 (e : Eng) (dp : BitVec 3) (ap : Bool) (last : Bool)
  /-- ALDS2 (R123). -/
  | alds2 (e : Eng) (dp : BitVec 3) (ap : Bool) (last : Bool)
  /-- ALDQ (R123). -/
  | aldq (e : Eng) (dp : BitVec 3) (last : Bool)
  /-- AADD (R123). -/
  | aadd (e : Eng) (a b : BitVec 2) (last : Bool)
  /-- ASUB (R123). -/
  | asub (e : Eng) (a b : BitVec 2) (last : Bool)
  /-- AMOV (R123). -/
  | amov (e : Eng) (a b : BitVec 2) (last : Bool)
  /-- ACLR (R123). -/
  | aclr (e : Eng) (a : BitVec 2) (last : Bool)
  /-- MVFH (R92). -/
  | mvfh (e : Eng) (a : BitVec 2) (d : BitVec 4) (last : Bool)
  /-- MVFL (R92). -/
  | mvfl (e : Eng) (a : BitVec 2) (d : BitVec 4) (last : Bool)
  /-- MVFG (R92). -/
  | mvfg (e : Eng) (a : BitVec 2) (d : BitVec 4) (last : Bool)
  /-- MVTH (R92). -/
  | mvth (e : Eng) (a : BitVec 2) (d : BitVec 4) (last : Bool)
  /-- MVTL (R92). -/
  | mvtl (e : Eng) (a : BitVec 2) (d : BitVec 4) (last : Bool)
  /-- MVTG (R92). -/
  | mvtg (e : Eng) (a : BitVec 2) (d : BitVec 4) (last : Bool)
  /-- LD (R125). -/
  | ld (e : Eng) (d : BitVec 4) (n : BitVec 3) (mode : AddrMode) (ecc : Bool) (last : Bool)
  /-- LDP (R125). -/
  | ldp (e : Eng) (d : BitVec 4) (n : BitVec 3) (mode : AddrMode) (last : Bool) (ecc : Bool := false)
  /-- ST (R125). -/
  | st (e : Eng) (d : BitVec 4) (n : BitVec 3) (mode : AddrMode) (last : Bool)
  /-- STP (R125). -/
  | stp (e : Eng) (d : BitVec 4) (n : BitVec 3) (mode : AddrMode) (last : Bool)
  /-- LDD (R126). -/
  | ldd (e : Eng) (d : BitVec 4) (n : BitVec 3) (d2 : BitVec 4) (m : BitVec 3) (last : Bool) (eccN eccM : Bool := false)
  /-- LDDP (R126). -/
  | lddp (e : Eng) (dp n ep m : BitVec 3) (mn mm last : Bool) (eccN eccM : Bool := false)
  /-- MODP (R125). -/
  | modp (e : Eng) (n : BitVec 3) (mode : AddrMode) (last : Bool)
  /-- B (R127). -/
  | b (e : Eng) (target : BitVec 12) (last : Bool)
  /-- BCC (R128). -/
  | bcc (e : Eng) (cond : Cond) (off : BitVec 9) (last : Bool)
  /-- LBR (R129). -/
  | lbr (e : Eng) (target : BitVec 12) (last : Bool)
  /-- BR (R129). -/
  | br (e : Eng) (s : BitVec 4) (last : Bool)
  /-- RTE (R111). -/
  | rte (e : Eng) (last : Bool)
  /-- RPT (R130). -/
  | rpt (e : Eng) (n1 : BitVec 12) (last : Bool)
  /-- RPTR (R130). -/
  | rptr (e : Eng) (s : BitVec 4) (last : Bool)
  /-- TEND (R133). -/
  | tend (e : Eng) (last : Bool)
  /-- MOVR (R135). -/
  | movr (e : Eng) (dst src : BitVec 6) (last : Bool)
  /-- MOVIZ (R135). -/
  | moviz (e : Eng) (dst : BitVec 6) (imm : BitVec 7) (last : Bool)
  /-- ADDA (R127). -/
  | adda (e : Eng) (n : BitVec 3) (imm : BitVec 10) (last : Bool)
  /-- DMAQ (R131). -/
  | dmaq (e : Eng) (dir : Bool) (s t u : BitVec 4) (last : Bool)
  /-- DMAW (R132). -/
  | dmaw (e : Eng) (k : BitVec 2) (last : Bool)
  /-- DMA_TRANSFER_COMPLETE (R88). -/
  | dmaTransferComplete (e : Eng)
  /-- DMAS (R127). -/
  | dmas (e : Eng) (d : BitVec 4) (last : Bool)
  /-- MBR (R134). -/
  | mbr (e : Eng) (d : BitVec 4) (last : Bool)
  /-- MBW (R134). -/
  | mbw (e : Eng) (s : BitVec 4) (last : Bool)
  /-- LDI (R136). -/
  | ldi (e : Eng) (d : BitVec 4) (imm : Word) (last : Bool)
  /-- EVENT_ENTRY (R111). -/
  | eventEntry (e : Eng)
  /-- ENG_MBOX_IN_WRITE (R109). -/
  | engMboxInWrite (e : Eng) (w : Word)
  /-- ROUTE_STAGE (R146). -/
  | routeStage
  /-- DELAY_TAP_WAIT (R152). -/
  | delayTapWait (i : Fin 4096)
  /-- MIX_STAGE (R154). -/
  | mixStage
  /-- DYNAMICS_STAGE (R159). -/
  | dynamicsStage
  /-- PSET_DEFINE (R172). -/
  | psetDefine (c : HostCmd)
  /-- PSET_UNDEFINE (R172). -/
  | psetUndefine (c : HostCmd)
  /-- PSET_LOAD (R173). -/
  | psetLoad (c : HostCmd)
  /-- PSET_WRITE (R173). -/
  | psetWrite (c : HostCmd)
  /-- PSET_COMMIT (R173). -/
  | psetCommit (c : HostCmd)
  /-- PSET_COMMIT_APPLY (R173). -/
  | psetCommitApply
  /-- SHADOW_REFRESH (R174). -/
  | shadowRefresh (id : Fin 4096)
  /-- DEFERRED_CHANGE_APPLY (R149). -/
  | deferredChangeApply
  /-- FADE_END (R143). -/
  | fadeEnd
  /-- METER_RECORD_POST (R168). -/
  | meterRecordPost
  /-- PROPOSE (R178). -/
  | propose (p : Proposal) (crcOk : Bool := true)
  /-- AGREE (R178). -/
  | agree (id : Word) (crcOk : Bool := true)
  /-- REFUSE (R178). -/
  | refuse (id : Word) (reason : Byte) (crcOk : Bool := true)
  /-- WITHDRAW (R178). -/
  | withdraw (id : Word) (crcOk : Bool := true)
  /-- COMMIT_AGREE_TIMEOUT (R178). -/
  | commitAgreeTimeout (id : Word)
  /-- STREAM_STAGE (R186). -/
  | streamStage (c : HostCmd)
  /-- STREAM_COMMIT (R189). -/
  | streamCommit (c : HostCmd)
  /-- STREAM_COMMIT_APPLY (R191). -/
  | streamCommitApply
  /-- TRANSMIT_LAUNCH (R198). -/
  | transmitLaunch
  /-- TRANSMIT_LATE_DROP (R198). -/
  | transmitLateDrop (port : Fin 3)
  /-- MEDIA_FRAME_RECEIVE (R200): a frame without its FCS that passed the checks of the MAC. -/
  | mediaFrameReceive (src : Fin 4) (frame : List Byte) (raw : Nat) (bufs : List (Nat × Nat) := []) (crcOk : Bool := true)
  /-- STREAM_RUNNING_TIMEOUT (R208). -/
  | streamRunningTimeout (i : Fin 512)
  /-- PARTNER_OWN_ASSERT (R218). -/
  | partnerOwnAssert
  /-- OWN_GUARD_EXPIRE (R218). -/
  | ownGuardExpire
  /-- OWN_ASSERT (R220). -/
  | ownAssert
  /-- OWN_SETTLE_END (R220). -/
  | ownSettleEnd
  /-- OWN_RETRY_EXPIRE (R220). -/
  | ownRetryExpire
  /-- OWN_RELEASE (R222). -/
  | ownRelease
  /-- OWN_REQ_CLEAR (R222). -/
  | ownReqClear
  /-- TAKEOVER_PWM_ENTRY (R243). -/
  | takeoverPwmEntry (c : Fin 32)
  /-- PAIRING_ATTEMPT (R224). -/
  | pairingAttempt
  /-- HELLO (R225). -/
  | hello (m : HelloMsg) (crcOk : Bool := true)
  /-- HELLO_TIMEOUT (R225). -/
  | helloTimeout
  /-- HEARTBEAT (R229). -/
  | heartbeat (m : HeartbeatMsg)
  /-- HEARTBEAT_LOSS (R234). -/
  | heartbeatLoss
  /-- DIGEST_SEND (R230). -/
  | digestSend
  /-- DIGEST (R230). -/
  | digest (tick value : BitVec 64) (worst : BitVec 2) (owner : Bool) (crcOk : Bool := true)
  /-- DIGEST_COMPARE (R230). -/
  | digestCompare
  /-- TICK_BOUNDARY_MARKER (R232). -/
  | tickBoundaryMarker (rxOffset : Int)
  /-- LANESET (R233). -/
  | laneset (mask : BitVec 4) (tick : BitVec 64) (crcOk : Bool := true)
  /-- RS_STEP (R235). -/
  | rsStep (n : Fin 6) (tick : BitVec 64) (crcOk : Bool := true)
  /-- RESYNC_STEP_START (R235). -/
  | resyncStepStart (cfg : ResyncCfg)
  /-- MIRROR (R235). -/
  | mirror (tick : BitVec 64) (slot : Fin 4096) (block : List Word) (crcOk : Bool := true)
  /-- STATE_TRANSFER (R235). -/
  | stateTransfer (tick : BitVec 64) (unit off : Nat) (data : List Byte) (crcOk : Bool := true)
  /-- RESYNC_FINAL (R236). -/
  | resyncFinal
  /-- HANDOVER_REQUEST (R239). -/
  | handoverRequest
  /-- HO_PROPOSE (R239). -/
  | hoPropose (h : BitVec 64) (owner : Bool) (crcOk : Bool := true)
  /-- HO_AGREE (R239). -/
  | hoAgree (h : BitVec 64) (crcOk : Bool := true)
  /-- HO_REFUSE (R239). -/
  | hoRefuse (h : BitVec 64) (reason : Byte) (crcOk : Bool := true)
  /-- HANDOVER_AGREE_TIMEOUT (R239). -/
  | handoverAgreeTimeout
  /-- HANDOVER_PIN_SWITCH (R241). -/
  | handoverPinSwitch (g : PinGroup)
  /-- HANDOVER_OWN_CHANGE (R242). -/
  | handoverOwnChange
  /-- HANDOVER_COMPLETE (R242). -/
  | handoverComplete
  /-- HANDOVER_CANCEL (R242). -/
  | handoverCancel
  /-- REVERT_REQUEST (R245). -/
  | revertRequest
  /-- TDM_SLIP (R388). -/
  | tdmSlip (tick : BitVec 64) (port : Fin 16) (ev : SlipEvent) (pos : Nat) (crcOk : Bool := true)
  /-- PWM_PERIOD_START (R255). -/
  | pwmPeriodStart (c : Fin 32) (j : Nat) (captured : List PinEdge) (pstage : Bool) (sclk : List ClkEdge := []) (theirTrip : Bool := false)
  /-- CHANNEL_TRIP (R262). -/
  | channelTrip (c : Fin 32) (bits : List Bool)
  /-- FAULT_N_ASSERT (R265). -/
  | faultNAssert (c : Fin 32)
  /-- CHANNEL_TIMER_EXPIRE (R263). -/
  | channelTimerExpire (c : Fin 32)
  /-- CHANNEL_START (R263). -/
  | channelStart (c : Fin 32)
  /-- CHANNEL_STOP (R263). -/
  | channelStop (c : Fin 32)
  /-- CHECK_START (R267). -/
  | checkStart (c : Fin 32)
  /-- CHECK_END (R267). -/
  | checkEnd (c : Fin 32)
  /-- CHANNEL_MUTE (R275). -/
  | channelMute (pllLock : Bool)
  /-- MOD_CH_CTRL_CLR (R263). -/
  | modChCtrlClr (c : Fin 32)
  /-- IMPEDANCE_WINDOW_END (R272). -/
  | impedanceWindowEnd (c : Fin 32)
  /-- IMPEDANCE_LEARN (R272). -/
  | impedanceLearn (c : Fin 32)
  /-- POWER_SUBBLOCK_END (R273). -/
  | powerSubblockEnd (c : Fin 32)
  /-- TIMEBASE_LOSS (R274). -/
  | timebaseLoss
  /-- TIMEBASE_RELOCK (R274). -/
  | timebaseRelock
  /-- MOD_FSW_WRITE (R254). -/
  | modFswWrite (w : Word)
  /-- MOD_DITHER_WRITE (R254). -/
  | modDitherWrite (w : Word)
  /-- MOD_APPLY_LO_WRITE (R277). -/
  | modApplyLoWrite (w : Word)
  /-- MOD_STAGED_APPLY (R277). -/
  | modStagedApply
  /-- MOD_IFIR_DATA_READ (R258). -/
  | modIfirDataRead
  /-- SNS_CLK_CFG_WRITE (R260). -/
  | snsClkCfgWrite (w : Word)
  /-- OSCILLATOR_FAULT (R279). -/
  | oscillatorFault
  /-- REF_WINDOW_END (R283). -/
  | refWindowEnd (n : Fin 7) (active : Bool) (ppb : Int) (stable : Nat := 0)
  /-- REF_QUALIFY (R283). -/
  | refQualify (n : Fin 7)
  /-- REF_MISSING_EDGES (R284). -/
  | refMissingEdges (n : Fin 4)
  /-- REF_RATE_CHANGE (R284). -/
  | refRateChange (n : Fin 4)
  /-- PTP_SYNC_MISSING (R285). -/
  | ptpSyncMissing (portB : Bool)
  /-- PHASE_DETECTOR_UPDATE (R290). -/
  | phaseDetectorUpdate (n : Fin 7) (phase : Int)
  /-- DPLL_LOCK (R290). -/
  | dpllLock
  /-- DPLL_UNLOCK (R290). -/
  | dpllUnlock
  /-- HOLDOVER_UPDATE (R297). -/
  | holdoverUpdate (theta : BitVec 16)
  /-- TICK_SLEW (R293). -/
  | tickSlew (s : Int)
  /-- NETWORK_TIME_STEP (R294). -/
  | networkTimeStep (s : Int)
  /-- REALIGN (R292). -/
  | realign
  /-- HOLDOVER_LOAD (R298). -/
  | holdoverLoad
  /-- TIM_SET (R306). -/
  | timSet
  /-- TIM_ADJ_COMMIT (R304). -/
  | timAdjCommit
  /-- TIMER_ARM (R308). -/
  | timerArm (k : Fin 8) (w : Word)
  /-- TIMER_FIRE (R308). -/
  | timerFire (k : Fin 8)
  /-- PPS_OUT_EDGE (R309). -/
  | ppsOutEdge
  /-- PPS_IN_EDGE (R309). -/
  | ppsInEdge
  /-- RTC_SET (R310). -/
  | rtcSet
  /-- RTC_SVC_WRITE (R311). -/
  | rtcSvcWrite (w hours : Word)
  /-- SERVICE_HOUR (R311). -/
  | serviceHour
  /-- MGMT_FRAME_LAUNCH (R307). -/
  | mgmtFrameLaunch (port : Fin 4) (k : Nat) (desc frame : List Byte)
  /-- SERIAL_REFERENCE_LOSS (R314). -/
  | serialReferenceLoss
  /-- SIGNAL_DETECT_ASSERT (R319). -/
  | signalDetectAssert (l : Fin 8)
  /-- SIGNAL_DETECT_DEASSERT (R319). -/
  | signalDetectDeassert (l : Fin 8)
  /-- CDR_LOCK (R318). -/
  | cdrLock (l : Fin 8)
  /-- CDR_TIMEOUT (R318). -/
  | cdrTimeout (l : Fin 8)
  /-- BLOCK_LOCK (R320). -/
  | blockLock (l : Fin 8) (headers : List (BitVec 2) := []) (sync : Bool := false)
  /-- HUNT_TIMEOUT (R318). -/
  | huntTimeout (l : Fin 8)
  /-- LOCK_LOSS (R320). -/
  | lockLoss (l : Fin 8) (invalid : Nat) (synced : Bool := false)
  /-- POLARITY_CHECK (R321). -/
  | polarityCheck (l : Fin 8) (badDirect badInverted : Nat)
  /-- TRAINING_BLOCK (R323). -/
  | trainingBlock (l : Fin 8) (inverted : Bool) (payload : List Byte)
  /-- TRAIN_TIMEOUT (R318). -/
  | trainTimeout (l : Fin 8)
  /-- SDS_RESTART (R318). -/
  | sdsRestart (l : Fin 8)
  /-- LANE_TEST_ENTRY (R338). -/
  | laneTestEntry (l : Fin 8) (prbs : Bool) (w : Word)
  /-- PRBS_INJECT (R336). -/
  | prbsInject (l : Fin 8)
  /-- PRBS_CLEAR (R336). -/
  | prbsClear (l : Fin 8)
  /-- PRBS_LOCK_LOSS (R336). -/
  | prbsLockLoss (l : Fin 8) (bits errs : Nat) (last : List Bool := [])
  /-- SDS_PRBS_BITS_LO_READ (R337). -/
  | sdsPrbsBitsLoRead (l : Fin 8) (bits errs : Nat)
  /-- LINK_CHANGE (R322). -/
  | linkChange (n : Fin 4) (up : Bool) (faults : BitVec 5) (sgmii : Fin 3)
  /-- MAC_FRAME_RECEIVE (R328). -/
  | macFrameReceive (n : Fin 4) (frame : List Byte) (fecBad room : Bool) (raw : Nat) (bufs : List (Nat × Nat)) (fecCorr : Nat := 0)
  /-- PAUSE_FRAME (R330). -/
  | pauseFrame (n : Fin 4) (quanta : BitVec 16)
  /-- PAUSE_END (R330). -/
  | pauseEnd (n : Fin 4)
  /-- LPI_ENTRY (R334). -/
  | lpiEntry (rx : Option (Fin 4) := none)
  /-- LPI_EXIT (R334). -/
  | lpiExit (rx : Option (Fin 4) := none)
  /-- AN_RESTART (R316). -/
  | anRestart
  /-- MAC_CFG_WRITE (R518). -/
  | macCfgWrite (n : Fin 4) (w : Word)
  /-- MAC_CTRL_WRITE (R317). -/
  | macCtrlWrite (n : Fin 4) (w : Word)
  /-- MGMT_FRAME_COMPLETE (R363). -/
  | mgmtFrameComplete (port : Fin 4) (raw : Nat)
  /-- NOP (R356). -/
  | nop (c : HostCmd)
  /-- COPY_IN (R356). -/
  | copyIn (c : HostCmd)
  /-- COPY_OUT (R356). -/
  | copyOut (c : HostCmd)
  /-- REG_WRITE (R356). -/
  | regWrite (c : HostCmd)
  /-- FLT_ACK (R437). -/
  | fltAck (c : HostCmd)
  /-- TWI_XFER (R464). -/
  | twiXfer (c : HostCmd) (fw : Bool := false)
  /-- BAD_OPCODE (R358). -/
  | badOpcode (c : HostCmd)
  /-- TIMED_COMMAND_EFFECT (R354). -/
  | timedCommandEffect
  /-- COMPLETION_WRITE (R353). -/
  | completionWrite
  /-- HIF_RING_CTRL_WRITE (R343). -/
  | hifRingCtrlWrite (r : Fin 12) (w : Word)
  /-- HIF_RING_BASE_SIZE_WRITE (R343). -/
  | hifRingBaseSizeWrite (r : Fin 12) (which : Fin 3) (w : Word)
  /-- HIF_CTRL_WRITE (R372). -/
  | hifCtrlWrite (w : Word)
  /-- PCIE_RESET (R369). -/
  | pcieReset
  /-- HOST_DMA_FAIL (R370). -/
  | hostDmaFail (k : DmaKind) (addr : BitVec 64)
  /-- BAR0_BAD_ACCESS (R340). -/
  | bar0BadAccess (write : Bool)
  /-- FOLLOW_FRAME (R382). -/
  | followFrame (p : Fin 16) (edge : Nat) (bclks : Nat) (din : List Bool) (others : List (Fin 16 × List Bool) := [])
  /-- TDM_SLIP_SEND (R388). -/
  | tdmSlipSend (p : Fin 16)
  /-- TDM_LOSS (R384). -/
  | tdmLoss (p : Fin 16)
  /-- TDM_APPLY_LO_WRITE (R389). -/
  | tdmApplyLoWrite (w : Word)
  /-- TDM_STAGED_APPLY (R390). -/
  | tdmStagedApply
  /-- DECODE_ERROR (R393). -/
  | decodeError (addr : BitVec 36) (master : Fin 17) (write : Option Word)
  /-- SRAM_UNCORRECTABLE (R401). -/
  | sramUncorrectable (addr : BitVec 36) (master : Fin 17) (hit : SramHit)
  /-- MASTER_DRAIN (R399). -/
  | masterDrain (m : Fin 17)
  /-- DRAIN_COMPLETE (R399). -/
  | drainComplete (m : Fin 17) (cycles : Nat) (landed : List (Eng × Nat) := [])
  /-- MARCH_REQUEST (R407). -/
  | marchRequest (w : Word)
  /-- MARCH_COMPLETE (R407). -/
  | marchComplete (failing : List Nat)
  /-- REFRESH_INTERVAL_EXPIRE (R420). -/
  | refreshIntervalExpire (r : Fin 2) (panic : Bool) (rt : Option RtBuf := none)
  /-- REF_ISSUE (R421). -/
  | refIssue (r : Fin 2) (rt : Option RtBuf := none)
  /-- FORCED_REFRESH_BATCH (R422). -/
  | forcedRefreshBatch (r : Fin 2)
  /-- DDR_TEMP_WRITE (R423). -/
  | ddrTempWrite (w : Word)
  /-- DDR_TEMP_STALE (R423). -/
  | ddrTempStale
  /-- DRAM_UNCORRECTABLE (R413). -/
  | dramUncorrectable (addr : BitVec 36) (master : BitVec 5) (hit : DramHit)
  /-- DRAM_CORRECTION_RATE (R414). -/
  | dramCorrectionRate (count : Nat)
  /-- DDR_CFG_WRITE (R410). -/
  | ddrCfgWrite (w : Word)
  /-- TRAINING_STEP (R427). -/
  | trainingStep (w : Word)
  /-- TRAINING_STEP_DONE (R427). -/
  | trainingStepDone (pass : BitVec 72) (errs : Word) (ends : TrainEnd)
  /-- DRAM_INIT (R430). -/
  | dramInit
  /-- DRAM_INIT_DONE (R430). -/
  | dramInitDone
  /-- SELF_REFRESH_REQUEST (R431). -/
  | selfRefreshRequest
  /-- SELF_REFRESH_EXIT (R432). -/
  | selfRefreshExit
  /-- LOCAL_REPAIR (R441). -/
  | localRepair (s : Fin 64)
  /-- CONDITION_END (R436). -/
  | conditionEnd (s : Fin 64)
  /-- FLT_ACK_LO_WRITE (R437). -/
  | fltAckLoWrite (w : Word)
  /-- FAULT_INJECT (R451). -/
  | faultInject (w : Word)
  /-- FLT_LOG_DATA_READ (R447). -/
  | fltLogDataRead
  /-- MW_UNLOCK (R450). -/
  | mwUnlock (w1 w2 w3 : Word)
  /-- DEBUG_ATTACH (R453). -/
  | debugAttach
  /-- TWI_TARGET_WRITE (R457). -/
  | twiTargetWrite (bytes : List Byte) (addr : Option (BitVec 7) := none)
  /-- TWI_TARGET_READ_FETCH (R459). -/
  | twiTargetReadFetch (first : Bool) (n : Nat) (addr : Option (BitVec 7) := none)
  /-- TWI_TARGET_BUSY_NACK (R460). -/
  | twiTargetBusyNack (addr : Option (BitVec 7) := none)
  /-- TWI_TARGET_STRETCH_TIMEOUT (R461). -/
  | twiTargetStretchTimeout
  /-- TWI_TARGET_PROTOCOL_ERROR (R462). -/
  | twiTargetProtocolError (acked : List Byte) (start : Bool) (addr : Option (BitVec 7) := none)
  /-- TWI_TRANSFER_COMPLETE (R464). -/
  | twiTransferComplete (n : Fin 3) (nackAt : Option Nat) (rd : List Byte) (data : Bool := false)
  /-- TWI_STRETCH_TIMEOUT (R466). -/
  | twiStretchTimeout (n : Fin 3) (low : Nat := 0) (released : Bool := false)
  /-- TWI_ARBITRATION_LOST (R467). -/
  | twiArbitrationLost (n : Fin 3)
  /-- TWI_BUS_CLEAR (R468). -/
  | twiBusClear (n : Fin 3) (sdaLow : Bool) (pulses : Option (Fin 9))
  /-- TWI_BUS_CLEAR_RETRY (R468). -/
  | twiBusClearRetry (n : Fin 3) (pulses : Option (Fin 9))
  /-- TWI_CFG_WRITE (R465). -/
  | twiCfgWrite (n : Fin 3) (w : Word)
  /-- VIN_OUT_OF_RANGE (R469). -/
  | vinOutOfRange (vin : BitVec 12)
  /-- VIN_LOSS (R469). -/
  | vinLoss (vin : BitVec 12) (vbat : Bool)
  /-- POWER_ON_RESET (R475). -/
  | powerOnReset (vin : BitVec 12 := 440)
  /-- TEMPERATURE_SAMPLE (R471). -/
  | temperatureSample (t : Int)
  /-- VIN_SAMPLE (R469). -/
  | vinSample (vin : BitVec 12)
  /-- PWR_DOM_REQ_WRITE (R473). -/
  | pwrDomReqWrite (src : ReqSource) (w : Word)
  /-- DOMAIN_RELEASE (R473). -/
  | domainRelease (d : Fin 19) (failing : List (Nat × Nat))
  /-- REGULATOR_FAULT (R474). -/
  | regulatorFault (d : Fin 19)
  /-- RESET_N_ASSERT (R476). -/
  | resetNAssert
  /-- WARM_RESET_WRITE (R476). -/
  | warmResetWrite (w : Word)
  /-- WARM_RESET (R477). -/
  | warmReset
  /-- COLD_RESET (R477). -/
  | coldReset
  /-- RESET_CONDITION_SCAN (R519). -/
  | resetConditionScan (present : List (Fin 64 × Word))
  /-- BOOT_ATTEMPT (R480). -/
  | bootAttempt (img : BootImage)
  /-- BOOT_WAIT_EXPIRE (R481). -/
  | bootWaitExpire
  /-- BOOT_OK (R482). -/
  | bootOk
  /-- BOOT_FAIL_REPORT (R480). -/
  | bootFailReport
  /-- BOOT_WATCHDOG_EXPIRE (R482). -/
  | bootWatchdogExpire
  /-- RELOAD (R485). -/
  | reload
  /-- RELOAD_TIMEOUT (R488). -/
  | reloadTimeout
  /-- CORE_WATCHDOG_EXPIRE (R484). -/
  | coreWatchdogExpire (core : Fin 2)
  /-- SYS_WDT_KICK (R484). -/
  | sysWdtKick (core : Fin 2)
  /-- PTP_PORT_LEAVES_SLAVE (R285). -/
  | ptpPortLeavesSlave (portB : Bool)
  /-- SENSE_BITSTREAM_OVERLOAD (R261). -/
  | senseBitstreamOverload (c : Fin 32) (cur : Bool) (bits : List Bool := [])
  /-- PRBS_CHECKER_LOCK (R336). -/
  | prbsCheckerLock (l : Fin 8) (bits : List Bool := [])
  /-- BUS_MASTER_ENABLE_CHANGE (R369). -/
  | busMasterEnableChange (on : Bool)
  /-- VIN_RETURN (R476). -/
  | vinReturn (vin : BitVec 12 := 1799)
  /-- RESET_N_RELEASE (R476). -/
  | resetNRelease
  /-- CONTROLLER_PROTOCOL_ERROR (R467). -/
  | controllerProtocolError (n : Fin 3) (holdsBus : Bool)
deriving DecidableEq, Repr

end Sys2Proof
end

