-- ==== Sys2Proof/Decode.lean ====
section
/-!
DEFINITION. The table of commands gives no bits, so no word spells a command. The engine's 64-bit bundles do have an
encoding (R115 to R118, R121, R122 to R136): which of them are legal is decided here, for BUNDLE_ILLEGAL, and
`decodeBundle` reads the commands of a legal bundle's slots.
-/

namespace Sys2Proof

/-- The command that a word spells by the table's bits: the table gives no row any bits. -/
def decodeTableWord (_nbits _w : Nat) : Option Instr := none

/-- Some name stands twice (R118). -/
def hasDup : List Nat → Bool
  | [] => false
  | x :: xs => xs.contains x || hasDup xs

/-- Bits `hi` down to `lo` of a number. -/
def fieldOf (w hi lo : Nat) : Nat := (w >>> lo) % 2 ^ (hi + 1 - lo)

/-- Slot X of a bundle (R115). -/
def slotX (b : BitVec 64) : Nat := fieldOf b.toNat 59 36

/-- Slot Y of a bundle. -/
def slotY (b : BitVec 64) : Nat := fieldOf b.toNat 35 18

/-- Slot Z of a bundle. -/
def slotZ (b : BitVec 64) : Nat := fieldOf b.toNat 17 0

/-- The form code of a bundle (R116). -/
def formOf (b : BitVec 64) : Nat := fieldOf b.toNat 63 60

/-- A slot-X encoding is one that R122, R123 list, its reserved fields 0. -/
def xLegal (x : Nat) : Bool :=
  let z := fun hi lo => fieldOf x hi lo = 0
  match fieldOf x 23 18 with
  | 0x00 => z 17 0
  | 0x01 | 0x02 | 0x03 | 0x04 | 0x05 | 0x06 | 0x07 | 0x08 | 0x09 | 0x0A => z 5 0
  | 0x0B => z 17 14 && z 5 0
  | 0x0C | 0x0D | 0x0E | 0x0F => z 9 0
  | 0x10 => true
  | 0x11 => z 17 14
  | 0x12 => z 13 10
  | 0x13 | 0x14 | 0x15 => z 4 0
  | 0x16 => z 17 14 && z 9 0
  | 0x20 => z 5 0
  | 0x21 => z 2 0
  | 0x22 => z 15 15 && z 8 0
  | 0x23 | 0x24 => z 8 0
  | 0x28 => z 6 0
  | 0x29 => z 8 0
  | 0x2A | 0x2B | 0x34 | 0x35 | 0x36 | 0x38 | 0x39 | 0x3A => z 15 14 && z 9 0
  | 0x2C | 0x2D => z 13 0
  | 0x2E => z 14 0
  | 0x30 | 0x31 | 0x32 => z 13 0
  | 0x33 => z 15 0
  | _ => false

/-- The registers (by the codes of R121, 0x40 + i for Ai) that a slot-X encoding names as destinations. -/
def xDests (x : Nat) : List Nat :=
  let d := fieldOf x 17 14
  let a := 0x40 + fieldOf x 17 16
  let pr := 0x40 + 2 * fieldOf x 15 15
  let pp := 0x40 + 2 * fieldOf x 14 14
  match fieldOf x 23 18 with
  | 0x00 | 0x0B | 0x11 | 0x16 => []
  | 0x20 => [0x40 + fieldOf x 15 14]
  | 0x21 | 0x23 | 0x24 => [pr, pr + 1]
  | 0x22 | 0x2E => [0x40, 0x41, 0x42, 0x43]
  | 0x29 => [2 * fieldOf x 17 15, 2 * fieldOf x 17 15 + 1]
  | 0x2C | 0x2D => [pp, pp + 1]
  | 0x2A | 0x2B | 0x30 | 0x31 | 0x32 | 0x33 | 0x38 | 0x39 | 0x3A => [a]
  | 0x34 | 0x35 | 0x36 => [fieldOf x 13 10]
  | _ => [d]

/-- A slot-Y encoding is one that R125, R126 list, its reserved fields 0. -/
def yLegal (y : Nat) : Bool :=
  let z := fun hi lo => fieldOf y hi lo = 0
  match fieldOf y 17 14 with
  | 0x0 => z 13 0
  | 0x1 | 0x3 => z 4 0
  | 0x2 | 0x4 => z 10 10 && z 4 0
  | 0x5 | 0x6 => true
  | 0x7 => z 13 10 && z 4 0
  | _ => false

/-- The registers that a slot-Y encoding names as destinations. -/
def yDests (y : Nat) : List Nat :=
  let d := fieldOf y 13 10
  let p := if fieldOf y 6 5 = 0 then [] else [0x10 + fieldOf y 9 7]
  match fieldOf y 17 14 with
  | 0x1 => d :: p
  | 0x2 => d :: (d + 1) :: p
  | 0x3 | 0x4 | 0x7 => p
  | 0x5 => [d, fieldOf y 6 3, 0x10 + fieldOf y 9 7, 0x10 + fieldOf y 2 0]
  | 0x6 => [2 * fieldOf y 13 11, 2 * fieldOf y 13 11 + 1, 2 * fieldOf y 7 5, 2 * fieldOf y 7 5 + 1,
      0x10 + fieldOf y 10 8, 0x10 + fieldOf y 4 2]
  | _ => []

/-- A 6-bit code names a register (R121). -/
def codeOk (c : Nat) : Bool := c ≤ 0x35

/-- A code that a move may write (R135). -/
def destOk (c : Nat) : Bool := codeOk c && c ≠ 0x31 && c ≠ 0x33

/-- A slot-Z encoding is one that R127 lists, its reserved fields 0 and its operands in range. -/
def zLegal (w : Nat) : Bool :=
  let z := fun hi lo => fieldOf w hi lo = 0
  match fieldOf w 17 13 with
  | 0x00 | 0x05 | 0x08 => z 12 0
  | 0x01 | 0x03 | 0x06 => z 12 12
  | 0x02 => fieldOf w 12 9 ≠ 0xF
  | 0x04 | 0x07 | 0x0E | 0x0F | 0x10 => z 12 4
  | 0x09 => z 12 12 && destOk (fieldOf w 11 6) && codeOk (fieldOf w 5 0)
  | 0x0A => destOk (fieldOf w 12 7)
  | 0x0B | 0x0C => true
  | 0x0D => z 12 2
  | _ => false

/-- The registers that a slot-Z encoding names as destinations. -/
def zDests (w : Nat) : List Nat :=
  match fieldOf w 17 13 with
  | 0x09 => [fieldOf w 11 6]
  | 0x0A => [fieldOf w 12 7]
  | 0x0B => [0x10 + fieldOf w 12 10]
  | 0x0E | 0x0F => [fieldOf w 3 0]
  | _ => []

/-- A bundle's encoding is legal (R116 to R118, R136). -/
def bundleLegal (b : BitVec 64) : Bool :=
  let f := formOf b
  if f = 0xF then
    xLegal (slotX b) && !hasDup (xDests (slotX b) ++ [fieldOf b.toNat 35 32])
  else if 8 ≤ f then false
  else
    (if f % 2 = 1 then xLegal (slotX b) else slotX b = 0)
      && (if f / 2 % 2 = 1 then yLegal (slotY b) else slotY b = 0)
      && (if f / 4 = 1 then zLegal (slotZ b) else slotZ b = 0)
      && !hasDup (xDests (slotX b) ++ yDests (slotY b) ++ zDests (slotZ b))

/-! ## The slots of a bundle as commands -/

/-- A field of an encoding as a bit vector. -/
def bitsAt (w hi lo : Nat) (k : Nat) : BitVec k := BitVec.ofNat k (fieldOf w hi lo)

/-- A bit of an encoding. -/
def bitAt (w i : Nat) : Bool := w.testBit i

/-- The member of a multiply family that bits 17 (sub) and 16 (clr) choose (R123). -/
def ofFamily {α : Type} (x : Nat) (mac msu mpy mpn : α) : α :=
  match bitAt x 17, bitAt x 16 with
  | false, false => mac
  | true, false => msu
  | false, true => mpy
  | true, true => mpn

/-- The instruction of a legal slot X (R122, R123), awaiting its `last` flag; none for NOP. -/
def xInstr (e : Eng) (x : Nat) : Option (Bool → Instr) :=
  let d := bitsAt x 17 14 4
  let s := bitsAt x 13 10 4
  let t := bitsAt x 9 6 4
  let sh := bitsAt x 9 5 5
  let k := bitsAt x 9 0 10
  let dp := bitsAt x 14 12 3
  let cp := bitsAt x 11 9 3
  let ap := bitAt x 15
  match fieldOf x 23 18 with
  | 0x01 => some (.add e d s t)
  | 0x02 => some (.sub e d s t)
  | 0x03 => some (.and e d s t)
  | 0x04 => some (.or e d s t)
  | 0x05 => some (.xor e d s t)
  | 0x06 => some (.min e d s t)
  | 0x07 => some (.max e d s t)
  | 0x08 => some (.asr e d s t)
  | 0x09 => some (.lsr e d s t)
  | 0x0A => some (.lsl e d s t)
  | 0x0B => some (.cmp e s t)
  | 0x0C => some (.mov e d s)
  | 0x0D => some (.neg e d s)
  | 0x0E => some (.abs e d s)
  | 0x0F => some (.not e d s)
  | 0x10 => some (.addi e d s k)
  | 0x11 => some (.cmpi e s k)
  | 0x12 => some (.movi e d k)
  | 0x13 => some (.asri e d s sh)
  | 0x14 => some (.lsri e d s sh)
  | 0x15 => some (.lsli e d s sh)
  | 0x16 => some (.bexp e s)
  | 0x20 =>
    let f := ofFamily x Instr.mac1 .msu1 .mpy1 .mpn1
    some (f e (bitsAt x 15 14 2) (bitsAt x 13 10 4) (bitsAt x 9 6 4))
  | 0x21 =>
    let f := ofFamily x Instr.mac2 .msu2 .mpy2 .mpn2
    some (f e ap (bitsAt x 14 11 4) (bitsAt x 10 7 4) (bitsAt x 6 3 4))
  | 0x22 =>
    let f := ofFamily x Instr.mac4o .msu4o .mpy4o .mpn4o
    some (f e dp cp)
  | 0x23 =>
    let f := ofFamily x Instr.mac4c .msu4c .mpy4c .mpn4c
    some (f e ap dp cp)
  | 0x24 =>
    let f := ofFamily x Instr.mac4j .msu4j .mpy4j .mpn4j
    some (f e ap dp cp)
  | 0x28 => some (.cnv e d (bitsAt x 13 12 2) (bitsAt x 11 7 5))
  | 0x29 => some (.cnv2 e (bitsAt x 17 15 3) (bitAt x 14) (bitsAt x 13 9 5))
  | 0x2A => some (.ald e (bitsAt x 17 16 2) s)
  | 0x2B => some (.alds e (bitsAt x 17 16 2) s)
  | 0x2C => some (.ald2 e (bitsAt x 17 15 3) (bitAt x 14))
  | 0x2D => some (.alds2 e (bitsAt x 17 15 3) (bitAt x 14))
  | 0x2E => some (.aldq e (bitsAt x 17 15 3))
  | 0x30 => some (.aadd e (bitsAt x 17 16 2) (bitsAt x 15 14 2))
  | 0x31 => some (.asub e (bitsAt x 17 16 2) (bitsAt x 15 14 2))
  | 0x32 => some (.amov e (bitsAt x 17 16 2) (bitsAt x 15 14 2))
  | 0x33 => some (.aclr e (bitsAt x 17 16 2))
  | 0x34 => some (.mvfh e (bitsAt x 17 16 2) s)
  | 0x35 => some (.mvfl e (bitsAt x 17 16 2) s)
  | 0x36 => some (.mvfg e (bitsAt x 17 16 2) s)
  | 0x38 => some (.mvth e (bitsAt x 17 16 2) s)
  | 0x39 => some (.mvtl e (bitsAt x 17 16 2) s)
  | 0x3A => some (.mvtg e (bitsAt x 17 16 2) s)
  | _ => none

/-- The addressing mode of a 2-bit code (R125). -/
def modeOf : Nat → AddrMode
  | 0 => .plain
  | 1 => .postMod
  | 2 => .postInc
  | _ => .bitRev

/-- The instruction of a legal slot Y (R125, R126), awaiting its `last` flag; none for NOP. No word it loads is a corrected one. -/
def yInstr (e : Eng) (y : Nat) : Option (Bool → Instr) :=
  let d := bitsAt y 13 10 4
  let n := bitsAt y 9 7 3
  let mode := modeOf (fieldOf y 6 5)
  match fieldOf y 17 14 with
  | 0x1 => some (.ld e d n mode false)
  | 0x2 => some (fun last => .ldp e d n mode last)
  | 0x3 => some (.st e d n mode)
  | 0x4 => some (.stp e d n mode)
  | 0x5 => some (fun last => .ldd e d n (bitsAt y 6 3 4) (bitsAt y 2 0 3) last)
  | 0x6 => some (fun last =>
      .lddp e (bitsAt y 13 11 3) (bitsAt y 10 8 3) (bitsAt y 7 5 3) (bitsAt y 4 2 3) (bitAt y 1) (bitAt y 0) last)
  | 0x7 => some (.modp e n mode)
  | _ => none

/-- The instruction of a legal slot Z (R127), awaiting its `last` flag; none for NOP. -/
def zInstr (e : Eng) (z : Nat) : Option (Bool → Instr) :=
  let target := bitsAt z 11 0 12
  let s := bitsAt z 3 0 4
  match fieldOf z 17 13 with
  | 0x01 => some (.b e target)
  | 0x02 => some (.bcc e (bitsAt z 12 9 4) (bitsAt z 8 0 9))
  | 0x03 => some (.lbr e target)
  | 0x04 => some (.br e s)
  | 0x05 => some (.rte e)
  | 0x06 => some (.rpt e target)
  | 0x07 => some (.rptr e s)
  | 0x08 => some (.tend e)
  | 0x09 => some (.movr e (bitsAt z 11 6 6) (bitsAt z 5 0 6))
  | 0x0A => some (.moviz e (bitsAt z 12 7 6) (bitsAt z 6 0 7))
  | 0x0B => some (.adda e (bitsAt z 12 10 3) (bitsAt z 9 0 10))
  | 0x0C => some (.dmaq e (bitAt z 12) (bitsAt z 11 8 4) (bitsAt z 7 4 4) s)
  | 0x0D => some (.dmaw e (bitsAt z 1 0 2))
  | 0x0E => some (.dmas e s)
  | 0x0F => some (.mbr e s)
  | 0x10 => some (.mbw e s)
  | _ => none

/-- The slots' commands in order, the last one with its flag. -/
def flagLast : List (Bool → Instr) → List Instr
  | [] => []
  | [f] => [f true]
  | f :: fs => f false :: flagLast fs

/-- The commands of a bundle for engine e, none for an illegal encoding (R115 to R117, R136): slots X, Y, Z, or X and the long
immediate; a bundle of no instruction does nothing for a cycle. -/
def decodeBundle (e : Eng) (b : BitVec 64) : Option (List Instr) :=
  if !bundleLegal b then none
  else
    let rest :=
      if formOf b = 0xF then [some (Instr.ldi e (bitsAt b.toNat 35 32 4) (bitsAt b.toNat 31 0 32))]
      else [yInstr e (slotY b), zInstr e (slotZ b)]
    match (xInstr e (slotX b) :: rest).filterMap id with
    | [] => some [.bundleNop e]
    | fs => some (flagLast fs)

end Sys2Proof
end

