-- ==== Sys2Proof/Config.lean ====
section
/-!
DEFINITION. What an implementation fixes and the spec does not give, as opaque constants: nothing in Lean can evaluate
them or prove a value of them. Free values are taken by the State's counter `fresh` (assumption log entry 4).
-/

namespace Sys2Proof.Config

/-- A free 32-bit value, by the counter `fresh` (log entry 4). -/
opaque freeWord : Nat → Word

/-- A free number, by the counter `fresh` (log entry 4). -/
opaque freeNat : Nat → Nat

/-- A free integer, by the counter `fresh` (log entry 4). -/
opaque freeInt : Nat → Int

/-- The interpolation table h[ph][i] of R258, Q1.31: the spec says that it exists and gives no value (log entry 6). -/
opaque ifir : Nat → Nat → Word

/-- The boot ROM's bytes (R391): no contents are given (log entry 6). -/
opaque bootRom : Nat → Byte

/-- The tick-store byte offset of a slot's current block: R394 gives the area and no layout (log entry 6). -/
opaque slotOff : Nat → Nat

/-- Whether a result whose rounding the spec does not state is rounded up, by place (log entry 6): 0 SNS_CH_PNOW, 1 the
learnt z_base, 2 the mean of REF windows, 3 the DCO word, 4 TWN_PHASE and TWN_LINK_DELAY,
5 TDM_STATUS.phase and TDM_RATE, 6 a decimated sense sample. -/
opaque roundsUp : Nat → Bool

/-- The rate of a PTP port's Sync messages in mHz (R291): it is the network's, and the spec gives none (log entry 6). -/
opaque syncRate : Nat → Nat

/-- Media forwards that the partner link holds waiting (R207): the spec says that it can have no room, and gives no size (log entry 6). -/
opaque forwardRoom : Nat

/-- The fixed latency of a MAC in ps (R301): transmit or receive, the port, its speed, its FEC mode (log entry 6). -/
opaque macLatPs : Bool → Nat → Nat → Nat → Nat

/-- The revision ID of the PCI Express function (R339): none is given (log entry 6). -/
opaque pciRevision : Nat

/-- What firmware writes into a relay message for a request to a two-wire controller that the module does not own (R217, R229):
no layout is given (log entry 6). -/
opaque relayBytes : List Byte → List Byte

/-- The reason byte of a REFUSE message (R229 gives no codes): 0 a checksum differs, 1 a member is pending, 2 it is not valid (log entry 6). -/
opaque refuseCode : Nat → Byte

/-- The bytes of a dynamics unit's state in a state-transfer message (R229, R235): gr_s, mean square, history; no layout is
given (log entry 6). -/
opaque dynBytes : Int → Nat → List Int → List Byte

/-- The state that such bytes spell (log entry 6). -/
opaque dynState : List Byte → Int × Nat × List Int

end Sys2Proof.Config
end

