-- ==== Sys2Proof/Machine/P256.lean ====
section
/-!
DEFINITION. Verification of an ECDSA signature over the curve P-256 (FIPS 186-4; R479): points in Jacobian coordinates, numbers modulo
the field's prime and modulo the order of the group.
-/

namespace Sys2Proof.Machine

/-- The prime of the field. -/
def p256P : Nat := 0xffffffff00000001000000000000000000000000ffffffffffffffffffffffff

/-- The order of the group. -/
def p256N : Nat := 0xffffffff00000000ffffffffffffffffbce6faada7179e84f3b9cac2fc632551

/-- The curve's constant b; a is -3. -/
def p256B : Nat := 0x5ac635d8aa3a93e7b3ebbd55769886bc651d06b0cc53b0f63bce3c3e27d2604b

/-- The coordinates of the base point. -/
def p256Gx : Nat := 0x6b17d1f2e12c4247f8bce6e563a440f277037d812deb33a0f4a13945d898c296
def p256Gy : Nat := 0x4fe342e2fe1a7f9b8ee7eb4a7c0f9e162bce33576b315ececbb6406837bf51f5

/-- A difference modulo `m` of numbers below it. -/
def subMod (m a b : Nat) : Nat := (a + m - b) % m

/-- The power x^e modulo m, with the low `k` bits of e. -/
def powMod (m x e : Nat) : Nat → Nat
  | 0 => 1 % m
  | k + 1 => let r := powMod m x (e / 2) k; let r2 := r * r % m; if e % 2 = 1 then r2 * x % m else r2

/-- The inverse of a number modulo a prime of 256 bits: its power to m - 2. -/
def invMod (m x : Nat) : Nat := powMod m x (m - 2) 256

/-- A point in Jacobian coordinates; the neutral point has z = 0. -/
structure JPoint where
  x : Nat
  y : Nat
  z : Nat

/-- The neutral point. -/
def JPoint.zero : JPoint := ⟨1, 1, 0⟩

/-- Twice a point. -/
def JPoint.dbl (q : JPoint) : JPoint :=
  if q.z = 0 || q.y = 0 then .zero
  else
    let m := p256P
    let d := q.z * q.z % m
    let g := q.y * q.y % m
    let b := q.x * g % m
    let al := 3 * subMod m q.x d * ((q.x + d) % m) % m
    let x := subMod m (al * al % m) (8 * b % m)
    ⟨x, subMod m (al * subMod m (4 * b % m) x % m) (8 * g * g % m), 2 * q.y * q.z % m⟩

/-- The sum of two points. -/
def JPoint.add (q r : JPoint) : JPoint :=
  if q.z = 0 then r
  else if r.z = 0 then q
  else
    let m := p256P
    let z1 := q.z * q.z % m
    let z2 := r.z * r.z % m
    let u1 := q.x * z2 % m
    let s1 := q.y * z2 % m * r.z % m
    let h := subMod m (r.x * z1 % m) u1
    let t := subMod m (r.y * z1 % m * q.z % m) s1
    if h = 0 then (if t = 0 then q.dbl else .zero)
    else
      let h2 := h * h % m
      let h3 := h2 * h % m
      let v := u1 * h2 % m
      let x := subMod m (subMod m (t * t % m) h3) (2 * v % m)
      ⟨x, subMod m (t * subMod m v x % m) (s1 * h3 % m), h * q.z % m * r.z % m⟩

/-- The multiple of a point by the low `k` bits of a number. -/
def JPoint.mul (q : JPoint) (e : Nat) : Nat → JPoint
  | 0 => .zero
  | k + 1 => let r := (q.mul (e / 2) k).dbl; if e % 2 = 1 then r.add q else r

/-- A public key: a point of the curve other than the neutral one. -/
def keyValid (q : Nat × Nat) : Bool :=
  let m := p256P
  q.1 < m && q.2 < m && q.2 * q.2 % m = (q.1 * q.1 % m * q.1 + (m - 3) * q.1 + p256B) % m

/-- The signature (r, s) over a digest verifies under a public key. -/
def ecdsaOk (q : Nat × Nat) (digest r s : Nat) : Bool :=
  let n := p256N
  if !keyValid q || r = 0 || n ≤ r || s = 0 || n ≤ s then false
  else
    let w := invMod n s
    let c := (JPoint.mul ⟨p256Gx, p256Gy, 1⟩ (digest * w % n) 256).add (JPoint.mul ⟨q.1, q.2, 1⟩ (r * w % n) 256)
    if c.z = 0 then false
    else
      let i := invMod p256P c.z
      c.x * i % p256P * i % p256P % n = r

end Sys2Proof.Machine
end

