-- ==== Sys2Proof/Machine/RegTable.lean ====
section
/-!
DEFINITION. The register file's layout, from the register tables of every chapter and spec/19_register_index.md
(R516): the BAR0 offset of every register (`R.<NAME>`), every field of it (`F.<NAME>_<field>`), and for each
register its type masks (R9) and its reset word.
-/

namespace Sys2Proof

/-- A field of a register: the register's offset from 0x4000_0000, its highest and its lowest bit. -/
structure Fld where
  reg : Nat
  hi : Nat
  lo : Nat
deriving DecidableEq, Repr

/-- One row of a block's register table: the offset in the block, the distance and number of instances, the reset
words by block instance (one for all where the list has one), and the masks of the bits of types rw, w1c, w1s, wo, rc (R9). -/
structure RegDef where
  off : Nat
  stride : Nat
  count : Nat
  reset : List Nat
  rw : Word
  w1c : Word
  w1s : Word
  wo : Word
  rc : Word
deriving DecidableEq, Repr

/-- A register whose instances share one reset word. -/
def mkReg (off stride count reset rw w1c w1s wo rc : Nat) : RegDef :=
  ⟨off, stride, count, [reset], word rw, word w1c, word w1s, word wo, word rc⟩

/-- A register whose reset word depends on the block instance. -/
def mkRegs (off : Nat) (resets : List Nat) (rw w1c w1s wo rc : Nat) : RegDef :=
  ⟨off, 0, 1, resets, word rw, word w1c, word w1s, word wo, word rc⟩

/-- The power domain of a block: one of the 19 by number (R472), or the cluster of the instance. -/
inductive BlockDomain where
  | fixed (d : Nat)
  | perCluster
deriving DecidableEq, Repr

/-- A register block: its offset, the distance and number of instances, its domain and its registers (R516). -/
structure BlockDef where
  base : Nat
  stride : Nat
  count : Nat
  dom : BlockDomain
  regs : List RegDef
deriving DecidableEq, Repr

/-- Layout of the SYS block's registers (chapter 17, R516). -/
def regsSYS : List RegDef :=
  [mkReg 0x0 0x0 1 0x0 0x0 0x0 0x0 0x0 0x0,
    mkReg 0x4 0x0 1 0x0 0x0 0x0 0x0 0x0 0x0,
    mkReg 0x8 0x0 1 0x0 0x0 0x0 0x0 0x0 0x0,
    mkReg 0xC 0x0 1 0x0 0x1 0x0 0x0 0x0 0x0,
    mkReg 0x10 0x0 1 0x0 0x0 0x0 0x1 0xFFFF0000 0x0,
    mkReg 0x14 0x0 1 0x1 0x0 0xFF 0x0 0x0 0x0,
    mkReg 0x20 0x0 1 0x0 0x0 0x0 0x0 0x0 0x0,
    mkReg 0x24 0x0 1 0x0 0x4 0x0 0x3 0x0 0x0,
    mkReg 0x28 0x0 1 0x0 0x0 0x0 0x0 0x0 0x0,
    mkReg 0x2C 0x0 1 0xA 0xFF 0x0 0x0 0x0 0x0,
    mkReg 0x30 0x0 1 0x0 0x0 0x0 0x0 0x0 0x0,
    mkReg 0x34 0x0 1 0x0 0x0 0x0 0x0 0x0 0x0]
  ++ [mkReg 0x38 0x0 1 0x0 0x0 0x0 0x0 0x0 0x0,
    mkReg 0x40 0x0 1 0x0 0x0 0x0 0x1 0x0 0x0,
    mkReg 0x44 0x0 1 0x0 0x0 0x0 0x0 0x0 0x0,
    mkReg 0x48 0x0 1 0x7D0 0x3FFF 0x0 0x0 0x0 0x0,
    mkReg 0x4C 0x0 1 0x0 0x0 0x0 0x0 0x1 0x0,
    mkReg 0x50 0x0 1 0x0 0x0 0x0 0x0 0x0 0xFFFFFFFF]

/-- Layout of the PWR block's registers (chapter 17, R516). -/
def regsPWR : List RegDef :=
  [mkReg 0x0 0x0 1 0x7FFFF 0x7FFFF 0x0 0x0 0x0 0x0,
    mkReg 0x4 0x0 1 0x0 0x0 0x0 0x0 0x0 0x0,
    mkReg 0x8 0x0 1 0x0 0x0 0x0 0x0 0x0 0x0,
    mkReg 0xC 0x0 1 0x0 0x0 0x0 0x0 0x0 0x0,
    mkReg 0x10 0x0 1 0x0 0x0 0x300 0x0 0x0 0x0,
    mkReg 0x14 0x0 1 0x0 0x0 0x0 0x0 0x0 0x0,
    mkReg 0x18 0x0 1 0x0 0x0 0x0 0x0 0x0 0x0,
    mkReg 0x1C 0x0 1 0x0 0x0 0x0 0x0 0x0 0x0,
    mkReg 0x20 0x0 1 0x6E 0xFF 0x0 0x0 0x0 0x0,
    mkReg 0x24 0x0 1 0x0 0x0 0x0 0x0 0x0 0x0,
    mkReg 0x30 0x0 1 0x0 0x0 0x0 0x0 0x0 0xFFFFFFFF,
    mkReg 0x34 0x0 1 0x0 0x0 0x0 0x0 0x0 0xFFFFFFFF]

/-- Layout of the RTC block's registers (chapter 09, R516). -/
def regsRTC : List RegDef :=
  [mkReg 0x0 0x0 1 0x0 0x0 0x0 0x1 0xFFFF0000 0x0,
    mkReg 0x4 0x0 1 0x4 0x0 0x4 0x0 0x0 0x0,
    mkReg 0x8 0x0 1 0x0 0x0 0x0 0x0 0x0 0x0,
    mkReg 0xC 0x0 1 0x0 0x0 0x0 0x0 0x0 0x0,
    mkReg 0x10 0x0 1 0x0 0xFFFFFFFF 0x0 0x0 0x0 0x0,
    mkReg 0x14 0x0 1 0x0 0xFF 0x0 0x0 0x0 0x0,
    mkReg 0x18 0x0 1 0xC1100 0x0 0x0 0x0 0x0 0x0,
    mkReg 0x1C 0x0 1 0x0 0x0 0x0 0x0 0x0 0x0,
    mkReg 0x20 0x0 1 0x0 0xFFFF 0x0 0x0 0x0 0x0,
    mkReg 0x24 0x0 1 0x0 0x0 0x0 0x0 0x0 0x0,
    mkReg 0x28 0x0 1 0x0 0x0 0x0 0x0 0x0 0x0]

/-- Layout of the FLT block's registers (chapter 15, R516). -/
def regsFLT : List RegDef :=
  [mkReg 0x0 0x0 1 0x0 0x0 0x0 0x0 0x0 0x0,
    mkReg 0x8 0x0 1 0x0 0x0 0x0 0x0 0x0 0x0,
    mkReg 0xC 0x0 1 0x0 0x0 0x0 0x0 0x0 0x0,
    mkReg 0x10 0x0 1 0x0 0x0 0x0 0x0 0x0 0x0,
    mkReg 0x14 0x0 1 0x0 0x0 0x0 0x0 0x0 0x0,
    mkReg 0x18 0x0 1 0x0 0x0 0x0 0x0 0x0 0x0,
    mkReg 0x1C 0x0 1 0x0 0x0 0x0 0x0 0x0 0x0,
    mkReg 0x20 0x0 1 0x0 0x0 0x0 0x0 0xFFFFFFFF 0x0,
    mkReg 0x24 0x0 1 0x0 0x0 0x0 0x0 0xFFFFFFFF 0x0,
    mkReg 0x28 0x0 1 0x0 0x0 0x0 0x0 0x0 0x0,
    mkReg 0x30 0x0 1 0x6AD62699 0xFFFFFFFF 0x0 0x0 0x0 0x0,
    mkReg 0x34 0x0 1 0x6F6799 0xFFFFFF 0x0 0x0 0x0 0x0]
  ++ [mkReg 0x38 0x0 1 0x0 0x0 0x0 0x0 0x0 0x0,
    mkReg 0x3C 0x0 1 0x0 0x0 0x0 0x0 0x0 0x0,
    mkReg 0x40 0x0 1 0x3210 0x7777 0x0 0x0 0x0 0x0,
    mkReg 0x48 0x0 1 0x0 0x0 0xFFFFFFFF 0x0 0x0 0x0,
    mkReg 0x4C 0x0 1 0x0 0x0 0xFFFFFFFF 0x0 0x0 0x0,
    mkReg 0x50 0x0 1 0x0 0x0 0xFFFFFFFF 0x0 0x0 0x0,
    mkReg 0x54 0x0 1 0x0 0x0 0xFFFFFFFF 0x0 0x0 0x0,
    mkReg 0x58 0x0 1 0x0 0x323F 0x0 0x100 0x0 0x0,
    mkReg 0x5C 0x0 1 0x0 0xFFFFFFFF 0x0 0x0 0x0 0x0,
    mkReg 0x60 0x0 1 0x0 0x0 0x0 0x0 0x0 0x0,
    mkReg 0x64 0x0 1 0x0 0x73F 0x0 0x0 0x0 0x0,
    mkReg 0x68 0x0 1 0x0 0x0 0x0 0x0 0x0 0x0]
  ++ [mkReg 0x70 0x0 1 0x0 0x0 0x0 0x0 0x0 0xFFFFFFFF,
    mkReg 0x74 0x0 1 0x0 0x0 0x0 0x0 0x0 0xFFFFFFFF,
    mkReg 0x78 0x0 1 0x0 0x0 0x0 0x0 0x0 0xFFFFFFFF,
    mkReg 0x7C 0x0 1 0x0 0x0 0x0 0x0 0x0 0xFFFFFFFF]

/-- Layout of the TCK block's registers (chapter 01, R516). -/
def regsTCK : List RegDef :=
  [mkReg 0x0 0x0 1 0x0 0x1 0x0 0x0 0x0 0x0,
    mkReg 0x4 0x0 1 0x205 0x1FF1F0F 0x0 0x0 0x0 0x0,
    mkReg 0x8 0x0 1 0x300 0x0 0x1C 0x0 0x0 0x0,
    mkReg 0x10 0x0 1 0x0 0x0 0x0 0x0 0x0 0x0,
    mkReg 0x14 0x0 1 0x0 0x0 0x0 0x0 0x0 0x0,
    mkReg 0x18 0x0 1 0x0 0x0 0x0 0x0 0x0 0x0,
    mkReg 0x20 0x0 1 0x186A0 0x0 0x0 0x0 0x0 0x0,
    mkReg 0x24 0x0 1 0x14585 0x0 0x0 0x0 0x0 0x0,
    mkReg 0x30 0x0 1 0x0 0x0 0x0 0x0 0x0 0xFFFFFFFF,
    mkReg 0x34 0x0 1 0x0 0x0 0x0 0x0 0x0 0xFFFFFFFF,
    mkReg 0x38 0x0 1 0x0 0x0 0x0 0x0 0x0 0xFFFFFFFF,
    mkReg 0x40 0x0 1 0x0 0xFFFF 0x0 0x0 0x0 0x0]
  ++ [mkReg 0x48 0x0 1 0x0 0xFFFFFFFF 0x0 0x0 0x0 0x0,
    mkReg 0x4C 0x0 1 0x0 0xFFFFFFFF 0x0 0x0 0x0 0x0]

/-- Layout of the FAB block's registers (chapter 02, R516). -/
def regsFAB : List RegDef :=
  [mkReg 0x0 0x0 1 0x3 0x3 0x0 0x4 0x0 0x0,
    mkReg 0x4 0x0 1 0x0 0x0 0x78 0x0 0x0 0x0,
    mkReg 0x8 0x0 1 0x0 0x0 0x0 0x0 0x0 0x0,
    mkReg 0xC 0x0 1 0x600000 0x0 0x0 0x0 0x0 0x0,
    mkReg 0x10 0x4 3 0xFFFFFFFF 0x0 0x0 0x0 0x0 0x0,
    mkReg 0x20 0x4 3 0x0 0x0 0x0 0xFFFFFFFF 0x0 0x0,
    mkReg 0x30 0x4 3 0x0 0x0 0x0 0xFFFFFFFF 0x0 0x0,
    mkReg 0x40 0x0 1 0x2 0x1F 0x0 0x0 0x0 0x0,
    mkReg 0x44 0x0 1 0x0 0x0 0x0 0x0 0x0 0x0,
    mkReg 0x48 0x0 1 0x0 0x0 0x0 0x0 0x0 0xFFFFF,
    mkReg 0x50 0x0 1 0x0 0x0 0x0 0x0 0x0 0x0,
    mkReg 0x54 0x0 1 0x0 0x0 0x0 0x0 0x0 0x0]
  ++ [mkReg 0x58 0x0 1 0x0 0x0 0x0 0x0 0x0 0x0,
    mkReg 0x5C 0x0 1 0x0 0x0 0x0 0x0 0x0 0x0,
    mkReg 0x60 0x0 1 0x0 0x0 0x0 0x0 0x0 0x0,
    mkReg 0x70 0x0 1 0x0 0x0 0x0 0x0 0x0 0xFFFFFFFF,
    mkReg 0x74 0x0 1 0x0 0x0 0x0 0x0 0x0 0xFFFFFFFF,
    mkReg 0x78 0x0 1 0x0 0x0 0x0 0x0 0x0 0xFFFFFFFF,
    mkReg 0x7C 0x0 1 0x0 0x0 0x0 0x0 0x0 0xFFFFFFFF,
    mkReg 0x80 0x0 1 0x0 0x0 0x0 0x0 0x0 0xFFFFFFFF,
    mkReg 0x84 0x0 1 0x0 0x0 0x0 0x0 0x0 0xFFFFFFFF,
    mkReg 0x88 0x0 1 0x0 0x0 0x0 0x0 0x0 0xFFFFFFFF,
    mkReg 0x8C 0x0 1 0x0 0x0 0x0 0x0 0x0 0xFFFFFFFF]

/-- Layout of the ENG block's registers (chapter 03, R516). -/
def regsENG : List RegDef :=
  [mkReg 0x0 0x0 1 0x0 0x0 0x0 0x0 0x0 0x0,
    mkReg 0x4 0x0 1 0x0 0x0 0x0 0x0 0x0 0x0,
    mkReg 0x10 0x0 1 0x0 0x0 0x0 0x0 0x0 0xFFFFFFFF,
    mkReg 0x14 0x0 1 0x0 0x0 0x0 0x0 0x0 0xFFFFFFFF,
    mkReg 0x18 0x0 1 0x0 0x0 0x0 0x0 0x0 0xFFFFFFFF,
    mkReg 0x1C 0x0 1 0x0 0x0 0x0 0x0 0x0 0xFFFFFFFF,
    mkReg 0x20 0x0 1 0x0 0x0 0x0 0x0 0x0 0xFFFFFFFF,
    mkReg 0x24 0x0 1 0x0 0x0 0x0 0x0 0x0 0x0,
    mkReg 0x28 0x0 1 0x0 0x0 0x0 0x0 0x0 0x1FFF,
    mkReg 0x30 0x0 1 0x0 0xFFFFFFFF 0x0 0x0 0x0 0x0,
    mkReg 0x34 0x0 1 0x0 0x0 0x0 0x0 0x0 0x0,
    mkReg 0x38 0x0 1 0x0 0x0 0x6 0x0 0x0 0x0]

/-- Layout of the MIX block's registers (chapter 05, R516). -/
def regsMIX : List RegDef :=
  [mkReg 0x0 0x0 1 0x0 0x1 0x0 0x0 0x0 0x0,
    mkReg 0x4 0x0 1 0x0 0x0 0x7 0x0 0x0 0x0,
    mkReg 0x8 0x0 1 0x10000 0x0 0x0 0x0 0x0 0x0,
    mkReg 0xC 0x0 1 0x0 0x0 0x0 0x0 0x0 0x0,
    mkReg 0x10 0x0 1 0x0 0x0 0x0 0x0 0x0 0x0,
    mkReg 0x20 0x0 1 0x0 0xFFFF 0x0 0x0 0x0 0x0,
    mkReg 0x40 0x0 1 0x0 0x0 0x200 0x0 0x0 0x0,
    mkReg 0x44 0x0 1 0x0 0x0 0x0 0x0 0x0 0x0,
    mkReg 0x48 0x0 1 0x0 0x0 0x0 0x0 0x0 0x0,
    mkReg 0x50 0x0 1 0x0 0x0 0x0 0x0 0x0 0x0,
    mkReg 0x54 0x0 1 0x0 0x0 0x0 0x0 0x0 0x0,
    mkReg 0x58 0x0 1 0x0 0x0 0x0 0x0 0x0 0x0]
  ++ [mkReg 0x60 0x0 1 0x0 0x0 0x0 0x0 0x0 0xFFFFFFFF,
    mkReg 0x64 0x0 1 0x0 0x0 0x0 0x0 0x0 0xFFFFFFFF,
    mkReg 0x68 0x0 1 0x0 0x0 0x0 0x0 0x0 0xFFFFFFFF,
    mkReg 0x6C 0x0 1 0x0 0x0 0x0 0x0 0x0 0xFFFFFFFF,
    mkReg 0x70 0x0 1 0x0 0x0 0x0 0x0 0x0 0xFFFFFFFF,
    mkReg 0x74 0x0 1 0x0 0x0 0x0 0x0 0x0 0xFFFFFFFF]

/-- Layout of the DYN block's registers (chapter 05, R516). -/
def regsDYN : List RegDef :=
  [mkReg 0x0 0x0 1 0x0 0x1 0x0 0x0 0x0 0x0,
    mkReg 0x4 0x0 1 0x0 0x0 0x7 0x0 0x0 0x0,
    mkReg 0x8 0x0 1 0x0 0x0 0x0 0x0 0x0 0x0,
    mkReg 0x10 0x0 1 0x0 0x1FF 0x0 0x0 0x0 0x0,
    mkReg 0x14 0x0 1 0x0 0x0 0x0 0x0 0x0 0x0,
    mkReg 0x20 0x0 1 0x0 0x0 0x0 0x0 0x0 0xFFFFFFFF,
    mkReg 0x24 0x0 1 0x0 0x0 0x0 0x0 0x0 0xFFFFFFFF]

/-- Layout of the RTE block's registers (chapter 05, R516). -/
def regsRTE : List RegDef :=
  [mkReg 0x0 0x0 1 0x0 0x1 0x0 0x0 0x0 0x0,
    mkReg 0x4 0x0 1 0x0 0x0 0xF 0x0 0x0 0x0,
    mkReg 0x8 0x0 1 0x0 0x0 0x0 0x0 0x0 0x0,
    mkReg 0xC 0x0 1 0x0 0x0 0x0 0x0 0x0 0x0,
    mkReg 0x20 0x0 1 0x0 0xFFFFF000 0x0 0x0 0x0 0x0,
    mkReg 0x24 0x0 1 0x4 0xF 0x0 0x0 0x0 0x0,
    mkReg 0x28 0x0 1 0x2EE20 0x3FFFF 0x0 0x0 0x0 0x0,
    mkReg 0x2C 0x0 1 0x0 0xFFF 0x0 0x0 0x0 0x0,
    mkReg 0x40 0x0 1 0x0 0x0 0x0 0x0 0x0 0xFFFFFFFF,
    mkReg 0x44 0x0 1 0x0 0x0 0x0 0x0 0x0 0xFFFFFFFF,
    mkReg 0x48 0x0 1 0x0 0x0 0x0 0x0 0x0 0xFFFFFFFF,
    mkReg 0x4C 0x0 1 0x0 0x0 0x0 0x0 0x0 0xFFFFFFFF]

/-- Layout of the STR block's registers (chapter 06, R516). -/
def regsSTR : List RegDef :=
  [mkReg 0x0 0x0 1 0x2 0x3 0x0 0x0 0x0 0x0,
    mkReg 0x4 0x0 1 0x0 0x0 0xF 0x0 0x0 0x0,
    mkReg 0x8 0x0 1 0x0 0x0 0x0 0x0 0x0 0x0,
    mkReg 0xC 0x0 1 0x0 0x0 0x0 0x0 0x0 0x0,
    mkReg 0x10 0x0 1 0x0 0x0 0x0 0x0 0x0 0x0,
    mkReg 0x20 0x4 3 0x0 0x0 0x0 0x0 0x0 0x0,
    mkReg 0x40 0x0 1 0x0 0x0 0x0 0x0 0x0 0xFFFFFFFF,
    mkReg 0x44 0x0 1 0x0 0x0 0x0 0x0 0x0 0xFFFFFFFF,
    mkReg 0x48 0x0 1 0x0 0x0 0x0 0x0 0x0 0xFFFFFFFF,
    mkReg 0x4C 0x0 1 0x0 0x0 0x0 0x0 0x0 0xFFFFFFFF,
    mkReg 0x50 0x0 1 0x0 0x0 0x0 0x0 0x0 0xFFFFFFFF,
    mkReg 0x54 0x0 1 0x0 0x0 0x0 0x0 0x0 0xFFFFFFFF]
  ++ [mkReg 0x400 0x4 256 0x0 0x0 0x0 0x0 0x0 0xFFFFFFFF,
    mkReg 0x10000 0x40 512 0x0 0x0 0x0 0x0 0x0 0x0,
    mkReg 0x10004 0x40 512 0x0 0x0 0x0 0x0 0x0 0xFFFFFFFF,
    mkReg 0x10008 0x40 512 0x0 0x0 0x0 0x0 0x0 0xFFFFFFFF,
    mkReg 0x1000C 0x40 512 0x0 0x0 0x0 0x0 0x0 0xFFFFFFFF,
    mkReg 0x10010 0x40 512 0x0 0x0 0x0 0x0 0x0 0xFFFFFFFF,
    mkReg 0x10014 0x40 512 0x0 0x0 0x0 0x0 0x0 0xFFFFFFFF,
    mkReg 0x10018 0x40 512 0x0 0x0 0x0 0x0 0x0 0xFFFFFFFF,
    mkReg 0x1001C 0x40 512 0x0 0x0 0x0 0x0 0x0 0xFFFFFFFF,
    mkReg 0x10020 0x40 512 0x0 0x0 0x0 0x0 0x0 0xFFFFFFFF,
    mkReg 0x10024 0x40 512 0x0 0x0 0x0 0x0 0x0 0xFFFFFFFF,
    mkReg 0x10028 0x40 512 0x0 0x0 0x0 0x0 0x0 0xFFFFFFFF]
  ++ [mkReg 0x20000 0x10 512 0x0 0x0 0x0 0x0 0x0 0x0,
    mkReg 0x20004 0x10 512 0x0 0x0 0x0 0x0 0x0 0xFFFFFFFF,
    mkReg 0x20008 0x10 512 0x0 0x0 0x0 0x0 0x0 0xFFFFFFFF,
    mkReg 0x2000C 0x10 512 0x0 0x0 0x0 0x0 0x0 0xFFFFFFFF]

/-- Layout of the TWN block's registers (chapter 07, R516). -/
def regsTWN : List RegDef :=
  [mkReg 0x0 0x0 1 0x1F 0x1F 0x0 0x0 0x0 0x0,
    mkReg 0x4 0x0 1 0x0 0x0 0x3F0000 0x0 0x0 0x0,
    mkReg 0x8 0x0 1 0x20003C 0xFF0FFF 0x0 0x0 0x0 0x0,
    mkReg 0xC 0x0 1 0x4814 0xFFFF 0x0 0x0 0x0 0x0,
    mkReg 0x10 0x0 1 0x0 0x0 0x0 0x1 0x0 0x0,
    mkReg 0x18 0x0 1 0x0 0xFFFFFFFF 0x0 0x0 0x0 0x0,
    mkReg 0x1C 0x0 1 0x0 0xFFFFFFFF 0x0 0x0 0x0 0x0,
    mkReg 0x20 0x0 1 0x0 0x0 0x0 0x0 0x0 0x0,
    mkReg 0x24 0x0 1 0x0 0x0 0x0 0x0 0x0 0x0,
    mkReg 0x28 0x0 1 0x0 0x0 0x0 0x0 0x0 0x0,
    mkReg 0x2C 0x0 1 0x0 0x0 0x0 0x0 0x0 0x0,
    mkReg 0x30 0x0 1 0x0 0x0 0x0 0x0 0x0 0x0]
  ++ [mkReg 0x34 0x0 1 0x0 0x0 0x0 0x0 0x0 0x0,
    mkReg 0x40 0x0 1 0x0 0x0 0x0 0x0 0x0 0x0,
    mkReg 0x44 0x0 1 0x0 0x0 0x0 0x0 0x0 0x0,
    mkReg 0x48 0x0 1 0x0 0x0 0x0 0x0 0x0 0x0,
    mkReg 0x4C 0x0 1 0x0 0x0 0x0 0x0 0x0 0x0,
    mkReg 0x50 0x0 1 0x0 0x0 0x0 0x0 0x0 0x0,
    mkReg 0x54 0x0 1 0x0 0x0 0x0 0x0 0x0 0x0,
    mkReg 0x58 0x0 1 0x0 0x0 0x0 0x0 0x0 0x0,
    mkReg 0x60 0x0 1 0x0 0x0 0x0 0x0 0x0 0xFFFFFFFF,
    mkReg 0x64 0x0 1 0x0 0x0 0x0 0x0 0x0 0xFFFFFFFF,
    mkReg 0x68 0x0 1 0x0 0x0 0x0 0x0 0x0 0xFFFFFFFF,
    mkReg 0x6C 0x0 1 0x0 0x0 0x0 0x0 0x0 0xFFFFFFFF]
  ++ [mkReg 0x70 0x0 1 0x0 0x0 0x0 0x0 0x0 0xFFFFFFFF,
    mkReg 0x74 0x0 1 0x0 0x0 0x0 0x0 0x0 0xFFFFFFFF,
    mkReg 0x78 0x0 1 0x0 0x0 0x0 0x0 0x0 0xFFFFFFFF,
    mkReg 0x7C 0x0 1 0x0 0x0 0x0 0x0 0x0 0xFFFFFFFF,
    mkReg 0x80 0x0 1 0x0 0x0 0x0 0x0 0x0 0xFFFFFFFF,
    mkReg 0x84 0x0 1 0x0 0x0 0x0 0x0 0x0 0xFFFFFFFF,
    mkReg 0x88 0x0 1 0x0 0x0 0x0 0x0 0x0 0xFFFFFFFF,
    mkReg 0x8C 0x0 1 0x0 0x0 0x0 0x0 0x0 0xFFFFFFFF]

/-- Layout of the MOD block's registers (chapter 08, R516). -/
def regsMOD : List RegDef :=
  [mkReg 0x0 0x0 1 0x0 0x1 0x0 0x0 0x0 0x0,
    mkReg 0x4 0x0 1 0x0 0x0 0xE8 0x0 0x0 0x0,
    mkReg 0x8 0x0 1 0x261A80 0x3FFFFF 0x0 0x0 0x0 0x0,
    mkReg 0xC 0x0 1 0x5B361E6 0x0 0x0 0x0 0x0 0x0,
    mkReg 0x10 0x0 1 0x0 0x3F 0x0 0x0 0x0 0x0,
    mkReg 0x14 0x0 1 0xC5 0x3FF 0x0 0x0 0x0 0x0,
    mkReg 0x18 0x0 1 0x0 0xFFFFFFFF 0x0 0x0 0x0 0x0,
    mkReg 0x1C 0x0 1 0x0 0xFFFFFFFF 0x0 0x0 0x0 0x0,
    mkReg 0x20 0x0 1 0x0 0x0 0x0 0x0 0x0 0x0,
    mkReg 0x40 0x0 1 0x0 0x3FF 0x0 0x0 0x0 0x0,
    mkReg 0x44 0x0 1 0x0 0x0 0x0 0x0 0x0 0x0,
    mkReg 0x100 0x20 32 0x0 0xFFF3FFF 0x0 0x0 0x0 0x0]
  ++ [mkReg 0x104 0x20 32 0xF6 0x3FF 0x0 0x0 0x0 0x0,
    mkReg 0x108 0x20 32 0x40000000 0xFFFFFFFF 0x0 0x0 0x0 0x0,
    mkReg 0x10C 0x20 32 0x8000000 0xFFFFFFFF 0x0 0x0 0x0 0x0,
    mkReg 0x110 0x20 32 0x0 0x0 0x20 0x0 0x0 0x0,
    mkReg 0x114 0x20 32 0x0 0x0 0x0 0x1 0x0 0x0,
    mkReg 0x118 0x20 32 0x0 0x0 0x0 0x0 0x0 0xFFFFFFFF,
    mkReg 0x11C 0x20 32 0x0 0x0 0x0 0x0 0x0 0xFFFFFFFF,
    mkReg 0x600 0x4 32 0x0 0x0 0x0 0x0 0x0 0xFFFFFFFF]

/-- Layout of the SNS block's registers (chapter 08, R516). -/
def regsSNS : List RegDef :=
  [mkReg 0x0 0x0 1 0x0 0x1 0x0 0x0 0x0 0x0,
    mkReg 0x4 0x0 1 0x19 0xF3F 0x0 0x0 0x0 0x0,
    mkReg 0x8 0x0 1 0x0 0x0 0x7 0x0 0x0 0x0,
    mkReg 0xC 0x0 1 0x100 0x0 0x0 0x0 0x0 0x0,
    mkReg 0x100 0x80 32 0x0 0x1FFF1FFF 0x0 0x0 0x0 0x0,
    mkReg 0x104 0x80 32 0x30D40 0xFFFFF 0x0 0x0 0x0 0x0,
    mkReg 0x108 0x80 32 0xC350 0xFFFFF 0x0 0x0 0x0 0x0,
    mkReg 0x10C 0x80 32 0x1E000 0x3FFFF 0x0 0x0 0x0 0x0,
    mkReg 0x110 0x80 32 0x4B00000 0xFFFF0003 0x0 0x0 0x0 0x0,
    mkReg 0x114 0x80 32 0x147AE14 0xFFFFFFFF 0x0 0x0 0x0 0x0,
    mkReg 0x118 0x80 32 0xA1 0x3FF 0x0 0x1000 0x0 0x0,
    mkReg 0x11C 0x80 32 0x138803E8 0xFFFFFFFF 0x0 0x0 0x0 0x0]
  ++ [mkReg 0x120 0x80 32 0x0 0xFFFFFF 0x0 0x0 0x0 0x0,
    mkReg 0x124 0x80 32 0x0 0x0 0x0 0x0 0x0 0x0,
    mkReg 0x128 0x80 32 0x0 0x0 0x0 0x0 0x0 0x0,
    mkReg 0x12C 0x80 32 0x0 0x0 0xF00 0x0 0x0 0x0,
    mkReg 0x130 0x80 32 0x3E8 0x8001FFFF 0x0 0x0 0x0 0x0,
    mkReg 0x134 0x80 32 0x3E8 0x3FFF 0x0 0x0 0x0 0x0,
    mkReg 0x138 0x80 32 0xFFBC5A1A 0xFFFFFFFF 0x0 0x0 0x0 0x0,
    mkReg 0x13C 0x80 32 0xFFFFD40A 0xFFFFFFFF 0x0 0x0 0x0 0x0,
    mkReg 0x140 0x80 32 0x0 0x0 0x0 0x0 0x0 0x0,
    mkReg 0x144 0x80 32 0x0 0x0 0x0 0x0 0x0 0x0,
    mkReg 0x148 0x80 32 0x0 0x0 0x0 0x0 0x0 0xFFFFFFFF,
    mkReg 0x14C 0x80 32 0x0 0x0 0x0 0x0 0x0 0xFFFFFFFF]

/-- Layout of the CLK block's registers (chapter 09, R516). -/
def regsCLK : List RegDef :=
  [mkReg 0x0 0x0 1 0x3 0x1F 0x0 0x20 0x0 0x0,
    mkReg 0x4 0x0 1 0x70 0x0 0xF0000 0x0 0x0 0x0,
    mkReg 0x10 0 1 0xA0200 0xFF03BF 0x0 0x0 0x0 0x0,
    mkReg 0x14 0 1 0xA0200 0xFF03BF 0x0 0x0 0x0 0x0,
    mkReg 0x18 0 1 0xA0200 0xFF03BF 0x0 0x0 0x0 0x0,
    mkReg 0x1C 0 1 0xA0200 0xFF03BF 0x0 0x0 0x0 0x0,
    mkReg 0x20 0 1 0xA0102 0xFF03BF 0x0 0x0 0x0 0x0,
    mkReg 0x24 0 1 0xA0103 0xFF03BF 0x0 0x0 0x0 0x0,
    mkReg 0x28 0 1 0xA0281 0xFF03BF 0x0 0x0 0x0 0x0,
    mkReg 0x30 0x4 4 0x2710 0x1FFFF 0x0 0x0 0x0 0x0,
    mkReg 0x50 0x4 7 0x0 0x0 0x0 0x0 0x0 0x0,
    mkReg 0x70 0x0 1 0x14 0xFF 0x0 0x0 0x0 0x0]
  ++ [mkReg 0x74 0x0 1 0x50064 0x7F03FF 0x0 0x0 0x0 0x0,
    mkReg 0x78 0x0 1 0x0 0x0 0x0 0x0 0x0 0x0,
    mkReg 0x7C 0x0 1 0x0 0x0 0x0 0x0 0x0 0x0,
    mkReg 0x80 0x0 1 0x0 0xFFFFFFFF 0x0 0x0 0x0 0x0,
    mkReg 0x84 0x0 1 0x0 0x0 0x0 0x0 0x0 0x0,
    mkReg 0x88 0x0 1 0x0 0x0 0x0 0x0 0x0 0x0,
    mkReg 0x8C 0x0 1 0x0 0x0 0x0 0x0 0x0 0x0,
    mkReg 0x90 0x0 1 0x0 0x0 0x0 0x0 0x0 0x0,
    mkReg 0xA0 0x0 1 0x0 0xE 0x0 0x1 0x0 0x0,
    mkReg 0xA4 0x0 1 0x0 0x0 0x0 0x0 0x0 0x0,
    mkReg 0xA8 0x0 1 0x1900 0xFFFF 0x0 0x0 0x0 0x0,
    mkReg 0xAC 0x0 1 0x0 0xFFFFFFFF 0x0 0x0 0x0 0x0]
  ++ [mkReg 0xB0 0x0 1 0x0 0xFFFFFFFF 0x0 0x0 0x0 0x0,
    mkReg 0xB4 0x0 1 0x0 0xFFFFFFFF 0x0 0x0 0x0 0x0,
    mkReg 0xB8 0x0 1 0x0 0xFFFFFFFF 0x0 0x0 0x0 0x0,
    mkReg 0xBC 0x0 1 0x0 0xFFFFFFFF 0x0 0x0 0x0 0x0,
    mkReg 0xC0 0x0 1 0x0 0xFFFFFFFF 0x0 0x0 0x0 0x0,
    mkReg 0xC4 0x0 1 0x0 0xFFFFFFFF 0x0 0x0 0x0 0x0,
    mkReg 0xC8 0x0 1 0x0 0x0 0x0 0x0 0x0 0x0,
    mkReg 0xE0 0x0 1 0x0 0x0 0x0 0x0 0x0 0xFFFFFFFF,
    mkReg 0xE4 0x0 1 0x0 0x0 0x0 0x0 0x0 0xFFFFFFFF,
    mkReg 0xE8 0x0 1 0x0 0x0 0x0 0x0 0x0 0xFFFFFFFF,
    mkReg 0xEC 0x0 1 0x0 0x0 0x0 0x0 0x0 0xFFFFFFFF,
    mkReg 0xF0 0x0 1 0x0 0x0 0x0 0x0 0x0 0xFFFFFFFF]

/-- Layout of the TIM block's registers (chapter 09, R516). -/
def regsTIM : List RegDef :=
  [mkReg 0x0 0x0 1 0xA00 0x1F1F 0x0 0x0 0x0 0x0,
    mkReg 0x4 0x0 1 0x0 0x0 0x1 0x0 0x0 0x0,
    mkReg 0x10 0x0 1 0x0 0x0 0x0 0x0 0x0 0x0,
    mkReg 0x14 0x0 1 0x0 0x0 0x0 0x0 0x0 0x0,
    mkReg 0x18 0x0 1 0x0 0x0 0x0 0x0 0x0 0x0,
    mkReg 0x20 0x0 1 0x0 0x0 0x0 0x0 0x0 0x0,
    mkReg 0x24 0x0 1 0x0 0x0 0x0 0x0 0x0 0x0,
    mkReg 0x28 0x4 3 0x0 0xFFFFFFFF 0x0 0x0 0x0 0x0,
    mkReg 0x34 0x0 1 0x0 0xFFFFFFFF 0x0 0x0 0x0 0x0,
    mkReg 0x38 0x0 1 0x0 0xFF 0x0 0x0 0x0 0x0,
    mkReg 0x3C 0x0 1 0x0 0x0 0x0 0x1 0x0 0x0,
    mkReg 0x40 0x0 1 0x0 0xFFFFFFFF 0x0 0x0 0x0 0x0]
  ++ [mkReg 0x44 0x0 1 0x0 0xFFFF 0x0 0x0 0x0 0x0,
    mkReg 0x48 0x0 1 0x0 0x3FFFFFFF 0x0 0x0 0x0 0x0,
    mkReg 0x4C 0x0 1 0x0 0x0 0x0 0x1 0x0 0x0,
    mkReg 0x60 0x8 4 0x0 0xFFFFFFFF 0x0 0x0 0x0 0x0,
    mkReg 0x64 0x8 4 0x0 0xFFFFFFFF 0x0 0x0 0x0 0x0,
    mkReg 0x80 0x0 1 0x0 0x0 0x0 0x0 0x0 0x0,
    mkReg 0x84 0x0 1 0x0 0x0 0x0 0x0 0x0 0x0,
    mkReg 0x88 0x0 1 0x0 0x0 0x0 0x0 0x0 0x0,
    mkReg 0x90 0x0 1 0x0 0x0 0x0 0x0 0x0 0xFFFFFFFF,
    mkReg 0x94 0x0 1 0x0 0x0 0x0 0x0 0x0 0xFFFFFFFF,
    mkReg 0x100 0x20 8 0x0 0x3 0x300 0x0 0x0 0x0,
    mkReg 0x104 0x20 8 0x0 0xFFFFFFFF 0x0 0x0 0x0 0x0]
  ++ [mkReg 0x108 0x20 8 0x0 0xFFFF 0x0 0x0 0x0 0x0,
    mkReg 0x10C 0x20 8 0x0 0x3FFFFFFF 0x0 0x0 0x0 0x0,
    mkReg 0x110 0x20 8 0x0 0xFFFFFFFF 0x0 0x0 0x0 0x0]

/-- Layout of the MAC block's registers (chapter 10, R516). -/
def regsMAC : List RegDef :=
  [mkRegs 0x0 [0x3, 0x3, 0x7, 0x23] 0x3F 0x0 0x40 0x0 0x0,
    mkRegs 0x4 [0x5f20000, 0x5f20000, 0x5f20000, 0x5f20001] 0x3FFF0007 0x0 0x0 0x0 0x0,
    mkReg 0x8 0x0 1 0x0 0x0 0x30000 0x0 0x0 0x0,
    mkReg 0x10 0x0 1 0x0 0xFFFFFFFF 0x0 0x0 0x0 0x0,
    mkReg 0x14 0x0 1 0x0 0xFFFF 0x0 0x0 0x0 0x0,
    mkReg 0x18 0x0 1 0x0 0xFFFFFFFF 0x0 0x0 0x0 0x0,
    mkReg 0x1C 0x0 1 0x0 0xFFFFFFFF 0x0 0x0 0x0 0x0,
    mkRegs 0x20 [0x0, 0x0, 0x0, 0x110000] 0xFFFF0001 0x0 0x0 0x0 0x0,
    mkRegs 0x24 [0x0, 0x0, 0x0, 0x3e8] 0xFFFFF 0x0 0x0 0x0 0x0,
    mkReg 0x28 0x0 1 0x0 0x0 0x0 0x0 0x0 0x0,
    mkReg 0x40 0x0 1 0x0 0x0 0x0 0x0 0x0 0xFFFFFFFF,
    mkReg 0x44 0x0 1 0x0 0x0 0x0 0x0 0x0 0xFFFFFFFF]
  ++ [mkReg 0x48 0x0 1 0x0 0x0 0x0 0x0 0x0 0xFFFFFFFF,
    mkReg 0x4C 0x0 1 0x0 0x0 0x0 0x0 0x0 0xFFFFFFFF,
    mkReg 0x50 0x0 1 0x0 0x0 0x0 0x0 0x0 0xFFFFFFFF,
    mkReg 0x54 0x0 1 0x0 0x0 0x0 0x0 0x0 0xFFFFFFFF,
    mkReg 0x58 0x0 1 0x0 0x0 0x0 0x0 0x0 0xFFFFFFFF,
    mkReg 0x5C 0x0 1 0x0 0x0 0x0 0x0 0x0 0xFFFFFFFF,
    mkReg 0x60 0x0 1 0x0 0x0 0x0 0x0 0x0 0xFFFFFFFF,
    mkReg 0x64 0x0 1 0x0 0x0 0x0 0x0 0x0 0xFFFFFFFF,
    mkReg 0x68 0x0 1 0x0 0x0 0x0 0x0 0x0 0xFFFFFFFF,
    mkReg 0x6C 0x0 1 0x0 0x0 0x0 0x0 0x0 0xFFFFFFFF,
    mkReg 0x70 0x0 1 0x0 0x0 0x0 0x0 0x0 0xFFFFFFFF,
    mkReg 0x74 0x0 1 0x0 0x0 0x0 0x0 0x0 0xFFFFFFFF]
  ++ [mkReg 0x78 0x0 1 0x0 0x0 0x0 0x0 0x0 0xFFFFFFFF,
    mkReg 0x7C 0x0 1 0x0 0x0 0x0 0x0 0x0 0xFFFFFFFF]

/-- Layout of the SDS block's registers (chapter 10, R516). -/
def regsSDS : List RegDef :=
  [mkReg 0x0 0x0 1 0x21 0xFD 0x0 0x2 0x0 0x0,
    mkReg 0x4 0x0 1 0x0 0x0 0x30000 0x0 0x0 0x0,
    mkRegs 0x8 [0x0, 0x0, 0x0, 0x0, 0x0, 0x0, 0x2, 0x1] 0x0 0x0 0x0 0x0 0x0,
    mkReg 0xC 0x0 1 0x300400 0x3F1F0F 0x0 0x0 0x0 0x0,
    mkReg 0x20 0x0 1 0x0 0xFF 0x0 0x300 0x0 0x0,
    mkReg 0x24 0x0 1 0x0 0x0 0x2 0x0 0x0 0x0,
    mkReg 0x28 0x0 1 0x0 0x0 0x0 0x0 0x0 0x0,
    mkReg 0x2C 0x0 1 0x0 0x0 0x0 0x0 0x0 0x0,
    mkReg 0x30 0x0 1 0x0 0x0 0x0 0x0 0x0 0x0,
    mkReg 0x40 0x0 1 0x0 0x0 0x0 0x0 0x0 0xFFFFFFFF,
    mkReg 0x44 0x0 1 0x0 0x0 0x0 0x0 0x0 0xFFFFFFFF,
    mkReg 0x48 0x0 1 0x0 0x0 0x0 0x0 0x0 0xFFFFFFFF]
  ++ [mkReg 0x4C 0x0 1 0x0 0x0 0x0 0x0 0x0 0xFFFFFFFF]

/-- Layout of the HIF block's registers (chapter 11, R516). -/
def regsHIF : List RegDef :=
  [mkReg 0x0 0x0 1 0x0 0x1 0x0 0x0 0x0 0x0,
    mkReg 0x4 0x0 1 0x0 0x0 0xF00 0x0 0x0 0x0,
    mkReg 0x8 0x0 1 0x20481F6B 0x0 0x0 0x0 0x0 0x0,
    mkReg 0x10 0x0 1 0x0 0xFFFFFFFF 0x0 0x0 0x0 0x0,
    mkReg 0x14 0x0 1 0x0 0xFFFFFFFF 0x0 0x0 0x0 0x0,
    mkReg 0x18 0x0 1 0x0 0xFFFFFFFF 0x0 0x0 0x0 0x0,
    mkReg 0x1C 0x0 1 0x0 0xFFFFFFFF 0x0 0x0 0x0 0x0,
    mkReg 0x20 0x0 1 0x40 0x1FF 0x0 0x0 0x0 0x0,
    mkReg 0x24 0x0 1 0x0 0x0 0x0 0x0 0x0 0x0,
    mkReg 0x28 0x0 1 0x0 0x0 0x0 0x0 0x0 0x0,
    mkReg 0x2C 0x0 1 0x0 0x0 0x0 0x0 0x0 0x0,
    mkReg 0x30 0x0 1 0x0 0x0 0x0 0x0 0x0 0x0]
  ++ [mkReg 0x100 0x10 12 0x0 0xFFFFFFFF 0x0 0x0 0x0 0x0,
    mkReg 0x104 0x10 12 0x0 0xFFFFFFFF 0x0 0x0 0x0 0x0,
    mkReg 0x108 0x10 12 0x4 0xF 0x0 0x0 0x0 0x0,
    mkReg 0x10C 0 1 0x0 0xFF03F1 0x0 0x0 0x0 0x0,
    mkReg 0x11C 0 1 0x0 0xFF03F1 0x0 0x0 0x0 0x0,
    mkReg 0x12C 0 1 0x0 0xFF03F1 0x0 0x0 0x0 0x0,
    mkReg 0x13C 0 1 0x0 0xFF03F1 0x0 0x0 0x0 0x0,
    mkReg 0x14C 0 1 0x10000 0xFF03F1 0x0 0x0 0x0 0x0,
    mkReg 0x15C 0 1 0x10000 0xFF03F1 0x0 0x0 0x0 0x0,
    mkReg 0x16C 0 1 0x10000 0xFF03F1 0x0 0x0 0x0 0x0,
    mkReg 0x17C 0 1 0x10000 0xFF03F1 0x0 0x0 0x0 0x0,
    mkReg 0x18C 0 1 0x10000 0xFF03F1 0x0 0x0 0x0 0x0]
  ++ [mkReg 0x19C 0 1 0x10000 0xFF03F1 0x0 0x0 0x0 0x0,
    mkReg 0x1AC 0 1 0x10000 0xFF03F1 0x0 0x0 0x0 0x0,
    mkReg 0x1BC 0 1 0x10000 0xFF03F1 0x0 0x0 0x0 0x0,
    mkReg 0x200 0x0 1 0x0 0x0 0x0 0x0 0x0 0xFFFFFFFF,
    mkReg 0x204 0x0 1 0x0 0x0 0x0 0x0 0x0 0xFFFFFFFF,
    mkReg 0x208 0x0 1 0x0 0x0 0x0 0x0 0x0 0xFFFFFFFF,
    mkReg 0x20C 0x0 1 0x0 0x0 0x0 0x0 0x0 0xFFFFFFFF,
    mkReg 0x210 0x0 1 0x0 0x0 0x0 0x0 0x0 0xFFFFFFFF,
    mkReg 0x214 0x0 1 0x0 0x0 0x0 0x0 0x0 0xFFFFFFFF,
    mkReg 0x218 0x0 1 0x0 0x0 0x0 0x0 0x0 0xFFFFFFFF,
    mkReg 0x21C 0x0 1 0x0 0x0 0x0 0x0 0x0 0xFFFFFFFF,
    mkReg 0x220 0x0 1 0x0 0x0 0x0 0x0 0x0 0xFFFFFFFF]
  ++ [mkReg 0x224 0x0 1 0x0 0x0 0x0 0x0 0x0 0xFFFFFFFF,
    mkReg 0x1000 0x10 32 0x0 0xFFFFFFFC 0x0 0x0 0x0 0x0,
    mkReg 0x1004 0x10 32 0x0 0xFFFFFFFF 0x0 0x0 0x0 0x0,
    mkReg 0x1008 0x10 32 0x0 0xFFFFFFFF 0x0 0x0 0x0 0x0,
    mkReg 0x100C 0x10 32 0x1 0x1 0x0 0x0 0x0 0x0,
    mkReg 0x1800 0x4 2 0x0 0x0 0x0 0x0 0x0 0x0]

/-- Layout of the TDM block's registers (chapter 12, R516). -/
def regsTDM : List RegDef :=
  [mkReg 0x0 0x0 1 0x1040 0x1FFFFFF 0x0 0x0 0x0 0x0,
    mkReg 0x4 0x0 1 0x0 0x0 0x1F0000 0x0 0x0 0x0,
    mkReg 0x8 0x0 1 0x0 0x0 0x0 0x0 0x0 0x0,
    mkReg 0x10 0x4 8 0xFFFFFFFF 0xFFFFFFFF 0x0 0x0 0x0 0x0,
    mkReg 0x30 0x4 8 0xFFFFFFFF 0xFFFFFFFF 0x0 0x0 0x0 0x0,
    mkReg 0x60 0x0 1 0x0 0x0 0x0 0x0 0x0 0xFFFFFFFF,
    mkReg 0x64 0x0 1 0x0 0x0 0x0 0x0 0x0 0xFFFFFFFF,
    mkReg 0x68 0x0 1 0x0 0x0 0x0 0x0 0x0 0xFFFFFFFF,
    mkReg 0x6C 0x0 1 0x0 0x0 0x0 0x0 0x0 0xFFFFFFFF,
    mkReg 0x70 0x0 1 0x0 0x0 0x0 0x0 0x0 0xFFFFFFFF,
    mkReg 0x74 0x0 1 0x0 0x0 0x0 0x0 0x0 0xFFFFFFFF]

/-- Layout of the TDMG block's registers (chapter 12, R516). -/
def regsTDMG : List RegDef :=
  [mkReg 0x0 0x0 1 0x0 0xFFFFFFFF 0x0 0x0 0x0 0x0,
    mkReg 0x4 0x0 1 0x0 0xFFFFFFFF 0x0 0x0 0x0 0x0,
    mkReg 0x8 0x0 1 0x0 0x0 0x6 0x0 0x0 0x0,
    mkReg 0x10 0x4 4 0x2 0x7 0x0 0x0 0x0 0x0,
    mkReg 0x40 0x4 16 0x0 0x0 0x0 0x0 0x0 0xFFFFFFFF]

/-- Layout of the XBR block's registers (chapter 13, R516). -/
def regsXBR : List RegDef :=
  [mkReg 0x0 0x0 1 0x0 0x0 0x3 0x0 0x0 0x0,
    mkReg 0x4 0x0 1 0xF0E0408 0xF0F0F0F 0x0 0x0 0x0 0x0,
    mkReg 0x10 0x0 1 0x0 0x0 0x0 0x0 0x0 0x0,
    mkReg 0x14 0x0 1 0x0 0x0 0x0 0x0 0x0 0x0,
    mkReg 0x18 0x0 1 0x0 0x0 0x0 0x0 0x0 0x0,
    mkReg 0x1C 0x0 1 0x0 0x0 0x0 0x0 0x0 0xFFFFFFFF,
    mkReg 0x20 0x0 1 0x0 0x0 0x0 0x0 0x0 0xFFFFFFFF,
    mkReg 0x24 0x0 1 0x0 0x0 0x0 0x0 0x0 0x1FF,
    mkReg 0x1000 0x4 272 0x0 0x0 0x0 0x0 0x0 0xFFFFFFFF]

/-- Layout of the MEM block's registers (chapter 13, R516). -/
def regsMEM : List RegDef :=
  [mkReg 0x0 0x0 1 0x0 0x0 0x7 0x0 0x0 0x0,
    mkReg 0x4 0x0 1 0x4 0xF 0x0 0x0 0x0 0x0,
    mkReg 0x10 0x0 1 0x0 0xFF 0x0 0x100 0x0 0x0,
    mkReg 0x14 0x0 1 0x0 0x0 0x0 0x0 0x0 0x0,
    mkReg 0x20 0x0 1 0x0 0x0 0x0 0x0 0x0 0x0,
    mkReg 0x24 0x0 1 0x0 0x0 0x0 0x0 0x0 0x0,
    mkReg 0x28 0x0 1 0x0 0x0 0x0 0x0 0x0 0x0,
    mkReg 0x2C 0x0 1 0x0 0x0 0x0 0x0 0x0 0xFFFFFFFF,
    mkReg 0x30 0x0 1 0x0 0x0 0x0 0x0 0x0 0xFFFFFFFF,
    mkReg 0x34 0x0 1 0x0 0x0 0x0 0x0 0x0 0x0,
    mkReg 0x40 0x0 1 0x0 0x3FF 0x0 0x0 0x0 0x0,
    mkReg 0x44 0x0 1 0x3FF03FF 0x0 0x0 0x0 0x0 0x0]

/-- Layout of the DDR block's registers (chapter 14, R516). -/
def regsDDR : List RegDef :=
  [mkReg 0x0 0x0 1 0x0 0x0 0x0 0x7 0x0 0x0,
    mkReg 0x4 0x0 1 0x0 0x0 0xF00 0x0 0x0 0x0,
    mkReg 0x8 0x0 1 0x101606 0x1F1F1F 0x0 0x0 0x0 0x0,
    mkReg 0xC 0x0 1 0x0 0x0 0x0 0x0 0x0 0x0,
    mkReg 0x10 0x0 1 0x0 0xFF 0x0 0x0 0x0 0x0,
    mkReg 0x14 0x0 1 0x0 0x0 0x0 0x0 0x0 0x0,
    mkReg 0x18 0x0 1 0x40E 0x70F 0x0 0x0 0x0 0x0,
    mkReg 0x1C 0x0 1 0x40410 0x1F1F1F 0x0 0x0 0x0 0x0,
    mkReg 0x20 0x0 1 0x10 0xFF 0x0 0x0 0x0 0x0,
    mkReg 0x24 0x0 1 0x3E8 0xFFFF 0x0 0x0 0x0 0x0,
    mkReg 0x30 0x0 1 0x0 0x0 0x0 0x0 0x0 0x0,
    mkReg 0x34 0x0 1 0x0 0x0 0x0 0x0 0x0 0x0]
  ++ [mkReg 0x38 0x0 1 0x0 0x0 0x0 0x0 0x0 0x0,
    mkReg 0x40 0x0 1 0x10000 0xFFFF7E 0x0 0x1 0x0 0x0,
    mkReg 0x44 0x0 1 0x0 0x0 0x0 0x0 0x0 0x0,
    mkReg 0x48 0x4 3 0x0 0x0 0x0 0x0 0x0 0x0,
    mkReg 0x54 0x0 1 0x0 0x0 0x0 0x0 0x0 0x0,
    mkReg 0x60 0x4 16 0x0 0xFFFFFFFF 0x0 0x0 0x0 0x0,
    mkReg 0x100 0x10 9 0x0 0x1FF 0x0 0x0 0x0 0x0,
    mkReg 0x104 0x10 9 0x0 0x1FF01FF 0x0 0x0 0x0 0x0,
    mkReg 0x108 0x10 9 0x20 0x7F 0x0 0x0 0x0 0x0,
    mkReg 0x200 0x4 72 0x2020 0x7F7F 0x0 0x0 0x0 0x0,
    mkReg 0x340 0x0 1 0x1840 0x7F7F 0x0 0x0 0x0 0x0,
    mkReg 0x400 0x0 1 0x0 0x0 0x0 0x0 0x0 0xFFFFFFFF]
  ++ [mkReg 0x404 0x0 1 0x0 0x0 0x0 0x0 0x0 0xFFFFFFFF,
    mkReg 0x408 0x0 1 0x0 0x0 0x0 0x0 0x0 0xFFFFFFFF,
    mkReg 0x40C 0x0 1 0x0 0x0 0x0 0x0 0x0 0xFFFFFFFF,
    mkReg 0x410 0x0 1 0x0 0x0 0x0 0x0 0x0 0xFFFFFFFF,
    mkReg 0x414 0x0 1 0x0 0x0 0x0 0x0 0x0 0xFFFFFFFF,
    mkReg 0x418 0x0 1 0x0 0x0 0x0 0x0 0x0 0xFFFFFFFF]

/-- Layout of the TWI block's registers (chapter 16, R516). -/
def regsTWI : List RegDef :=
  [mkReg 0x0 0x0 1 0x0 0x1 0x0 0x0 0x0 0x0,
    mkReg 0x4 0x0 1 0x0 0x0 0xF0000 0x0 0x0 0x0,
    mkReg 0x8 0x0 1 0x0 0xFF8000 0x0 0x0 0x0 0x0,
    mkReg 0xC 0x0 1 0x0 0x0 0x0 0x0 0x0 0x0,
    mkReg 0x10 0x0 1 0x0 0x0 0x0 0x0 0x0 0xFFFFFFFF,
    mkReg 0x14 0x0 1 0x0 0x0 0x0 0x0 0x0 0xFFFFFFFF,
    mkReg 0x18 0x0 1 0x0 0x0 0x0 0x0 0x0 0xFFFFFFFF,
    mkReg 0x1C 0x0 1 0x0 0x0 0x0 0x0 0x0 0xFFFFFFFF,
    mkReg 0x100 0x100 3 0x1900 0xFF07 0x0 0x0 0x0 0x0,
    mkReg 0x104 0x100 3 0x0 0x0 0x1F00 0x0 0x0 0x0,
    mkReg 0x108 0x100 3 0xF800FA 0x3FF03FF 0x0 0x0 0x0 0x0,
    mkReg 0x10C 0x100 3 0xEB000F 0x3FF00FF 0x0 0x0 0x0 0x0]
  ++ [mkReg 0x110 0x100 3 0xEB00C8 0x3FF03FF 0x0 0x0 0x0 0x0,
    mkReg 0x120 0x100 3 0x0 0x0 0x0 0x0 0x0 0xFFFFFFFF,
    mkReg 0x124 0x100 3 0x0 0x0 0x0 0x0 0x0 0xFFFFFFFF,
    mkReg 0x128 0x100 3 0x0 0x0 0x0 0x0 0x0 0xFFFFFFFF,
    mkReg 0x12C 0x100 3 0x0 0x0 0x0 0x0 0x0 0xFFFFFFFF]

/-- Layout of the DBG block's registers (chapter 19, R516). -/
def regsDBG : List RegDef :=
  []

/-- The register blocks (R516), rising. -/
def blocks : List BlockDef :=
  [⟨0x0, 0x10000, 1, .fixed 1, regsSYS⟩,
   ⟨0x10000, 0x10000, 1, .fixed 0, regsPWR⟩,
   ⟨0x20000, 0x10000, 1, .fixed 0, regsRTC⟩,
   ⟨0x30000, 0x10000, 1, .fixed 1, regsFLT⟩,
   ⟨0x40000, 0x10000, 1, .fixed 1, regsTCK⟩,
   ⟨0x100000, 0x10000, 1, .fixed 2, regsFAB⟩,
   ⟨0x200000, 0x1000, 96, .perCluster, regsENG⟩,
   ⟨0x300000, 0x10000, 1, .fixed 2, regsMIX⟩,
   ⟨0x310000, 0x10000, 1, .fixed 2, regsDYN⟩,
   ⟨0x320000, 0x10000, 1, .fixed 2, regsRTE⟩,
   ⟨0x400000, 0x80000, 1, .fixed 15, regsSTR⟩,
   ⟨0x480000, 0x10000, 1, .fixed 15, regsTWN⟩]
  ++ [⟨0x500000, 0x10000, 1, .fixed 17, regsMOD⟩,
   ⟨0x510000, 0x10000, 1, .fixed 17, regsSNS⟩,
   ⟨0x600000, 0x10000, 1, .fixed 1, regsCLK⟩,
   ⟨0x610000, 0x10000, 1, .fixed 1, regsTIM⟩,
   ⟨0x700000, 0x10000, 4, .fixed 15, regsMAC⟩,
   ⟨0x780000, 0x1000, 8, .fixed 15, regsSDS⟩,
   ⟨0x800000, 0x10000, 1, .fixed 18, regsHIF⟩,
   ⟨0x900000, 0x100, 16, .fixed 17, regsTDM⟩,
   ⟨0x901000, 0xF000, 1, .fixed 17, regsTDMG⟩,
   ⟨0xA00000, 0x10000, 1, .fixed 2, regsXBR⟩,
   ⟨0xA10000, 0x10000, 1, .fixed 2, regsMEM⟩,
   ⟨0xB00000, 0x10000, 1, .fixed 16, regsDDR⟩,
   ⟨0xC00000, 0x10000, 1, .fixed 1, regsTWI⟩,
   ⟨0xD00000, 0x10000, 1, .fixed 1, regsDBG⟩]

/-- The block that holds an offset, and the instance. -/
def findBlock (o : Nat) : Option (BlockDef × Nat) :=
  blocks.findSome? fun b =>
    if b.base ≤ o && o < b.base + b.stride * b.count then some (b, (o - b.base) / b.stride) else none

/-- The register at an offset within a block instance, and its index. -/
def findIn (o : Nat) : List RegDef → Option (RegDef × Nat)
  | [] => none
  | r :: rs =>
    if r.off = o then some (r, 0)
    else if r.off < o && o < r.off + r.stride * r.count && (o - r.off) % r.stride = 0 then
      some (r, (o - r.off) / r.stride)
    else findIn o rs

/-- The register at an offset: its table row, the block instance, its index in the row; none where the block lists none (R10). -/
def findReg (o : Nat) : Option (RegDef × Nat × Nat) :=
  match findBlock o with
  | none => none
  | some (b, i) =>
    match findIn (o - b.base - b.stride * i) b.regs with
    | none => none
    | some (r, j) => some (r, i, j)

/-- The TDM_CFG reset word differs per port only in clk_src, which is the port's own number (R375, R516). -/
def tdmCfgReset (o : Nat) : Option Word :=
  if 0x900000 ≤ o && o < 0x901000 && (o - 0x900000) % 0x100 = 0 then
    some (word (0x1040 + (o - 0x900000) / 0x100 * 0x100000))
  else none

/-- The reset word of the register at an offset; 0 where there is none (R10, R516). -/
def resetWord (o : Nat) : Word :=
  match tdmCfgReset o with
  | some w => w
  | none =>
    match findReg o with
    | none => 0
    | some (r, i, _) => word (r.reset.getD i (r.reset.getD 0 0))

/-- The power domain number (R472) of the block that holds an offset: 3 + cluster for the engine blocks. -/
def domainOf (o : Nat) : Option Nat :=
  match findBlock o with
  | none => none
  | some (b, i) =>
    match b.dom with
    | .fixed d => some d
    | .perCluster => some (3 + i / 8)

/-! SYS block: spec chapter 17, offsets of R516. -/
abbrev R.SYS_ID_LO : Nat := 0x0
abbrev R.SYS_ID_HI : Nat := 0x4
abbrev R.SYS_STRAPS : Nat := 0x8
abbrev R.SYS_REMAP : Nat := 0xC
abbrev R.SYS_CTRL : Nat := 0x10
abbrev R.SYS_RESET_REASON : Nat := 0x14
abbrev R.SYS_BOOT_STATUS : Nat := 0x20
abbrev R.SYS_BOOT_CTRL : Nat := 0x24
abbrev R.SYS_BOOT_FAIL_CNT : Nat := 0x28
abbrev R.SYS_BOOT_WDT : Nat := 0x2C
abbrev R.SYS_BOOT_WAIT : Nat := 0x30
abbrev R.SYS_KEY_REVOKE : Nat := 0x34
abbrev R.SYS_FW_VERSION : Nat := 0x38
abbrev R.SYS_FW_CTRL : Nat := 0x40
abbrev R.SYS_FW_STATUS : Nat := 0x44
abbrev R.SYS_WDT_CFG : Nat := 0x48
abbrev R.SYS_WDT_KICK : Nat := 0x4C
abbrev R.SYS_RELOAD_CNT : Nat := 0x50

/-! PWR block: spec chapter 17, offsets of R516. -/
abbrev R.PWR_DOM_REQ : Nat := 0x10000
abbrev R.PWR_DOM_ON : Nat := 0x10004
abbrev R.PWR_DOM_BUSY : Nat := 0x10008
abbrev R.PWR_DOM_FAULT : Nat := 0x1000C
abbrev R.PWR_STATUS : Nat := 0x10010
abbrev R.PWR_DOM_ERR : Nat := 0x10014
abbrev R.PWR_VIN : Nat := 0x10018
abbrev R.PWR_TEMP : Nat := 0x1001C
abbrev R.PWR_TEMP_CFG : Nat := 0x10020
abbrev R.PWR_IN_MW : Nat := 0x10024
abbrev R.PWR_REFUSE_CNT : Nat := 0x10030
abbrev R.PWR_FAULT_CNT : Nat := 0x10034

/-! RTC block: spec chapter 09, offsets of R516. -/
abbrev R.RTC_CTRL : Nat := 0x20000
abbrev R.RTC_STATUS : Nat := 0x20004
abbrev R.RTC_SEC_LO : Nat := 0x20008
abbrev R.RTC_SEC_HI : Nat := 0x2000C
abbrev R.RTC_SET_LO : Nat := 0x20010
abbrev R.RTC_SET_HI : Nat := 0x20014
abbrev R.RTC_DATE : Nat := 0x20018
abbrev R.RTC_TIME : Nat := 0x2001C
abbrev R.RTC_CAL : Nat := 0x20020
abbrev R.RTC_SVC_HOURS : Nat := 0x20024
abbrev R.RTC_SVC_SEC : Nat := 0x20028

/-! FLT block: spec chapter 15, offsets of R516. -/
abbrev R.FLT_MODE : Nat := 0x30000
abbrev R.FLT_STATUS_LO : Nat := 0x30008
abbrev R.FLT_STATUS_HI : Nat := 0x3000C
abbrev R.FLT_UNACK_LO : Nat := 0x30010
abbrev R.FLT_UNACK_HI : Nat := 0x30014
abbrev R.FLT_ACTIVE_LO : Nat := 0x30018
abbrev R.FLT_ACTIVE_HI : Nat := 0x3001C
abbrev R.FLT_ACK_LO : Nat := 0x30020
abbrev R.FLT_ACK_HI : Nat := 0x30024
abbrev R.FLT_WORST : Nat := 0x30028
abbrev R.FLT_CLASS0 : Nat := 0x30030
abbrev R.FLT_CLASS1 : Nat := 0x30034
abbrev R.FLT_CLASS2 : Nat := 0x30038
abbrev R.FLT_CLASS3 : Nat := 0x3003C
abbrev R.FLT_LVL_MAP : Nat := 0x30040
abbrev R.FLT_INJ_TAG_LO : Nat := 0x30048
abbrev R.FLT_INJ_TAG_HI : Nat := 0x3004C
abbrev R.FLT_REAL_LO : Nat := 0x30050
abbrev R.FLT_REAL_HI : Nat := 0x30054
abbrev R.FLT_INJ_CTRL : Nat := 0x30058
abbrev R.FLT_INJ_DATA : Nat := 0x3005C
abbrev R.FLT_LOG_WP : Nat := 0x30060
abbrev R.FLT_LOG_IDX : Nat := 0x30064
abbrev R.FLT_LOG_DATA : Nat := 0x30068
abbrev R.FLT_OCC_CNT : Nat := 0x30070
abbrev R.FLT_ESC_CNT : Nat := 0x30074
abbrev R.FLT_LOG_OVW_CNT : Nat := 0x30078
abbrev R.FLT_DBG_ATTACH_CNT : Nat := 0x3007C

/-! TCK block: spec chapter 01, offsets of R516. -/
abbrev R.TCK_CTRL : Nat := 0x40000
abbrev R.TCK_CFG : Nat := 0x40004
abbrev R.TCK_STATUS : Nat := 0x40008
abbrev R.TCK_NUM_LO : Nat := 0x40010
abbrev R.TCK_NUM_HI : Nat := 0x40014
abbrev R.TCK_POS : Nat := 0x40018
abbrev R.TCK_BUDGET : Nat := 0x40020
abbrev R.TCK_PERIOD_NS : Nat := 0x40024
abbrev R.TCK_SKIP_CNT : Nat := 0x40030
abbrev R.TCK_REPEAT_CNT : Nat := 0x40034
abbrev R.TCK_DBF_LATE_CNT : Nat := 0x40038
abbrev R.TCK_EVT_CFG : Nat := 0x40040
abbrev R.TCK_START_LO : Nat := 0x40048
abbrev R.TCK_START_HI : Nat := 0x4004C

/-! FAB block: spec chapter 02, offsets of R516. -/
abbrev R.FAB_CTRL : Nat := 0x100000
abbrev R.FAB_STATUS : Nat := 0x100004
abbrev R.FAB_GRAPH_ID : Nat := 0x100008
abbrev R.FAB_RESERVE : Nat := 0x10000C
abbrev R.FAB_ACTIVE (i : Nat) : Nat := 0x100010 + 0x4 * i
abbrev R.FAB_FENCE (i : Nat) : Nat := 0x100020 + 0x4 * i
abbrev R.FAB_UNFENCE (i : Nat) : Nat := 0x100030 + 0x4 * i
abbrev R.FAB_STEAL_CFG : Nat := 0x100040
abbrev R.FAB_LAST_CYC : Nat := 0x100044
abbrev R.FAB_PEAK_CYC : Nat := 0x100048
abbrev R.FAB_OVR_TICK_LO : Nat := 0x100050
abbrev R.FAB_OVR_TICK_HI : Nat := 0x100054
abbrev R.FAB_FAIL_INFO : Nat := 0x100058
abbrev R.FAB_TBUD_INFO : Nat := 0x10005C
abbrev R.FAB_FENCE_INFO : Nat := 0x100060
abbrev R.FAB_WM_CNT : Nat := 0x100070
abbrev R.FAB_OVR_CNT : Nat := 0x100074
abbrev R.FAB_LATE_TASK_CNT : Nat := 0x100078
abbrev R.FAB_TASK_FAIL_CNT : Nat := 0x10007C
abbrev R.FAB_RERUN_CNT : Nat := 0x100080
abbrev R.FAB_TBUD_CNT : Nat := 0x100084
abbrev R.FAB_STEAL_CNT : Nat := 0x100088
abbrev R.FAB_XSTEAL_CNT : Nat := 0x10008C

/-! ENG block: spec chapter 03, offsets of R516. -/
abbrev R.ENG_STATUS (i : Nat) : Nat := 0x200000 + 0x1000 * i
abbrev R.ENG_PC (i : Nat) : Nat := 0x200004 + 0x1000 * i
abbrev R.ENG_TASK_CNT (i : Nat) : Nat := 0x200010 + 0x1000 * i
abbrev R.ENG_BUSY_CYC (i : Nat) : Nat := 0x200014 + 0x1000 * i
abbrev R.ENG_DMA_WAIT_CYC (i : Nat) : Nat := 0x200018 + 0x1000 * i
abbrev R.ENG_EVT_CNT (i : Nat) : Nat := 0x20001C + 0x1000 * i
abbrev R.ENG_ECC_CNT (i : Nat) : Nat := 0x200020 + 0x1000 * i
abbrev R.ENG_ECC_INFO (i : Nat) : Nat := 0x200024 + 0x1000 * i
abbrev R.ENG_HOLD_MAX (i : Nat) : Nat := 0x200028 + 0x1000 * i
abbrev R.ENG_MBOX_IN (i : Nat) : Nat := 0x200030 + 0x1000 * i
abbrev R.ENG_MBOX_OUT (i : Nat) : Nat := 0x200034 + 0x1000 * i
abbrev R.ENG_MBOX_STATUS (i : Nat) : Nat := 0x200038 + 0x1000 * i

/-! MIX block: spec chapter 05, offsets of R516. -/
abbrev R.MIX_CTRL : Nat := 0x300000
abbrev R.MIX_STATUS : Nat := 0x300004
abbrev R.MIX_XP_CAP : Nat := 0x300008
abbrev R.MIX_XP_ACTIVE : Nat := 0x30000C
abbrev R.MIX_XP_FADING : Nat := 0x300010
abbrev R.MIX_METER_CFG : Nat := 0x300020
abbrev R.MIX_PSET_STATUS : Nat := 0x300040
abbrev R.MIX_PSET_ERR : Nat := 0x300044
abbrev R.MIX_PSET_ERR_IDX : Nat := 0x300048
abbrev R.MIX_PSET_LAST_LO : Nat := 0x300050
abbrev R.MIX_PSET_LAST_HI : Nat := 0x300054
abbrev R.MIX_PSET_USED : Nat := 0x300058
abbrev R.MIX_SAT_CNT : Nat := 0x300060
abbrev R.MIX_CUT_CNT : Nat := 0x300064
abbrev R.MIX_METER_DROP_CNT : Nat := 0x300068
abbrev R.MIX_PSET_COMMIT_CNT : Nat := 0x30006C
abbrev R.MIX_PSET_REFUSE_CNT : Nat := 0x300070
abbrev R.MIX_PSET_WITHDRAW_CNT : Nat := 0x300074

/-! DYN block: spec chapter 05, offsets of R516. -/
abbrev R.DYN_CTRL : Nat := 0x310000
abbrev R.DYN_STATUS : Nat := 0x310004
abbrev R.DYN_ACTIVE : Nat := 0x310008
abbrev R.DYN_GR_SEL : Nat := 0x310010
abbrev R.DYN_GR_NOW : Nat := 0x310014
abbrev R.DYN_SAT_CNT : Nat := 0x310020
abbrev R.DYN_CUT_CNT : Nat := 0x310024

/-! RTE block: spec chapter 05, offsets of R516. -/
abbrev R.RTE_CTRL : Nat := 0x320000
abbrev R.RTE_STATUS : Nat := 0x320004
abbrev R.RTE_ACTIVE : Nat := 0x320008
abbrev R.RTE_FADING : Nat := 0x32000C
abbrev R.RTE_DLY_BASE_LO : Nat := 0x320020
abbrev R.RTE_DLY_BASE_HI : Nat := 0x320024
abbrev R.RTE_DLY_LEN : Nat := 0x320028
abbrev R.RTE_DLY_COUNT : Nat := 0x32002C
abbrev R.RTE_SAT_CNT : Nat := 0x320040
abbrev R.RTE_DLY_WAIT_CNT : Nat := 0x320044
abbrev R.RTE_DLY_ECC_CNT : Nat := 0x320048
abbrev R.RTE_CUT_CNT : Nat := 0x32004C

/-! STR block: spec chapter 06, offsets of R516. -/
abbrev R.STR_CTRL : Nat := 0x400000
abbrev R.STR_STATUS : Nat := 0x400004
abbrev R.STR_ERR : Nat := 0x400008
abbrev R.STR_ACTIVE : Nat := 0x40000C
abbrev R.STR_CH_USED : Nat := 0x400010
abbrev R.STR_BW (i : Nat) : Nat := 0x400020 + 0x4 * i
abbrev R.STR_RX_UNMATCHED_CNT : Nat := 0x400040
abbrev R.STR_RX_NOGRID_CNT : Nat := 0x400044
abbrev R.STR_TX_LATE_CNT : Nat := 0x400048
abbrev R.STR_RX_UNDERRUN_CNT : Nat := 0x40004C
abbrev R.STR_FWD_TX_CNT : Nat := 0x400050
abbrev R.STR_FWD_DROP_CNT : Nat := 0x400054
abbrev R.STR_GRP_UNDERRUN_CNT (i : Nat) : Nat := 0x400400 + 0x4 * i
abbrev R.STR_RX_STATUS (i : Nat) : Nat := 0x410000 + 0x40 * i
abbrev R.STR_RX_ACC_A_CNT (i : Nat) : Nat := 0x410004 + 0x40 * i
abbrev R.STR_RX_ACC_B_CNT (i : Nat) : Nat := 0x410008 + 0x40 * i
abbrev R.STR_RX_ACC_C_CNT (i : Nat) : Nat := 0x41000C + 0x40 * i
abbrev R.STR_RX_ACC_P_CNT (i : Nat) : Nat := 0x410010 + 0x40 * i
abbrev R.STR_RX_DUP_CNT (i : Nat) : Nat := 0x410014 + 0x40 * i
abbrev R.STR_RX_STALE_CNT (i : Nat) : Nat := 0x410018 + 0x40 * i
abbrev R.STR_RX_LATE_CNT (i : Nat) : Nat := 0x41001C + 0x40 * i
abbrev R.STR_RX_EARLY_CNT (i : Nat) : Nat := 0x410020 + 0x40 * i
abbrev R.STR_RX_BAD_CNT (i : Nat) : Nat := 0x410024 + 0x40 * i
abbrev R.STR_RX_UNDERRUN_CNT_S (i : Nat) : Nat := 0x410028 + 0x40 * i
abbrev R.STR_TX_STATUS (i : Nat) : Nat := 0x420000 + 0x10 * i
abbrev R.STR_TX_SENT_CNT (i : Nat) : Nat := 0x420004 + 0x10 * i
abbrev R.STR_TX_LATE_CNT_S (i : Nat) : Nat := 0x420008 + 0x10 * i
abbrev R.STR_TX_SUPPR_CNT (i : Nat) : Nat := 0x42000C + 0x10 * i

/-! TWN block: spec chapter 07, offsets of R516. -/
abbrev R.TWN_CTRL : Nat := 0x480000
abbrev R.TWN_STATUS : Nat := 0x480004
abbrev R.TWN_CFG : Nat := 0x480008
abbrev R.TWN_LB_CFG : Nat := 0x48000C
abbrev R.TWN_HO_CTRL : Nat := 0x480010
abbrev R.TWN_HO_TICK_LO : Nat := 0x480018
abbrev R.TWN_HO_TICK_HI : Nat := 0x48001C
abbrev R.TWN_DIG_LO : Nat := 0x480020
abbrev R.TWN_DIG_HI : Nat := 0x480024
abbrev R.TWN_PDIG_LO : Nat := 0x480028
abbrev R.TWN_PDIG_HI : Nat := 0x48002C
abbrev R.TWN_DIG_TICK_LO : Nat := 0x480030
abbrev R.TWN_DIG_TICK_HI : Nat := 0x480034
abbrev R.TWN_PHASE : Nat := 0x480040
abbrev R.TWN_LINK_DELAY : Nat := 0x480044
abbrev R.TWN_RS_STATUS : Nat := 0x480048
abbrev R.TWN_LB_STATUS : Nat := 0x48004C
abbrev R.TWN_PARTNER_ID_LO : Nat := 0x480050
abbrev R.TWN_PARTNER_ID_HI : Nat := 0x480054
abbrev R.TWN_REVERT_LEFT : Nat := 0x480058
abbrev R.TWN_MISMATCH_CNT : Nat := 0x480060
abbrev R.TWN_DIV_CNT : Nat := 0x480064
abbrev R.TWN_DIG_MISS_CNT : Nat := 0x480068
abbrev R.TWN_HB_LOSS_CNT : Nat := 0x48006C
abbrev R.TWN_TAKEOVER_CNT : Nat := 0x480070
abbrev R.TWN_HANDOVER_CNT : Nat := 0x480074
abbrev R.TWN_RESYNC_CNT : Nat := 0x480078
abbrev R.TWN_LB_PWM_CNT : Nat := 0x48007C
abbrev R.TWN_LB_TDM_CNT : Nat := 0x480080
abbrev R.TWN_MSG_CRC_CNT : Nat := 0x480084
abbrev R.TWN_LANE_DOWN_CNT : Nat := 0x480088
abbrev R.TWN_PAIR_TRY_CNT : Nat := 0x48008C

/-! MOD block: spec chapter 08, offsets of R516. -/
abbrev R.MOD_CTRL : Nat := 0x500000
abbrev R.MOD_STATUS : Nat := 0x500004
abbrev R.MOD_FSW : Nat := 0x500008
abbrev R.MOD_PERIOD : Nat := 0x50000C
abbrev R.MOD_DITHER : Nat := 0x500010
abbrev R.MOD_MINPULSE : Nat := 0x500014
abbrev R.MOD_APPLY_LO : Nat := 0x500018
abbrev R.MOD_APPLY_HI : Nat := 0x50001C
abbrev R.MOD_CFG_ERR : Nat := 0x500020
abbrev R.MOD_IFIR_IDX : Nat := 0x500040
abbrev R.MOD_IFIR_DATA : Nat := 0x500044
abbrev R.MOD_CH_CFG (i : Nat) : Nat := 0x500100 + 0x20 * i
abbrev R.MOD_CH_DEAD (i : Nat) : Nat := 0x500104 + 0x20 * i
abbrev R.MOD_CH_VNOM (i : Nat) : Nat := 0x500108 + 0x20 * i
abbrev R.MOD_CH_VMIN (i : Nat) : Nat := 0x50010C + 0x20 * i
abbrev R.MOD_CH_STATUS (i : Nat) : Nat := 0x500110 + 0x20 * i
abbrev R.MOD_CH_CTRL (i : Nat) : Nat := 0x500114 + 0x20 * i
abbrev R.MOD_CH_CLIP_CNT (i : Nat) : Nat := 0x500118 + 0x20 * i
abbrev R.MOD_CH_TRIP_CNT (i : Nat) : Nat := 0x50011C + 0x20 * i
abbrev R.MOD_CH_UV_CNT (i : Nat) : Nat := 0x500600 + 0x4 * i

/-! SNS block: spec chapter 08, offsets of R516. -/
abbrev R.SNS_CTRL : Nat := 0x510000
abbrev R.SNS_CLK_CFG : Nat := 0x510004
abbrev R.SNS_STATUS : Nat := 0x510008
abbrev R.SNS_DEC : Nat := 0x51000C
abbrev R.SNS_CH_CFG (i : Nat) : Nat := 0x510100 + 0x80 * i
abbrev R.SNS_CH_VFS (i : Nat) : Nat := 0x510104 + 0x80 * i
abbrev R.SNS_CH_IFS (i : Nat) : Nat := 0x510108 + 0x80 * i
abbrev R.SNS_CH_TRIP (i : Nat) : Nat := 0x51010C + 0x80 * i
abbrev R.SNS_CH_PILOT (i : Nat) : Nat := 0x510110 + 0x80 * i
abbrev R.SNS_CH_PAMP (i : Nat) : Nat := 0x510114 + 0x80 * i
abbrev R.SNS_CH_ZCFG (i : Nat) : Nat := 0x510118 + 0x80 * i
abbrev R.SNS_CH_ZTH (i : Nat) : Nat := 0x51011C + 0x80 * i
abbrev R.SNS_CH_ZBASE (i : Nat) : Nat := 0x510120 + 0x80 * i
abbrev R.SNS_CH_ZMAG (i : Nat) : Nat := 0x510124 + 0x80 * i
abbrev R.SNS_CH_ZPH (i : Nat) : Nat := 0x510128 + 0x80 * i
abbrev R.SNS_CH_ZFLAGS (i : Nat) : Nat := 0x51012C + 0x80 * i
abbrev R.SNS_CH_PLIM (i : Nat) : Nat := 0x510130 + 0x80 * i
abbrev R.SNS_CH_PWIN (i : Nat) : Nat := 0x510134 + 0x80 * i
abbrev R.SNS_CH_PATT (i : Nat) : Nat := 0x510138 + 0x80 * i
abbrev R.SNS_CH_PREL (i : Nat) : Nat := 0x51013C + 0x80 * i
abbrev R.SNS_CH_PNOW (i : Nat) : Nat := 0x510140 + 0x80 * i
abbrev R.SNS_CH_PGR (i : Nat) : Nat := 0x510144 + 0x80 * i
abbrev R.SNS_CH_TRIP_CNT (i : Nat) : Nat := 0x510148 + 0x80 * i
abbrev R.SNS_CH_OVL_CNT (i : Nat) : Nat := 0x51014C + 0x80 * i

/-! CLK block: spec chapter 09, offsets of R516. -/
abbrev R.CLK_CTRL : Nat := 0x600000
abbrev R.CLK_STATUS : Nat := 0x600004
abbrev R.CLK_REF_CFG (i : Nat) : Nat := 0x600010 + 0x4 * i
abbrev R.CLK_REF_GEN (i : Nat) : Nat := 0x600030 + 0x4 * i
abbrev R.CLK_REF_STATUS (i : Nat) : Nat := 0x600050 + 0x4 * i
abbrev R.CLK_DISPUTE : Nat := 0x600070
abbrev R.CLK_DPLL_CFG : Nat := 0x600074
abbrev R.CLK_PHASE_ERR : Nat := 0x600078
abbrev R.CLK_DCO_NOW : Nat := 0x60007C
abbrev R.CLK_DCO_STEER : Nat := 0x600080
abbrev R.CLK_BUILDOUT_LO : Nat := 0x600084
abbrev R.CLK_BUILDOUT_HI : Nat := 0x600088
abbrev R.CLK_STEP_LO : Nat := 0x60008C
abbrev R.CLK_STEP_HI : Nat := 0x600090
abbrev R.CLK_HO_CTRL : Nat := 0x6000A0
abbrev R.CLK_OSC_TEMP : Nat := 0x6000A4
abbrev R.CLK_HO_T0 : Nat := 0x6000A8
abbrev R.CLK_HO_U0 : Nat := 0x6000AC
abbrev R.CLK_HO_C1 : Nat := 0x6000B0
abbrev R.CLK_HO_C2 : Nat := 0x6000B4
abbrev R.CLK_HO_C3 : Nat := 0x6000B8
abbrev R.CLK_HO_A : Nat := 0x6000BC
abbrev R.CLK_HO_B : Nat := 0x6000C0
abbrev R.CLK_HO_AGE : Nat := 0x6000C4
abbrev R.CLK_HO_PRED : Nat := 0x6000C8
abbrev R.CLK_SWITCH_CNT : Nat := 0x6000E0
abbrev R.CLK_DISQ_CNT : Nat := 0x6000E4
abbrev R.CLK_DISPUTE_CNT : Nat := 0x6000E8
abbrev R.CLK_SLEW_CNT : Nat := 0x6000EC
abbrev R.CLK_STEP_CNT : Nat := 0x6000F0

/-! TIM block: spec chapter 09, offsets of R516. -/
abbrev R.TIM_CFG : Nat := 0x610000
abbrev R.TIM_STATUS : Nat := 0x610004
abbrev R.TIM_NOW_S_LO : Nat := 0x610010
abbrev R.TIM_NOW_S_HI : Nat := 0x610014
abbrev R.TIM_NOW_NS : Nat := 0x610018
abbrev R.TIM_FREE_LO : Nat := 0x610020
abbrev R.TIM_FREE_HI : Nat := 0x610024
abbrev R.TIM_OFS (i : Nat) : Nat := 0x610028 + 0x4 * i
abbrev R.TIM_RATE_LO : Nat := 0x610034
abbrev R.TIM_RATE_HI : Nat := 0x610038
abbrev R.TIM_ADJ_CTRL : Nat := 0x61003C
abbrev R.TIM_SET_S_LO : Nat := 0x610040
abbrev R.TIM_SET_S_HI : Nat := 0x610044
abbrev R.TIM_SET_NS : Nat := 0x610048
abbrev R.TIM_SET_CTRL : Nat := 0x61004C
abbrev R.TIM_PORT_LAT_RX (i : Nat) : Nat := 0x610060 + 0x8 * i
abbrev R.TIM_PORT_LAT_TX (i : Nat) : Nat := 0x610064 + 0x8 * i
abbrev R.TIM_PPSIN_S_LO : Nat := 0x610080
abbrev R.TIM_PPSIN_S_HI : Nat := 0x610084
abbrev R.TIM_PPSIN_NS : Nat := 0x610088
abbrev R.TIM_LATE_LAUNCH_CNT : Nat := 0x610090
abbrev R.TIM_TMR_SKIP_CNT : Nat := 0x610094
abbrev R.TIM_TMR_CTRL (i : Nat) : Nat := 0x610100 + 0x20 * i
abbrev R.TIM_TMR_S_LO (i : Nat) : Nat := 0x610104 + 0x20 * i
abbrev R.TIM_TMR_S_HI (i : Nat) : Nat := 0x610108 + 0x20 * i
abbrev R.TIM_TMR_NS (i : Nat) : Nat := 0x61010C + 0x20 * i
abbrev R.TIM_TMR_PER (i : Nat) : Nat := 0x610110 + 0x20 * i

/-! MAC block: spec chapter 10, offsets of R516. -/
abbrev R.MAC_CTRL (i : Nat) : Nat := 0x700000 + 0x10000 * i
abbrev R.MAC_CFG (i : Nat) : Nat := 0x700004 + 0x10000 * i
abbrev R.MAC_STATUS (i : Nat) : Nat := 0x700008 + 0x10000 * i
abbrev R.MAC_ADDR_LO (i : Nat) : Nat := 0x700010 + 0x10000 * i
abbrev R.MAC_ADDR_HI (i : Nat) : Nat := 0x700014 + 0x10000 * i
abbrev R.MAC_MC_HASH_LO (i : Nat) : Nat := 0x700018 + 0x10000 * i
abbrev R.MAC_MC_HASH_HI (i : Nat) : Nat := 0x70001C + 0x10000 * i
abbrev R.MAC_EEE (i : Nat) : Nat := 0x700020 + 0x10000 * i
abbrev R.MAC_EEE_IDLE (i : Nat) : Nat := 0x700024 + 0x10000 * i
abbrev R.MAC_PAUSE_LEFT (i : Nat) : Nat := 0x700028 + 0x10000 * i
abbrev R.MAC_TX_FRM_CNT (i : Nat) : Nat := 0x700040 + 0x10000 * i
abbrev R.MAC_RX_FRM_CNT (i : Nat) : Nat := 0x700044 + 0x10000 * i
abbrev R.MAC_RX_FCS_CNT (i : Nat) : Nat := 0x700048 + 0x10000 * i
abbrev R.MAC_RX_RUNT_CNT (i : Nat) : Nat := 0x70004C + 0x10000 * i
abbrev R.MAC_RX_OVERSIZE_CNT (i : Nat) : Nat := 0x700050 + 0x10000 * i
abbrev R.MAC_RX_LEN_CNT (i : Nat) : Nat := 0x700054 + 0x10000 * i
abbrev R.MAC_RX_OVF_CNT (i : Nat) : Nat := 0x700058 + 0x10000 * i
abbrev R.MAC_RX_FILTER_CNT (i : Nat) : Nat := 0x70005C + 0x10000 * i
abbrev R.MAC_RX_PAUSE_CNT (i : Nat) : Nat := 0x700060 + 0x10000 * i
abbrev R.MAC_RX_CTRL_DROP_CNT (i : Nat) : Nat := 0x700064 + 0x10000 * i
abbrev R.MAC_TX_LINKDOWN_CNT (i : Nat) : Nat := 0x700068 + 0x10000 * i
abbrev R.MAC_LINK_DOWN_CNT (i : Nat) : Nat := 0x70006C + 0x10000 * i
abbrev R.MAC_FEC_CORR_CNT (i : Nat) : Nat := 0x700070 + 0x10000 * i
abbrev R.MAC_FEC_UNCORR_CNT (i : Nat) : Nat := 0x700074 + 0x10000 * i
abbrev R.MAC_LPI_TX_CNT (i : Nat) : Nat := 0x700078 + 0x10000 * i
abbrev R.MAC_LPI_RX_CNT (i : Nat) : Nat := 0x70007C + 0x10000 * i

/-! SDS block: spec chapter 10, offsets of R516. -/
abbrev R.SDS_CTRL (i : Nat) : Nat := 0x780000 + 0x1000 * i
abbrev R.SDS_STATUS (i : Nat) : Nat := 0x780004 + 0x1000 * i
abbrev R.SDS_RATE (i : Nat) : Nat := 0x780008 + 0x1000 * i
abbrev R.SDS_TX_EQ (i : Nat) : Nat := 0x78000C + 0x1000 * i
abbrev R.SDS_PRBS_CTRL (i : Nat) : Nat := 0x780020 + 0x1000 * i
abbrev R.SDS_PRBS_STATUS (i : Nat) : Nat := 0x780024 + 0x1000 * i
abbrev R.SDS_PRBS_ERR (i : Nat) : Nat := 0x780028 + 0x1000 * i
abbrev R.SDS_PRBS_BITS_LO (i : Nat) : Nat := 0x78002C + 0x1000 * i
abbrev R.SDS_PRBS_BITS_HI (i : Nat) : Nat := 0x780030 + 0x1000 * i
abbrev R.SDS_RESTART_CNT (i : Nat) : Nat := 0x780040 + 0x1000 * i
abbrev R.SDS_LOCK_LOSS_CNT (i : Nat) : Nat := 0x780044 + 0x1000 * i
abbrev R.SDS_SH_ERR_CNT (i : Nat) : Nat := 0x780048 + 0x1000 * i
abbrev R.SDS_PRBS_LOSS_CNT (i : Nat) : Nat := 0x78004C + 0x1000 * i

/-! HIF block: spec chapter 11, offsets of R516. -/
abbrev R.HIF_CTRL : Nat := 0x800000
abbrev R.HIF_STATUS : Nat := 0x800004
abbrev R.HIF_ID : Nat := 0x800008
abbrev R.HIF_DB_ADDR_LO : Nat := 0x800010
abbrev R.HIF_DB_ADDR_HI : Nat := 0x800014
abbrev R.HIF_SH_ADDR_LO : Nat := 0x800018
abbrev R.HIF_SH_ADDR_HI : Nat := 0x80001C
abbrev R.HIF_CMD_CFG : Nat := 0x800020
abbrev R.HIF_RING_ERR : Nat := 0x800024
abbrev R.HIF_DMA_ERR_ADDR_LO : Nat := 0x800028
abbrev R.HIF_DMA_ERR_ADDR_HI : Nat := 0x80002C
abbrev R.HIF_DRAM_LIMIT : Nat := 0x800030
abbrev R.HIF_RING_BASE_LO (i : Nat) : Nat := 0x800100 + 0x10 * i
abbrev R.HIF_RING_BASE_HI (i : Nat) : Nat := 0x800104 + 0x10 * i
abbrev R.HIF_RING_SIZE (i : Nat) : Nat := 0x800108 + 0x10 * i
abbrev R.HIF_RING_CTRL (i : Nat) : Nat := 0x80010C + 0x10 * i
abbrev R.HIF_CMD_CNT : Nat := 0x800200
abbrev R.HIF_LATE_CNT : Nat := 0x800204
abbrev R.HIF_REJECT_CNT : Nat := 0x800208
abbrev R.HIF_DMA_ERR_CNT : Nat := 0x80020C
abbrev R.HIF_EVT_DROP_CNT : Nat := 0x800210
abbrev R.HIF_CPL_DROP_CNT : Nat := 0x800214
abbrev R.HIF_MTX_CNT : Nat := 0x800218
abbrev R.HIF_MRX_CNT : Nat := 0x80021C
abbrev R.HIF_MRX_TRUNC_CNT : Nat := 0x800220
abbrev R.HIF_MRX_DROP_CNT : Nat := 0x800224
abbrev R.HIF_MSIX_ADDR_LO (i : Nat) : Nat := 0x801000 + 0x10 * i
abbrev R.HIF_MSIX_ADDR_HI (i : Nat) : Nat := 0x801004 + 0x10 * i
abbrev R.HIF_MSIX_DATA (i : Nat) : Nat := 0x801008 + 0x10 * i
abbrev R.HIF_MSIX_VCTRL (i : Nat) : Nat := 0x80100C + 0x10 * i
abbrev R.HIF_MSIX_PBA (i : Nat) : Nat := 0x801800 + 0x4 * i

/-! TDM block: spec chapter 12, offsets of R516. -/
abbrev R.TDM_CFG (i : Nat) : Nat := 0x900000 + 0x100 * i
abbrev R.TDM_STATUS (i : Nat) : Nat := 0x900004 + 0x100 * i
abbrev R.TDM_RATE (i : Nat) : Nat := 0x900008 + 0x100 * i
abbrev R.TDM_IN_MAP (i : Nat) (j : Nat) : Nat := 0x900010 + 0x100 * i + 0x4 * j
abbrev R.TDM_OUT_MAP (i : Nat) (j : Nat) : Nat := 0x900030 + 0x100 * i + 0x4 * j
abbrev R.TDM_SLIP_DROP_CNT (i : Nat) : Nat := 0x900060 + 0x100 * i
abbrev R.TDM_SLIP_REP_CNT (i : Nat) : Nat := 0x900064 + 0x100 * i
abbrev R.TDM_RESYNC_CNT (i : Nat) : Nat := 0x900068 + 0x100 * i
abbrev R.TDM_UNDERRUN_CNT (i : Nat) : Nat := 0x90006C + 0x100 * i
abbrev R.TDM_LOSS_CNT (i : Nat) : Nat := 0x900070 + 0x100 * i
abbrev R.TDM_FALLBACK_CNT (i : Nat) : Nat := 0x900074 + 0x100 * i

/-! TDMG block: spec chapter 12, offsets of R516. -/
abbrev R.TDM_APPLY_LO : Nat := 0x901000
abbrev R.TDM_APPLY_HI : Nat := 0x901004
abbrev R.TDM_GSTATUS : Nat := 0x901008
abbrev R.TDM_MCLK_CFG (i : Nat) : Nat := 0x901010 + 0x4 * i
abbrev R.TDM_GRP_UNDERRUN_CNT (i : Nat) : Nat := 0x901040 + 0x4 * i

/-! XBR block: spec chapter 13, offsets of R516. -/
abbrev R.XBR_STATUS : Nat := 0xA00000
abbrev R.XBR_QOS_CFG : Nat := 0xA00004
abbrev R.XBR_DERR_ADDR_LO : Nat := 0xA00010
abbrev R.XBR_DERR_ADDR_HI : Nat := 0xA00014
abbrev R.XBR_DERR_INFO : Nat := 0xA00018
abbrev R.XBR_DERR_CNT : Nat := 0xA0001C
abbrev R.XBR_DRAIN_CNT : Nat := 0xA00020
abbrev R.XBR_DRAIN_MAX : Nat := 0xA00024
abbrev R.XBR_CONF_CNT (i : Nat) : Nat := 0xA01000 + 0x4 * i

/-! MEM block: spec chapter 13, offsets of R516. -/
abbrev R.MEM_STATUS : Nat := 0xA10000
abbrev R.MEM_SCRUB_CFG : Nat := 0xA10004
abbrev R.MEM_MARCH_CTRL : Nat := 0xA10010
abbrev R.MEM_MARCH_STATUS : Nat := 0xA10014
abbrev R.MEM_ECC_ADDR_LO : Nat := 0xA10020
abbrev R.MEM_ECC_ADDR_HI : Nat := 0xA10024
abbrev R.MEM_ECC_INFO : Nat := 0xA10028
abbrev R.MEM_ECC_CORR_CNT : Nat := 0xA1002C
abbrev R.MEM_ECC_UNCORR_CNT : Nat := 0xA10030
abbrev R.MEM_REPAIR_USED : Nat := 0xA10034
abbrev R.MEM_REPAIR_IDX : Nat := 0xA10040
abbrev R.MEM_REPAIR_DATA : Nat := 0xA10044

/-! DDR block: spec chapter 14, offsets of R516. -/
abbrev R.DDR_CTRL : Nat := 0xB00000
abbrev R.DDR_STATUS : Nat := 0xB00004
abbrev R.DDR_CFG : Nat := 0xB00008
abbrev R.DDR_CAP : Nat := 0xB0000C
abbrev R.DDR_TEMP : Nat := 0xB00010
abbrev R.DDR_REF_STATUS : Nat := 0xB00014
abbrev R.DDR_PORT_CFG : Nat := 0xB00018
abbrev R.DDR_RT_CFG : Nat := 0xB0001C
abbrev R.DDR_SCRUB_CFG : Nat := 0xB00020
abbrev R.DDR_ECC_CFG : Nat := 0xB00024
abbrev R.DDR_ECC_ADDR_LO : Nat := 0xB00030
abbrev R.DDR_ECC_ADDR_HI : Nat := 0xB00034
abbrev R.DDR_ECC_INFO : Nat := 0xB00038
abbrev R.DDR_TRN_CTRL : Nat := 0xB00040
abbrev R.DDR_TRN_STATUS : Nat := 0xB00044
abbrev R.DDR_TRN_PASS (i : Nat) : Nat := 0xB00048 + 0x4 * i
abbrev R.DDR_TRN_ERR : Nat := 0xB00054
abbrev R.DDR_TRN_USER (i : Nat) : Nat := 0xB00060 + 0x4 * i
abbrev R.DDR_LANE_WL (i : Nat) : Nat := 0xB00100 + 0x10 * i
abbrev R.DDR_LANE_GATE (i : Nat) : Nat := 0xB00104 + 0x10 * i
abbrev R.DDR_LANE_RDQS (i : Nat) : Nat := 0xB00108 + 0x10 * i
abbrev R.DDR_BIT_DESKEW (i : Nat) : Nat := 0xB00200 + 0x4 * i
abbrev R.DDR_VREF : Nat := 0xB00340
abbrev R.DDR_ECC_CORR_CNT : Nat := 0xB00400
abbrev R.DDR_ECC_UNCORR_CNT : Nat := 0xB00404
abbrev R.DDR_REF_POSTPONE_CNT : Nat := 0xB00408
abbrev R.DDR_REF_FORCED_CNT : Nat := 0xB0040C
abbrev R.DDR_REF_HOT_CNT : Nat := 0xB00410
abbrev R.DDR_PANIC_CYC : Nat := 0xB00414
abbrev R.DDR_SR_CNT : Nat := 0xB00418

/-! TWI block: spec chapter 16, offsets of R516. -/
abbrev R.TWI_TGT_CFG : Nat := 0xC00000
abbrev R.TWI_TGT_STATUS : Nat := 0xC00004
abbrev R.TWI_TGT_WIN : Nat := 0xC00008
abbrev R.TWI_TGT_PTR : Nat := 0xC0000C
abbrev R.TWI_TGT_XFER_CNT : Nat := 0xC00010
abbrev R.TWI_TGT_NACK_CNT : Nat := 0xC00014
abbrev R.TWI_TGT_DISC_CNT : Nat := 0xC00018
abbrev R.TWI_TGT_STRETCH_TO_CNT : Nat := 0xC0001C
abbrev R.TWI_C_CFG (i : Nat) : Nat := 0xC00100 + 0x100 * i
abbrev R.TWI_C_STATUS (i : Nat) : Nat := 0xC00104 + 0x100 * i
abbrev R.TWI_C_TIMING0 (i : Nat) : Nat := 0xC00108 + 0x100 * i
abbrev R.TWI_C_TIMING1 (i : Nat) : Nat := 0xC0010C + 0x100 * i
abbrev R.TWI_C_TIMING2 (i : Nat) : Nat := 0xC00110 + 0x100 * i
abbrev R.TWI_C_XFER_CNT (i : Nat) : Nat := 0xC00120 + 0x100 * i
abbrev R.TWI_C_NACK_CNT (i : Nat) : Nat := 0xC00124 + 0x100 * i
abbrev R.TWI_C_PROTO_CNT (i : Nat) : Nat := 0xC00128 + 0x100 * i
abbrev R.TWI_C_CLEAR_CNT (i : Nat) : Nat := 0xC0012C + 0x100 * i

/-! DBG block: spec chapter 19, offsets of R516. -/

/-! The fields of the registers. -/

abbrev F.SYS_ID_LO_id : Fld := ⟨R.SYS_ID_LO, 31, 0⟩
abbrev F.SYS_ID_HI_id : Fld := ⟨R.SYS_ID_HI, 31, 0⟩
abbrev F.SYS_STRAPS_pref : Fld := ⟨R.SYS_STRAPS, 0, 0⟩
abbrev F.SYS_STRAPS_twi_addr : Fld := ⟨R.SYS_STRAPS, 2, 1⟩
abbrev F.SYS_STRAPS_test_mode : Fld := ⟨R.SYS_STRAPS, 3, 3⟩
abbrev F.SYS_REMAP_remap : Fld := ⟨R.SYS_REMAP, 0, 0⟩
abbrev F.SYS_CTRL_warm_rst : Fld := ⟨R.SYS_CTRL, 0, 0⟩
abbrev F.SYS_CTRL_key : Fld := ⟨R.SYS_CTRL, 31, 16⟩
abbrev F.SYS_RESET_REASON_reason : Fld := ⟨R.SYS_RESET_REASON, 7, 0⟩
abbrev F.SYS_BOOT_STATUS_slot : Fld := ⟨R.SYS_BOOT_STATUS, 0, 0⟩
abbrev F.SYS_BOOT_STATUS_reason : Fld := ⟨R.SYS_BOOT_STATUS, 7, 4⟩
abbrev F.SYS_BOOT_STATUS_attempt : Fld := ⟨R.SYS_BOOT_STATUS, 31, 8⟩
abbrev F.SYS_BOOT_CTRL_ok : Fld := ⟨R.SYS_BOOT_CTRL, 0, 0⟩
abbrev F.SYS_BOOT_CTRL_fail : Fld := ⟨R.SYS_BOOT_CTRL, 1, 1⟩
abbrev F.SYS_BOOT_CTRL_next : Fld := ⟨R.SYS_BOOT_CTRL, 2, 2⟩
abbrev F.SYS_BOOT_CTRL_last_good : Fld := ⟨R.SYS_BOOT_CTRL, 3, 3⟩
abbrev F.SYS_BOOT_FAIL_CNT_count : Fld := ⟨R.SYS_BOOT_FAIL_CNT, 31, 0⟩
abbrev F.SYS_BOOT_WDT_sec : Fld := ⟨R.SYS_BOOT_WDT, 7, 0⟩
abbrev F.SYS_BOOT_WAIT_sec : Fld := ⟨R.SYS_BOOT_WAIT, 5, 0⟩
abbrev F.SYS_KEY_REVOKE_revoked : Fld := ⟨R.SYS_KEY_REVOKE, 3, 0⟩
abbrev F.SYS_FW_VERSION_version : Fld := ⟨R.SYS_FW_VERSION, 31, 0⟩
abbrev F.SYS_FW_CTRL_reload : Fld := ⟨R.SYS_FW_CTRL, 0, 0⟩
abbrev F.SYS_FW_STATUS_reloading : Fld := ⟨R.SYS_FW_STATUS, 0, 0⟩
abbrev F.SYS_FW_STATUS_left : Fld := ⟨R.SYS_FW_STATUS, 15, 8⟩
abbrev F.SYS_WDT_CFG_ms : Fld := ⟨R.SYS_WDT_CFG, 13, 0⟩
abbrev F.SYS_WDT_KICK_core : Fld := ⟨R.SYS_WDT_KICK, 0, 0⟩
abbrev F.SYS_RELOAD_CNT_count : Fld := ⟨R.SYS_RELOAD_CNT, 31, 0⟩
abbrev F.PWR_DOM_REQ_req : Fld := ⟨R.PWR_DOM_REQ, 18, 0⟩
abbrev F.PWR_DOM_ON_on : Fld := ⟨R.PWR_DOM_ON, 18, 0⟩
abbrev F.PWR_DOM_BUSY_busy : Fld := ⟨R.PWR_DOM_BUSY, 18, 0⟩
abbrev F.PWR_DOM_FAULT_fault : Fld := ⟨R.PWR_DOM_FAULT, 18, 0⟩
abbrev F.PWR_STATUS_vin_ok : Fld := ⟨R.PWR_STATUS, 0, 0⟩
abbrev F.PWR_STATUS_on_vbat : Fld := ⟨R.PWR_STATUS, 1, 1⟩
abbrev F.PWR_STATUS_temp_hi : Fld := ⟨R.PWR_STATUS, 2, 2⟩
abbrev F.PWR_STATUS_temp_crit : Fld := ⟨R.PWR_STATUS, 3, 3⟩
abbrev F.PWR_STATUS_refused : Fld := ⟨R.PWR_STATUS, 8, 8⟩
abbrev F.PWR_STATUS_reg_fault : Fld := ⟨R.PWR_STATUS, 9, 9⟩
abbrev F.PWR_DOM_ERR_domain : Fld := ⟨R.PWR_DOM_ERR, 4, 0⟩
abbrev F.PWR_DOM_ERR_kind : Fld := ⟨R.PWR_DOM_ERR, 8, 8⟩
abbrev F.PWR_VIN_vin : Fld := ⟨R.PWR_VIN, 11, 0⟩
abbrev F.PWR_TEMP_temp : Fld := ⟨R.PWR_TEMP, 7, 0⟩
abbrev F.PWR_TEMP_CFG_hi : Fld := ⟨R.PWR_TEMP_CFG, 7, 0⟩
abbrev F.PWR_IN_MW_mw : Fld := ⟨R.PWR_IN_MW, 15, 0⟩
abbrev F.PWR_REFUSE_CNT_count : Fld := ⟨R.PWR_REFUSE_CNT, 31, 0⟩
abbrev F.PWR_FAULT_CNT_count : Fld := ⟨R.PWR_FAULT_CNT, 31, 0⟩
abbrev F.RTC_CTRL_set : Fld := ⟨R.RTC_CTRL, 0, 0⟩
abbrev F.RTC_CTRL_svc_wr : Fld := ⟨R.RTC_CTRL, 31, 16⟩
abbrev F.RTC_STATUS_osc_ok : Fld := ⟨R.RTC_STATUS, 0, 0⟩
abbrev F.RTC_STATUS_vbat_low : Fld := ⟨R.RTC_STATUS, 1, 1⟩
abbrev F.RTC_STATUS_lost : Fld := ⟨R.RTC_STATUS, 2, 2⟩
abbrev F.RTC_SEC_LO_s : Fld := ⟨R.RTC_SEC_LO, 31, 0⟩
abbrev F.RTC_SEC_HI_s : Fld := ⟨R.RTC_SEC_HI, 7, 0⟩
abbrev F.RTC_SET_LO_s : Fld := ⟨R.RTC_SET_LO, 31, 0⟩
abbrev F.RTC_SET_HI_s : Fld := ⟨R.RTC_SET_HI, 7, 0⟩
abbrev F.RTC_DATE_year : Fld := ⟨R.RTC_DATE, 7, 0⟩
abbrev F.RTC_DATE_month : Fld := ⟨R.RTC_DATE, 11, 8⟩
abbrev F.RTC_DATE_day : Fld := ⟨R.RTC_DATE, 16, 12⟩
abbrev F.RTC_DATE_weekday : Fld := ⟨R.RTC_DATE, 19, 17⟩
abbrev F.RTC_TIME_sec : Fld := ⟨R.RTC_TIME, 5, 0⟩
abbrev F.RTC_TIME_min : Fld := ⟨R.RTC_TIME, 13, 8⟩
abbrev F.RTC_TIME_hour : Fld := ⟨R.RTC_TIME, 20, 16⟩
abbrev F.RTC_CAL_corr : Fld := ⟨R.RTC_CAL, 15, 0⟩
abbrev F.RTC_SVC_HOURS_hours : Fld := ⟨R.RTC_SVC_HOURS, 31, 0⟩
abbrev F.RTC_SVC_SEC_sec : Fld := ⟨R.RTC_SVC_SEC, 11, 0⟩
abbrev F.FLT_MODE_midwinter : Fld := ⟨R.FLT_MODE, 0, 0⟩
abbrev F.FLT_MODE_test_pin : Fld := ⟨R.FLT_MODE, 1, 1⟩
abbrev F.FLT_STATUS_LO_latched : Fld := ⟨R.FLT_STATUS_LO, 31, 0⟩
abbrev F.FLT_STATUS_HI_latched : Fld := ⟨R.FLT_STATUS_HI, 31, 0⟩
abbrev F.FLT_UNACK_LO_unack : Fld := ⟨R.FLT_UNACK_LO, 31, 0⟩
abbrev F.FLT_UNACK_HI_unack : Fld := ⟨R.FLT_UNACK_HI, 31, 0⟩
abbrev F.FLT_ACTIVE_LO_active : Fld := ⟨R.FLT_ACTIVE_LO, 31, 0⟩
abbrev F.FLT_ACTIVE_HI_active : Fld := ⟨R.FLT_ACTIVE_HI, 31, 0⟩
abbrev F.FLT_ACK_LO_ack : Fld := ⟨R.FLT_ACK_LO, 31, 0⟩
abbrev F.FLT_ACK_HI_ack : Fld := ⟨R.FLT_ACK_HI, 31, 0⟩
abbrev F.FLT_WORST_class : Fld := ⟨R.FLT_WORST, 1, 0⟩
abbrev F.FLT_WORST_any : Fld := ⟨R.FLT_WORST, 2, 2⟩
abbrev F.FLT_CLASS0_class : Fld := ⟨R.FLT_CLASS0, 31, 0⟩
abbrev F.FLT_CLASS1_class : Fld := ⟨R.FLT_CLASS1, 23, 0⟩
abbrev F.FLT_LVL_MAP_c0 : Fld := ⟨R.FLT_LVL_MAP, 2, 0⟩
abbrev F.FLT_LVL_MAP_c1 : Fld := ⟨R.FLT_LVL_MAP, 6, 4⟩
abbrev F.FLT_LVL_MAP_c2 : Fld := ⟨R.FLT_LVL_MAP, 10, 8⟩
abbrev F.FLT_LVL_MAP_c3 : Fld := ⟨R.FLT_LVL_MAP, 14, 12⟩
abbrev F.FLT_INJ_TAG_LO_tag : Fld := ⟨R.FLT_INJ_TAG_LO, 31, 0⟩
abbrev F.FLT_INJ_TAG_HI_tag : Fld := ⟨R.FLT_INJ_TAG_HI, 31, 0⟩
abbrev F.FLT_REAL_LO_real : Fld := ⟨R.FLT_REAL_LO, 31, 0⟩
abbrev F.FLT_REAL_HI_real : Fld := ⟨R.FLT_REAL_HI, 31, 0⟩
abbrev F.FLT_INJ_CTRL_source : Fld := ⟨R.FLT_INJ_CTRL, 5, 0⟩
abbrev F.FLT_INJ_CTRL_inject : Fld := ⟨R.FLT_INJ_CTRL, 8, 8⟩
abbrev F.FLT_INJ_CTRL_dry_run : Fld := ⟨R.FLT_INJ_CTRL, 9, 9⟩
abbrev F.FLT_INJ_CTRL_class : Fld := ⟨R.FLT_INJ_CTRL, 13, 12⟩
abbrev F.FLT_INJ_DATA_data : Fld := ⟨R.FLT_INJ_DATA, 31, 0⟩
abbrev F.FLT_LOG_WP_wp : Fld := ⟨R.FLT_LOG_WP, 5, 0⟩
abbrev F.FLT_LOG_WP_wrapped : Fld := ⟨R.FLT_LOG_WP, 6, 6⟩
abbrev F.FLT_LOG_IDX_entry : Fld := ⟨R.FLT_LOG_IDX, 5, 0⟩
abbrev F.FLT_LOG_IDX_word : Fld := ⟨R.FLT_LOG_IDX, 10, 8⟩
abbrev F.FLT_LOG_DATA_data : Fld := ⟨R.FLT_LOG_DATA, 31, 0⟩
abbrev F.FLT_OCC_CNT_count : Fld := ⟨R.FLT_OCC_CNT, 31, 0⟩
abbrev F.FLT_ESC_CNT_count : Fld := ⟨R.FLT_ESC_CNT, 31, 0⟩
abbrev F.FLT_LOG_OVW_CNT_count : Fld := ⟨R.FLT_LOG_OVW_CNT, 31, 0⟩
abbrev F.FLT_DBG_ATTACH_CNT_count : Fld := ⟨R.FLT_DBG_ATTACH_CNT, 31, 0⟩
abbrev F.TCK_CTRL_run : Fld := ⟨R.TCK_CTRL, 0, 0⟩
abbrev F.TCK_CFG_fs_sel : Fld := ⟨R.TCK_CFG, 1, 0⟩
abbrev F.TCK_CFG_t_sel : Fld := ⟨R.TCK_CFG, 3, 2⟩
abbrev F.TCK_CFG_link_off : Fld := ⟨R.TCK_CFG, 12, 8⟩
abbrev F.TCK_CFG_launch_off : Fld := ⟨R.TCK_CFG, 24, 16⟩
abbrev F.TCK_STATUS_running : Fld := ⟨R.TCK_STATUS, 0, 0⟩
abbrev F.TCK_STATUS_grid_valid : Fld := ⟨R.TCK_STATUS, 1, 1⟩
abbrev F.TCK_STATUS_cfg_err : Fld := ⟨R.TCK_STATUS, 2, 2⟩
abbrev F.TCK_STATUS_step_seen : Fld := ⟨R.TCK_STATUS, 3, 3⟩
abbrev F.TCK_STATUS_dbf_late : Fld := ⟨R.TCK_STATUS, 4, 4⟩
abbrev F.TCK_STATUS_time_src : Fld := ⟨R.TCK_STATUS, 9, 8⟩
abbrev F.TCK_NUM_LO_tick_num : Fld := ⟨R.TCK_NUM_LO, 31, 0⟩
abbrev F.TCK_NUM_HI_tick_num : Fld := ⟨R.TCK_NUM_HI, 31, 0⟩
abbrev F.TCK_POS_sample_idx : Fld := ⟨R.TCK_POS, 4, 0⟩
abbrev F.TCK_POS_frac : Fld := ⟨R.TCK_POS, 15, 8⟩
abbrev F.TCK_BUDGET_cycles : Fld := ⟨R.TCK_BUDGET, 19, 0⟩
abbrev F.TCK_PERIOD_NS_period_ns : Fld := ⟨R.TCK_PERIOD_NS, 19, 0⟩
abbrev F.TCK_SKIP_CNT_count : Fld := ⟨R.TCK_SKIP_CNT, 31, 0⟩
abbrev F.TCK_REPEAT_CNT_count : Fld := ⟨R.TCK_REPEAT_CNT, 31, 0⟩
abbrev F.TCK_DBF_LATE_CNT_count : Fld := ⟨R.TCK_DBF_LATE_CNT, 31, 0⟩
abbrev F.TCK_EVT_CFG_evt_div : Fld := ⟨R.TCK_EVT_CFG, 15, 0⟩
abbrev F.TCK_START_LO_start : Fld := ⟨R.TCK_START_LO, 31, 0⟩
abbrev F.TCK_START_HI_start : Fld := ⟨R.TCK_START_HI, 31, 0⟩
abbrev F.FAB_CTRL_steal_en : Fld := ⟨R.FAB_CTRL, 0, 0⟩
abbrev F.FAB_CTRL_xc_steal_en : Fld := ⟨R.FAB_CTRL, 1, 1⟩
abbrev F.FAB_CTRL_unload : Fld := ⟨R.FAB_CTRL, 2, 2⟩
abbrev F.FAB_STATUS_loaded : Fld := ⟨R.FAB_STATUS, 0, 0⟩
abbrev F.FAB_STATUS_loading : Fld := ⟨R.FAB_STATUS, 1, 1⟩
abbrev F.FAB_STATUS_cap_short : Fld := ⟨R.FAB_STATUS, 2, 2⟩
abbrev F.FAB_STATUS_wm_seen : Fld := ⟨R.FAB_STATUS, 3, 3⟩
abbrev F.FAB_STATUS_overrun : Fld := ⟨R.FAB_STATUS, 4, 4⟩
abbrev F.FAB_STATUS_load_err : Fld := ⟨R.FAB_STATUS, 5, 5⟩
abbrev F.FAB_STATUS_unfence_err : Fld := ⟨R.FAB_STATUS, 6, 6⟩
abbrev F.FAB_STATUS_load_err_code : Fld := ⟨R.FAB_STATUS, 15, 8⟩
abbrev F.FAB_GRAPH_ID_graph_id : Fld := ⟨R.FAB_GRAPH_ID, 31, 0⟩
abbrev F.FAB_RESERVE_reserve : Fld := ⟨R.FAB_RESERVE, 5, 0⟩
abbrev F.FAB_RESERVE_e_avail : Fld := ⟨R.FAB_RESERVE, 14, 8⟩
abbrev F.FAB_RESERVE_active_cnt : Fld := ⟨R.FAB_RESERVE, 22, 16⟩
abbrev F.FAB_ACTIVE_active (i : Nat) : Fld := ⟨R.FAB_ACTIVE i, 31, 0⟩
abbrev F.FAB_FENCE_fence (i : Nat) : Fld := ⟨R.FAB_FENCE i, 31, 0⟩
abbrev F.FAB_UNFENCE_unfence (i : Nat) : Fld := ⟨R.FAB_UNFENCE i, 31, 0⟩
abbrev F.FAB_STEAL_CFG_xc_min : Fld := ⟨R.FAB_STEAL_CFG, 4, 0⟩
abbrev F.FAB_LAST_CYC_cycles : Fld := ⟨R.FAB_LAST_CYC, 19, 0⟩
abbrev F.FAB_PEAK_CYC_cycles : Fld := ⟨R.FAB_PEAK_CYC, 19, 0⟩
abbrev F.FAB_OVR_TICK_LO_tick : Fld := ⟨R.FAB_OVR_TICK_LO, 31, 0⟩
abbrev F.FAB_OVR_TICK_HI_tick : Fld := ⟨R.FAB_OVR_TICK_HI, 31, 0⟩
abbrev F.FAB_FAIL_INFO_task_id : Fld := ⟨R.FAB_FAIL_INFO, 13, 0⟩
abbrev F.FAB_FAIL_INFO_reason : Fld := ⟨R.FAB_FAIL_INFO, 19, 16⟩
abbrev F.FAB_FAIL_INFO_engine : Fld := ⟨R.FAB_FAIL_INFO, 30, 24⟩
abbrev F.FAB_TBUD_INFO_task_id : Fld := ⟨R.FAB_TBUD_INFO, 13, 0⟩
abbrev F.FAB_FENCE_INFO_engine : Fld := ⟨R.FAB_FENCE_INFO, 6, 0⟩
abbrev F.FAB_FENCE_INFO_cause : Fld := ⟨R.FAB_FENCE_INFO, 11, 8⟩
abbrev F.FAB_WM_CNT_count : Fld := ⟨R.FAB_WM_CNT, 31, 0⟩
abbrev F.FAB_OVR_CNT_count : Fld := ⟨R.FAB_OVR_CNT, 31, 0⟩
abbrev F.FAB_LATE_TASK_CNT_count : Fld := ⟨R.FAB_LATE_TASK_CNT, 31, 0⟩
abbrev F.FAB_TASK_FAIL_CNT_count : Fld := ⟨R.FAB_TASK_FAIL_CNT, 31, 0⟩
abbrev F.FAB_RERUN_CNT_count : Fld := ⟨R.FAB_RERUN_CNT, 31, 0⟩
abbrev F.FAB_TBUD_CNT_count : Fld := ⟨R.FAB_TBUD_CNT, 31, 0⟩
abbrev F.FAB_STEAL_CNT_count : Fld := ⟨R.FAB_STEAL_CNT, 31, 0⟩
abbrev F.FAB_XSTEAL_CNT_count : Fld := ⟨R.FAB_XSTEAL_CNT, 31, 0⟩
abbrev F.ENG_STATUS_state (i : Nat) : Fld := ⟨R.ENG_STATUS i, 2, 0⟩
abbrev F.ENG_STATUS_in_evt (i : Nat) : Fld := ⟨R.ENG_STATUS i, 3, 3⟩
abbrev F.ENG_STATUS_task_id (i : Nat) : Fld := ⟨R.ENG_STATUS i, 21, 8⟩
abbrev F.ENG_PC_pc (i : Nat) : Fld := ⟨R.ENG_PC i, 11, 0⟩
abbrev F.ENG_PC_valid (i : Nat) : Fld := ⟨R.ENG_PC i, 31, 31⟩
abbrev F.ENG_TASK_CNT_count (i : Nat) : Fld := ⟨R.ENG_TASK_CNT i, 31, 0⟩
abbrev F.ENG_BUSY_CYC_count (i : Nat) : Fld := ⟨R.ENG_BUSY_CYC i, 31, 0⟩
abbrev F.ENG_DMA_WAIT_CYC_count (i : Nat) : Fld := ⟨R.ENG_DMA_WAIT_CYC i, 31, 0⟩
abbrev F.ENG_EVT_CNT_count (i : Nat) : Fld := ⟨R.ENG_EVT_CNT i, 31, 0⟩
abbrev F.ENG_ECC_CNT_count (i : Nat) : Fld := ⟨R.ENG_ECC_CNT i, 31, 0⟩
abbrev F.ENG_ECC_INFO_addr (i : Nat) : Fld := ⟨R.ENG_ECC_INFO i, 15, 0⟩
abbrev F.ENG_ECC_INFO_mem (i : Nat) : Fld := ⟨R.ENG_ECC_INFO i, 17, 16⟩
abbrev F.ENG_HOLD_MAX_cycles (i : Nat) : Fld := ⟨R.ENG_HOLD_MAX i, 12, 0⟩
abbrev F.ENG_MBOX_IN_data (i : Nat) : Fld := ⟨R.ENG_MBOX_IN i, 31, 0⟩
abbrev F.ENG_MBOX_OUT_data (i : Nat) : Fld := ⟨R.ENG_MBOX_OUT i, 31, 0⟩
abbrev F.ENG_MBOX_STATUS_in_full (i : Nat) : Fld := ⟨R.ENG_MBOX_STATUS i, 0, 0⟩
abbrev F.ENG_MBOX_STATUS_in_ovr (i : Nat) : Fld := ⟨R.ENG_MBOX_STATUS i, 1, 1⟩
abbrev F.ENG_MBOX_STATUS_out_valid (i : Nat) : Fld := ⟨R.ENG_MBOX_STATUS i, 2, 2⟩
abbrev F.MIX_CTRL_late_policy : Fld := ⟨R.MIX_CTRL, 0, 0⟩
abbrev F.MIX_STATUS_orphan : Fld := ⟨R.MIX_STATUS, 0, 0⟩
abbrev F.MIX_STATUS_sat : Fld := ⟨R.MIX_STATUS, 1, 1⟩
abbrev F.MIX_STATUS_cut : Fld := ⟨R.MIX_STATUS, 2, 2⟩
abbrev F.MIX_XP_CAP_count : Fld := ⟨R.MIX_XP_CAP, 17, 0⟩
abbrev F.MIX_XP_ACTIVE_count : Fld := ⟨R.MIX_XP_ACTIVE, 17, 0⟩
abbrev F.MIX_XP_FADING_count : Fld := ⟨R.MIX_XP_FADING, 17, 0⟩
abbrev F.MIX_METER_CFG_interval : Fld := ⟨R.MIX_METER_CFG, 15, 0⟩
abbrev F.MIX_PSET_STATUS_pending : Fld := ⟨R.MIX_PSET_STATUS, 6, 0⟩
abbrev F.MIX_PSET_STATUS_refresh_busy : Fld := ⟨R.MIX_PSET_STATUS, 7, 7⟩
abbrev F.MIX_PSET_STATUS_paired : Fld := ⟨R.MIX_PSET_STATUS, 8, 8⟩
abbrev F.MIX_PSET_STATUS_err : Fld := ⟨R.MIX_PSET_STATUS, 9, 9⟩
abbrev F.MIX_PSET_ERR_set_id : Fld := ⟨R.MIX_PSET_ERR, 11, 0⟩
abbrev F.MIX_PSET_ERR_reason : Fld := ⟨R.MIX_PSET_ERR, 15, 12⟩
abbrev F.MIX_PSET_ERR_IDX_index : Fld := ⟨R.MIX_PSET_ERR_IDX, 16, 0⟩
abbrev F.MIX_PSET_LAST_LO_tick : Fld := ⟨R.MIX_PSET_LAST_LO, 31, 0⟩
abbrev F.MIX_PSET_LAST_HI_tick : Fld := ⟨R.MIX_PSET_LAST_HI, 31, 0⟩
abbrev F.MIX_PSET_USED_units : Fld := ⟨R.MIX_PSET_USED, 16, 0⟩
abbrev F.MIX_SAT_CNT_count : Fld := ⟨R.MIX_SAT_CNT, 31, 0⟩
abbrev F.MIX_CUT_CNT_count : Fld := ⟨R.MIX_CUT_CNT, 31, 0⟩
abbrev F.MIX_METER_DROP_CNT_count : Fld := ⟨R.MIX_METER_DROP_CNT, 31, 0⟩
abbrev F.MIX_PSET_COMMIT_CNT_count : Fld := ⟨R.MIX_PSET_COMMIT_CNT, 31, 0⟩
abbrev F.MIX_PSET_REFUSE_CNT_count : Fld := ⟨R.MIX_PSET_REFUSE_CNT, 31, 0⟩
abbrev F.MIX_PSET_WITHDRAW_CNT_count : Fld := ⟨R.MIX_PSET_WITHDRAW_CNT, 31, 0⟩
abbrev F.DYN_CTRL_late_policy : Fld := ⟨R.DYN_CTRL, 0, 0⟩
abbrev F.DYN_STATUS_orphan : Fld := ⟨R.DYN_STATUS, 0, 0⟩
abbrev F.DYN_STATUS_sat : Fld := ⟨R.DYN_STATUS, 1, 1⟩
abbrev F.DYN_STATUS_cut : Fld := ⟨R.DYN_STATUS, 2, 2⟩
abbrev F.DYN_ACTIVE_count : Fld := ⟨R.DYN_ACTIVE, 9, 0⟩
abbrev F.DYN_GR_SEL_unit : Fld := ⟨R.DYN_GR_SEL, 8, 0⟩
abbrev F.DYN_GR_NOW_gr : Fld := ⟨R.DYN_GR_NOW, 31, 0⟩
abbrev F.DYN_SAT_CNT_count : Fld := ⟨R.DYN_SAT_CNT, 31, 0⟩
abbrev F.DYN_CUT_CNT_count : Fld := ⟨R.DYN_CUT_CNT, 31, 0⟩
abbrev F.RTE_CTRL_late_policy : Fld := ⟨R.RTE_CTRL, 0, 0⟩
abbrev F.RTE_STATUS_orphan : Fld := ⟨R.RTE_STATUS, 0, 0⟩
abbrev F.RTE_STATUS_sat : Fld := ⟨R.RTE_STATUS, 1, 1⟩
abbrev F.RTE_STATUS_cut : Fld := ⟨R.RTE_STATUS, 2, 2⟩
abbrev F.RTE_STATUS_dly_cfg_err : Fld := ⟨R.RTE_STATUS, 3, 3⟩
abbrev F.RTE_ACTIVE_count : Fld := ⟨R.RTE_ACTIVE, 12, 0⟩
abbrev F.RTE_FADING_count : Fld := ⟨R.RTE_FADING, 12, 0⟩
abbrev F.RTE_DLY_BASE_LO_addr : Fld := ⟨R.RTE_DLY_BASE_LO, 31, 12⟩
abbrev F.RTE_DLY_BASE_HI_addr : Fld := ⟨R.RTE_DLY_BASE_HI, 3, 0⟩
abbrev F.RTE_DLY_LEN_samples : Fld := ⟨R.RTE_DLY_LEN, 17, 0⟩
abbrev F.RTE_DLY_COUNT_lines : Fld := ⟨R.RTE_DLY_COUNT, 11, 0⟩
abbrev F.RTE_SAT_CNT_count : Fld := ⟨R.RTE_SAT_CNT, 31, 0⟩
abbrev F.RTE_DLY_WAIT_CNT_count : Fld := ⟨R.RTE_DLY_WAIT_CNT, 31, 0⟩
abbrev F.RTE_DLY_ECC_CNT_count : Fld := ⟨R.RTE_DLY_ECC_CNT, 31, 0⟩
abbrev F.RTE_CUT_CNT_count : Fld := ⟨R.RTE_CUT_CNT, 31, 0⟩
abbrev F.STR_CTRL_tx_free : Fld := ⟨R.STR_CTRL, 0, 0⟩
abbrev F.STR_CTRL_fwd_en : Fld := ⟨R.STR_CTRL, 1, 1⟩
abbrev F.STR_STATUS_err : Fld := ⟨R.STR_STATUS, 0, 0⟩
abbrev F.STR_STATUS_tx_late : Fld := ⟨R.STR_STATUS, 1, 1⟩
abbrev F.STR_STATUS_underrun : Fld := ⟨R.STR_STATUS, 2, 2⟩
abbrev F.STR_STATUS_unmatched : Fld := ⟨R.STR_STATUS, 3, 3⟩
abbrev F.STR_STATUS_pending : Fld := ⟨R.STR_STATUS, 14, 8⟩
abbrev F.STR_ERR_index : Fld := ⟨R.STR_ERR, 8, 0⟩
abbrev F.STR_ERR_dir : Fld := ⟨R.STR_ERR, 9, 9⟩
abbrev F.STR_ERR_reason : Fld := ⟨R.STR_ERR, 15, 12⟩
abbrev F.STR_ERR_channel : Fld := ⟨R.STR_ERR, 21, 16⟩
abbrev F.STR_ACTIVE_rx : Fld := ⟨R.STR_ACTIVE, 9, 0⟩
abbrev F.STR_ACTIVE_tx : Fld := ⟨R.STR_ACTIVE, 25, 16⟩
abbrev F.STR_CH_USED_rx : Fld := ⟨R.STR_CH_USED, 12, 0⟩
abbrev F.STR_CH_USED_tx : Fld := ⟨R.STR_CH_USED, 28, 16⟩
abbrev F.STR_BW_bytes (i : Nat) : Fld := ⟨R.STR_BW i, 19, 0⟩
abbrev F.STR_RX_UNMATCHED_CNT_count : Fld := ⟨R.STR_RX_UNMATCHED_CNT, 31, 0⟩
abbrev F.STR_RX_NOGRID_CNT_count : Fld := ⟨R.STR_RX_NOGRID_CNT, 31, 0⟩
abbrev F.STR_TX_LATE_CNT_count : Fld := ⟨R.STR_TX_LATE_CNT, 31, 0⟩
abbrev F.STR_RX_UNDERRUN_CNT_count : Fld := ⟨R.STR_RX_UNDERRUN_CNT, 31, 0⟩
abbrev F.STR_FWD_TX_CNT_count : Fld := ⟨R.STR_FWD_TX_CNT, 31, 0⟩
abbrev F.STR_FWD_DROP_CNT_count : Fld := ⟨R.STR_FWD_DROP_CNT, 31, 0⟩
abbrev F.STR_GRP_UNDERRUN_CNT_count (i : Nat) : Fld := ⟨R.STR_GRP_UNDERRUN_CNT i, 31, 0⟩
abbrev F.STR_RX_STATUS_state (i : Nat) : Fld := ⟨R.STR_RX_STATUS i, 1, 0⟩
abbrev F.STR_RX_STATUS_phase (i : Nat) : Fld := ⟨R.STR_RX_STATUS i, 6, 2⟩
abbrev F.STR_RX_STATUS_last_bad (i : Nat) : Fld := ⟨R.STR_RX_STATUS i, 10, 8⟩
abbrev F.STR_RX_STATUS_h (i : Nat) : Fld := ⟨R.STR_RX_STATUS i, 31, 16⟩
abbrev F.STR_RX_ACC_A_CNT_count (i : Nat) : Fld := ⟨R.STR_RX_ACC_A_CNT i, 31, 0⟩
abbrev F.STR_RX_ACC_B_CNT_count (i : Nat) : Fld := ⟨R.STR_RX_ACC_B_CNT i, 31, 0⟩
abbrev F.STR_RX_ACC_C_CNT_count (i : Nat) : Fld := ⟨R.STR_RX_ACC_C_CNT i, 31, 0⟩
abbrev F.STR_RX_ACC_P_CNT_count (i : Nat) : Fld := ⟨R.STR_RX_ACC_P_CNT i, 31, 0⟩
abbrev F.STR_RX_DUP_CNT_count (i : Nat) : Fld := ⟨R.STR_RX_DUP_CNT i, 31, 0⟩
abbrev F.STR_RX_STALE_CNT_count (i : Nat) : Fld := ⟨R.STR_RX_STALE_CNT i, 31, 0⟩
abbrev F.STR_RX_LATE_CNT_count (i : Nat) : Fld := ⟨R.STR_RX_LATE_CNT i, 31, 0⟩
abbrev F.STR_RX_EARLY_CNT_count (i : Nat) : Fld := ⟨R.STR_RX_EARLY_CNT i, 31, 0⟩
abbrev F.STR_RX_BAD_CNT_count (i : Nat) : Fld := ⟨R.STR_RX_BAD_CNT i, 31, 0⟩
abbrev F.STR_RX_UNDERRUN_CNT_S_count (i : Nat) : Fld := ⟨R.STR_RX_UNDERRUN_CNT_S i, 31, 0⟩
abbrev F.STR_TX_STATUS_enabled (i : Nat) : Fld := ⟨R.STR_TX_STATUS i, 0, 0⟩
abbrev F.STR_TX_STATUS_ports (i : Nat) : Fld := ⟨R.STR_TX_STATUS i, 3, 1⟩
abbrev F.STR_TX_STATUS_seq (i : Nat) : Fld := ⟨R.STR_TX_STATUS i, 31, 16⟩
abbrev F.STR_TX_SENT_CNT_count (i : Nat) : Fld := ⟨R.STR_TX_SENT_CNT i, 31, 0⟩
abbrev F.STR_TX_LATE_CNT_S_count (i : Nat) : Fld := ⟨R.STR_TX_LATE_CNT_S i, 31, 0⟩
abbrev F.STR_TX_SUPPR_CNT_count (i : Nat) : Fld := ⟨R.STR_TX_SUPPR_CNT i, 31, 0⟩
abbrev F.TWN_CTRL_pair_en : Fld := ⟨R.TWN_CTRL, 0, 0⟩
abbrev F.TWN_CTRL_own_req : Fld := ⟨R.TWN_CTRL, 1, 1⟩
abbrev F.TWN_CTRL_revert_en : Fld := ⟨R.TWN_CTRL, 2, 2⟩
abbrev F.TWN_CTRL_take_unsync : Fld := ⟨R.TWN_CTRL, 3, 3⟩
abbrev F.TWN_CTRL_lb_en : Fld := ⟨R.TWN_CTRL, 4, 4⟩
abbrev F.TWN_STATUS_state : Fld := ⟨R.TWN_STATUS, 2, 0⟩
abbrev F.TWN_STATUS_paired : Fld := ⟨R.TWN_STATUS, 3, 3⟩
abbrev F.TWN_STATUS_owner : Fld := ⟨R.TWN_STATUS, 4, 4⟩
abbrev F.TWN_STATUS_pref : Fld := ⟨R.TWN_STATUS, 5, 5⟩
abbrev F.TWN_STATUS_own_out : Fld := ⟨R.TWN_STATUS, 6, 6⟩
abbrev F.TWN_STATUS_own_in : Fld := ⟨R.TWN_STATUS, 7, 7⟩
abbrev F.TWN_STATUS_ho_armed : Fld := ⟨R.TWN_STATUS, 8, 8⟩
abbrev F.TWN_STATUS_lanes : Fld := ⟨R.TWN_STATUS, 12, 9⟩
abbrev F.TWN_STATUS_hb_ok : Fld := ⟨R.TWN_STATUS, 13, 13⟩
abbrev F.TWN_STATUS_div : Fld := ⟨R.TWN_STATUS, 16, 16⟩
abbrev F.TWN_STATUS_takeover : Fld := ⟨R.TWN_STATUS, 17, 17⟩
abbrev F.TWN_STATUS_handover : Fld := ⟨R.TWN_STATUS, 18, 18⟩
abbrev F.TWN_STATUS_lb_err : Fld := ⟨R.TWN_STATUS, 19, 19⟩
abbrev F.TWN_STATUS_own_conflict : Fld := ⟨R.TWN_STATUS, 20, 20⟩
abbrev F.TWN_STATUS_pair_refused : Fld := ⟨R.TWN_STATUS, 21, 21⟩
abbrev F.TWN_CFG_revert_hold : Fld := ⟨R.TWN_CFG, 11, 0⟩
abbrev F.TWN_CFG_rs_units : Fld := ⟨R.TWN_CFG, 23, 16⟩
abbrev F.TWN_LB_CFG_tol : Fld := ⟨R.TWN_LB_CFG, 7, 0⟩
abbrev F.TWN_LB_CFG_pwm_n : Fld := ⟨R.TWN_LB_CFG, 11, 8⟩
abbrev F.TWN_LB_CFG_tdm_n : Fld := ⟨R.TWN_LB_CFG, 15, 12⟩
abbrev F.TWN_HO_CTRL_req : Fld := ⟨R.TWN_HO_CTRL, 0, 0⟩
abbrev F.TWN_HO_CTRL_busy : Fld := ⟨R.TWN_HO_CTRL, 1, 1⟩
abbrev F.TWN_HO_CTRL_result : Fld := ⟨R.TWN_HO_CTRL, 7, 4⟩
abbrev F.TWN_HO_TICK_LO_tick : Fld := ⟨R.TWN_HO_TICK_LO, 31, 0⟩
abbrev F.TWN_HO_TICK_HI_tick : Fld := ⟨R.TWN_HO_TICK_HI, 31, 0⟩
abbrev F.TWN_DIG_LO_value : Fld := ⟨R.TWN_DIG_LO, 31, 0⟩
abbrev F.TWN_DIG_HI_value : Fld := ⟨R.TWN_DIG_HI, 31, 0⟩
abbrev F.TWN_PDIG_LO_value : Fld := ⟨R.TWN_PDIG_LO, 31, 0⟩
abbrev F.TWN_PDIG_HI_value : Fld := ⟨R.TWN_PDIG_HI, 31, 0⟩
abbrev F.TWN_DIG_TICK_LO_value : Fld := ⟨R.TWN_DIG_TICK_LO, 31, 0⟩
abbrev F.TWN_DIG_TICK_HI_value : Fld := ⟨R.TWN_DIG_TICK_HI, 31, 0⟩
abbrev F.TWN_PHASE_ps : Fld := ⟨R.TWN_PHASE, 31, 0⟩
abbrev F.TWN_LINK_DELAY_ps : Fld := ⟨R.TWN_LINK_DELAY, 31, 0⟩
abbrev F.TWN_RS_STATUS_step : Fld := ⟨R.TWN_RS_STATUS, 2, 0⟩
abbrev F.TWN_RS_STATUS_mirror : Fld := ⟨R.TWN_RS_STATUS, 3, 3⟩
abbrev F.TWN_RS_STATUS_phase : Fld := ⟨R.TWN_RS_STATUS, 9, 4⟩
abbrev F.TWN_RS_STATUS_units : Fld := ⟨R.TWN_RS_STATUS, 29, 15⟩
abbrev F.TWN_LB_STATUS_channel : Fld := ⟨R.TWN_LB_STATUS, 4, 0⟩
abbrev F.TWN_LB_STATUS_port : Fld := ⟨R.TWN_LB_STATUS, 11, 8⟩
abbrev F.TWN_LB_STATUS_self : Fld := ⟨R.TWN_LB_STATUS, 12, 12⟩
abbrev F.TWN_PARTNER_ID_LO_id : Fld := ⟨R.TWN_PARTNER_ID_LO, 31, 0⟩
abbrev F.TWN_PARTNER_ID_HI_id : Fld := ⟨R.TWN_PARTNER_ID_HI, 31, 0⟩
abbrev F.TWN_REVERT_LEFT_seconds : Fld := ⟨R.TWN_REVERT_LEFT, 11, 0⟩
abbrev F.TWN_MISMATCH_CNT_count : Fld := ⟨R.TWN_MISMATCH_CNT, 31, 0⟩
abbrev F.TWN_DIV_CNT_count : Fld := ⟨R.TWN_DIV_CNT, 31, 0⟩
abbrev F.TWN_DIG_MISS_CNT_count : Fld := ⟨R.TWN_DIG_MISS_CNT, 31, 0⟩
abbrev F.TWN_HB_LOSS_CNT_count : Fld := ⟨R.TWN_HB_LOSS_CNT, 31, 0⟩
abbrev F.TWN_TAKEOVER_CNT_count : Fld := ⟨R.TWN_TAKEOVER_CNT, 31, 0⟩
abbrev F.TWN_HANDOVER_CNT_count : Fld := ⟨R.TWN_HANDOVER_CNT, 31, 0⟩
abbrev F.TWN_RESYNC_CNT_count : Fld := ⟨R.TWN_RESYNC_CNT, 31, 0⟩
abbrev F.TWN_LB_PWM_CNT_count : Fld := ⟨R.TWN_LB_PWM_CNT, 31, 0⟩
abbrev F.TWN_LB_TDM_CNT_count : Fld := ⟨R.TWN_LB_TDM_CNT, 31, 0⟩
abbrev F.TWN_MSG_CRC_CNT_count : Fld := ⟨R.TWN_MSG_CRC_CNT, 31, 0⟩
abbrev F.TWN_LANE_DOWN_CNT_count : Fld := ⟨R.TWN_LANE_DOWN_CNT, 31, 0⟩
abbrev F.TWN_PAIR_TRY_CNT_count : Fld := ⟨R.TWN_PAIR_TRY_CNT, 31, 0⟩
abbrev F.MOD_CTRL_run : Fld := ⟨R.MOD_CTRL, 0, 0⟩
abbrev F.MOD_STATUS_running : Fld := ⟨R.MOD_STATUS, 0, 0⟩
abbrev F.MOD_STATUS_tb_lock : Fld := ⟨R.MOD_STATUS, 1, 1⟩
abbrev F.MOD_STATUS_clk_err : Fld := ⟨R.MOD_STATUS, 2, 2⟩
abbrev F.MOD_STATUS_cfg_err : Fld := ⟨R.MOD_STATUS, 3, 3⟩
abbrev F.MOD_STATUS_apply_pend : Fld := ⟨R.MOD_STATUS, 4, 4⟩
abbrev F.MOD_STATUS_apply_late : Fld := ⟨R.MOD_STATUS, 5, 5⟩
abbrev F.MOD_STATUS_trip : Fld := ⟨R.MOD_STATUS, 6, 6⟩
abbrev F.MOD_STATUS_tb_loss : Fld := ⟨R.MOD_STATUS, 7, 7⟩
abbrev F.MOD_FSW_freq_hz : Fld := ⟨R.MOD_FSW, 19, 0⟩
abbrev F.MOD_FSW_mode : Fld := ⟨R.MOD_FSW, 21, 20⟩
abbrev F.MOD_PERIOD_pq : Fld := ⟨R.MOD_PERIOD, 31, 0⟩
abbrev F.MOD_DITHER_span : Fld := ⟨R.MOD_DITHER, 5, 0⟩
abbrev F.MOD_MINPULSE_mp : Fld := ⟨R.MOD_MINPULSE, 9, 0⟩
abbrev F.MOD_APPLY_LO_tick : Fld := ⟨R.MOD_APPLY_LO, 31, 0⟩
abbrev F.MOD_APPLY_HI_tick : Fld := ⟨R.MOD_APPLY_HI, 31, 0⟩
abbrev F.MOD_CFG_ERR_offset : Fld := ⟨R.MOD_CFG_ERR, 15, 0⟩
abbrev F.MOD_CFG_ERR_block : Fld := ⟨R.MOD_CFG_ERR, 16, 16⟩
abbrev F.MOD_IFIR_IDX_idx : Fld := ⟨R.MOD_IFIR_IDX, 9, 0⟩
abbrev F.MOD_IFIR_DATA_h : Fld := ⟨R.MOD_IFIR_DATA, 31, 0⟩
abbrev F.MOD_CH_CFG_slot (i : Nat) : Fld := ⟨R.MOD_CH_CFG i, 11, 0⟩
abbrev F.MOD_CH_CFG_en (i : Nat) : Fld := ⟨R.MOD_CH_CFG i, 12, 12⟩
abbrev F.MOD_CH_CFG_ff_en (i : Nat) : Fld := ⟨R.MOD_CH_CFG i, 13, 13⟩
abbrev F.MOD_CH_CFG_vbus_slot (i : Nat) : Fld := ⟨R.MOD_CH_CFG i, 27, 16⟩
abbrev F.MOD_CH_DEAD_dead (i : Nat) : Fld := ⟨R.MOD_CH_DEAD i, 9, 0⟩
abbrev F.MOD_CH_VNOM_value (i : Nat) : Fld := ⟨R.MOD_CH_VNOM i, 31, 0⟩
abbrev F.MOD_CH_VMIN_value (i : Nat) : Fld := ⟨R.MOD_CH_VMIN i, 31, 0⟩
abbrev F.MOD_CH_STATUS_state (i : Nat) : Fld := ⟨R.MOD_CH_STATUS i, 2, 0⟩
abbrev F.MOD_CH_STATUS_reason (i : Nat) : Fld := ⟨R.MOD_CH_STATUS i, 4, 3⟩
abbrev F.MOD_CH_STATUS_uv (i : Nat) : Fld := ⟨R.MOD_CH_STATUS i, 5, 5⟩
abbrev F.MOD_CH_STATUS_fault_in (i : Nat) : Fld := ⟨R.MOD_CH_STATUS i, 6, 6⟩
abbrev F.MOD_CH_CTRL_clr (i : Nat) : Fld := ⟨R.MOD_CH_CTRL i, 0, 0⟩
abbrev F.MOD_CH_CLIP_CNT_count (i : Nat) : Fld := ⟨R.MOD_CH_CLIP_CNT i, 31, 0⟩
abbrev F.MOD_CH_TRIP_CNT_count (i : Nat) : Fld := ⟨R.MOD_CH_TRIP_CNT i, 31, 0⟩
abbrev F.MOD_CH_UV_CNT_count (i : Nat) : Fld := ⟨R.MOD_CH_UV_CNT i, 31, 0⟩
abbrev F.SNS_CTRL_run : Fld := ⟨R.SNS_CTRL, 0, 0⟩
abbrev F.SNS_CLK_CFG_div : Fld := ⟨R.SNS_CLK_CFG, 5, 0⟩
abbrev F.SNS_CLK_CFG_clk_en : Fld := ⟨R.SNS_CLK_CFG, 11, 8⟩
abbrev F.SNS_STATUS_cfg_err : Fld := ⟨R.SNS_STATUS, 0, 0⟩
abbrev F.SNS_STATUS_ovl : Fld := ⟨R.SNS_STATUS, 1, 1⟩
abbrev F.SNS_STATUS_zevt : Fld := ⟨R.SNS_STATUS, 2, 2⟩
abbrev F.SNS_DEC_r : Fld := ⟨R.SNS_DEC, 9, 0⟩
abbrev F.SNS_CH_CFG_v_slot (i : Nat) : Fld := ⟨R.SNS_CH_CFG i, 11, 0⟩
abbrev F.SNS_CH_CFG_v_en (i : Nat) : Fld := ⟨R.SNS_CH_CFG i, 12, 12⟩
abbrev F.SNS_CH_CFG_i_slot (i : Nat) : Fld := ⟨R.SNS_CH_CFG i, 27, 16⟩
abbrev F.SNS_CH_CFG_i_en (i : Nat) : Fld := ⟨R.SNS_CH_CFG i, 28, 28⟩
abbrev F.SNS_CH_VFS_v_fs (i : Nat) : Fld := ⟨R.SNS_CH_VFS i, 19, 0⟩
abbrev F.SNS_CH_IFS_i_fs (i : Nat) : Fld := ⟨R.SNS_CH_IFS i, 19, 0⟩
abbrev F.SNS_CH_TRIP_thr (i : Nat) : Fld := ⟨R.SNS_CH_TRIP i, 15, 0⟩
abbrev F.SNS_CH_TRIP_trip_n (i : Nat) : Fld := ⟨R.SNS_CH_TRIP i, 17, 16⟩
abbrev F.SNS_CH_PILOT_mode (i : Nat) : Fld := ⟨R.SNS_CH_PILOT i, 1, 0⟩
abbrev F.SNS_CH_PILOT_freq (i : Nat) : Fld := ⟨R.SNS_CH_PILOT i, 31, 16⟩
abbrev F.SNS_CH_PAMP_amp (i : Nat) : Fld := ⟨R.SNS_CH_PAMP i, 31, 0⟩
abbrev F.SNS_CH_ZCFG_interval (i : Nat) : Fld := ⟨R.SNS_CH_ZCFG i, 3, 0⟩
abbrev F.SNS_CH_ZCFG_drift (i : Nat) : Fld := ⟨R.SNS_CH_ZCFG i, 9, 4⟩
abbrev F.SNS_CH_ZCFG_learn (i : Nat) : Fld := ⟨R.SNS_CH_ZCFG i, 12, 12⟩
abbrev F.SNS_CH_ZTH_z_short (i : Nat) : Fld := ⟨R.SNS_CH_ZTH i, 15, 0⟩
abbrev F.SNS_CH_ZTH_z_open (i : Nat) : Fld := ⟨R.SNS_CH_ZTH i, 31, 16⟩
abbrev F.SNS_CH_ZBASE_z_base (i : Nat) : Fld := ⟨R.SNS_CH_ZBASE i, 23, 0⟩
abbrev F.SNS_CH_ZMAG_zmag (i : Nat) : Fld := ⟨R.SNS_CH_ZMAG i, 23, 0⟩
abbrev F.SNS_CH_ZPH_zph (i : Nat) : Fld := ⟨R.SNS_CH_ZPH i, 15, 0⟩
abbrev F.SNS_CH_ZPH_valid (i : Nat) : Fld := ⟨R.SNS_CH_ZPH i, 16, 16⟩
abbrev F.SNS_CH_ZFLAGS_now (i : Nat) : Fld := ⟨R.SNS_CH_ZFLAGS i, 3, 0⟩
abbrev F.SNS_CH_ZFLAGS_seen (i : Nat) : Fld := ⟨R.SNS_CH_ZFLAGS i, 11, 8⟩
abbrev F.SNS_CH_PLIM_limit (i : Nat) : Fld := ⟨R.SNS_CH_PLIM i, 16, 0⟩
abbrev F.SNS_CH_PLIM_en (i : Nat) : Fld := ⟨R.SNS_CH_PLIM i, 31, 31⟩
abbrev F.SNS_CH_PWIN_window (i : Nat) : Fld := ⟨R.SNS_CH_PWIN i, 13, 0⟩
abbrev F.SNS_CH_PATT_alpha_a (i : Nat) : Fld := ⟨R.SNS_CH_PATT i, 31, 0⟩
abbrev F.SNS_CH_PREL_alpha_r (i : Nat) : Fld := ⟨R.SNS_CH_PREL i, 31, 0⟩
abbrev F.SNS_CH_PNOW_mean (i : Nat) : Fld := ⟨R.SNS_CH_PNOW i, 16, 0⟩
abbrev F.SNS_CH_PGR_gr (i : Nat) : Fld := ⟨R.SNS_CH_PGR i, 31, 0⟩
abbrev F.SNS_CH_TRIP_CNT_count (i : Nat) : Fld := ⟨R.SNS_CH_TRIP_CNT i, 31, 0⟩
abbrev F.SNS_CH_OVL_CNT_count (i : Nat) : Fld := ⟨R.SNS_CH_OVL_CNT i, 31, 0⟩
abbrev F.CLK_CTRL_mode : Fld := ⟨R.CLK_CTRL, 0, 0⟩
abbrev F.CLK_CTRL_revertive : Fld := ⟨R.CLK_CTRL, 1, 1⟩
abbrev F.CLK_CTRL_osc_sel : Fld := ⟨R.CLK_CTRL, 3, 2⟩
abbrev F.CLK_CTRL_manual : Fld := ⟨R.CLK_CTRL, 4, 4⟩
abbrev F.CLK_CTRL_realign : Fld := ⟨R.CLK_CTRL, 5, 5⟩
abbrev F.CLK_STATUS_dpll_state : Fld := ⟨R.CLK_STATUS, 2, 0⟩
abbrev F.CLK_STATUS_sel_ref : Fld := ⟨R.CLK_STATUS, 6, 4⟩
abbrev F.CLK_STATUS_switching : Fld := ⟨R.CLK_STATUS, 7, 7⟩
abbrev F.CLK_STATUS_osc_ok : Fld := ⟨R.CLK_STATUS, 8, 8⟩
abbrev F.CLK_STATUS_mclk_err : Fld := ⟨R.CLK_STATUS, 9, 9⟩
abbrev F.CLK_STATUS_dco_clamp : Fld := ⟨R.CLK_STATUS, 10, 10⟩
abbrev F.CLK_STATUS_ho_valid : Fld := ⟨R.CLK_STATUS, 11, 11⟩
abbrev F.CLK_STATUS_switch_evt : Fld := ⟨R.CLK_STATUS, 16, 16⟩
abbrev F.CLK_STATUS_disq_evt : Fld := ⟨R.CLK_STATUS, 17, 17⟩
abbrev F.CLK_STATUS_dispute_evt : Fld := ⟨R.CLK_STATUS, 18, 18⟩
abbrev F.CLK_STATUS_step_evt : Fld := ⟨R.CLK_STATUS, 19, 19⟩
abbrev F.CLK_REF_CFG_prio (i : Nat) : Fld := ⟨R.CLK_REF_CFG i, 3, 0⟩
abbrev F.CLK_REF_CFG_kind (i : Nat) : Fld := ⟨R.CLK_REF_CFG i, 5, 4⟩
abbrev F.CLK_REF_CFG_track_bw (i : Nat) : Fld := ⟨R.CLK_REF_CFG i, 9, 7⟩
abbrev F.CLK_REF_CFG_holdoff (i : Nat) : Fld := ⟨R.CLK_REF_CFG i, 23, 16⟩
abbrev F.CLK_REF_GEN_freq_khz (i : Nat) : Fld := ⟨R.CLK_REF_GEN i, 16, 0⟩
abbrev F.CLK_REF_STATUS_state (i : Nat) : Fld := ⟨R.CLK_REF_STATUS i, 2, 0⟩
abbrev F.CLK_REF_STATUS_holdoff_left (i : Nat) : Fld := ⟨R.CLK_REF_STATUS i, 15, 8⟩
abbrev F.CLK_REF_STATUS_freq (i : Nat) : Fld := ⟨R.CLK_REF_STATUS i, 31, 16⟩
abbrev F.CLK_DISPUTE_thr : Fld := ⟨R.CLK_DISPUTE, 7, 0⟩
abbrev F.CLK_DPLL_CFG_lock_thr : Fld := ⟨R.CLK_DPLL_CFG, 9, 0⟩
abbrev F.CLK_DPLL_CFG_lock_time : Fld := ⟨R.CLK_DPLL_CFG, 22, 16⟩
abbrev F.CLK_PHASE_ERR_err : Fld := ⟨R.CLK_PHASE_ERR, 31, 0⟩
abbrev F.CLK_DCO_NOW_ppt : Fld := ⟨R.CLK_DCO_NOW, 31, 0⟩
abbrev F.CLK_DCO_STEER_ppt : Fld := ⟨R.CLK_DCO_STEER, 31, 0⟩
abbrev F.CLK_BUILDOUT_LO_ps : Fld := ⟨R.CLK_BUILDOUT_LO, 31, 0⟩
abbrev F.CLK_BUILDOUT_HI_ps : Fld := ⟨R.CLK_BUILDOUT_HI, 31, 0⟩
abbrev F.CLK_STEP_LO_ns : Fld := ⟨R.CLK_STEP_LO, 31, 0⟩
abbrev F.CLK_STEP_HI_ns : Fld := ⟨R.CLK_STEP_HI, 31, 0⟩
abbrev F.CLK_HO_CTRL_load : Fld := ⟨R.CLK_HO_CTRL, 0, 0⟩
abbrev F.CLK_HO_CTRL_u0_valid : Fld := ⟨R.CLK_HO_CTRL, 1, 1⟩
abbrev F.CLK_HO_CTRL_t_valid : Fld := ⟨R.CLK_HO_CTRL, 2, 2⟩
abbrev F.CLK_HO_CTRL_a_valid : Fld := ⟨R.CLK_HO_CTRL, 3, 3⟩
abbrev F.CLK_OSC_TEMP_theta : Fld := ⟨R.CLK_OSC_TEMP, 15, 0⟩
abbrev F.CLK_HO_T0_theta0 : Fld := ⟨R.CLK_HO_T0, 15, 0⟩
abbrev F.CLK_HO_U0_u0 : Fld := ⟨R.CLK_HO_U0, 31, 0⟩
abbrev F.CLK_HO_C1_c1 : Fld := ⟨R.CLK_HO_C1, 31, 0⟩
abbrev F.CLK_HO_C2_c2 : Fld := ⟨R.CLK_HO_C2, 31, 0⟩
abbrev F.CLK_HO_C3_c3 : Fld := ⟨R.CLK_HO_C3, 31, 0⟩
abbrev F.CLK_HO_A_a : Fld := ⟨R.CLK_HO_A, 31, 0⟩
abbrev F.CLK_HO_B_b : Fld := ⟨R.CLK_HO_B, 31, 0⟩
abbrev F.CLK_HO_AGE_t : Fld := ⟨R.CLK_HO_AGE, 31, 0⟩
abbrev F.CLK_HO_PRED_ppt : Fld := ⟨R.CLK_HO_PRED, 31, 0⟩
abbrev F.CLK_SWITCH_CNT_count : Fld := ⟨R.CLK_SWITCH_CNT, 31, 0⟩
abbrev F.CLK_DISQ_CNT_count : Fld := ⟨R.CLK_DISQ_CNT, 31, 0⟩
abbrev F.CLK_DISPUTE_CNT_count : Fld := ⟨R.CLK_DISPUTE_CNT, 31, 0⟩
abbrev F.CLK_SLEW_CNT_count : Fld := ⟨R.CLK_SLEW_CNT, 31, 0⟩
abbrev F.CLK_STEP_CNT_count : Fld := ⟨R.CLK_STEP_CNT, 31, 0⟩
abbrev F.TIM_CFG_fmt : Fld := ⟨R.TIM_CFG, 0, 0⟩
abbrev F.TIM_CFG_one_step : Fld := ⟨R.TIM_CFG, 3, 1⟩
abbrev F.TIM_CFG_pps_en : Fld := ⟨R.TIM_CFG, 4, 4⟩
abbrev F.TIM_CFG_pps_width : Fld := ⟨R.TIM_CFG, 12, 8⟩
abbrev F.TIM_STATUS_set_err : Fld := ⟨R.TIM_STATUS, 0, 0⟩
abbrev F.TIM_NOW_S_LO_s : Fld := ⟨R.TIM_NOW_S_LO, 31, 0⟩
abbrev F.TIM_NOW_S_HI_s : Fld := ⟨R.TIM_NOW_S_HI, 15, 0⟩
abbrev F.TIM_NOW_NS_ns : Fld := ⟨R.TIM_NOW_NS, 29, 0⟩
abbrev F.TIM_FREE_LO_c : Fld := ⟨R.TIM_FREE_LO, 31, 0⟩
abbrev F.TIM_FREE_HI_c : Fld := ⟨R.TIM_FREE_HI, 31, 0⟩
abbrev F.TIM_OFS_o (i : Nat) : Fld := ⟨R.TIM_OFS i, 31, 0⟩
abbrev F.TIM_RATE_LO_r : Fld := ⟨R.TIM_RATE_LO, 31, 0⟩
abbrev F.TIM_RATE_HI_r : Fld := ⟨R.TIM_RATE_HI, 7, 0⟩
abbrev F.TIM_ADJ_CTRL_commit : Fld := ⟨R.TIM_ADJ_CTRL, 0, 0⟩
abbrev F.TIM_SET_S_LO_s : Fld := ⟨R.TIM_SET_S_LO, 31, 0⟩
abbrev F.TIM_SET_S_HI_s : Fld := ⟨R.TIM_SET_S_HI, 15, 0⟩
abbrev F.TIM_SET_NS_ns : Fld := ⟨R.TIM_SET_NS, 29, 0⟩
abbrev F.TIM_SET_CTRL_go : Fld := ⟨R.TIM_SET_CTRL, 0, 0⟩
abbrev F.TIM_PORT_LAT_RX_ps (i : Nat) : Fld := ⟨R.TIM_PORT_LAT_RX i, 31, 0⟩
abbrev F.TIM_PORT_LAT_TX_ps (i : Nat) : Fld := ⟨R.TIM_PORT_LAT_TX i, 31, 0⟩
abbrev F.TIM_PPSIN_S_LO_s : Fld := ⟨R.TIM_PPSIN_S_LO, 31, 0⟩
abbrev F.TIM_PPSIN_S_HI_s : Fld := ⟨R.TIM_PPSIN_S_HI, 15, 0⟩
abbrev F.TIM_PPSIN_NS_ns : Fld := ⟨R.TIM_PPSIN_NS, 29, 0⟩
abbrev F.TIM_LATE_LAUNCH_CNT_count : Fld := ⟨R.TIM_LATE_LAUNCH_CNT, 31, 0⟩
abbrev F.TIM_TMR_SKIP_CNT_count : Fld := ⟨R.TIM_TMR_SKIP_CNT, 31, 0⟩
abbrev F.TIM_TMR_CTRL_en (i : Nat) : Fld := ⟨R.TIM_TMR_CTRL i, 0, 0⟩
abbrev F.TIM_TMR_CTRL_periodic (i : Nat) : Fld := ⟨R.TIM_TMR_CTRL i, 1, 1⟩
abbrev F.TIM_TMR_CTRL_fired (i : Nat) : Fld := ⟨R.TIM_TMR_CTRL i, 8, 8⟩
abbrev F.TIM_TMR_CTRL_late (i : Nat) : Fld := ⟨R.TIM_TMR_CTRL i, 9, 9⟩
abbrev F.TIM_TMR_S_LO_s (i : Nat) : Fld := ⟨R.TIM_TMR_S_LO i, 31, 0⟩
abbrev F.TIM_TMR_S_HI_s (i : Nat) : Fld := ⟨R.TIM_TMR_S_HI i, 15, 0⟩
abbrev F.TIM_TMR_NS_ns (i : Nat) : Fld := ⟨R.TIM_TMR_NS i, 29, 0⟩
abbrev F.TIM_TMR_PER_per_ns (i : Nat) : Fld := ⟨R.TIM_TMR_PER i, 31, 0⟩
abbrev F.MAC_CTRL_tx_en (i : Nat) : Fld := ⟨R.MAC_CTRL i, 0, 0⟩
abbrev F.MAC_CTRL_rx_en (i : Nat) : Fld := ⟨R.MAC_CTRL i, 1, 1⟩
abbrev F.MAC_CTRL_speed (i : Nat) : Fld := ⟨R.MAC_CTRL i, 2, 2⟩
abbrev F.MAC_CTRL_fec (i : Nat) : Fld := ⟨R.MAC_CTRL i, 4, 3⟩
abbrev F.MAC_CTRL_an_en (i : Nat) : Fld := ⟨R.MAC_CTRL i, 5, 5⟩
abbrev F.MAC_CTRL_an_restart (i : Nat) : Fld := ⟨R.MAC_CTRL i, 6, 6⟩
abbrev F.MAC_CFG_pause_rx (i : Nat) : Fld := ⟨R.MAC_CFG i, 0, 0⟩
abbrev F.MAC_CFG_promisc (i : Nat) : Fld := ⟨R.MAC_CFG i, 1, 1⟩
abbrev F.MAC_CFG_host_fwd (i : Nat) : Fld := ⟨R.MAC_CFG i, 2, 2⟩
abbrev F.MAC_CFG_max_len (i : Nat) : Fld := ⟨R.MAC_CFG i, 29, 16⟩
abbrev F.MAC_STATUS_link (i : Nat) : Fld := ⟨R.MAC_STATUS i, 0, 0⟩
abbrev F.MAC_STATUS_local_fault (i : Nat) : Fld := ⟨R.MAC_STATUS i, 1, 1⟩
abbrev F.MAC_STATUS_remote_fault (i : Nat) : Fld := ⟨R.MAC_STATUS i, 2, 2⟩
abbrev F.MAC_STATUS_hi_ber (i : Nat) : Fld := ⟨R.MAC_STATUS i, 3, 3⟩
abbrev F.MAC_STATUS_fec_lock (i : Nat) : Fld := ⟨R.MAC_STATUS i, 4, 4⟩
abbrev F.MAC_STATUS_paused (i : Nat) : Fld := ⟨R.MAC_STATUS i, 5, 5⟩
abbrev F.MAC_STATUS_lpi_tx (i : Nat) : Fld := ⟨R.MAC_STATUS i, 6, 6⟩
abbrev F.MAC_STATUS_lpi_rx (i : Nat) : Fld := ⟨R.MAC_STATUS i, 7, 7⟩
abbrev F.MAC_STATUS_an_done (i : Nat) : Fld := ⟨R.MAC_STATUS i, 8, 8⟩
abbrev F.MAC_STATUS_sgmii_speed (i : Nat) : Fld := ⟨R.MAC_STATUS i, 10, 9⟩
abbrev F.MAC_STATUS_link_chg (i : Nat) : Fld := ⟨R.MAC_STATUS i, 16, 16⟩
abbrev F.MAC_STATUS_cfg_err (i : Nat) : Fld := ⟨R.MAC_STATUS i, 17, 17⟩
abbrev F.MAC_ADDR_LO_addr (i : Nat) : Fld := ⟨R.MAC_ADDR_LO i, 31, 0⟩
abbrev F.MAC_ADDR_HI_addr (i : Nat) : Fld := ⟨R.MAC_ADDR_HI i, 15, 0⟩
abbrev F.MAC_MC_HASH_LO_hash (i : Nat) : Fld := ⟨R.MAC_MC_HASH_LO i, 31, 0⟩
abbrev F.MAC_MC_HASH_HI_hash (i : Nat) : Fld := ⟨R.MAC_MC_HASH_HI i, 31, 0⟩
abbrev F.MAC_EEE_en (i : Nat) : Fld := ⟨R.MAC_EEE i, 0, 0⟩
abbrev F.MAC_EEE_tw (i : Nat) : Fld := ⟨R.MAC_EEE i, 31, 16⟩
abbrev F.MAC_EEE_IDLE_idle (i : Nat) : Fld := ⟨R.MAC_EEE_IDLE i, 19, 0⟩
abbrev F.MAC_PAUSE_LEFT_quanta (i : Nat) : Fld := ⟨R.MAC_PAUSE_LEFT i, 15, 0⟩
abbrev F.MAC_TX_FRM_CNT_count (i : Nat) : Fld := ⟨R.MAC_TX_FRM_CNT i, 31, 0⟩
abbrev F.MAC_RX_FRM_CNT_count (i : Nat) : Fld := ⟨R.MAC_RX_FRM_CNT i, 31, 0⟩
abbrev F.MAC_RX_FCS_CNT_count (i : Nat) : Fld := ⟨R.MAC_RX_FCS_CNT i, 31, 0⟩
abbrev F.MAC_RX_RUNT_CNT_count (i : Nat) : Fld := ⟨R.MAC_RX_RUNT_CNT i, 31, 0⟩
abbrev F.MAC_RX_OVERSIZE_CNT_count (i : Nat) : Fld := ⟨R.MAC_RX_OVERSIZE_CNT i, 31, 0⟩
abbrev F.MAC_RX_LEN_CNT_count (i : Nat) : Fld := ⟨R.MAC_RX_LEN_CNT i, 31, 0⟩
abbrev F.MAC_RX_OVF_CNT_count (i : Nat) : Fld := ⟨R.MAC_RX_OVF_CNT i, 31, 0⟩
abbrev F.MAC_RX_FILTER_CNT_count (i : Nat) : Fld := ⟨R.MAC_RX_FILTER_CNT i, 31, 0⟩
abbrev F.MAC_RX_PAUSE_CNT_count (i : Nat) : Fld := ⟨R.MAC_RX_PAUSE_CNT i, 31, 0⟩
abbrev F.MAC_RX_CTRL_DROP_CNT_count (i : Nat) : Fld := ⟨R.MAC_RX_CTRL_DROP_CNT i, 31, 0⟩
abbrev F.MAC_TX_LINKDOWN_CNT_count (i : Nat) : Fld := ⟨R.MAC_TX_LINKDOWN_CNT i, 31, 0⟩
abbrev F.MAC_LINK_DOWN_CNT_count (i : Nat) : Fld := ⟨R.MAC_LINK_DOWN_CNT i, 31, 0⟩
abbrev F.MAC_FEC_CORR_CNT_count (i : Nat) : Fld := ⟨R.MAC_FEC_CORR_CNT i, 31, 0⟩
abbrev F.MAC_FEC_UNCORR_CNT_count (i : Nat) : Fld := ⟨R.MAC_FEC_UNCORR_CNT i, 31, 0⟩
abbrev F.MAC_LPI_TX_CNT_count (i : Nat) : Fld := ⟨R.MAC_LPI_TX_CNT i, 31, 0⟩
abbrev F.MAC_LPI_RX_CNT_count (i : Nat) : Fld := ⟨R.MAC_LPI_RX_CNT i, 31, 0⟩
abbrev F.SDS_CTRL_en (i : Nat) : Fld := ⟨R.SDS_CTRL i, 0, 0⟩
abbrev F.SDS_CTRL_restart (i : Nat) : Fld := ⟨R.SDS_CTRL i, 1, 1⟩
abbrev F.SDS_CTRL_loop (i : Nat) : Fld := ⟨R.SDS_CTRL i, 3, 2⟩
abbrev F.SDS_CTRL_tx_quiet (i : Nat) : Fld := ⟨R.SDS_CTRL i, 4, 4⟩
abbrev F.SDS_CTRL_pol_auto (i : Nat) : Fld := ⟨R.SDS_CTRL i, 5, 5⟩
abbrev F.SDS_CTRL_rx_inv (i : Nat) : Fld := ⟨R.SDS_CTRL i, 6, 6⟩
abbrev F.SDS_CTRL_tx_inv (i : Nat) : Fld := ⟨R.SDS_CTRL i, 7, 7⟩
abbrev F.SDS_STATUS_state (i : Nat) : Fld := ⟨R.SDS_STATUS i, 2, 0⟩
abbrev F.SDS_STATUS_pll_lock (i : Nat) : Fld := ⟨R.SDS_STATUS i, 3, 3⟩
abbrev F.SDS_STATUS_sig_det (i : Nat) : Fld := ⟨R.SDS_STATUS i, 4, 4⟩
abbrev F.SDS_STATUS_cdr_lock (i : Nat) : Fld := ⟨R.SDS_STATUS i, 5, 5⟩
abbrev F.SDS_STATUS_blk_lock (i : Nat) : Fld := ⟨R.SDS_STATUS i, 6, 6⟩
abbrev F.SDS_STATUS_rx_inv (i : Nat) : Fld := ⟨R.SDS_STATUS i, 7, 7⟩
abbrev F.SDS_STATUS_lane_id (i : Nat) : Fld := ⟨R.SDS_STATUS i, 9, 8⟩
abbrev F.SDS_STATUS_id_err (i : Nat) : Fld := ⟨R.SDS_STATUS i, 10, 10⟩
abbrev F.SDS_STATUS_self_loop (i : Nat) : Fld := ⟨R.SDS_STATUS i, 11, 11⟩
abbrev F.SDS_STATUS_pol_chg (i : Nat) : Fld := ⟨R.SDS_STATUS i, 16, 16⟩
abbrev F.SDS_STATUS_down (i : Nat) : Fld := ⟨R.SDS_STATUS i, 17, 17⟩
abbrev F.SDS_RATE_rate (i : Nat) : Fld := ⟨R.SDS_RATE i, 1, 0⟩
abbrev F.SDS_TX_EQ_pre (i : Nat) : Fld := ⟨R.SDS_TX_EQ i, 3, 0⟩
abbrev F.SDS_TX_EQ_post (i : Nat) : Fld := ⟨R.SDS_TX_EQ i, 12, 8⟩
abbrev F.SDS_TX_EQ_swing (i : Nat) : Fld := ⟨R.SDS_TX_EQ i, 21, 16⟩
abbrev F.SDS_PRBS_CTRL_gen_sel (i : Nat) : Fld := ⟨R.SDS_PRBS_CTRL i, 2, 0⟩
abbrev F.SDS_PRBS_CTRL_gen_inv (i : Nat) : Fld := ⟨R.SDS_PRBS_CTRL i, 3, 3⟩
abbrev F.SDS_PRBS_CTRL_chk_sel (i : Nat) : Fld := ⟨R.SDS_PRBS_CTRL i, 6, 4⟩
abbrev F.SDS_PRBS_CTRL_chk_inv (i : Nat) : Fld := ⟨R.SDS_PRBS_CTRL i, 7, 7⟩
abbrev F.SDS_PRBS_CTRL_inject (i : Nat) : Fld := ⟨R.SDS_PRBS_CTRL i, 8, 8⟩
abbrev F.SDS_PRBS_CTRL_clr (i : Nat) : Fld := ⟨R.SDS_PRBS_CTRL i, 9, 9⟩
abbrev F.SDS_PRBS_STATUS_chk_lock (i : Nat) : Fld := ⟨R.SDS_PRBS_STATUS i, 0, 0⟩
abbrev F.SDS_PRBS_STATUS_lock_lost (i : Nat) : Fld := ⟨R.SDS_PRBS_STATUS i, 1, 1⟩
abbrev F.SDS_PRBS_ERR_count (i : Nat) : Fld := ⟨R.SDS_PRBS_ERR i, 31, 0⟩
abbrev F.SDS_PRBS_BITS_LO_count (i : Nat) : Fld := ⟨R.SDS_PRBS_BITS_LO i, 31, 0⟩
abbrev F.SDS_PRBS_BITS_HI_count (i : Nat) : Fld := ⟨R.SDS_PRBS_BITS_HI i, 15, 0⟩
abbrev F.SDS_RESTART_CNT_count (i : Nat) : Fld := ⟨R.SDS_RESTART_CNT i, 31, 0⟩
abbrev F.SDS_LOCK_LOSS_CNT_count (i : Nat) : Fld := ⟨R.SDS_LOCK_LOSS_CNT i, 31, 0⟩
abbrev F.SDS_SH_ERR_CNT_count (i : Nat) : Fld := ⟨R.SDS_SH_ERR_CNT i, 31, 0⟩
abbrev F.SDS_PRBS_LOSS_CNT_count (i : Nat) : Fld := ⟨R.SDS_PRBS_LOSS_CNT i, 31, 0⟩
abbrev F.HIF_CTRL_en : Fld := ⟨R.HIF_CTRL, 0, 0⟩
abbrev F.HIF_STATUS_link_up : Fld := ⟨R.HIF_STATUS, 0, 0⟩
abbrev F.HIF_STATUS_speed : Fld := ⟨R.HIF_STATUS, 2, 1⟩
abbrev F.HIF_STATUS_width : Fld := ⟨R.HIF_STATUS, 4, 3⟩
abbrev F.HIF_STATUS_bme : Fld := ⟨R.HIF_STATUS, 5, 5⟩
abbrev F.HIF_STATUS_acc_err : Fld := ⟨R.HIF_STATUS, 8, 8⟩
abbrev F.HIF_STATUS_ring_err : Fld := ⟨R.HIF_STATUS, 9, 9⟩
abbrev F.HIF_STATUS_dma_err : Fld := ⟨R.HIF_STATUS, 10, 10⟩
abbrev F.HIF_STATUS_flr_seen : Fld := ⟨R.HIF_STATUS, 11, 11⟩
abbrev F.HIF_ID_vendor : Fld := ⟨R.HIF_ID, 15, 0⟩
abbrev F.HIF_ID_device : Fld := ⟨R.HIF_ID, 31, 16⟩
abbrev F.HIF_DB_ADDR_LO_addr : Fld := ⟨R.HIF_DB_ADDR_LO, 31, 0⟩
abbrev F.HIF_DB_ADDR_HI_addr : Fld := ⟨R.HIF_DB_ADDR_HI, 31, 0⟩
abbrev F.HIF_SH_ADDR_LO_addr : Fld := ⟨R.HIF_SH_ADDR_LO, 31, 0⟩
abbrev F.HIF_SH_ADDR_HI_addr : Fld := ⟨R.HIF_SH_ADDR_HI, 31, 0⟩
abbrev F.HIF_CMD_CFG_max_per_tick : Fld := ⟨R.HIF_CMD_CFG, 8, 0⟩
abbrev F.HIF_RING_ERR_ring : Fld := ⟨R.HIF_RING_ERR, 3, 0⟩
abbrev F.HIF_DMA_ERR_ADDR_LO_addr : Fld := ⟨R.HIF_DMA_ERR_ADDR_LO, 31, 0⟩
abbrev F.HIF_DMA_ERR_ADDR_HI_addr : Fld := ⟨R.HIF_DMA_ERR_ADDR_HI, 31, 0⟩
abbrev F.HIF_DRAM_LIMIT_addr : Fld := ⟨R.HIF_DRAM_LIMIT, 31, 0⟩
abbrev F.HIF_RING_BASE_LO_addr (i : Nat) : Fld := ⟨R.HIF_RING_BASE_LO i, 31, 0⟩
abbrev F.HIF_RING_BASE_HI_addr (i : Nat) : Fld := ⟨R.HIF_RING_BASE_HI i, 31, 0⟩
abbrev F.HIF_RING_SIZE_log2 (i : Nat) : Fld := ⟨R.HIF_RING_SIZE i, 3, 0⟩
abbrev F.HIF_RING_CTRL_en (i : Nat) : Fld := ⟨R.HIF_RING_CTRL i, 0, 0⟩
abbrev F.HIF_RING_CTRL_vector (i : Nat) : Fld := ⟨R.HIF_RING_CTRL i, 8, 4⟩
abbrev F.HIF_RING_CTRL_irq_en (i : Nat) : Fld := ⟨R.HIF_RING_CTRL i, 9, 9⟩
abbrev F.HIF_RING_CTRL_every (i : Nat) : Fld := ⟨R.HIF_RING_CTRL i, 23, 16⟩
abbrev F.HIF_CMD_CNT_count : Fld := ⟨R.HIF_CMD_CNT, 31, 0⟩
abbrev F.HIF_LATE_CNT_count : Fld := ⟨R.HIF_LATE_CNT, 31, 0⟩
abbrev F.HIF_REJECT_CNT_count : Fld := ⟨R.HIF_REJECT_CNT, 31, 0⟩
abbrev F.HIF_DMA_ERR_CNT_count : Fld := ⟨R.HIF_DMA_ERR_CNT, 31, 0⟩
abbrev F.HIF_EVT_DROP_CNT_count : Fld := ⟨R.HIF_EVT_DROP_CNT, 31, 0⟩
abbrev F.HIF_CPL_DROP_CNT_count : Fld := ⟨R.HIF_CPL_DROP_CNT, 31, 0⟩
abbrev F.HIF_MTX_CNT_count : Fld := ⟨R.HIF_MTX_CNT, 31, 0⟩
abbrev F.HIF_MRX_CNT_count : Fld := ⟨R.HIF_MRX_CNT, 31, 0⟩
abbrev F.HIF_MRX_TRUNC_CNT_count : Fld := ⟨R.HIF_MRX_TRUNC_CNT, 31, 0⟩
abbrev F.HIF_MRX_DROP_CNT_count : Fld := ⟨R.HIF_MRX_DROP_CNT, 31, 0⟩
abbrev F.HIF_MSIX_ADDR_LO_addr (i : Nat) : Fld := ⟨R.HIF_MSIX_ADDR_LO i, 31, 2⟩
abbrev F.HIF_MSIX_ADDR_HI_addr (i : Nat) : Fld := ⟨R.HIF_MSIX_ADDR_HI i, 31, 0⟩
abbrev F.HIF_MSIX_DATA_data (i : Nat) : Fld := ⟨R.HIF_MSIX_DATA i, 31, 0⟩
abbrev F.HIF_MSIX_VCTRL_mask (i : Nat) : Fld := ⟨R.HIF_MSIX_VCTRL i, 0, 0⟩
abbrev F.HIF_MSIX_PBA_pend (i : Nat) : Fld := ⟨R.HIF_MSIX_PBA i, 31, 0⟩
abbrev F.TDM_CFG_fmt (i : Nat) : Fld := ⟨R.TDM_CFG i, 1, 0⟩
abbrev F.TDM_CFG_mode (i : Nat) : Fld := ⟨R.TDM_CFG i, 2, 2⟩
abbrev F.TDM_CFG_fallback (i : Nat) : Fld := ⟨R.TDM_CFG i, 3, 3⟩
abbrev F.TDM_CFG_in_en (i : Nat) : Fld := ⟨R.TDM_CFG i, 4, 4⟩
abbrev F.TDM_CFG_out_en (i : Nat) : Fld := ⟨R.TDM_CFG i, 5, 5⟩
abbrev F.TDM_CFG_channels (i : Nat) : Fld := ⟨R.TDM_CFG i, 9, 6⟩
abbrev F.TDM_CFG_word (i : Nat) : Fld := ⟨R.TDM_CFG i, 11, 10⟩
abbrev F.TDM_CFG_fs_delay (i : Nat) : Fld := ⟨R.TDM_CFG i, 12, 12⟩
abbrev F.TDM_CFG_fs_width (i : Nat) : Fld := ⟨R.TDM_CFG i, 13, 13⟩
abbrev F.TDM_CFG_bclk_inv (i : Nat) : Fld := ⟨R.TDM_CFG i, 14, 14⟩
abbrev F.TDM_CFG_fs_inv (i : Nat) : Fld := ⟨R.TDM_CFG i, 15, 15⟩
abbrev F.TDM_CFG_group (i : Nat) : Fld := ⟨R.TDM_CFG i, 19, 16⟩
abbrev F.TDM_CFG_clk_src (i : Nat) : Fld := ⟨R.TDM_CFG i, 23, 20⟩
abbrev F.TDM_CFG_fill (i : Nat) : Fld := ⟨R.TDM_CFG i, 24, 24⟩
abbrev F.TDM_STATUS_state (i : Nat) : Fld := ⟨R.TDM_STATUS i, 2, 0⟩
abbrev F.TDM_STATUS_phase (i : Nat) : Fld := ⟨R.TDM_STATUS i, 15, 8⟩
abbrev F.TDM_STATUS_slip (i : Nat) : Fld := ⟨R.TDM_STATUS i, 16, 16⟩
abbrev F.TDM_STATUS_loss (i : Nat) : Fld := ⟨R.TDM_STATUS i, 17, 17⟩
abbrev F.TDM_STATUS_sync_err (i : Nat) : Fld := ⟨R.TDM_STATUS i, 18, 18⟩
abbrev F.TDM_STATUS_rate_err (i : Nat) : Fld := ⟨R.TDM_STATUS i, 19, 19⟩
abbrev F.TDM_STATUS_underrun (i : Nat) : Fld := ⟨R.TDM_STATUS i, 20, 20⟩
abbrev F.TDM_RATE_ppm (i : Nat) : Fld := ⟨R.TDM_RATE i, 15, 0⟩
abbrev F.TDM_IN_MAP_map_lo (i : Nat) (j : Nat) : Fld := ⟨R.TDM_IN_MAP i j, 15, 0⟩
abbrev F.TDM_IN_MAP_map_hi (i : Nat) (j : Nat) : Fld := ⟨R.TDM_IN_MAP i j, 31, 16⟩
abbrev F.TDM_OUT_MAP_map_lo (i : Nat) (j : Nat) : Fld := ⟨R.TDM_OUT_MAP i j, 15, 0⟩
abbrev F.TDM_OUT_MAP_map_hi (i : Nat) (j : Nat) : Fld := ⟨R.TDM_OUT_MAP i j, 31, 16⟩
abbrev F.TDM_SLIP_DROP_CNT_count (i : Nat) : Fld := ⟨R.TDM_SLIP_DROP_CNT i, 31, 0⟩
abbrev F.TDM_SLIP_REP_CNT_count (i : Nat) : Fld := ⟨R.TDM_SLIP_REP_CNT i, 31, 0⟩
abbrev F.TDM_RESYNC_CNT_count (i : Nat) : Fld := ⟨R.TDM_RESYNC_CNT i, 31, 0⟩
abbrev F.TDM_UNDERRUN_CNT_count (i : Nat) : Fld := ⟨R.TDM_UNDERRUN_CNT i, 31, 0⟩
abbrev F.TDM_LOSS_CNT_count (i : Nat) : Fld := ⟨R.TDM_LOSS_CNT i, 31, 0⟩
abbrev F.TDM_FALLBACK_CNT_count (i : Nat) : Fld := ⟨R.TDM_FALLBACK_CNT i, 31, 0⟩
abbrev F.TDM_APPLY_LO_tick : Fld := ⟨R.TDM_APPLY_LO, 31, 0⟩
abbrev F.TDM_APPLY_HI_tick : Fld := ⟨R.TDM_APPLY_HI, 31, 0⟩
abbrev F.TDM_GSTATUS_apply_pend : Fld := ⟨R.TDM_GSTATUS, 0, 0⟩
abbrev F.TDM_GSTATUS_apply_late : Fld := ⟨R.TDM_GSTATUS, 1, 1⟩
abbrev F.TDM_GSTATUS_cfg_err : Fld := ⟨R.TDM_GSTATUS, 2, 2⟩
abbrev F.TDM_GSTATUS_err_port : Fld := ⟨R.TDM_GSTATUS, 11, 8⟩
abbrev F.TDM_GSTATUS_err_reg : Fld := ⟨R.TDM_GSTATUS, 19, 12⟩
abbrev F.TDM_MCLK_CFG_en (i : Nat) : Fld := ⟨R.TDM_MCLK_CFG i, 0, 0⟩
abbrev F.TDM_MCLK_CFG_mult (i : Nat) : Fld := ⟨R.TDM_MCLK_CFG i, 2, 1⟩
abbrev F.TDM_GRP_UNDERRUN_CNT_count (i : Nat) : Fld := ⟨R.TDM_GRP_UNDERRUN_CNT i, 31, 0⟩
abbrev F.XBR_STATUS_derr : Fld := ⟨R.XBR_STATUS, 0, 0⟩
abbrev F.XBR_STATUS_drain : Fld := ⟨R.XBR_STATUS, 1, 1⟩
abbrev F.XBR_QOS_CFG_core : Fld := ⟨R.XBR_QOS_CFG, 3, 0⟩
abbrev F.XBR_QOS_CFG_host : Fld := ⟨R.XBR_QOS_CFG, 11, 8⟩
abbrev F.XBR_QOS_CFG_net : Fld := ⟨R.XBR_QOS_CFG, 19, 16⟩
abbrev F.XBR_QOS_CFG_port : Fld := ⟨R.XBR_QOS_CFG, 27, 24⟩
abbrev F.XBR_DERR_ADDR_LO_addr : Fld := ⟨R.XBR_DERR_ADDR_LO, 31, 0⟩
abbrev F.XBR_DERR_ADDR_HI_addr : Fld := ⟨R.XBR_DERR_ADDR_HI, 3, 0⟩
abbrev F.XBR_DERR_INFO_master : Fld := ⟨R.XBR_DERR_INFO, 4, 0⟩
abbrev F.XBR_DERR_INFO_write : Fld := ⟨R.XBR_DERR_INFO, 8, 8⟩
abbrev F.XBR_DERR_CNT_count : Fld := ⟨R.XBR_DERR_CNT, 31, 0⟩
abbrev F.XBR_DRAIN_CNT_count : Fld := ⟨R.XBR_DRAIN_CNT, 31, 0⟩
abbrev F.XBR_DRAIN_MAX_cycles : Fld := ⟨R.XBR_DRAIN_MAX, 8, 0⟩
abbrev F.XBR_CONF_CNT_count (i : Nat) : Fld := ⟨R.XBR_CONF_CNT i, 31, 0⟩
abbrev F.MEM_STATUS_uncorr : Fld := ⟨R.MEM_STATUS, 0, 0⟩
abbrev F.MEM_STATUS_repair : Fld := ⟨R.MEM_STATUS, 1, 1⟩
abbrev F.MEM_STATUS_unrep : Fld := ⟨R.MEM_STATUS, 2, 2⟩
abbrev F.MEM_SCRUB_CFG_rows : Fld := ⟨R.MEM_SCRUB_CFG, 3, 0⟩
abbrev F.MEM_MARCH_CTRL_unit : Fld := ⟨R.MEM_MARCH_CTRL, 7, 0⟩
abbrev F.MEM_MARCH_CTRL_start : Fld := ⟨R.MEM_MARCH_CTRL, 8, 8⟩
abbrev F.MEM_MARCH_STATUS_busy : Fld := ⟨R.MEM_MARCH_STATUS, 0, 0⟩
abbrev F.MEM_MARCH_STATUS_result : Fld := ⟨R.MEM_MARCH_STATUS, 2, 1⟩
abbrev F.MEM_MARCH_STATUS_row : Fld := ⟨R.MEM_MARCH_STATUS, 23, 8⟩
abbrev F.MEM_ECC_ADDR_LO_addr : Fld := ⟨R.MEM_ECC_ADDR_LO, 31, 0⟩
abbrev F.MEM_ECC_ADDR_HI_addr : Fld := ⟨R.MEM_ECC_ADDR_HI, 3, 0⟩
abbrev F.MEM_ECC_INFO_master : Fld := ⟨R.MEM_ECC_INFO, 4, 0⟩
abbrev F.MEM_ECC_INFO_unit : Fld := ⟨R.MEM_ECC_INFO, 15, 8⟩
abbrev F.MEM_ECC_CORR_CNT_count : Fld := ⟨R.MEM_ECC_CORR_CNT, 31, 0⟩
abbrev F.MEM_ECC_UNCORR_CNT_count : Fld := ⟨R.MEM_ECC_UNCORR_CNT, 31, 0⟩
abbrev F.MEM_REPAIR_USED_rows : Fld := ⟨R.MEM_REPAIR_USED, 10, 0⟩
abbrev F.MEM_REPAIR_IDX_sub : Fld := ⟨R.MEM_REPAIR_IDX, 9, 0⟩
abbrev F.MEM_REPAIR_DATA_row0 : Fld := ⟨R.MEM_REPAIR_DATA, 9, 0⟩
abbrev F.MEM_REPAIR_DATA_row1 : Fld := ⟨R.MEM_REPAIR_DATA, 25, 16⟩
abbrev F.MEM_REPAIR_DATA_bad0 : Fld := ⟨R.MEM_REPAIR_DATA, 30, 30⟩
abbrev F.MEM_REPAIR_DATA_bad1 : Fld := ⟨R.MEM_REPAIR_DATA, 31, 31⟩
abbrev F.DDR_CTRL_init : Fld := ⟨R.DDR_CTRL, 0, 0⟩
abbrev F.DDR_CTRL_sr_req : Fld := ⟨R.DDR_CTRL, 1, 1⟩
abbrev F.DDR_CTRL_sr_exit : Fld := ⟨R.DDR_CTRL, 2, 2⟩
abbrev F.DDR_STATUS_init_done : Fld := ⟨R.DDR_STATUS, 0, 0⟩
abbrev F.DDR_STATUS_sr : Fld := ⟨R.DDR_STATUS, 1, 1⟩
abbrev F.DDR_STATUS_hot : Fld := ⟨R.DDR_STATUS, 2, 2⟩
abbrev F.DDR_STATUS_panic : Fld := ⟨R.DDR_STATUS, 3, 3⟩
abbrev F.DDR_STATUS_temp_stale : Fld := ⟨R.DDR_STATUS, 4, 4⟩
abbrev F.DDR_STATUS_uncorr : Fld := ⟨R.DDR_STATUS, 8, 8⟩
abbrev F.DDR_STATUS_cfg_err : Fld := ⟨R.DDR_STATUS, 9, 9⟩
abbrev F.DDR_STATUS_sr_err : Fld := ⟨R.DDR_STATUS, 10, 10⟩
abbrev F.DDR_STATUS_trn_fail : Fld := ⟨R.DDR_STATUS, 11, 11⟩
abbrev F.DDR_CFG_speed : Fld := ⟨R.DDR_CFG, 1, 0⟩
abbrev F.DDR_CFG_dens : Fld := ⟨R.DDR_CFG, 2, 2⟩
abbrev F.DDR_CFG_width : Fld := ⟨R.DDR_CFG, 3, 3⟩
abbrev F.DDR_CFG_ranks : Fld := ⟨R.DDR_CFG, 4, 4⟩
abbrev F.DDR_CFG_cl : Fld := ⟨R.DDR_CFG, 12, 8⟩
abbrev F.DDR_CFG_cwl : Fld := ⟨R.DDR_CFG, 20, 16⟩
abbrev F.DDR_CAP_cap : Fld := ⟨R.DDR_CAP, 6, 0⟩
abbrev F.DDR_TEMP_temp : Fld := ⟨R.DDR_TEMP, 7, 0⟩
abbrev F.DDR_REF_STATUS_debt0 : Fld := ⟨R.DDR_REF_STATUS, 4, 0⟩
abbrev F.DDR_REF_STATUS_debt1 : Fld := ⟨R.DDR_REF_STATUS, 12, 8⟩
abbrev F.DDR_PORT_CFG_rt_qos : Fld := ⟨R.DDR_PORT_CFG, 3, 0⟩
abbrev F.DDR_PORT_CFG_rt_weight : Fld := ⟨R.DDR_PORT_CFG, 10, 8⟩
abbrev F.DDR_RT_CFG_burst_max : Fld := ⟨R.DDR_RT_CFG, 4, 0⟩
abbrev F.DDR_RT_CFG_rd_wm : Fld := ⟨R.DDR_RT_CFG, 12, 8⟩
abbrev F.DDR_RT_CFG_wr_wm : Fld := ⟨R.DDR_RT_CFG, 20, 16⟩
abbrev F.DDR_SCRUB_CFG_kib : Fld := ⟨R.DDR_SCRUB_CFG, 7, 0⟩
abbrev F.DDR_ECC_CFG_corr_thr : Fld := ⟨R.DDR_ECC_CFG, 15, 0⟩
abbrev F.DDR_ECC_ADDR_LO_addr : Fld := ⟨R.DDR_ECC_ADDR_LO, 31, 0⟩
abbrev F.DDR_ECC_ADDR_HI_addr : Fld := ⟨R.DDR_ECC_ADDR_HI, 3, 0⟩
abbrev F.DDR_ECC_INFO_master : Fld := ⟨R.DDR_ECC_INFO, 4, 0⟩
abbrev F.DDR_TRN_CTRL_go : Fld := ⟨R.DDR_TRN_CTRL, 0, 0⟩
abbrev F.DDR_TRN_CTRL_step : Fld := ⟨R.DDR_TRN_CTRL, 3, 1⟩
abbrev F.DDR_TRN_CTRL_pat : Fld := ⟨R.DDR_TRN_CTRL, 5, 4⟩
abbrev F.DDR_TRN_CTRL_rank : Fld := ⟨R.DDR_TRN_CTRL, 6, 6⟩
abbrev F.DDR_TRN_CTRL_len : Fld := ⟨R.DDR_TRN_CTRL, 23, 8⟩
abbrev F.DDR_TRN_STATUS_busy : Fld := ⟨R.DDR_TRN_STATUS, 0, 0⟩
abbrev F.DDR_TRN_STATUS_lane : Fld := ⟨R.DDR_TRN_STATUS, 7, 4⟩
abbrev F.DDR_TRN_STATUS_step : Fld := ⟨R.DDR_TRN_STATUS, 10, 8⟩
abbrev F.DDR_TRN_PASS_pass (i : Nat) : Fld := ⟨R.DDR_TRN_PASS i, 31, 0⟩
abbrev F.DDR_TRN_ERR_count : Fld := ⟨R.DDR_TRN_ERR, 31, 0⟩
abbrev F.DDR_TRN_USER_data (i : Nat) : Fld := ⟨R.DDR_TRN_USER i, 31, 0⟩
abbrev F.DDR_LANE_WL_wl (i : Nat) : Fld := ⟨R.DDR_LANE_WL i, 8, 0⟩
abbrev F.DDR_LANE_GATE_gate0 (i : Nat) : Fld := ⟨R.DDR_LANE_GATE i, 8, 0⟩
abbrev F.DDR_LANE_GATE_gate1 (i : Nat) : Fld := ⟨R.DDR_LANE_GATE i, 24, 16⟩
abbrev F.DDR_LANE_RDQS_rdqs (i : Nat) : Fld := ⟨R.DDR_LANE_RDQS i, 6, 0⟩
abbrev F.DDR_BIT_DESKEW_rd (i : Nat) : Fld := ⟨R.DDR_BIT_DESKEW i, 6, 0⟩
abbrev F.DDR_BIT_DESKEW_wr (i : Nat) : Fld := ⟨R.DDR_BIT_DESKEW i, 14, 8⟩
abbrev F.DDR_VREF_phy : Fld := ⟨R.DDR_VREF, 6, 0⟩
abbrev F.DDR_VREF_dram : Fld := ⟨R.DDR_VREF, 14, 8⟩
abbrev F.DDR_ECC_CORR_CNT_count : Fld := ⟨R.DDR_ECC_CORR_CNT, 31, 0⟩
abbrev F.DDR_ECC_UNCORR_CNT_count : Fld := ⟨R.DDR_ECC_UNCORR_CNT, 31, 0⟩
abbrev F.DDR_REF_POSTPONE_CNT_count : Fld := ⟨R.DDR_REF_POSTPONE_CNT, 31, 0⟩
abbrev F.DDR_REF_FORCED_CNT_count : Fld := ⟨R.DDR_REF_FORCED_CNT, 31, 0⟩
abbrev F.DDR_REF_HOT_CNT_count : Fld := ⟨R.DDR_REF_HOT_CNT, 31, 0⟩
abbrev F.DDR_PANIC_CYC_count : Fld := ⟨R.DDR_PANIC_CYC, 31, 0⟩
abbrev F.DDR_SR_CNT_count : Fld := ⟨R.DDR_SR_CNT, 31, 0⟩
abbrev F.TWI_TGT_CFG_legacy : Fld := ⟨R.TWI_TGT_CFG, 0, 0⟩
abbrev F.TWI_TGT_STATUS_addr : Fld := ⟨R.TWI_TGT_STATUS, 6, 0⟩
abbrev F.TWI_TGT_STATUS_busy : Fld := ⟨R.TWI_TGT_STATUS, 8, 8⟩
abbrev F.TWI_TGT_STATUS_part : Fld := ⟨R.TWI_TGT_STATUS, 16, 16⟩
abbrev F.TWI_TGT_STATUS_proto : Fld := ⟨R.TWI_TGT_STATUS, 17, 17⟩
abbrev F.TWI_TGT_STATUS_off_rd : Fld := ⟨R.TWI_TGT_STATUS, 18, 18⟩
abbrev F.TWI_TGT_STATUS_stretch_to : Fld := ⟨R.TWI_TGT_STATUS, 19, 19⟩
abbrev F.TWI_TGT_WIN_base : Fld := ⟨R.TWI_TGT_WIN, 23, 15⟩
abbrev F.TWI_TGT_PTR_ptr : Fld := ⟨R.TWI_TGT_PTR, 15, 0⟩
abbrev F.TWI_TGT_XFER_CNT_count : Fld := ⟨R.TWI_TGT_XFER_CNT, 31, 0⟩
abbrev F.TWI_TGT_NACK_CNT_count : Fld := ⟨R.TWI_TGT_NACK_CNT, 31, 0⟩
abbrev F.TWI_TGT_DISC_CNT_count : Fld := ⟨R.TWI_TGT_DISC_CNT, 31, 0⟩
abbrev F.TWI_TGT_STRETCH_TO_CNT_count : Fld := ⟨R.TWI_TGT_STRETCH_TO_CNT, 31, 0⟩
abbrev F.TWI_C_CFG_en (i : Nat) : Fld := ⟨R.TWI_C_CFG i, 0, 0⟩
abbrev F.TWI_C_CFG_speed (i : Nat) : Fld := ⟨R.TWI_C_CFG i, 2, 1⟩
abbrev F.TWI_C_CFG_stretch_ms (i : Nat) : Fld := ⟨R.TWI_C_CFG i, 15, 8⟩
abbrev F.TWI_C_STATUS_state (i : Nat) : Fld := ⟨R.TWI_C_STATUS i, 2, 0⟩
abbrev F.TWI_C_STATUS_sda_in (i : Nat) : Fld := ⟨R.TWI_C_STATUS i, 3, 3⟩
abbrev F.TWI_C_STATUS_scl_in (i : Nat) : Fld := ⟨R.TWI_C_STATUS i, 4, 4⟩
abbrev F.TWI_C_STATUS_nack (i : Nat) : Fld := ⟨R.TWI_C_STATUS i, 8, 8⟩
abbrev F.TWI_C_STATUS_proto (i : Nat) : Fld := ⟨R.TWI_C_STATUS i, 9, 9⟩
abbrev F.TWI_C_STATUS_bus_err (i : Nat) : Fld := ⟨R.TWI_C_STATUS i, 10, 10⟩
abbrev F.TWI_C_STATUS_lost (i : Nat) : Fld := ⟨R.TWI_C_STATUS i, 11, 11⟩
abbrev F.TWI_C_STATUS_stretch_to (i : Nat) : Fld := ⟨R.TWI_C_STATUS i, 12, 12⟩
abbrev F.TWI_C_TIMING0_lo (i : Nat) : Fld := ⟨R.TWI_C_TIMING0 i, 9, 0⟩
abbrev F.TWI_C_TIMING0_hi (i : Nat) : Fld := ⟨R.TWI_C_TIMING0 i, 25, 16⟩
abbrev F.TWI_C_TIMING1_hd_dat (i : Nat) : Fld := ⟨R.TWI_C_TIMING1 i, 7, 0⟩
abbrev F.TWI_C_TIMING1_sta (i : Nat) : Fld := ⟨R.TWI_C_TIMING1 i, 25, 16⟩
abbrev F.TWI_C_TIMING2_sto (i : Nat) : Fld := ⟨R.TWI_C_TIMING2 i, 9, 0⟩
abbrev F.TWI_C_TIMING2_buf (i : Nat) : Fld := ⟨R.TWI_C_TIMING2 i, 25, 16⟩
abbrev F.TWI_C_XFER_CNT_count (i : Nat) : Fld := ⟨R.TWI_C_XFER_CNT i, 31, 0⟩
abbrev F.TWI_C_NACK_CNT_count (i : Nat) : Fld := ⟨R.TWI_C_NACK_CNT i, 31, 0⟩
abbrev F.TWI_C_PROTO_CNT_count (i : Nat) : Fld := ⟨R.TWI_C_PROTO_CNT i, 31, 0⟩
abbrev F.TWI_C_CLEAR_CNT_count (i : Nat) : Fld := ⟨R.TWI_C_CLEAR_CNT i, 31, 0⟩

end Sys2Proof
end

