-- ==== Sys2Proof/Machine/Tbl.lean ====
section
/-!
DEFINITION. Sparse tables as plain data: a list of (key, value) pairs in one canonical form, keys strictly rising
and no entry equal to what an unlisted key reads as. Registers, memory bytes, engines, slots and streams are held so.
-/

namespace Sys2Proof.Tbl

variable {α : Type}

/-- The value at a key; `d` says what an unlisted key reads as. -/
def get (d : Nat → α) : List (Nat × α) → Nat → α
  | [], a => d a
  | (k, v) :: r, a => if k = a then v else get d r a

/-- Put an entry at its place. -/
def put (a : Nat) (v : α) : List (Nat × α) → List (Nat × α)
  | [] => [(a, v)]
  | (k, w) :: r =>
    if k = a then (a, v) :: r else if a < k then (a, v) :: (k, w) :: r else (k, w) :: put a v r

/-- Drop the entries of a key. -/
def drop (a : Nat) (t : List (Nat × α)) : List (Nat × α) := t.filter fun e => e.1 ≠ a

/-- Write a value: an entry, or none where the key would read so anyway. -/
def set [DecidableEq α] (d : Nat → α) (t : List (Nat × α)) (a : Nat) (v : α) : List (Nat × α) :=
  if v = d a then drop a t else put a v t

/-- The canonical form: keys strictly rising, no entry that an unlisted key would read as. -/
abbrev wf (d : Nat → α) (t : List (Nat × α)) : Prop :=
  t.Pairwise (fun x y => x.1 < y.1) ∧ ∀ e ∈ t, e.2 ≠ d e.1

end Sys2Proof.Tbl
end

