-- ==== Sys2Proof/Machine/State.lean ====
section
/-!
DEFINITION. The state of the block as plain data: every register (`regs`, by BAR0 offset), the memories, the tick and
the time, and for each block the state the spec gives it beside its registers, the queue of waiting commands and the
record of what was sent. `State.reset` is the machine right after power-on reset.
-/

namespace Sys2Proof.Machine

/-- A block of the partner link (R228): a control block, sync header 0b10, or a data block, 0b01; and its 8 bytes. -/
structure LinkBlock where
  control : Bool
  bytes : List Byte
deriving DecidableEq, Repr

/-- A message that waits for a lane of the partner link (R229). -/
structure LinkMsg where
  cls : Nat
  /-- Its sequence number within its class (R228). -/
  seq : Nat
  payload : List Byte
deriving DecidableEq, Repr

/-- A place in the DRAM (R411): byte of the burst, bank group, column, bank of the group, row, rank. -/
structure DramPlace where
  byte : Nat
  group : Nat
  column : Nat
  bank : Nat
  row : Nat
  rank : Nat
deriving DecidableEq, Repr

/-- What the module sent to the outside: the model's own record, oldest first (DESIGN CHOICE, log entry 3). -/
inductive Out where
  /-- A write request to host memory. -/
  | hostWrite (addr : Nat) (bytes : List Byte)
  /-- A read request to host memory. -/
  | hostRead (addr len : Nat)
  /-- An MSI-X message (R368). -/
  | msix (vector : Nat)
  /-- Blocks on a partner-link lane (R228): control blocks and data blocks, before the scrambler. -/
  | link (lane : Nat) (blocks : List LinkBlock)
  /-- A partner lane sends this training block from now on, again and again (R228, R323). -/
  | training (lane : Nat) (block : LinkBlock)
  /-- What step 1 of resynchronisation sends: the spec gives its content and no layout (log entry 3). -/
  | resync (cfg : ResyncCfg)
  /-- A frame a MAC port sends, FCS included. -/
  | frame (port : Nat) (bytes : List Byte)
  /-- IGMPv3 membership reports that firmware sends on a port (R185): the groups. -/
  | igmp (port : Nat) (groups : List Nat)
  /-- The time stamp of a PTP event message, for firmware (R301): the port, whether it was sent, the stamp. -/
  | stamp (port : Nat) (tx : Bool) (ns : Nat)
  /-- A control symbol or ordered set on a MAC port: 0 LPI begin, 1 LPI end, 2 auto-negotiation restart, 3 remote fault, 4 idle
  again (R322). -/
  | macSignal (port : Nat) (kind : Nat)
  /-- A serial lane's transmitter: 0 common mode, 1 an inverted PRBS bit, 2 idle or frames, 32 + k the PRBS sequence of code k and
  40 + k its complement (R336), 64 + k the data of loop k (R335). -/
  | lane (lane : Nat) (kind : Nat)
  /-- The edges of one PWM period: channel, leg A rise and fall, leg B rise and fall, in counts from the period's start (R255). -/
  | pwm (ch : Nat) (edges : List Nat)
  /-- One frame of a TDM port's output (R374, R378): the BCLK periods from the frame-sync edge to its first bit, and its bits. -/
  | tdm (port start : Nat) (bits : List Bool)
  /-- A pin driven to a level. -/
  | pin (name : String) (index : Nat) (level : Bool)
  /-- Bytes given on a two-wire bus: 0-2 the controllers, 3 the target. -/
  | twi (bus : Nat) (bytes : List Byte)
  /-- A not-acknowledge or bus condition on a two-wire bus. -/
  | twiCond (bus : Nat) (what : String)
  /-- A command on the DRAM channel. -/
  | dram (what : String) (rank : Nat)
  /-- The patrol scrub reads so many bursts from a place on (R415). -/
  | dramScrub (from0 : DramPlace) (bursts : Nat)
  /-- A training helper step (R427): step, pattern, rank, bursts, the user words where the pattern is theirs. -/
  | dramTrain (step pat rank len : Nat) (user : List Word)
  /-- An event signal raised to an engine or to firmware. -/
  | firmware (what : String) (arg : Nat)
deriving DecidableEq, Repr

/-- The local clock and the tick grid (R16, R303, R304), in units of 1/6 ns: five units are one engine clock cycle and
every sample period is a whole number of them. -/
structure Clock where
  /-- TICK_NUM (R16). -/
  tickNum : Nat := 0
  /-- Units since the boundary of tick `tickNum`. -/
  tickPos : Nat := 0
  /-- The first tick has run (R450). -/
  ranTick : Bool := false
  /-- The grid's part of a unit beyond `tickPos`, in parts of 10^-12, in FREE format of 2^-48 (R280, R303, R304). -/
  frac : Int := 0
  /-- Length of the present tick where it is slewed or stepped (R293, R294). -/
  lenU : Option Nat := none
  /-- The number the present tick takes at its commit after a step (R294). -/
  commitAs : Option Nat := none
  /-- Network time less the grid's, in units, during a stepped tick (R294). -/
  shift : Int := 0
  /-- The tick whose output block fades in after a step (R295). -/
  fade : Option Nat := none
  /-- The FREE count C of R304, in units. -/
  freeU : Nat := 0
  /-- The calendar's count (R310), in units since 2000-01-01. -/
  rtcU : Nat := 0
  /-- The calendar's part of a unit, in hundred-millionths (the correction of R310 counts in 0.01 ppm). -/
  rtcF : Nat := 0
  /-- Powered time of PD_CTRL within the service hour (R311), in units. -/
  svcU : Nat := 0
  /-- RTC_CTRL.svc_wr held its key: one write of RTC_SVC_HOURS is taken (R311). -/
  svcKey : Bool := false
deriving DecidableEq, Repr

/-- The run state of the tick (R20, R21). -/
inductive RunState where
  /-- Not processing ticks, none asked for. -/
  | stopped
  /-- Started by a write; the first tick is one whose number is at least `start`, at a boundary after the write: `passed` says
  that a boundary has come since. -/
  | armed (start : Nat) (passed : Bool)
  /-- Ticks are processed. -/
  | running
  /-- Cleared during tick n: n completes and commits at the next boundary. -/
  | stopping
  /-- The block committed at that boundary is being output. -/
  | draining
  /-- b_(n+2) has come: the outputs read zero, and TICK_STOP is due. -/
  | ending
deriving DecidableEq, Repr

/-- One fault source's record in the collector (R436, R442, R446). -/
structure FltSrc where
  /-- Highest class among the occurrences counted since the latch was set; none when only dry-run injections stand. -/
  cls : Option Nat := none
  /-- Level of the last logged occurrence. -/
  lastLvl : Nat := 0
  /-- Occurrences not posted since the last event of the source. -/
  notPosted : Nat := 0
  /-- Classes of its unacknowledged real occurrences. -/
  unackReal : List Nat := []
  /-- Classes of its unacknowledged injected occurrences. -/
  unackInj : List Nat := []
deriving DecidableEq, Repr

/-- The fault collector beside its registers. -/
structure Flt where
  /-- Records of the sources 0-63. -/
  srcs : List (Nat × FltSrc) := []
  /-- The log: entry number, its 32 bytes (R447). -/
  log : List (Nat × List Byte) := []
  /-- Occurrence sequence number of the next occurrence. -/
  seq : Nat := 0
  /-- Level-2 repairs asked for and not yet carried out: source and data word (R441). -/
  repair : List (Nat × Word) := []
  /-- Sources whose level-3 reaction forbids asserting OWN until their latch clears (R443). -/
  yield : List Nat := []
  /-- Conditions that ended in the present clock cycle: the source's record and whether it was latched and forbade OWN (R439). -/
  ended : List (Nat × FltSrc × Bool × Bool) := []
  /-- Fences of engines by source-3 repairs: engine, powered time in units (R441). -/
  fenced : List (Nat × Nat) := []
deriving DecidableEq, Repr

/-- One ring (R342): its enable in force, a change that waits for the boundary, both indices (R343, R344). -/
structure Ring where
  /-- Enabled. -/
  en : Bool := false
  /-- An enable or a disable that waits for the boundary. -/
  enPend : Option Bool := none
  /-- Producer index, free-running 32 bits. -/
  prod : Nat := 0
  /-- Consumer index, free-running 32 bits. -/
  cons : Nat := 0
  /-- Producer index at the last interrupt (R368). -/
  intProd : Nat := 0
  /-- Boundaries to come before the next moderated interrupt (R368). -/
  intLeft : Nat := 0
  /-- Command rings: commands parsed in this tick (R352). -/
  parsed : Nat := 0
  /-- Command rings: an untimed command still executes (R352). -/
  busy : Bool := false
  /-- Command rings: the command in front is a copy that waits for DRAM (R430, R432): the rings after it do not wait for it. -/
  wait : Bool := false
  /-- Command rings: commands in flight, for the room of R353. -/
  flight : Nat := 0
  /-- Command rings: producer index and issue tick of the fetches that found new commands (R354). -/
  issue : List (Nat × Nat) := []
deriving DecidableEq, Repr

/-- A completion that waits to be written (R353, R357). -/
structure Cpl where
  /-- Command ring. -/
  ring : Nat
  /-- The command's tag. -/
  tag : Nat
  /-- The command's opcode. -/
  opcode : Nat
  /-- Status (R358). -/
  status : Nat
  /-- Detail. -/
  detail : Nat
  /-- TICK_NUM of its effect or refusal. -/
  tick : Nat
deriving DecidableEq, Repr

/-- The effect of an accepted timed command (R356). -/
inductive TimedKind where
  | nop
  | regWrite (off : Nat) (value mask : Word)
  | psetCommit (ids : List Nat) (agreed : Bool)
  | streamCommit (items : List Nat) (agreed : Bool)
deriving DecidableEq, Repr

/-- A scheduled action (R19): target tick, its effect, and whose completion it owes. List order is order of acceptance. -/
structure Timed where
  /-- Target tick N. -/
  target : Nat
  /-- Its effect. -/
  kind : TimedKind
  /-- Command ring, none for an action the partner's proposal scheduled. -/
  ring : Option Nat
  /-- Tag. -/
  tag : Nat
  /-- It completes LATE (R354). -/
  late : Bool
  /-- Its completion is discarded and counted (R369). -/
  lost : Bool := false
  /-- Opcode for the completion. -/
  opcode : Nat := 0
  /-- Identifier of the proposal that agrees it (R178), none for one that is not agreed with the partner. -/
  propId : Option Nat := none
deriving DecidableEq, Repr

/-- A two-wire transfer that a TWI_XFER command started (R464). -/
structure TwiCmd where
  ctl : Nat
  ring : Nat
  tag : Nat
  addr : Nat
  wr : List Byte
  rd : Nat
  host : Nat
  /-- The command has ended before its transfer: its completion is produced (R370) or discarded (R369) already. -/
  lost : Bool := false
  /-- The command's completion ring was disabled: its completion is already discarded (R371). -/
  gone : Bool := false
  /-- A request of the module's own firmware (R463): it has no command. -/
  fw : Bool := false
  /-- The bus transfer has ended; these bytes wait to be written to the host (R369). -/
  back : Option (List Byte) := none
deriving DecidableEq, Repr

/-- The host interface beside its registers. -/
structure Hif where
  /-- Rings 0-11. -/
  rings : List (Nat × Ring) := []
  /-- A doorbell fetch is under way (R346). -/
  fetching : Bool := false
  /-- The fetch of this tick has completed in time. -/
  fetched : Bool := false
  /-- The fetch of this tick was late (R24). -/
  late : Bool := false
  /-- host_tag of the last fetch that completed in time (R347). -/
  hostTag : Nat := 0
  /-- HIF_CTRL.en as in force since the last boundary (R372). -/
  active : Bool := false
  /-- Completions that wait (R353), in order of completion. -/
  cpls : List Cpl := []
  /-- Events lost since the last overflow event (R360). -/
  evtLost : Nat := 0
  /-- An event of type Fault was posted in this tick (R368). -/
  faultEvt : Bool := false
  /-- MSI-X table words by index, four a vector (R341). -/
  msix : List (Nat × Word) := []
  /-- MSI-X pending bits. -/
  msixPba : Word := 0
  /-- Two-wire transfers under way for a command: controller, command ring, tag, bytes to write, bytes to read, host address. -/
  twi : List TwiCmd := []
  /-- Two-wire controllers that have been enabled and have not yet read SDA (R468). -/
  twiNew : List Nat := []
  /-- FREE count in units of the last bus clear of a two-wire controller (R468). -/
  twiClearU : List (Nat × Nat) := []
  /-- The shadow block of this tick is written. -/
  shadowed : Bool := false
deriving DecidableEq, Repr

/-- A Solstice handover that is armed (R239, R241, R242). -/
structure Handover where
  /-- Tick H. -/
  h : Nat
  /-- This module is the outgoing owner. -/
  outgoing : Bool
  /-- Pin groups that have switched. -/
  switched : List PinGroup := []
  /-- The OWN lines have changed. -/
  owned : Bool := false
  /-- The target was raised to the earliest: the result is LATE (R239). -/
  late : Bool := false
deriving DecidableEq, Repr

/-- A handover request on its way (R239). -/
structure HoReq where
  /-- Tick H. -/
  h : Nat
  /-- The target was raised to the earliest. -/
  late : Bool
  /-- It carries out a level-3 reaction: OWN is released when it fails (R246). -/
  yield : Bool := false
deriving DecidableEq, Repr

/-- A digest of one tick (R230): tick, CRC-64, worst class. -/
structure Dig where
  tick : Nat
  value : BitVec 64
  worst : Nat
deriving DecidableEq, Repr

/-- A unit of resynchronisation that waits to be installed (R235). -/
structure RsUnit where
  /-- Tick of the message. -/
  tick : Nat
  /-- Unit number: task index, or 16384 + dynamics unit. -/
  unit : Nat
  /-- Byte offset. -/
  off : Nat
  /-- State bytes. -/
  data : List Byte
deriving DecidableEq, Repr

/-- The twin block beside its registers (R214 to R246). -/
structure Twin where
  /-- OWN_OUT_N asserted. -/
  ownOut : Bool := false
  /-- The partner's OWN counts as asserted (R218). -/
  ownIn : Bool := false
  /-- It has read released for the guard of 2.0 us. -/
  guardOk : Bool := false
  /-- FREE count in units from which it has been released without a break; none while it is not (R220, R226). -/
  relAt : Option Nat := none
  /-- The settle time of R220 runs. -/
  settling : Bool := false
  /-- The partner's OWN was asserted during the settle time. -/
  collided : Bool := false
  /-- FREE count in units at which the retry wait of R220 ends, while it runs. -/
  retryAt : Option Nat := none
  /-- The partner's OWN was asserted in the present clock cycle (R221). -/
  ownNow : Bool := false
  /-- A heartbeat arrived in the present clock cycle (R234). -/
  hbNow : Bool := false
  /-- The partner's PREF strap, as its last HELLO gave it (R220). -/
  theirPref : Option Bool := none
  /-- The pair ended while this module was its shadow and the partner's OWN stayed asserted (R234, R243): whether in EQUINOX. -/
  wasShadow : Option Bool := none
  /-- The partner's OWN was released in RESYNC_DST or VERIFY while take_unsync = 0: no takeover (R243). -/
  barred : Bool := false
  /-- Collisions since the partner's OWN was last released for 1 s. -/
  collisions : Nat := 0
  /-- OWN was asserted as an unplanned takeover (R243). -/
  takeover : Bool := false
  /-- FREE count in units from which the revert hold runs (R245). -/
  revU : Option Nat := none
  /-- R219 grants the pins: they are enabled. -/
  pins : Bool := false
  /-- PWM channels that an unplanned takeover has still to enter (R243). -/
  enter : List Nat := []
  /-- Successive boundaries without a commit (R222). -/
  noCommit : Nat := 0
  /-- Handover armed. -/
  ho : Option Handover := none
  /-- Request on its way. -/
  hoReq : Option HoReq := none
  /-- The partner's HELLO. -/
  partner : Option HelloMsg := none
  /-- The last valid heartbeat of the partner. -/
  hb : Option HeartbeatMsg := none
  /-- Own digests that wait for comparison. -/
  own : List Dig := []
  /-- The partner's digests received. -/
  theirs : List Dig := []
  /-- Mismatch run (R230). -/
  run : Nat := 0
  /-- Agreeing digests in VERIFY (R227). -/
  agree : Nat := 0
  /-- Working receive lanes, a mask of partner-link lane IDs (R233). -/
  working : Nat := 0
  /-- A lane set that takes effect at the next boundary. -/
  laneNext : Option (Nat × Nat) := none
  /-- Lanes of the partner's last request (R233): only these of its receive lanes work. -/
  theirLanes : Nat := 15
  /-- Messages that wait for a lane (R229), oldest first. -/
  msgs : List LinkMsg := []
  /-- FREE count in units at which the message on a lane ends (R229). -/
  laneTill : List (Nat × Nat) := []
  /-- The partner's markers arrive (R232, R286). -/
  marker : Bool := false
  /-- Successive boundaries without a marker of the partner (R286). -/
  noMark : Nat := 0
  /-- The tick at whose boundary the roles after a handover are reported (R242). -/
  hoPost : Option Nat := none
  /-- Receive offset of the partner's last marker, ps (R232). -/
  rxOff : Int := 0
  /-- Step announced by RS_STEP: step, tick from which it holds (R235). -/
  rsNext : Option (Nat × Nat) := none
  /-- This module is the source of the resynchronisation. -/
  rsSource : Bool := false
  /-- The destination reads mirrored blocks (R235). -/
  rsMirror : Bool := false
  /-- Units installed that run once for the tick before (R235): task index, or 16384 + dynamics unit. -/
  catchUp : List Nat := []
  /-- The destination: the units installed at the last boundary, which run in the present tick (R235). -/
  ran : List Nat := []
  /-- The source: the units sent, by tick; those to be sent again (R235). -/
  rsLog : List (Nat × List Nat) := []
  rsAgain : List Nat := []
  /-- The destination: the units that stand installed (TWN_RS_STATUS.units). -/
  rsGot : List Nat := []
  /-- The source: phase being transferred, its units sent so far, the tick from which it is clean. -/
  rsPhase : Nat := 0
  rsSent : Nat := 0
  rsClean : Option Nat := none
  /-- The source: the last tick it mirrors (R236). -/
  rsEnd : Option Nat := none
  /-- The first step has completed (R227). -/
  rsFirst : Bool := false
  /-- Mirrored blocks received: tick, slot, block. -/
  mirror : List (Nat × Nat × List Word) := []
  /-- Units received that wait for their boundary. -/
  units : List RsUnit := []
  /-- The pair started from a cold start, not from a resynchronisation (R231). -/
  cold : Bool := true
  /-- Consecutive mismatches by PWM channel (R238). -/
  lbPwm : List (Nat × Nat) := []
  /-- Consecutive mismatches by TDM port (R238). -/
  lbTdm : List (Nat × Nat) := []
  /-- Listen-back passed since the hold began (R245). -/
  lbOk : Bool := true
  /-- Message sequence number by class (R228). -/
  msgSeq : List (Nat × Nat) := []
  /-- No resync destination suppression: media packets withheld by R212. -/
  quiet : Bool := false
deriving DecidableEq, Repr

/-- A register that a bundle writes, with the value that comes in (R91, R105). -/
inductive Dst where
  /-- A D register as ALU operations, stores and moves see it. -/
  | d (i : Nat) (v : Word)
  /-- A D register as BR and RPTR see it (R129). -/
  | dBr (i : Nat) (v : Word)
  /-- An accumulator as the next addition sees it (R124). -/
  | a (i : Nat) (v : Acc)
  /-- An accumulator as conversions, part moves and sources see it (R124). -/
  | aSrc (i : Nat) (v : Acc)
  /-- A pointer. -/
  | p (i : Nat) (v : BitVec 16)
  /-- A modifier. -/
  | m (i : Nat) (v : BitVec 16)
  /-- A circular length. -/
  | l (i : Nat) (v : BitVec 16)
  /-- A circular base. -/
  | b (i : Nat) (v : BitVec 16)
  /-- The loop counter. -/
  | lc (v : BitVec 16)
  /-- The loop counter as LBR decrements it. -/
  | lcDec (v : BitVec 16)
  /-- The rw fields of ES, in both views (R93). -/
  | es (v : Word)
  /-- z, n, c, v of ES. -/
  | flags (z n c v : Bool)
  /-- z, n, c, v as conditional branches see them. -/
  | brFlags (z n c v : Bool)
  /-- z of ES alone (R134). -/
  | z (b : Bool)
  /-- z alone, as conditional branches see it. -/
  | brZ (b : Bool)
  /-- The sticky sat bit, in both views. -/
  | sat
  /-- bexp takes its minimum with a leading-sign count (R97). -/
  | bexp (n : Nat)
  /-- EPC. -/
  | epc (v : BitVec 12)
  /-- EES. -/
  | ees (v : Word)
deriving DecidableEq, Repr

/-- A result on its way: seen after `k` more bundles (R105). -/
structure Flight where
  k : Nat
  dst : Dst
deriving DecidableEq, Repr

/-- A task DMA transfer (R88, R131). -/
structure Xfer where
  /-- True for local to tick store. -/
  out : Bool
  /-- Tick-store byte offset. -/
  off : Nat
  /-- Local word address. -/
  loc : Nat
  /-- Words. -/
  count : Nat
  /-- Local words of the transfer that were stored while it was under way: undefined (R89). -/
  spoilt : List Nat := []
deriving DecidableEq, Repr

/-- An effect of a slot that takes place when its bundle closes: a bundle that stalls or is illegal has none (R117, R132). -/
inductive Late where
  /-- A local store (R125). -/
  | store (a : Nat) (w : Word)
  /-- ECC corrected a word: 0 program memory, 1 X, 2 Y, 3 register file, and its address (R109). -/
  | fixed (mem a : Nat)
  /-- A slot's access is a task fault with this reason (R71): the bundle faults at its last slot. -/
  | fault (reason : Nat)
deriving DecidableEq, Repr

/-- The run state of an engine, as ENG_STATUS.state codes it. -/
inductive EState where
  | idle | prefetch | running | writeback
deriving DecidableEq, Repr

/-- One engine (R91 to R113). -/
structure Engine where
  /-- Run state. -/
  st : EState := .idle
  /-- The task taken. -/
  task : Option Nat := none
  /-- The prefetch of the task has started. -/
  began : Bool := false
  /-- Engine cycle of the tick at which the prefetch started (R67). -/
  began_at : Nat := 0
  /-- The run has exceeded its cycle_budget, and was counted (R67). -/
  tbud : Bool := false
  /-- TICK_NUM of the tick in which the task was taken. -/
  tick : Nat := 0
  /-- D0-D15. -/
  d : List (Nat × Word) := []
  /-- D0-D15 as BR and RPTR see them. -/
  dBr : List (Nat × Word) := []
  /-- A0-A3 as additions see them. -/
  a : List (Nat × Acc) := []
  /-- A0-A3 as conversions and sources see them. -/
  aSrc : List (Nat × Acc) := []
  /-- P0-P7. -/
  p : List (Nat × BitVec 16) := []
  /-- M0-M7. -/
  m : List (Nat × BitVec 16) := []
  /-- L0-L7. -/
  l : List (Nat × BitVec 16) := []
  /-- B0-B7. -/
  b : List (Nat × BitVec 16) := []
  /-- LC. -/
  lc : BitVec 16 := 0
  /-- RC (R108). -/
  rc : Nat := 0
  /-- ES. -/
  es : Word := 0x7C0
  /-- z, n, c, v, sat as conditional branches see them, bits 0 to 4. -/
  esBr : BitVec 5 := 0
  /-- PC: index of the bundle in decode. -/
  pc : Nat := 0
  /-- EPC. -/
  epc : BitVec 12 := 0
  /-- EES. -/
  ees : Word := 0
  /-- Results on their way, in order of issue. -/
  flights : List Flight := []
  /-- How many of them come from bundles before the present one. -/
  before : Nat := 0
  /-- What the slots of the present bundle do when it closes. -/
  late : List Late := []
  /-- A slot of the present bundle has issued and its last has not. -/
  partway : Bool := false
  /-- Register codes (R121; 0x40 + i for Ai) that slots of the present bundle name as destinations (R118). -/
  named : List Nat := []
  /-- A branch was taken in the present bundle. -/
  taken : Option Int := none
  /-- A taken branch: target, delay slots left. -/
  br : Option (Int × Nat) := none
  /-- Delay slots left after a branch that was not taken (R129). -/
  slots : Nat := 0
  /-- A branch-kind slot stands in the present bundle: its two successors are delay slots. -/
  branched : Bool := false
  /-- RPT stands in the present bundle: repetitions of the next. -/
  rpt : Option Nat := none
  /-- The present bundle is a repetition. -/
  repeating : Bool := false
  /-- TEND stands in the present bundle. -/
  tend : Bool := false
  /-- DMA transfers queued or running. -/
  dma : List Xfer := []
  /-- Bundle cycles since each pending event was raised: 0 TICK, 1 FAULT, 2 MAILBOX (R112). -/
  age : List (Nat × Nat) := []
deriving DecidableEq, Repr

/-- A task descriptor (R46), with its slot lists resolved (R47). -/
structure Task where
  /-- Phase. -/
  phase : Nat
  /-- QoS of its crossbar transactions. -/
  qos : Nat
  /-- Restartable (R74). -/
  restart : Bool
  /-- late_policy: REPEAT_PREV. -/
  repeatPrev : Bool
  /-- Preferred engine, 0xFF for none. -/
  affinity : Nat
  /-- Entry point. -/
  code : Nat
  /-- Tick-store byte offset of the state read (live copy, R50). -/
  stateIn : Nat
  /-- Tick-store byte offset of the state written. -/
  stateOut : Nat
  /-- Input slots. -/
  ins : List Nat
  /-- Output slots. -/
  outs : List Nat
  /-- cycle_budget. -/
  budget : Nat
  /-- State size in 64-byte units. -/
  stateLen : Nat
deriving DecidableEq, Repr

/-- An entry of the phase table (R44). -/
structure Phase where
  first : Nat
  count : Nat
  /-- Bit 0 route, bit 1 mix, bit 2 dynamics. -/
  stages : Nat
deriving DecidableEq, Repr

/-- A loaded graph (R41 to R47). -/
structure Graph where
  id : Nat
  fsSel : Nat
  tSel : Nat
  reserve : Nat
  phases : List Phase
  tasks : List Task
  /-- The code segment (R43). -/
  code : List Byte
  /-- The image's state region in the tick store: base, size. -/
  stateBase : Nat
  stateSize : Nat
  /-- No commit since the load (R66). -/
  fresh : Bool := true
deriving DecidableEq, Repr

/-- Where a task of the tick stands. -/
inductive TStat where
  /-- Its phase is not released, or it is not dealt. -/
  | waiting
  /-- In a deque or backlog. -/
  | queued
  /-- Taken by an engine. -/
  | taken
  /-- Completed. -/
  | done
  /-- Failed (R70, R71, R73). -/
  | failed
  /-- Aborted at the deadline (R65). -/
  | aborted
deriving DecidableEq, Repr

/-- The fabric (R38 to R77). -/
structure Fab where
  /-- The loaded graph. -/
  graph : Option Graph := none
  /-- Status of each task in this tick. -/
  stat : List (Nat × TStat) := []
  /-- The released phase of this tick. -/
  phase : Option Nat := none
  /-- Stages of the released phase still to finish: bit 0 route, bit 1 mix, bit 2 dynamics. -/
  stages : Nat := 0
  /-- The graph of this tick is done (R63). -/
  done : Bool := false
  /-- The watermark warning of this tick was raised. -/
  warned : Bool := false
  /-- The graph of this tick overran. -/
  overran : Bool := false
  /-- Deques, head first. -/
  deque : List (Nat × List Nat) := []
  /-- Backlogs (R57). -/
  backlog : List (Nat × List Nat) := []
  /-- Last victim of each engine, modulo 8 (R60); rr[e] is e mod 8 at a load. -/
  rr : List (Nat × Nat) := []
  /-- Broadcast depths (R59). -/
  depth : List (Nat × Nat) := []
  /-- Occupancy summaries of the clusters (R59). -/
  occ : List (Nat × Nat) := []
  /-- Steals under way: thief, task, across clusters (R61). -/
  steal : List (Nat × Nat × Bool) := []
  /-- Engines with a STEAL_REQ event raised (R61, R73). -/
  stealReq : List Nat := []
  /-- Fences that wait for the boundary (R76). -/
  fence : List Nat := []
  /-- Unfences in progress (R77). -/
  unfence : List Nat := []
  /-- Enables of stealing and xc_min as in force since the last boundary. -/
  stealEn : Bool := true
  xcEn : Bool := true
  xcMin : Nat := 2
  /-- Tick deadline in cycles where the tick is slewed (R63). -/
  deadline : Option Nat := none
  /-- Slot blocks of the tick being processed: written so far. -/
  cur : List (Nat × List Word) := []
  /-- The tick whose blocks were committed last, none before the first commit and after the outputs have ended. -/
  comTick : Option Nat := none
  /-- Slot blocks committed at the last boundary. -/
  com : List (Nat × List Word) := []
  /-- The blocks committed before them, while the outputs fade after a step (R295). -/
  comOld : Option (List (Nat × List Word)) := none
  /-- Input blocks of the tick being processed. -/
  inp : List (Nat × List Word) := []
  /-- Input blocks of the tick before. -/
  inpPrev : List (Nat × List Word) := []
  /-- Slots late-filled by fixed blocks at the deadline: slot, keep the previous block (R165). -/
  cut : List (Nat × Bool) := []
deriving DecidableEq, Repr

/-- A bus entry (R153). -/
structure Bus where
  out : Nat := 0
  phase : Nat := 0
  enable : Bool := false
  ramp : Nat := 0
deriving DecidableEq, Repr

/-- Parameters of a dynamics unit (R158). -/
structure Dyn where
  inp : Nat := 0
  out : Nat := 0
  sc : Nat := 0
  phase : Nat := 0
  enable : Bool := false
  rms : Bool := false
  th : Int := 0
  knee : Nat := 0
  slope : Nat := 0
  makeup : Nat := 0
  alphaA : Nat := 0
  alphaR : Nat := 0
  kRms : Nat := 0
  look : Nat := 0
deriving DecidableEq, Repr

/-- The double-buffered state of a dynamics unit (R159). -/
structure DynMem where
  /-- gr_s. -/
  gr : Int := 0
  /-- RMS mean square. -/
  ms : Nat := 0
  /-- Input history, newest first, at most 64 samples. -/
  hist : List Int := []
deriving DecidableEq, Repr

/-- A dynamics unit in force. -/
structure DynSt where
  e : Dyn := {}
  /-- State in force. -/
  m : DynMem := {}
  /-- The least gr_s of the tick (R168). -/
  low : Int := 0
  /-- State computed in this tick, exchanged at the commit. -/
  next : Option DynMem := none
  /-- Crossfade of the lookahead: old lookahead, first tick (R162). -/
  look : Option (Nat × Nat) := none
  /-- A lookahead that waits for the running crossfade. -/
  defer : Option Nat := none
deriving DecidableEq, Repr

/-- A parameter set (R170 to R175). -/
structure PSet where
  /-- Offset in the parameter area, bytes. -/
  off : Nat
  /-- Size in bytes. -/
  size : Nat
  /-- Active bank. -/
  bank : Nat := 0
  /-- The copy of R174 is running. -/
  copying : Bool := false
deriving DecidableEq, Repr

/-- Meter accumulation of one slot: peak, sum of squares. -/
structure Meter where
  peak : Nat := 0
  sum : Nat := 0
deriving DecidableEq, Repr

/-- A proposal received from the partner and agreed, or sent and waiting (R178). -/
structure Agreement where
  /-- Received from the partner. -/
  received : Bool
  p : Proposal
  /-- AGREE has arrived, or has been sent. -/
  agreed : Bool := false
deriving DecidableEq, Repr

/-- Fixed blocks and parameter sets. -/
structure Mix where
  route : List (Nat × RouteSt) := []
  bus : List (Nat × Bus) := []
  xp : List (Nat × XpSt) := []
  dyn : List (Nat × DynSt) := []
  /-- Host sets defined, by ID (block sets are always defined, R171). -/
  sets : List (Nat × PSet) := []
  /-- Active bank and shadow flags of the block sets 4064-4083. -/
  blocks : List (Nat × PSet) := []
  /-- Late policies in force since the last boundary: route, mix, dynamics (REPEAT_PREV). -/
  lateRte : Bool := false
  lateMix : Bool := false
  lateDyn : Bool := false
  /-- Meter accumulation by slot. -/
  meter : List (Nat × Meter) := []
  /-- Least gr_s by dynamics unit in the interval. -/
  meterGr : List (Nat × Int) := []
  /-- Samples and ticks covered by the accumulation. -/
  meterN : Nat := 0
  meterTicks : Nat := 0
  /-- The meter list changed since the last record (R361). -/
  meterNew : Bool := true
  /-- Proposals under way (R178). -/
  props : List Agreement := []
deriving DecidableEq, Repr

/-- A receive stream (R201 to R210) beside its registers. -/
structure RxSt where
  /-- Active context, 192 bytes (R187); empty for a context never committed. -/
  ctx : List Byte := []
  /-- Duplicate window (R205): highest number, mask of the numbers seen; none when invalid. -/
  win : Option (Nat × Nat) := none
  /-- Samples in staging: absolute sample number, one word a channel (R203). -/
  fill : List (Nat × List Word) := []
  /-- The first tick that R209 fills: tick m of the packet that left WAITING. -/
  first : Nat := 0
  /-- Successive boundaries whose tick accepted no packet (R208). -/
  quiet : Nat := 0
  /-- A packet was accepted in the present tick. -/
  got : Bool := false
  /-- Samples that the channels held in the last tick, position by position (R209). -/
  prev : List (List Word) := []
deriving DecidableEq, Repr

/-- A media packet queued on a port (R198). -/
structure TxPkt where
  stream : Nat
  /-- TICK_NUM of the output block it carries. -/
  tick : Nat
  bytes : List Byte
deriving DecidableEq, Repr

/-- The stream engine beside its registers. -/
structure Str where
  rx : List (Nat × RxSt) := []
  /-- Active transmit contexts. -/
  tx : List (Nat × List Byte) := []
  /-- Transmit contexts of the tick committed last, which serve its packets (R191). -/
  txServe : List (Nat × List Byte) := []
  /-- Staged contexts, receive and transmit. -/
  rxStage : List (Nat × List Byte) := []
  txStage : List (Nat × List Byte) := []
  /-- Packets queued by port 0-2 (R198). -/
  queue : List (Nat × List TxPkt) := []
  /-- The mr bit of each transmit stream, and the grid steps it has answered (R193). -/
  mr : List (Nat × Bool × Nat) := []
  /-- Grid steps so far. -/
  steps : Nat := 0
  /-- The launch of this tick has happened. -/
  launched : Bool := false
deriving DecidableEq, Repr

/-- What a follow-mode port did in a capture window, for the partner (R388): the window's tick, the event, its position. -/
structure Slip where
  tick : Nat
  event : SlipEvent
  pos : Nat
deriving DecidableEq, Repr

/-- A frame of a follow-mode port as it came (R388): its edge, its words, the position that the port's own decisions gave it, and
whether its frame-sync edge was misplaced (R385). -/
structure RawFrame where
  edge : Nat
  words : List Word
  pos : Option Nat
  bad : Bool
deriving DecidableEq, Repr

/-- A TDM port beside its registers (R373 to R388). -/
structure TdmPort where
  /-- Frames received for input positions to come: absolute position tick x T + k, words. -/
  win : List (Nat × List Word) := []
  /-- Input rows of the present tick, position by position (R387). -/
  rows : List (List Word) := []
  /-- Follow mode: network time of the last frame-sync edge, in units of 1/6 ns. -/
  edge : Option Nat := none
  /-- Follow mode: consecutive valid frames within 1000 ppm (R381, R386). -/
  valid : Nat := 0
  /-- Follow mode: absolute position of the next frame; none while the next valid frame takes the nearest one. -/
  next : Option Nat := none
  /-- The event that the next assignment by the nearest instant ends: a resync or a return. -/
  pend : Option SlipEvent := none
  /-- The last frame's words. -/
  last : List Word := []
  /-- Absolute position of the frame in progress; none where it has none (R385). -/
  cur : Option Nat := none
  /-- Own events of the windows not yet past. -/
  slips : List Slip := []
  /-- The frames of the windows not yet past, oldest first. -/
  raw : List RawFrame := []
  /-- The owner's records for the windows not yet past: tick, event, absolute position (R388). -/
  recs : List (Nat × SlipEvent × Nat) := []
  /-- Output positions whose frame began before the commit of their block (R382). -/
  early : List Nat := []
  /-- The output map of the block that is output, where an apply has changed it since (R389). -/
  oldMap : Option (List Nat) := none
  /-- The last two output frames of the block before the one that is output. -/
  tail : List (List Word) := []
deriving DecidableEq, Repr

/-- The TDM ports beside their registers. -/
structure Tdm where
  ports : List (Nat × TdmPort) := []
  /-- An apply is armed: its tick. -/
  armed : Option Nat := none
  /-- The tick in which it was armed. -/
  armedIn : Nat := 0
  /-- Positions of the present tick whose output frames the ports that time their own have sent. -/
  sent : Nat := 0
  /-- Tick whose capture windows closed last. -/
  closed : Nat := 0
deriving DecidableEq, Repr

/-- The state of an amplifier channel (R263), in the order of MOD_CH_STATUS.state. -/
inductive ChState where
  | off | check | play | mute | tripped | retry
deriving DecidableEq, Repr

/-- MOD_CH_STATUS.state's code. -/
def ChState.code : ChState → Nat
  | .off => 0
  | .check => 1
  | .play => 2
  | .mute => 3
  | .tripped => 4
  | .retry => 5

/-- Sums of an impedance window (R271): samples, Vc, Vs, Ic, Is, a bitstream overloaded. -/
structure ZSum where
  n : Nat := 0
  vc : Int := 0
  vs : Int := 0
  ic : Int := 0
  is : Int := 0
  ovl : Bool := false
deriving DecidableEq, Repr

/-- One sample of a channel's chain (R257 to R259): index, value, bus voltage, g_ramp was 0. -/
structure ModSample where
  k : Nat
  y : Word
  vbus : Word
  g0 : Bool
deriving DecidableEq, Repr

/-- The period a channel runs (R255): its start in fine counts of network time, its modulation value. -/
structure Period where
  t0 : Nat
  m : Word
deriving DecidableEq, Repr

/-- One amplifier channel (R248 to R278) beside its registers. -/
structure AmpCh where
  st : ChState := .off
  /-- Boundaries left of the timer of TRIPPED or RETRY. -/
  timer : Nat := 0
  /-- PSTAGE_EN_N asserted. -/
  stage : Bool := false
  /-- Time since PSTAGE_EN_N was asserted, at the last boundary, in units of 1/6 ns. -/
  since : Nat := 0
  /-- g_ramp: where its ramp comes from, its target, its length, samples of it so far (R263, R143). -/
  gFrom : Int := 0
  gTo : Int := 0
  gLen : Nat := 0
  gK : Nat := 0
  /-- The channel is on its way to OFF (R263). -/
  stopping : Bool := false
  /-- The period that runs is the channel's last. -/
  last : Bool := false
  /-- The chain's samples, oldest first (R257). -/
  hist : List ModSample := []
  /-- The period that runs. -/
  per : Option Period := none
  /-- Edges computed for it: leg B, fine counts from its start, level. -/
  edges : List PinEdge := []
  /-- The check's window (R267), none while it does not run. -/
  chk : Option ZSum := none
  /-- The impedance window (R271), none while it does not run. -/
  win : Option ZSum := none
  /-- Learning (R272): valid windows so far, sum of |Z|. -/
  learn : Option (Nat × Nat) := none
  /-- gr of R273. -/
  gr : Int := 0
  /-- g_t of R273. -/
  gt : Int := 0
  /-- Sums of the last sub-blocks, oldest first, at most 64. -/
  sums : List Int := []
  /-- The running sub-block: its sum, its ticks. -/
  sub : Int := 0
  subT : Nat := 0
  /-- Sense samples of the window just closed, of the tick to come: voltage, current (R261). -/
  vNext : List Word := []
  iNext : List Word := []
  /-- The last 1024 bits of the two bitstreams, newest first (R261). -/
  vBits : List Bool := []
  iBits : List Bool := []
  /-- Sense samples of the present tick. -/
  v : List Word := []
  i : List Word := []
deriving DecidableEq, Repr

/-- The modulator and the sense paths. -/
structure Amp where
  ch : List (Nat × AmpCh) := []
  /-- An apply is armed: its tick (R277). -/
  armed : Option Nat := none
  /-- The tick in which it was armed. -/
  armedIn : Nat := 0
deriving DecidableEq, Repr


/-- A reference (R282 to R286). -/
structure Ref where
  /-- Qualified. -/
  q : Bool := false
  /-- Windows of the hold-off left; none while it does not run. -/
  wait : Option Nat := none
  /-- Active in its last window. -/
  act : Bool := false
  /-- Frequency offset of the last window, ppb. -/
  ppb : Int := 0
  /-- A rate change was found, and since then not yet 64 stable periods (R284). -/
  rough : Bool := false
  /-- The last phase offsets in ps, newest first, at most 16. -/
  phases : List Int := []
deriving DecidableEq, Repr

/-- A disputed pair (R288): the lower and the higher index, the one that is kept, windows below half the threshold so far. -/
structure Dispute where
  a : Nat
  b : Nat
  keep : Nat
  calm : Nat := 0
deriving DecidableEq, Repr

/-- A timer's target (R308), in ns of network time; it holds while the timer is armed. -/
structure Timer where
  target : Nat := 0
  armed : Bool := false
deriving DecidableEq, Repr

/-- References, DPLL, holdover and timers beside their registers. -/
structure ClkX where
  refs : List (Nat × Ref) := []
  disputes : List Dispute := []
  /-- Offsets in ps that wait for the boundary (R293). -/
  offs : Int := 0
  /-- An offset has arisen since a boundary last applied one, be their sum 0 (R293). -/
  offAny : Bool := false
  /-- References before and after the events that caused them (R520). -/
  offFrom : Nat := 7
  offTo : Nat := 7
  /-- The DPLL has locked since the reset. -/
  locked : Bool := false
  /-- FREE count in units at which the DCO's clamp began. -/
  clampAt : Option Nat := none
  /-- The loop bandwidth in use, coded as track_bw (R291). -/
  bw : Nat := 5
  /-- DCO values in TRACK with the units that each held, newest first, 60 s of them (R297). -/
  dco : List (Int × Nat) := []
  /-- FREE count in units up to which `dco` has the DCO value. -/
  dcoU : Nat := 0
  /-- Whole seconds of the FREE count that CLK_HO_AGE has counted. -/
  secs : Nat := 0
  /-- The oscillator that the module runs from: the one taken at the last reset, after its fault the TCXO (R279). -/
  osc : Nat := 0
  /-- The media PLL is locked (R281). -/
  pll : Bool := true
  /-- FREE count in units from which the phase error has been within lock_thr, and above 10 times it, without a break (R290). -/
  inU : Option Nat := none
  outU : Option Nat := none
  /-- CLK_BUILDOUT goes into the offset of the next boundary (R292). -/
  realign : Bool := false
  /-- FREE count in units at which PPS_OUT falls (R309). -/
  ppsEnd : Option Nat := none
  timers : List (Nat × Timer) := []
deriving DecidableEq, Repr


/-- A serial lane beside its registers (R318 to R324, R336). -/
structure Lane where
  /-- Training state that it sends (R323). -/
  sent : Nat := 0
  /-- Consecutive training blocks received with state 2. -/
  far2 : Nat := 0
  /-- The bit position that the hunt examines, modulo 66 (R320). -/
  pos : Nat := 0
  /-- Partner-lane ID of the last training block received. -/
  farId : Option Nat := none
  /-- Bit count and error count of the checker (R336). -/
  bits : Nat := 0
  errs : Nat := 0
  /-- Generator bits inverted (R336) that a near-end loop has brought to the checker, not yet counted (R335). -/
  inj : Nat := 0
deriving DecidableEq, Repr

/-- A PAUSE that holds a port's transmitter (R330): FREE count in units at the end of the PAUSE frame, its quanta. -/
structure Pause where
  since : Nat
  quanta : Nat
deriving DecidableEq, Repr

/-- A management transmit descriptor that the MAC has taken up (R307, R362, R363). -/
structure MgmtTx where
  /-- MAC port. -/
  port : Nat
  /-- Its launch time was not in the future, or fell while the port could not send: it completes LATE (R307, R331, R334). -/
  held : Bool := false
  /-- A PTP event message (R301). -/
  ptp : Bool := false
  /-- The frame was sent, and completes LATE? -/
  sent : Option Bool := none
  /-- Launch time (R307), none for a frame that has none. -/
  launch : Option Nat := none
  /-- ts_req. -/
  ts : Bool := false
  /-- Status it completed with (R358). -/
  status : Option Nat := none
  /-- The time stamp that its descriptor takes. -/
  stamp : Nat := 0
  /-- Its descriptor is written back (R345). -/
  back : Bool := false
deriving DecidableEq, Repr

/-- The lanes and MACs beside their registers. -/
structure Eth where
  lanes : List (Nat × Lane) := []
  pause : List (Nat × Pause) := []
  /-- Management transmit descriptors taken up, by ring index. -/
  mtx : List (Nat × MgmtTx) := []
deriving DecidableEq, Repr

/-- The spare rows of a sub-bank (R405 to R407): the rows replaced by spares 0 and 1, and the spares that failed their test. -/
structure Spares where
  row0 : Option Nat := none
  row1 : Option Nat := none
  bad0 : Bool := false
  bad1 : Bool := false
deriving DecidableEq, Repr

/-- Crossbar and SRAM beside their registers. -/
structure Sram where
  /-- What is being drained (R399): a master by its number, engine e as 32 + e. -/
  drain : List Nat := []
  /-- Writes of stopped engines that are being drained: engine, address, words (R399). -/
  landing : List (Nat × Nat × List Word) := []
  /-- Unit under a transparent march (R407). -/
  march : Option Nat := none
  /-- A power-up test found an SRAM that cannot be repaired (R406), or the DRAM's training failed (R429): start-up does not go on to run
  audio. -/
  noAudio : Bool := false
  /-- Repair map by sub-bank (R406). -/
  spares : List (Nat × Spares) := []
  /-- Rows of every memory that the patrol scrub has read (R404). -/
  scrub : Nat := 0
  /-- Addresses of the 64-bit words, of SRAM or DRAM, found uncorrectable and not yet replaced by a full write (R402, R414). -/
  bad : List Nat := []
deriving DecidableEq, Repr

/-- What the controller's clock brought about at a change of hot (R425), for events of the same clock: hot now, what stood before. -/
structure HotNow where
  hot : Bool
  /-- Outbox entries before the change, and those that it added. -/
  start : Nat
  added : Nat
  status : Word
  forced : Word
  hots : Word
  t0 : Nat
  t1 : Nat
  end0 : Nat
  end1 : Nat
deriving DecidableEq, Repr

/-- The DRAM controller beside its registers. -/
structure Ddr where
  /-- FREE count in units at which each rank's refresh timer started its interval (R420). -/
  t0 : Nat := 0
  t1 : Nat := 0
  /-- Self-refresh as the retention latches of PD_AON hold it (R431). -/
  held : Bool := false
  /-- Delay and Vref registers saved at the entry of self-refresh (R432). -/
  saved : List (Nat × Word) := []
  /-- A training sequence has failed and is repeated (R429). -/
  failed : Bool := false
  /-- The clearing engine runs (R430). -/
  clearing : Bool := false
  /-- FREE count in units of the last write of DDR_TEMP, or of the end of the clearing (R423). -/
  tempU : Nat := 0
  /-- Where the patrol scrub goes on, from the start of DRAM (R415). -/
  scrub : Nat := 0
  /-- The channel is trained: its refresh timers run (R412, R420, R432). -/
  live : Bool := false
  /-- FREE count in units at which each rank's last batch of refreshes ends (R422). -/
  end0 : Nat := 0
  end1 : Nat := 0
  /-- The RT port's buffers as last told (R418). -/
  rt : RtBuf := {}
  /-- The second of network time of the last correction, and the words corrected in it (R414). -/
  corrSec : Nat := 0
  corrN : Nat := 0
deriving DecidableEq, Repr

/-- A transaction of the two-wire target whose address byte SCL is held for (R461). -/
inductive TgtHeld where
  /-- The acknowledged bytes of a write. -/
  | write (bytes : List Byte)
  /-- The bytes that a read takes of its first word. -/
  | fetch (n : Nat)
deriving DecidableEq, Repr

/-- The two-wire target beside its registers (R454 to R462). -/
structure TwiTgt where
  /-- Words of a closed write that wait for their domain (R458, R460): register-space offset, word. -/
  writes : List (Nat × Word) := []
  /-- A read fetch waits for its domain (R458, R461): the bytes of its word that the controller takes. -/
  read : Option Nat := none
  /-- In legacy mode, the transaction that waits for its acknowledge (R461). -/
  held : Option TgtHeld := none
  /-- FREE count in units from which SCL has been held low (R461). -/
  since : Nat := 0
  /-- A read goes on: the controller took the last byte of a word (R459). -/
  more : Bool := false
deriving DecidableEq, Repr

/-- Where the boot stands (R480 to R482). -/
inductive BootSt where
  /-- The boot ROM does not run: PD_CTRL is not released. -/
  | off
  /-- An attempt may start, or runs. -/
  | ready
  /-- The wait after a failed attempt; true where a warm reset follows it (R482). -/
  | waiting (reset : Bool)
  /-- Core 0 runs from the entry point; ok is not yet written. -/
  | started
  /-- ok was written. -/
  | ok
deriving DecidableEq, Repr

/-- Power, reset and boot beside their registers. -/
structure Pwr where
  /-- A power-on sequence runs (R475): the domain being switched on, and those after it. -/
  seq : List Nat := []
  /-- FREE count in units from which the cluster in front of it may start (R475). -/
  seqU : Nat := 0
  /-- PD_AON is powered and power-on reset is released. -/
  aon : Bool := false
  /-- RESET_N is low (R476). -/
  pin : Bool := false
  /-- A thermal reset is held (R471). -/
  hot : Bool := false
  /-- VIN is lost: below 4.1 V, or above 19.0 V and not yet below 18.0 V again (R469). -/
  cut : Bool := false
  /-- It was cut off above 19.0 V. -/
  ovp : Bool := false
  /-- VIN as last told, in 10 mV (R469), and the highest die temperature as last read (R471). -/
  vin : Nat := 0
  temp : Int := 0
  /-- A cold reset was carried out and is held: no sequence runs (R476). -/
  held : Bool := false
  /-- PD_CTRL was released after a reset and the condition sources are still to be examined (R519). -/
  scan : Bool := false
  /-- A cold reset is asked for and not yet carried out: its SYS_RESET_REASON bits. -/
  coldReq : Nat := 0
  /-- FAULT domains whose request bit has been written 0 (R474). -/
  cleared : Nat := 0
  /-- A warm reset has released OWN and started the drain of every master, and waits for them (R477). -/
  draining : Bool := false
  /-- Domains that are being switched off: their masters are being drained (R473). -/
  offs : List Nat := []
  /-- Domains released in the present clock cycle: the levels that their blocks find show from the next one (R516). -/
  levels : List Nat := []
  boot : BootSt := .off
  /-- The entry point at which core 0 was started: its offset in the primary (R480). -/
  entry : Nat := 0
  /-- FREE count in units at which the wait ends. -/
  waitU : Nat := 0
  /-- FREE count in units at which the reload began; none while none is in progress. -/
  reload : Option Nat := none
  /-- FREE count in units at which each core's watchdog was restarted (R484). -/
  kick0 : Nat := 0
  kick1 : Nat := 0
deriving DecidableEq, Repr

/-- The frames of a receive context that reached its window in the present clock cycle, in the order of R206, with what stood before
the first of them. -/
structure MediaNow where
  /-- Receive context. -/
  ctx : Nat
  rx : RxSt
  /-- The stream's registers, by offset. -/
  regs : List (Nat × Word)
  /-- Source, frame, receive time. -/
  frames : List (Nat × List Byte × Nat) := []
  /-- Source and frame of the copies already offered to the partner link (R207). -/
  sent : List (Nat × List Byte) := []
deriving DecidableEq, Repr

/-- A lane as it stood before the first event of R318 that moved it in the present clock cycle (R319). -/
structure LaneNow where
  lane : Nat
  /-- SDS_STATUS, SDS_RESTART_CNT, SDS_LOCK_LOSS_CNT. -/
  status : Word
  restarts : Word
  losses : Word
  x : Lane
  /-- The event was the timeout of a step. -/
  timeout : Bool
  /-- It counted a loss of block lock in training (R233). -/
  counted : Bool
deriving DecidableEq, Repr

/-- What happened in the present clock cycle, for the rules about events that fall in one cycle. -/
structure Now where
  /-- Engines that an abort or a fence stopped (R113). -/
  stopped : List Nat := []
  /-- Engines whose MAILBOX event was raised (R113). -/
  rung : List Nat := []
  /-- FLT_CLASS registers written, by offset, with the words before (R435). -/
  cls : List (Nat × Word) := []
  /-- Media frames at the windows of their contexts (R206). -/
  media : List MediaNow := []
  /-- Lanes that an event of R318 moved (R319). -/
  lanes : List LaneNow := []
  /-- A change of hot (R425). -/
  hot : Option HotNow := none
deriving DecidableEq, Repr

/-- The state of the KX2048 block. -/
structure State where
  /-- Register words that differ from their reset words, by BAR0 offset (R9, R516). -/
  regs : List (Nat × Word) := []
  /-- Holding registers of the capture rule (R36), by the offset of the captured register; they reset to 0. -/
  hold : List (Nat × Word) := []
  /-- Words written to the HI registers of write pairs that wait for the write of LO (R36), by offset. -/
  whold : List (Nat × Word) := []
  /-- Staged registers of the modulator, sense and TDM blocks as applied (R277, R389), by BAR0 offset. -/
  applied : List (Nat × Word) := []
  /-- Bits that the hardware set in the present clock cycle, by register (R11). -/
  sets : List (Nat × Word) := []
  /-- What else happened in the present clock cycle. -/
  now : Now := {}
  /-- The word the last register read returned. -/
  lastRead : Word := 0
  /-- Memory bytes by internal address (R391); an unlisted byte reads 0 (R405, R430; log entry 5). -/
  mem : List Host.Cell := []
  /-- Straps and identity of the part: the module ID (spec/17, SYS_ID). -/
  moduleId : BitVec 64 := 0
  /-- PREF strap. -/
  pref : Bool := false
  /-- TWI_ADDR1:TWI_ADDR0 straps. -/
  twiAddr : BitVec 2 := 0
  /-- TEST_MODE level at the release of power-on reset. -/
  testMode : Bool := false
  /-- The four public keys of the boot ROM (R479): points of P-256. The spec gives none; the base point here (log entry 6). -/
  bootKeys : List (Nat × Nat) := List.replicate 4 (p256Gx, p256Gy)
  /-- Local clock and tick grid. -/
  clk : Clock := {}
  /-- References, DPLL and timers. -/
  clkx : ClkX := {}
  /-- Run state of the tick. -/
  run : RunState := .stopped
  /-- Fault collector. -/
  flt : Flt := {}
  /-- Warm resets asked for and not yet carried out: a mask of SYS_RESET_REASON bits (R476). -/
  warmReq : Nat := 0
  /-- Host interface. -/
  hif : Hif := {}
  /-- Scheduled actions (R19), in order of acceptance. -/
  sched : List Timed := []
  /-- Engine fabric. -/
  fab : Fab := {}
  /-- Engines 0-95. -/
  eng : List (Nat × Engine) := []
  /-- Fixed blocks and parameter sets. -/
  mix : Mix := {}
  /-- Stream engine. -/
  str : Str := {}
  /-- TDM ports. -/
  tdm : Tdm := {}
  /-- Modulator and sense. -/
  amp : Amp := {}
  /-- Twin block. -/
  twn : Twin := {}
  /-- Lanes and MACs. -/
  eth : Eth := {}
  /-- Crossbar and SRAM. -/
  sram : Sram := {}
  /-- DRAM controller. -/
  ddr : Ddr := {}
  /-- Two-wire target. -/
  tgt : TwiTgt := {}
  /-- Power, reset and boot. -/
  pwr : Pwr := {}
  /-- Commands that wait, first in first out. -/
  pending : List Instr := []
  /-- What the module sent, oldest first. -/
  outbox : List Out := []
  /-- The model's own counter: how many free values have been taken (log entry 4). -/
  fresh : Nat := 0
deriving DecidableEq, Repr

/-- Why the block stops with a fault. No command's meaning raises one: every fault the spec describes is a state of the
fault collector (R433-R453), so the type is kept for the interface alone. -/
inductive Fault where
  /-- Raised by no command. Safe: a stop proves nothing about the hardware. -/
  | none
deriving DecidableEq, Repr

/-- Why a command is refused. -/
inductive Refusal where
  /-- The command has no meaning in the model yet; raised by `exec`'s arms alone. Safe: nothing is claimed of it. -/
  | notModelled (mnemonic : String)
deriving DecidableEq, Repr

/-- The machine right after power-on reset: every register at its reset word (R516), SYS_RESET_REASON with its por bit
(R476), every domain still off (PWR_DOM_ON 0), memories zero (R405, R430), no graph, no stream, time 0 (R306), an empty queue. -/
def State.reset : State := {}

end Sys2Proof.Machine
end

