-- ==== Sys2Proof/Machine/Ops.lean ====
section
/-!
DEFINITION. The named operations over the state that the meanings share: registers and their fields (R9, R10, R36),
memory (R391), time (R16, R303, R304), saturating counters (R37), the outbox, and events to the host (R359, R360).
-/

namespace Sys2Proof.Machine

/-! ## Registers -/

/-- The stored word of the register at a BAR0 offset. -/
def State.reg (s : State) (o : Nat) : Word := Tbl.get resetWord s.regs o

/-- Store a word in the register at a BAR0 offset. -/
def State.put (s : State) (o : Nat) (w : Word) : State := { s with regs := Tbl.set resetWord s.regs o w }

/-- A field of a register, as a number. -/
def State.fld (s : State) (f : Fld) : Nat := bitsOf (s.reg f.reg) f.hi f.lo

/-- Set a field of a register. -/
def State.setFld (s : State) (f : Fld) (v : Nat) : State := s.put f.reg (setBits (s.reg f.reg) f.hi f.lo v)

/-- A one-bit field as a Boolean. -/
def State.flag (s : State) (f : Fld) : Bool := s.fld f = 1

/-- Note a bit that the hardware sets in the present clock cycle (R11). -/
def State.noteSet (s : State) (f : Fld) : State :=
  { s with sets := Tbl.set (fun _ => 0) s.sets f.reg (setBits (Tbl.get (fun _ => 0) s.sets f.reg) f.hi f.lo 1) }

/-- Set a one-bit field from a Boolean. A bit that is set is noted for the present clock cycle (R11). -/
def State.setFlag (s : State) (f : Fld) (b : Bool) : State :=
  { s.setFld f (bit b) with sets := if b then (s.noteSet f).sets else s.sets }

/-- Set bits of a w1c field of several bits, each noted for the present clock cycle (R11). -/
def State.setSeen (s : State) (f : Fld) (v : Nat) : State :=
  let old := Tbl.get (fun _ => 0) s.sets f.reg
  { s.setFld f (s.fld f ||| v) with
    sets := Tbl.set (fun _ => 0) s.sets f.reg (setBits old f.hi f.lo (bitsOf old f.hi f.lo ||| v)) }

/-- The bits of a register that the hardware set in the present clock cycle (R11). -/
def State.setNow (s : State) (o : Nat) : Word := Tbl.get (fun _ => 0) s.sets o

/-- A w1c bit written 1 clears, but where the hardware sets it in the same clock cycle (R11). -/
def State.clearFlag (s : State) (f : Fld) : State := if bitsOf (s.setNow f.reg) f.hi f.lo = 1 then s else s.setFlag f false

/-- Increment a 32-bit counter that saturates at 0xFFFF_FFFF (R37). -/
def State.countBy (s : State) (o n : Nat) : State := s.put o (word (min ((s.reg o).toNat + n) 0xFFFFFFFF))

/-- Increment a saturating counter by one (R37). -/
def State.count (s : State) (o : Nat) : State := s.countBy o 1

/-- The 64-bit value of a LO/HI register pair. -/
def State.pair (s : State) (lo hi : Nat) : Nat := (s.reg lo).toNat + (s.reg hi).toNat * 2 ^ 32

/-- Store a 64-bit value in a LO/HI register pair. -/
def State.putPair (s : State) (lo hi v : Nat) : State := (s.put lo (word v)).put hi (word (v / 2 ^ 32))

/-- A write of the HI register of a write pair (R36): it waits for the write of LO. -/
def State.holdHi (s : State) (hi : Nat) (w : Word) : State := { s with whold := Tbl.put hi w s.whold }

/-- A write of the LO register of a write pair (R36): the held word of HI takes effect with it. -/
def State.putLo (s : State) (lo hi : Nat) (w : Word) : State :=
  let h := Tbl.get (fun _ => s.reg hi) s.whold hi
  { (s.put lo w).put hi h with whold := Tbl.drop hi s.whold }

/-- Return every register of the blocks that `p` picks (by domain number) to its reset word. -/
def State.resetRegs (s : State) (p : Nat → Bool) : State :=
  { s with
    regs := s.regs.filter fun e => !p e.1
    hold := s.hold.filter fun e => !p e.1
    whold := s.whold.filter fun e => !p e.1 }

/-- A domain is released (R472, R474): its registers answer. PD_AON always does. -/
def State.domOn (s : State) (d : Nat) : Bool := d = 0 || (s.fld F.PWR_DOM_ON_on).testBit d

/-- A command of a register block whose domain is off has no effect (R10, R474). -/
def State.ifOn (s : State) (d : Nat) (f : State → State) : State := if s.domOn d then f s else s

/-! ## Drains (R399, R400) -/

/-- Update the SRAM state. -/
def State.setSram (s : State) (f : Sram → Sram) : State := { s with sram := f s.sram }

/-- The drain of a master's transactions, or of an engine's (32 + e), starts and is counted; one that runs goes on. -/
def State.drainMaster (s : State) (m : Nat) : State :=
  if s.sram.drain.contains m then s
  else ((s.setSram fun x => { x with drain := x.drain ++ [m] }).setFlag F.XBR_STATUS_drain true).count R.XBR_DRAIN_CNT

/-- A master may issue new transactions: it is not being drained. -/
def State.mayIssue (s : State) (m : Nat) : Bool := !s.sram.drain.contains m

/-! ## The outbox -/

/-- Record something sent. -/
def State.emit (s : State) (o : Out) : State := { s with outbox := s.outbox ++ [o] }

/-! ## Memory -/

/-- What an unlisted byte of memory reads as: 0 (R405, R430; log entry 5). -/
def memByte : Nat → Byte := fun _ => 0

/-- The canonical form of memory. -/
abbrev memWf (m : List Host.Cell) : Prop := Tbl.wf memByte m

/-- The byte at an internal address. -/
def State.byte (s : State) (a : Nat) : Byte := Tbl.get memByte s.mem a

/-- Store a byte at an internal address. -/
def State.putByte (s : State) (a : Nat) (b : Byte) : State := { s with mem := Tbl.set memByte s.mem a b }

/-- `n` bytes from an address. -/
def State.bytes (s : State) (a : Nat) : Nat → List Byte
  | 0 => []
  | n + 1 => s.byte a :: s.bytes (a + 1) n

/-- Store bytes from an address up. -/
def State.putBytes (s : State) (a : Nat) : List Byte → State
  | [] => s
  | b :: bs => (s.putByte a b).putBytes (a + 1) bs

/-- The little-endian 32-bit word at an address (R8). -/
def State.memWord (s : State) (a : Nat) : Word := word (leNat (s.bytes a 4))

/-- Store a little-endian 32-bit word at an address (R8). -/
def State.putMemWord (s : State) (a : Nat) (w : Word) : State := s.putBytes a (leBytes 4 w.toNat)

/-- The DRAM target serves every master: cleared, and not in self-refresh (R430, R432). Else a request waits. -/
def State.dramReady (s : State) : Bool := s.flag F.DDR_STATUS_init_done && !s.flag F.DDR_STATUS_sr

/-! ## Checks over bytes -/

/-- One bit of the CRC-32 of IEEE 802.3, reflected. -/
def crc32Bit (c : Word) : Word := if c.getLsbD 0 then (c >>> 1) ^^^ 0xEDB88320#32 else c >>> 1

/-- `n` bits of it. -/
def crc32Bits : Nat → Word → Word
  | 0, c => c
  | n + 1, c => crc32Bits n (crc32Bit c)

/-- CRC-32, IEEE 802.3 polynomial (R178, R228). -/
def crc32 (bs : List Byte) : Word :=
  ~~~(bs.foldl (fun c b => crc32Bits 8 (c ^^^ b.setWidth 32)) 0xFFFFFFFF#32)

/-- A frame as the MAC sends it: padded with zeros to 60 bytes, then its FCS (R327). -/
def withFcs (f : List Byte) : List Byte :=
  let g := f ++ List.replicate (60 - f.length) 0
  g ++ leBytes 4 (crc32 g).toNat

/-- One bit of CRC-64/ECMA-182 (R230). -/
def crc64Bit (c : BitVec 64) : BitVec 64 := if c.msb then (c <<< 1) ^^^ 0x42F0E1EBA9EA3693#64 else c <<< 1

/-- `n` bits of it. -/
def crc64Bits : Nat → BitVec 64 → BitVec 64
  | 0, c => c
  | n + 1, c => crc64Bits n (crc64Bit c)

/-- CRC-64/ECMA-182 continued over bytes (R230): no reflection, no final exclusive or. -/
def crc64 (c : BitVec 64) (bs : List Byte) : BitVec 64 :=
  bs.foldl (fun c b => crc64Bits 8 (c ^^^ BitVec.ofNat 64 (b.toNat * 2 ^ 56))) c

/-! ## The tick and the time -/

/-- fs in Hz for a value of fs_sel (R13). -/
def fsHz (sel : Nat) : Nat := 48000 * 2 ^ sel

/-- One sample period in units of 1/6 ns (R13). -/
def sampleU (sel : Nat) : Nat := 125000 / 2 ^ sel

/-- T in samples for a value of t_sel (R13). -/
def tSamples (sel : Nat) : Nat := 4 * 2 ^ sel

/-- fs of the module in Hz. -/
def State.fs (s : State) : Nat := fsHz (s.fld F.TCK_CFG_fs_sel)

/-- One sample period in units. -/
def State.sampU (s : State) : Nat := sampleU (s.fld F.TCK_CFG_fs_sel)

/-- The tick length T in samples. -/
def State.T (s : State) : Nat := tSamples (s.fld F.TCK_CFG_t_sel)

/-- The tick period in units. -/
def State.tickU (s : State) : Nat := s.T * s.sampU

/-- The link offset L in ticks (R15). -/
def State.L (s : State) : Nat := s.fld F.TCK_CFG_link_off

/-- The number of slots at the current fs (R12). -/
def State.nslots (s : State) : Nat := 4096 / 2 ^ s.fld F.TCK_CFG_fs_sel

/-- The tick budget in engine cycles (R14): the tick period at 1.2 GHz. -/
def State.budget (s : State) : Nat := s.tickU / 5

/-- TICK_NUM. -/
abbrev State.tickNum (s : State) : Nat := s.clk.tickNum

/-- The length of the present tick in units: T sample periods, but for a slewed or a stepped tick (R293, R294). -/
def State.tickLen (s : State) : Nat := s.clk.lenU.getD s.tickU

/-- Network time on the tick grid, in units of 1/6 ns since the epoch (R16): b_n plus the position in the tick. A slewed
tick spreads its T sample periods over its length (R293); in a stepped tick the new time holds from b_n on (R294). -/
def State.gridU (s : State) : Nat :=
  let b := s.clk.tickNum * s.tickU
  if s.clk.commitAs.isSome then ((b + s.clk.tickPos : Nat) + s.clk.shift).toNat
  else b + s.clk.tickPos * s.tickU / s.tickLen

/-- A register of those that take effect by a command of their own (R277, R304, R298, R389), as it is in effect. -/
def State.app (s : State) (o : Nat) : Word := Tbl.get resetWord s.applied o

/-- Put such a register into effect. -/
def State.putApp (s : State) (o : Nat) (w : Word) : State := { s with applied := Tbl.set resetWord s.applied o w }

/-- The signed 40-bit rate r of R304. -/
def State.rate (s : State) : Int := signExt 40 ((s.app R.TIM_RATE_LO).toNat + (s.app R.TIM_RATE_HI).toNat * 2 ^ 32)

/-- The signed 96-bit offset O of R304. -/
def State.offset (s : State) : Int :=
  signExt 96 ((s.app (R.TIM_OFS 0)).toNat + (s.app (R.TIM_OFS 1)).toNat * 2 ^ 32 + (s.app (R.TIM_OFS 2)).toNat * 2 ^ 64)

/-- The FREE count C in ns (R304). -/
def State.freeC (s : State) : Nat := s.clk.freeU / 6 % 2 ^ 64

/-- R304: network time from C, r and O, in units of 2^-32 ns. -/
def freeTime (c : Nat) (r o : Int) : Int := (c : Int) * 2 ^ 32 + ((c : Int) * r) / 2 ^ 16 + o

/-- TIM_CFG.fmt selects FREE. -/
def State.isFree (s : State) : Bool := s.flag F.TIM_CFG_fmt

/-- Network time in units of 1/6 ns (R303, R304): the grid's, in FREE format that of R304. -/
def State.timeU (s : State) : Nat :=
  if s.isFree then (freeTime s.freeC s.rate s.offset * 6 / 2 ^ 32).toNat else s.gridU

/-- Network time in whole ns (R303, R304). -/
def State.netNs (s : State) : Nat := s.timeU / 6

/-- Network time: whole seconds, 48 bits (R303). -/
def State.netSec (s : State) : Nat := s.netNs / 1000000000 % 2 ^ 48

/-- Network time: nanoseconds within the second (R303). -/
def State.netSubNs (s : State) : Nat := s.netNs % 1000000000

/-- The 32-bit time stamp of now (R305). -/
def State.stamp (s : State) : Nat := if s.isFree then s.freeC % 2 ^ 32 else s.netNs % 2 ^ 32

/-- Put the tick grid at a network time (R16): TICK_NUM is floor(t x fs / T), and the tick is one of T sample periods: what
a slew or a step had left of the present tick is dropped (DESIGN CHOICE, log entry 32). -/
def State.setGridU (s : State) (u : Nat) : State :=
  { s with clk := { s.clk with
      tickNum := u / s.tickU, tickPos := u % s.tickU, frac := 0, lenU := none, commitAs := none, shift := 0 } }

/-- Parts of a unit in which the grid's rate counts: 10^12 for the DCO's ppt (R280), 2^48 for r in FREE format (R304). -/
def State.gridDen (s : State) : Int := if s.isFree then 2 ^ 48 else 10 ^ 12

/-- What the grid advances for one unit of the system oscillator, in those parts: the DCO clock advances the local clock
(R281, R303), in FREE format r does (R304). -/
def State.gridRate (s : State) : Int :=
  s.gridDen + (if s.isFree then s.rate else (s.reg R.CLK_DCO_NOW).toInt)

/-- Network time's fraction of a nanosecond in 2^-16 ns (R303). -/
def State.netFrac (s : State) : Nat :=
  if s.isFree then (freeTime s.freeC s.rate s.offset / 2 ^ 16 % 2 ^ 16).toNat
  else (((s.gridU % 6 : Nat) * s.gridDen + s.clk.frac) * 2 ^ 16 / (6 * s.gridDen)).toNat

/-- The calendar's count for one unit, in hundred-millionths: RTC_CAL.corr counts in 0.01 ppm (R310). A positive correction
makes the calendar count faster (DESIGN CHOICE, log entry 32). -/
def State.calRate (s : State) : Nat := ((10 ^ 8 : Int) + (BitVec.ofNat 16 (s.fld F.RTC_CAL_corr)).toInt).toNat

/-- PPS_OUT falls when its high time is over (R309). -/
def State.ppsFall (s : State) : State :=
  match s.clkx.ppsEnd with
  | some e => if e ≤ s.clk.freeU then { s.emit (.pin "PPS_OUT" 0 false) with clkx := { s.clkx with ppsEnd := none } } else s
  | none => s

/-! ## The partner link's lanes (R228, R229) -/

/-- A data block. -/
def dataBlock (b : List Byte) : LinkBlock := ⟨false, b⟩

/-- A control block of a type (R228). -/
def ctlBlock (ty : Nat) (b : List Byte) : LinkBlock := ⟨true, leBytes 1 ty ++ b⟩

/-- The idle block. -/
def idleBlock : LinkBlock := ctlBlock 0x1E (List.replicate 7 0)

/-- A message in blocks of 8 bytes, the last padded with zeros; `n` of them. -/
def dataBlocks : Nat → List Byte → List LinkBlock
  | 0, _ => []
  | n + 1, b => dataBlock ((b ++ List.replicate 8 0).take 8) :: dataBlocks n (b.drop 8)

/-- A message as a lane carries it: start block, data blocks, end block with the CRC-32 of the payload (R228). The fields of
control blocks are in network order, as R8 has it for messages (DEDUCED for the marker and the training block, log entry 38). -/
def msgBlocks (m : LinkMsg) : List LinkBlock :=
  ctlBlock 0x78 (leBytes 1 m.cls ++ [0] ++ beBytes 2 m.payload.length ++ beBytes 3 m.seq)
    :: dataBlocks ((m.payload.length + 7) / 8) m.payload ++ [ctlBlock 0xE1 (beBytes 4 (crc32 m.payload).toNat ++ [0, 0, 0])]

/-- The tick-boundary marker of a tick, with its offset from the boundary in 40 ps units (R228, R232). -/
def markerBlock (n off : Nat) : LinkBlock := ctlBlock 0x2D (beBytes 6 (n % 2 ^ 48) ++ leBytes 1 (off % 64))

/-- How long blocks take on a lane, in units, rounded up: 66 bits each at 25.78125 Gb/s, 2.56 ns. -/
def blocksU (n : Nat) : Nat := (n * 1536 + 99) / 100

/-- The lowest lane of a set of four. -/
def lowLane (m : Nat) : Nat := if m % 2 = 1 then 0 else if m % 4 = 2 then 1 else if m % 8 = 4 then 2 else 3

/-- When a lane is free for its next message. -/
def State.laneFree (s : State) (l : Nat) : Nat := Tbl.get (fun _ => 0) s.twn.laneTill l

/-- The class that a lane sends next (R229): the waiting one of highest priority; classes 1 to 3 go on the lowest active lane. -/
def State.laneClass (s : State) (l : Nat) : Option Nat :=
  (List.range 8).find? fun c =>
    s.twn.msgs.any (fun m => m.cls = c) && (4 ≤ c || l = lowLane (s.fld F.TWN_STATUS_lanes))

/-- The lane that takes a message next, and its class: of the active lanes free by now that have one, the first to be free. -/
def State.laneNext (s : State) : Option (Nat × Nat) :=
  let ls := (List.range 4).filterMap fun l =>
    if (s.fld F.TWN_STATUS_lanes).testBit l && s.laneFree l ≤ s.clk.freeU then (s.laneClass l).map fun c => (l, c) else none
  ls.foldl
    (fun b e => match b with
      | none => some e
      | some o => if s.laneFree e.1 < s.laneFree o.1 then some e else some o) none

/-- A lane starts the oldest waiting message of a class, no earlier than `t0`. -/
def State.startMsg (s : State) (t0 l c : Nat) : State :=
  match s.twn.msgs.find? fun m => m.cls = c with
  | none => s
  | some m =>
    let bs := msgBlocks m
    { s with
      twn := { s.twn with
        msgs := s.twn.msgs.erase m
        laneTill := Tbl.set (fun _ => 0) s.twn.laneTill l (max t0 (s.laneFree l) + blocksU bs.length) }
      outbox := s.outbox ++ [.link l bs] }

/-- The lanes send what waits, as far as the time has come since `t0`: at most `n` messages start (R229). -/
def State.linkRun (t0 : Nat) : Nat → State → State
  | 0, s => s
  | n + 1, s =>
    match s.laneNext with
    | some (l, c) => State.linkRun t0 n (s.startMsg t0 l c)
    | none => s

/-- Units of 1/6 ns in one second. -/
abbrev secU : Nat := 6000000000

/-- The cluster in front of the power-on sequence starts, 50 us after the one before it (R475). -/
def State.clusterStart (s : State) : State :=
  match s.pwr.seq with
  | d :: r =>
    if 3 ≤ d && d ≤ 14 && s.pwr.seqU ≤ s.clk.freeU then
      { s.setFlag ⟨R.PWR_DOM_BUSY, d, d⟩ true with pwr := { s.pwr with seq := r, seqU := s.clk.freeU + secU / 20000 } }
    else s
  | [] => s

/-- `u` units of the system oscillator on the clocks: the calendar counts while PD_AON is powered, the FREE count and the powered
time while PD_CTRL is on (R306, R310, R311). The clock cycle in which bits were set is over (R11, R113, R221, R234, R435, R438, R439). -/
def State.passTime (s : State) (u : Nat) : State :=
  let v := if s.domOn 1 then u else 0
  let c := s.clk.rtcF + (if s.pwr.aon then u * s.calRate else 0)
  { s with
    sets := []
    now := {}
    twn := { s.twn with ownNow := false, hbNow := false }
    flt := { s.flt with ended := [] }
    clk := { s.clk with
      freeU := s.clk.freeU + v, rtcU := s.clk.rtcU + c / 10 ^ 8, rtcF := c % 10 ^ 8, svcU := s.clk.svcU + v } }

/-- Let `u` units of the system oscillator pass: the clocks count, PPS_OUT falls when its time is over (R309), the lanes of the
partner link send (R229), and the clusters switch on (R475). -/
def State.elapse (s : State) (u : Nat) : State :=
  (State.linkRun s.clk.freeU s.twn.msgs.length (s.passTime u).ppsFall).clusterStart

/-- One engine clock cycle passes, within the tick where the clock runs: what an empty queue does (DESIGN CHOICE, log entry 1).
The tick's end is TICK_BOUNDARY's, so the last cycle stands still. -/
def State.idle (s : State) : State :=
  let den := s.gridDen
  let c := s.clk.frac + 5 * s.gridRate
  let pos := s.clk.tickPos + (c / den).toNat
  if pos < s.tickLen then
    let s := s.elapse 5
    if s.domOn 1 then { s with clk := { s.clk with tickPos := pos, frac := c % den } } else s
  else s

/-- The units of the system oscillator until the grid reaches the end of the present tick, and what the grid then has beyond
it, in parts of a unit. -/
def State.toBoundary (s : State) : Nat × Int :=
  let need := ((s.tickLen : Int) - s.clk.tickPos) * s.gridDen - s.clk.frac
  let u := if need ≤ 0 then 0 else (need + s.gridRate - 1) / s.gridRate
  (u.toNat, max 0 (u * s.gridRate - need))

/-- Calendar seconds since 2000-01-01, 40 bits (R310). -/
def State.rtcSec (s : State) : Nat := s.clk.rtcU / 6000000000 % 2 ^ 40

/-- The tick is being processed and committed (TCK_STATUS.running). -/
def State.ticking (s : State) : Bool := s.flag F.TCK_STATUS_running

/-- No firmware runs: none is started, or a reload holds the control cores in reset. What waits for firmware waits (R483, R485). -/
def State.fwStopped (s : State) : Bool := s.pwr.boot ≠ .started && s.pwr.boot ≠ .ok

/-! ## Free values -/

/-- Take a free value: the count of those taken moves on (log entry 4). -/
def State.tick1 (s : State) : State := { s with fresh := s.fresh + 1 }

/-! ## Rings and events -/

/-- A ring. -/
def State.ring (s : State) (r : Nat) : Ring := Tbl.get (fun _ => {}) s.hif.rings r

/-- Update the host interface. -/
def State.setHif (s : State) (f : Hif → Hif) : State := { s with hif := f s.hif }

/-- Store a ring. -/
def State.setRing (s : State) (r : Nat) (x : Ring) : State :=
  { s with hif := { s.hif with rings := Tbl.set (fun _ => {}) s.hif.rings r x } }

/-- Entries of a ring (R343). -/
def State.ringSize (s : State) (r : Nat) : Nat := 2 ^ s.fld (F.HIF_RING_SIZE_log2 r)

/-- Host address of a ring's base, 4 KiB aligned (R343). -/
def State.ringBase (s : State) (r : Nat) : Nat :=
  s.pair (R.HIF_RING_BASE_LO r) (R.HIF_RING_BASE_HI r) / 4096 * 4096

/-- The distance from a consumer to a producer index, modulo 2^32 (R344). -/
def dist (prod cons : Nat) : Nat := (prod + 2 ^ 32 - cons % 2 ^ 32) % 2 ^ 32

/-- Free entries of a ring the module produces. -/
def State.ringRoom (s : State) (r : Nat) : Nat := s.ringSize r - dist (s.ring r).prod (s.ring r).cons

/-- Host transfers are made (R369, R372): HIF_CTRL.en as it was at the last boundary, and bus mastering; and the host DMA, master 14,
is not being drained (R399). -/
def State.traffic (s : State) : Bool := s.hif.active && s.flag F.HIF_STATUS_bme && s.mayIssue 14

/-- Events and meter records can be written (R360, R169): HIF_CTRL.en and bus mastering. -/
def State.hostUp (s : State) : Bool := s.flag F.HIF_CTRL_en && s.flag F.HIF_STATUS_bme

/-- Cut a transfer of `n` bytes from address `a` into pieces of at most `m`. -/
def pieces (m : Nat) : Nat → Nat → Nat → List (Nat × Nat)
  | 0, _, _ => []
  | k + 1, a, n => if n = 0 then [] else (a, min n m) :: pieces m k (a + min n m) (n - min n m)

/-- Write bytes to host memory, in requests of at most 256 bytes (R339). -/
def State.writeHost (s : State) (a : Nat) (bs : List Byte) : State :=
  (pieces 256 (bs.length / 256 + 1) a bs.length).foldl (fun s p => s.emit (.hostWrite p.1 ((bs.drop (p.1 - a)).take p.2))) s

/-- Read host memory, in requests of at most 512 bytes (R339). -/
def State.readHost (s : State) (a n : Nat) : State :=
  (pieces 512 (n / 512 + 1) a n).foldl (fun s p => s.emit (.hostRead p.1 p.2)) s

/-- Write one entry of a ring the module produces, and advance its producer index (R342). -/
def State.pushRing (s : State) (r size : Nat) (bytes : List Byte) : State :=
  let x := s.ring r
  let s1 := s.emit (.hostWrite (s.ringBase r + x.prod % s.ringSize r * size) bytes)
  s1.setRing r { x with prod := (x.prod + 1) % 2 ^ 32 }

/-- Pad or cut a byte list to a length with zeros. -/
def padTo (n : Nat) (bs : List Byte) : List Byte := (bs ++ List.replicate n 0).take n

/-- An event entry (R359): type, sub, the stamp of R305, TICK_NUM, 16 bytes of data. -/
def eventEntry (ty sub stamp tick : Nat) (data : List Byte) : List Byte :=
  leBytes 2 ty ++ leBytes 2 sub ++ leBytes 4 stamp ++ leBytes 8 tick ++ padTo 16 data

/-- The overflow event, once the event ring can take two entries, with the number lost since the last (R360). -/
def State.overflow (s : State) : State :=
  if s.hif.evtLost = 0 || !(s.hostUp && (s.ring 8).en) || s.ringRoom 8 < 2 then s
  else (s.pushRing 8 32 (eventEntry 9 0 s.stamp s.tickNum (leBytes 4 s.hif.evtLost))).setHif fun h => { h with evtLost := 0 }

/-- Post an event to the event ring, or drop and count it (R360). An overflow event goes first when the ring can take two. -/
def State.postEvent (s : State) (ty sub : Nat) (data : List Byte) : State :=
  if !(s.hostUp && (s.ring 8).en) || s.ringRoom 8 = 0 then
    let s := s.count R.HIF_EVT_DROP_CNT
    s.setHif fun h => { h with evtLost := h.evtLost + 1 }
  else
    let s := s.overflow
    let s := s.pushRing 8 32 (eventEntry ty sub s.stamp s.tickNum data)
    if ty = 2 then s.setHif fun h => { h with faultEvt := true } else s

/-- Set HIF_STATUS.ring_err and name the ring (R343, R344, R370). -/
def State.ringErr (s : State) (r : Nat) : State := (s.setFlag F.HIF_STATUS_ring_err true).setFld F.HIF_RING_ERR_ring r

/-! ## Status codes (R358) -/

abbrev stOk : Nat := 0x00
abbrev stLate : Nat := 0x01
abbrev stLateRejected : Nat := 0x02
abbrev stBadOpcode : Nat := 0x03
abbrev stBadArg : Nat := 0x04
abbrev stBadTick : Nat := 0x05
abbrev stBadAddr : Nat := 0x06
abbrev stDmaErr : Nat := 0x07
abbrev stBusy : Nat := 0x08
abbrev stQueueFull : Nat := 0x09
abbrev stLoadErr : Nat := 0x0A
abbrev stPsetUndefined : Nat := 0x10
abbrev stPsetPending : Nat := 0x11
abbrev stPsetFull : Nat := 0x12
abbrev stPsetInvalid : Nat := 0x13
abbrev stPsetMismatch : Nat := 0x14
abbrev stPairFail : Nat := 0x15
abbrev stStreamInvalid : Nat := 0x18
abbrev stNotOwner : Nat := 0x20
abbrev stTwiNack : Nat := 0x21
abbrev stTwiBusErr : Nat := 0x22
abbrev stTwiProto : Nat := 0x23
abbrev stTruncated : Nat := 0x30
abbrev stLinkDown : Nat := 0x31
abbrev stTooLong : Nat := 0x32

/-- A command ends: its completion waits to be written (R353), and is counted (R354, R358). -/
def State.finish (s : State) (r tag op status detail : Nat) : State :=
  let s := s.setHif fun h => { h with cpls := h.cpls ++ [⟨r, tag, op, status, detail, s.tickNum⟩] }
  if status = stOk then s
  else if status = stLate then s.count R.HIF_LATE_CNT
  else s.count R.HIF_REJECT_CNT

end Sys2Proof.Machine
end

