-- ==== Sys2Proof/Machine/Own.lean ====
section
/-!
DEFINITION. Ownership of the pins that a board cannot share: who drives them, releasing them, messages to the partner,
arming a handover, and giving ownership away (R216 to R223, R228, R229, R239, R246, R443).
-/

namespace Sys2Proof.Machine

/-- Update the twin block. -/
def State.setTwn (s : State) (f : Twin → Twin) : State := { s with twn := f s.twn }

/-- The module is the owner: its owned pins are enabled (R216). -/
def State.isOwner (s : State) : Bool := s.twn.pins

/-- The pair state (R227): 0 SOLO, 1 LINKING, 2 RESYNC_SRC, 3 RESYNC_DST, 4 VERIFY, 5 EQUINOX. -/
def State.pairState (s : State) : Nat := s.fld F.TWN_STATUS_state

/-- The pair is in EQUINOX. -/
def State.equinox (s : State) : Bool := s.pairState = 5

/-- The module has no paired partner (R224). -/
def State.solo (s : State) : Bool := s.pairState = 0

/-- Paired as R227 defines it for R178. -/
def State.paired (s : State) : Bool := s.flag F.TWN_STATUS_paired

/-- The role as messages carry it (R229): 0 shadow, 1 owner, 2 solo. -/
def State.role (s : State) : Nat := if s.isOwner then 1 else if s.solo then 2 else 0

/-- The module drives a group of owned pins: as R219 grants them, or by the handover path once they have switched (R241). -/
def State.drives (s : State) (g : PinGroup) : Bool :=
  match s.twn.ho with
  | some h => if h.switched.contains g && (g ≠ .twi || h.owned) then !h.outgoing else s.isOwner
  | none => s.isOwner

/-- The module drives the legs of a PWM channel: after an unplanned takeover only once the channel has entered (R243). -/
def State.drivesLegs (s : State) (c : Fin 32) : Bool := s.drives (.pwm c) && !s.twn.enter.contains c.val

/-- Drive an owned pin, where the module drives its group. -/
def State.drive (s : State) (g : PinGroup) (o : Out) : State := if s.drives g then s.emit o else s

/-- Send a message on the partner link (R228, R229): it waits, with its class's next sequence number, and a lane takes it up as
time passes (`State.elapse`). The first number of a class is 0 (DESIGN CHOICE, log entry 43). -/
def State.sendMsg (s : State) (cls : Nat) (payload : List Byte) : State :=
  let n := Tbl.get (fun _ => 0) s.twn.msgSeq cls
  s.setTwn fun t => { t with
    msgSeq := Tbl.set (fun _ => 0) t.msgSeq cls ((n + 1) % 2 ^ 24), msgs := t.msgs ++ [⟨cls, n, payload⟩] }

/-- A request to a two-wire controller leaves the queue. Its command, where it has one that has not ended, completes, and its ring
goes on; of a command whose completion ring was disabled, the completion is already counted (R352, R371). -/
def State.twiFinish (s : State) (t : TwiCmd) (status detail : Nat) : State :=
  let s := s.setHif fun h => { h with twi := h.twi.erase t }
  if t.fw then s.emit (.firmware "TWI_DONE" status)
  else if t.lost then s
  else
    let s := s.setRing t.ring { s.ring t.ring with busy := false }
    if t.gone then s else s.finish t.ring t.tag 0x0060 status detail

/-- Firmware of a paired module that does not own the pins relays requests to the owner (R217, R229). -/
def State.relayTwi (s : State) (p : TwiCmd → Bool) : State :=
  if s.paired && !s.fwStopped then
    (s.hif.twi.filter fun t => p t && t.back.isNone).foldl
      (fun s t => s.sendMsg 6 (Config.relayBytes (leBytes 1 t.ctl ++ leBytes 1 t.addr ++ leBytes 2 t.rd ++ t.wr))) s
  else s

/-- The requests that a controller holds complete with NOT_OWNER (R217, R463). Those that the outgoing owner of a handover has held go
to the incoming owner over the partner link (R240; DEDUCED, log 34). -/
def State.twiLose (s : State) : State :=
  let s := if s.twn.ho.any fun h => h.outgoing then s.relayTwi fun _ => true else s
  (s.hif.twi.filter fun t => t.back.isNone).foldl (fun s t => s.twiFinish t stNotOwner 0) s

/-- The states of the two-wire controllers follow the pins: 0 off, 1 idle, 5 not owner (R463, R468). A controller that already
holds its pins goes on; one that they are granted to is enabled, and reads SDA before it sends anything (R468). -/
def State.twiPins (s : State) (on : Bool) : State :=
  let s := if on then s else { s.twiLose with hif := { s.twiLose.hif with twiNew := [] } }
  (List.range 3).foldl
    (fun s n =>
      let f := F.TWI_C_STATUS_state n
      if !s.flag (F.TWI_C_CFG_en n) then s.setFld f 0
      else if !on then s.setFld f 5
      else if s.fld f = 0 || s.fld f = 5 then
        let s := s.setFld f 1
        { s with hif := { s.hif with twiNew := s.hif.twiNew ++ [n] } }
      else s) s

/-- Enable or disable the owned pins (R219). -/
def State.setPins (s : State) (on : Bool) : State :=
  if s.twn.pins = on then s else ((s.setTwn fun t => { t with pins := on }).twiPins on).emit (.pin "OWNED" 0 on)

/-- Drive OWN_OUT_N: asserted is low. -/
def State.setOwnOut (s : State) (on : Bool) : State :=
  if s.twn.ownOut = on then s else (s.setTwn fun t => { t with ownOut := on }).emit (.pin "OWN_OUT_N" 0 (!on))

/-- Outside a handover the owned pins are enabled only while the own OWN is asserted and the partner's released for the guard
(R219). -/
def State.pinsFollow (s : State) : State := if s.twn.ownOut && s.twn.guardOk then s else s.setPins false

/-- A handover or a request under way is over, with the result code of TWN_HO_CTRL. -/
def State.endHandover (s : State) (result : Nat) : State :=
  ((s.setTwn fun t => { t with ho := none, hoReq := none }).setFlag F.TWN_HO_CTRL_busy false).setFld F.TWN_HO_CTRL_result result

/-- Cancel an armed handover or a request under way, with the result code of TWN_HO_CTRL (R242): from then on R219 governs the
pins again. -/
def State.cancelHandover (s : State) (result : Nat) : State :=
  if s.twn.ho.isNone && s.twn.hoReq.isNone then s
  else if s.twn.ho.isNone then s.endHandover result
  else (s.endHandover result).pinsFollow

/-- R222: disable the owned pins, then release OWN_OUT_N. An armed handover is cancelled (R242), but that of an outgoing owner
whose OWN has changed already. -/
def State.releaseOwn (s : State) : State :=
  let s := s.setPins false
  let s := s.setOwnOut false
  let s := s.setTwn fun t => { t with settling := false, collided := false, enter := [] }
  match s.twn.ho with
  | some h => if h.outgoing && h.owned then s else s.cancelHandover 6
  | none => s

/-- A message of the partner arrives: one whose CRC fails is discarded and counted (R228). -/
def State.ifCrc (s : State) (ok : Bool) (f : State → State) : State := if ok then f s else s.count R.TWN_MSG_CRC_CNT

/-- Send a command message: subtype, 0, a tag that the spec leaves open, the arguments (R229). -/
def State.sendCmd (s : State) (sub : Nat) (args : List Byte) : State :=
  (s.tick1).sendMsg 3 (leBytes 1 sub ++ [0] ++ beBytes 2 (Config.freeNat s.fresh) ++ args)

/-- Arm a handover at tick H (R239): TWN_HO_TICK reads the agreed H. -/
def State.armHandover (s : State) (h : Nat) (outgoing : Bool) : State :=
  let s := s.setTwn fun t => { t with ho := some { h := h, outgoing := outgoing }, hoReq := none }
  let s := s.putPair R.TWN_HO_TICK_LO R.TWN_HO_TICK_HI h
  s.setFlag F.TWN_HO_CTRL_busy true

/-- Propose a handover at tick H to the partner (R239): HO_PROPOSE carries H and the proposer's role. -/
def State.proposeHandover (s : State) (h : Nat) (late yield : Bool) : State :=
  let s := s.setTwn fun t => { t with hoReq := some { h := h, late := late, yield := yield } }
  let s := s.setFlag F.TWN_HO_CTRL_busy true
  s.sendCmd 6 (beBytes 8 h ++ beBytes 1 s.role)

/-- R443, R246: the action of a level-3 reaction. The owner hands over by Solstice at TICK_NUM + 4 in EQUINOX with the
heartbeat present; where that cannot be, and in a solo module, OWN is released by R222. A handover that is armed, or asked for, at
no later a tick is that handover; one armed for a later tick is not, and OWN is released; a request for a later tick is replaced. A
module that links has no paired partner yet: it is solo (R224). One that has asserted OWN and waits for its pins releases it. -/
def State.yieldOwn (s : State) : State :=
  if s.pairState ≤ 1 then s.releaseOwn
  else if s.isOwner then
    if s.equinox && s.flag F.TWN_STATUS_hb_ok then
      match s.twn.ho with
      | some h => if h.outgoing && h.h ≤ s.tickNum + 4 then s else s.releaseOwn
      | none =>
        match s.twn.hoReq with
        | some q =>
          if q.h ≤ s.tickNum + 4 then s.setTwn fun t => { t with hoReq := some { q with yield := true } }
          else s.proposeHandover (s.tickNum + 4) false true
        | none => s.proposeHandover (s.tickNum + 4) false true
    else s.releaseOwn
  else if s.twn.ownOut && s.twn.ho.isNone then s.releaseOwn
  else s

end Sys2Proof.Machine
end

