-- ==== Sys2Proof/Machine/Fault.lean ====
section
/-!
DEFINITION. The fault collector as shared operations (R433 to R449): raising an occurrence (latch, class, level,
escalation, log, event, reaction), the beginning and the end of a condition, acknowledgement, and the worst class.
-/

namespace Sys2Proof.Machine

/-- Update the fault collector. -/
def State.setFlt (s : State) (f : Flt → Flt) : State := { s with flt := f s.flt }

/-- A source's record. -/
def State.fsrc (s : State) (i : Nat) : FltSrc := Tbl.get (fun _ => {}) s.flt.srcs i

/-- Store a source's record. -/
def State.setFsrc (s : State) (i : Nat) (x : FltSrc) : State :=
  s.setFlt fun f => { f with srcs := Tbl.set (fun _ => {}) f.srcs i x }

/-- Bit `i` of a LO/HI pair. -/
def State.bit64 (s : State) (lo hi i : Nat) : Bool := (s.pair lo hi).testBit i

/-- Set bit `i` of a LO/HI pair. -/
def State.setBit64 (s : State) (lo hi i : Nat) (b : Bool) : State :=
  if i < 32 then s.setFlag ⟨lo, i, i⟩ b else s.setFlag ⟨hi, i - 32, i - 32⟩ b

/-- The source is latched (R436). -/
def State.latched (s : State) (i : Nat) : Bool := s.bit64 R.FLT_STATUS_LO R.FLT_STATUS_HI i

/-- The source is unacknowledged (R436). -/
def State.unacked (s : State) (i : Nat) : Bool := s.bit64 R.FLT_UNACK_LO R.FLT_UNACK_HI i

/-- The source's condition is present (R436). -/
def State.condActive (s : State) (i : Nat) : Bool := s.bit64 R.FLT_ACTIVE_LO R.FLT_ACTIVE_HI i

/-- The class of FLT_CLASS0-3 for a source (R434, R435): a word written in the present clock cycle applies from the next; source 63 is
always C0. -/
def State.srcClass (s : State) (i : Nat) : Nat :=
  let o := 0x30030 + 4 * (i / 16)
  if i = 63 then 0 else bitsOf (Tbl.get (fun _ => s.reg o) s.now.cls o) (2 * (i % 16) + 1) (2 * (i % 16))

/-- A register of FLT_CLASS is about to be written: its word stands for the rest of the clock cycle (R435). -/
def State.holdClass (s : State) (o : Nat) : State :=
  if 0x30030 ≤ o && o < 0x30040 then
    { s with now := { s.now with cls := Tbl.put o (Tbl.get (fun _ => s.reg o) s.now.cls o) s.now.cls } }
  else s

/-- The level of a class in FLT_LVL_MAP, values above 4 taken as 4 (R442). -/
def State.lvlOf (s : State) (c : Nat) : Nat := min 4 (bitsOf (s.reg R.FLT_LVL_MAP) (4 * c + 2) (4 * c))

/-- FLT_WORST (R436): the highest class among latched sources but 17 and 63 and dry-run injections. -/
def State.worstNow (s : State) : Option Nat :=
  (List.range 64).foldl
    (fun m i =>
      if i = 17 || i = 63 || !s.latched i then m
      else match (s.fsrc i).cls with
        | none => m
        | some c => some (max c (m.getD 0)))
    none

/-- Bring FLT_WORST up to date. -/
def State.setWorst (s : State) : State :=
  (s.setFld F.FLT_WORST_class (s.worstNow.getD 0)).setFlag F.FLT_WORST_any s.worstNow.isSome

/-- The worst unrecovered class, 0 where no source counts. -/
def State.worst (s : State) : Nat := s.fld F.FLT_WORST_class

/-- An unrecovered fault of class C2 or C3 stands (R226, R239, R245). -/
def State.unhealthy (s : State) : Bool := s.flag F.FLT_WORST_any && s.worst ≥ 2

/-- An occurrence of a fault source (R433). -/
structure Occ where
  /-- Source. -/
  src : Nat
  /-- Data word of the raising block. -/
  data : Word
  /-- The class the block or the injection gives; none for the class of FLT_CLASS. -/
  cls : Option Nat := none
  /-- Injected (R451). -/
  inj : Bool := false
  /-- Dry run (R451). -/
  dry : Bool := false
  /-- Raised by the scan after a reset (R519): no escalation, level capped at 3. -/
  scan : Bool := false
  /-- A failure of PD_CTRL or PD_FABRIC (R474): level 4. -/
  top : Bool := false
deriving DecidableEq, Repr

/-- Another occurrence of class `c`, of the same kind, is unacknowledged (R442). -/
def State.unackOf (s : State) (c : Nat) (inj : Bool) : Bool :=
  s.flt.srcs.any fun e => if inj then e.2.unackInj.contains c else e.2.unackReal.contains c

/-- Class of an occurrence. -/
def State.occClass (s : State) (o : Occ) : Nat := o.cls.getD (s.srcClass o.src)

/-- The occurrence escalates (R442, R451, R519). -/
def State.escalates (s : State) (o : Occ) : Bool :=
  o.src ≠ 63 && !o.dry && !o.scan && s.unackOf (s.occClass o) o.inj

/-- The level of an occurrence (R442, R474, R519). -/
def State.occLevel (s : State) (o : Occ) : Nat :=
  if o.src = 63 then 1
  else if o.top then 4
  else
    let l := s.lvlOf (s.occClass o)
    if o.scan then min 3 l else if s.escalates o then min 4 (l + 1) else l

/-- The flags byte of a log entry and of a fault event (R447). -/
def State.occFlags (s : State) (o : Occ) (esc : Bool) : Nat :=
  bit esc + 2 * bit o.inj + 4 * bit o.dry + 8 * bit (s.flag F.TCK_STATUS_grid_valid)
    + 16 * bit (!o.inj && s.bit64 R.FLT_INJ_TAG_LO R.FLT_INJ_TAG_HI o.src)

/-- Write a log entry (R447): 32 bytes at FLT_LOG_WP, which moves on. -/
def State.logFault (s : State) (o : Occ) (lvl : Nat) (esc : Bool) (seq : Nat) : State :=
  let wp := s.fld F.FLT_LOG_WP_wp
  let net := s.flag F.TCK_STATUS_grid_valid
  let e := leBytes 1 o.src ++ leBytes 1 (s.occClass o) ++ leBytes 1 lvl ++ leBytes 1 (s.occFlags o esc)
    ++ leBytes 4 seq ++ leBytes 8 (if net then s.netSec else 0) ++ leBytes 4 (if net then s.netSubNs else 0)
    ++ leBytes 8 s.rtcSec ++ leBytes 4 o.data.toNat
  let s := if s.flag F.FLT_LOG_WP_wrapped then s.count R.FLT_LOG_OVW_CNT else s
  let s := s.setFlt fun f => { f with log := Tbl.set (fun _ => []) f.log wp e }
  let s := s.setFld F.FLT_LOG_WP_wp ((wp + 1) % 64)
  if wp = 63 then s.setFlag F.FLT_LOG_WP_wrapped true else s

/-- The data field of a fault event (R448). -/
def State.faultData (s : State) (o : Occ) (lvl : Nat) (esc : Bool) (seq notPosted : Nat) : List Byte :=
  leBytes 1 (s.occClass o) ++ leBytes 1 lvl ++ leBytes 1 (s.occFlags o esc) ++ [0] ++ leBytes 4 o.data.toNat
    ++ leBytes 4 seq ++ leBytes 4 notPosted

/-- The reaction of a level (R440, R441, R443, R444): level 4 releases OWN at once (R222). A dry run stops at level 1 (R451). -/
def State.react (s : State) (o : Occ) (lvl : Nat) : State :=
  let l := if o.dry then min 1 lvl else lvl
  let s := if 2 ≤ l then s.setFlt fun f => { f with repair := f.repair ++ [(o.src, o.data)] } else s
  let s :=
    if 3 ≤ l then
      let s := s.setFlt fun f => { f with yield := if f.yield.contains o.src then f.yield else f.yield ++ [o.src] }
      if 4 ≤ l then s.releaseOwn else s.yieldOwn
    else s
  if 4 ≤ l then { s with warmReq := s.warmReq ||| 16 } else s

/-- A fault that breaks the hold of a revertive return: it starts anew (R245). -/
def State.breakRevert (s : State) (b : Bool) : State := if b then { s with twn := { s.twn with revU := none } } else s

/-- Raise an occurrence (R436 to R448, R451 to R453, R519). A real one of a source with its FLT_INJ_TAG bit set is logged whatever its
level (R452). One of class C2 or C3 breaks the revert hold (R245). -/
def State.raiseOcc (s : State) (o : Occ) : State :=
  let c := s.occClass o
  let esc := s.escalates o
  let lvl := s.occLevel o
  let was := s.latched o.src
  let r := s.fsrc o.src
  let tagged := !o.inj && s.bit64 R.FLT_INJ_TAG_LO R.FLT_INJ_TAG_HI o.src
  let s := if o.inj then s.setBit64 R.FLT_INJ_TAG_LO R.FLT_INJ_TAG_HI o.src true else s
  let s := if tagged then s.setBit64 R.FLT_REAL_LO R.FLT_REAL_HI o.src true else s
  let seq := s.flt.seq
  let s := s.setFlt fun f => { f with seq := (seq + 1) % 2 ^ 32 }
  let s := s.count R.FLT_OCC_CNT
  let s := if esc then s.count R.FLT_ESC_CNT else s
  let s := s.setBit64 R.FLT_STATUS_LO R.FLT_STATUS_HI o.src true
  let s := s.setBit64 R.FLT_UNACK_LO R.FLT_UNACK_HI o.src true
  let add := fun (l : List Nat) => if l.contains c then l else l ++ [c]
  let r := { r with
    cls := if o.dry then (if was then r.cls else none)
      else some (max c (if was then r.cls.getD 0 else 0))
    unackReal := if o.inj then r.unackReal else add r.unackReal
    unackInj := if o.inj then add r.unackInj else r.unackInj }
  let first := o.src = 63 || !was || r.lastLvl < lvl
  let logged := first || tagged
  let s := if logged then s.logFault o lvl esc seq else s
  let r := if logged then { r with lastLvl := lvl } else r
  let posts := first && 1 ≤ lvl
  let s :=
    if posts then (s.postEvent 2 o.src (s.faultData o lvl esc seq r.notPosted)).setFsrc o.src { r with notPosted := 0 }
    else s.setFsrc o.src { r with notPosted := r.notPosted + 1 }
  ((s.react o lvl).setWorst).breakRevert (2 ≤ c && !o.dry)

/-- Raise a real occurrence of an event source with its FLT_CLASS class. -/
def State.raise (s : State) (src : Nat) (data : Word) : State := s.raiseOcc { src := src, data := data }

/-- Raise a real occurrence with the class its block gives it (source 7, R434). -/
def State.raiseAs (s : State) (src : Nat) (data : Word) (cls : Nat) : State :=
  s.raiseOcc { src := src, data := data, cls := some cls }

/-- The latch of a source that is neither active nor unacknowledged clears (R436), and with it the hold of R443. -/
def State.settleLatch (s : State) (i : Nat) : State :=
  if s.unacked i || s.condActive i then s
  else
    let s := s.setBit64 R.FLT_STATUS_LO R.FLT_STATUS_HI i false
    let s := s.setFsrc i { s.fsrc i with cls := none }
    (s.setFlt fun f => { f with yield := f.yield.filter (· ≠ i) }).setWorst

/-- A condition that ended in the present clock cycle is there again (R439): it counts as still active. -/
def State.condStays (s : State) (i : Nat) (r : FltSrc) (latched yields : Bool) : State :=
  let s := (s.setBit64 R.FLT_STATUS_LO R.FLT_STATUS_HI i latched).setFsrc i { s.fsrc i with cls := r.cls }
  (s.setFlt fun f => { f with
    ended := f.ended.filter fun e => e.1 ≠ i
    yield := if yields && !f.yield.contains i then f.yield ++ [i] else f.yield }).setWorst

/-- A condition begins (R433, R436): an occurrence, unless it was active or ended in the present clock cycle (R439). -/
def State.condBegin (s : State) (i : Nat) (data : Word) : State :=
  if s.condActive i then s
  else
    let old := s.flt.ended.find? fun e => e.1 = i
    let s := s.setBit64 R.FLT_ACTIVE_LO R.FLT_ACTIVE_HI i true
    match old with
    | some e => s.condStays i e.2.1 e.2.2.1 e.2.2.2
    | none => s.raise i data

/-- A condition ends (R436). -/
def State.condEnd (s : State) (i : Nat) : State :=
  if s.condActive i then
    let s := s.setFlt fun f => { f with ended := f.ended ++ [(i, s.fsrc i, s.latched i, f.yield.contains i)] }
    (s.setBit64 R.FLT_ACTIVE_LO R.FLT_ACTIVE_HI i false).settleLatch i
  else s

/-- An occurrence of the source was raised in the present clock cycle (R438). -/
def State.raisedNow (s : State) (i : Nat) : Bool :=
  (s.setNow (if i < 32 then R.FLT_UNACK_LO else R.FLT_UNACK_HI)).getLsbD (i % 32)

/-- Acknowledge one source (R437): no effect where it is not unacknowledged; an occurrence raised in the same clock cycle stands
(R438). -/
def State.ack1 (s : State) (i : Nat) : State :=
  if s.unacked i && !s.raisedNow i then
    let s := s.setBit64 R.FLT_UNACK_LO R.FLT_UNACK_HI i false
    (s.setFsrc i { s.fsrc i with unackReal := [], unackInj := [] }).settleLatch i
  else s

/-- Acknowledge the sources a 64-bit mask names, in ascending order (R437, R439). -/
def State.ackMask (s : State) (mask : Nat) : State :=
  (List.range 64).foldl (fun s i => if mask.testBit i then s.ack1 i else s) s

/-- A level-3 reaction forbids asserting OWN (R443). -/
def State.yielding (s : State) : Bool := s.flt.yield ≠ []

end Sys2Proof.Machine
end

