-- ==== Sys2Proof/Machine/Words.lean ====
section
/-!
DEFINITION. Words with an uncorrectable error (R401 to R403, R413, R414): recording one, the words that stay uncorrectable until a full
64-bit write replaces them, and corrections of the DRAM.
-/

namespace Sys2Proof.Machine

/-- The address lies in `n` bytes from `b`. -/
def within (a b n : Nat) : Bool := b ≤ a && a < b + n

/-- The unit code of an address in the tick store, the control SRAM or the packet buffer. -/
def State.unitOf (s : State) (a : Nat) : Option Nat :=
  if within a 0x20000000 0x2000000 then some (a / 64 % 16)
  else if within a 0x11000000 0x200000 || (s.flag F.SYS_REMAP_remap && within a 0 0x40000) then some 16
  else if within a 0x12000000 0x400000 then some 17
  else none

/-- A 64-bit word stays uncorrectable (R402, R414). -/
def State.markBad (s : State) (a : Nat) : State :=
  s.setSram fun x => { x with bad := if x.bad.contains (a / 8 * 8) then x.bad else x.bad ++ [a / 8 * 8] }

/-- An uncorrectable word in `n` bytes from an address. -/
def State.badWord (s : State) (a n : Nat) : Option Nat := s.sram.bad.find? fun w => w < a + n && a < w + 8

/-- An uncorrectable SRAM word was read: counted, and the first is latched (R401). -/
def State.sramSeen (s : State) (a u m : Nat) : State :=
  let s := (s.count R.MEM_ECC_UNCORR_CNT).markBad a
  let s := if s.flag F.MEM_STATUS_uncorr then s
    else ((s.putPair R.MEM_ECC_ADDR_LO R.MEM_ECC_ADDR_HI a).setFld F.MEM_ECC_INFO_master m).setFld F.MEM_ECC_INFO_unit u
  s.setFlag F.MEM_STATUS_uncorr true

/-- An uncorrectable DRAM word was read: counted, the first latched, and source 8 raised (R413). -/
def State.dramSeen (s : State) (a m : Nat) : State :=
  let s := (s.count R.DDR_ECC_UNCORR_CNT).markBad a
  let s := if s.flag F.DDR_STATUS_uncorr then s
    else (s.putPair R.DDR_ECC_ADDR_LO R.DDR_ECC_ADDR_HI a).setFld F.DDR_ECC_INFO_master m
  (s.setFlag F.DDR_STATUS_uncorr true).raise 8 (s.reg R.DDR_ECC_INFO)

/-- After the write that led from `s` to `t`, of `n` bytes from an address by master m: an uncorrectable word that it replaced whole is
good, one that it met in part keeps its bytes, and the writer is answered with an error (R402, R414). -/
def State.keepBad (s t : State) (m a n : Nat) : State :=
  let part := s.sram.bad.filter fun w => n ≠ 0 && w < a + n && a < w + 8 && !(a ≤ w && w + 8 ≤ a + n)
  let t := part.foldl (fun t w => (t.putBytes w (s.bytes w 8)).emit (.firmware "ERROR_RESPONSE" m)) t
  t.setSram fun x => { x with bad := x.bad.filter fun w => !(a ≤ w && w + 8 ≤ a + n) }

/-- A master's write of bytes from an address up. -/
def State.store (s : State) (m a : Nat) (bs : List Byte) : State :=
  if s.sram.bad.isEmpty then s.putBytes a bs else s.keepBad (s.putBytes a bs) m a bs.length

/-- Store little-endian words from an address up. -/
def State.putMemWords (s : State) (a : Nat) : List Word → State
  | [] => s
  | w :: ws => (s.putMemWord a w).putMemWords (a + 4) ws

/-- A master's write of words from an address up. -/
def State.storeWords (s : State) (m a : Nat) (ws : List Word) : State :=
  if s.sram.bad.isEmpty then s.putMemWords a ws else s.keepBad (s.putMemWords a ws) m a (4 * ws.length)

/-- `n` DRAM words were corrected (R413): counted; source 9 once in a second of network time, when there are more than corr_thr of them
in it (R414). -/
def State.dramFix (s : State) (n : Nat) : State :=
  let was := if s.ddr.corrSec = s.netSec then s.ddr.corrN else 0
  let thr := s.fld F.DDR_ECC_CFG_corr_thr
  let s := s.countBy R.DDR_ECC_CORR_CNT n
  let s := { s with ddr := { s.ddr with corrSec := s.netSec, corrN := was + n } }
  if was ≤ thr && thr < was + n then s.raise 9 (word (was + n)) else s

end Sys2Proof.Machine
end

