-- ==== Sys2Proof/Machine/Slots.lean ====
section
/-!
DEFINITION. Slots: the stream contexts' fields (R187), who writes a slot (R48, R140), and which block a task or a
stage reads (R49, R138).
-/

namespace Sys2Proof.Machine

/-! ## Stream contexts (R187) -/

/-- flags of a context. -/
def ctxFlags (c : List Byte) : Nat := leAt c 0 2

/-- Bit `i` of the flags. -/
def ctxFlag (c : List Byte) (i : Nat) : Bool := (ctxFlags c).testBit i

/-- The context is enabled. -/
def ctxOn (c : List Byte) : Bool := ctxFlag c 0

/-- RTP rather than AAF. -/
def ctxRtp (c : List Byte) : Bool := ctxFlag c 1

/-- fmt: 0 INT_32BIT, 1 INT_24BIT or L24, 2 L16. -/
def ctxFmt (c : List Byte) : Nat := ctxFlags c / 4 % 4

/-- Bytes a sample (R182). -/
def ctxBytes (c : List Byte) : Nat := 4 - ctxFmt c

/-- The 802.1Q tag is present. -/
def ctxVlan (c : List Byte) : Bool := ctxFlag c 4

/-- The context uses MAC port p (0 A, 1 B, 2 C). -/
def ctxPort (c : List Byte) (p : Nat) : Bool := ctxFlag c (5 + p)

/-- Channels. -/
def ctxCh (c : List Byte) : Nat := leAt c 2 1

/-- Alignment group. -/
def ctxGroup (c : List Byte) : Nat := leAt c 3 1

/-- Map entry of a channel: a slot, or 0xFFFF. -/
def ctxMap (c : List Byte) (i : Nat) : Nat := leAt c (64 + 2 * i) 2

/-- The slots a context names, by channel, without the 0xFFFF entries. -/
def ctxSlots (c : List Byte) : List Nat := ((List.range (ctxCh c)).map (ctxMap c)).filter (· ≠ 0xFFFF)

/-- A receive stream. -/
def State.rx (s : State) (i : Nat) : RxSt := Tbl.get (fun _ => {}) s.str.rx i

/-- Store a receive stream. -/
def State.setRx (s : State) (i : Nat) (x : RxSt) : State :=
  { s with str := { s.str with rx := Tbl.set (fun _ => {}) s.str.rx i x } }

/-- An active transmit context. -/
def State.tx (s : State) (i : Nat) : List Byte := Tbl.get (fun _ => []) s.str.tx i

/-! ## Applied registers of the modulator, sense and TDM blocks -/

/-- A field of an applied register. -/
def State.appFld (s : State) (f : Fld) : Nat := bitsOf (s.app f.reg) f.hi f.lo

/-- A one-bit field of an applied register. -/
def State.appFlag (s : State) (f : Fld) : Bool := s.appFld f = 1

/-- Channels of a TDM port as applied (R374). -/
def State.tdmCh (s : State) (p : Nat) : Nat := s.appFld (F.TDM_CFG_channels p) + 1

/-- The input-map slot of a channel of a TDM port as applied (R377). -/
def State.tdmIn (s : State) (p c : Nat) : Nat :=
  if c % 2 = 0 then s.appFld (F.TDM_IN_MAP_map_lo p (c / 2)) else s.appFld (F.TDM_IN_MAP_map_hi p (c / 2))

/-- The output-map slot of a channel of a TDM port as applied (R378). -/
def State.tdmOut (s : State) (p c : Nat) : Nat :=
  if c % 2 = 0 then s.appFld (F.TDM_OUT_MAP_map_lo p (c / 2)) else s.appFld (F.TDM_OUT_MAP_map_hi p (c / 2))

/-- The slots of a TDM port's input map. -/
def State.tdmInSlots (s : State) (p : Nat) : List Nat :=
  ((List.range (s.tdmCh p)).map (s.tdmIn p)).filter (· ≠ 0xFFFF)

/-- The measurement slots of an amplifier channel (R261). -/
def State.snsSlots (s : State) (c : Nat) : List Nat :=
  (if s.appFlag (F.SNS_CH_CFG_v_en c) then [s.appFld (F.SNS_CH_CFG_v_slot c)] else [])
    ++ (if s.appFlag (F.SNS_CH_CFG_i_en c) then [s.appFld (F.SNS_CH_CFG_i_slot c)] else [])

/-! ## Writers (R48, R140) -/

/-- Who writes a slot. -/
inductive Writer where
  | none
  | input
  | task (id phase : Nat)
  /-- A fixed-block stage: 0 route, 1 mix, 2 dynamics. -/
  | stage (kind phase : Nat)
deriving DecidableEq, Repr

/-- An input source writes the slot: a receive stream, a TDM input or a sense input (R48, R188, R377, R261). -/
def State.isInput (s : State) (slot : Nat) : Bool :=
  s.str.rx.any (fun e => ctxOn e.2.ctx && (ctxSlots e.2.ctx).contains slot)
    || (List.range 16).any (fun p => (s.tdmInSlots p).contains slot)
    || (List.range 32).any (fun c => (s.snsSlots c).contains slot)

/-- The loaded tasks. -/
def State.tasks (s : State) : List Task := match s.fab.graph with | none => [] | some g => g.tasks

/-- The loaded phases. -/
def State.phases (s : State) : List Phase := match s.fab.graph with | none => [] | some g => g.phases

/-- A task of the loaded graph. -/
def State.task? (s : State) (i : Nat) : Option Task := s.tasks[i]?

/-- A route entry claims its destination: while enabled and until the fade after its disabling has ended (R148). -/
def RouteSt.claims (r : RouteSt) : Bool := r.e.enable || r.cross.isSome

/-- The writer of a slot. -/
def State.writer (s : State) (slot : Nat) : Writer :=
  if s.isInput slot then .input
  else
    match s.tasks.findIdx? (fun t => t.outs.contains slot) with
    | some i => .task i ((s.task? i).elim 0 (·.phase))
    | none =>
      match s.mix.route.find? (fun e => e.2.claims && e.2.e.dst = slot) with
      | some e => .stage 0 e.2.e.phase
      | none =>
        match s.mix.bus.find? (fun e => e.2.enable && e.2.out = slot) with
        | some e => .stage 1 e.2.phase
        | none =>
          match s.mix.dyn.find? (fun e => e.2.e.enable && e.2.e.out = slot) with
          | some e => .stage 2 e.2.e.phase
          | none => .none

/-! ## Blocks -/

/-- A block of T zeros. -/
def State.zeros (s : State) : List Word := List.replicate s.T 0

/-- A block of a table, padded with zeros to T samples. -/
def State.blk (s : State) (t : List (Nat × List Word)) (slot : Nat) : List Word :=
  let b := Tbl.get (fun _ => []) t slot
  (b ++ s.zeros).take s.T

/-- The late-fill block of a slot (R66, R165). -/
def State.lateBlock (s : State) (slot : Nat) (keep : Bool) : List Word :=
  if keep && !(s.fab.graph.elim true (·.fresh)) then s.blk s.fab.com slot else s.zeros

/-- Where a read of a slot finds its block. -/
inductive BlockSrc where
  | zeros
  /-- Written earlier in the present tick. -/
  | cur
  /-- Committed at the last boundary. -/
  | com
  /-- The input block of the present tick. -/
  | inp
  /-- A mirrored block of a tick (R235). -/
  | mirror (tick : Nat)
deriving DecidableEq, Repr

/-- Where a read of a slot finds its block: `before` says which writers have written in this tick; `back` says that the run
is the one that a new unit of resynchronisation makes for the tick before (R235). -/
def State.srcOf (s : State) (back : Bool) (before : Writer → Bool) (slot : Nat) : BlockSrc :=
  let n := s.tickNum
  match s.writer slot with
  | .none => .zeros
  | .input => if back then .mirror (n - 1) else if s.twn.rsMirror then .mirror n else .inp
  | w =>
    if before w then (if back then .mirror (n - 1) else .cur)
    else if back then .mirror (n - 2)
    else if s.twn.rsMirror then .mirror (n - 1)
    else .com

/-- A mirrored block. -/
def State.mirrored (s : State) (n slot : Nat) : Option (List Word) :=
  (s.twn.mirror.find? fun m => m.1 = n && m.2.1 = slot).map (·.2.2)

/-- The block at a source. -/
def State.srcBlock (s : State) (slot : Nat) : BlockSrc → List Word
  | .zeros => s.zeros
  | .cur => s.blk s.fab.cur slot
  | .com => s.blk s.fab.com slot
  | .inp => s.blk s.fab.inp slot
  | .mirror n => (((s.mirrored n slot).getD []) ++ s.zeros).take s.T

/-- The block has arrived: only a mirrored one can be missing (R235). -/
def State.srcHere (s : State) (slot : Nat) : BlockSrc → Bool
  | .mirror n => (s.mirrored n slot).isSome
  | _ => true

/-- The writers that have written before a task of phase p runs (R49). -/
def beforeTask (p : Nat) : Writer → Bool
  | .task _ q => q < p
  | .stage _ q => q < p
  | _ => false

/-- The writers that have written before a stage of kind k at the end of phase p runs (R138). -/
def beforeStage (p k : Nat) : Writer → Bool
  | .task _ q => q ≤ p
  | .stage kk q => q < p || (q = p && kk < k)
  | _ => false

/-- The block that a task of phase p reads from a slot (R49, R235). -/
def State.taskReads (s : State) (back : Bool) (p slot : Nat) : List Word :=
  s.srcBlock slot (s.srcOf back (beforeTask p) slot)

/-- The block that a stage of kind k at the end of phase p reads from a slot (R138, R235). -/
def State.stageReads (s : State) (p k slot : Nat) : List Word :=
  s.srcBlock slot (s.srcOf false (beforeStage p k) slot)

/-- The block that a dynamics unit of phase p reads in its run for the tick before (R235). -/
def State.backReads (s : State) (p slot : Nat) : List Word :=
  s.srcBlock slot (s.srcOf true (beforeStage p 2) slot)

/-- Write a slot's block of the tick being processed. -/
def State.putCur (s : State) (slot : Nat) (b : List Word) : State :=
  { s with fab := { s.fab with cur := Tbl.set (fun _ => []) s.fab.cur slot b } }

end Sys2Proof.Machine
end

