-- ==== Sys2Proof/Machine/Fabric.lean ====
section
/-!
DEFINITION. The engine fabric (R38 to R78): engines' conditions, deques and backlogs, dealing, stealing, taking and
finishing tasks, task and engine faults, fences and unfences.
-/

namespace Sys2Proof.Machine

/-! ## Engines and their memory -/

/-- An engine. -/
def State.engine (s : State) (e : Nat) : Engine := Tbl.get (fun _ => {}) s.eng e

/-- Store an engine. -/
def State.setEngine (s : State) (e : Nat) (x : Engine) : State :=
  { s with eng := Tbl.set (fun _ => {}) s.eng e x }

/-- Update the fabric. -/
def State.setFab (s : State) (f : Fab → Fab) : State := { s with fab := f s.fab }

/-- The tick store's internal address (R391). -/
abbrev tickStore : Nat := 0x20000000

/-- Engine e's window (R80). -/
def engWindow (e : Nat) : Nat := 0x30000000 + e * 0x40000

/-- The internal address of a local word of engine e (R80, R81): X below 0x4000, Y from there to 0x5FFF. -/
def localAddr (e a : Nat) : Nat :=
  if a < 0x4000 then engWindow e + 0x10000 + 4 * a else engWindow e + 0x20000 + 4 * (a - 0x4000)

/-- A populated local word address (R81). -/
def populated (a : Nat) : Bool := a < 0x6000

/-- A local word. -/
def State.localWord (s : State) (e a : Nat) : Word := s.memWord (localAddr e a)

/-- Store a local word. -/
def State.putLocal (s : State) (e a : Nat) (w : Word) : State := s.putMemWord (localAddr e a) w

/-- Store local words from an address up. -/
def State.putLocals (s : State) (e a : Nat) : List Word → State
  | [] => s
  | w :: ws => (s.putLocal e a w).putLocals e (a + 1) ws

/-- Local words from an address up. -/
def State.localWords (s : State) (e a n : Nat) : List Word := (List.range n).map fun i => s.localWord e (a + i)

/-- The engine cycle within the tick (R63). -/
def State.cycle (s : State) : Nat := s.clk.tickPos / 5

/-! ## Conditions -/

/-- The engine's bit of FAB_ACTIVE: it is not fenced. -/
def State.unfenced (s : State) (e : Nat) : Bool := (s.reg (R.FAB_ACTIVE (e / 32))).getLsbD (e % 32)

/-- The engine is active (R39): not fenced, and its cluster's domain is on; an engine that is off counts as fenced. -/
def State.active (s : State) (e : Nat) : Bool := s.unfenced e && s.domOn (3 + e / 8)

/-- The number of active engines. -/
def State.activeCount (s : State) : Nat := ((List.range 96).filter s.active).length

/-- R75: cap_short and its fault source follow the number of active engines against E_avail. -/
def State.capacityCheck (s : State) : State :=
  if s.fab.graph.isSome && s.activeCount < s.fld F.FAB_RESERVE_e_avail then
    (s.setFlag F.FAB_STATUS_cap_short true).condBegin 4 (word s.activeCount)
  else (s.setFlag F.FAB_STATUS_cap_short false).condEnd 4

/-- Unfence an engine or fence it (R39). -/
def State.putActive (s : State) (e : Nat) (on : Bool) : State := s.setFlag ⟨R.FAB_ACTIVE (e / 32), e % 32, e % 32⟩ on

/-- Unfence an engine or fence it, and check the capacity (R39, R75). -/
def State.setActive (s : State) (e : Nat) (on : Bool) : State :=
  if s.unfenced e = on then s else (s.putActive e on).capacityCheck

/-- An engine's run is over: its pipeline, transfers, writeback and pending entry are discarded. pend_mbox stays (R109). -/
def State.stopEngine (s : State) (e : Nat) : State :=
  let g := s.engine e
  s.setEngine e { es := 0x7C0 ||| (g.es &&& 0x40000) }

/-- The engine may issue transactions: neither it nor its cluster is being drained (R399). -/
def State.engIssues (s : State) (e : Nat) : Bool := s.mayIssue (32 + e) && s.mayIssue (e / 8)

/-- A MAILBOX event raised in the cycle of a stop is discarded (R113): no pend_mbox of this cycle stays. -/
def State.unring (s : State) (e : Nat) : State :=
  if s.now.rung.contains e then
    let g := s.engine e
    s.setEngine e { g with es := setBits g.es 18 18 0 }
  else s

/-! ## Deques (R57, R58) -/

/-- An engine's deque, head first. -/
def State.deque (s : State) (e : Nat) : List Nat := Tbl.get (fun _ => []) s.fab.deque e

/-- Store a deque. -/
def State.setDeque (s : State) (e : Nat) (q : List Nat) : State :=
  s.setFab fun f => { f with deque := Tbl.set (fun _ => []) f.deque e q }

/-- An engine's backlog. -/
def State.backlog (s : State) (e : Nat) : List Nat := Tbl.get (fun _ => []) s.fab.backlog e

/-- Store a backlog. -/
def State.setBacklog (s : State) (e : Nat) (q : List Nat) : State :=
  s.setFab fun f => { f with backlog := Tbl.set (fun _ => []) f.backlog e q }

/-- A task's status in this tick. -/
def State.stat (s : State) (t : Nat) : TStat := Tbl.get (fun _ => .waiting) s.fab.stat t

/-- Set a task's status. -/
def State.setStat (s : State) (t : Nat) (x : TStat) : State :=
  s.setFab fun f => { f with stat := Tbl.set (fun _ => .waiting) f.stat t x }

/-- Append a task at an engine's tail: the deque while it has room and nothing waits in the backlog (R57). -/
def State.append (s : State) (e t : Nat) : State :=
  let s := s.setStat t .queued
  if (s.deque e).length < 32 && (s.backlog e).isEmpty then s.setDeque e (s.deque e ++ [t])
  else s.setBacklog e (s.backlog e ++ [t])

/-- The fabric moves backlog tasks into a deque as entries are free (R57). -/
def State.refill (s : State) (e : Nat) : State :=
  let n := 32 - (s.deque e).length
  let b := s.backlog e
  (s.setDeque e (s.deque e ++ b.take n)).setBacklog e (b.drop n)

/-- The engine has no task and no steal under way. -/
def State.isIdle (s : State) (e : Nat) : Bool :=
  (s.engine e).task.isNone && !(s.fab.steal.any fun x => x.1 = e)

/-- Wake an engine by STEAL_REQ (R61, R109). -/
def State.stealRequest (s : State) (e : Nat) : State :=
  s.setFab fun f => { f with stealReq := if f.stealReq.contains e then f.stealReq else f.stealReq ++ [e] }

/-! ## The end of the graph (R55, R63) -/

/-- Every task of a phase has completed or failed. -/
def State.phaseTasksDone (s : State) (p : Phase) : Bool :=
  p.count = 0 || (List.range p.count).all fun k =>
    match s.stat (p.first + k) with
    | .done | .failed => true
    | _ => false

/-- The released phase is complete (R55). -/
def State.phaseComplete (s : State) : Bool :=
  match s.fab.phase with
  | none => true
  | some p =>
    match s.phases[p]? with
    | none => true
    | some ph => s.fab.stages = 0 && s.phaseTasksDone ph

/-- The next phase to release: the first at or after `p` with tasks or stages (R55). -/
def nextPhase (ps : List Phase) (p : Nat) : Option Nat :=
  (List.range ps.length).find? fun i => p ≤ i && (ps[i]?).any fun x => x.count ≠ 0 || x.stages ≠ 0

/-- A tick is being processed (R20, R21). -/
def State.processing (s : State) : Bool := s.run = .running || s.run = .stopping

/-- The phase to release now, if one may be (R55): none once the tick has overrun (R65). -/
def State.releasable (s : State) : Option Nat :=
  if !s.processing || s.fab.done || s.fab.overran || !s.phaseComplete then none
  else nextPhase s.phases (match s.fab.phase with | none => 0 | some p => p + 1)

/-- The graph is done when its last phase is complete: FAB_LAST_CYC and FAB_PEAK_CYC (R63). -/
def State.checkDone (s : State) : State :=
  if !s.processing || s.fab.done || s.fab.overran || s.fab.graph.isNone || !s.phaseComplete || s.releasable.isSome then s
  else
    let c := s.cycle
    let s := s.setFld F.FAB_LAST_CYC_cycles c
    let s := s.setFld F.FAB_PEAK_CYC_cycles (max c (s.fld F.FAB_PEAK_CYC_cycles))
    s.setFab fun f => { f with done := true }

/-! ## Dealing (R56) -/

/-- Engines of a cluster. -/
def clusterEngines (c : Nat) : List Nat := (List.range 8).map (c * 8 + ·)

/-- The next active engine at or after place `k` of a list, wrapping. -/
def State.firstActive (s : State) (es : List Nat) (k : Nat) : Option Nat :=
  (List.range es.length).findSome? fun i =>
    match es[(k + i) % es.length]? with
    | some e => if s.active e then some e else none
    | none => none

/-- The engine a task is dealt to, and whether it took the module-wide turn (R56); `turn` is the engine the turn stands at. -/
def State.dealTo (s : State) (aff turn : Nat) : Option (Nat × Bool) :=
  let own := if aff < 96 then s.firstActive (clusterEngines (aff / 8)) (aff % 8) else none
  match own with
  | some e => some (e, false)
  | none => (s.firstActive (List.range 96) turn).map fun e => (e, true)

/-- Deal tasks in order from a turn (R56). A task that no active engine can take waits in the fabric. -/
def State.deal (s : State) (turn : Nat) : List Nat → State
  | [] => s
  | t :: ts =>
    match s.dealTo ((s.task? t).elim 0xFF (·.affinity)) turn with
    | none => s.deal turn ts
    | some (e, m) => (s.append e t).deal (if m then e + 1 else turn) ts

/-- Release a phase: deal its tasks, note its stages (R55, R56, R44). -/
def State.releasePhase (s : State) (p : Nat) : State :=
  match s.phases[p]? with
  | none => s
  | some ph =>
    let s := s.setFab fun f => { f with phase := some p, stages := ph.stages % 8 }
    s.deal 0 ((List.range ph.count).map (ph.first + ·))

/-! ## Taking a task (R58, R83, R84) -/

/-- The first local word after the frame's blocks, a multiple of 16 (R83). -/
def frameState (t : Task) (T : Nat) : Nat := (0x20 + (t.ins.length + t.outs.length) * T + 15) / 16 * 16

/-- The resident state length in 64-byte units (R83). -/
def residentLen (t : Task) (T : Nat) : Nat := min t.stateLen ((0x4000 - frameState t T) / 16)

/-- The slots of a failed task carry its late fill, for the readers of later phases too (R66; DEDUCED, log 19). -/
def State.fillOuts (s : State) (t : Nat) : State :=
  match s.task? t with
  | none => s
  | some k => k.outs.foldl (fun s x =>
      s.setFab fun f => { f with cur := Tbl.set (fun _ => []) f.cur x (s.lateBlock x k.repeatPrev) }) s

/-- End an engine's task as failed: FAB_FAIL_INFO, FAB_TASK_FAIL_CNT, late fill at the commit (R71, R73). -/
def State.failTask (s : State) (e t reason : Nat) : State :=
  let s := s.put R.FAB_FAIL_INFO (word (t % 2 ^ 14 + reason * 2 ^ 16 + e * 2 ^ 24))
  let s := s.count R.FAB_TASK_FAIL_CNT
  (s.setStat t .failed).fillOuts t

/-- A task fault (R71): the task ends as failed, the task-fault source is raised, the engine is free again. -/
def State.taskFault (s : State) (e reason : Nat) : State :=
  match (s.engine e).task with
  | none => s
  | some t =>
    let s := (s.failTask e t reason).stopEngine e
    (s.raise 2 (s.reg R.FAB_FAIL_INFO)).checkDone

/-- A task's read meets an uncorrectable word of the tick store (R403): the task fails, and then source 6 is raised (R439). -/
def State.badRead (s : State) (e a : Nat) : State :=
  let u := (s.unitOf a).getD 0
  ((s.sramSeen a u (e / 8)).taskFault e 3).raise 6 (word u)

/-- An engine takes a task: it is the taker's alone; dispatch and prefetch start. A frame that does not fit in X fails
the task in the cycle of the take (R58, R62, R84). -/
def State.takeTask (s : State) (e t : Nat) : State :=
  let s := s.setStat t .taken
  let g := s.engine e
  let s := s.setEngine e { es := 0x7C0 ||| (g.es &&& 0x40000), st := .prefetch, task := some t,
                           began := true, began_at := s.cycle, tick := s.tickNum }
  let s := s.setFab fun f => { f with stealReq := f.stealReq.filter (· ≠ e) }
  match s.task? t with
  | none => s
  | some d => if 0x4000 < frameState d s.T then s.taskFault e 2 else s

/-- The owner takes its head (R58). -/
def State.takeHead (s : State) (e : Nat) : State :=
  match s.deque e with
  | [] => s
  | t :: q => (s.setDeque e q).takeTask e t

/-- The victim that engine e's steal unit finds: engine, across clusters (R60). -/
def State.findVictim (s : State) (e : Nat) : Option (Nat × Bool) :=
  let c := e / 8
  let rr := Tbl.get (fun x => x % 8) s.fab.rr e
  let near :=
    if s.fab.stealEn then
      (List.range 7).findSome? fun i =>
        let v := c * 8 + (rr + i + 1) % 8
        if v ≠ e && s.active v && Tbl.get (fun _ => 0) s.fab.depth v ≠ 0 && !(s.deque v).isEmpty then some (v, false)
        else none
    else none
  match near with
  | some x => some x
  | none =>
    if s.fab.stealEn && s.fab.xcEn then
      (List.range 11).findSome? fun k =>
        let vc := (c + k + 1) % 12
        if Tbl.get (fun _ => 0) s.fab.occ vc < s.fab.xcMin then none
        else
          let best := ((clusterEngines vc).filter s.active).foldl
            (fun (b : Option Nat) v =>
              match b with
              | none => some v
              | some w => if (s.deque w).length < (s.deque v).length then some v else b)
            none
          match best with
          | some v => if 2 ≤ (s.deque v).length then some (v, true) else none
          | none => none
    else none

/-- R60: pop the own head, or steal from a tail; a steal is then under way until it completes (R61). -/
def State.acquire (s : State) (e : Nat) : State :=
  if !s.active e || !s.isIdle e then s
  else if !(s.deque e).isEmpty then s.takeHead e
  else
    match s.findVictim e with
    | none => s
    | some (v, cross) =>
      match (s.deque v).getLast? with
      | none => s
      | some t =>
        let s := s.setDeque v (s.deque v).dropLast
        let s := s.setStat t .taken
        s.setFab fun f => { f with
          steal := f.steal ++ [(e, t, cross)]
          rr := if cross then f.rr else Tbl.set (fun x => x % 8) f.rr e (v % 8) }

/-- R61: the steal of engine e ends; with a task, the engine takes it. -/
def State.stealDone (s : State) (e : Nat) : State :=
  match s.fab.steal.find? (fun x => x.1 = e) with
  | none => s
  | some (_, t, cross) =>
    let s := s.setFab fun f => { f with steal := f.steal.filter fun x => x.1 ≠ e }
    let s := s.count (if cross then R.FAB_XSTEAL_CNT else R.FAB_STEAL_CNT)
    s.takeTask e t

/-! ## The frame (R83) and the end of a run (R87) -/

/-- The frame header's words (R83), for a run of tick n. -/
def State.frameHeader (s : State) (i : Nat) (t : Task) (n : Nat) : List Word :=
  let T := s.T
  [i, t.phase, T, t.ins.length, t.outs.length, t.stateLen, residentLen t T, 0x20, 0x20 + t.ins.length * T,
    frameState t T, n, n / 2 ^ 32, t.stateIn, t.stateOut].map word ++ List.replicate 18 0

/-- The bytes of a task's state as little-endian words. -/
def State.memWords (s : State) (a n : Nat) : List Word := (List.range n).map fun k => s.memWord (a + 4 * k)

/-- The task makes its run for the tick before, in the destination of a resynchronisation (R235). -/
def State.runsBack (s : State) (i : Nat) : Bool := s.twn.catchUp.contains i

/-- Every block that the task reads is there (R235). -/
def State.taskReady (s : State) (i : Nat) (t : Task) : Bool :=
  t.ins.all fun x => s.srcHere x (s.srcOf (s.runsBack i) (beforeTask t.phase) x)

/-- The prefetch fills the frame in X; the registers take their task-start values and the first bundle issues at
code_addr (R83, R86). EPC and EES are undefined: free values. -/
def State.prefetchDone (s : State) (e : Nat) : State :=
  let g := s.engine e
  match g.st, g.task with
  | .prefetch, some i =>
    match s.task? i with
    | none => s
    | some t =>
      if !s.taskReady i t || !s.engIssues e then s
      else match s.badWord (tickStore + t.stateIn) (residentLen t s.T * 64) with
      | some a => s.badRead e a
      | none =>
      let T := s.T
      let back := s.runsBack i
      let ins := t.ins.flatMap (s.taskReads back t.phase)
      let s := s.putLocals e 0 (s.frameHeader i t (s.tickNum - bit back))
      let s := s.putLocals e 0x20 ins
      let s := s.putLocals e (0x20 + t.ins.length * T) (List.replicate (t.outs.length * T) 0)
      let s := s.putLocals e (frameState t T) (s.memWords (tickStore + t.stateIn) (residentLen t T * 16))
      let f := s.fresh
      let s := s.tick1.tick1
      s.setEngine e { es := 0x7C0 ||| (g.es &&& 0x40000), st := .running, task := some i, began := true,
                      began_at := g.began_at, tbud := g.tbud, tick := g.tick, pc := t.code,
                      epc := (Config.freeWord f).setWidth 12, ees := Config.freeWord (f + 1) }
  | _, _ => s

/-- Write each output block from X to its slot (R87). -/
def State.writeOuts (s : State) (e base : Nat) : List Nat → State
  | [] => s
  | slot :: r => (s.putCur slot (s.localWords e base s.T)).writeOuts e (base + s.T) r

/-- Exchange state_in and state_out in the live copy of a descriptor (R50). -/
def State.swapState (s : State) (i : Nat) : State :=
  s.setFab fun f => { f with graph := f.graph.map fun g =>
    { g with tasks := g.tasks.modify i fun t => { t with stateIn := t.stateOut, stateOut := t.stateIn } } }

/-- A unit's run for the tick before has ended (R235). -/
def State.caughtUp (s : State) (u : Nat) : State :=
  { s with twn := { s.twn with catchUp := s.twn.catchUp.filter (· ≠ u) } }

/-- The run for the tick before ends (R235): its outputs are discarded, its state is exchanged, and the task runs again, for
the present tick. -/
def State.endBack (s : State) (e i : Nat) : State :=
  let s := (s.swapState i).caughtUp i
  let g := s.engine e
  s.setEngine e { es := 0x7C0 ||| (g.es &&& 0x40000), st := .prefetch, task := some i, began := true,
                  began_at := s.cycle, tick := g.tick }

/-- A run ends: outputs and resident state are written back and the task completes (R87). -/
def State.completeTask (s : State) (e : Nat) : State :=
  let g := s.engine e
  match g.st, g.task with
  | .writeback, some i =>
    if !g.dma.isEmpty || !s.engIssues e then s
    else
      match s.task? i with
      | none => s
      | some t =>
        let T := s.T
        let s := s.storeWords (e / 8) (tickStore + t.stateOut) (s.localWords e (frameState t T) (residentLen t T * 16))
        if s.runsBack i then s.endBack e i
        else
        let s := s.writeOuts e (0x20 + t.ins.length * T) t.outs
        let s := (s.setStat i .done).count (R.ENG_TASK_CNT e)
        (s.stopEngine e).checkDone
  | _, _ => s

/-- The write that an engine has issued: its oldest transfer to the tick store, or the writeback of its resident state. -/
def State.issuedWrite (s : State) (e : Nat) : Option (Nat × List Word) :=
  let g := s.engine e
  match g.dma, g.st, g.task.bind s.task? with
  | x :: _, _, _ => if x.out then some (tickStore + x.off, s.localWords e x.loc x.count) else none
  | [], .writeback, some t =>
    some (tickStore + t.stateOut, s.localWords e (frameState t s.T) (residentLen t s.T * 16))
  | _, _, _ => none

/-- The engine has transactions issued: its prefetch, its transfers or its writeback. -/
def Engine.issued (g : Engine) : Bool := g.st = .prefetch || g.st = .writeback || !g.dma.isEmpty

/-- The transactions that an engine has issued are drained (R399): of a write the words accepted so far will land. -/
def State.drainEngine (s : State) (e : Nat) : State :=
  if (s.engine e).issued then
    let w := (s.issuedWrite e).toList.map fun w => (e, w)
    (s.drainMaster (32 + e)).setSram fun x => { x with landing := x.landing.filter (fun l => l.1 ≠ e) ++ w }
  else s

/-- An abort or a fence stops an engine (R113): what it has issued is drained, the rest of its run is discarded, and so is an event
raised in the same cycle. -/
def State.haltEngine (s : State) (e : Nat) : State :=
  let s := (((s.drainEngine e).unring e).stopEngine e)
  { s with now := { s.now with stopped := e :: s.now.stopped } }

/-! ## Fences (R72 to R77) -/

/-- The active engine of a list with the lowest broadcast depth, the first on a tie (R73). -/
def State.leastDepth (s : State) (es : List Nat) : Option Nat :=
  (es.filter s.active).foldl
    (fun (b : Option Nat) v =>
      match b with
      | none => some v
      | some w =>
        if Tbl.get (fun _ => 0) s.fab.depth v < Tbl.get (fun _ => 0) s.fab.depth w then some v else b)
    none

/-- Place a task at the head of an engine's deque; a full deque's tail moves to the front of the backlog (R73). -/
def State.placeHead (s : State) (v t : Nat) : State :=
  let q := s.deque v
  let s :=
    if q.length < 32 then s.setDeque v (t :: q)
    else (s.setDeque v (t :: q.dropLast)).setBacklog v (q.drop 31 ++ s.backlog v)
  let s := s.setStat t .queued
  if s.isIdle v then s.stealRequest v else s

/-- Append tasks one each to engines of a list in turn, from place `k` (R73). -/
def State.appendTurn (s : State) (es : List Nat) (k : Nat) : List Nat → State
  | [] => s
  | t :: ts =>
    match s.firstActive es k with
    | none => (s.setStat t .waiting).appendTurn es k ts
    | some e => (s.append e t).appendTurn es (es.idxOf e + 1) ts

/-- The task an engine has taken: running, or on its way by a steal. -/
def State.current (s : State) (e : Nat) : Option Nat :=
  match (s.engine e).task with
  | some t => some t
  | none => (s.fab.steal.find? fun x => x.1 = e).map fun x => x.2.1

/-- R73: fence an engine during a tick; the capacity is checked apart. A rerun (R74) counts where the fence places the task in
another deque, be it taken from there or not (DESIGN CHOICE, log 21). -/
def State.fenceEngine (s : State) (e : Nat) : State :=
  let cur := s.current e
  let queued := s.deque e ++ s.backlog e
  let s := (s.setDeque e []).setBacklog e []
  let s := s.haltEngine e
  let s := s.setFab fun f => { f with
    steal := f.steal.filter fun x => x.1 ≠ e
    stealReq := f.stealReq.filter (· ≠ e)
    depth := Tbl.set (fun _ => 0) f.depth e 0 }
  let s := s.putActive e false
  let own := clusterEngines (e / 8)
  let near := own.any s.active
  let es := if near then own else List.range 96
  let s :=
    match cur with
    | none => s
    | some t =>
      if ((s.task? t).elim false (·.restart)) then
        match s.leastDepth es with
        | some v => (s.placeHead v t).count R.FAB_RERUN_CNT
        | none => s.failTask e t 6
      else s.failTask e t 5
  let s := s.appendTurn es (if near then e % 8 + 1 else 0) queued
  s.checkDone

/-- R73, R75: fence one engine. -/
def State.fenceNow (s : State) (e : Nat) : State := (s.fenceEngine e).capacityCheck

/-- End an unfence in progress with unfence_err (R77). -/
def State.unfenceErr (s : State) (e : Nat) : State :=
  (s.setFab fun f => { f with unfence := f.unfence.filter (· ≠ e) }).setFlag F.FAB_STATUS_unfence_err true

/-- R72: an engine fault with a cause of FAB_FENCE_INFO; source 3 goes before source 4 (R439). In an engine already fenced it only ends an unfence in progress. -/
def State.engineFault (s : State) (e cause : Nat) : State :=
  if s.active e then
    let s := s.put R.FAB_FENCE_INFO (word (e + cause * 2 ^ 8))
    let s := s.fenceEngine e
    let s := s.setFlt fun f => { f with fenced := f.fenced ++ [(e, s.clk.freeU)] }
    (s.raise 3 (s.reg R.FAB_FENCE_INFO)).capacityCheck
  else if s.fab.unfence.contains e then s.unfenceErr e
  else s

/-- R76, R77: ask for a fence at the next boundary; an unfence in progress of the engine ends. -/
def State.requestFence (s : State) (e : Nat) : State :=
  s.setFab fun f => { f with
    fence := if s.active e && !f.fence.contains e then f.fence ++ [e] else f.fence
    unfence := f.unfence.filter (· ≠ e) }

/-- R77: ask for an unfence: march and code load start, unless the engine is active or on its way; a cluster that is off fails. -/
def State.requestUnfence (s : State) (e : Nat) : State :=
  if s.active e || s.fab.unfence.contains e then s
  else if s.domOn (3 + e / 8) then s.setFab fun f => { f with unfence := f.unfence ++ [e] }
  else s.setFlag F.FAB_STATUS_unfence_err true

/-- The fence of an engine that was asked for, without the check of the capacity. -/
def State.plannedOff (s : State) (e : Nat) : State :=
  if s.fab.fence.contains e then
    let s := s.setFab fun f => { f with fence := f.fence.filter (· ≠ e), unfence := f.unfence.filter (· ≠ e) }
    if s.active e then s.fenceEngine e else s
  else s

/-- R76: the boundary fences an engine for which it was asked. -/
def State.plannedFence (s : State) (e : Nat) : State :=
  if s.fab.fence.contains e && s.active e then (s.plannedOff e).capacityCheck else s.plannedOff e

/-- R76: the boundary fences, in one clock cycle, every engine for which it was asked; the capacity is that after all (R75). -/
def State.fenceAll (s : State) : State :=
  if s.fab.fence.any s.active then (s.fab.fence.foldl State.plannedOff s).capacityCheck
  else s.fab.fence.foldl State.plannedOff s

/-- The code segment goes into an engine's program memory from bundle 0 (R43). -/
def State.loadCode (s : State) (e : Nat) : State :=
  match s.fab.graph with
  | none => s
  | some g => s.putBytes (engWindow e) g.code

/-- R77: the boundary makes an engine active when its march passed and its code is loaded; else it stays fenced. -/
def State.activateEngine (s : State) (e : Nat) (marchOk : Bool) : State :=
  if s.fab.unfence.contains e then
    if marchOk && s.domOn (3 + e / 8) then
      let s := s.setFab fun f => { f with unfence := f.unfence.filter (· ≠ e) }
      (s.loadCode e).setActive e true
    else s.unfenceErr e
  else s

/-- Fence or unfence requests for the bits of a word of register j (R76, R77). -/
def State.forBits (s : State) (j : Nat) (w : Word) (f : State → Nat → State) : State :=
  (List.range 32).foldl (fun s i => if w.getLsbD i then f s (32 * j + i) else s) s

/-- R59: every engine broadcasts its depth, every cluster its occupancy; idle engines that find work are woken (R61). -/
def State.broadcast (s : State) : State :=
  let depth := (List.range 96).foldl
    (fun t e => Tbl.set (fun _ => 0) t e (if s.active e then (s.deque e).length else 0)) s.fab.depth
  let occ := (List.range 12).foldl
    (fun t c => Tbl.set (fun _ => 0) t c
      (((clusterEngines c).map fun e => if s.active e then (s.deque e).length else 0).sum)) s.fab.occ
  let s := s.setFab fun f => { f with depth := depth, occ := occ }
  (List.range 96).foldl
    (fun s e =>
      if s.active e && s.isIdle e && (s.deque e).isEmpty && (s.findVictim e).isSome then s.stealRequest e else s)
    s

/-- R52: discard the loaded graph while the tick is stopped; otherwise 0x0C. -/
def State.unloadGraph (s : State) : State :=
  if s.ticking then
    (s.setFlag F.FAB_STATUS_load_err true).setFld F.FAB_STATUS_load_err_code 0x0C
  else
    let s := s.setFab fun f => { f with graph := none, stat := [], phase := none, stages := 0, cur := [], com := [] }
    let s := s.setFlag F.FAB_STATUS_loaded false
    let s := s.put R.FAB_GRAPH_ID 0
    ((s.setFld F.FAB_RESERVE_reserve 0).setFld F.FAB_RESERVE_e_avail 0).capacityCheck

/-! ## The commands -/

/-- UNLOAD (R52): a write of 1 to FAB_CTRL.unload. -/
def execUnload (s : State) : Host.Outcome State Fault Refusal := .next s.unloadGraph

/-- PHASE_RELEASE (R55): the next non-empty phase, once the one before is complete. -/
def execPhaseRelease (s : State) : Host.Outcome State Fault Refusal :=
  .next (match s.releasable with | none => s | some p => s.releasePhase p)

/-- BACKLOG_APPEND (R57). -/
def execBacklogAppend (e : Eng) (s : State) : Host.Outcome State Fault Refusal := .next (s.refill e)

/-- ECC corrected a word in an engine (R109): recorded in ENG_ECC_INFO. One of program, X or Y memory is counted, and task code that
runs sees pend_fault; a register file's word (code 3) is neither a word of local nor of program memory. -/
def State.eccFixed (s : State) (e mem a : Nat) : State :=
  let s := s.put (R.ENG_ECC_INFO e) (word (a % 2 ^ 16 + mem * 2 ^ 16))
  if mem = 3 then s
  else
    let s := s.count (R.ENG_ECC_CNT e)
    let g := s.engine e
    if g.st = .running then s.setEngine e { g with es := g.es ||| 0x20000 } else s

/-- DEPTH_BROADCAST (R59, R61). It also carries the corrected errors that no load of a bundle reports (R72, R109; log 9): an engine
whose domain is off has none. -/
def execDepthBroadcast (s : State) (fixed : List EccFix := []) : Host.Outcome State Fault Refusal :=
  .next (fixed.foldl (fun s x => if s.domOn (3 + x.e / 8) then s.eccFixed x.e x.mem x.addr.toNat else s) s.broadcast)

/-- TASK_ACQUIRE (R60). -/
def execTaskAcquire (e : Eng) (s : State) : Host.Outcome State Fault Refusal := .next (s.acquire e)

/-- STEAL_COMPLETE (R61). -/
def execStealComplete (e : Eng) (s : State) : Host.Outcome State Fault Refusal := .next (s.stealDone e)

/-- TASK_TAKE (R58): an active idle engine takes the head of its deque. -/
def execTaskTake (e : Eng) (s : State) : Host.Outcome State Fault Refusal :=
  .next (if s.active e && s.isIdle e then s.takeHead e else s)

/-- PREFETCH_COMPLETE (R83, R86). -/
def execPrefetchComplete (e : Eng) (s : State) : Host.Outcome State Fault Refusal := .next (s.prefetchDone e)

/-- TASK_COMPLETE (R87). -/
def execTaskComplete (e : Eng) (s : State) : Host.Outcome State Fault Refusal := .next (s.completeTask e)

/-- The engine's run exceeds its task's cycle_budget, from the start of its prefetch on, and is not counted yet (R67). -/
def State.overBudget (s : State) (e : Nat) : Option Nat :=
  let g := s.engine e
  match g.task with
  | none => none
  | some t => if !g.tbud && (s.task? t).any fun d => d.budget < s.cycle - g.began_at then some t else none

/-- TASK_BUDGET_EXCEEDED (R67): counted once in a run, and recorded; the task goes on. -/
def execTaskBudgetExceeded (e : Eng) (s : State) : Host.Outcome State Fault Refusal :=
  .next (match s.overBudget e with
    | none => s
    | some t =>
      ((s.setEngine e { s.engine e with tbud := true }).count R.FAB_TBUD_CNT).setFld F.FAB_TBUD_INFO_task_id t)

/-- The cause code of FAB_FENCE_INFO for what an engine reported. -/
def engCauseCode : EngCause → Nat
  | .lmEcc => 1
  | .pmEcc => 2
  | .rfEcc => 3
  | .parity => 4

/-- ENGINE_FAULT (R72). -/
def execEngineFault (e : Eng) (cause : EngCause) (s : State) : Host.Outcome State Fault Refusal :=
  .next (s.engineFault e (engCauseCode cause))

/-- ENGINE_HANG (R72): a taken task without progress. -/
def execEngineHang (e : Eng) (s : State) : Host.Outcome State Fault Refusal :=
  .next (if (s.current e).isSome then s.engineFault e 5 else s)

/-- FAB_FENCE_WRITE (R76, R77). -/
def execFabFenceWrite (j : Fin 3) (w : Word) (s : State) : Host.Outcome State Fault Refusal :=
  .next (s.ifOn 2 fun s => s.forBits j w State.requestFence)

/-- PLANNED_FENCE (R76). -/
def execPlannedFence (e : Eng) (s : State) : Host.Outcome State Fault Refusal := .next (s.plannedFence e)

/-- FAB_UNFENCE_WRITE (R77). -/
def execFabUnfenceWrite (j : Fin 3) (w : Word) (s : State) : Host.Outcome State Fault Refusal :=
  .next (s.ifOn 2 fun s => s.forBits j w State.requestUnfence)

/-- ENGINE_ACTIVATE (R77). -/
def execEngineActivate (e : Eng) (marchOk : Bool) (s : State) : Host.Outcome State Fault Refusal :=
  .next (s.activateEngine e marchOk)

/-- The level-2 repair of source 3 (R441): one unfence, unless the engine was fenced twice within 60 s or the cause is 0x6. -/
def State.repairFence (s : State) (e : Nat) : State :=
  match s.flt.repair.find? (fun r => r.1 = 3 && bitsOf r.2 6 0 = e) with
  | none => s
  | some (_, d) =>
    let s := s.setFlt fun f => { f with repair := f.repair.filter fun r => !(r.1 = 3 && bitsOf r.2 6 0 = e) }
    let times := (s.flt.fenced.filter fun x => x.1 = e).map (·.2)
    let again :=
      match times.reverse with
      | t1 :: t0 :: _ => t1 < t0 + 60 * secU
      | _ => false
    if bitsOf d 11 8 = 6 || again then s else s.requestUnfence e

/-- 1 s has passed since the engine's last fence (R441). -/
def State.repairDue (s : State) (e : Nat) : Bool := ((s.flt.fenced.filter fun x => x.1 = e).map (·.2)).all fun t => t + secU ≤ s.clk.freeU

/-- UNFENCE_REPAIR (R441): asked for by firmware, 1 s after the fence. -/
def execUnfenceRepair (e : Eng) (s : State) : Host.Outcome State Fault Refusal :=
  .next (if s.fwStopped || !s.repairDue e then s else s.repairFence e)

end Sys2Proof.Machine
end

