-- ==== Sys2Proof/Machine/Flags.lean ====
section
/-!
DEFINITION. The engine's exact arithmetic (R92, R94 to R99): the 32-bit ALU with its flags, the shifts, the leading-sign
count, the conversion of an accumulator, and 80-bit sums.
-/

namespace Sys2Proof.Machine

/-- An ALU result with c and v (R99); z and n follow from the value (R93). -/
structure Alu where
  val : Word
  c : Bool := false
  v : Bool := false
deriving DecidableEq, Repr

/-- z of a result. -/
def Alu.z (r : Alu) : Bool := r.val = 0

/-- n of a result. -/
def Alu.n (r : Alu) : Bool := r.val.msb

/-- Add: carry out, signed overflow. -/
def aluAdd (a b : Word) : Alu :=
  { val := a + b, c := 2 ^ 32 ≤ a.toNat + b.toNat, v := a.toInt + b.toInt ≠ (a + b).toInt }

/-- Subtract: borrow, signed overflow. -/
def aluSub (a b : Word) : Alu :=
  { val := a - b, c := a.toNat < b.toNat, v := a.toInt - b.toInt ≠ (a - b).toInt }

/-- A logical result: c and v are 0. -/
def aluLogic (w : Word) : Alu := { val := w }

/-- Signed minimum. -/
def aluMin (a b : Word) : Alu := aluLogic (if a.toInt ≤ b.toInt then a else b)

/-- Signed maximum. -/
def aluMax (a b : Word) : Alu := aluLogic (if a.toInt ≤ b.toInt then b else a)

/-- Arithmetic right shift: c is the last bit shifted out, 0 for a shift of 0 (R123). -/
def aluAsr (a : Word) (n : Nat) : Alu := { val := a.sshiftRight n, c := n ≠ 0 && a.getLsbD (n - 1) }

/-- Logical right shift. -/
def aluLsr (a : Word) (n : Nat) : Alu := { val := a >>> n, c := n ≠ 0 && a.getLsbD (n - 1) }

/-- Left shift. -/
def aluLsl (a : Word) (n : Nat) : Alu := { val := a <<< n, c := n ≠ 0 && a.getLsbD (32 - n) }

/-- Negate: c the borrow of 0 - a, v for 0x8000_0000 (R123). -/
def aluNeg (a : Word) : Alu := aluSub 0 a

/-- Absolute value: 0x8000_0000 stays and sets v; c is 0 (R123). -/
def aluAbs (a : Word) : Alu := { val := if a.msb then -a else a, v := a = 0x80000000 }

/-- Bits from bit 30 downward that equal bit 31, in a list from bit 30 down. -/
def countSign (sign : Bool) : List Bool → Nat
  | [] => 0
  | b :: bs => if b = sign then countSign sign bs + 1 else 0

/-- lsc (R97): the leading-sign count of a 32-bit value, 0 to 31. -/
def lsc (w : Word) : Nat := countSign w.msb ((List.range 31).map fun i => w.getLsbD (30 - i))

/-- The conversion of R96 without saturation: floor((a + 2^(31+s)) / 2^(32+s)). -/
def convRaw (a : Int) (s : Int) : Int := (a + 2 ^ (31 + s).toNat) / 2 ^ (32 + s).toNat

/-- The conversion of R96: round half up, then saturate. -/
def convert (a : Int) (s : Int) : Word := wordI (sat32 (convRaw a s))

/-- The conversion saturates (R96). -/
def convSat (a : Int) (s : Int) : Bool := sat32 (convRaw a s) ≠ convRaw a s

/-- An exact integer as an accumulator, modulo 2^80 (R95). -/
abbrev accI (i : Int) : Acc := BitVec.ofInt 80 i

/-- A D register as an accumulator: sign_extend(D) x 2^32 (R95). -/
def accOf (d : Word) : Acc := accI (d.toInt * 2 ^ 32)

/-- The product of two Q1.31 operands as it enters an accumulator: 2 x y z (R94). -/
def prod (x y : Word) : Int := 2 * x.toInt * y.toInt

end Sys2Proof.Machine
end

