-- ==== Sys2Proof/Machine/Params.lean ====
section
/-!
DEFINITION. The parameter area (R170 to R174): where each set lies, which bank is active, and reading and writing sets.
-/

namespace Sys2Proof.Machine

/-- The internal address of bank 0 of the parameter area (R170, R394). -/
abbrev paramBase : Nat := 0x21000000

/-- One bank's size. -/
abbrev bankSize : Nat := 0x800000

/-- The set ID is one of a host set (R171). -/
def isHostSet (id : Nat) : Bool := id < 4064

/-- The set ID is one of a block set (R171). -/
def isBlockSet (id : Nat) : Bool := 4064 ≤ id && id < 4084

/-- Offset in the area of a block set (R171). -/
def blockOff (id : Nat) : Nat := (id - 4064) * 0x10000 + 0x600000

/-- Size of a block set (R171). -/
def blockSize (id : Nat) : Nat :=
  if id = 4081 then 0x2000 else if id = 4082 then 0x8000 else if id = 4083 then 0x4000 else 0x10000

/-- A block set's record. -/
def State.blockSet (s : State) (id : Nat) : PSet :=
  Tbl.get (fun id => { off := blockOff id, size := blockSize id }) s.mix.blocks id

/-- A defined set. -/
def State.pset? (s : State) (id : Nat) : Option PSet :=
  if isBlockSet id then some (s.blockSet id)
  else if isHostSet id then (s.mix.sets.find? fun e => e.1 = id).map (·.2)
  else none

/-- Store a set's record. -/
def State.setPset (s : State) (id : Nat) (x : PSet) : State :=
  if isBlockSet id then
    { s with mix := { s.mix with blocks := Tbl.set (fun id => { off := blockOff id, size := blockSize id }) s.mix.blocks id x } }
  else { s with mix := { s.mix with sets := Tbl.put id x s.mix.sets } }

/-- Internal address of a set's byte in a bank. -/
def PSet.addr (p : PSet) (bank o : Nat) : Nat := paramBase + bank * bankSize + p.off + o

/-- The active contents of a set. -/
def State.active? (s : State) (p : PSet) : List Byte := s.bytes (p.addr p.bank 0) p.size

/-- Internal address of a byte of a set's shadow. -/
def PSet.shadow (p : PSet) (o : Nat) : Nat := p.addr (1 - p.bank) o

/-- The set that covers an offset of the area. -/
def State.covers (s : State) (o : Nat) : Option PSet :=
  match s.mix.sets.find? (fun e => e.2.off ≤ o && o < e.2.off + e.2.size) with
  | some e => some e.2
  | none => ((List.range 20).map fun k => s.blockSet (4064 + k)).find? fun p => p.off ≤ o && o < p.off + p.size

/-- A byte of the active parameter area as task DMA reads it: zero where no set covers the offset (R170). -/
def State.paramByte (s : State) (o : Nat) : Byte :=
  match s.covers o with
  | some p => s.byte (paramBase + p.bank * bankSize + o)
  | none => 0

/-- A word of the tick store as task DMA reads it (R90, R170). -/
def State.dmaWord (s : State) (off : Nat) : Word :=
  if 0x1000000 ≤ off && off < 0x1800000 then
    word (leNat ((List.range 4).map fun k => s.paramByte (off - 0x1000000 + k)))
  else s.memWord (0x20000000 + off)

end Sys2Proof.Machine
end

