-- ==== Sys2Proof/Machine/Refresh.lean ====
section
/-!
DEFINITION. The refresh state of the DRAM and the exit from self-refresh (R420, R432), as shared operations.
-/

namespace Sys2Proof.Machine

/-- Update the DRAM controller. -/
def State.setDdr (s : State) (f : Ddr → Ddr) : State := { s with ddr := f s.ddr }

/-- Ranks of the channel. -/
def State.ranks (s : State) : Nat := 1 + s.fld F.DDR_CFG_ranks

/-- The debt field of a rank. -/
def debtF (r : Nat) : Fld := if r = 0 then F.DDR_REF_STATUS_debt0 else F.DDR_REF_STATUS_debt1

/-- The refresh debt of a rank. -/
def State.debt (s : State) (r : Nat) : Nat := s.fld (debtF r)

/-- tREFI in units of 1/6 ns (R420). -/
def State.trefi (s : State) : Nat := if s.flag F.DDR_STATUS_hot then 23400 else 46800

/-- When a rank's timer started its interval. -/
def State.refT (s : State) (r : Nat) : Nat := if r = 0 then s.ddr.t0 else s.ddr.t1

/-- Set it. -/
def State.setRefT (s : State) (r u : Nat) : State := s.setDdr fun d => if r = 0 then { d with t0 := u } else { d with t1 := u }

/-- The timers of both ranks start with d = 0; that of rank 1 half an interval behind (R420, R432). -/
def State.startRefresh (s : State) : State :=
  let u := s.clk.freeU
  let s := (s.setRefT 0 u).setRefT 1 (u + s.trefi / 2)
  (s.setFld (debtF 0) 0).setFld (debtF 1) 0

/-- Issue `n` REF commands to a rank. -/
def State.refs (s : State) (r : Nat) : Nat → State
  | 0 => s
  | n + 1 => (s.emit (.dram "REF" r)).refs r n

/-- The rank is refreshed: it exists, is trained and not in self-refresh. -/
def State.refreshes (s : State) (r : Nat) : Bool := s.domOn 16 && r < s.ranks && s.ddr.live && !s.flag F.DDR_STATUS_sr

/-- A rank's timer has run for an interval (R420). -/
def State.refDue (s : State) (r : Nat) : Bool := s.refT r + s.trefi ≤ s.clk.freeU

/-- After self-refresh: ZQCL for each rank, and the timers restart with d = 0 (R432). -/
def State.wakeRanks (s : State) : State :=
  ((List.range s.ranks).foldl (fun s r => s.emit (.dram "ZQCL" r)) s).startRefresh

/-- The exit (R432): saved delay and Vref registers come back, the timers restart with d = 0. -/
def State.leaveSelfRefresh (s : State) : State :=
  if s.flag F.DDR_STATUS_sr then
    let s := s.ddr.saved.foldl (fun s e => s.put e.1 e.2) s
    let s := s.setDdr fun d => { d with held := false, saved := [] }
    ((s.setFlag F.DDR_STATUS_sr false).emit (.dram "SRX" 0)).wakeRanks
  else s

end Sys2Proof.Machine
end

