-- ==== Sys2Proof/Machine/Host.lean ====
section
/-!
DEFINITION. The host interface (R342 to R372): the doorbell fetch, parsing commands from rings, completions, the shadow
block, interrupts, and the commands NOP, COPY_IN, COPY_OUT, REG_WRITE, FLT_ACK and BAD_OPCODE.
-/

namespace Sys2Proof.Machine

/-! ## The PCI Express function (R339) -/

/-- The words of the configuration space that the spec gives, by offset in the layout of the PCI Express specification (PRESUMED, log
entry 58): vendor and device ID; class code 0x04_0100, with a revision that the spec leaves open. -/
def State.pciConfig (s : State) (o : Nat) : Option Word :=
  if o = 0 then some (s.reg R.HIF_ID)
  else if o = 8 then some (word (0x040100 * 256 + Config.pciRevision % 256))
  else none

/-! ## Descriptors (R350) -/

/-- The descriptor's opcode. -/
def cmdOp (c : HostCmd) : Nat := leAt c.desc 0 2

/-- The descriptor's flags. -/
def cmdFlags (c : HostCmd) : Nat := leAt c.desc 2 2

/-- The descriptor's tag. -/
def cmdTag (c : HostCmd) : Nat := leAt c.desc 4 4

/-- The descriptor's target tick. -/
def cmdTarget (c : HostCmd) : Nat := leAt c.desc 8 8

/-- An argument: offset from byte 16, width. -/
def cmdArg (c : HostCmd) (off len : Nat) : Nat := leAt c.desc (16 + off) len

/-- The argument bytes an opcode uses: offset, length (R356). -/
def usedArgs : Nat → List (Nat × Nat)
  | 0x0002 => [(0, 20)]
  | 0x0003 => [(0, 20)]
  | 0x0010 => [(0, 8)]
  | 0x0020 => [(0, 2), (4, 6)]
  | 0x0021 => [(0, 2)]
  | 0x0022 => [(0, 2), (4, 8), (16, 8)]
  | 0x0023 => [(0, 40)]
  | 0x0024 => [(0, 2), (8, 8)]
  | 0x0030 => [(0, 1), (2, 2), (8, 8)]
  | 0x0031 => [(0, 2), (8, 8)]
  | 0x0040 => [(0, 12)]
  | 0x0050 => [(0, 8)]
  | 0x0060 => [(0, 6), (8, 8)]
  | _ => []

/-- The opcodes of R356. -/
def knownOps : List Nat :=
  [0x0001, 0x0002, 0x0003, 0x0010, 0x0020, 0x0021, 0x0022, 0x0023, 0x0024, 0x0030, 0x0031, 0x0040, 0x0050, 0x0060]

/-- The descriptor offset of the first unused argument byte that is not 0 (R350). -/
def unusedBad (c : HostCmd) : Option Nat :=
  ((List.range 48).find? fun i =>
    !((usedArgs (cmdOp c)).any fun u => u.1 ≤ i && i < u.1 + u.2) && cmdArg c i 1 ≠ 0).map (16 + ·)

/-! ## Parsing (R351 to R355) -/

/-- Commands parsed per ring per tick: 0 is taken as 1, 257 to 511 as 256. -/
def State.maxParse (s : State) : Nat := max 1 (min 256 (s.fld F.HIF_CMD_CFG_max_per_tick))

/-- A command ring has a command that it may parse (R352, R353, R369, R372). -/
def State.canParse (s : State) (r : Nat) : Bool :=
  let x := s.ring r
  s.traffic && (s.hif.fetched || s.hif.late) && x.en && x.prod ≠ x.cons && !x.busy
    && x.parsed < s.maxParse && x.flight < s.ringRoom (4 + r)

/-- A command ring parses its next command now: the rings before it in the order of R352 have none that they may parse. -/
def State.mayParse (s : State) (r : Nat) : Bool :=
  s.canParse r && (List.range r).all fun k => !s.canParse k || (s.ring k).wait

/-- The issue tick of the command at a ring's consumer index (R25, R354). -/
def State.issueTick (s : State) (r : Nat) : Nat :=
  let x := s.ring r
  match x.issue.find? (fun p => dist p.1 x.cons ≠ 0 && dist p.1 x.cons ≤ s.ringSize r) with
  | some p => p.2
  | none => s.tickNum - 1

/-- Take the command at a ring's front, with a read of its descriptor (R350, R352). -/
def State.takeCmd (s : State) (r : Nat) : State :=
  let x := s.ring r
  let c := (x.cons + 1) % 2 ^ 32
  let s := s.emit (.hostRead (s.ringBase r + x.cons % s.ringSize r * 64) 64)
  let s := s.setRing r { x with
    wait := false, cons := c, parsed := x.parsed + 1, flight := x.flight + 1
    issue := x.issue.filter fun p => dist p.1 c ≠ 0 && dist p.1 c ≤ s.ringSize r }
  s.count R.HIF_CMD_CNT

/-- End the command of a descriptor. -/
def State.endCmd (s : State) (c : HostCmd) (status detail : Nat) : State :=
  s.finish c.ring (cmdTag c) (cmdOp c) status detail

/-- What every command's descriptor must hold: reserved flags and unused bytes 0 (R350); the offset of a failure. -/
def badDesc (c : HostCmd) : Option Nat := if cmdFlags c / 2 ≠ 0 then some 2 else unusedBad c

/-- An untimed command of opcode `op` is parsed and executes (R351): `f` gives the state after it and its status and detail. -/
def State.untimed (s : State) (c : HostCmd) (op : Nat) (f : State → State × Nat × Nat) : State :=
  if cmdOp c ≠ op || !s.mayParse c.ring then s
  else
    let s := s.takeCmd c.ring
    match badDesc c with
    | some o => s.endCmd c stBadArg o
    | none =>
      if cmdTarget c ≠ 0 then s.endCmd c stBadArg 8
      else
        let r := f s
        r.1.endCmd c r.2.1 r.2.2

/-- The earliest target tick of a command (R354). -/
def State.earliest (s : State) (i : Nat) (commit : Bool) : Nat :=
  if commit && s.paired then max (i + 3) (s.tickNum + 2) else max (i + 2) (s.tickNum + 1)

/-- A timed command of opcode `op` is parsed (R351, R354): `f` takes the target tick and whether it completes LATE, and
gives the state after acceptance, or the status and detail of a refusal; `ref` is what a refusal does besides. -/
def State.timedOr (s : State) (c : HostCmd) (op : Nat) (commit : Bool) (ref : State → State)
    (f : State → Nat → Bool → State × Option (Nat × Nat)) : State :=
  if cmdOp c ≠ op || !s.mayParse c.ring then s
  else
    let i := s.issueTick c.ring
    let s := s.takeCmd c.ring
    match badDesc c with
    | some o => (ref s).endCmd c stBadArg o
    | none =>
      let e := s.earliest i commit
      let t := cmdTarget c
      if i + 2 ^ 31 < t then (ref s).endCmd c stBadTick 0
      else if t ≠ 0 && t < e && cmdFlags c % 2 = 1 then (ref s).endCmd c stLateRejected 0
      else
        let r := if t = 0 then f s e false else if t < e then f s e true else f s t false
        match r.2 with
        | none => r.1
        | some d => (ref r.1).endCmd c d.1 d.2

/-- A timed command whose refusal has no effect of its own. -/
def State.timed (s : State) (c : HostCmd) (op : Nat) (commit : Bool) (f : State → Nat → Bool → State × Option (Nat × Nat)) :
    State :=
  s.timedOr c op commit id f

/-- Accept a timed command (R19, R355). -/
def State.schedule (s : State) (c : HostCmd) (n : Nat) (late : Bool) (k : TimedKind) (prop : Option Nat) : State :=
  { s with sched := s.sched ++ [{ target := n, kind := k, ring := some c.ring, tag := cmdTag c, late := late,
                                  opcode := cmdOp c, propId := prop }] }

/-- A timed kind is a commit, with limits of its own (R175, R186). -/
def TimedKind.isCommit : TimedKind → Bool
  | .psetCommit _ _ => true
  | .streamCommit _ _ => true
  | _ => false

/-- Timed commands pending other than commits (R355). -/
def State.pendingTimed (s : State) : Nat := (s.sched.filter fun t => !t.kind.isCommit).length

/-- Accept a timed command other than a commit, or refuse it with QUEUE_FULL (R355). -/
def State.scheduleOr (s : State) (c : HostCmd) (n : Nat) (late : Bool) (k : TimedKind) : State × Option (Nat × Nat) :=
  if 256 ≤ s.pendingTimed then (s, some (stQueueFull, 0)) else (s.schedule c n late k none, none)

/-! ## Completions (R353, R357, R371) -/

/-- A completion entry (R357) at producer index p of a ring of n entries. -/
def cplEntry (k : Cpl) (p n : Nat) : List Byte :=
  leBytes 4 k.tag ++ leBytes 2 k.opcode ++ leBytes 1 k.status ++ leBytes 1 ((p / n + 1) % 2)
    ++ leBytes 4 k.detail ++ leBytes 4 k.tick

/-- A command of a ring is no longer in flight. -/
def State.landed (s : State) (r : Nat) : State :=
  let x := s.ring r
  s.setRing r { x with flight := x.flight - 1 }

/-- Write a completion, or discard and count it where its ring is disabled (R371). -/
def State.writeCpl (s : State) (k : Cpl) : State :=
  let q := 4 + k.ring
  let s := s.landed k.ring
  if (s.ring q).en then s.pushRing q 16 (cplEntry k (s.ring q).prod (s.ringSize q)) else s.count R.HIF_CPL_DROP_CNT

/-- Write the completions that wait, in order (R353), while ring traffic is possible (R369, R372). -/
def State.writeCpls (s : State) : State :=
  if s.traffic then
    s.hif.cpls.foldl State.writeCpl (s.setHif fun h => { h with cpls := [] })
  else s

/-- The bytes that two-wire transfers have read go to the host, and their commands complete (R356), while transfers are made (R369,
R372). -/
def State.twiResume (s : State) : State :=
  if s.traffic then
    s.hif.twi.foldl
      (fun s t => match t.back with
        | some b => (s.emit (.hostWrite (t.host + t.wr.length) b)).twiFinish t stOk 0
        | none => s) s
  else s

/-! ## Interrupts (R341, R368) -/

/-- The MSI-X table word at an index: vector control words reset with their mask bit set. -/
def State.msixWord (s : State) (i : Nat) : Word := Tbl.get (fun k => if k % 4 = 3 then 1 else 0) s.hif.msix i

/-- Send a vector, or set its pending bit where it is masked. -/
def State.sendMsix (s : State) (v : Nat) : State :=
  if (s.msixWord (4 * v + 3)).getLsbD 0 then
    s.setHif fun h => { h with msixPba := h.msixPba ||| (1#32 <<< v) }
  else s.emit (.msix v)

/-- Vectors whose pending bit is set and whose mask is not are sent (PRESUMED from the layout that R341 names, log entry 7), while bus
mastering is on (R369). -/
def State.msixGo (s : State) : State :=
  if s.flag F.HIF_STATUS_bme then
    (List.range 32).foldl
      (fun s v => if s.hif.msixPba.getLsbD v && !(s.msixWord (4 * v + 3)).getLsbD 0 then
          (s.setHif fun h => { h with msixPba := h.msixPba &&& ~~~(1#32 <<< v) }).emit (.msix v)
        else s) s
  else s

/-- The interrupt of one ring after the shadow write (R368). -/
def State.ringIrq (s : State) (r : Nat) : State :=
  let x := s.ring r
  let i := x.prod
  let every := max 1 (s.fld (F.HIF_RING_CTRL_every r))
  if x.en && s.flag (F.HIF_RING_CTRL_irq_en r) && i ≠ x.intProd && (x.intLeft = 0 || (r = 8 && s.hif.faultEvt)) then
    (s.setRing r { x with intProd := i, intLeft := every }).sendMsix (s.fld (F.HIF_RING_CTRL_vector r))
  else s

/-! ## The doorbell fetch (R24, R25, R344, R346) -/

/-- The host's producer index for a ring, from the doorbell block (R344, R346). -/
def State.takeProd (s : State) (r v : Nat) : State :=
  let x := s.ring r
  if !x.en || v = x.prod then s
  else if s.ringSize r < dist v x.cons then s.ringErr r
  else s.setRing r { x with prod := v, issue := if r < 4 then x.issue ++ [(v, s.tickNum - 1)] else x.issue }

/-- The host's consumer index for a ring. -/
def State.takeCons (s : State) (r v : Nat) : State :=
  let x := s.ring r
  if !x.en || v = x.cons then s
  else if s.ringSize r < dist x.prod v then s.ringErr r
  else s.setRing r { x with cons := v }

/-- The indices of a doorbell block are taken (R346). -/
def State.takeDoorbell (s : State) (db : List Byte) : State :=
  let s := (List.range 4).foldl (fun s r => s.takeProd r (leAt db (4 * r) 4)) s
  let s := (List.range 4).foldl (fun s r => s.takeCons (4 + r) (leAt db (16 + 4 * r) 4)) s
  let s := (s.takeCons 8 (leAt db 32 4)).takeCons 9 (leAt db 36 4)
  let s := (s.takeProd 10 (leAt db 40 4)).takeProd 11 (leAt db 44 4)
  (s.setHif fun h => { h with hostTag := leAt db 48 4, fetching := false, fetched := true }).overflow

/-- DOORBELL_FETCH_COMPLETE (R25, R346): of a fetch that is late, the data are discarded (R24). -/
def execDoorbellFetchComplete (db : List Byte) (s : State) : Host.Outcome State Fault Refusal :=
  .next (if s.hif.fetching then s.takeDoorbell db else s)

/-- A late fetch: counted; the indices of the previous fetch stand (R24). -/
def State.fetchLate (s : State) : State :=
  let s := s.count R.TCK_DBF_LATE_CNT
  let s := s.setFlag F.TCK_STATUS_dbf_late true
  s.setHif fun h => { h with fetching := false, late := true }

/-- DOORBELL_FETCH_LATE (R24). -/
def execDoorbellFetchLate (s : State) : Host.Outcome State Fault Refusal :=
  .next (if s.hif.fetching then s.fetchLate else s)

/-- The shadow block (R347). -/
def State.shadowBlock (s : State) : List Byte :=
  (List.range 4).flatMap (fun r => leBytes 4 (s.ring r).cons)
    ++ (List.range 4).flatMap (fun r => leBytes 4 (s.ring (4 + r)).prod)
    ++ leBytes 4 (s.ring 8).prod ++ leBytes 4 (s.ring 9).prod ++ leBytes 4 (s.ring 10).cons ++ leBytes 4 (s.ring 11).cons
    ++ leBytes 8 s.tickNum ++ leBytes 4 s.hif.hostTag
    ++ leBytes 4 (bit s.hif.late + 2 * bit s.ticking + 4 * bit (s.flag F.TCK_STATUS_grid_valid)
        + 8 * bit (s.flag F.HIF_STATUS_ring_err))

/-- SHADOW_BLOCK_WRITE (R347), with the interrupts after it (R368). -/
def State.writeShadow (s : State) : State :=
  if s.traffic && !s.hif.shadowed then
    let s := s.emit (.hostWrite (s.pair R.HIF_SH_ADDR_LO R.HIF_SH_ADDR_HI / 64 * 64) s.shadowBlock)
    let s := (List.range 8).foldl (fun s k => s.ringIrq (4 + k)) s
    s.setHif fun h => { h with shadowed := true, faultEvt := false }
  else s

/-- SHADOW_BLOCK_WRITE (R347). -/
def execShadowBlockWrite (s : State) : Host.Outcome State Fault Refusal := .next s.writeShadow

/-- COMPLETION_WRITE (R353). -/
def execCompletionWrite (s : State) : Host.Outcome State Fault Refusal := .next s.writeCpls

/-! ## Plain commands (R356) -/

/-- NOP: timed, nothing at its target. -/
def execNop (c : HostCmd) (s : State) : Host.Outcome State Fault Refusal :=
  .next (s.timed c 0x0001 false fun s n late => s.scheduleOr c n late .nop)

/-- The length argument of a copy: 4 bytes to 64 MiB, a multiple of 4. -/
def copyLenOk (n : Nat) : Bool := 4 ≤ n && n ≤ 0x4000000 && n % 4 = 0

/-- The first internal address reserved for firmware. -/
def State.dramLimit (s : State) : Nat := (s.reg R.HIF_DRAM_LIMIT).toNat * 16

/-- A range lies in DRAM below HIF_DRAM_LIMIT (R356, R412). -/
def State.copyRange (s : State) (a n : Nat) : Bool := 0x400000000 ≤ a && a + n ≤ s.dramLimit

/-- An untimed command of opcode `op` whose descriptor is good (R350). -/
def untimedOk (c : HostCmd) (op : Nat) : Bool := cmdOp c = op && (badDesc c).isNone && cmdTarget c = 0

/-- A copy of opcode `op` that may run waits for the DRAM target (R430, R432). -/
def State.copyWaits (s : State) (c : HostCmd) (op : Nat) : Bool :=
  untimedOk c op && copyLenOk (cmdArg c 16 4) && s.copyRange (cmdArg c 8 8) (cmdArg c 16 4) && !s.dramReady

/-- A command that may run but for the DRAM target waits in front of its ring (R430); its request starts the exit from self-refresh
(R432). -/
def State.holdCopy (s : State) (c : HostCmd) : State :=
  if s.canParse c.ring then
    let s := s.setRing c.ring { s.ring c.ring with wait := true }
    if s.domOn 16 then s.leaveSelfRefresh else s
  else s

/-- COPY_IN (R356): the bytes that the host read returned go to DRAM. -/
def State.copyIn (s : State) (c : HostCmd) : State × Nat × Nat :=
  let a := cmdArg c 8 8
  let n := cmdArg c 16 4
  if !copyLenOk n then (s, stBadArg, 32)
  else if !s.copyRange a n then (s, stBadAddr, 0)
  else ((s.readHost (cmdArg c 0 8) n).store 14 a (padTo n c.data), stOk, 0)

/-- COPY_IN. -/
def execCopyIn (c : HostCmd) (s : State) : Host.Outcome State Fault Refusal :=
  .next (if s.copyWaits c 0x0002 then s.holdCopy c else s.untimed c 0x0002 fun s => s.copyIn c)

/-- COPY_OUT (R356): DRAM bytes are written to the host; it fails where it meets an uncorrectable word (R413). -/
def State.copyOut (s : State) (c : HostCmd) : State × Nat × Nat :=
  let a := cmdArg c 8 8
  let n := cmdArg c 16 4
  if !copyLenOk n then (s, stBadArg, 32)
  else if !s.copyRange a n then (s, stBadAddr, 0)
  else match s.badWord a n with
    | some w => (s.dramSeen w 14, stDmaErr, cmdArg c 0 8 % 2 ^ 32)
    | none => (s.writeHost (cmdArg c 0 8) (s.bytes a n), stOk, 0)

/-- COPY_OUT. -/
def execCopyOut (c : HostCmd) (s : State) : Host.Outcome State Fault Refusal :=
  .next (if s.copyWaits c 0x0003 then s.holdCopy c else s.untimed c 0x0003 fun s => s.copyOut c)

/-- The register offset of REG_WRITE is one of BAR0, 32-bit aligned. -/
def regArgOk (o : Nat) : Bool := o < 0x1000000 && o % 4 = 0

/-- REG_WRITE (R356): accepted for its target tick. -/
def execRegWrite (c : HostCmd) (s : State) : Host.Outcome State Fault Refusal :=
  .next (s.timed c 0x0040 false fun s n late =>
    if regArgOk (cmdArg c 0 4) then
      s.scheduleOr c n late (.regWrite (cmdArg c 0 4) (word (cmdArg c 4 4)) (word (cmdArg c 8 4)))
    else (s, some (stBadArg, 16)))

/-- FLT_ACK (R437). -/
def execFltAck (c : HostCmd) (s : State) : Host.Outcome State Fault Refusal :=
  .next (s.untimed c 0x0050 fun s => (s.ackMask (cmdArg c 0 8), stOk, 0))

/-- BAD_OPCODE (R358): an opcode that R356 does not list. -/
def execBadOpcode (c : HostCmd) (s : State) : Host.Outcome State Fault Refusal :=
  .next (if knownOps.contains (cmdOp c) || !s.mayParse c.ring then s
    else (s.takeCmd c.ring).endCmd c stBadOpcode 0)

end Sys2Proof.Machine
end

