-- ==== Sys2Proof/Machine/Mix.lean ====
section
/-!
DEFINITION. The fixed blocks (R137 to R168): gains, ramps and crossfades, the route, mix and dynamics stages, delay
lines, the cut at the deadline, and meters.
-/

namespace Sys2Proof.Machine

/-- Update the fixed blocks. -/
def State.setMix (s : State) (f : Mix → Mix) : State := { s with mix := f s.mix }

/-! ## Gains, ramps, conversions (R141 to R144) -/

/-- G_int of a gain word with its range bit (R141). -/
def effGain (g : Word) (range : Bool) : Int := if range then g.toInt * 4 else g.toInt

/-- Unity gain: 2^29. -/
abbrev unity : Int := 536870912

/-- R143. -/
def rampAt (a b : Int) (len k : Nat) : Int := if k < len then a + (b - a) * k / len else b

/-- R142: a sample from an exact sum, modulo 2^80; whether it saturated. -/
def mixOut (acc : Int) : Word × Bool := (convert (accI acc).toInt 0, convSat (accI acc).toInt 0)

/-- R144: the sum of a crossfade before its conversion. -/
def crossAcc (a b ga gb : Int) (len k : Nat) : Int :=
  if k < len then 8 * a * (ga - ga * k / len) + 8 * b * (gb * k / len) else 8 * b * gb

/-- k of R143 for sample i of the present tick: complete where numbers have fallen below the start (log entry 12). -/
def State.fadeK (s : State) (n0 len i : Nat) : Nat :=
  if s.tickNum < n0 then len else (s.tickNum - n0) * s.T + i

/-- A fade has ended at the boundary of the present tick (R143). -/
def State.fadeOver (s : State) (n0 len : Nat) : Bool := len ≤ s.fadeK n0 len 0

/-- The gain of a ramp at sample i of the present tick. -/
def State.rampGain (s : State) (r : Option Ramp) (g : Int) (i : Nat) : Int :=
  match r with
  | none => g
  | some r => rampAt r.fromG g r.len (s.fadeK r.n0 r.len i)

/-- The gain of the last sample before a commit at the present tick (R143). -/
def State.gainBefore (s : State) (r : Option Ramp) (g : Int) : Int :=
  match r with
  | none => g
  | some r =>
    let k := s.fadeK r.n0 r.len 0
    if k = 0 then r.fromG else rampAt r.fromG g r.len (k - 1)

/-- A sample of a block as an integer. -/
def smp (b : List Word) (i : Nat) : Int := (b.getD i 0).toInt

/-! ## Route entries (R145 to R152) -/

/-- A route entry's record. -/
def State.rte (s : State) (i : Nat) : RouteSt := Tbl.get (fun _ => {}) s.mix.route i

/-- Store a route entry's record. -/
def State.setRte (s : State) (i : Nat) (r : RouteSt) : State :=
  s.setMix fun m => { m with route := Tbl.set (fun _ => {}) m.route i r }

/-- The effective gain of a route entry in force. -/
def Route.g (e : Route) : Int := effGain e.gain e.range

/-- The base of the delay region (R150). -/
def State.dlyBase (s : State) : Nat :=
  (s.reg R.RTE_DLY_BASE_LO).toNat / 4096 * 4096 + bitsOf (s.reg R.RTE_DLY_BASE_HI) 3 0 * 2 ^ 32

/-- RTE_DLY_LEN. -/
def State.dlyLen (s : State) : Nat := s.fld F.RTE_DLY_LEN_samples

/-- The address of the c-th sample of a delay line since it started (R150). -/
def State.dlyAddr (s : State) (line c : Nat) : Nat := s.dlyBase + line * s.dlyLen * 4 + c % s.dlyLen * 4

/-- Write a block into a delay line from its c-th sample on. -/
def State.dlyWrite (s : State) (line c : Nat) : List Word → State
  | [] => s
  | w :: ws => (s.putMemWord (s.dlyAddr line c) w).dlyWrite line (c + 1) ws

/-- The tap of a line d samples before its c-th sample: zero before the first one written (R152). -/
def State.dlyRead (s : State) (line d c : Nat) : Word := if c < d then 0 else s.memWord (s.dlyAddr line (c - d))

/-- A slot a route entry reads: none is silence. -/
def State.rteSource (s : State) (p : Nat) (src : Option Nat) : List Word :=
  match src with
  | none => s.zeros
  | some x => s.stageReads p 0 x

/-- The source of an entry as a stage reads it: silence when disabled or 0xFFFF. -/
def Route.source (e : Route) : Option Nat := if e.enable && e.src ≠ 0xFFFF then some e.src else none

/-- The entry's signal for the present tick: source times gain, converted, each sample with its saturation (R142, R144, R146). -/
def State.rteSignal (s : State) (p : Nat) (r : RouteSt) : List (Word × Bool) :=
  let b := s.rteSource p r.e.source
  match r.cross with
  | none => (List.range s.T).map fun i => mixOut (8 * smp b i * s.rampGain r.ramp r.e.g i)
  | some (old, f) =>
    let a := s.rteSource p old
    (List.range s.T).map fun i => mixOut (crossAcc (smp a i) (smp b i) f.fromG r.e.g f.len (s.fadeK f.n0 f.len i))

/-- What an entry sends to its destination, after the line is written: `sig` its signal (R146, R147). -/
def State.rteOut (s : State) (r : RouteSt) (sig : List Word) : List (Word × Bool) :=
  let now := fun i => if r.e.dlyEn then s.dlyRead r.e.line r.e.delay (r.cnt + i) else sig.getD i 0
  match r.tap with
  | none => (List.range s.T).map fun i => (now i, false)
  | some (old, n0, len) =>
    (List.range s.T).map fun i =>
      let a := match old with
        | none => sig.getD i 0
        | some t => s.dlyRead t.line t.delay (t.cnt + i)
      mixOut (crossAcc a.toInt (now i).toInt unity unity len (s.fadeK n0 len i))

/-- An old tap on a line of its own, which keeps flowing through the crossfade (R144). -/
def RouteSt.oldLine (r : RouteSt) : Option Tap :=
  match r.tap with
  | some (some t, _, _) => if r.e.dlyEn && r.e.line = t.line then none else some t
  | _ => none

/-- Write a block into the entry's line, and into the old tap's. -/
def State.rteLines (s : State) (r : RouteSt) (b : List Word) : State :=
  let s := if r.e.dlyEn then s.dlyWrite r.e.line r.cnt b else s
  match r.oldLine with
  | some t => s.dlyWrite t.line t.cnt b
  | none => s

/-- The lines of an entry have moved on by n samples. -/
def RouteSt.moveOn (r : RouteSt) (n : Nat) : RouteSt :=
  { r with
    cnt := if r.e.dlyEn then r.cnt + n else r.cnt
    tap := r.tap.map fun t => (t.1.map fun x => { x with cnt := x.cnt + n }, t.2.1, t.2.2) }

/-- Count saturations of a block's outputs (R142). -/
def State.countSat (s : State) (cnt : Nat) (f : Fld) (n : Nat) : State :=
  if n = 0 then s else (s.countBy cnt n).setFlag f true

/-- Process one route entry at the end of phase p (R146). An entry that is not processed, disabled or without its stage, writes
nothing into its line, and the line's count of samples stands still meanwhile (DESIGN CHOICE, log 12). -/
def State.routeEntry (s : State) (p i : Nat) : State :=
  let r := s.rte i
  if !r.claims || r.e.phase ≠ p then s
  else
    let sig := s.rteSignal p r
    let b := sig.map (·.1)
    let s := s.rteLines r b
    let out := s.rteOut r b
    let s := s.countSat R.RTE_SAT_CNT F.RTE_STATUS_sat ((sig.filter (·.2)).length + (out.filter (·.2)).length)
    (s.putCur r.e.dst (out.map (·.1))).setRte i (r.moveOn s.T)

/-! ## Buses (R153 to R157) -/

/-- The effective gain of a crosspoint in force. -/
def Xp.g (e : Xp) : Int := effGain e.gain e.range

/-- What one crosspoint contributes to a bus at sample i: its own product and the ones that fade out (R154, R155). -/
def State.xpTerm (s : State) (p b i : Nat) (x : XpSt) : Int :=
  let own :=
    if x.e.enable && x.e.bus = b then 8 * smp (s.stageReads p 1 x.e.src) i * s.rampGain x.ramp x.e.g i else 0
  own + (x.out.map fun o => if o.2.1 = b then 8 * smp (s.stageReads p 1 o.1) i * s.rampGain (some o.2.2) 0 i else 0).sum

/-- A bus's output block, each sample with its saturation (R154). -/
def State.busOut (s : State) (p b : Nat) : List (Word × Bool) :=
  (List.range s.T).map fun i => mixOut ((s.mix.xp.map fun x => s.xpTerm p b i x.2).sum)

/-- Process one bus at the end of phase p. -/
def State.busEntry (s : State) (p i : Nat) : State :=
  let b := Tbl.get (fun _ => ({} : Bus)) s.mix.bus i
  if !b.enable || b.phase ≠ p then s
  else
    let out := s.busOut p i
    let s := s.countSat R.MIX_SAT_CNT F.MIX_STATUS_sat (out.filter (·.2)).length
    s.putCur b.out (out.map (·.1))

/-! ## Dynamics (R158 to R163) -/

/-- R160: log2 in units of 2^-16. -/
def lg (v : Nat) : Int :=
  if v = 0 then -64 * 65536
  else
    let i := v.log2
    let m := v * 2 ^ (63 - i) / 2 ^ 47 % 65536
    ((i * 65536 + m + m * (65536 - m) * 22713 / 2 ^ 32 : Nat) : Int)

/-- R160: 2^(u / 65536) in units of 2^-29. -/
def e2 (u : Int) : Nat :=
  let i := u / 65536
  let f := (u % 65536).toNat
  let mant := 65536 + f - f * (65536 - f) * 22511 / 2 ^ 32
  let sh := i + 13
  if sh ≤ -17 then 0 else if 0 ≤ sh then mant * 2 ^ sh.toNat else mant / 2 ^ (-sh).toNat

/-- R160: the level of a sample and the mean square after it. -/
def level (sc : Int) (rms : Bool) (ms kRms : Nat) : Int × Nat :=
  let a := sc.natAbs
  if rms then
    let d : Int := (a * a : Nat) - (ms : Int)
    let ms' := ((ms : Int) + d * kRms / 2 ^ 32).toNat
    ((lg ms' - 62 * 65536) / 2, ms')
  else (lg a - 31 * 65536, ms)

/-- R160: the static gain reduction. -/
def gainComp (x th : Int) (w sl : Nat) : Int :=
  let d := x - th
  if 2 * d ≤ -(w : Int) then 0
  else if (w : Int) ≤ 2 * d then -(d * sl / 65536)
  else
    let e : Int := d + (w / 2 : Nat)
    0 - e * e * sl / (2 * w) / 65536

/-- R160: smoothing. -/
def smoothGr (gr gc : Int) (aA aR : Nat) : Int := gc + (gr - gc) * (if gc < gr then aA else aR) / 2 ^ 32

/-- A unit's record. -/
def State.dynU (s : State) (i : Nat) : DynSt := Tbl.get (fun _ => {}) s.mix.dyn i

/-- Store a unit's record. -/
def State.setDyn (s : State) (i : Nat) (x : DynSt) : State :=
  s.setMix fun m => { m with dyn := Tbl.set (fun _ => {}) m.dyn i x }

/-- The unit's state, its output so far (last first), its saturations and the least gr_s, before a sample. -/
structure DynRun where
  m : DynMem
  out : List Word := []
  sat : Nat := 0
  low : Option Int := none

/-- One sample of a unit (R159, R162): the input sample, the sidechain sample, k of a lookahead crossfade and its old tap. -/
def dynSample (e : Dyn) (r : DynRun) (x sc : Int) (fade : Option (Nat × Nat)) : DynRun :=
  let lv := level sc e.rms r.m.ms e.kRms
  let gr := smoothGr r.m.gr (gainComp lv.1 e.th e.knee e.slope) e.alphaA e.alphaR
  let h := x :: r.m.hist
  let tap := match fade with
    | none => (h.getD e.look 0, false)
    | some (old, k) =>
      let o := mixOut (crossAcc (h.getD old 0) (h.getD e.look 0) unity unity 64 k)
      (o.1.toInt, o.2)
  let o := mixOut (8 * tap.1 * (e2 (gr + e.makeup) : Nat))
  { m := { gr := gr, ms := lv.2, hist := h.take 64 }
    out := o.1 :: r.out
    sat := r.sat + bit tap.2 + bit o.2
    low := some (min gr (r.low.getD gr)) }

/-- A unit's run over a tick n from its input and its sidechain block. -/
def State.dynRun (s : State) (n : Nat) (u : DynSt) (inb scb : List Word) : DynRun :=
  let q := { s with clk := { s.clk with tickNum := n } }
  (List.range s.T).foldl
    (fun r i =>
      let fade := match u.look with
        | none => none
        | some (old, n0) => some (old, q.fadeK n0 64 i)
      dynSample u.e r (smp inb i) (smp scb i) fade)
    { m := u.m }

/-- The unit after its run for the tick before, in the destination of a resynchronisation (R235). -/
def State.dynBack (s : State) (p i : Nat) (u : DynSt) : DynSt :=
  if s.runsBack (16384 + i) then
    let inb := s.backReads p u.e.inp
    let scb := if u.e.sc = 0xFFFF then inb else s.backReads p u.e.sc
    { u with m := (s.dynRun (s.tickNum - 1) u inb scb).m }
  else u

/-- Process one dynamics unit at the end of phase p. -/
def State.dynEntry (s : State) (p i : Nat) : State :=
  let u := s.dynU i
  if !u.e.enable || u.e.phase ≠ p then s
  else
    let inb := s.stageReads p 2 u.e.inp
    let scb := if u.e.sc = 0xFFFF then inb else s.stageReads p 2 u.e.sc
    let u := s.dynBack p i u
    let s := s.caughtUp (16384 + i)
    let r := s.dynRun s.tickNum u inb scb
    let s := s.countSat R.DYN_SAT_CNT F.DYN_STATUS_sat r.sat
    (s.putCur u.e.out r.out.reverse).setDyn i { u with next := some r.m, low := r.low.getD u.m.gr }

/-! ## Stages (R137, R164, R165) -/

/-- The slots that the objects of a stage of a kind read at the end of phase p. -/
def State.stageSlots (s : State) (kind p : Nat) : List Nat :=
  match kind with
  | 0 => (s.mix.route.filter fun e => e.2.claims && e.2.e.phase = p).flatMap fun e =>
      e.2.e.source.toList ++ (match e.2.cross with | some (some x, _) => [x] | _ => [])
  | 1 => s.mix.xp.flatMap fun e =>
      let on := fun b => let x := Tbl.get (fun _ => ({} : Bus)) s.mix.bus b; x.enable && x.phase = p
      (if e.2.e.enable && on e.2.e.bus then [e.2.e.src] else []) ++ (e.2.out.filter fun o => on o.2.1).map (·.1)
  | _ => (s.mix.dyn.filter fun e => e.2.e.enable && e.2.e.phase = p).flatMap fun e =>
      e.2.e.inp :: (if e.2.e.sc = 0xFFFF then [] else [e.2.e.sc])

/-- Every block that a stage reads is there (R235), and the DRAM serves the delay lines that it uses (R152, R430). -/
def State.stageReady (s : State) (kind p : Nat) : Bool :=
  (kind ≠ 0 || s.dramReady || !s.mix.route.any fun e => e.2.claims && e.2.e.phase = p && (e.2.e.dlyEn || e.2.tap.isSome))
    && ((s.stageSlots kind p).all fun x => s.srcHere x (s.srcOf false (beforeStage p kind) x))
    && (kind ≠ 2 || s.mix.dyn.all fun e => !(s.runsBack (16384 + e.1)) || !(e.2.e.enable && e.2.e.phase = p)
          || (e.2.e.inp :: (if e.2.e.sc = 0xFFFF then [] else [e.2.e.sc])).all fun x =>
            s.srcHere x (s.srcOf true (beforeStage p 2) x))

/-- The released phase whose stage of a kind runs next (R137): its tasks are done and the stages before it finished; a
stage waits for a mirrored block that it needs (R235). After the deadline no stage runs: it was cut (R165). -/
def State.stageTurn (s : State) (kind : Nat) : Option Nat :=
  match s.fab.phase with
  | none => none
  | some p =>
    match s.phases[p]? with
    | none => none
    | some ph =>
      if s.fab.stages.testBit kind && s.fab.stages % 2 ^ kind = 0 && s.phaseTasksDone ph && !s.fab.done && !s.fab.overran
          && s.stageReady kind p then some p
      else none

/-- A stage of the released phase has finished. -/
def State.endStage (s : State) (kind : Nat) : State :=
  (s.setFab fun f => { f with stages := f.stages - 2 ^ kind }).checkDone

/-- Run the route stage. -/
def State.routeStage (s : State) : State :=
  match s.stageTurn 0 with
  | none => s
  | some p => ((s.mix.route.map (·.1)).foldl (fun s i => s.routeEntry p i) s).endStage 0

/-- Run the mix stage. -/
def State.mixStage (s : State) : State :=
  match s.stageTurn 1 with
  | none => s
  | some p => ((s.mix.bus.map (·.1)).foldl (fun s i => s.busEntry p i) s).endStage 1

/-- Run the dynamics stage. -/
def State.dynStage (s : State) : State :=
  match s.stageTurn 2 with
  | none => s
  | some p => ((s.mix.dyn.map (·.1)).foldl (fun s i => s.dynEntry p i) s).endStage 2

/-- ROUTE_STAGE (R146). -/
def execRouteStage (s : State) : Host.Outcome State Fault Refusal := .next s.routeStage

/-- MIX_STAGE (R154). -/
def execMixStage (s : State) : Host.Outcome State Fault Refusal := .next s.mixStage

/-- DYNAMICS_STAGE (R159). -/
def execDynamicsStage (s : State) : Host.Outcome State Fault Refusal := .next s.dynStage

/-- The entry reads a delay line: its own, or an old tap's through the crossfade (R144, R152). -/
def RouteSt.taps (r : RouteSt) : Bool := r.e.dlyEn || r.tap.any fun t => t.1.isSome

/-- DELAY_TAP_WAIT (R152): an entry of the running route stage waits for its tap data. -/
def execDelayTapWait (i : Fin 4096) (s : State) : Host.Outcome State Fault Refusal :=
  let r := s.rte i
  .next (if r.claims && r.taps && (s.stageTurn 0) = some r.e.phase then s.count R.RTE_DLY_WAIT_CNT else s)

/-- The stage of a kind at the end of phase q has finished in this tick. -/
def State.stageDone (s : State) (kind q : Nat) : Bool :=
  match s.fab.phase with
  | none => false
  | some p => q < p || (q = p && !s.fab.stages.testBit kind)

/-- The phase table runs a stage of a kind at the end of phase q (R139). -/
def State.runsStage (s : State) (kind q : Nat) : Bool :=
  match s.phases[q]? with
  | none => false
  | some ph => ph.stages.testBit kind

/-- A cut object's slot carries its block's late-fill value (R165). -/
def State.cutSlot (s : State) (slot : Nat) (keep : Bool) : State :=
  s.setFab fun f => { f with cut := f.cut ++ [(slot, keep)] }

/-- Cut the route entries whose stage has not finished at the deadline (R165). -/
def State.cutRoutes (s : State) : State :=
  s.mix.route.foldl
    (fun s e =>
      let r := s.rte e.1
      if r.claims && s.runsStage 0 r.e.phase && !s.stageDone 0 r.e.phase then
        let b := s.lateBlock r.e.dst s.mix.lateRte
        let s := (s.rteLines r b).setRte e.1 (r.moveOn s.T)
        ((s.cutSlot r.e.dst s.mix.lateRte).count R.RTE_CUT_CNT).setFlag F.RTE_STATUS_cut true
      else s)
    s

/-- Cut the buses. -/
def State.cutBuses (s : State) : State :=
  s.mix.bus.foldl
    (fun s e =>
      if e.2.enable && s.runsStage 1 e.2.phase && !s.stageDone 1 e.2.phase then
        ((s.cutSlot e.2.out s.mix.lateMix).count R.MIX_CUT_CNT).setFlag F.MIX_STATUS_cut true
      else s)
    s

/-- Cut the dynamics units: their state is not exchanged. -/
def State.cutDyns (s : State) : State :=
  s.mix.dyn.foldl
    (fun s e =>
      if e.2.e.enable && s.runsStage 2 e.2.e.phase && !s.stageDone 2 e.2.e.phase then
        ((s.cutSlot e.2.e.out s.mix.lateDyn).count R.DYN_CUT_CNT).setFlag F.DYN_STATUS_cut true
      else s)
    s

/-- R165: every object that no stage has finished is cut. -/
def State.cutStages (s : State) : State := ((s.cutRoutes).cutBuses).cutDyns

/-- R139: enabled objects whose phase, in the graph of the tick that starts, runs no stage of their kind set orphan. -/
def State.orphans (s : State) : State :=
  let s := if s.mix.route.any (fun e => e.2.e.enable && !s.runsStage 0 e.2.e.phase) then s.setFlag F.RTE_STATUS_orphan true else s
  let s := if s.mix.bus.any (fun e => e.2.enable && !s.runsStage 1 e.2.phase) then s.setFlag F.MIX_STATUS_orphan true else s
  if s.mix.dyn.any (fun e => e.2.e.enable && !s.runsStage 2 e.2.e.phase) then s.setFlag F.DYN_STATUS_orphan true else s

/-! ## Fades (R143, R149, R156, R162) -/

/-- The fades of a route entry that have ended are over. -/
def State.endRteFades (s : State) (r : RouteSt) : RouteSt :=
  { r with
    ramp := r.ramp.filter fun f => !s.fadeOver f.n0 f.len
    cross := r.cross.filter fun f => !s.fadeOver f.2.n0 f.2.len
    tap := r.tap.filter fun f => !s.fadeOver f.2.1 f.2.2 }

/-- The fades of a crosspoint that have ended are over. -/
def State.endXpFades (s : State) (x : XpSt) : XpSt :=
  { x with
    ramp := x.ramp.filter fun f => !s.fadeOver f.n0 f.len
    out := x.out.filter fun o => !s.fadeOver o.2.2.n0 o.2.2.len }

/-- A unit's lookahead crossfade that has ended is over. -/
def State.endDynFades (s : State) (u : DynSt) : DynSt :=
  { u with look := u.look.filter fun f => !s.fadeOver f.2 64 }

/-- A crossfade of the entry still runs (R149). -/
def RouteSt.fading (r : RouteSt) : Bool := r.cross.isSome || r.tap.isSome

/-- The counts of objects that the fixed blocks report. -/
def State.mixCounts (s : State) : State :=
  let s := s.put R.RTE_ACTIVE (word (s.mix.route.filter fun e => e.2.e.enable).length)
  let s := s.put R.RTE_FADING
    (word (s.mix.route.filter fun e => e.2.fading || e.2.ramp.isSome || e.2.defer.isSome).length)
  let s := s.put R.MIX_XP_ACTIVE (word (s.mix.xp.filter fun e => e.2.e.enable).length)
  let s := s.put R.MIX_XP_FADING (word ((s.mix.xp.map fun e => e.2.out.length).sum))
  s.put R.DYN_ACTIVE (word (s.mix.dyn.filter fun e => e.2.e.enable).length)

/-- Map every record of a table, keeping its canonical form. -/
def mapTbl {α : Type} [DecidableEq α] (d : Nat → α) (f : α → α) (t : List (Nat × α)) : List (Nat × α) :=
  t.foldl (fun t e => Tbl.set d t e.1 (f e.2)) t

/-- End the fades that are over (R143). -/
def State.endFades (s : State) : State :=
  (s.setMix fun m => { m with
    route := mapTbl (fun _ => {}) s.endRteFades m.route
    xp := mapTbl (fun _ => {}) s.endXpFades m.xp
    dyn := mapTbl (fun _ => {}) s.endDynFades m.dyn }).mixCounts

/-- FADE_END (R143). -/
def execFadeEnd (s : State) : Host.Outcome State Fault Refusal := .next s.endFades

/-! ## Meters (R167 to R169, R361) -/

/-- The meter list in force: slots, then units (R167). -/
def State.meterList (s : State) : List Nat × List Nat :=
  let b := s.active? (s.blockSet 4083)
  let n := leAt b 0 2
  let m := leAt b 2 2
  ((List.range n).map fun i => leAt b (4 + 2 * i) 2, (List.range m).map fun i => leAt b (4 + 2 * (n + i)) 2)

/-- |x| of a sample, |-2^31| taken as 0x7FFF_FFFF (R168). -/
def absPeak (x : Int) : Nat := min x.natAbs 0x7FFFFFFF

/-- Add a block to a meter. -/
def Meter.add (m : Meter) (b : List Word) : Meter :=
  b.foldl (fun m w => { peak := max m.peak (absPeak w.toInt), sum := m.sum + w.toInt.natAbs ^ 2 }) m

/-- The block a slot holds at a commit: the input block for an input-source slot (R168). -/
def State.slotBlock (s : State) (slot : Nat) : List Word :=
  if s.isInput slot then s.blk s.fab.inp slot else s.blk s.fab.com slot

/-- The block that owned outputs carry of a slot after a commit: after a step a crossfade from the block before (R295). -/
def State.outBlock (s : State) (slot : Nat) : List Word :=
  let b := s.slotBlock slot
  match s.fab.comOld with
  | none => b
  | some old =>
    let a := if s.isInput slot then s.blk s.fab.inpPrev slot else s.blk old slot
    (List.range s.T).map fun i => (mixOut (crossAcc (smp a i) (smp b i) unity unity s.T i)).1

/-- The accumulation starts anew. -/
def State.meterClear (s : State) : State :=
  s.setMix fun m => { m with meter := [], meterGr := [], meterN := 0, meterTicks := 0 }

/-- The blocks of the commit just made enter the meters. R168 gives a record at most N ticks: where more come without a record,
because tick numbers were repeated or the interval was changed, the count starts anew after N (DESIGN CHOICE, log 12). -/
def State.meterTake (s : State) : State :=
  let n := s.fld F.MIX_METER_CFG_interval
  if n = 0 then s
  else
    let s := if n ≤ s.mix.meterTicks then s.meterClear else s
    let l := s.meterList
    let l := (l.1.eraseDups, l.2.eraseDups)
    let mt := l.1.foldl
      (fun t x => Tbl.set (fun _ => {}) t x ((Tbl.get (fun _ => ({} : Meter)) t x).add (s.slotBlock x))) s.mix.meter
    let first := s.mix.meterTicks = 0
    let gr := l.2.foldl
      (fun t u =>
        let g := (s.dynU u).low
        Tbl.set (fun _ => 0) t u (if first then g else min g (Tbl.get (fun _ => 0) t u))) s.mix.meterGr
    s.setMix fun m => { m with meter := mt, meterGr := gr, meterN := m.meterN + s.T, meterTicks := m.meterTicks + 1 }

/-- 8 bytes of a slot in a record: peak, RMS level (R168, R361). -/
def State.meterSlot (s : State) (x : Nat) : List Byte :=
  let m := Tbl.get (fun _ => ({} : Meter)) s.mix.meter x
  leBytes 4 m.peak ++ leBytes 4 (wordI ((lg (m.sum / s.mix.meterN) - 62 * 65536) / 2)).toNat

/-- Pad a byte list with zeros to a whole number of 16-byte entries. -/
def pad16 (bs : List Byte) : List Byte := padTo ((bs.length + 15) / 16 * 16) bs

/-- A meter record (R361). -/
def State.meterRecord (s : State) : List Byte :=
  let l := s.meterList
  leBytes 8 s.tickNum ++ leBytes 2 l.1.length ++ leBytes 2 l.2.length ++ leBytes 2 s.mix.meterTicks
    ++ leBytes 2 (bit s.mix.meterNew)
    ++ pad16 (l.1.flatMap s.meterSlot)
    ++ pad16 (l.2.flatMap fun u => leBytes 4 (wordI (Tbl.get (fun _ => 0) s.mix.meterGr u)).toNat)

/-- Write consecutive 16-byte entries of the meter ring. -/
def State.pushMeter (s : State) : Nat → List Byte → State
  | 0, _ => s
  | n + 1, bs => (s.pushRing 9 16 (bs.take 16)).pushMeter n (bs.drop 16)

/-- Post the meter record due at the present boundary, or drop it whole (R168, R169). Where no block was committed since the record
before, as while the tick does not run, there is nothing to record: none is posted, and none counted as dropped (DESIGN CHOICE,
log 24). -/
def State.meterPost (s : State) : State :=
  let n := s.fld F.MIX_METER_CFG_interval
  if n = 0 || s.tickNum % n ≠ 0 || s.mix.meterTicks = 0 then s
  else
    let rec' := s.meterRecord
    let k := rec'.length / 16
    let s1 :=
      if s.hostUp && (s.ring 9).en && k ≤ s.ringRoom 9 then
        (s.pushMeter k rec').setMix fun m => { m with meterNew := false }
      else s.count R.MIX_METER_DROP_CNT
    s1.meterClear

/-- METER_RECORD_POST (R168). -/
def execMeterRecordPost (s : State) : Host.Outcome State Fault Refusal := .next s.meterPost

end Sys2Proof.Machine
end

