-- ==== Sys2Proof/Machine/PSets.lean ====
section
/-!
DEFINITION. Parameter sets and safe-load (R170 to R180): the tables of the block sets, the validation of a commit, what a
commit changes at its tick, shadow copies, deferred changes, and the commands that define, load, write and commit sets.
-/

namespace Sys2Proof.Machine

/-! ## Entries of the block sets -/

/-- Bits `hi` down to `lo` of a number. -/
def bitsN (n hi lo : Nat) : Nat := n / 2 ^ lo % 2 ^ (hi + 1 - lo)

/-- A route entry (R145) of a table's bytes. -/
def routeAt (b : List Byte) (i : Nat) : Route :=
  let o := 16 * i
  let fl := leAt b (o + 11) 1
  let dl := leAt b (o + 12) 4
  { dst := leAt b o 2, src := leAt b (o + 2) 2, gain := word (leAt b (o + 4) 4), fade := leAt b (o + 8) 2
    phase := leAt b (o + 10) 1 % 64, enable := fl.testBit 0, range := fl.testBit 1, dlyEn := fl.testBit 2
    delay := dl % 2 ^ 18, line := bitsN dl 28 18 }

/-- A bus entry (R153). -/
def busAt (b : List Byte) (i : Nat) : Bus :=
  let o := 16 * i
  { out := leAt b o 2, phase := leAt b (o + 2) 1 % 64, enable := (leAt b (o + 3) 1).testBit 0, ramp := leAt b (o + 4) 2 }

/-- A crosspoint entry (R153) of one set's bytes. -/
def xpAt (b : List Byte) (i : Nat) : Xp :=
  let o := 8 * i
  let w := leAt b (o + 2) 2
  { src := leAt b o 2, bus := w % 512, range := w.testBit 14, enable := w.testBit 15, gain := word (leAt b (o + 4) 4) }

/-- A dynamics entry (R158). -/
def dynAt (b : List Byte) (i : Nat) : Dyn :=
  let o := 64 * i
  let fl := leAt b (o + 7) 1
  { inp := leAt b o 2, out := leAt b (o + 2) 2, sc := leAt b (o + 4) 2, phase := leAt b (o + 6) 1 % 64
    enable := fl.testBit 0, rms := fl.testBit 1, th := signExt 32 (leAt b (o + 8) 4), knee := leAt b (o + 12) 4
    slope := leAt b (o + 16) 4, makeup := leAt b (o + 20) 4, alphaA := leAt b (o + 24) 4, alphaR := leAt b (o + 28) 4
    kRms := leAt b (o + 32) 4, look := leAt b (o + 36) 1 }

/-! ## What stands at tick N -/

/-- What a set's shadow holds for a commit: while its copy still runs, the active contents that the copy brings (R174). -/
def State.shadowBytes (s : State) (p : PSet) : List Byte := if p.copying then s.active? p else s.bytes (p.shadow 0) p.size

/-- The bytes of a set as they will stand at N, with the sets `named` by a commit at N (R177): the shadow of a set that is
named or pending for N or earlier, else the active copy. -/
def State.setAt (s : State) (named : List Nat) (n id : Nat) : List Byte :=
  match s.pset? id with
  | none => []
  | some p =>
    let pend := s.sched.any fun t =>
      t.target ≤ n && match t.kind with
        | .psetCommit ids _ => ids.contains id
        | _ => false
    if named.contains id || pend then s.shadowBytes p else s.active? p

/-- A set is pending (R175). -/
def State.psetPending (s : State) (id : Nat) : Bool :=
  s.sched.any fun t => match t.kind with
    | .psetCommit ids _ => ids.contains id
    | _ => false

/-- Set commits pending. -/
def State.psetCommits (s : State) : Nat :=
  (s.sched.filter fun t => match t.kind with
    | .psetCommit _ _ => true
    | _ => false).length

/-- Stream commits pending. -/
def State.streamCommits (s : State) : Nat :=
  (s.sched.filter fun t => match t.kind with
    | .streamCommit _ _ => true
    | _ => false).length

/-- The pending counts and the copy flag that MIX_PSET_STATUS and STR_STATUS report. -/
def State.pendCounts (s : State) : State :=
  let s := s.setFld F.MIX_PSET_STATUS_pending s.psetCommits
  let s := s.setFlag F.MIX_PSET_STATUS_refresh_busy
    (s.mix.sets.any (fun e => e.2.copying) || s.mix.blocks.any (fun e => e.2.copying))
  s.setFld F.STR_STATUS_pending s.streamCommits

/-! ## Validation (R177) -/

/-- The tick at which a pending commit gives a set new contents. -/
def State.psetDue (s : State) (id : Nat) : Option Nat :=
  (s.sched.find? fun t => match t.kind with
    | .psetCommit ids _ => ids.contains id
    | _ => false).map (·.target)

/-- The tables as they will stand at N, with the sets `named` by a commit at N. -/
structure Tables where
  route : List Byte
  bus : List Byte
  dyn : List Byte
  named : List Nat
  n : Nat

/-- The tables as they will stand at N. -/
def State.tables (s : State) (named : List Nat) (n : Nat) : Tables :=
  { route := s.setAt named n 4080, bus := s.setAt named n 4081, dyn := s.setAt named n 4082, named := named, n := n }

/-- The tick from which a set's contents as they will stand at N hold. -/
def State.since (s : State) (t : Tables) (id : Nat) : Nat :=
  if t.named.contains id then t.n else min t.n ((s.psetDue id).getD s.tickNum)

/-- The first boundary at or after the end of a fade, 0 where it is over (R149). -/
def State.fadeEnd (s : State) (n0 len : Nat) : Nat := if s.fadeOver n0 len then 0 else n0 + (len + s.T - 1) / s.T

/-- A slot in range, 0xFFFF allowed where `opt`. -/
def State.slotOk (s : State) (opt : Bool) (x : Nat) : Bool := x < s.nslots || (opt && x = 0xFFFF)

/-- Slots of the pending receive contexts that stand at N besides the active ones. -/
def State.stagedInput (s : State) (n slot : Nat) : Bool :=
  s.sched.any fun t =>
    t.target ≤ n && match t.kind with
      | .streamCommit items _ => items.any fun x =>
          x < 0x8000 && (let c := Tbl.get (fun _ => []) s.str.rxStage x; ctxOn c && (ctxSlots c).contains slot)
      | _ => false

/-- A task or an input source writes the slot (R140, R177). -/
def State.otherWriter (s : State) (n slot : Nat) : Bool :=
  s.isInput slot || s.stagedInput n slot || s.tasks.any fun t => t.outs.contains slot

/-- The changes of an object that lie ahead, with their ticks: the deferred one, at the end `x` of the running fade, and the
contents `e` of its table from `m` on, where they differ from those (`tab`) that it has; new contents that come before a
deferred change takes effect replace it (R149). -/
def ahead {α : Type} [DecidableEq α] (defer : Option α) (tab e : α) (x m : Nat) : List (Nat × α) :=
  (match defer with
    | some d => if e ≠ tab && m < x then [] else [(x, d)]
    | none => [])
    ++ (if e ≠ tab then [(m, e)] else [])

/-- A route entry on its way to N: what is in force, the end of its crossfade, the slots claimed at N. -/
structure RouteWay where
  e : Route
  x : Nat
  claims : List Nat

/-- One change on the way (R147 to R149): a slot disabled then stays claimed until the end of the fade. -/
def State.routeGo (s : State) (n : Nat) (w : RouteWay) (c : Nat × Route) : RouteWay :=
  let at_ := max c.1 w.x
  let ends := at_ + (c.2.fade + s.T - 1) / s.T
  let moves := w.e.enable != c.2.enable || (c.2.enable && (w.e.src ≠ c.2.src || w.e.dlyEn != c.2.dlyEn
    || (c.2.dlyEn && (w.e.line ≠ c.2.line || w.e.delay ≠ c.2.delay))))
  { e := c.2, x := if moves then ends else w.x
    claims := w.claims ++ if w.e.enable && !c.2.enable && n < ends then [w.e.dst] else [] }

/-- The slots that route entry i claims at N (R148): its destination from the commit that enables it, until the end of the
fade that follows the commit that disables it. -/
def State.routeClaims (s : State) (t : Tables) (i : Nat) : List Nat :=
  let e := routeAt t.route i
  let r := s.rte i
  let xc := r.cross.elim 0 fun f => s.fadeEnd f.2.n0 f.2.len
  let x := max xc (r.tap.elim 0 fun f => s.fadeEnd f.2.1 f.2.2)
  let w : RouteWay := { e := r.e, x := x, claims := if !r.e.enable && t.n < xc then [r.e.dst] else [] }
  let w := (ahead r.defer r.tab e x (s.since t 4080)).foldl (s.routeGo t.n) w
  w.claims ++ if w.e.enable then [w.e.dst] else []

/-- The entry in force at N, before a commit at N changes it: a deferred change has taken effect where the running crossfade has
ended by then (R149). -/
def State.routeBefore (s : State) (n : Nat) (r : RouteSt) : Route :=
  let x := max (r.cross.elim 0 fun f => s.fadeEnd f.2.n0 f.2.len) (r.tap.elim 0 fun f => s.fadeEnd f.2.1 f.2.2)
  match r.defer with
  | some d => if x ≤ n then d else r.e
  | none => r.e

/-- The slot that bus i claims. -/
def busClaim (b : List Byte) (i : Nat) : Option Nat :=
  let e := busAt b i
  if e.enable then some e.out else none

/-- The slot that unit i claims. -/
def dynClaim (b : List Byte) (i : Nat) : Option Nat :=
  let e := dynAt b i
  if e.enable then some e.out else none

/-- A claim of the same slot that counts as earlier than entry i of table `k` (0 route, 1 bus, 2 dynamics): every entry of
an unnamed table, and every entry before it of the named ones. -/
def State.claimedBefore (s : State) (t : Tables) (k i slot : Nat) : Bool :=
  let all := fun j n => if j < k || !(t.named.contains (4080 + j)) then List.range n else if j = k then List.range i else []
  let skip := fun j x => j = k && x = i
  (all 0 4096).any (fun x => !skip 0 x && (s.routeClaims t x).contains slot)
    || (all 1 512).any (fun x => !skip 1 x && busClaim t.bus x = some slot)
    || (all 2 512).any (fun x => !skip 2 x && dynClaim t.dyn x = some slot)

/-- Some byte of a range is not 0. -/
def nonzero (b : List Byte) (o n : Nat) : Bool := (slice b o n).any (· ≠ 0)

/-- The reasons of R177 for route entry i. A delay above 192,000 (0x3) is an error of an enabled entry with dly_en = 1, where the
field counts (DEDUCED, log 14). -/
def State.routeBad (s : State) (t : Tables) (i : Nat) : Option Nat :=
  let b := t.route
  let e := routeAt b i
  let r := s.rte i
  let was := s.routeBefore t.n r
  let o := 16 * i
  if e.enable && !(s.slotOk false e.dst && s.slotOk true e.src) then some 1
  else if (s.routeClaims t i).any fun x => s.otherWriter t.n x || s.claimedBefore t 0 i x then some 2
  else if e.enable && e.dlyEn && 192000 < e.delay then some 3
  else if 4096 < e.fade || 64 ≤ leAt b (o + 10) 1 || 8 ≤ leAt b (o + 11) 1 || 2 ^ 29 ≤ leAt b (o + 12) 4
      || (e.enable && ((was.enable && e.dst ≠ was.dst) || (r.tab.enable && e.dst ≠ r.tab.dst))) then some 4
  else if e.enable && e.dlyEn && (s.fld F.RTE_DLY_COUNT_lines ≤ e.line || s.dlyLen < e.delay + s.T
      || (List.range i).any fun x => (routeAt b x).enable && (routeAt b x).dlyEn && (routeAt b x).line = e.line) then some 5
  else none

/-- The reasons of R177 for bus i. -/
def State.busBad (s : State) (t : Tables) (i : Nat) : Option Nat :=
  let b := t.bus
  let e := busAt b i
  let o := 16 * i
  if e.enable && !s.slotOk false e.out then some 1
  else if e.enable && (s.otherWriter t.n e.out || s.claimedBefore t 1 i e.out) then some 2
  else if 64 ≤ leAt b (o + 2) 1 || 2 ≤ leAt b (o + 3) 1 || 4096 < e.ramp || nonzero b (o + 6) 10 then some 4
  else none

/-- Crosspoints that the fixed blocks have capacity for (R166). -/
def State.xpCap (s : State) : Nat := 131072 / 2 ^ s.fld F.TCK_CFG_fs_sel

/-- Two crosspoints agree in src, bus and enable. -/
def Xp.samePlace (a b : Xp) : Bool := a.src = b.src && a.bus = b.bus && a.enable == b.enable

/-- A crosspoint on its way: what is in force, the end of its fade-out, the fade-outs as (first tick, tick after). -/
structure XpWay where
  e : Xp
  x : Nat
  fades : List (Nat × Nat)

/-- The bus table in force at tick k, with the commit that is checked (R155). -/
def State.busesAt (s : State) (t : Tables) (k : Nat) : List Byte := s.setAt (if t.n ≤ k then t.named else []) k 4081

/-- One change on the way (R155, R156): its ramp is that of the bus table at its tick. -/
def State.xpGo (s : State) (t : Tables) (w : XpWay) (c : Nat × Xp) : XpWay :=
  let at_ := max c.1 w.x
  let ends := at_ + ((busAt (s.busesAt t at_) (if c.2.enable then c.2.bus else w.e.bus)).ramp + s.T - 1) / s.T
  if w.e.samePlace c.2 || !w.e.enable then { w with e := c.2 }
  else { e := c.2, x := ends, fades := w.fades ++ [(at_, ends)] }

/-- Crosspoint g fades out at tick k: `mine` counts the change that the commit to be checked makes to it. -/
def State.xpFadesAt (s : State) (t : Tables) (mine : Bool) (k g : Nat) : Bool :=
  let r := Tbl.get (fun _ => ({} : XpSt)) s.mix.xp g
  let id := 4064 + g / 8192
  let named := t.named.contains id
  let x := (r.out.map fun o => s.fadeEnd o.2.2.n0 o.2.2.len).foldl max 0
  let e := if named && !mine then r.tab else xpAt (s.setAt t.named (max t.n k) id) (g % 8192)
  let m := if named then t.n else (s.psetDue id).getD s.tickNum
  let w := (ahead r.defer r.tab e x m).foldl (s.xpGo t) { e := r.e, x := x, fades := [(0, x)] }
  w.fades.any fun f => f.1 ≤ k && k < f.2

/-- The fading-out contributions exceed the capacity at tick k, of the changes of the commit those up to crosspoint g
counted (R166, R177). -/
def State.xpFadesOver (s : State) (t : Tables) (g k : Nat) : Bool :=
  s.xpCap < ((s.mix.xp.map (·.1)).filter fun j => s.xpFadesAt t (j ≤ g) k j).length

/-- The commit's change to crosspoint g brings the fading-out contributions above the capacity, at its tick or at a later
one at which another commit adds some. -/
def State.xpTooMany (s : State) (t : Tables) (g : Nat) : Bool :=
  s.xpCap < s.mix.xp.length && (t.n :: (s.sched.map (·.target)).filter (t.n < ·)).any fun k =>
    s.xpFadesOver t g k && (g = 0 || !s.xpFadesOver t (g - 1) k)

/-- The reasons of R177 for crosspoint i of a set: `g` its number in the whole table. -/
def State.xpBad (s : State) (t : Tables) (b : List Byte) (i g : Nat) : Option Nat :=
  let e := xpAt b i
  if e.enable && !s.slotOk false e.src then some 1
  else if (e.enable && s.xpCap ≤ g) || s.xpTooMany t g then some 3
  else if bitsN (leAt b (8 * i + 2) 2) 13 9 ≠ 0 then some 4
  else none

/-- The reasons of R177 for dynamics unit i. -/
def State.dynBad (s : State) (t : Tables) (i : Nat) : Option Nat :=
  let b := t.dyn
  let e := dynAt b i
  let o := 64 * i
  if e.enable && !(s.slotOk false e.inp && s.slotOk false e.out && s.slotOk true e.sc) then some 1
  else if e.enable && (s.otherWriter t.n e.out || s.claimedBefore t 2 i e.out) then some 2
  else if 64 ≤ leAt b (o + 6) 1 || 4 ≤ leAt b (o + 7) 1 || e.th < -1048576 || 0 < e.th || 262144 < e.knee
      || 65536 < e.slope || 262144 < e.makeup || 64 < e.look || nonzero b (o + 37) 27 then some 4
  else none

/-- The reasons of R177 for the meter list's entry i: slots, then units. -/
def State.meterBad (s : State) (b : List Byte) (i : Nat) : Option Nat :=
  let x := leAt b (4 + 2 * i) 2
  if i < leAt b 0 2 then (if s.slotOk false x then none else some 1) else (if x < 512 then none else some 1)

/-- A first failure: set, entry index, reason. -/
abbrev SetErr := Nat × Nat × Nat

/-- The first entry of a list that fails. -/
def firstBad (id : Nat) (is : List Nat) (f : Nat → Option Nat) : Option SetErr :=
  is.findSome? fun i => (f i).map fun r => (id, i, r)

/-- The first failure in one named block set (R177). Counts of the meter list that are out of range stand in no numbered entry: they
are reported with index 0 and reason 0x4 (DESIGN CHOICE, log 14). -/
def State.setBad (s : State) (t : Tables) (id : Nat) : Option SetErr :=
  if id < 4080 then
    let b := s.setAt t.named t.n id
    ((List.range 8192).findSome? fun i => (s.xpBad t b i ((id - 4064) * 8192 + i)).map fun r =>
      (id, (id - 4064) * 8192 + i, r))
  else if id = 4080 then firstBad id (List.range 4096) (s.routeBad t)
  else if id = 4081 then firstBad id (List.range 512) (s.busBad t)
  else if id = 4082 then firstBad id (List.range 512) (s.dynBad t)
  else
    let b := s.setAt t.named t.n id
    if 4096 < leAt b 0 2 || 512 < leAt b 2 2 then some (id, 0, 4)
    else firstBad id (List.range (leAt b 0 2 + leAt b 2 2)) (s.meterBad b)

/-- The first failure of a commit of sets at N (R177): the named block sets in ascending ID. -/
def State.psetBad (s : State) (named : List Nat) (n : Nat) : Option SetErr :=
  ((List.range 20).map (4064 + ·)).findSome? fun id => if named.contains id then s.setBad (s.tables named n) id else none

/-! ## What a commit changes (R147 to R149, R155 to R157, R162, R163) -/

/-- A route entry's change takes effect at the present tick: its fades start (R147). -/
def State.startRoute (s : State) (r : RouteSt) (n : Route) : RouteSt :=
  if !r.e.enable && !n.enable then
    { r with
      e := { n with dst := if r.fading then r.e.dst else n.dst }
      cnt := if n.dlyEn && (!r.e.dlyEn || r.e.line ≠ n.line) then 0 else r.cnt }
  else
    let ga := s.gainBefore r.ramp r.e.g
    let moved := r.e.enable != n.enable || r.e.src ≠ n.src
    let tapped := r.e.dlyEn != n.dlyEn || (n.dlyEn && (r.e.line ≠ n.line || r.e.delay ≠ n.delay))
    let old : Option Tap := if r.e.dlyEn then some ⟨r.e.line, r.e.delay, r.cnt⟩ else none
    s.endRteFades { r with
      e := if n.enable then n else { n with dst := r.e.dst }
      cross := if moved then some (r.e.source, ⟨ga, s.tickNum, n.fade⟩) else none
      ramp := if moved then none else if n.gain ≠ r.e.gain || n.range != r.e.range then some ⟨ga, s.tickNum, n.fade⟩ else r.ramp
      tap := if tapped then some (old, s.tickNum, n.fade) else none
      cnt := if n.dlyEn && (!r.e.dlyEn || r.e.line ≠ n.line) then 0 else r.cnt }

/-- A commit at the present tick gives a route entry its new contents (R147, R149). -/
def State.changeRoute (s : State) (r : RouteSt) (n : Route) : RouteSt :=
  if n = r.tab then r
  else
    let r := { s.endRteFades r with tab := n }
    if r.fading && (r.e.enable || n.enable) then { r with defer := some n }
    else { s.startRoute r n with defer := none }

/-- The ramp length of a bus in force. -/
def State.busRamp (s : State) (b : Nat) : Nat := (Tbl.get (fun _ => ({} : Bus)) s.mix.bus b).ramp

/-- A crosspoint's src, bus or enable change at the present tick (R155). -/
def State.startXp (s : State) (x : XpSt) (n : Xp) : XpSt :=
  if !x.e.enable && !n.enable then { x with e := n }
  else
    let len := s.busRamp (if n.enable then n.bus else x.e.bus)
    let old : List (Nat × Nat × Ramp) :=
      if x.e.enable then [(x.e.src, x.e.bus, ⟨s.gainBefore x.ramp x.e.g, s.tickNum, len⟩)] else []
    s.endXpFades { x with
      e := n
      ramp := if n.enable then some ⟨0, s.tickNum, len⟩ else none
      out := x.out ++ old }

/-- A crosspoint's gain or range change at the present tick (R143, R155, R156). -/
def State.regainXp (s : State) (x : XpSt) (n : Xp) : XpSt :=
  if x.e.gain = n.gain && x.e.range == n.range then x
  else
    s.endXpFades { x with
      ramp := if x.e.enable then some ⟨s.gainBefore x.ramp x.e.g, s.tickNum, s.busRamp x.e.bus⟩ else none
      e := { x.e with gain := n.gain, range := n.range } }

/-- A commit at the present tick gives a crosspoint its new contents (R155, R156). -/
def State.changeXp (s : State) (x : XpSt) (n : Xp) : XpSt :=
  if n = x.tab then x
  else
    let x := { s.endXpFades x with tab := n }
    if x.e.samePlace n then { s.regainXp x n with defer := none }
    else if x.out.isEmpty then { s.startXp x n with defer := none }
    else { s.regainXp x n with defer := some n }

/-- A commit at the present tick gives a unit its new parameters (R162, R163). -/
def State.changeDyn (s : State) (u : DynSt) (n : Dyn) : DynSt :=
  let u := s.endDynFades u
  let u := if n.enable && u.e.inp ≠ n.inp then { u with m := {} } else u
  if n.enable && !u.e.enable then { e := n }
  else if !n.enable || n.look = u.e.look then { u with e := n, defer := none, look := if n.enable then u.look else none }
  else if u.look.isSome then { u with e := { n with look := u.e.look }, defer := some n.look }
  else { u with e := n, look := some (u.e.look, s.tickNum), defer := none }

/-- The changes of one set, now active. -/
def State.enterSet (s : State) (id : Nat) : State :=
  let b := s.active? (s.blockSet id)
  if id < 4064 then s
  else if id < 4080 then
    (List.range 8192).foldl
      (fun s i =>
        let k := (id - 4064) * 8192 + i
        s.setMix fun m => { m with
          xp := Tbl.set (fun _ => {}) m.xp k (s.changeXp (Tbl.get (fun _ => {}) m.xp k) (xpAt b i)) }) s
  else if id = 4080 then (List.range 4096).foldl (fun s i => s.setRte i (s.changeRoute (s.rte i) (routeAt b i))) s
  else if id = 4081 then
    (List.range 512).foldl (fun s i => s.setMix fun m => { m with bus := Tbl.set (fun _ => {}) m.bus i (busAt b i) }) s
  else if id = 4082 then (List.range 512).foldl (fun s i => s.setDyn i (s.changeDyn (s.dynU i) (dynAt b i))) s
  else (s.meterClear).setMix fun m => { m with meterNew := true }

/-! ## Shadows (R173, R174) -/

/-- Copy a set's active contents into its shadow, and end its copy (R174). -/
def State.refresh (s : State) (id : Nat) : State :=
  match s.pset? id with
  | none => s
  | some p =>
    if p.copying then ((s.putBytes (p.shadow 0) (s.active? p)).setPset id { p with copying := false }).pendCounts else s

/-- The active-bank bit of a set flips, and its copy starts (R173, R174). -/
def State.flipSet (s : State) (id : Nat) : State :=
  let s := s.refresh id
  match s.pset? id with
  | none => s
  | some p => s.setPset id { p with bank := 1 - p.bank, copying := true }

/-- A commit takes effect at the present boundary: every bank flips; the bus table enters first (R155), then the others. -/
def State.applyPsets (s : State) (ids : List Nat) : State :=
  let s := ids.foldl State.flipSet s
  let s := if ids.contains 4081 then s.enterSet 4081 else s
  let s := ids.foldl (fun s id => if id = 4081 then s else s.enterSet id) s
  let s := s.putPair R.MIX_PSET_LAST_LO R.MIX_PSET_LAST_HI s.tickNum
  ((s.count R.MIX_PSET_COMMIT_CNT).mixCounts).pendCounts

/-- A scheduled action is due at the present boundary: its target is not above TICK_NUM (R19, R517). -/
def State.due (s : State) (t : Timed) : Bool := t.target ≤ s.tickNum

/-- The commit has the partner's agreement, or needs none. -/
def Timed.agreed (t : Timed) : Bool :=
  t.propId.isNone || match t.kind with
    | .psetCommit _ a => a
    | .streamCommit _ a => a
    | _ => true

/-- A commit of the bus table falls due and applies at the present boundary. -/
def State.busDue (s : State) : Bool :=
  s.sched.any fun t => s.due t && t.agreed && match t.kind with
    | .psetCommit ids _ => ids.contains 4081
    | _ => false

/-- The bus table of a commit that applies at the present boundary is in force for every crosspoint change there (R155). -/
def State.busFirst (s : State) : State :=
  if s.busDue then
    let b := s.shadowBytes (s.blockSet 4081)
    (List.range 512).foldl (fun s i => s.setMix fun m => { m with bus := Tbl.set (fun _ => {}) m.bus i (busAt b i) }) s
  else s

/-- Deferred changes whose fades have ended take effect (R149, R156, R162), the bus table that comes now in force (R155). -/
def State.applyDeferred (s : State) : State :=
  let s := (s.endFades).busFirst
  let fr := fun (r : RouteSt) => match r.defer with
    | some n => if r.fading then r else { s.startRoute r n with defer := none }
    | none => r
  let fx := fun (x : XpSt) => match x.defer with
    | some n =>
      if x.out.isEmpty then { s.startXp x { n with gain := x.e.gain, range := x.e.range } with defer := none } else x
    | none => x
  let fd := fun (u : DynSt) => match u.defer with
    | some n =>
      if u.look.isSome then u
      else { u with look := some (u.e.look, s.tickNum), e := { u.e with look := n }, defer := none }
    | none => u
  (s.setMix fun m => { m with
    route := mapTbl (fun _ => {}) fr m.route
    xp := mapTbl (fun _ => {}) fx m.xp
    dyn := mapTbl (fun _ => {}) fd m.dyn }).mixCounts

/-- DEFERRED_CHANGE_APPLY (R149). -/
def execDeferredChangeApply (s : State) : Host.Outcome State Fault Refusal := .next s.applyDeferred

/-- SHADOW_REFRESH (R174): the running copy of a set ends. -/
def execShadowRefresh (id : Fin 4096) (s : State) : Host.Outcome State Fault Refusal := .next (s.refresh id)

/-! ## The commands (R172, R173, R175) -/

/-- 64-byte units that defined host sets cover. -/
def State.psetUsed (s : State) : State :=
  s.setFld F.MIX_PSET_USED_units ((s.mix.sets.map fun e => e.2.size / 64).sum)

/-- PSET_DEFINE (R172). -/
def State.psetDefine (s : State) (c : HostCmd) : State × Nat × Nat :=
  let id := cmdArg c 0 2
  let off := cmdArg c 4 4 * 64
  let units := cmdArg c 8 2
  let size := units * 64
  if 4096 ≤ id then (s, stBadArg, 16)
  else if 4084 ≤ id then (s, stPsetUndefined, 0)
  else if s.psetPending id then (s, stPsetPending, 0)
  else if (s.pset? id).isSome then (s, stBadArg, 16)
  else if units = 0 || 1024 < units then (s, stBadArg, 24)
  else if 0x600000 < off + size || s.mix.sets.any (fun e => e.2.off < off + size && off < e.2.off + e.2.size) then
    (s, stBadArg, 20)
  else
    let p : PSet := { off := off, size := size }
    let z := List.replicate size (0 : Byte)
    let s := (s.putBytes (p.addr 0 0) z).putBytes (p.addr 1 0) z
    ((s.setPset id p).psetUsed, stOk, 0)

/-- PSET_DEFINE. -/
def execPsetDefine (c : HostCmd) (s : State) : Host.Outcome State Fault Refusal :=
  .next (s.untimed c 0x0020 fun s => s.psetDefine c)

/-- PSET_UNDEFINE (R172). -/
def State.psetUndefine (s : State) (c : HostCmd) : State × Nat × Nat :=
  let id := cmdArg c 0 2
  if 4096 ≤ id then (s, stBadArg, 16)
  else if s.ticking then (s, stBusy, 0)
  else if isBlockSet id then (s, stBadArg, 16)
  else if (s.pset? id).isNone then (s, stPsetUndefined, 0)
  else if s.psetPending id then (s, stPsetPending, 0)
  else (((s.setMix fun m => { m with sets := Tbl.drop id m.sets }).psetUsed).pendCounts, stOk, 0)

/-- PSET_UNDEFINE. -/
def execPsetUndefine (c : HostCmd) (s : State) : Host.Outcome State Fault Refusal :=
  .next (s.untimed c 0x0021 fun s => s.psetUndefine c)

/-- Put bytes into a set's shadow, after a copy that still runs (R173, R174). -/
def State.putShadow (s : State) (id off : Nat) (b : List Byte) : State :=
  let s := s.refresh id
  match s.pset? id with
  | none => s
  | some p => s.putBytes (p.shadow off) b

/-- PSET_LOAD (R173, R356). -/
def State.psetLoad (s : State) (c : HostCmd) : State × Nat × Nat :=
  let id := cmdArg c 0 2
  let off := cmdArg c 4 4
  let n := cmdArg c 8 4
  match s.pset? id with
  | none => (s, if 4096 ≤ id then stBadArg else stPsetUndefined, if 4096 ≤ id then 16 else 0)
  | some p =>
    if s.psetPending id then (s, stPsetPending, 0)
    else if n < 4 || 65536 < n || n % 4 ≠ 0 || p.size < off + n then (s, stBadArg, 24)
    else ((s.readHost (cmdArg c 16 8) n).putShadow id off (padTo n c.data), stOk, 0)

/-- PSET_LOAD. -/
def execPsetLoad (c : HostCmd) (s : State) : Host.Outcome State Fault Refusal :=
  .next (s.untimed c 0x0022 fun s => s.psetLoad c)

/-- PSET_WRITE (R173, R356). -/
def State.psetWrite (s : State) (c : HostCmd) : State × Nat × Nat :=
  let id := cmdArg c 0 2
  let n := cmdArg c 2 2
  let off := cmdArg c 4 4
  match s.pset? id with
  | none => (s, if 4096 ≤ id then stBadArg else stPsetUndefined, if 4096 ≤ id then 16 else 0)
  | some p =>
    if s.psetPending id then (s, stPsetPending, 0)
    else if n = 0 || 32 < n || p.size < off + n then (s, stBadArg, 18)
    else (s.putShadow id off (slice c.desc 24 n), stOk, 0)

/-- PSET_WRITE. -/
def execPsetWrite (c : HostCmd) (s : State) : Host.Outcome State Fault Refusal :=
  .next (s.untimed c 0x0023 fun s => s.psetWrite c)

/-- The u16 list that a commit's host read returned. -/
def commitList (c : HostCmd) : List Nat := (List.range (cmdArg c 0 2)).map fun i => leAt c.data (2 * i) 2

/-- A number stands twice in a list. -/
def twice : List Nat → Bool
  | [] => false
  | x :: xs => xs.contains x || twice xs

/-- Send a proposal for a commit to the partner (R178, R229). -/
def State.proposeCommit (s : State) (p : Proposal) : State :=
  let items := p.items.flatMap fun i => beBytes 2 i.1 ++ beBytes 4 i.2.toNat
  let s := s.sendCmd 2 (beBytes 4 p.id.toNat ++ beBytes 8 p.tick.toNat ++ beBytes 1 (bit p.streams)
    ++ beBytes 2 p.items.length ++ items)
  s.setMix fun m => { m with props := m.props ++ [{ received := false, p := p }] }

/-- The CRC-32 of a set's shadow. -/
def State.shadowCrc (s : State) (id : Nat) : Word :=
  match s.pset? id with
  | none => 0
  | some p => crc32 (s.shadowBytes p)

/-- Accept a commit: alone, or proposed to the partner (R178). The identifier is a free value. -/
def State.acceptCommit (s : State) (c : HostCmd) (n : Nat) (late : Bool) (k : TimedKind) (items : List (Nat × Word))
    (streams : Bool) : State :=
  if s.paired then
    let id := Config.freeWord s.fresh
    let s := s.tick1
    let s := s.schedule c n late k (some id.toNat)
    (s.proposeCommit { id := id, tick := BitVec.ofNat 64 n, streams := streams, items := items }).pendCounts
  else (s.schedule c n late k none).pendCounts

/-- The detail of PSET_INVALID (R358). -/
def setErrDetail (e : SetErr) : Nat := e.1 + e.2.2 * 2 ^ 12 + min e.2.1 0xFFFF * 2 ^ 16

/-- Record a validation failure (R177). -/
def State.setErr (s : State) (e : SetErr) : State :=
  ((s.setFld F.MIX_PSET_ERR_set_id e.1).setFld F.MIX_PSET_ERR_reason e.2.2).setFld F.MIX_PSET_ERR_IDX_index e.2.1

/-- PSET_COMMIT at target n (R173, R175, R177). -/
def State.psetCommit (s : State) (c : HostCmd) (n : Nat) (late : Bool) : State × Option (Nat × Nat) :=
  let k := cmdArg c 0 2
  let ids := commitList c
  if k = 0 || 4096 < k then (s, some (stBadArg, 16))
  else
  let s := s.readHost (cmdArg c 8 8) (2 * k)
  if twice ids then (s, some (stBadArg, 24))
  else if ids.any fun id => (s.pset? id).isNone then (s, some (stPsetUndefined, 0))
  else if ids.any s.psetPending then (s, some (stPsetPending, 0))
  else if 64 ≤ s.psetCommits then (s, some (stPsetFull, 0))
  else
    match s.psetBad ids n with
    | some e => (s.setErr e, some (stPsetInvalid, setErrDetail e))
    | none => (s.acceptCommit c n late (.psetCommit ids false) (ids.map fun id => (id, s.shadowCrc id)) false, none)

/-- What a refused commit counts. -/
def State.psetRefused (s : State) : State := (s.count R.MIX_PSET_REFUSE_CNT).setFlag F.MIX_PSET_STATUS_err true

/-- PSET_COMMIT. -/
def execPsetCommit (c : HostCmd) (s : State) : Host.Outcome State Fault Refusal :=
  .next (s.timedOr c 0x0024 true State.psetRefused fun s n late => s.psetCommit c n late)

end Sys2Proof.Machine
end

