-- ==== Sys2Proof/Machine/Streams.lean ====
section
/-!
DEFINITION. Media streams (R182 to R212): contexts, staging, the validation and the effect of a stream commit, what the
module sends, what it accepts, and missing and late data.
-/

namespace Sys2Proof.Machine

/-- Update the stream engine. -/
def State.setStr (s : State) (f : Str → Str) : State := { s with str := f s.str }

/-! ## Contexts at a tick (R186, R189) -/

/-- A commit entry names a transmit context: bit 15 (R356). -/
def isTx (x : Nat) : Bool := 0x8000 ≤ x

/-- The staged context of a commit entry. -/
def State.stagedCtx (s : State) (x : Nat) : List Byte :=
  if isTx x then Tbl.get (fun _ => []) s.str.txStage (x - 0x8000) else Tbl.get (fun _ => []) s.str.rxStage x

/-- The active context of a commit entry. -/
def State.activeCtx (s : State) (x : Nat) : List Byte := if isTx x then s.tx (x - 0x8000) else (s.rx x).ctx

/-- The context as it will stand at N, with a commit at N naming `named`. -/
def State.ctxAt (s : State) (named : List Nat) (n x : Nat) : List Byte :=
  let pend := s.sched.any fun t =>
    t.target ≤ n && match t.kind with
      | .streamCommit items _ => items.contains x
      | _ => false
  if named.contains x || pend then s.stagedCtx x else s.activeCtx x

/-- A context is pending (R175, R186). -/
def State.ctxPending (s : State) (x : Nat) : Bool :=
  s.sched.any fun t => match t.kind with
    | .streamCommit items _ => items.contains x
    | _ => false

/-- Every commit entry of a direction. -/
def allCtx (tx : Bool) : List Nat := (List.range 512).map fun i => if tx then 0x8000 + i else i

/-! ## Sizes (R190) -/

/-- P: the payload's bytes. -/
def State.payloadLen (s : State) (c : List Byte) : Nat := ctxCh c * s.T * ctxBytes c

/-- The frame from destination address to FCS, before padding. -/
def State.frameLen (s : State) (c : List Byte) : Nat :=
  (if ctxRtp c then 58 else 42) + (if ctxVlan c then 4 else 0) + s.payloadLen c

/-- The wire bytes of a packet: preamble and gap on top of the padded frame. -/
def State.wireLen (s : State) (c : List Byte) : Nat := 20 + max 64 (s.frameLen c)

/-- The data rate of a media port in units of 1 Gb/s: port C runs at 10. -/
def State.portRate (s : State) (p : Nat) : Nat := if p = 2 || s.flag (F.MAC_CTRL_speed p) then 10 else 25

/-- The wire bytes per tick of a port, over contexts. -/
def State.portBytes (s : State) (p : Nat) (cs : List (List Byte)) : Nat :=
  ((cs.filter fun c => ctxOn c && ctxPort c p).map s.wireLen).sum

/-- Wire bytes within 90 % of rate / 8 x T / fs. -/
def State.portFits (s : State) (p b : Nat) : Bool := b * 80 * s.fs ≤ 9 * (s.portRate p * 1000000000) * s.T

/-- The enabled channels of contexts. -/
def chSum (cs : List (List Byte)) : Nat := ((cs.filter ctxOn).map ctxCh).sum

/-! ## Validation (R189) -/

/-- Some byte from `o`, `n` long, of a context is not 0. -/
def ctxNonzero (c : List Byte) (o n : Nat) : Bool := nonzero c o n

/-- Reason 0x4 of a context: field ranges, reserved fields, formats, fields of the other protocol (R187). -/
def ctxBadField (tx : Bool) (c : List Byte) : Bool :=
  let f := ctxFlags c
  let ch := ctxCh c
  let adj := signExt 32 (leAt c 40 4)
  1024 ≤ f || (if ctxRtp c then ctxFmt c = 0 || ctxFmt c = 3 else 2 ≤ ctxFmt c) || ch = 0 || 64 < ch
    || (tx && (f.testBit 8 || f.testBit 9 || ctxGroup c ≠ 0))
    || ctxNonzero c 46 18 || ctxNonzero c 39 1
    || ((List.range 64).any fun i => ch ≤ i && ctxMap c i ≠ 0xFFFF)
    || (if ctxRtp c then
          ctxNonzero c 12 8 || leAt c 36 1 < 96 || 127 < leAt c 36 1 || 64 ≤ leAt c 37 1 || leAt c 38 1 = 0
            || adj < -65536 || 65536 < adj
        else ctxNonzero c 20 24)

/-- Two contexts have the same identity (R189, reason 0x7). -/
def sameIdent (tx : Bool) (a b : List Byte) : Bool :=
  ctxRtp a == ctxRtp b &&
    if ctxRtp a then
      slice a 24 4 = slice b 24 4 && slice a 30 2 = slice b 30 2 && (!tx || slice a 32 4 = slice b 32 4)
    else slice a 12 8 = slice b 12 8

/-- A slot is written by a task, a TDM input or a fixed block, at N (R189, reason 0x2): a sense input is not in its list. -/
def State.slotTaken (s : State) (n slot : Nat) : Bool :=
  s.tasks.any (fun k => k.outs.contains slot)
    || (List.range 16).any (fun p => (s.tdmInSlots p).contains slot)
    || s.claimedBefore (s.tables [] n) 3 0 slot

/-- A first failure: commit entry, reason, channel. -/
abbrev StrErr := Nat × Nat × Nat

/-- The contexts that count as earlier than a named one: the ones not named, and the named ones before it. -/
def earlierCtx (named before : List Nat) (tx : Bool) : List Nat :=
  (allCtx tx).filter fun x => !named.contains x || before.contains x

/-- The first failing map entry of a context, by a test of the slot and the channel. -/
def mapBad (c : List Byte) (f : Nat → Nat → Bool) : Option Nat :=
  (List.range (min 64 (ctxCh c))).find? fun i => ctxMap c i ≠ 0xFFFF && f i (ctxMap c i)

/-- The per-context checks of R189, in ascending code. Of a context that is not enabled, its fields alone: R177, read for
contexts as R186 says, checks reason 0x4 for every entry and the others for enabled ones. -/
def State.ctxBad (s : State) (named before : List Nat) (n x : Nat) : Option StrErr :=
  let c := s.stagedCtx x
  let tx := isTx x
  let others := (earlierCtx named before tx).map fun y => s.ctxAt named n y
  let ons := others.filter ctxOn
  if !ctxOn c then (if ctxBadField tx c then some (x, 4, 0) else none)
  else
    match mapBad c (fun _ m => s.nslots ≤ m) with
    | some ch => some (x, 1, ch)
    | none =>
      match (if tx then none else mapBad c fun i m =>
        s.slotTaken n m || (List.range i).any (fun j => ctxMap c j = m) || ons.any fun o => (ctxSlots o).contains m) with
      | some ch => some (x, 2, ch)
      | none =>
        if ctxBadField tx c then some (x, 4, 0)
        else if tx && (List.range 3).any (fun p => ctxPort c p && s.fld (F.MAC_CFG_max_len p) < max 64 (s.frameLen c)) then
          some (x, 6, 0)
        else if ons.any (sameIdent tx c) then some (x, 7, 0)
        else none

/-- The per-context checks of a commit's list. -/
def State.ctxsBad (s : State) (named : List Nat) (n : Nat) : List Nat → List Nat → Option StrErr
  | _, [] => none
  | before, x :: xs =>
    match s.ctxBad named before n x with
    | some e => some e
    | none => s.ctxsBad named n (before ++ [x]) xs

/-- A failed total records the first named context that it concerns (R189). -/
def totalErr (named : List Nat) (reason : Nat) (p : Nat → Bool) : Option StrErr :=
  some (((named.find? p).getD (named.headD 0)), reason, 0)

/-- The totals of R189: channels, bandwidth, staging. -/
def State.totalsBad (s : State) (named : List Nat) (n : Nat) : Option StrErr :=
  let rx := (allCtx false).map fun x => s.ctxAt named n x
  let tx := (allCtx true).map fun x => s.ctxAt named n x
  if s.nslots < chSum rx then totalErr named 3 fun x => !isTx x
  else if s.nslots < chSum tx then totalErr named 3 isTx
  else
    match (List.range 3).find? fun p => !s.portFits p (s.portBytes p tx) with
    | some p => totalErr named 5 fun x => isTx x && ctxOn (s.stagedCtx x) && ctxPort (s.stagedCtx x) p
    | none =>
      if 0x300000 < (s.L + 2) * s.T * 4 * chSum rx then totalErr named 5 fun x => !isTx x && ctxOn (s.stagedCtx x) else none

/-- The first failure of a stream commit at N (R189). -/
def State.streamBad (s : State) (named : List Nat) (n : Nat) : Option StrErr :=
  match s.ctxsBad named n [] named with
  | some e => some e
  | none => s.totalsBad named n

/-- The fields of STR_ERR for a failure. -/
def strErrWord (e : StrErr) : Nat := e.1 % 512 + bit (isTx e.1) * 2 ^ 9 + e.2.1 * 2 ^ 12 + e.2.2 * 2 ^ 16

/-! ## Staging and committing -/

/-- STREAM_STAGE (R186). -/
def State.streamStage (s : State) (c : HostCmd) : State × Nat × Nat :=
  let dir := cmdArg c 0 1
  let i := cmdArg c 2 2
  let x := if dir = 1 then 0x8000 + i else i
  if 1 < dir then (s, stBadArg, 16)
  else if 511 < i then (s, stBadArg, 18)
  else if s.ctxPending x then (s, stPsetPending, 0)
  else
    let b := padTo 192 c.data
    let s := s.emit (.hostRead (cmdArg c 8 8) 192)
    let s := if dir = 1 then s.setStr fun t => { t with txStage := Tbl.set (fun _ => []) t.txStage i b }
      else s.setStr fun t => { t with rxStage := Tbl.set (fun _ => []) t.rxStage i b }
    (s, stOk, 0)

/-- STREAM_STAGE. -/
def execStreamStage (c : HostCmd) (s : State) : Host.Outcome State Fault Refusal :=
  .next (s.untimed c 0x0030 fun s => s.streamStage c)

/-- STREAM_COMMIT at target n (R186, R189). One that names a context which was never staged ends with PSET_UNDEFINED, the status of
a set that is not defined (DESIGN CHOICE, log 55). -/
def State.streamCommit (s : State) (c : HostCmd) (n : Nat) (late : Bool) : State × Option (Nat × Nat) :=
  let k := cmdArg c 0 2
  let xs := commitList c
  if k = 0 || 64 < k then (s, some (stBadArg, 16))
  else
  let s := s.readHost (cmdArg c 8 8) (2 * k)
  if xs.any (fun x => x / 512 % 64 ≠ 0) || twice xs then (s, some (stBadArg, 24))
  else if xs.any fun x => (s.stagedCtx x).isEmpty then (s, some (stPsetUndefined, 0))
  else if xs.any s.ctxPending then (s, some (stPsetPending, 0))
  else if 64 ≤ s.streamCommits then (s, some (stPsetFull, 0))
  else
    match s.streamBad xs n with
    | some e => (s.put R.STR_ERR (word (strErrWord e)), some (stStreamInvalid, strErrWord e))
    | none => (s.acceptCommit c n late (.streamCommit xs false) (xs.map fun x => (x, crc32 (s.stagedCtx x))) true, none)

/-- What a refused stream commit sets. -/
def State.streamRefused (s : State) : State := s.setFlag F.STR_STATUS_err true

/-- STREAM_COMMIT. -/
def execStreamCommit (c : HostCmd) (s : State) : Host.Outcome State Fault Refusal :=
  .next (s.timedOr c 0x0031 true State.streamRefused fun s n late => s.streamCommit c n late)

/-- Identity, format and channels of a receive context (R191). -/
def sameStream (a b : List Byte) : Bool :=
  sameIdent false a b && slice a 20 4 = slice b 20 4 && slice a 32 4 = slice b 32 4 && ctxFmt a = ctxFmt b && ctxCh a = ctxCh b

/-- The state of a receive stream (R208): 0 DISABLED, 1 WAITING, 2 RUNNING. -/
def State.rxState (s : State) (i : Nat) : Nat := s.fld (F.STR_RX_STATUS_state i)

/-- A receive context becomes active (R191, R208). -/
def State.enterRx (s : State) (i : Nat) : State :=
  let c := s.stagedCtx i
  let r := s.rx i
  if !ctxOn c then (s.setRx i { ctx := c }).setFld (F.STR_RX_STATUS_state i) 0
  else if ctxOn r.ctx && sameStream r.ctx c then s.setRx i { r with ctx := c }
  else (s.setRx i { ctx := c }).setFld (F.STR_RX_STATUS_state i) 1

/-- A transmit context becomes active. -/
def State.enterTx (s : State) (i : Nat) : State :=
  let c := s.stagedCtx (0x8000 + i)
  let s := s.setStr fun t => { t with tx := Tbl.set (fun _ => []) t.tx i c }
  let s := s.setFlag (F.STR_TX_STATUS_enabled i) (ctxOn c)
  s.setFld (F.STR_TX_STATUS_ports i) (if ctxOn c then ctxFlags c / 32 % 8 else 0)

/-- What the active contexts sum to: STR_ACTIVE, STR_CH_USED, STR_BW. -/
def State.strCounts (s : State) : State :=
  let rx := s.str.rx.map fun e => e.2.ctx
  let tx := s.str.tx.map (·.2)
  let s := (s.setFld F.STR_ACTIVE_rx (rx.filter ctxOn).length).setFld F.STR_ACTIVE_tx (tx.filter ctxOn).length
  let s := (s.setFld F.STR_CH_USED_rx (chSum rx)).setFld F.STR_CH_USED_tx (chSum tx)
  (List.range 3).foldl (fun s p => s.setFld (F.STR_BW_bytes p) (s.portBytes p tx)) s

/-- The groups that firmware reports on a port (R185): of the enabled RTP receive contexts that accept from it. An address
outside 224.0.0.0/4 is no group (PRESUMED, RFC 3376, log entry 58). -/
def State.igmpGroups (s : State) (p : Nat) : List Nat :=
  let cs := (s.str.rx.map fun e => e.2.ctx).filter fun c => ctxOn c && ctxRtp c && ctxPort c p
  ((cs.map fun c => beAt c 24 4).filter fun g => g / 2 ^ 28 = 14).eraseDups

/-- Firmware reports groups on a port, where there are any (R185). -/
def State.igmpReport (s : State) (p : Nat) (gs : List Nat) : State := if gs.isEmpty || s.fwStopped then s else s.emit (.igmp p gs)

/-- The membership reports of every port. -/
def State.igmpReports (s : State) : State := (List.range 3).foldl (fun s p => s.igmpReport p (s.igmpGroups p)) s

/-- A stream commit takes effect at the present boundary (R191); with new receive contexts firmware reports the groups (R185). -/
def State.applyStreams (s : State) (xs : List Nat) : State :=
  let s := xs.foldl (fun s x => if isTx x then s.enterTx (x - 0x8000) else s.enterRx x) s
  let s := if xs.any fun x => !isTx x then s.igmpReports else s
  (s.strCounts).pendCounts

/-! ## Sending (R192 to R199, R211, R212) -/

/-- A sample at the width of a format, rounded half up and saturated (R184). -/
def wireSample (fmt : Nat) (w : Word) : List Byte :=
  if fmt = 0 then beBytes 4 w.toNat
  else
    let b := if fmt = 1 then 24 else 16
    let v := (w.toInt + 2 ^ (31 - b)) / 2 ^ (32 - b)
    let hi : Int := 2 ^ (b - 1) - 1
    let v := if hi < v then hi else v
    beBytes (b / 8) (v % 2 ^ b).toNat

/-- The block a transmit channel sends: what its slot held at the commit of the tick (R188, R197). -/
def State.txBlock (s : State) (slot : Nat) : List Word :=
  if slot = 0xFFFF then s.zeros
  else if s.fab.inpPrev.any fun e => e.1 = slot then s.blk s.fab.inpPrev slot
  else s.blk s.fab.com slot

/-- The payload: frame-interleaved samples (R184). -/
def State.txPayload (s : State) (c : List Byte) : List Byte :=
  let bs := (List.range (ctxCh c)).map fun i => s.txBlock (ctxMap c i)
  (List.range s.T).flatMap fun k => bs.flatMap fun b => wireSample (ctxFmt c) (b.getD k 0)

/-- Sequence number of the packet of tick n (R195). -/
def seqOf (c : List Byte) (n : Nat) : Nat := (n + leAt c 44 2) % (if ctxRtp c then 65536 else 256)

/-- The presentation sample of the packet of tick n (R196). -/
def State.presSample (s : State) (n : Nat) : Nat := (n + 1 + s.L) * s.T

/-- The AAF header (R193). -/
def State.aafHeader (s : State) (c : List Byte) (n : Nat) (mr : Bool) : List Byte :=
  let ts := s.presSample n * 1000000000 / s.fs
  leBytes 1 2 ++ leBytes 1 (0x81 + 8 * bit mr) ++ leBytes 1 (seqOf c n)
    ++ leBytes 1 (bit (!s.flag F.TCK_STATUS_grid_valid)) ++ slice c 12 8 ++ beBytes 4 ts
    ++ leBytes 1 (2 + ctxFmt c)
    ++ beBytes 2 ((5 + 2 * s.fld F.TCK_CFG_fs_sel) * 4096 + ctxCh c)
    ++ leBytes 1 (8 * ctxBytes c) ++ beBytes 2 (s.payloadLen c) ++ [0, 0]

/-- The internet checksum's sum over 16-bit words. -/
def inetSum : List Byte → Nat
  | [] => 0
  | [a] => a.toNat * 256
  | a :: b :: r => a.toNat * 256 + b.toNat + inetSum r

/-- Fold a one's-complement sum to 16 bits. -/
def foldSum (n : Nat) : Nat :=
  let a := n % 65536 + n / 65536
  let b := a % 65536 + a / 65536
  b % 65536 + b / 65536

/-- The internet checksum. -/
def inetCheck (b : List Byte) : Nat := 0xFFFF - foldSum (inetSum b)

/-- The IPv4 header (R194). -/
def State.ipHeader (s : State) (c : List Byte) : List Byte :=
  let h := fun (ck : Nat) =>
    leBytes 1 0x45 ++ leBytes 1 (leAt c 37 1 * 4) ++ beBytes 2 (40 + s.payloadLen c) ++ [0, 0] ++ [0x40, 0]
      ++ leBytes 1 (leAt c 38 1) ++ leBytes 1 17 ++ beBytes 2 ck ++ slice c 20 4 ++ slice c 24 4
  h (inetCheck (h 0))

/-- The RTP packet's headers after IPv4 (R194, R196). -/
def State.rtpHeader (s : State) (c : List Byte) (n : Nat) : List Byte :=
  let ts := ((s.presSample n : Int) + signExt 32 (leAt c 40 4)) % 2 ^ 32
  beBytes 2 (leAt c 28 2) ++ beBytes 2 (leAt c 30 2) ++ beBytes 2 (20 + s.payloadLen c) ++ [0, 0]
    ++ leBytes 1 0x80 ++ leBytes 1 (leAt c 36 1) ++ beBytes 2 (seqOf c n) ++ beBytes 4 ts.toNat ++ beBytes 4 (leAt c 32 4)

/-- The MAC address of a port, in network order. -/
def State.macAddr (s : State) (p : Nat) : List Byte :=
  beBytes 2 (s.reg (R.MAC_ADDR_HI p)).toNat ++ beBytes 4 (s.reg (R.MAC_ADDR_LO p)).toNat

/-- A media frame of tick n on a port as the MAC sends it, padded and with its FCS (R190, R192, R327). -/
def State.mediaFrame (s : State) (c : List Byte) (p n : Nat) (mr : Bool) : List Byte :=
  withFcs (slice c 6 6 ++ s.macAddr p ++ (if ctxVlan c then [0x81, 0x00] ++ beBytes 2 (leAt c 4 2) else [])
    ++ (if ctxRtp c then [0x08, 0x00] ++ s.ipHeader c ++ s.rtpHeader c n else [0x22, 0xF0] ++ s.aafHeader c n mr)
    ++ s.txPayload c)

/-- Packets queued on a port. -/
def State.txQueue (s : State) (p : Nat) : List TxPkt := Tbl.get (fun _ => []) s.str.queue p

/-- Store a port's queue. -/
def State.setTxQueue (s : State) (p : Nat) (q : List TxPkt) : State :=
  s.setStr fun t => { t with queue := Tbl.set (fun _ => []) t.queue p q }

/-- The port's transmitter sends: enabled and not paused (R330). -/
def State.portSends (s : State) (p : Nat) : Bool := s.flag (F.MAC_CTRL_tx_en p) && !s.flag (F.MAC_STATUS_paused p)

/-- A queued packet starts on its port. -/
def State.startPkt (s : State) (p : Nat) (k : TxPkt) : State :=
  ((s.emit (.frame p k.bytes)).count (R.STR_TX_SENT_CNT k.stream)).count (R.MAC_TX_FRM_CNT p)

/-- A packet that has not started by b_(n+2) is dropped on its port (R198). -/
def State.lateDrop (s : State) (p : Nat) : State :=
  let q := s.txQueue p
  let late := q.filter fun k => k.tick + 2 ≤ s.tickNum
  let s := s.setTxQueue p (q.filter fun k => !(k.tick + 2 ≤ s.tickNum))
  late.foldl
    (fun s k => ((s.count R.STR_TX_LATE_CNT).count (R.STR_TX_LATE_CNT_S k.stream)).setFlag F.STR_STATUS_tx_late true) s

/-- The packets queued on a port start as its transmitter allows, but those that are late (R198); a port whose link is down
discards them (R332). -/
def State.drainPort (s : State) (p : Nat) : State :=
  let s := s.lateDrop p
  let q := s.txQueue p
  if !s.flag (F.MAC_STATUS_link p) then (s.countBy (R.MAC_TX_LINKDOWN_CNT p) q.length).setTxQueue p []
  else if s.portSends p then q.foldl (fun s k => s.startPkt p k) (s.setTxQueue p [])
  else s

/-- The mr bit of a stream's next packet (R193): it toggles once after a step of the grid. -/
def State.nextMr (s : State) (i : Nat) : Bool :=
  let m := Tbl.get (fun _ => (false, 0)) s.str.mr i
  if m.2 = s.str.steps then m.1 else !m.1

/-- Queue the packet of stream i for tick n on every port it uses (R198, R211). -/
def State.queueTx (s : State) (i n : Nat) : State :=
  let c := Tbl.get (fun _ => []) s.str.txServe i
  let mr := s.nextMr i
  let s := s.setStr fun t => { t with mr := Tbl.set (fun _ => (false, 0)) t.mr i (mr, t.steps) }
  let s := s.setFld (F.STR_TX_STATUS_seq i) (seqOf c n)
  (List.range 3).foldl
    (fun s p =>
      if ctxPort c p then s.setTxQueue p (s.txQueue p ++ [{ stream := i, tick := n, bytes := s.mediaFrame c p n mr }])
      else s) s

/-- The transmit streams enabled in the tick committed last, in ascending index (R191). -/
def State.txOn (s : State) : List Nat := (s.str.txServe.filter fun e => ctxOn e.2).map (·.1)

/-- The packets of the committed tick are withheld (R199, R212). -/
def State.withhold (s : State) : Bool :=
  s.twn.quiet || (!s.flag F.TCK_STATUS_grid_valid && !s.flag F.STR_CTRL_tx_free)

/-- Launch the packets of the tick committed last (R198, R199, R212). -/
def State.launch (s : State) : State :=
  match s.fab.comTick with
  | none => s
  | some n =>
    if s.str.launched || !s.ticking || !s.mayIssue 15 then s
    else
      let s := s.setStr fun t => { t with launched := true }
      if s.withhold then s.txOn.foldl (fun s i => s.count (R.STR_TX_SUPPR_CNT i)) s
      else (List.range 3).foldl State.drainPort (s.txOn.foldl (fun s i => s.queueTx i n) s)

/-- TRANSMIT_LAUNCH (R198). -/
def execTransmitLaunch (s : State) : Host.Outcome State Fault Refusal := .next s.launch

/-- TRANSMIT_LATE_DROP (R198). -/
def execTransmitLateDrop (p : Fin 3) (s : State) : Host.Outcome State Fault Refusal := .next (s.lateDrop p)

/-! ## Receiving (R200 to R208) -/

/-- A received frame's parts: the offset of its EtherType's data, the EtherType. -/
def frameType (f : List Byte) : Nat × Nat := if beAt f 12 2 = 0x8100 then (18, beAt f 16 2) else (14, beAt f 12 2)

/-- The frame matches an RTP context's identity (R201). -/
def rtpMatch (c f : List Byte) (o : Nat) : Bool :=
  let u := o + beAt f o 1 % 16 * 4
  slice f (o + 16) 4 = slice c 24 4 && beAt f (u + 2) 2 = leAt c 30 2
    && (leAt c 20 4 = 0 || slice f (o + 12) 4 = slice c 20 4)
    && (leAt c 32 4 = 0 || beAt f (u + 16) 4 = leAt c 32 4)

/-- A frame from a source (0 to 2 ports A to C, 3 the partner) belongs to a context (R201). -/
def ctxTakes (c f : List Byte) (src : Nat) : Bool :=
  let t := frameType f
  ctxOn c && (src = 3 || ctxPort c src) &&
    if ctxRtp c then t.2 = 0x0800 && rtpMatch c f t.1
    else t.2 = 0x22F0 && slice f (t.1 + 4) 8 = slice c 12 8

/-- The receive context a frame belongs to. -/
def State.matchRx (s : State) (f : List Byte) (src : Nat) : Option Nat :=
  (s.str.rx.find? fun e => ctxTakes e.2.ctx f src).map (·.1)

/-- The header checks of R193: the reason of a bad frame. Of several the first is recorded, 0x1 before 0x2: the rule states no order
(DESIGN CHOICE, log 25). -/
def State.aafBad (s : State) (c f : List Byte) (o : Nat) : Option Nat :=
  let v := beAt f (o + 1) 1
  if beAt f o 1 ≠ 2 || v / 16 ≠ 8 || v % 2 ≠ 1 || beAt f (o + 16) 1 ≠ 2 + ctxFmt c
      || beAt f (o + 17) 2 / 4096 ≠ 5 + 2 * s.fld F.TCK_CFG_fs_sel || beAt f (o + 17) 2 % 1024 ≠ ctxCh c
      || beAt f (o + 19) 1 ≠ 8 * ctxBytes c then some 1
  else if beAt f (o + 20) 2 ≠ s.payloadLen c || f.length < o + 24 + s.payloadLen c then some 2
  else none

/-- The pseudo-header sum of UDP over IPv4. -/
def udpSum (f : List Byte) (o u n : Nat) : Nat := inetSum (slice f (o + 12) 8) + 17 + n + inetSum (slice f u n)

/-- The header checks of R194: the reason of a bad frame. A frame longer than its total length states is padded to the least
frame, or it disagrees. Of several the first in the frame's own order is recorded: version, header length and protocol, IP checksum and
fragments, lengths, UDP checksum, RTP fields; the rule states no order (DESIGN CHOICE, log 25). -/
def State.rtpBad (s : State) (c f : List Byte) (o : Nat) : Option Nat :=
  let u := o + 20
  let r := u + 8
  let tot := beAt f (o + 2) 2
  let ul := beAt f (u + 4) 2
  if beAt f o 1 ≠ 0x45 || beAt f (o + 9) 1 ≠ 17 then some 1
  else if foldSum (inetSum (slice f o 20)) ≠ 0xFFFF || beAt f (o + 6) 2 % 0x4000 ≠ 0 then some 6
  else if f.length < o + tot || o + max tot 46 < f.length || tot ≠ 20 + ul || ul ≠ 20 + s.payloadLen c then some 2
  else if beAt f (u + 6) 2 ≠ 0 && foldSum (udpSum f o u ul) ≠ 0xFFFF then some 6
  else if beAt f r 1 ≠ 0x80 || beAt f (r + 1) 1 % 128 ≠ leAt c 36 1 then some 1
  else none

/-- R205: the window after a sequence number, and 0 accept, 1 duplicate, 2 stale. -/
def dupCheck (w : Option (Nat × Nat)) (seq bits : Nat) : Option (Nat × Nat) × Nat :=
  match w with
  | none => (some (seq, 1), 0)
  | some (h, seen) =>
    let m := 2 ^ bits
    let d := (seq + m - h % m) % m
    if d = 0 || m / 2 ≤ d then
      let back := (m - d) % m
      if 32 ≤ back then (w, 2)
      else if seen.testBit back then (w, 1)
      else (some (h, seen ||| 2 ^ back), 0)
    else (some (seq, if 32 ≤ d then 1 else (seen * 2 ^ d ||| 1) % 2 ^ 32), 0)

/-- The value congruent to a 32-bit stamp nearest to num / den, ties to the earlier (R202). -/
def extendStamp (ts num den : Nat) : Int :=
  let base := num / den
  let d := (ts + 2 ^ 32 - base % 2 ^ 32) % 2 ^ 32
  let hi : Int := (base + d : Nat)
  let lo : Int := hi - 2 ^ 32
  if (num : Int) - lo * den ≤ hi * den - num then lo else hi

/-- The presentation sample of a frame, or the reason of a bad frame (R202): `stamp` is its receive time in ns. -/
def State.presentation (s : State) (c f : List Byte) (o stamp : Nat) : Int ⊕ Nat :=
  if ctxRtp c then
    .inl (extendStamp (beAt f (o + 32) 4) (stamp * s.fs) 1000000000 - signExt 32 (leAt c 40 4))
  else
    let t := extendStamp (beAt f (o + 12) 4) stamp 1
    let x := (2 * t * s.fs + 1000000000) / 2000000000
    let off := t * s.fs - x * 1000000000
    if 1000000000 < 4 * off.natAbs then .inr 4 else .inl x

/-- A received sample as a word (R184). -/
def readSample (fmt : Nat) (b : List Byte) : Word := word (beNat b * 2 ^ (8 * fmt))

/-- The rows of a payload: one word a channel, sample by sample. -/
def State.payloadRows (s : State) (c pl : List Byte) : List (List Word) :=
  let b := ctxBytes c
  (List.range s.T).map fun k =>
    (List.range (ctxCh c)).map fun i => readSample (ctxFmt c) (slice pl ((k * ctxCh c + i) * b) b)

/-- A bad frame is counted (R200). -/
def State.badFrame (s : State) (i reason : Nat) : State :=
  (s.setFld (F.STR_RX_STATUS_last_bad i) reason).count (R.STR_RX_BAD_CNT i)

/-- The registers of a receive stream that a frame at its window can change. -/
def rxRegs (i : Nat) : List Nat :=
  [R.STR_RX_STATUS i, R.STR_RX_ACC_A_CNT i, R.STR_RX_ACC_B_CNT i, R.STR_RX_ACC_C_CNT i, R.STR_RX_ACC_P_CNT i, R.STR_RX_DUP_CNT i,
    R.STR_RX_STALE_CNT i, R.STR_RX_BAD_CNT i, R.STR_RX_LATE_CNT i, R.STR_RX_EARLY_CNT i]

/-- The counter of frames accepted from a source. -/
def accCounter (src i : Nat) : Nat :=
  match src with
  | 0 => R.STR_RX_ACC_A_CNT i
  | 1 => R.STR_RX_ACC_B_CNT i
  | 2 => R.STR_RX_ACC_C_CNT i
  | _ => R.STR_RX_ACC_P_CNT i

/-- The partner link has a lane for a message (R207, R233). -/
def State.linkUp (s : State) : Bool := s.fld F.TWN_STATUS_lanes ≠ 0

/-- The partner link has room for a copy (R207): fewer forwards wait than it holds, and the copy fits one message (R228). -/
def State.forwardFits (s : State) (f : List Byte) : Bool :=
  s.linkUp && (s.twn.msgs.filter fun m => m.cls = 4).length < Config.forwardRoom && f.length < 8192

/-- R207: a copy to the partner: the receive port's number, then the frame (the layout is PRESUMED, log entry 25). -/
def State.forward (s : State) (c f : List Byte) (src : Nat) : State :=
  if src = 3 || !ctxFlag c 8 || !s.flag F.STR_CTRL_fwd_en then s
  else if s.forwardFits f then (s.sendMsg 4 (leBytes 1 src ++ f)).count R.STR_FWD_TX_CNT
  else s.count R.STR_FWD_DROP_CNT

/-- Land a packet's rows from sample S on, or count the frame bad for an overlap (R203, R204, R208). -/
def State.land (s : State) (i x : Nat) (rows : List (List Word)) : State :=
  let r := s.rx i
  let ks := (List.range rows.length).map (x + ·)
  if ks.any fun k => r.fill.any fun e => e.1 = k then s.badFrame i 5
  else
    let fill := (ks.zip rows).foldl (fun t e => Tbl.set (fun _ => []) t e.1 e.2) r.fill
    if s.rxState i = 2 then s.setRx i { r with fill := fill }
    else
      let s := s.setRx i { r with fill := fill, first := x / s.T, quiet := 0, prev := [] }
      (s.setFld (F.STR_RX_STATUS_state i) 2).setFld (F.STR_RX_STATUS_phase i) (x % s.T)

/-- An accepted frame's place on the grid (R202, R203). -/
def State.place (s : State) (i : Nat) (c : List Byte) (x : Int) (pl : List Byte) : State :=
  let m := x / s.T
  if s.rxState i = 2 && (x % s.T).toNat ≠ s.fld (F.STR_RX_STATUS_phase i) then s.badFrame i 3
  else if m ≤ s.tickNum then s.count (R.STR_RX_LATE_CNT i)
  else if (s.tickNum : Int) + s.L + 1 < m then s.count (R.STR_RX_EARLY_CNT i)
  else s.land i x.toNat (s.payloadRows c pl)

/-- The record of a context's frames in the present clock cycle. -/
def State.mediaNow (s : State) (i : Nat) : MediaNow :=
  (s.now.media.find? fun m => m.ctx = i).getD { ctx := i, rx := s.rx i, regs := (rxRegs i).map fun o => (o, s.reg o) }

/-- Store it. -/
def State.setMediaNow (s : State) (m : MediaNow) : State :=
  { s with now := { s.now with media := m :: s.now.media.filter fun x => x.ctx ≠ m.ctx } }

/-- An accepted frame's copy goes to the partner, once (R207). -/
def State.forwardOnce (s : State) (i : Nat) (c f : List Byte) (src : Nat) : State :=
  let m := s.mediaNow i
  if m.sent.contains (src, f) then s else (s.forward c f src).setMediaNow { m with sent := (src, f) :: m.sent }

/-- A frame at its context's window (R205): discarded, or accepted and placed (R200). -/
def State.atWindow (s : State) (i : Nat) (x : Nat × List Byte × Nat) : State :=
  let f := x.2.1
  let r := s.rx i
  let c := r.ctx
  let o := (frameType f).1
  let seq := if ctxRtp c then beAt f (o + 30) 2 else beAt f (o + 2) 1
  let d := dupCheck r.win seq (if ctxRtp c then 16 else 8)
  if d.2 = 1 then s.count (R.STR_RX_DUP_CNT i)
  else if d.2 = 2 then s.count (R.STR_RX_STALE_CNT i)
  else
    let s := s.setRx i { r with win := d.1, got := true }
    let s := s.setFld (F.STR_RX_STATUS_h i) (d.1.elim 0 (·.1))
    let s := (s.count (accCounter x.1 i)).forwardOnce i c f x.1
    match s.presentation c f o x.2.2 with
    | .inr e => s.badFrame i e
    | .inl t => s.place i c t (slice f (o + if ctxRtp c then 40 else 24) (s.payloadLen c))

/-- The context and its registers as they were before the frames of this clock cycle. -/
def State.rewindRx (s : State) (m : MediaNow) : State := m.regs.foldl (fun s e => s.put e.1 e.2) (s.setRx m.ctx m.rx)

/-- The frames of one clock cycle are taken in the order of their sources, whatever the order in which their commands come: one of an
earlier source goes before those taken already (R206). A copy that went to the partner link stays sent (DESIGN CHOICE, log 25). -/
def State.inTurn (s : State) (i : Nat) (x : Nat × List Byte × Nat) : State :=
  let m := s.mediaNow i
  let later := m.frames.filter fun y => x.1 < y.1
  let s := s.setMediaNow { m with frames := m.frames.filter (fun y => y.1 ≤ x.1) ++ x :: later }
  if later.isEmpty then s.atWindow i x else (s.mediaNow i).frames.foldl (fun s y => s.atWindow i y) (s.rewindRx m)

/-- A matched frame passes its header checks and reaches the window (R200). -/
def State.takeFrame (s : State) (i src : Nat) (f : List Byte) (stamp : Nat) : State :=
  let c := (s.rx i).ctx
  let o := (frameType f).1
  match (if ctxRtp c then s.rtpBad c f o else s.aafBad c f o) with
  | some e => s.badFrame i e
  | none => s.inTurn i (src, f, stamp)

/-- A frame that passed the MAC is classified (R201); whether it goes on to the management path. -/
def State.classify (s : State) (src : Nat) (f : List Byte) (stamp : Nat) : State × Bool :=
  match s.matchRx f src with
  | some i =>
    if s.flag F.TCK_STATUS_grid_valid then (s.takeFrame i src f stamp, false)
    else (s.count R.STR_RX_NOGRID_CNT, false)
  | none =>
    if (frameType f).2 = 0x22F0 then
      ((s.count R.STR_RX_UNMATCHED_CNT).setFlag F.STR_STATUS_unmatched true, false)
    else (s, true)

/-- R208: a RUNNING stream without a packet for 64 boundaries waits again. -/
def State.rxTimeout (s : State) (i : Nat) : State :=
  let r := s.rx i
  if s.rxState i = 2 && 64 ≤ r.quiet && !r.got then
    let s := s.setRx i { r with win := none }
    (s.setFld (F.STR_RX_STATUS_state i) 1).postEvent 3 i [1]
  else s

/-- STREAM_RUNNING_TIMEOUT (R208). -/
def execStreamRunningTimeout (i : Fin 512) (s : State) : Host.Outcome State Fault Refusal := .next (s.rxTimeout i)

/-! ## The boundary's part (R203, R209, R210) -/

/-- The rows of a stream for tick m: what is filled, and the fill value elsewhere; whether any was missing (R209). -/
def State.rxRows (s : State) (r : RxSt) (m : Nat) : List (List Word) × Bool :=
  let ch := ctxCh r.ctx
  let rows := (List.range s.T).map fun k =>
    match r.fill.find? fun e => e.1 = m * s.T + k with
    | some e => (e.2, false)
    | none =>
      if r.first ≤ m then
        (if ctxFlag r.ctx 9 then padTo' ch (r.prev.getD k []) else List.replicate ch 0, true)
      else (List.replicate ch 0, false)
  (rows.map (·.1), rows.any (·.2))
where
  /-- A row of n words. -/
  padTo' (n : Nat) (ws : List Word) : List Word := (ws ++ List.replicate n 0).take n

/-- Write a stream's rows into its slots' input blocks. -/
def State.rxSlots (s : State) (c : List Byte) (rows : List (List Word)) : State :=
  (List.range (ctxCh c)).foldl
    (fun s i =>
      if ctxMap c i = 0xFFFF then s
      else s.setFab fun f => { f with
        inp := Tbl.set (fun _ => []) f.inp (ctxMap c i) (rows.map fun row => row.getD i 0) }) s

/-- One receive stream at the boundary of tick m (R208 to R210). The 64th boundary without a packet fills as WAITING (DEDUCED, log 25). -/
def State.rxBoundary (s : State) (i m : Nat) : State :=
  let r := s.rx i
  if !ctxOn r.ctx then s
  else if s.rxState i ≠ 2 then s.rxSlots r.ctx (List.replicate s.T (List.replicate (ctxCh r.ctx) 0))
  else
    let rr := if 63 ≤ r.quiet && !r.got then (List.replicate s.T (List.replicate (ctxCh r.ctx) 0), false) else s.rxRows r m
    let s := s.rxSlots r.ctx rr.1
    let s := s.setRx i { r with
      prev := rr.1, fill := r.fill.filter (fun e => (m + 1) * s.T ≤ e.1)
      quiet := if r.got then 0 else r.quiet + 1, got := false }
    if rr.2 then
      (((s.count (R.STR_RX_UNDERRUN_CNT_S i)).count R.STR_RX_UNDERRUN_CNT).count
        (R.STR_GRP_UNDERRUN_CNT (ctxGroup r.ctx))).setFlag F.STR_STATUS_underrun true
    else s

/-- RECEIVE_FILL: every receive stream at the boundary of tick m. -/
def State.rxFill (s : State) (m : Nat) : State := (s.str.rx.map (·.1)).foldl (fun s i => s.rxBoundary i m) s

end Sys2Proof.Machine
end

