-- ==== Sys2Proof/Machine/Agree.lean ====
section
/-!
DEFINITION. Scheduled actions (R19) and the agreement of commits within a pair (R178, R179, R186).
-/

namespace Sys2Proof.Machine

/-! ## Scheduled actions (R19) -/

/-- Insert by target tick, after those of the same target. -/
def insertTimed (t : Timed) : List Timed → List Timed
  | [] => [t]
  | u :: us => if t.target < u.target then t :: u :: us else u :: insertTimed t us

/-- In order of target tick, then of acceptance (R19). -/
def sortTimed (ts : List Timed) : List Timed := ts.foldl (fun r t => insertTimed t r) []

/-- Run the due actions of the kinds that `sel` picks. -/
def State.runDue (s : State) (sel : TimedKind → Bool) (f : State → Timed → State) : State :=
  let go := fun t => s.due t && sel t.kind
  (sortTimed (s.sched.filter go)).foldl f { s with sched := s.sched.filter fun t => !go t }

/-- A scheduled action's command completes; one whose completion a reset discards is counted (R369). -/
def State.endTimed (s : State) (t : Timed) (status detail : Nat) : State :=
  match t.ring with
  | none => s
  | some r => if t.lost then s.count R.HIF_CPL_DROP_CNT else s.finish r t.tag t.opcode status detail

/-- The status of an action that took effect. -/
def Timed.okStatus (t : Timed) : Nat := if t.late then stLate else stOk

/-! ## Agreement (R178) -/

/-- Forget a proposal. -/
def State.dropProp (s : State) (id : Option Nat) : State :=
  s.setMix fun m => { m with props := m.props.filter fun a => some a.p.id.toNat ≠ id }

/-- An agreed commit's kind. -/
def TimedKind.agree : TimedKind → TimedKind
  | .psetCommit ids _ => .psetCommit ids true
  | .streamCommit xs _ => .streamCommit xs true
  | k => k

/-- A commit that ends for want of agreement is a refused one: HIF_REJECT_CNT speaks of commands refused with any status other than
OK or LATE (DEDUCED, log 26). -/
def State.commitFailed (s : State) : TimedKind → State
  | .psetCommit _ _ => s.psetRefused
  | .streamCommit _ _ => s.streamRefused
  | _ => s

/-- Withdraw a proposal: the partner is told, and the command ends with a status (R178). PSET_MISMATCH and PAIR_FAIL count as
refusals of the commit (DEDUCED, log 26). -/
def State.withdraw (s : State) (t : Timed) (status : Nat) : State :=
  let s := s.dropProp t.propId
  let s := s.sendCmd 5 (beBytes 4 (t.propId.getD 0))
  let s := (s.count R.MIX_PSET_WITHDRAW_CNT).commitFailed t.kind
  (s.endTimed t status 0).pendCounts

/-- A commit takes effect at the present boundary, or fails for want of agreement (R178). -/
def State.applyCommit (s : State) (t : Timed) : State :=
  if !t.agreed then s.withdraw t stPairFail
  else
    let s := s.dropProp t.propId
    match t.kind with
    | .psetCommit ids _ => (s.applyPsets ids).endTimed t t.okStatus 0
    | .streamCommit xs _ => (s.applyStreams xs).endTimed t t.okStatus 0
    | _ => s

/-- The kind is a commit of sets. -/
def TimedKind.isPsets : TimedKind → Bool
  | .psetCommit _ _ => true
  | _ => false

/-- The kind is a commit of streams. -/
def TimedKind.isStreams : TimedKind → Bool
  | .streamCommit _ _ => true
  | _ => false

/-- PSET_COMMIT_APPLY (R173): the set commits due at the present boundary. -/
def execPsetCommitApply (s : State) : Host.Outcome State Fault Refusal :=
  .next ((s.busFirst).runDue TimedKind.isPsets State.applyCommit)

/-- STREAM_COMMIT_APPLY (R191): the stream commits due at the present boundary. -/
def execStreamCommitApply (s : State) : Host.Outcome State Fault Refusal :=
  .next (s.runDue TimedKind.isStreams State.applyCommit)

/-- Why the partner refuses a proposal (R178): 0 a checksum differs, 1 a member is pending, 2 the validation fails. A failure of the
partner's own validation is not recorded in its MIX_PSET_ERR or STR_ERR: it refused no commit of its host (DESIGN CHOICE, log 26). -/
def State.propBad (s : State) (p : Proposal) : Option Nat :=
  let ids := p.items.map (·.1)
  let crc := fun x => if p.streams then crc32 (s.stagedCtx x) else s.shadowCrc x
  let n := p.tick.toNat
  if p.items.any (fun i => crc i.1 ≠ i.2) then some 0
  else if ids.any (fun x => if p.streams then s.ctxPending x else s.psetPending x) then some 1
  else if p.streams then (if (s.streamBad ids n).isSome then some 2 else none)
  else if ids.any (fun x => (s.pset? x).isNone) || (s.psetBad ids n).isSome then some 2
  else none

/-- PROPOSE (R178): the partner's proposal is agreed and scheduled, or refused. -/
def State.takeProposal (s : State) (p : Proposal) : State :=
  if !s.paired then s
  else
    match s.propBad p with
    | some r => s.sendCmd 4 (beBytes 4 p.id.toNat ++ [Config.refuseCode r])
    | none =>
      let ids := p.items.map (·.1)
      let k := if p.streams then TimedKind.streamCommit ids true else TimedKind.psetCommit ids true
      let t : Timed := { target := p.tick.toNat, kind := k, ring := none, tag := 0, late := false, propId := some p.id.toNat }
      let a : Agreement := { received := true, p := p, agreed := true }
      let s := { s with sched := s.sched ++ [t] }
      let s := s.setMix fun m => { m with props := m.props ++ [a] }
      (s.sendCmd 3 (beBytes 4 p.id.toNat)).pendCounts

/-- PROPOSE. -/
def execPropose (p : Proposal) (s : State) (crcOk : Bool := true) : Host.Outcome State Fault Refusal :=
  .next (s.ifCrc crcOk fun s => s.takeProposal p)

/-- The scheduled commit that this module proposed under an identifier. -/
def State.ownProposal (s : State) (id : Nat) : Option Timed :=
  s.sched.find? fun t => t.propId = some id && t.ring.isSome

/-- The scheduled action is the commit proposed under an identifier by this module. -/
def Timed.isOwn (t : Timed) (id : Nat) : Bool := t.propId = some id && t.ring.isSome

/-- AGREE (R178). -/
def State.agreeTo (s : State) (id : Nat) : State :=
  { s with sched := s.sched.map fun t => if t.isOwn id then { t with kind := t.kind.agree } else t }

/-- AGREE. -/
def execAgree (id : Word) (s : State) (crcOk : Bool := true) : Host.Outcome State Fault Refusal :=
  .next (s.ifCrc crcOk fun s => s.agreeTo id.toNat)

/-- A proposal of this module fails with a status: withdrawn, completed, forgotten (R178). -/
def State.failProposal (s : State) (id status : Nat) : State :=
  match s.ownProposal id with
  | none => s
  | some t => ({ s with sched := s.sched.filter fun u => !u.isOwn id }).withdraw t status

/-- REFUSE (R178): PSET_MISMATCH where the partner's checksums differ, else PAIR_FAIL. -/
def execRefuse (id : Word) (reason : Byte) (s : State) (crcOk : Bool := true) : Host.Outcome State Fault Refusal :=
  .next (s.ifCrc crcOk fun s => s.failProposal id.toNat (if reason = Config.refuseCode 0 then stPsetMismatch else stPairFail))

/-- COMMIT_AGREE_TIMEOUT (R178): no AGREE by b_(N-1) + T/2. -/
def execCommitAgreeTimeout (id : Word) (s : State) : Host.Outcome State Fault Refusal :=
  .next (match s.ownProposal id.toNat with
    | some t => if t.agreed then s else s.failProposal id.toNat stPairFail
    | none => s)

/-- WITHDRAW (R178): the partner's commit is not applied. It is counted also where this module had refused the proposal. -/
def State.dropReceived (s : State) (id : Nat) : State :=
  let s := s.count R.MIX_PSET_WITHDRAW_CNT
  if s.sched.any (fun t => t.propId = some id && t.ring.isNone) then
    let s := { s with sched := s.sched.filter fun t => !(t.propId = some id && t.ring.isNone) }
    (s.dropProp (some id)).pendCounts
  else s

/-- WITHDRAW. -/
def execWithdraw (id : Word) (s : State) (crcOk : Bool := true) : Host.Outcome State Fault Refusal :=
  .next (s.ifCrc crcOk fun s => s.dropReceived id.toNat)

end Sys2Proof.Machine
end

