-- ==== Sys2Proof/Machine/Trig.lean ====
section
/-!
DEFINITION. The sine of R269 and the angle of R271 by fixed-point arithmetic with 400 fraction bits, the square root that
|Z| is read from (R271): exact integer recursions. The 400 bits settle every rounding that the spec asks for (log entry 20).
-/

namespace Sys2Proof.Machine

/-- Fraction bits. -/
abbrev fixBits : Nat := 400

/-- One in fixed point. -/
def fixOne : Int := 2 ^ fixBits

/-- The terms of arctan(1/q) from the n-th on: `p` is the power of 1/q so far. -/
def atanInv (q : Int) : Nat → Nat → Int → Int
  | 0, _, _ => 0
  | f + 1, n, p => (if n % 2 = 0 then p / (2 * n + 1) else -(p / (2 * n + 1))) + atanInv q f (n + 1) (p / (q * q))

/-- Pi. -/
def fixPi : Int := 16 * atanInv 5 90 0 (fixOne / 5) - 4 * atanInv 239 30 0 (fixOne / 239)

/-- The terms of the sine's series: `t` is the present term of an angle with square `x2`. -/
def sinTerms (x2 : Int) : Nat → Nat → Int → Int
  | 0, _, _ => 0
  | f + 1, n, t => t + sinTerms x2 f (n + 1) (-(t * x2 / fixOne / ((2 * n + 2) * (2 * n + 3))))

/-- The sine of an angle of at most pi. -/
def sinSmall (x : Int) : Int := sinTerms (x * x / fixOne) 80 0 x

/-- The sine of m whole parts of a turn of n parts. -/
def fixSin (m n : Nat) : Int :=
  let r := m % n
  if 2 * r ≤ n then sinSmall (2 * fixPi * r / n) else -sinSmall (2 * fixPi * (r - n / 2) / n)

/-- An integer times a fixed-point number, rounded to the nearest integer. -/
def fixRound (a x : Int) : Int := (2 * a * x + fixOne) / (2 * fixOne)

/-- tab[i] of R269. -/
def sinTab (i : Nat) : Int := fixRound 0x7FFFFFFF (fixSin i 1024)

/-- sinq of R269. -/
def sinq (th : Nat) : Int :=
  let i := th / 2 ^ 22
  let a := sinTab i
  a + (sinTab (i + 1) - a) * (th / 64 % 65536 : Nat) / 65536

/-- The angle of (re, im) is at least `h` half tenths of a degree, 0 ≤ h ≤ 3600: one turn has 7200 half tenths. The angle
is one of the upper half plane. -/
def angleGe (re im : Int) (h : Nat) : Bool := 0 ≤ im * fixSin (h + 1800) 7200 - re * fixSin h 7200

/-- The largest t of a range of n values from `lo` with (2 t - 1) half tenths at most the angle, by bisection. -/
def angleFind (re im : Int) : Nat → Nat → Nat → Nat
  | 0, lo, _ => lo
  | f + 1, lo, hi =>
    if hi ≤ lo + 1 then lo
    else
      let m := (lo + hi) / 2
      if angleGe re im (2 * m - 1) then angleFind re im f m hi else angleFind re im f lo m

/-- arg Z in tenths of a degree, rounded half up, from -1800 to 1799 (R271); the number is not 0. -/
def argTenth (re im : Int) : Int :=
  if im = 0 then (if re < 0 then -1800 else 0)
  else if 0 < im then
    let t := angleFind re im 12 0 1801
    if t = 1800 then -1800 else t
  else
    let t : Int := angleFind re (-im) 12 0 1801
    (0 - t)

/-- The terms of atanh(z) from the n-th on: `p` is the power of z so far, `z2` its square. -/
def atanhTerms (z2 : Int) : Nat → Nat → Int → Int
  | 0, _, _ => 0
  | f + 1, n, p => p / (2 * n + 1) + atanhTerms z2 f (n + 1) (p * z2 / fixOne)

/-- Twice the inverse hyperbolic tangent of num / den, at most 1/3. -/
def atanh2 (num den : Nat) : Int :=
  let z : Int := fixOne * num / den
  2 * atanhTerms (z * z / fixOne) 130 0 z

/-- The natural logarithm of num / den, at least 1 (R297). -/
def fixLn (num den : Nat) : Int :=
  let k := (num / den).log2
  k * atanh2 1 3 + atanh2 (num - den * 2 ^ k) (num + den * 2 ^ k)

/-- The integer square root by bits from 2^b down. -/
def sqrtBits (n : Nat) : Nat → Nat → Nat
  | 0, r => r
  | b + 1, r =>
    let c := r + 2 ^ b
    sqrtBits n b (if c * c ≤ n then c else r)

/-- The integer square root. -/
def isqrt (n : Nat) : Nat := sqrtBits n (n.log2 / 2 + 1) 0

end Sys2Proof.Machine
end

