-- ==== Sys2Proof/Machine/Amp.lean ====
section
/-!
DEFINITION. Amplifier drive, sensing and loudspeaker watch (R248 to R278): the switching schedule, the modulation chain,
channel states, trips, checks, impedance windows, the power limit, listen-back, and the staged registers.
-/

namespace Sys2Proof.Machine

/-- Update the modulator. -/
def State.setAmp (s : State) (f : Amp → Amp) : State := { s with amp := f s.amp }

/-- An amplifier channel. -/
def State.amp1 (s : State) (c : Nat) : AmpCh := Tbl.get (fun _ => {}) s.amp.ch c

/-- Store a channel; its state and MOD_STATUS.running follow. -/
def State.putAmp1 (s : State) (c : Nat) (x : AmpCh) : State :=
  let s := s.setAmp fun a => { a with ch := Tbl.set (fun _ => {}) a.ch c x }
  let s := s.setFld (F.MOD_CH_STATUS_state c) x.st.code
  s.setFlag F.MOD_STATUS_running (s.amp.ch.any fun e => e.2.st ≠ .off)

/-- A quotient rounded as the spec leaves open, by place. -/
def openDiv (site a b : Nat) : Nat := if Config.roundsUp site then (a + b - 1) / b else a / b

/-- An integer quotient rounded as the spec leaves open, by place. -/
def openDivI (site : Nat) (a b : Int) : Int := if Config.roundsUp site then -(-a / b) else a / b

/-! ## The schedule (R250 to R256) -/

/-- Pq of a switching frequency (R250). -/
def pqOf (f : Nat) : Nat := (2 * 614400000 * 65536 + f) / (2 * f)

/-- Pq for a mode and a frequency (R251). -/
def pqMode (mode freq : Nat) : Nat :=
  match mode with
  | 0 => pqOf freq
  | 1 => 111538278
  | 2 => 95642086
  | _ => 89280085

/-- Pq in force. -/
def State.pq (s : State) : Nat := (s.reg R.MOD_PERIOD).toNat

/-- The dither span in force (R253). -/
def State.span (s : State) : Nat := if s.fld F.MOD_FSW_mode = 0 then min 51 (s.fld F.MOD_DITHER_span) else 0

/-- The dither of a period start (R253). -/
def ditherAt (span pq c j : Nat) : Int :=
  let h : Nat := (32 * j + c) * 0x9E3779B1 % 2 ^ 32 / 2 ^ 16
  ((h : Int) - 32768) * span * pq / 2 ^ 40

/-- t(c, j) in fine counts of network time (R250). -/
def State.periodStart (s : State) (c j : Nat) : Nat :=
  (((32 * j + c) * s.pq / (32 * 8192) : Nat) + ditherAt s.span s.pq c j).toNat

/-- The shortest possible period, in fine counts (R256). -/
def shortest (span pq : Nat) : Int := (pq / 8192 : Nat) + (-32768 * span * pq : Int) / 2 ^ 40 - (32767 * span * pq : Int) / 2 ^ 40

/-- R256 holds for a dead time. -/
def deadOk (span pq mp d : Nat) : Bool := (4 * d + 2 * mp : Int) ≤ shortest span pq

/-- Network time in fine counts. -/
def State.fineNow (s : State) : Nat := s.netNs * 4915200000 / 1000000000

/-! ## States (R263, R268) -/

/-- The channel is enabled, as applied. -/
def State.ampEn (s : State) (c : Nat) : Bool := s.appFlag (F.MOD_CH_CFG_en c)

/-- The sense conditions of R268. -/
def State.senseOk (s : State) (c : Nat) : Bool :=
  s.flag F.SNS_CTRL_run && (s.fld F.SNS_CLK_CFG_clk_en).testBit (c / 8)

/-- The channel may be out of OFF (R263, R268). -/
def State.ampWanted (s : State) (c : Nat) : Bool := s.flag F.MOD_CTRL_run && s.ampEn c && s.senseOk c

/-- The channel's pilot is configured and accepted at the present fs (R268, R270). -/
def State.hasPilot (s : State) (c : Nat) : Bool :=
  let m := s.appFld (F.SNS_CH_PILOT_mode c)
  m = 1 || (m = 2 && s.fld F.TCK_CFG_fs_sel ≠ 0)

/-- The channel switches (R263). -/
def ChState.switching : ChState → Bool
  | .check => true
  | .play => true
  | .mute => true
  | _ => false

/-- The channel generates its pilot (R263). -/
def State.pilotOn (s : State) (c : Nat) : Bool :=
  let x := s.amp1 c
  s.hasPilot c && (x.st = .check || x.st = .play)

/-- PSTAGE_EN_N of a channel: asserted is low. -/
def State.setStage (s : State) (c : Fin 32) (on : Bool) : State := s.drive (.pwm c) (.pin "PSTAGE_EN_N" c (!on))

/-- g_ramp after the samples processed so far (R143). -/
def AmpCh.gNow (x : AmpCh) : Int := if x.gK = 0 then x.gFrom else rampAt x.gFrom x.gTo x.gLen (x.gK - 1)

/-- Start a ramp of g_ramp (R143, R263). -/
def AmpCh.rampTo (x : AmpCh) (g : Int) (len : Nat) : AmpCh := { x with gFrom := x.gNow, gTo := g, gLen := len, gK := 0 }

/-- g_ramp stands at 0. -/
def AmpCh.gZero (x : AmpCh) : AmpCh := { x with gFrom := 0, gTo := 0, gLen := 0, gK := 0 }

/-- Enter CHECK: PSTAGE_EN_N asserts (R263). -/
def State.enterCheck (s : State) (c : Fin 32) : State :=
  let x := s.amp1 c
  (s.putAmp1 c { x.gZero with
    st := .check, timer := 0, stage := true, since := 0, chk := none, win := none, stopping := false, last := false }).setStage c true

/-- Both legs low at once, PSTAGE_EN_N deasserted (R265). -/
def State.legsLow (s : State) (c : Fin 32) : State :=
  let x := s.amp1 c
  let s := s.putAmp1 c { x.gZero with stage := false, per := none, edges := [], chk := none, win := none }
  (s.drive (.pwm c) (.pwm c [])).setStage c false

/-- The channel goes to a state in which it does not switch. -/
def State.haltCh (s : State) (c : Fin 32) (st : ChState) (timer : Nat) : State :=
  let s := s.legsLow c
  s.putAmp1 c { s.amp1 c with st := st, timer := timer, stopping := false, last := false }

/-- Ticks in half a second (R263). -/
def State.halfSec (s : State) : Nat := s.fs / (2 * s.T)

/-- CHANNEL_START (R263, R268, R274). -/
def State.startCh (s : State) (c : Fin 32) : State :=
  if (s.amp1 c).st = .off && s.ampWanted c && s.flag F.MOD_STATUS_tb_lock then s.enterCheck c else s

/-- CHANNEL_START. -/
def execChannelStart (c : Fin 32) (s : State) : Host.Outcome State Fault Refusal := .next (s.startCh c)

/-- CHANNEL_STOP (R263): a switching channel ramps to 0 over 32 samples; one that does not switch is OFF at once. -/
def State.stopCh (s : State) (c : Fin 32) : State :=
  let x := s.amp1 c
  if x.st = .off || s.ampWanted c then s
  else if x.st.switching then
    if x.stopping then s else s.putAmp1 c { x.rampTo 0 32 with stopping := true }
  else s.haltCh c .off 0

/-- CHANNEL_STOP. -/
def execChannelStop (c : Fin 32) (s : State) : Host.Outcome State Fault Refusal := .next (s.stopCh c)

/-- CHANNEL_TIMER_EXPIRE (R263): the timer of TRIPPED or RETRY has run out. -/
def State.timerCh (s : State) (c : Fin 32) : State :=
  let x := s.amp1 c
  if (x.st = .tripped || x.st = .retry) && x.timer = 0 then s.enterCheck c else s

/-- CHANNEL_TIMER_EXPIRE. -/
def execChannelTimerExpire (c : Fin 32) (s : State) : Host.Outcome State Fault Refusal := .next (s.timerCh c)

/-- MOD_CH_CTRL_CLR (R263): the timer becomes 0; the channel enters CHECK at the next boundary. -/
def State.clrCh (s : State) (c : Nat) : State :=
  let x := s.amp1 c
  if x.st = .tripped || x.st = .retry then s.putAmp1 c { x with timer := 1 } else s

/-- MOD_CH_CTRL_CLR. -/
def execModChCtrlClr (c : Fin 32) (s : State) : Host.Outcome State Fault Refusal := .next (s.ifOn 17 fun s => s.clrCh c)

/-! ## Trips (R262 to R266) -/

/-- A bit of a bitstream as its decimators take it. -/
def bitLevel (b : Bool) : Int := if b then 1 else -1

/-- The sum of a bitstream's bits, newest first, by weights. -/
def weighted (w : Nat → Int) (xs : List Bool) (n : Nat) : Int :=
  (((List.range n).zip xs).map fun e => w e.1 * bitLevel e.2).sum

/-- The weights of a sinc2 decimator of ratio 8: two boxes of 8, one after the other. -/
def sinc2W (i : Nat) : Int := if i < 8 then i + 1 else 15 - i

/-- The magnitude of a fast output in Q0.16, from its 15 bits, newest first (R262). -/
def fastMag (xs : List Bool) : Nat := (weighted sinc2W xs 15).natAbs * 1024

/-- The magnitudes of the fast outputs of a bitstream that ends with one, oldest first: one in 8 bits (R262). -/
def fastMags (bits : List Bool) : List Nat :=
  ((List.range ((bits.length - 7) / 8)).map fun m => fastMag (bits.reverse.drop (8 * m))).reverse

/-- Some `n` consecutive magnitudes reach thr (R262); `k` have just done so. -/
def trips (thr n : Nat) : Nat → List Nat → Bool
  | _, [] => false
  | k, m :: ms => if thr ≤ m then (n ≤ k + 1 || trips thr n (k + 1) ms) else trips thr n 0 ms

/-- R265: the legs are forced low, the trip is recorded and raised; `wait` is the number of boundaries up to the start of
the timer. -/
def State.tripCh (s : State) (c : Fin 32) (reason wait : Nat) : State :=
  let st := (s.amp1 c).st
  let s := match st with
    | .play | .mute => s.haltCh c .tripped (wait + s.halfSec)
    | .check => s.haltCh c .retry (wait + 20 * s.halfSec)
    | _ => s.legsLow c
  let s := s.count (R.MOD_CH_TRIP_CNT c)
  let s := (s.setFld (F.MOD_CH_STATUS_reason c) reason).setFlag F.MOD_STATUS_trip true
  s.raise 21 (word (c + reason * 256))

/-- Boundaries from now to the one that ends the tick whose sense capture window is being filled (R22, R264). -/
def State.captureWait (s : State) : Nat := if s.clk.tickPos < (s.T - 2) * s.sampU then 2 else 3

/-- CHANNEL_TRIP (R262, R264, R265): `bits` are the last bits of the current bitstream, oldest first, up to a fast output. -/
def execChannelTrip (c : Fin 32) (bits : List Bool) (s : State) : Host.Outcome State Fault Refusal :=
  .next (if s.senseOk c && trips (s.appFld (F.SNS_CH_TRIP_thr c)) (s.appFld (F.SNS_CH_TRIP_trip_n c)) 0 (fastMags bits) then
      (s.count (R.SNS_CH_TRIP_CNT c)).tripCh c 1 s.captureWait
    else s)

/-- FAULT_N_ASSERT (R265). -/
def execFaultNAssert (c : Fin 32) (s : State) : Host.Outcome State Fault Refusal := .next (s.tripCh c 2 1)

/-! ## Impedance (R269 to R272) -/

/-- The pilot's phase step (R269). -/
def State.pilotInc (s : State) (c : Nat) : Nat :=
  let f := s.appFld (F.SNS_CH_PILOT_freq c)
  let u := (if s.appFld (F.SNS_CH_PILOT_mode c) = 1 then 100 else 1) * s.fs
  (2 * f * 2 ^ 32 + u) / (2 * u)

/-- The pilot's phase at sample k (R269). -/
def State.pilotTheta (s : State) (c k : Nat) : Nat := k * s.pilotInc c % 2 ^ 32

/-- One sample enters the sums (R271). -/
def ZSum.add (z : ZSum) (th : Nat) (v i : Int) : ZSum :=
  let sn := sinq th
  let cs := sinq ((th + 2 ^ 30) % 2 ^ 32)
  { z with n := z.n + 1, vc := z.vc + v * cs, vs := z.vs + v * sn, ic := z.ic + i * cs, is := z.is + i * sn }

/-- The samples of a tick enter a window, from sample index k. -/
def State.zAdd (s : State) (c k : Nat) (x : AmpCh) (z : ZSum) : ZSum :=
  (List.range s.T).foldl (fun z p => z.add (s.pilotTheta c (k + p)) (smp x.v p) (smp x.i p)) z

/-- Samples of an impedance window (R271). -/
def State.zLen (s : State) (c : Nat) : Nat := s.appFld (F.SNS_CH_ZCFG_interval c) * s.fs

/-- |I| is below 2^-20 of full scale times N/2, or a bitstream overloaded (R272). -/
def ZSum.invalid (z : ZSum) : Bool :=
  z.ovl || 4 * (z.ic ^ 2 + z.is ^ 2) < ((z.n : Int) * 2 ^ 42) ^ 2

/-- |Z| in milliohms (R271), saturating; where V and I are both 0 the spec gives none: a free value. -/
def State.zMag (s : State) (c : Nat) (z : ZSum) : Nat :=
  let v2 := (z.vc ^ 2 + z.vs ^ 2).toNat
  let i2 := (z.ic ^ 2 + z.is ^ 2).toNat
  let vf := s.appFld (F.SNS_CH_VFS_v_fs c)
  let jf := s.appFld (F.SNS_CH_IFS_i_fs c)
  let b := i2 * jf ^ 2
  if b = 0 then (if v2 = 0 then Config.freeNat s.fresh % 2 ^ 24 else 0xFFFFFF)
  else min 0xFFFFFF ((isqrt (4 * 1000000 * v2 * vf ^ 2 / b) + 1) / 2)

/-- arg Z in tenths of a degree (R271): the angle of V times the conjugate of I; a free value where that is 0, within the range. -/
def State.zArg (s : State) (z : ZSum) : Int :=
  let re := z.vc * z.ic + z.vs * z.is
  let im := z.vc * z.is - z.vs * z.ic
  if re = 0 && im = 0 then Config.freeInt s.fresh % 3600 - 1800 else argTenth re im

/-- The flags of a window (R272): bit 0 invalid, 1 open, 2 short, 3 drift. -/
def State.zFlags (s : State) (c : Nat) (z : ZSum) (mag : Nat) : Nat :=
  let bad := z.invalid
  let base := s.fld (F.SNS_CH_ZBASE_z_base c)
  let d := if mag < base then base - mag else mag - base
  bit bad + 2 * bit (bad || s.appFld (F.SNS_CH_ZTH_z_open c) * 10 < mag)
    + 4 * bit (!bad && mag < s.appFld (F.SNS_CH_ZTH_z_short c))
    + 8 * bit (!bad && base ≠ 0 && s.appFld (F.SNS_CH_ZCFG_drift c) * base < 100 * d)

/-- A valid window teaches (R272): the fourth sets z_base to the mean. -/
def State.learnZ (s : State) (c mag : Nat) : State :=
  let x := s.amp1 c
  match x.learn with
  | none => s
  | some (n, t) =>
    if n = 3 then
      ((s.putAmp1 c { x with learn := none }).setFld (F.SNS_CH_ZBASE_z_base c) (openDiv 1 (t + mag) 4)).setFlag
        (F.SNS_CH_ZCFG_learn c) false
    else s.putAmp1 c { x with learn := some (n + 1, t + mag) }

/-- A window ends (R271, R272). -/
def State.endWindow (s : State) (c : Nat) (z : ZSum) : State :=
  let mag := s.zMag c z
  let arg := s.zArg z
  let fl := s.zFlags c z mag
  let old := s.fld (F.SNS_CH_ZFLAGS_now c)
  let s := s.tick1
  let s := s.setFld (F.SNS_CH_ZMAG_zmag c) mag
  let s := s.setFld (F.SNS_CH_ZPH_zph c) (wordI arg).toNat
  let s := s.setFlag (F.SNS_CH_ZPH_valid c) (!z.invalid)
  let s := s.setFld (F.SNS_CH_ZFLAGS_now c) fl
  let s := s.setSeen (F.SNS_CH_ZFLAGS_seen c) fl
  let s := if z.ovl then s.count (R.SNS_CH_OVL_CNT c) else s
  let s :=
    if fl = old then s
    else (s.setFlag F.SNS_STATUS_zevt true).postEvent 8 c (leBytes 1 fl ++ [0, 0, 0] ++ leBytes 4 mag)
  if z.invalid then s else s.learnZ c mag

/-- Without a pilot at the present fs no window runs, and the flags read 0 (R268). -/
def State.noPilot (s : State) (c : Nat) : State :=
  if s.hasPilot c then s
  else
    let s := s.putAmp1 c { s.amp1 c with chk := none, win := none }
    (s.setFld (F.SNS_CH_ZFLAGS_now c) 0).setFlag (F.SNS_CH_ZPH_valid c) false

/-- IMPEDANCE_WINDOW_END (R272): the window has taken its N samples. -/
def State.zWindowEnd (s : State) (c : Nat) : State :=
  let s := s.noPilot c
  let x := s.amp1 c
  match x.win with
  | none => s
  | some z => if z.n < s.zLen c then s else (s.putAmp1 c { x with win := none }).endWindow c z

/-- IMPEDANCE_WINDOW_END. -/
def execImpedanceWindowEnd (c : Fin 32) (s : State) : Host.Outcome State Fault Refusal := .next (s.zWindowEnd c)

/-- IMPEDANCE_LEARN (R272). -/
def State.learnStart (s : State) (c : Nat) : State :=
  (s.putAmp1 c { s.amp1 c with learn := some (0, 0) }).setFlag (F.SNS_CH_ZCFG_learn c) true

/-- IMPEDANCE_LEARN. -/
def execImpedanceLearn (c : Fin 32) (s : State) : Host.Outcome State Fault Refusal := .next (s.ifOn 17 fun s => s.learnStart c)

/-- The pairs among i things. -/
def choose2 (i : Nat) : Int := (i * (i - 1) / 2 : Nat)

/-- The weights of a sinc3 decimator of ratio `r` (R261): three boxes of r, one after the other. -/
def sinc3W (r i : Nat) : Int := choose2 (i + 2) - 3 * choose2 (i + 2 - r) + 3 * choose2 (i + 2 - 2 * r)

/-- The latest run of `n` equal bits, newest first: its bit. `k` bits equal to `b` have just gone by. -/
def runOf (n : Nat) : Nat → Bool → List Bool → Option Bool
  | _, _, [] => none
  | k, b, x :: xs =>
    let k := if x = b then k + 1 else 1
    if n ≤ k then some x else runOf n k x xs

/-- A sinc3 output in Q1.31, from the bits up to it, newest first (R261): saturated by the sign of the bits where a run of 64 equal ones
reaches into its sample period (which samples saturate is a DESIGN CHOICE, log entry 29). -/
def sinc3 (r : Nat) (xs : List Bool) : Word :=
  match runOf 64 0 false (xs.take (r + 63)) with
  | some b => if b then 0x7FFFFFFF#32 else 0x80000000#32
  | none => wordI (sat32 (openDivI 6 (weighted (sinc3W r) xs (3 * r - 2) * 2 ^ 31) (r ^ 3)))

/-- SENSE_BITSTREAM_OVERLOAD (R261): the windows that run are marked; the samples saturate as the decimator gives them. -/
def State.overload (s : State) (c : Nat) : State :=
  let x := s.amp1 c
  let mark := fun (z : ZSum) => { z with ovl := true }
  (s.putAmp1 c { x with chk := x.chk.map mark, win := x.win.map mark }).setFlag F.SNS_STATUS_ovl true

/-- SENSE_BITSTREAM_OVERLOAD: `bits` are the last 64 bits of either bitstream of the channel. -/
def execSenseBitstreamOverload (c : Fin 32) (_cur : Bool) (s : State) (bits : List Bool := []) : Host.Outcome State Fault Refusal :=
  .next (if s.senseOk c && (runOf 64 0 false bits).isSome then s.overload c else s)

/-! ## Checks (R267, R268) -/

/-- A check passes: PLAY, with g_ramp from 0 to unity over 4096 samples. -/
def State.checkPass (s : State) (c : Nat) : State :=
  let x := s.amp1 c
  s.putAmp1 c { x.gZero.rampTo unity 4096 with st := .play, chk := none }

/-- CHECK_START (R267, R268): at least 1 ms after PSTAGE_EN_N asserted, and no media-clock error (R275). -/
def State.checkStart (s : State) (c : Nat) : State :=
  let x := s.amp1 c
  if x.st ≠ .check || x.stopping || x.chk.isSome || x.since < 6000000 || s.flag F.MOD_STATUS_clk_err then s
  else if !s.hasPilot c then s.checkPass c
  else s.putAmp1 c { x with chk := some {} }

/-- CHECK_START. -/
def execCheckStart (c : Fin 32) (s : State) : Host.Outcome State Fault Refusal := .next (s.checkStart c)

/-- CHECK_END (R267): fs/2 samples measured. -/
def State.checkEnd (s : State) (c : Fin 32) : State :=
  let s := s.noPilot c
  let x := s.amp1 c
  match x.chk with
  | none => s
  | some z =>
    if x.st ≠ .check || x.stopping || z.n < s.fs / 2 then s
    else
      let short := !z.invalid && s.zMag c z < s.appFld (F.SNS_CH_ZTH_z_short c)
      let s := s.endWindow c z
      if short || z.ovl then s.haltCh c .retry (20 * s.halfSec) else s.checkPass c

/-- CHECK_END. -/
def execCheckEnd (c : Fin 32) (s : State) : Host.Outcome State Fault Refusal := .next (s.checkEnd c)

/-! ## Media-clock error and timebase (R274, R275) -/

/-- One channel at the beginning or the end of a media-clock error (R275). -/
def State.muteCh (s : State) (err : Bool) (c : Nat) : State :=
  let x := s.amp1 c
  match x.st, err with
  | .play, true => s.putAmp1 c { x.rampTo 0 32 with st := .mute, win := none }
  | .check, true => s.putAmp1 c { x with chk := none }
  | .mute, false => if x.stopping then s else s.putAmp1 c { x.rampTo unity 4096 with st := .play }
  | _, _ => s

/-- The channels follow the clock block's media-clock error (R275). -/
def State.muteAll (s : State) (err : Bool) : State :=
  (List.range 32).foldl (fun s c => s.muteCh err c) (s.setFlag F.MOD_STATUS_clk_err err)

/-- TIMEBASE_LOSS (R274). -/
def State.timebaseLoss (s : State) : State :=
  let s := (List.finRange 32).foldl (fun s c => s.haltCh c .off 0) s
  let s := s.releaseOwn
  let s := (s.setFlag F.MOD_STATUS_tb_lock false).setFlag F.MOD_STATUS_tb_loss true
  s.raise 13 0

/-- TIMEBASE_LOSS. -/
def execTimebaseLoss (s : State) : Host.Outcome State Fault Refusal := .next s.timebaseLoss

/-- TIMEBASE_RELOCK (R274): locked for 1 ms; the channels that are wanted enter CHECK. -/
def execTimebaseRelock (s : State) : Host.Outcome State Fault Refusal :=
  .next ((List.finRange 32).foldl State.startCh (s.setFlag F.MOD_STATUS_tb_lock true))

/-! ## The chain (R257 to R259) -/

/-- One sample of a channel's chain (R257, R273): the channel after it, and whether it saturated. -/
def State.chainSample (s : State) (c k : Nat) (x : AmpCh) (src vb : Word) : AmpCh × Nat :=
  let lim := s.appFlag (F.SNS_CH_PLIM_en c)
  let gr := if lim then
      smoothGr x.gr x.gt (s.appFld (F.SNS_CH_PATT_alpha_a c)) (s.appFld (F.SNS_CH_PREL_alpha_r c))
    else x.gr
  let a := mixOut (8 * src.toInt * (e2 gr : Nat))
  let g := rampAt x.gFrom x.gTo x.gLen x.gK
  let b := mixOut (8 * a.1.toInt * g)
  let pil : Int := if s.pilotOn c then
      (s.appFld (F.SNS_CH_PAMP_amp c) : Int) * sinq (s.pilotTheta c k) / 2 ^ 31
    else 0
  let y := b.1.toInt + pil
  let m : ModSample := { k := k, y := wordI (sat32 y), vbus := vb, g0 := g = 0 }
  ({ x with gr := gr, gK := x.gK + 1, hist := (x.hist ++ [m]).drop (x.hist.length + 1 - 96) },
    bit a.2 + bit b.2 + bit (sat32 y ≠ y))

/-- The block just committed passes through a channel's chain; k0 is its first sample's index. -/
def State.chainBlock (s : State) (c k0 : Nat) : State :=
  let src := s.outBlock (s.appFld (F.MOD_CH_CFG_slot c))
  let vb := s.slotBlock (s.appFld (F.MOD_CH_CFG_vbus_slot c))
  let r := (List.range s.T).foldl
    (fun (r : AmpCh × Nat) i =>
      let q := s.chainSample c (k0 + i) r.1 (src.getD i 0) (vb.getD i 0)
      (q.1, r.2 + q.2))
    (s.amp1 c, 0)
  let s := s.putAmp1 c r.1
  (s.countBy (R.MOD_CH_CLIP_CNT c) r.2).put (R.SNS_CH_PGR c) (wordI r.1.gr)

/-- The sense samples of the tick that ends enter the sums of R271 and R273; k0 is its first sample's index. -/
def State.senseTick (s : State) (c k0 : Nat) : State :=
  let x := s.amp1 c
  let chk := x.chk.map fun z => if z.n < s.fs / 2 then s.zAdd c k0 x z else z
  let start := x.st = .play && s.hasPilot c && !x.stopping && k0 % s.zLen c = 0
  let win := match x.win with
    | some z => if z.n < s.zLen c then some (s.zAdd c k0 x z) else if start then some (s.zAdd c k0 x {}) else some z
    | none => if start then some (s.zAdd c k0 x {}) else none
  let p := ((List.range s.T).map fun i => smp x.v i * smp x.i i).sum
  let x := if s.appFlag (F.SNS_CH_PLIM_en c) then { x with sub := x.sub + p, subT := x.subT + 1 } else x
  (s.putAmp1 c { x with chk := chk, win := win }).noPilot c

/-- The channel's counts at a boundary: timers, the time since PSTAGE_EN_N asserted, the closed sense window. -/
def State.countCh (s : State) (c : Nat) : State :=
  let x := s.amp1 c
  s.putAmp1 c { x with
    timer := x.timer - 1, since := x.since + s.tickU, v := x.vNext, i := x.iNext, vNext := [], iNext := [] }

/-- The channel is in use: out of OFF, enabled, or with a history. -/
def State.ampUsed (s : State) (c : Nat) : Bool := s.ampEn c || (s.amp.ch.any fun e => e.1 = c)

/-- The modulator and the sense paths at the boundary that commits tick n, before the inputs move on. -/
def State.ampTick (s : State) (n : Nat) : State :=
  (List.range 32).foldl
    (fun s c => if s.ampUsed c then ((s.senseTick c (n * s.T)).chainBlock c (n * s.T)).countCh c else s) s

/-! ## One period (R255, R258) -/

/-- A sample of the chain by index: the latest that took it. -/
def AmpCh.at (x : AmpCh) (k : Int) : Option ModSample := x.hist.reverse.find? fun m => (m.k : Int) = k

/-- A step of the grid renumbers the samples already taken, so that the next follow them without a gap (R276; DEDUCED, log entry
28). -/
def State.renumber (s : State) (d : Int) : State :=
  (List.range 32).foldl
    (fun s c => s.putAmp1 c { s.amp1 c with hist := (s.amp1 c).hist.map fun m => { m with k := (m.k + d).toNat } }) s

/-- The fine counts of a sample period. -/
def State.fineSample (s : State) : Nat := 102400 / 2 ^ s.fld F.TCK_CFG_fs_sel

/-- u of R258 for a period from t of length l, as k0 and ph. -/
def State.modPoint (s : State) (t l : Nat) : Int × Nat :=
  let q := 2 * s.fineSample
  let n := 2 * t + l
  ((n / q : Nat) - (s.T + 10 : Nat), 64 * (n % q) / q)

/-- The modulation value of a period (R258, R259), and whether vmin was used. -/
def State.modValue (s : State) (c : Nat) (x : AmpCh) (t l : Nat) : Word × Bool :=
  let (k0, ph) := s.modPoint t l
  let sum := ((List.range 16).map fun i =>
    (Config.ifir ph i).toInt * (match x.at (k0 - 7 + i) with | some m => m.y.toInt | none => 0)).sum
  let y := (mixOut (2 * sum)).1
  if s.appFlag (F.MOD_CH_CFG_ff_en c) then
    let vb := match x.at k0 with | some m => m.vbus.toInt | none => 0
    let vmin := (s.appFld (F.MOD_CH_VMIN_value c) : Int)
    (wordI (sat32 ((y.toInt * s.appFld (F.MOD_CH_VNOM_value c)).tdiv (max vb vmin))), vb < vmin)
  else (y, false)

/-- t_A of R255, before its clamp. -/
def tA (m : Word) (l d : Int) : Int := (2 ^ 31 + m.toInt) * (l - 2 * d) / 2 ^ 32

/-- t_A of R255, and whether it was clamped. -/
def tAClamp (m : Word) (l d mp : Int) : Int × Bool :=
  let t := tA m l d
  if t < mp then (mp, true) else if l - 2 * d - mp < t then (l - 2 * d - mp, true) else (t, false)

/-- The edges of a period after its start (R255). -/
def periodEdges (d t : Int) : List PinEdge :=
  [⟨false, d, true⟩, ⟨false, d + t, false⟩, ⟨true, 2 * d + t, true⟩]

/-- Place the edges of a period of length l, and drive them. -/
def State.placePeriod (s : State) (c : Fin 32) (t0 l : Nat) (m : Word) : State :=
  let d := s.appFld (F.MOD_CH_DEAD_dead c)
  let a := tAClamp m l d (s.appFld F.MOD_MINPULSE_mp)
  let s := if a.2 then s.count (R.MOD_CH_CLIP_CNT c) else s
  let es := periodEdges d a.1 ++ [⟨true, l, false⟩]
  let s := s.putAmp1 c { s.amp1 c with per := some ⟨t0, m⟩, edges := es }
  if s.drivesLegs c then s.emit (.pwm c (es.map fun e => e.time.toNat)) else s

/-! ## Listen-back (R237, R238) -/

/-- Two edges match within a tolerance. -/
def edgeNear (tol : Nat) (a b : PinEdge) : Bool :=
  a.legB == b.legB && a.level == b.level && (a.time - b.time).natAbs ≤ tol

/-- Every edge of one list has a match in the other. -/
def edgesIn (tol : Nat) (a b : List PinEdge) : Bool := a.all fun e => b.any (edgeNear tol e)

/-- Captured and computed edges, and the level of PSTAGE_EN_N, match (R237). -/
def State.lbMatch (s : State) (x : AmpCh) (captured : List PinEdge) (pstage : Bool) : Bool :=
  let tol := s.fld F.TWN_LB_CFG_tol
  edgesIn tol captured x.edges && edgesIn tol x.edges captured && pstage == !x.stage

/-- Two clock edges match within a tolerance (R237). -/
def clkNear (tol : Nat) (a b : ClkEdge) : Bool := a.line == b.line && a.level == b.level && (a.time - b.time).natAbs ≤ tol

/-- Each edge of either list has a match in the other (R237). -/
def clkMatch (tol : Nat) (a b : List ClkEdge) : Bool := a.all (fun e => b.any (clkNear tol e)) && b.all fun e => a.any (clkNear tol e)

/-- The edges of the sense clock of a channel's group in a span of `l` fine counts from `t` (R237, R260): it rises at the multiples of
its period of network time (its phase is a DESIGN CHOICE, log entry 49). -/
def State.sclkEdges (s : State) (c t l : Nat) : List ClkEdge :=
  let h := 4 * s.fld F.SNS_CLK_CFG_div
  let i := (t + h - 1) / h
  if (s.fld F.SNS_CLK_CFG_clk_en).testBit (c / 8) then
    ((List.range (l / h + 1)).map fun k => (⟨.sclk, ((i + k) * h - t : Nat), (i + k) % 2 = 0⟩ : ClkEdge)).filter fun e => e.time < l
  else []

/-- The period that ends when period j of a channel starts: its start and its length. One that does not switch has the schedule's. -/
def State.periodBefore (s : State) (c j : Nat) (x : AmpCh) : Nat × Nat :=
  match x.per with
  | some p => (p.t0, x.edges.foldl (fun n e => max n e.time.toNat) 0)
  | none => (s.periodStart c (j - 1), s.periodStart c j - s.periodStart c (j - 1))

/-- The sense clock read back over the period that ends matches (R237). -/
def State.lbSclk (s : State) (c j : Nat) (x : AmpCh) (sclk : List ClkEdge) : Bool :=
  let p := s.periodBefore c j x
  clkMatch (s.fld F.TWN_LB_CFG_tol) sclk (s.sclkEdges c p.1 p.2)

/-- Listen-back runs (R237). -/
def State.lbOn (s : State) : Bool := s.equinox && s.flag F.TWN_CTRL_lb_en

/-- A listen-back or owned-pin drive fault (R238). -/
def State.lbFault (s : State) (f : Fld) (x cnt : Nat) : State :=
  let self := s.isOwner
  let s := s.setFld f x
  let s := (s.setFlag F.TWN_LB_STATUS_self self).setFlag F.TWN_STATUS_lb_err true
  let s := s.setTwn fun t => { t with lbOk := false }
  if self then s.raise 19 (s.reg R.TWN_LB_STATUS) else (s.count cnt).raise 18 (s.reg R.TWN_LB_STATUS)

/-- One comparison of a channel's period (R237, R238). -/
def State.lbPwmTake (s : State) (c : Nat) (ok : Bool) : State :=
  let n := if ok then 0 else Tbl.get (fun _ => 0) s.twn.lbPwm c + 1
  let full := max 1 (s.fld F.TWN_LB_CFG_pwm_n) ≤ n
  let s := s.setTwn fun t => { t with lbPwm := Tbl.set (fun _ => 0) t.lbPwm c (if full then 0 else n) }
  if full then s.lbFault F.TWN_LB_STATUS_channel c R.TWN_LB_PWM_CNT else s

/-- One comparison of a port's frame (R237, R238). -/
def State.lbTdmTake (s : State) (p : Nat) (ok : Bool) : State :=
  let n := if ok then 0 else Tbl.get (fun _ => 0) s.twn.lbTdm p + 1
  let full := max 1 (s.fld F.TWN_LB_CFG_tdm_n) ≤ n
  let s := s.setTwn fun t => { t with lbTdm := Tbl.set (fun _ => 0) t.lbTdm p (if full then 0 else n) }
  if full then s.lbFault F.TWN_LB_STATUS_port p R.TWN_LB_TDM_CNT else s

/-- Listen-back of the period that ends, of a channel that neither module has tripped (R237). -/
def State.lbPeriod (s : State) (c : Fin 32) (j : Nat) (captured : List PinEdge) (pstage : Bool) (sclk : List ClkEdge) (theirTrip : Bool) : State :=
  let x := s.amp1 c
  if s.lbOn && x.st ≠ .tripped && !theirTrip then s.lbPwmTake c (s.lbMatch x captured pstage && s.lbSclk c j x sclk) else s

/-- The period j of channel c starts (R255, R258, R263). -/
def State.periodStartCh (s : State) (c : Fin 32) (j : Nat) : State :=
  let x := s.amp1 c
  let s := s.setTwn fun t => { t with enter := if x.st.switching then t.enter.filter (· ≠ c.val) else t.enter }
  if x.last then s.haltCh c .off 0
  else if x.st.switching then
    let t0 := s.periodStart c j
    let l := s.periodStart c (j + 1) - t0
    let mv := s.modValue c x t0 l
    let s := if mv.2 then (s.count (R.MOD_CH_UV_CNT c)).setFlag (F.MOD_CH_STATUS_uv c) true else s
    let s := s.placePeriod c t0 l mv.1
    let z := match x.at (s.modPoint t0 l).1 with | some m => m.g0 | none => true
    if x.stopping && z then s.putAmp1 c { s.amp1 c with last := true } else s
  else s

/-- PWM_PERIOD_START: `captured` are the edges of the period that ends, as read from the pins, `pstage` the level of PSTAGE_EN_N,
`sclk` the edges of the group's sense clock; `theirTrip` says that the partner reports the channel tripped (R237). -/
def execPwmPeriodStart (c : Fin 32) (j : Nat) (captured : List PinEdge) (pstage : Bool) (s : State) (sclk : List ClkEdge := [])
    (theirTrip : Bool := false) : Host.Outcome State Fault Refusal :=
  .next ((s.lbPeriod c j captured pstage sclk theirTrip).periodStartCh c j)

/-- The first j from `lo` on, of n, whose period of channel c starts at or after t. -/
def State.firstPeriod (s : State) (c t : Nat) : Nat → Nat → Nat
  | 0, lo => lo
  | n + 1, lo => if t ≤ s.periodStart c lo then lo else s.firstPeriod c t n (lo + 1)

/-- R276: the period that runs ends at the first start of the new schedule at least half a period after its own start,
which the step has moved by `sh` fine counts. -/
def State.stepPeriod (s : State) (c : Fin 32) (sh : Int) : State :=
  let x := s.amp1 c
  match x.per with
  | none => s
  | some p =>
    if !x.st.switching then s
    else
      let t0 := ((p.t0 : Int) + sh).toNat
      let lo := t0 * 8192 / s.pq
      let j := s.firstPeriod c (t0 + (s.pq + 16383) / 16384) 6 (lo - 2)
      s.placePeriod c t0 (s.periodStart c j - t0) p.m

/-- R276 for every channel. -/
def State.stepPeriods (s : State) (sh : Int) : State := (List.finRange 32).foldl (fun s c => s.stepPeriod c sh) s

/-! ## The power limit (R273) -/

/-- Ticks of a sub-block. -/
def State.subTicks (s : State) (c : Nat) : Nat :=
  max 1 ((2 * s.appFld (F.SNS_CH_PWIN_window c) * s.fs + 64000 * s.T) / (128000 * s.T))

/-- pl of R273. -/
def State.powerLimit (s : State) (c : Nat) : Int :=
  lg (s.appFld (F.SNS_CH_PLIM_limit c) * 100000 * 2 ^ 62
    / (s.appFld (F.SNS_CH_VFS_v_fs c) * s.appFld (F.SNS_CH_IFS_i_fs c)))

/-- POWER_SUBBLOCK_END (R273). -/
def State.subEnd (s : State) (c : Nat) : State :=
  let x := s.amp1 c
  let n := s.subTicks c
  if !s.appFlag (F.SNS_CH_PLIM_en c) || x.subT < n then s
  else
    let sums := (x.sums ++ [x.sub]).drop (x.sums.length + 1 - 64)
    let mean := (max 0 sums.sum).toNat / (64 * n * s.T)
    let gt := min 0 ((s.powerLimit c - lg mean) / 2)
    let now := openDiv 0 (mean * s.appFld (F.SNS_CH_VFS_v_fs c) * s.appFld (F.SNS_CH_IFS_i_fs c)) (100000 * 2 ^ 62)
    (s.putAmp1 c { x with sums := sums, sub := 0, subT := 0, gt := gt }).setFld (F.SNS_CH_PNOW_mean c) (min 0x1FFFF now)

/-- POWER_SUBBLOCK_END. -/
def execPowerSubblockEnd (c : Fin 32) (s : State) : Host.Outcome State Fault Refusal := .next (s.subEnd c)

/-! ## Direct and staged registers (R254, R260, R277) -/

/-- A configuration error of the modulator, naming a register. -/
def State.modErr (s : State) (off : Nat) : State :=
  let s := s.setFlag F.MOD_STATUS_cfg_err true
  let sns := 0x510000 ≤ off
  (s.setFld F.MOD_CFG_ERR_offset (if sns then off - 0x510000 else off - 0x500000)).setFlag F.MOD_CFG_ERR_block sns

/-- R256 holds for every channel as applied. -/
def State.deadsOk (s : State) (span pq : Nat) : Bool :=
  (List.range 32).all fun c => deadOk span pq (s.appFld F.MOD_MINPULSE_mp) (s.appFld (F.MOD_CH_DEAD_dead c))

/-- A write of MOD_FSW (R254). -/
def State.writeFsw (s : State) (w : Word) : State :=
  let mode := bitsOf w 21 20
  let f := bitsOf w 19 0
  let badF := mode = 0 && (f < 300000 || 800000 < f)
  let pq := pqMode mode f
  let span := if mode = 0 then min 51 (s.fld F.MOD_DITHER_span) else 0
  if s.flag F.MOD_STATUS_running || badF || !s.deadsOk span pq then s.modErr R.MOD_FSW
  else (s.put R.MOD_FSW (w &&& 0x3FFFFF#32)).put R.MOD_PERIOD (word pq)

/-- MOD_FSW_WRITE. -/
def execModFswWrite (w : Word) (s : State) : Host.Outcome State Fault Refusal := .next (s.ifOn 17 fun s => s.writeFsw w)

/-- A write of MOD_DITHER (R254). -/
def State.writeDither (s : State) (w : Word) : State :=
  let span := if s.fld F.MOD_FSW_mode = 0 then min 51 (bitsOf w 5 0) else 0
  if s.flag F.MOD_STATUS_running || !s.deadsOk span s.pq then s.modErr R.MOD_DITHER
  else s.put R.MOD_DITHER (w &&& 0x3F#32)

/-- MOD_DITHER_WRITE. -/
def execModDitherWrite (w : Word) (s : State) : Host.Outcome State Fault Refusal := .next (s.ifOn 17 fun s => s.writeDither w)

/-- A write of SNS_CLK_CFG (R260): div only while SNS_CTRL.run is 0 and where it keeps the decimation ratio. -/
def State.writeSnsClk (s : State) (w : Word) : State :=
  let div := bitsOf w 5 0
  let s := s.setFld F.SNS_CLK_CFG_clk_en (bitsOf w 11 8)
  let ok := 25 ≤ div && div ≤ 50 && 614400000 % (div * s.fs) = 0 && 64 ≤ 614400000 / (div * s.fs)
    && 614400000 / (div * s.fs) ≤ 512
  if !ok then s.setFlag F.SNS_STATUS_cfg_err true
  else if s.flag F.SNS_CTRL_run then s
  else s.setFld F.SNS_CLK_CFG_div div

/-- SNS_CLK_CFG_WRITE. -/
def execSnsClkCfgWrite (w : Word) (s : State) : Host.Outcome State Fault Refusal := .next (s.ifOn 17 fun s => s.writeSnsClk w)

/-- SNS_DEC.r: the decimation ratio at the present fs (R260). -/
def State.snsDec (s : State) : Nat := 614400000 / (s.fld F.SNS_CLK_CFG_div * s.fs)

/-- A write of MOD_APPLY_LO (R277): with the word held for HI it arms the apply. -/
def State.armMod (s : State) (w : Word) : State :=
  let hi := Tbl.get (fun _ => s.reg R.MOD_APPLY_HI) s.whold R.MOD_APPLY_HI
  let s := { s with whold := Tbl.drop R.MOD_APPLY_HI s.whold }
  let s := (s.put R.MOD_APPLY_LO w).put R.MOD_APPLY_HI hi
  let s := s.setAmp fun a => { a with armed := some (s.pair R.MOD_APPLY_LO R.MOD_APPLY_HI), armedIn := s.tickNum }
  s.setFlag F.MOD_STATUS_apply_pend true

/-- MOD_APPLY_LO_WRITE. -/
def execModApplyLoWrite (w : Word) (s : State) : Host.Outcome State Fault Refusal := .next (s.ifOn 17 fun s => s.armMod w)

/-- A field of a register lies in a range. -/
def State.fldIn (s : State) (f : Fld) (lo hi : Nat) : Bool := lo ≤ s.fld f && s.fld f ≤ hi

/-- R270. -/
def State.pilotOk (s : State) (c : Nat) : Bool :=
  let f := s.fld (F.SNS_CH_PILOT_freq c)
  match s.fld (F.SNS_CH_PILOT_mode c) with
  | 0 => true
  | 1 => 800 ≤ f && f ≤ 1600
  | 2 => s.fld F.TCK_CFG_fs_sel ≠ 0 && 24000 ≤ f && f ≤ 40000
  | _ => false

/-- The measurement slots of a channel as staged (R261). -/
def State.snsStaged (s : State) (c : Nat) : List Nat :=
  (if s.flag (F.SNS_CH_CFG_v_en c) then [s.fld (F.SNS_CH_CFG_v_slot c)] else [])
    ++ (if s.flag (F.SNS_CH_CFG_i_en c) then [s.fld (F.SNS_CH_CFG_i_slot c)] else [])

/-- A task, a fixed block, a TDM input or a receive stream writes the slot (R48, R140, R189). -/
def State.slotWritten (s : State) (slot : Nat) : Bool :=
  s.tasks.any (fun k => k.outs.contains slot) || s.claimedBefore (s.tables [] s.tickNum) 3 0 slot
    || (List.range 16).any (fun p => (s.tdmInSlots p).contains slot)
    || s.str.rx.any (fun e => ctxOn e.2.ctx && (ctxSlots e.2.ctx).contains slot)

/-- The staged registers of channel c with their checks, in order of address: register, whether its check holds. -/
def State.modChecks (s : State) (c : Nat) : List (Nat × Bool) :=
  [(R.MOD_CH_CFG c, s.fld (F.MOD_CH_CFG_slot c) < s.nslots && s.fld (F.MOD_CH_CFG_vbus_slot c) < s.nslots),
    (R.MOD_CH_DEAD c, s.fldIn (F.MOD_CH_DEAD_dead c) 49 983
      && deadOk s.span s.pq (s.fld F.MOD_MINPULSE_mp) (s.fld (F.MOD_CH_DEAD_dead c))),
    (R.MOD_CH_VNOM c, s.fldIn (F.MOD_CH_VNOM_value c) 1 0x7FFFFFFF),
    (R.MOD_CH_VMIN c, s.fldIn (F.MOD_CH_VMIN_value c) 1 0x7FFFFFFF)]

/-- The same for the sense registers. -/
def State.snsChecks (s : State) (c : Nat) : List (Nat × Bool) :=
  let mine := s.snsStaged c
  let before := (List.range c).flatMap s.snsStaged
  [(R.SNS_CH_CFG c, s.fld (F.SNS_CH_CFG_v_slot c) < s.nslots && s.fld (F.SNS_CH_CFG_i_slot c) < s.nslots
      && mine.all (fun x => !s.slotWritten x && !before.contains x) && !(mine.length = 2 && mine.getD 0 0 = mine.getD 1 0)),
    (R.SNS_CH_VFS c, s.fldIn (F.SNS_CH_VFS_v_fs c) 1 1000000),
    (R.SNS_CH_IFS c, s.fldIn (F.SNS_CH_IFS_i_fs c) 1 1000000),
    (R.SNS_CH_TRIP c, s.fldIn (F.SNS_CH_TRIP_trip_n c) 1 2),
    (R.SNS_CH_PILOT c, s.pilotOk c),
    (R.SNS_CH_PAMP c, s.fldIn (F.SNS_CH_PAMP_amp c) 2147484 67909445),
    (R.SNS_CH_ZCFG c, s.fldIn (F.SNS_CH_ZCFG_interval c) 1 10 && s.fldIn (F.SNS_CH_ZCFG_drift c) 1 50),
    (R.SNS_CH_ZTH c, true),
    (R.SNS_CH_PLIM c, s.fldIn (F.SNS_CH_PLIM_limit c) 1 100000),
    (R.SNS_CH_PWIN c, s.fldIn (F.SNS_CH_PWIN_window c) 10 10000),
    (R.SNS_CH_PATT c, true), (R.SNS_CH_PREL c, true)]

/-- Every staged register of the two blocks with its check (R277). -/
def State.ampChecks (s : State) : List (Nat × Bool) :=
  (R.MOD_MINPULSE, s.fldIn F.MOD_MINPULSE_mp 0 983) :: (List.range 32).flatMap s.modChecks ++ (List.range 32).flatMap s.snsChecks

/-- The power limit of a channel starts anew where its enable goes to 1 (R273). -/
def State.startLimit (s : State) (was : Bool) (c : Nat) : State :=
  if !was && s.appFlag (F.SNS_CH_PLIM_en c) then
    s.putAmp1 c { s.amp1 c with gr := 0, gt := 0, sums := [], sub := 0, subT := 0 }
  else s

/-- Apply the staged registers (R277), or name the first whose check fails. -/
def State.applyAmp (s : State) : State :=
  let l := s.ampChecks
  match l.find? (fun e => !e.2) with
  | some e => s.modErr e.1
  | none =>
    let was := (List.range 32).map fun c => s.appFlag (F.SNS_CH_PLIM_en c)
    let s := l.foldl (fun s e => s.putApp e.1 (s.reg e.1)) s
    (List.range 32).foldl (fun s c => (s.startLimit (was.getD c false) c).noPilot c) s

/-- MOD_STAGED_APPLY (R277): the armed apply's tick has come. One armed in its tick or later has passed, and takes place at the next
boundary. -/
def State.modStagedApply (s : State) : State :=
  match s.amp.armed with
  | none => s
  | some n =>
    if s.tickNum < n || (n ≤ s.amp.armedIn && s.tickNum = s.amp.armedIn) then s
    else
      let s := (s.setAmp fun a => { a with armed := none }).setFlag F.MOD_STATUS_apply_pend false
      (if n < s.tickNum then s.setFlag F.MOD_STATUS_apply_late true else s).applyAmp

/-- MOD_STAGED_APPLY. -/
def execModStagedApply (s : State) : Host.Outcome State Fault Refusal := .next s.modStagedApply

/-- A read of MOD_IFIR_DATA (R258): idx advances. -/
def State.readIfir (s : State) : State :=
  let i := s.fld F.MOD_IFIR_IDX_idx
  { s.setFld F.MOD_IFIR_IDX_idx ((i + 1) % 1024) with lastRead := Config.ifir (i / 16) (i % 16) }

/-- MOD_IFIR_DATA_READ (R258). -/
def execModIfirDataRead (s : State) : Host.Outcome State Fault Refusal :=
  .next (if s.domOn 17 then s.readIfir else { s with lastRead := 0 })

end Sys2Proof.Machine
end

