-- ==== Sys2Proof/Machine/MacTx.lean ====
section
/-!
DEFINITION. The transmit side of the MACs (R307, R327, R330 to R334, R362, R363): management frames, PAUSE, low-power idle,
and what a link that goes down does to the traffic that waits.
-/

namespace Sys2Proof.Machine

/-- Update the lanes and MACs. -/
def State.setEth (s : State) (f : Eth → Eth) : State := { s with eth := f s.eth }

/-- The management transmit descriptor at a ring index, where the MAC has taken it up. -/
def State.mtx (s : State) (i : Nat) : Option MgmtTx := (s.eth.mtx.find? fun e => e.1 = i).map (·.2)

/-- Store it. -/
def State.setMtx (s : State) (i : Nat) (m : MgmtTx) : State := s.setEth fun t => { t with mtx := Tbl.put i m t.mtx }

/-- mtx_cons advances past the descriptors that are written back, in ring order (R345, R363): at most one ring of them. -/
def State.mtxAdvance : Nat → State → State
  | 0, s => s
  | n + 1, s =>
    let x := s.ring 10
    match s.mtx x.cons with
    | some m =>
      if m.back then
        State.mtxAdvance n ((s.setRing 10 { x with cons := (x.cons + 1) % 2 ^ 32 }).setEth fun t => { t with mtx := Tbl.drop x.cons t.mtx })
      else s
    | none => s

/-- The write-back of a completed descriptor (R362), while ring traffic is possible (R369, R372). -/
def State.mtxBack (s : State) (i : Nat) (m : MgmtTx) : State :=
  match m.status with
  | some st =>
    if s.traffic && !m.back then
      (s.emit (.hostWrite (s.ringBase 10 + i % s.ringSize 10 * 32 + 20) (leBytes 1 st ++ [0, 0, 0] ++ leBytes 4 m.stamp))).setMtx i
        { m with back := true }
    else s
  | none => s

/-- The write-backs that wait are made (R345). -/
def State.mtxFlush (s : State) : State :=
  (s.eth.mtx.foldl (fun s e => s.mtxBack e.1 e.2) s).mtxAdvance s.eth.mtx.length

/-- The management frame at ring index `i` completes (R362, R363): status and time stamp are written back. -/
def State.mtxDone (s : State) (i status stamp : Nat) : State :=
  match s.mtx i with
  | some m =>
    let m := { m with status := some status, stamp := stamp }
    let s := ((s.setMtx i m).mtxBack i m).count R.HIF_MTX_CNT
    s.mtxAdvance s.eth.mtx.length
  | none => s

/-- Management frames that wait on a port complete with LINK_DOWN (R332). -/
def State.mgmtLinkDown (s : State) (n : Nat) : State :=
  (s.eth.mtx.filter fun e => e.2.port = n && e.2.sent.isNone && e.2.status.isNone).foldl (fun s e => s.mtxDone e.1 stLinkDown 0) s

/-- A port's link goes down (R322, R332): counted, noted, the lane-down fault, and the traffic that waits is discarded. -/
def State.linkDown (s : State) (n : Nat) : State :=
  if s.flag (F.MAC_STATUS_link n) then
    let s := ((s.setFlag (F.MAC_STATUS_link n) false).setFlag (F.MAC_STATUS_link_chg n) true).count (R.MAC_LINK_DOWN_CNT n)
    let s := s.mgmtLinkDown n
    let s := if n < 3 then s.drainPort n else s
    s.raise 15 (word n)
  else s

/-- A port's correction register in ps (R301). -/
def State.portLat (s : State) (tx : Bool) (n : Nat) : Int :=
  (s.reg (if tx then R.TIM_PORT_LAT_TX n else R.TIM_PORT_LAT_RX n)).toInt

/-- A port's current speed: MAC_CTRL.speed, and on the management port in SGMII 16 + MAC_STATUS.sgmii_speed (R316). -/
def State.macSpeed (s : State) (n : Nat) : Nat :=
  if n = 3 && s.flag (F.MAC_CTRL_speed 3) then 16 + s.fld (F.MAC_STATUS_sgmii_speed 3) else s.fld (F.MAC_CTRL_speed n)

/-- The module's own latency at a port's current speed and FEC mode, in ps (R301). -/
def State.macLat (s : State) (tx : Bool) (n : Nat) : Nat :=
  Config.macLatPs tx n (s.macSpeed n) (s.fld (F.MAC_CTRL_fec n) % 3)

/-- The time at the land in ns, from the local clock at the boundary between PCS and PMA (R301). -/
def State.landStamp (s : State) (tx : Bool) (n raw : Nat) : Nat :=
  let own : Int := if tx then s.macLat tx n else -(s.macLat tx n : Int)
  (((raw : Int) * 1000 + own + s.portLat tx n) / 1000).toNat

/-- A frame is a PTP event message (R300, R301): message types 0 to 3 over Ethernet, or UDP port 319 (PRESUMED, IEEE 1588,
log entry 58); the offset of its PTP header. -/
def ptpHeader (f : List Byte) : Option Nat :=
  let t := frameType f
  let u := t.1 + beAt f t.1 1 % 16 * 4
  if t.2 = 0x88F7 && beAt f t.1 1 % 16 < 4 then some t.1
  else if t.2 = 0x0800 && beAt f (t.1 + 9) 1 = 17 && beAt f (u + 2) 2 = 319 then some (u + 8)
  else none

/-- A PTP event message's stamp goes to firmware (R301). -/
def State.ptpStamp (s : State) (n : Nat) (tx isPtp : Bool) (stamp : Nat) : State :=
  if isPtp && n < 3 then s.emit (.stamp n tx stamp) else s

/-- Put bytes at an offset of a frame. -/
def putAt (f : List Byte) (o : Nat) (b : List Byte) : List Byte := f.take o ++ b ++ f.drop (o + b.length)

/-- A Sync that passes in one-step form (R302): originTimestamp, the residence added into correctionField, and over UDP a
checksum of 0. The places are those of IEEE 1588 (PRESUMED, log entry 58); `res` is the residence in 2^-16 ns. -/
def State.oneStepSync (s : State) (f : List Byte) (o : Nat) (res : Int) : List Byte :=
  let cor := signExt 64 (beAt f (o + 8) 8) + res
  let f := putAt f (o + 8) (beBytes 8 (cor % 2 ^ 64).toNat)
  let f := putAt f (o + 34) (beBytes 6 s.netSec ++ beBytes 4 s.netSubNs)
  if (frameType f).2 = 0x0800 then putAt f (o - 2) [0, 0] else f

/-- A management frame as its port sends it (R302): on ports A to C with their bit of TIM_CFG.one_step a Sync passes in
one-step form. The residence is a free value: the spec gives none. -/
def State.passFrame (s : State) (n : Nat) (f : List Byte) : State × List Byte :=
  match ptpHeader f with
  | some o =>
    if n < 3 && (s.fld F.TIM_CFG_one_step).testBit n && beAt f o 1 % 16 = 0 then
      (s.tick1, s.oneStepSync f o (Config.freeInt s.fresh))
    else (s, f)
  | none => (s, f)

/-- Nanoseconds from now to a launch time of 32 bits, the congruent time nearest to now (R307). -/
def State.launchIn (s : State) (w : Nat) : Int := signExt 32 (w + 2 ^ 32 - s.stamp)

/-- The transmitter leaves low-power idle (R334). -/
def State.leaveLpi (s : State) : State :=
  if s.flag (F.MAC_STATUS_lpi_tx 3) then (s.setFlag (F.MAC_STATUS_lpi_tx 3) false).emit (.macSignal 3 1) else s

/-- The frame of an entry starts (R327, R362); `late` where it completes LATE. -/
def State.startMgmt (s : State) (i : Nat) (m : MgmtTx) (frame : List Byte) (late : Bool) : State :=
  let r := s.passFrame m.port frame
  let s := (r.1.emit (.frame m.port (withFcs r.2))).count (R.MAC_TX_FRM_CNT m.port)
  s.setMtx i { m with sent := some late, ptp := (ptpHeader frame).isSome }

/-- Ring order (R363): an earlier descriptor of the same port has not been sent, or an earlier one of any port has not been taken up
yet. -/
def State.mgmtBehind (s : State) (p i : Nat) : Bool :=
  let c := (s.ring 10).cons
  (List.range (dist i c)).any (fun j => (s.mtx ((c + j) % 2 ^ 32)).isNone)
    || s.eth.mtx.any fun e => e.2.port = p && e.2.sent.isNone && e.2.status.isNone && dist e.1 c < dist i c

/-- What a transmit descriptor must hold (R362). -/
def mtxBad (d : List Byte) : Bool := 3 < leAt d 10 1 || 3 < leAt d 11 1 || leAt d 8 2 < 14 || leAt d 28 4 ≠ 0

/-- The transmit wake time in ns (R334): 0 is taken as 1 us. -/
def State.wakeNs (s : State) : Nat := max 1 (s.fld (F.MAC_EEE_tw 3)) * 1000

/-- A launch time that cannot be met any more: the frame completes LATE, which is counted once (R307, R331, R334). -/
def State.holdMgmt (s : State) (i : Nat) (m : MgmtTx) : State :=
  if m.held || m.launch.isNone then s.setMtx i m else (s.setMtx i { m with held := true }).count R.TIM_LATE_LAUNCH_CNT

/-- Media packets wait on the port, ahead of a management frame (R198). -/
def State.mediaWaits (s : State) (p : Nat) : Bool := p < 3 && !(s.txQueue p).isEmpty

/-- A taken-up frame whose link is up starts where it may (R198, R307, R331, R334): with a launch time in the future, within
8 ns before it. Its launch time is not in the future when it is `new` and past, or when it falls while the port cannot send. -/
def State.mgmtGo (s : State) (p i : Nat) (new : Bool) (m : MgmtTx) (frame : List Byte) : State :=
  let left : Int := match m.launch with
    | some w => s.launchIn w
    | none => 0
  let lpi := p = 3 && s.flag (F.MAC_STATUS_lpi_tx 3)
  let wake : Int := s.wakeNs
  if m.launch.isSome && 8 < left then
    if !lpi || wake < left then s.setMtx i m else (if left < wake then s.holdMgmt i m else s.setMtx i m).leaveLpi
  else if lpi then (s.holdMgmt i m).leaveLpi
  else if !s.portSends p || s.mediaWaits p then s.holdMgmt i m
  else
    let s := if new && left ≤ 0 || left < -8 then s.holdMgmt i m else s.setMtx i m
    let m := (s.mtx i).getD m
    s.startMgmt i m frame m.held

/-- The descriptor at position `k` from mtx_cons is taken up, with reads of it and of the frame, and its frame starts where it may (R307, R331, R332, R334, R362). -/
def State.mgmtLaunch (s : State) (p k : Nat) (d frame : List Byte) : State :=
  let x := s.ring 10
  let i := (x.cons + k) % 2 ^ 32
  let flags := leAt d 11 1
  let m := (s.mtx i).getD
    { port := p, ts := flags.testBit 0, launch := if flags.testBit 1 then some (leAt d 12 4) else none }
  let bad := mtxBad d
  if !s.traffic || !x.en || dist x.prod x.cons ≤ k || m.sent.isSome || m.status.isSome || s.mgmtBehind p i
      || (!bad && leAt d 10 1 ≠ p) then s
  else
    let new := (s.mtx i).isNone
    let t := if new then s.emit (.hostRead (s.ringBase 10 + i % s.ringSize 10 * 32) 32) else s
    let t := t.setMtx i m
    if bad then t.mtxDone i stBadArg 0
    else if s.fld (F.MAC_CFG_max_len p) < leAt d 8 2 + 4 then t.mtxDone i stTooLong 0
    else if !s.flag (F.MAC_STATUS_link p) then t.mtxDone i stLinkDown 0
    else ((if new then t.readHost (leAt d 0 8) (leAt d 8 2) else t)).mgmtGo p i new m (frame.take (leAt d 8 2))

/-- MGMT_FRAME_LAUNCH (R307): the descriptor and the frame's bytes as the host's memory holds them. -/
def execMgmtFrameLaunch (port : Fin 4) (k : Nat) (desc frame : List Byte) (s : State) : Host.Outcome State Fault Refusal :=
  .next (s.mgmtLaunch port k desc frame)

/-- The oldest frame of a port that is sent and not completed. -/
def State.mgmtSent (s : State) (p : Nat) : Option (Nat × MgmtTx) :=
  let c := (s.ring 10).cons
  (s.eth.mtx.filter fun e => e.2.port = p && e.2.sent.isSome && e.2.status.isNone).foldl
    (fun b e => match b with
      | none => some e
      | some o => if dist e.1 c < dist o.1 c then some e else some o) none

/-- The oldest sent frame of a port completes, with the local clock at the boundary between PCS and PMA (R301, R362, R363). -/
def State.mgmtComplete (s : State) (p raw : Nat) : State :=
  match s.mgmtSent p with
  | some e =>
    let at0 := s.landStamp true p raw
    let s := s.ptpStamp p true e.2.ptp at0
    s.mtxDone e.1 (if e.2.sent = some true then stLate else stOk) (if e.2.ts then at0 else 0)
  | none => s

/-- MGMT_FRAME_COMPLETE (R301, R362, R363): `raw` is the local clock in ns, C in FREE format, as the frame passed the boundary
between PCS and PMA. -/
def execMgmtFrameComplete (port : Fin 4) (raw : Nat) (s : State) : Host.Outcome State Fault Refusal :=
  .next (s.mgmtComplete port raw)

/-! ## PAUSE (R330) -/

/-- The length of a PAUSE quantum at a port's speed, in hundredths of 1/6 ns: 512 bit times (R330). -/
def State.quantum (s : State) (n : Nat) : Nat :=
  if n = 3 then
    if !s.flag (F.MAC_CTRL_speed 3) then 307200
    else match s.fld (F.MAC_STATUS_sgmii_speed 3) with
      | 0 => 30720000
      | 1 => 3072000
      | _ => 307200
  else if n < 2 && !s.flag (F.MAC_CTRL_speed n) then 12288 else 30720

/-- Pause time left, in quanta, rounded up (MAC_PAUSE_LEFT). -/
def State.pauseLeft (s : State) (n : Nat) : Nat :=
  match s.eth.pause.find? fun e => e.1 = n with
  | some e =>
    let left := e.2.quanta * s.quantum n - (s.clk.freeU - e.2.since) * 100
    (left + s.quantum n - 1) / s.quantum n
  | none => 0

/-- The transmitter resumes. -/
def State.pauseEnds (s : State) (n : Nat) : State :=
  if s.flag (F.MAC_STATUS_paused n) then
    let s := (s.setFlag (F.MAC_STATUS_paused n) false).setEth fun t => { t with pause := Tbl.drop n t.pause }
    if n < 3 then s.drainPort n else s
  else s

/-- A PAUSE frame (R330): it replaces the time left; a quanta of 0 ends the pause at once. -/
def State.takePause (s : State) (n q : Nat) : State :=
  let s := s.count (R.MAC_RX_PAUSE_CNT n)
  if !s.flag (F.MAC_CFG_pause_rx n) then s
  else if q = 0 then s.pauseEnds n
  else (s.setFlag (F.MAC_STATUS_paused n) true).setEth fun t => { t with pause := Tbl.put n ⟨s.clk.freeU, q⟩ t.pause }

/-- PAUSE_END (R330): once the quanta have passed. -/
def execPauseEnd (n : Fin 4) (s : State) : Host.Outcome State Fault Refusal := .next (if s.pauseLeft n = 0 then s.pauseEnds n else s)

/-! ## Low-power idle (R334) -/

/-- A management frame of port 3 waits that keeps its transmitter out of low-power idle: one without a launch time, or with
one within tw + idle (R334). -/
def State.mgmtWaits (s : State) : Bool :=
  s.eth.mtx.any fun e => e.2.port = 3 && e.2.sent.isNone && e.2.status.isNone && match e.2.launch with
    | some w => s.launchIn w ≤ ((s.wakeNs + max 1 (s.fld (F.MAC_EEE_IDLE_idle 3)) * 1000 : Nat) : Int)
    | none => true

/-- The management port's transmitter enters low-power idle (R334): with MAC_EEE.en = 1 and nothing to send. -/
def State.enterLpi (s : State) : State :=
  if s.flag (F.MAC_EEE_en 3) && s.flag (F.MAC_STATUS_link 3) && !s.flag (F.MAC_STATUS_lpi_tx 3) && !s.mgmtWaits then
    ((s.setFlag (F.MAC_STATUS_lpi_tx 3) true).count (R.MAC_LPI_TX_CNT 3)).emit (.macSignal 3 0)
  else s

/-- A link partner begins or ends LPI (R333, R334): each beginning is counted, on every port. -/
def State.lpiReceived (s : State) (n : Nat) (on : Bool) : State :=
  if on && !s.flag (F.MAC_STATUS_lpi_rx n) then (s.setFlag (F.MAC_STATUS_lpi_rx n) true).count (R.MAC_LPI_RX_CNT n)
  else if on then s
  else s.setFlag (F.MAC_STATUS_lpi_rx n) false

end Sys2Proof.Machine
end

