-- ==== Sys2Proof/Machine/Clock.lean ====
section
/-!
DEFINITION. Media clock, references and network time (R279 to R312): the oscillator and the DCO, qualifying and choosing
references, the DPLL, slews and steps of the grid, holdover, setting the time, timers, PPS and the calendar.
-/

namespace Sys2Proof.Machine

/-- Update the clock block. -/
def State.setClkx (s : State) (f : ClkX → ClkX) : State := { s with clkx := f s.clkx }

/-- Update the local clock. -/
def State.setClk (s : State) (f : Clock → Clock) : State := { s with clk := f s.clk }

/-- A register word as a signed number. -/
def State.regI (s : State) (o : Nat) : Int := (s.reg o).toInt

/-- A signed number saturated to a width. -/
def satN (w : Nat) (i : Int) : Int := max (-(2 : Int) ^ (w - 1)) (min (2 ^ (w - 1) - 1) i)

/-- A signed 64-bit LO/HI pair. -/
def State.pairI (s : State) (lo hi : Nat) : Int := signExt 64 (s.pair lo hi)

/-- Store a signed 64-bit number in a LO/HI pair. -/
def State.putPairI (s : State) (lo hi : Nat) (i : Int) : State := s.putPair lo hi (BitVec.ofInt 64 i).toNat

/-! ## Oscillator and DCO (R279 to R281) -/

/-- The oscillator selected at the reset is present: its level, or in the cycle in which PD_CLK is released, no standing condition
(R516). -/
def State.oscThere (s : State) : Bool := s.flag F.CLK_STATUS_osc_ok || (s.pwr.levels.contains 1 && !s.condActive 12)

/-- R281: the media-clock error follows the oscillator, the media PLL and a clamp of more than 1 s; the channels follow it (R275). -/
def State.mclkCheck (s : State) : State :=
  let long := match s.clkx.clampAt with
    | some u => u + secU < s.clk.freeU
    | none => false
  let err := !s.oscThere || !s.clkx.pll || long
  let s := s.setFlag F.CLK_STATUS_mclk_err err
  if s.domOn 17 && s.flag F.MOD_STATUS_clk_err ≠ err then s.muteAll err else s

/-- CHANNEL_MUTE (R275, R281): the media PLL loses or gains lock. -/
def execChannelMute (pllLock : Bool) (s : State) : Host.Outcome State Fault Refusal :=
  .next (s.setClkx fun x => { x with pll := pllLock }).mclkCheck

/-- Units in 60 s (R297). -/
abbrev minuteU : Nat := 60 * secU

/-- A list of values with their durations, cut to a total of `n` units. -/
def cutSpan : Nat → List (Int × Nat) → List (Int × Nat)
  | _, [] => []
  | n, (v, d) :: xs => if n = 0 then [] else (v, min n d) :: cutSpan (n - d) xs

/-- The DCO value since it was noted last counts for u0 of R297 while the DPLL is in TRACK. -/
def State.noteDco (s : State) : State :=
  let d := s.clk.freeU - s.clkx.dcoU
  let x := (s.regI R.CLK_DCO_NOW, d)
  let l := if s.fld F.CLK_STATUS_dpll_state = 2 && d ≠ 0 then cutSpan minuteU (x :: s.clkx.dco) else s.clkx.dco
  s.setClkx fun c => { c with dco := l, dcoU := s.clk.freeU }

/-- Change the DPLL's state (R290); the time in TRACK ends or begins for R297, and the times within and above the limits begin anew. -/
def State.setDpll (s : State) (v : Nat) : State :=
  ((s.noteDco).setFld F.CLK_STATUS_dpll_state v).setClkx fun c => { c with inU := none, outU := none }

/-- Write r of R304 with the DCO value; O takes the difference, so that network time does not jump (DEDUCED from R281 and R304:
each tick holds T sample periods of network time; log entry 32). -/
def State.setRate (s : State) (r : Int) : State :=
  let o := s.offset + (s.freeC : Int) * s.rate / 2 ^ 16 - (s.freeC : Int) * r / 2 ^ 16
  let s := (s.putApp R.TIM_RATE_LO (wordI r)).putApp R.TIM_RATE_HI (wordI (r / 2 ^ 32) &&& 0xFF#32)
  ((s.putApp (R.TIM_OFS 0) (wordI o)).putApp (R.TIM_OFS 1) (wordI (o / 2 ^ 32))).putApp (R.TIM_OFS 2) (wordI (o / 2 ^ 64))

/-- Write the DCO value, clamped to its range (R280). In FREE format r goes with it (R304). -/
def State.setDco (s : State) (ppt : Int) : State :=
  let s := s.noteDco
  let v := max (-200000000) (min 200000000 ppt)
  let s := (s.put R.CLK_DCO_NOW (wordI v)).setFlag F.CLK_STATUS_dco_clamp (v ≠ ppt)
  let at0 := if v = ppt then none else some (s.clkx.clampAt.getD s.clk.freeU)
  let s := s.setClkx fun x => { x with clampAt := at0 }
  let s :=
    if s.isFree && !s.flag F.CLK_CTRL_manual then s.setRate (openDivI 3 (v * 2 ^ 48) 1000000000000) else s
  s.mclkCheck

/-- Under manual control the DCO value is CLK_DCO_STEER (R280). -/
def State.steer (s : State) : State := if s.flag F.CLK_CTRL_manual then s.setDco (s.regI R.CLK_DCO_STEER) else s

/-- OSCILLATOR_FAULT (R279, R281): the oscillator selected at the reset fails, and the module runs from the TCXO (0). -/
def State.oscFault (s : State) : State :=
  let sel := s.clkx.osc
  let s := (s.setFlag F.CLK_STATUS_osc_ok false).setClkx fun x => { x with osc := 0 }
  let s := { s with pwr := { s.pwr with levels := s.pwr.levels.filter (· ≠ 1) } }
  (s.mclkCheck).condBegin 12 (word sel)

/-- OSCILLATOR_FAULT. -/
def execOscillatorFault (s : State) : Host.Outcome State Fault Refusal := .next s.oscFault

/-! ## References (R282 to R286) -/

/-- A reference. -/
def State.ref (s : State) (n : Nat) : Ref := Tbl.get (fun _ => {}) s.clkx.refs n

/-- A reference's priority; 0 disables it (R286, R287). -/
def State.prio (s : State) (n : Nat) : Nat := s.fld (F.CLK_REF_CFG_prio n)

/-- A reference is in a dispute (R288). -/
def State.disputed (s : State) (n : Nat) : Bool := s.clkx.disputes.any fun d => d.a = n || d.b = n

/-- CLK_REF_STATUSn (R283). -/
def State.refStatus (s : State) (n : Nat) : State :=
  let r := s.ref n
  let st := if s.prio n = 0 then 0 else if r.q then (if s.disputed n then 4 else 3) else if r.act then 2 else 1
  let s := s.setFld (F.CLK_REF_STATUS_state n) st
  let s := s.setFld (F.CLK_REF_STATUS_holdoff_left n) (r.wait.getD 0)
  s.setFld (F.CLK_REF_STATUS_freq n) (wordI (satN 16 (openDivI 2 r.ppb 10))).toNat

/-- Store a reference. -/
def State.setRef (s : State) (n : Nat) (r : Ref) : State :=
  (s.setClkx fun x => { x with refs := Tbl.set (fun _ => {}) x.refs n r }).refStatus n

/-- The reference's phase offset: the mean of its last updates, in ps (R282). -/
def Ref.phase (r : Ref) : Int := if r.phases.isEmpty then 0 else openDivI 2 r.phases.sum r.phases.length

/-- The selected reference; 7 for none. -/
def State.sel (s : State) : Nat := s.fld F.CLK_STATUS_sel_ref

/-- The reference carries time of day (R282). -/
def isTimeRef (n : Nat) : Bool := 4 ≤ n && n ≤ 6

/-- Rank of a reference: reference 6 above all (R286), then by priority and index (R287). -/
def State.rank (s : State) (n : Nat) : Nat := if n = 6 then 0 else s.prio n * 8 + n

/-- The rank without the index: what decides whether one reference is better than another. -/
def State.level3 (s : State) (n : Nat) : Nat := if n = 6 then 0 else s.prio n

/-- A reference is enabled and qualified. -/
def State.qualified (s : State) (n : Nat) : Bool := s.prio n ≠ 0 && (s.ref n).q

/-- A reference may be chosen: of a disputed pair the one that R288 keeps. -/
def State.mayChoose (s : State) (n : Nat) : Bool :=
  s.qualified n && s.clkx.disputes.all fun d => (d.a ≠ n && d.b ≠ n) || d.keep = n

/-- The best of the references that `p` picks. -/
def State.bestOf (s : State) (p : Nat → Bool) : Option Nat :=
  (List.range 7).foldl
    (fun (b : Option Nat) n =>
      if !p n then b
      else match b with
        | none => some n
        | some m => if s.rank n < s.rank m then some n else b)
    none

/-- The reference that R287 prefers; where disputes leave none of the qualified ones, the best of those. -/
def State.bestRef (s : State) : Option Nat :=
  match s.bestOf s.mayChoose with
  | some n => some n
  | none => s.bestOf s.qualified

/-! ## Offsets, selection, the DPLL (R287 to R292, R296) -/

/-- The DPLL's state: 0 FREERUN, 1 ACQUIRE, 2 TRACK, 3 HOLDOVER. -/
def State.dpll (s : State) : Nat := s.fld F.CLK_STATUS_dpll_state

/-- Set TCK_STATUS.time_src and grid_valid (R17, R290). -/
def State.setTimeSrc (s : State) (v : Nat) : State :=
  (s.setFld F.TCK_STATUS_time_src v).setFlag F.TCK_STATUS_grid_valid (v ≠ 3)

/-- CLK_BUILDOUT in ps. -/
def State.buildout (s : State) : Int := s.pairI R.CLK_BUILDOUT_LO R.CLK_BUILDOUT_HI

/-- Set CLK_BUILDOUT. -/
def State.setBuildout (s : State) (i : Int) : State := s.putPairI R.CLK_BUILDOUT_LO R.CLK_BUILDOUT_HI i

/-- An offset in ps waits for the next boundary (R293), with the references of R520. -/
def State.addOffset (s : State) (ps : Int) (a b : Nat) : State :=
  s.setClkx fun x => { x with offs := x.offs + ps, offAny := true, offFrom := if x.offAny then x.offFrom else a, offTo := b }

/-- NETWORK mode (R293). -/
def State.network (s : State) : Bool := s.flag F.CLK_CTRL_mode

/-- One microsecond in ps. -/
abbrev oneUs : Int := 1000000

/-- Move the local clock by an offset in ps at once (R290, R306): in FREE format in O (R304). -/
def State.moveTime (s : State) (ps : Int) : State :=
  let o := s.offset + ps * 2 ^ 32 / 1000
  let s :=
    if s.isFree then
      ((s.putApp (R.TIM_OFS 0) (wordI o)).putApp (R.TIM_OFS 1) (wordI (o / 2 ^ 32))).putApp (R.TIM_OFS 2) (wordI (o / 2 ^ 64))
    else s
  s.setGridU (if s.isFree then s.timeU else ((s.gridU : Int) + ps * 6 / 1000).toNat)

/-- What a difference between the local clock and a newly selected reference does (R290, R292, R293, R296). -/
def State.switchOffset (s : State) (old new : Nat) : State :=
  let ps := (s.ref new).phase
  if s.dpll = 0 && isTimeRef new && !s.ticking && oneUs < ps.natAbs then s.moveTime ps
  else if old = 6 then
    if (ps.natAbs : Int) ≤ oneUs then s.addOffset ps old new else s.setBuildout (s.buildout + ps)
  else if s.network then s.addOffset ps old new
  else s.setBuildout (s.buildout + ps)

/-- Detector update rate of a reference in mHz (R282). -/
def State.refRate (s : State) (n : Nat) : Nat :=
  if n = 6 then s.fs * 1000 / s.T
  else if 4 ≤ n then Config.syncRate n
  else match s.fld (F.CLK_REF_CFG_kind n) with
    | 0 => s.fs * 1000 / s.T
    | 2 => 1000
    | _ => 1000000

/-- The loop bandwidth for a configured one (R291): the largest at or below it and a twentieth of the update rate. -/
def State.loopBw (s : State) (n cfg : Nat) : Nat :=
  (List.range 7).foldl (fun b k => if k ≤ min 6 cfg && 20 * 10 ^ k ≤ s.refRate n then k else b) 0

/-- Select a reference (R287, R290): the switch is counted and posted, its offset handled, the DPLL acquires. -/
def State.switchTo (s : State) (old new : Nat) : State :=
  let s := s.switchOffset old new
  let s := s.setFld F.CLK_STATUS_sel_ref new
  let s := (s.setFlag F.CLK_STATUS_switching true).setFlag F.CLK_STATUS_switch_evt true
  let s := (s.setDpll 1).setClkx fun x => { x with bw := s.loopBw new 5 }
  (s.count R.CLK_SWITCH_CNT).postEvent 5 1 [BitVec.ofNat 8 old, BitVec.ofNat 8 new]

/-- u of R297 from the coefficients in effect, in fixed point, before its rounding. -/
def State.holdoverFix (s : State) (u0 : Int) : Int :=
  let c := fun o => (s.app o).toInt
  let d := signExt 16 (s.fld F.CLK_OSC_TEMP_theta) - signExt 16 (bitsOf (s.app R.CLK_HO_T0) 15 0)
  let t := (s.reg R.CLK_HO_AGE).toNat
  let temp := if s.flag F.CLK_HO_CTRL_t_valid then
      c R.CLK_HO_C1 * d * fixOne / 2 ^ 16 + c R.CLK_HO_C2 * d ^ 2 * fixOne / 2 ^ 32 + c R.CLK_HO_C3 * d ^ 3 * fixOne / 2 ^ 48
    else 0
  let age := if s.flag F.CLK_HO_CTRL_a_valid then
      c R.CLK_HO_A * t * fixOne / (256 * 86400) + c R.CLK_HO_B * fixLn (86400 + t) 86400
    else 0
  u0 * fixOne + temp + age

/-- u0 of R297: learned, or the mean DCO value of the last 60 s in TRACK, weighted by time; before any time in TRACK the spec
gives none (a free value, log entry 4). -/
def State.holdoverU0 (s : State) : Int :=
  let d := s.clkx.dco
  if s.flag F.CLK_HO_CTRL_u0_valid then (s.app R.CLK_HO_U0).toInt
  else if d.isEmpty then Config.freeInt s.fresh
  else openDivI 3 (d.map fun x => x.1 * (x.2 : Int)).sum (d.map fun x => (x.2 : Int)).sum

/-- u of R297 in ppt. -/
def State.holdoverU (s : State) : Int := satN 32 (openDivI 3 (s.holdoverFix s.holdoverU0) fixOne)

/-- Compute the holdover prediction (R297). -/
def State.predict (s : State) : State :=
  let s := s.noteDco
  (s.put R.CLK_HO_PRED (wordI s.holdoverU)).tick1

/-- No reference is left (R287, R290): HOLDOVER after a lock, FREERUN before any. -/
def State.toHoldover (s : State) : State :=
  let s := (s.setFld F.CLK_STATUS_sel_ref 7).setFlag F.CLK_STATUS_switching false
  if s.clkx.locked then
    let s := ((s.setDpll 3).setTimeSrc 1).predict
    if s.flag F.CLK_CTRL_manual then s else s.setDco (s.regI R.CLK_HO_PRED)
  else s.setDpll 0

/-- The selected reference is still one that may be selected. -/
def State.selOk (s : State) : Bool := s.sel ≠ 7 && s.qualified s.sel

/-- The reference that R288 takes in place of one of a disputed pair: the other of the pair, where it is the nearer. -/
def State.disputeTake (s : State) (n : Nat) : Option Nat :=
  (s.clkx.disputes.find? fun d => (d.a = n || d.b = n) && d.keep ≠ n && s.qualified d.keep).map (·.keep)

/-- R287 to R289: choose again. A switch in progress completes unless its reference is disqualified; of a disputed pair the one
that R288 keeps is taken, whatever third one there is; while the selected reference is disputed only reference 6 takes its place
(R286). -/
def State.reselect (s : State) : State :=
  let old := s.sel
  match s.bestRef with
  | none => if old = 7 then s else s.toHoldover
  | some n =>
    if !s.selOk then s.switchTo old n
    else if s.flag F.CLK_STATUS_switching then s
    else if !s.mayChoose old then
      let m := if n = 6 then n else (s.disputeTake old).getD n
      if m = old then s else s.switchTo old m
    else if s.level3 n < s.level3 old && (n = 6 || (s.flag F.CLK_CTRL_revertive && !s.disputed old)) then s.switchTo old n
    else s

/-- Drop the disputes of references that are no longer both qualified. -/
def State.pruneDisputes (s : State) : State :=
  let gone := s.clkx.disputes.filter fun d => !((s.ref d.a).q && (s.ref d.b).q)
  let s := s.setClkx fun x => { x with disputes := x.disputes.filter fun d => !gone.contains d }
  gone.foldl (fun s d => (s.refStatus d.a).refStatus d.b) s

/-- A break of a reference: a qualified one is disqualified (R284, R285), the hold-off of another restarts (R283). -/
def State.refBreak (s : State) (n : Nat) (act : Bool) : State :=
  let r := s.ref n
  let s := s.setRef n { r with q := false, wait := none, act := act }
  if !r.q || s.prio n = 0 then s
  else
    let s := ((s.pruneDisputes).count R.CLK_DISQ_CNT).setFlag F.CLK_STATUS_disq_evt true
    let after := if s.sel = n then s.bestRef.getD 7 else s.sel
    (s.postEvent 5 2 [BitVec.ofNat 8 n, BitVec.ofNat 8 after]).reselect

/-- A reference qualifies. -/
def State.refQualified (s : State) (n : Nat) : State :=
  (s.setRef n { s.ref n with q := true, wait := none }).reselect

/-- REF_QUALIFY (R283): the hold-off has run out. -/
def execRefQualify (n : Fin 7) (s : State) : Host.Outcome State Fault Refusal :=
  .next (if s.prio n ≠ 0 && (s.ref n).act && !(s.ref n).q && (s.ref n).wait = some 0 && n.val ≠ 6 then s.refQualified n else s)

/-- Difference of the frequency offsets of two references, ppb. -/
def State.freqDiff (s : State) (a b : Nat) : Nat := ((s.ref a).ppb - (s.ref b).ppb).natAbs

/-- CLK_DISPUTE.thr in ppb; 0 is taken as 1. -/
def State.disputeThr (s : State) : Nat := max 1 (s.fld F.CLK_DISPUTE_thr) * 100

/-- The reference of a disputed pair that R288 keeps or takes. -/
def State.disputeKeep (s : State) (a b : Nat) : Nat :=
  if s.flag F.CLK_STATUS_ho_valid then
    let u := s.regI R.CLK_HO_PRED
    let far := fun n => (s.regI R.CLK_DCO_NOW + (s.ref n).ppb * 1000 - u).natAbs
    if far b < far a || (far b = far a && s.sel = b) then b else a
  else if s.sel = b then b else a

/-- A dispute arises (R288): the reference nearer the median is kept or taken, once no switch is in progress (R289). -/
def State.disputeNew (s : State) (a b : Nat) : State :=
  let d : Dispute := { a := a, b := b, keep := s.disputeKeep a b }
  let s := s.setClkx fun x => { x with disputes := x.disputes ++ [d] }
  let s := (s.refStatus a).refStatus b
  let s := ((s.count R.CLK_DISPUTE_CNT).setFlag F.CLK_STATUS_dispute_evt true).postEvent 5 3 [BitVec.ofNat 8 a, BitVec.ofNat 8 b]
  s.reselect

/-- The disputes of a reference after its window (R288). -/
def State.disputeCheck (s : State) (n : Nat) : State :=
  let hold := if s.sel < 7 then s.fld (F.CLK_REF_CFG_holdoff s.sel) else 0
  let calm := fun (d : Dispute) => if 2 * s.freqDiff d.a d.b < s.disputeThr then d.calm + 1 else 0
  let ds := s.clkx.disputes.map fun d => if d.b = n then { d with calm := calm d } else d
  let past := ds.filter fun d => d.calm ≠ 0 && hold ≤ d.calm
  let s := s.setClkx fun x => { x with disputes := ds.filter fun d => !past.contains d }
  let s := past.foldl (fun s d => (s.refStatus d.a).refStatus d.b) s
  let s := if past.isEmpty then s else s.reselect
  (List.range 6).foldl
    (fun s m =>
      let a := min m n
      let b := max m n
      if m ≠ n && n < 6 && (s.ref m).q && (s.ref n).q && s.prio m ≠ 0 && s.prio m = s.prio n
          && s.disputeThr < s.freqDiff m n && !(s.clkx.disputes.any fun d => d.a = a && d.b = b) then
        s.disputeNew a b
      else s) s

/-- A reference that is disabled is measured no more, and not qualified (R287). -/
def State.refOff (s : State) (n : Nat) : State :=
  if s.prio n = 0 then
    let r := s.ref n
    (s.setRef n { r with q := false, wait := none, rough := false }).pruneDisputes
  else s

/-- The loop bandwidth follows the selected reference's configuration and update rate (R291). -/
def State.followBw (s : State) : State :=
  let n := s.sel
  if n = 7 then s
  else s.setClkx fun x => { x with bw := s.loopBw n (if s.dpll = 2 then s.fld (F.CLK_REF_CFG_track_bw n) else 5) }

/-- REF_WINDOW_END (R283, R284, R288, R297): a 1 s window of a reference ends; `active` says that it was active throughout it,
`ppb` is its frequency offset from the local clock, and `stable` the number of periods up to its end that lay within 1000 ppm
of their mean without a break: after a rate change, 64 are needed before the hold-off starts (R284). -/
def State.refWindow (s : State) (n : Nat) (active : Bool) (ppb : Int) (stable : Nat) : State :=
  let r := s.ref n
  let s := s.setRef n { r with ppb := ppb, act := active, rough := r.rough && stable < 64 }
  let s := if s.dpll = 2 then s.predict else s
  let inWin : Bool := (s.regI R.CLK_DCO_NOW + ppb * 1000).natAbs ≤ 50000000
  if s.prio n = 0 || n = 6 then s
  else if !active then s.refBreak n false
  else if !inWin && (n < 4 || !r.q) then s.refBreak n true
  else if r.q then s.disputeCheck n
  else if (s.ref n).rough then s
  else
    let w := match r.wait with
      | none => s.fld (F.CLK_REF_CFG_holdoff n)
      | some k => k - 1
    s.setRef n { s.ref n with wait := some w }

/-- REF_WINDOW_END. -/
def execRefWindowEnd (n : Fin 7) (active : Bool) (ppb : Int) (s : State) (stable : Nat := 0) : Host.Outcome State Fault Refusal :=
  .next (s.refWindow n active ppb stable)

/-- REF_MISSING_EDGES (R284). -/
def execRefMissingEdges (n : Fin 4) (s : State) : Host.Outcome State Fault Refusal := .next (s.refBreak n false)

/-- REF_RATE_CHANGE (R284): besides, the reference must be stable for 64 periods before its hold-off starts. -/
def execRefRateChange (n : Fin 4) (s : State) : Host.Outcome State Fault Refusal :=
  .next (let s := s.setRef n { s.ref n with rough := true }
    s.refBreak n true)

/-- PTP_SYNC_MISSING (R285). -/
def execPtpSyncMissing (portB : Bool) (s : State) : Host.Outcome State Fault Refusal :=
  .next (s.refBreak (if portB then 5 else 4) false)

/-- PTP_PORT_LEAVES_SLAVE (R285). -/
def execPtpPortLeavesSlave (portB : Bool) (s : State) : Host.Outcome State Fault Refusal :=
  .next (s.refBreak (if portB then 5 else 4) false)

/-- The conditions of reference 6 (R286): a shadow, the heartbeat present, the partner the owner, its markers arriving. -/
def State.ref6Ok (s : State) : Bool :=
  !s.solo && !s.isOwner && s.flag F.TWN_STATUS_hb_ok && s.twn.marker && s.prio 6 ≠ 0
    && (match s.twn.hb with | some h => h.owner | none => false)

/-- Reference 6 follows its conditions (R286). -/
def State.ref6 (s : State) : State :=
  let r := s.ref 6
  if s.ref6Ok = r.q then s
  else if r.q then s.refBreak 6 false
  else (s.setRef 6 { r with q := true, act := true }).reselect

/-- The period in ps, as a fraction, modulo which the phase of a reference is known (R282); none for a time reference. -/
def State.phaseMod (s : State) (n : Nat) : Option (Nat × Nat) :=
  if 4 ≤ n then none
  else match s.fld (F.CLK_REF_CFG_kind n) with
    | 0 => some (s.sampU * 1000, 6)
    | 1 => some (100000, 1)
    | 2 => some (1000000000000, 1)
    | _ => some (1000000000, max 1 (s.fld (F.CLK_REF_GEN_freq_khz n)))

/-- A phase offset in ps brought into half a period on either side of 0 (R282; which representative, log entry 32). -/
def State.phaseOf (s : State) (n : Nat) (ps : Int) : Int :=
  match s.phaseMod n with
  | none => ps
  | some (p, q) => ps - (2 * ps * q + p) / (2 * p) * p / q

/-- The times of R290 go on: since when the phase error has been within lock_thr, and since when above 10 times it. -/
def State.timeLock (s : State) : State :=
  let e := (s.regI R.CLK_PHASE_ERR).natAbs
  let thr := s.fld F.CLK_DPLL_CFG_lock_thr * 1000
  let run := fun (b : Bool) (u : Option Nat) => if b then some (u.getD s.clk.freeU) else none
  s.setClkx fun x => { x with inU := run (e ≤ thr) x.inU, outU := run (10 * thr < e) x.outU }

/-- PHASE_DETECTOR_UPDATE (R282, R290): reference minus local, in ps. The loop filter is not stated: the DCO value that
the DPLL writes is a free one within its range. -/
def State.phaseUpdate (s : State) (n : Nat) (ps0 : Int) : State :=
  let r := s.ref n
  let ps := s.phaseOf n ps0
  let s := s.setRef n { r with phases := (ps :: r.phases).take 16 }
  if s.sel ≠ n then s
  else
    let s := (s.put R.CLK_PHASE_ERR (wordI (satN 32 (ps - s.buildout)))).timeLock
    if s.flag F.CLK_CTRL_manual || s.dpll = 3 then s
    else
      let v := Config.freeInt s.fresh
      s.tick1.setDco (max (-200000001) (min 200000001 v))

/-- PHASE_DETECTOR_UPDATE: the detector of reference 6 is driven by TWN_PHASE (R232). -/
def execPhaseDetectorUpdate (n : Fin 7) (phase : Int) (s : State) : Host.Outcome State Fault Refusal :=
  .next (s.phaseUpdate n (if n.val = 6 then s.regI R.TWN_PHASE else phase))

/-- A time that began at `u` has lasted for `d` units. -/
def State.lasted (s : State) (u : Option Nat) (d : Nat) : Bool :=
  match u with
  | some u => u + d ≤ s.clk.freeU
  | none => false

/-- DPLL_LOCK (R290): the phase error stayed within lock_thr for lock_time. A switch is then complete (R289). -/
def State.dpllLock (s : State) : State :=
  if s.dpll ≠ 1 || s.sel = 7 || !s.lasted s.clkx.inU (s.fld F.CLK_DPLL_CFG_lock_time * (secU / 10)) then s
  else
    let n := s.sel
    let s := (s.setDpll 2).setFlag F.CLK_STATUS_switching false
    let s := s.setClkx fun x => { x with locked := true, bw := s.loopBw n (s.fld (F.CLK_REF_CFG_track_bw n)) }
    (s.setTimeSrc (if n = 6 then 2 else 0)).reselect

/-- DPLL_LOCK. -/
def execDpllLock (s : State) : Host.Outcome State Fault Refusal := .next s.dpllLock

/-- DPLL_UNLOCK (R290): the phase error stayed above 10 times lock_thr for 1 s. -/
def State.dpllUnlock (s : State) : State :=
  if s.dpll = 2 && s.lasted s.clkx.outU secU then
    (s.setDpll 1).setClkx fun x => { x with bw := s.loopBw s.sel 5 }
  else s

/-- DPLL_UNLOCK. -/
def execDpllUnlock (s : State) : Host.Outcome State Fault Refusal := .next s.dpllUnlock

/-- HOLDOVER_UPDATE (R297): once a second in HOLDOVER; theta is the measured oscillator temperature. -/
def State.holdoverUpdate (s : State) (theta : Nat) : State :=
  let s := (s.setFld F.CLK_OSC_TEMP_theta theta).predict
  if s.dpll = 3 && !s.flag F.CLK_CTRL_manual then s.setDco (s.regI R.CLK_HO_PRED) else s

/-- HOLDOVER_UPDATE. -/
def execHoldoverUpdate (theta : BitVec 16) (s : State) : Host.Outcome State Fault Refusal :=
  .next (s.holdoverUpdate theta.toNat)

/-- HOLDOVER_LOAD (R298): the coefficients take effect. -/
def State.holdoverLoad (s : State) : State :=
  let s := [R.CLK_HO_T0, R.CLK_HO_U0, R.CLK_HO_C1, R.CLK_HO_C2, R.CLK_HO_C3, R.CLK_HO_A, R.CLK_HO_B].foldl
    (fun s o => s.putApp o (s.reg o)) s
  s.setFlag F.CLK_STATUS_ho_valid (s.flag F.CLK_HO_CTRL_u0_valid)

/-- HOLDOVER_LOAD. -/
def execHoldoverLoad (s : State) : Host.Outcome State Fault Refusal := .next s.holdoverLoad

/-- The work of the clock block at a boundary: the age advances each second (R297), and a clamp is timed (R281). -/
def State.clockTick (s : State) : State :=
  let n := s.clk.freeU / secU
  let s := s.put R.CLK_HO_AGE (s.reg R.CLK_HO_AGE + word (n - s.clkx.secs))
  ((s.setClkx fun x => { x with secs := n }).noteDco).mclkCheck

/-! ## Slews and steps (R292 to R295) -/

/-- The offset that the next boundary applies, in ps: those that wait, in NETWORK mode a step in the time of the selected time
reference (R293), and after a realign the build-out (R292). -/
def State.boundaryOffset (s : State) (ps : Int) : Int :=
  s.clkx.offs + (if s.network && isTimeRef s.sel then ps else 0) + (if s.clkx.realign then s.buildout else 0)

/-- The offset is applied: nothing waits, and a build-out that was removed is 0 (R292). -/
def State.offsetTaken (s : State) : State :=
  let s := if s.clkx.realign then s.setBuildout 0 else s
  s.setClkx fun x => { x with offs := 0, offAny := false, realign := false }

/-- O takes an offset in FREE format (R304). -/
def State.moveO (s : State) (ps : Int) : State :=
  if s.isFree then
    let o := s.offset + ps * 2 ^ 32 / 1000
    ((s.putApp (R.TIM_OFS 0) (wordI o)).putApp (R.TIM_OFS 1) (wordI (o / 2 ^ 32))).putApp (R.TIM_OFS 2) (wordI (o / 2 ^ 64))
  else s

/-- TICK_SLEW (R293): the tick that starts at this boundary is shortened or lengthened by an offset of at most 1 us. -/
def State.tickSlew (s : State) (ps : Int) : State :=
  let o := s.boundaryOffset ps
  if s.clk.tickPos ≠ 0 || (o = 0 && !s.clkx.offAny) || oneUs < o.natAbs then s
  else
    let s := (s.offsetTaken).moveO o
    let len := ((s.tickU : Int) - o * 6 / 1000).toNat
    let s := s.setClk fun c => { c with lenU := some len }
    let s := s.setFab fun f => { f with deadline := some (len / 5) }
    s.count R.CLK_SLEW_CNT

/-- TICK_SLEW: `ps` is a step in the time of the selected time reference, in ps. -/
def execTickSlew (ps : Int) (s : State) : Host.Outcome State Fault Refusal := .next (s.tickSlew ps)

/-- The duplicate window of every receive context becomes invalid (R295); follow-mode ports take the nearest position anew. -/
def State.dropWindows (s : State) : State :=
  let rx := mapTbl (fun _ => {}) (fun x => { x with win := none }) s.str.rx
  let ports := mapTbl (fun _ => {}) (fun x => { x with win := [], edge := none, next := none, cur := none, pend := none, raw := [] }) s.tdm.ports
  { s with str := { s.str with rx := rx }, tdm := { s.tdm with ports := ports } }

/-- The event of a step (R359, R520). -/
def State.stepEvent (s : State) (o : Int) (a b : Nat) : State :=
  s.postEvent 5 4 ([BitVec.ofNat 8 a, BitVec.ofNat 8 b, 0, 0, 0, 0, 0, 0] ++ leBytes 8 (BitVec.ofInt 64 (o / 1000)).toNat)

/-- NETWORK_TIME_STEP (R294, R18, R295, R276): at boundary b_n. -/
def State.timeStep (s : State) (ps : Int) : State :=
  let o := s.boundaryOffset ps
  if s.clk.tickPos ≠ 0 || (o.natAbs : Int) ≤ oneUs then s
  else
    let n := s.tickNum
    let a := if s.clkx.offAny then s.clkx.offFrom else s.sel
    let b := if s.clkx.offAny then s.clkx.offTo else s.sel
    let now := ((s.gridU : Int) + o * 6 / 1000).toNat
    let m := (now + 2 * s.tickU - 1) / s.tickU
    let s := ((s.offsetTaken).moveO o).setClk fun c => { c with
      lenU := some (m * s.tickU - now), commitAs := some (m - 1), shift := (now : Int) - (n * s.tickU : Nat), fade := some m }
    let s := if n < m - 1 then s.countBy R.TCK_SKIP_CNT (m - 1 - n) else s.countBy R.TCK_REPEAT_CNT (n - (m - 1))
    let s := s.setFlag F.TCK_STATUS_step_seen true
    let s := ((s.count R.CLK_STEP_CNT).setFlag F.CLK_STATUS_step_evt true).putPairI R.CLK_STEP_LO R.CLK_STEP_HI (o / 1000)
    let s := ((s.dropWindows).renumber (((m : Int) - 1 - n) * s.T)).stepPeriods (o * 49152 / 10000000)
    let s := { s with str := { s.str with steps := s.str.steps + 1 } }
    s.stepEvent o a b

/-- NETWORK_TIME_STEP: `ps` is a step in the time of the selected time reference, in ps. -/
def execNetworkTimeStep (ps : Int) (s : State) : Host.Outcome State Fault Refusal := .next (s.timeStep ps)

/-- REALIGN (R292): the build-out goes into the offset of the next boundary, and is 0 once that is applied. -/
def State.realign (s : State) : State := (s.addOffset 0 s.sel s.sel).setClkx fun x => { x with realign := true }

/-- A write of CLK_CTRL (R280, R292, R293): in NETWORK mode CLK_BUILDOUT is 0, so a change to it removes the build-out as a
realign does (DESIGN CHOICE, log entry 32). -/
def State.clkCtrl (s : State) (was : Bool) (w : Word) : State :=
  let s := (s.noteDco).steer
  if w.getLsbD 5 || (w.getLsbD 0 && !was && s.buildout ≠ 0) then s.realign else s

/-- REALIGN. -/
def execRealign (s : State) : Host.Outcome State Fault Refusal := .next s.realign

/-- TIM_SET (R306): the new time, at the next boundary while the tick runs, at once while it is stopped. -/
def State.timSet (s : State) : State :=
  if isTimeRef s.sel then s.setFlag F.TIM_STATUS_set_err true
  else
    let ns := (s.pair R.TIM_SET_S_LO R.TIM_SET_S_HI) * 1000000000 + s.fld F.TIM_SET_NS_ns
    let ps := ((ns : Int) - s.netNs) * 1000
    if s.ticking then s.addOffset ps s.sel s.sel else s.moveTime ps

/-- TIM_SET. -/
def execTimSet (s : State) : Host.Outcome State Fault Refusal := .next (s.ifOn 1 State.timSet)

/-- TIM_ADJ_COMMIT (R304): r and O as written take effect together, under manual control. -/
def State.adjCommit (s : State) : State :=
  if !s.flag F.CLK_CTRL_manual then s
  else
    let s := [R.TIM_OFS 0, R.TIM_OFS 1, R.TIM_OFS 2, R.TIM_RATE_LO, R.TIM_RATE_HI].foldl (fun s o => s.putApp o (s.reg o)) s
    if s.isFree then s.setGridU s.timeU else s

/-- TIM_ADJ_COMMIT. -/
def execTimAdjCommit (s : State) : Host.Outcome State Fault Refusal := .next (s.ifOn 1 State.adjCommit)

/-! ## Timers and PPS (R308, R309) -/

/-- A timer. -/
def State.timer (s : State) (k : Nat) : Timer := Tbl.get (fun _ => {}) s.clkx.timers k

/-- Store a timer. -/
def State.setTimer (s : State) (k : Nat) (x : Timer) : State :=
  s.setClkx fun c => { c with timers := Tbl.set (fun _ => {}) c.timers k x }

/-- A timer fires (R308): a periodic one moves to the first target of its sequence in the future. -/
def State.fireTimer (s : State) (k : Nat) (late : Bool) : State :=
  let x := s.timer k
  let per := (s.reg (R.TIM_TMR_PER k)).toNat
  let s := (s.setFlag (F.TIM_TMR_CTRL_fired k) true)
  let s := if late then s.setFlag (F.TIM_TMR_CTRL_late k) true else s
  let s :=
    if s.flag (F.TIM_TMR_CTRL_periodic k) && per ≠ 0 then
      let past := (s.netNs - x.target) / per
      (s.countBy R.TIM_TMR_SKIP_CNT past).setTimer k { x with target := x.target + per * (past + 1) }
    else s.setTimer k { x with armed := false }
  s.postEvent 6 k (leBytes 8 (x.target / 1000000000) ++ leBytes 4 (x.target % 1000000000) ++ leBytes 4 (bit late))

/-- TIMER_ARM (R308): a write of TIM_TMRk_CTRL. A target not later than network time fires at once, late unless it is
reached in that same cycle. -/
def State.armTimer (s : State) (k : Nat) (w : Word) : State :=
  let s := (s.setFld (F.TIM_TMR_CTRL_en k) (bitsOf w 0 0)).setFld (F.TIM_TMR_CTRL_periodic k) (bitsOf w 1 1)
  let s := if bitsOf w 8 8 = 1 then s.clearFlag (F.TIM_TMR_CTRL_fired k) else s
  let s := if bitsOf w 9 9 = 1 then s.clearFlag (F.TIM_TMR_CTRL_late k) else s
  if bitsOf w 0 0 = 0 then s.setTimer k { s.timer k with armed := false }
  else
    let t := s.pair (R.TIM_TMR_S_LO k) (R.TIM_TMR_S_HI k) * 1000000000 + s.fld (F.TIM_TMR_NS_ns k)
    let s := s.setTimer k { target := t, armed := true }
    if s.netNs < t then s else s.fireTimer k (t < s.netNs)

/-- TIMER_ARM. -/
def execTimerArm (k : Fin 8) (w : Word) (s : State) : Host.Outcome State Fault Refusal := .next (s.ifOn 1 fun s => s.armTimer k w)

/-- TIMER_FIRE (R308): network time has reached the target; a periodic target left behind by more than a cycle is late. -/
def execTimerFire (k : Fin 8) (s : State) : Host.Outcome State Fault Refusal :=
  .next (let x := s.timer k
    if x.armed && x.target ≤ s.netNs then
      s.fireTimer k (s.flag (F.TIM_TMR_CTRL_periodic k) && x.target + 1 < s.netNs)
    else s)

/-- Network time lies within 5 ns of a whole second (R309). -/
def State.wholeSec (s : State) : Bool := s.netSubNs ≤ 5 || 1000000000 - 5 ≤ s.netSubNs

/-- PPS_OUT rises at a whole second, and falls pps_width ms later (R309). -/
def State.ppsOut (s : State) : State :=
  if s.flag F.TIM_CFG_pps_en && s.flag F.TCK_STATUS_grid_valid && s.wholeSec then
    (s.emit (.pin "PPS_OUT" 0 true)).setClkx fun x =>
      { x with ppsEnd := some (s.clk.freeU + s.fld F.TIM_CFG_pps_width * (secU / 1000)) }
  else s

/-- PPS_OUT_EDGE (R309). -/
def execPpsOutEdge (s : State) : Host.Outcome State Fault Refusal := .next s.ppsOut

/-- PPS_IN_EDGE (R309): stamped and posted. -/
def State.ppsIn (s : State) : State :=
  let s := (s.put R.TIM_PPSIN_S_LO (word s.netSec)).put R.TIM_PPSIN_S_HI (word (s.netSec / 2 ^ 32))
  let s := s.put R.TIM_PPSIN_NS (word s.netSubNs)
  s.postEvent 7 0 (leBytes 8 s.netSec ++ leBytes 4 s.netSubNs)

/-- PPS_IN_EDGE. -/
def execPpsInEdge (s : State) : Host.Outcome State Fault Refusal := .next s.ppsIn

/-! ## Calendar (R310, R311) -/

/-- RTC_SET (R310). -/
def State.rtcSet (s : State) : State :=
  s.setClk fun c => { c with rtcU := s.pair R.RTC_SET_LO R.RTC_SET_HI % 2 ^ 40 * secU, rtcF := 0 }

/-- RTC_SET. -/
def execRtcSet (s : State) : Host.Outcome State Fault Refusal := .next s.rtcSet

/-- A write of RTC_CTRL (R310, R311): `set` loads the count, the key enables one write of RTC_SVC_HOURS. -/
def State.rtcCtrl (s : State) (w : Word) : State :=
  let s := if w.getLsbD 0 then s.rtcSet else s
  if bitsOf w 31 16 = 0x5E7A then s.setClk fun c => { c with svcKey := true } else s

/-- A write of RTC_SVC_HOURS (R311): taken once after the key. -/
def State.svcHours (s : State) (w : Word) : State :=
  if s.clk.svcKey then (s.put R.RTC_SVC_HOURS w).setClk fun c => { c with svcKey := false } else s

/-- RTC_SVC_WRITE (R311): a write of RTC_CTRL with the key, then of RTC_SVC_HOURS. -/
def execRtcSvcWrite (w hours : Word) (s : State) : Host.Outcome State Fault Refusal :=
  .next ((s.rtcCtrl w).svcHours hours)

/-- SERVICE_HOUR (R311): a whole hour with PD_CTRL powered has passed. -/
def execServiceHour (s : State) : Host.Outcome State Fault Refusal :=
  .next (if 3600 * secU ≤ s.clk.svcU then
      (s.count R.RTC_SVC_HOURS).setClk fun c => { c with svcU := c.svcU - 3600 * secU }
    else s)

/-- Days of a year from 2000 on. -/
def yearDays (y : Nat) : Nat := if y % 4 = 0 && (y % 100 ≠ 0 || y % 400 = 0) then 366 else 365

/-- Days of a month. -/
def monthDays (y m : Nat) : Nat :=
  if m = 2 then yearDays y - 337 else if [4, 6, 9, 11].contains m then 30 else 31

/-- The year and the day of the year of a day count, by years. -/
def yearOf : Nat → Nat → Nat → Nat × Nat
  | 0, y, d => (y, d)
  | f + 1, y, d => if d < yearDays y then (y, d) else yearOf f (y + 1) (d - yearDays y)

/-- The month and the day of a day of the year. -/
def monthOf (y : Nat) : Nat → Nat → Nat → Nat × Nat
  | 0, m, d => (m, d)
  | f + 1, m, d => if d < monthDays y m then (m, d) else monthOf y f (m + 1) (d - monthDays y m)

/-- RTC_DATE of a seconds count (R310). -/
def rtcDate (sec : Nat) : Word :=
  let days := sec / 86400
  let y := yearOf 256 2000 days
  let m := monthOf y.1 12 1 y.2
  word ((y.1 - 2000) % 256 + m.1 * 256 + (m.2 + 1) * 2 ^ 12 + (days + 6) % 7 * 2 ^ 17)

/-- RTC_TIME of a seconds count (R310). -/
def rtcTime (sec : Nat) : Word := word (sec % 60 + sec / 60 % 60 * 256 + sec / 3600 % 24 * 65536)

end Sys2Proof.Machine
end

