-- ==== Sys2Proof/Machine/Pair.lean ====
section
/-!
DEFINITION. Ownership and pairing (R214 to R234, R239 to R246): the OWN interlock, HELLO, heartbeats, markers, lane sets,
and handovers.
-/

namespace Sys2Proof.Machine

/-! ## The pair's state (R227) -/

/-- MIX_PSET_STATUS.paired and TWN_STATUS.paired follow the state (R227). -/
def State.setPaired (s : State) : State :=
  let st := s.pairState
  let p := 4 ≤ st || (2 ≤ st && s.twn.rsFirst)
  (s.setFlag F.TWN_STATUS_paired p).setFlag F.MIX_PSET_STATUS_paired p

/-- Enter a pair state; outside EQUINOX the revert hold does not run (R245). -/
def State.setPair (s : State) (st : Nat) : State :=
  let s := (s.setFld F.TWN_STATUS_state st).setPaired
  if st = 5 then s else s.setTwn fun t => { t with revU := none }

/-- Set what TWN_RS_STATUS shows of the step. -/
def State.rsStep (s : State) (n : Nat) : State := s.setFld F.TWN_RS_STATUS_step n

/-- Announce a step of resynchronisation (R235): its tick is the source's choice, a free one after the present. -/
def State.rsAnnounce (s : State) (n : Nat) : State :=
  let t := s.tickNum + 1 + Config.freeNat s.fresh
  let s := s.tick1
  let s := s.setTwn fun w => { w with rsNext := some (n, t) }
  s.sendCmd 9 (beBytes 1 n ++ beBytes 8 t)

/-- Nothing is left of a resynchronisation. -/
def State.rsDrop (s : State) : State :=
  let s := s.setTwn fun t => { t with
    rsNext := none, rsSource := false, rsMirror := false, catchUp := [], ran := [], rsLog := [], rsAgain := [], rsGot := [], rsPhase := 0, rsSent := 0, rsClean := none
    rsEnd := none, rsFirst := false, mirror := [], units := [], run := 0, agree := 0 }
  s.put R.TWN_RS_STATUS 0

/-- Resynchronisation starts from step 1 (R227, R235): `src` says that this module is the source. -/
def State.startResync (s : State) (src : Bool) : State :=
  let s := (s.rsDrop).setTwn fun t => { t with rsSource := src, quiet := !src, cold := false }
  let s := s.setPair (if src then 2 else 3)
  if src then s.rsAnnounce 1 else s

/-- Go to SOLO (R227, R234): what the pair had under way ends. A shadow whose partner keeps OWN asserted may still take over when
it is released (R243). -/
def State.goSolo (s : State) : State :=
  let shadow := if 2 ≤ s.pairState && s.twn.ownIn && !s.isOwner then some s.equinox else s.twn.wasShadow
  let yields := s.twn.hoReq.elim false (·.yield) || (s.isOwner && s.twn.ho.elim false (fun h => h.outgoing && s.tickNum < h.h) && s.yielding)
  let s := s.rsDrop
  let s := s.setTwn fun t => { t with
    quiet := false, partner := none, own := [], theirs := [], cold := true, revU := none, wasShadow := shadow, theirLanes := 15 }
  let s := match s.twn.ho with
    | some h => if s.tickNum < h.h then s.cancelHandover 6 else s
    | none => s.cancelHandover 6
  let s := (s.setPair 0).setFlag F.TWN_STATUS_hb_ok false
  let s := if yields then s.releaseOwn else s
  s.ref6

/-! ## The OWN interlock (R218 to R223, R243) -/

/-- The partner's OWN has been released for 1 s without a break (R226). -/
def State.longReleased (s : State) : Bool :=
  match s.twn.relAt with
  | some u => u + secU ≤ s.clk.freeU
  | none => false

/-- PARTNER_OWN_ASSERT (R218, R220, R223). -/
def State.partnerAsserts (s : State) : State :=
  let long := s.longReleased
  let s := s.setTwn fun t => { t with
    ownIn := true, ownNow := true, guardOk := false, relAt := none, takeover := false, barred := false
    collided := t.collided || t.settling, collisions := if long then 0 else t.collisions }
  if s.isOwner && s.twn.ho.isNone then
    ((s.setPins false).setFlag F.TWN_STATUS_own_conflict true).raise 20 0
  else s

/-- PARTNER_OWN_ASSERT: the synchroniser samples while PD_CTRL is released (R218). -/
def execPartnerOwnAssert (s : State) : Host.Outcome State Fault Refusal := .next (s.ifOn 1 State.partnerAsserts)

/-- R219 grants the pins; after an unplanned takeover the channels enter one by one (R243). A module that a level-3 reaction forbids to
assert OWN releases it instead (R443). -/
def State.grantPins (s : State) : State :=
  if s.yielding then s.releaseOwn
  else
  let took := s.twn.takeover
  let s := (s.setPins true).setTwn fun t => { t with takeover := false }
  let s :=
    if took then
      let s := s.setTwn fun t => { t with enter := List.range 32 }
      ((s.count R.TWN_TAKEOVER_CNT).setFlag F.TWN_STATUS_takeover true).postEvent 4 4 []
    else s
  s.ref6

/-- A release of the partner's OWN makes the next assertion a takeover (R243): of the owner's OWN in a pair, or of that of the
owner whose shadow this module was when the link was lost, outside EQUINOX unless take_unsync = 0. A release that the handover
had not come to cancels it (R242). -/
def State.takesOver (s : State) : Bool :=
  let t := s.twn
  let sync := s.equinox || t.wasShadow = some true
  t.takeover || (t.ownIn && !t.ownOut && (2 ≤ s.pairState || t.wasShadow.isSome) && (sync || s.flag F.TWN_CTRL_take_unsync)
    && !t.ho.any (fun h => h.owned || h.outgoing))

/-- OWN_GUARD_EXPIRE (R218, R219): released in every sample of the last 2.0 us; not where the partner's OWN is seen asserted in the
same clock cycle (R221). -/
def State.guardExpires (s : State) : State :=
  if s.twn.ownNow then s
  else
    let take := s.takesOver
    let bar := !take && s.twn.ownIn && !s.twn.ownOut && (s.pairState = 3 || s.pairState = 4)
    let s := if s.twn.ho.any (fun h => !h.owned && !h.outgoing) && s.twn.ownIn then s.cancelHandover 6 else s
    let s := s.setTwn fun t => { t with
      ownIn := false, guardOk := true, takeover := take, barred := t.barred || bar
      relAt := some (t.relAt.getD (s.clk.freeU - 12000)), wasShadow := none }
    if s.twn.ownOut && !s.twn.settling && s.twn.ho.isNone && !s.twn.pins then s.grantPins else s

/-- OWN_GUARD_EXPIRE. -/
def execOwnGuardExpire (s : State) : Host.Outcome State Fault Refusal := .next (s.ifOn 1 State.guardExpires)

/-- The shadow may not take the OWN that its partner released: in RESYNC_DST and VERIFY with take_unsync = 0 (R243). -/
def State.barsTakeover (s : State) : Bool :=
  s.twn.barred && (s.pairState = 3 || s.pairState = 4) && !s.flag F.TWN_CTRL_take_unsync

/-- The module may assert OWN (R220, R226, R243, R443). -/
def State.mayAssert (s : State) : Bool :=
  let t := s.twn
  !s.barsTakeover && s.flag F.TWN_CTRL_own_req && t.guardOk && !t.ownOut && !t.settling && t.retryAt.isNone && t.ho.isNone && !s.yielding
    && (t.takeover || (s.ticking && (if s.pref then !s.unhealthy else s.longReleased)))

/-- OWN_ASSERT (R220): OWN_OUT_N is asserted, and the settle time begins. -/
def State.assertOwn (s : State) : State :=
  if s.mayAssert then (s.setOwnOut true).setTwn fun t => { t with settling := true, collided := false } else s

/-- OWN_ASSERT. -/
def execOwnAssert (s : State) : Host.Outcome State Fault Refusal := .next s.assertOwn

/-- The two PREF straps are known to be equal (R220): the partner's is known from its last HELLO (DEDUCED, log entry 43). -/
def State.equalStraps (s : State) : Bool := s.twn.theirPref = some s.pref

/-- The retry wait of R220 in units: 10 us x (1 + nibble k of the module ID), k the collisions so far, this one among them,
modulo 16 (DEDUCED, log entry 43). -/
def State.retryU (s : State) : Nat :=
  let k := s.twn.collisions % 16
  60000 * (1 + s.moduleId.toNat / 16 ^ k % 16)

/-- A collision with equal straps (R220): OWN is released, and tried again after the wait. -/
def State.retryOwn (s : State) : State :=
  let s := (s.setOwnOut false).setTwn fun t => { t with collisions := t.collisions + 1 }
  s.setTwn fun t => { t with retryAt := some (s.clk.freeU + s.retryU) }

/-- OWN_SETTLE_END (R220). -/
def State.settleEnds (s : State) : State :=
  let t := s.twn
  if !t.settling then s
  else
    let s := s.setTwn fun t => { t with settling := false, collided := false }
    if t.collided then
      if s.equalStraps then s.retryOwn
      else if s.pref then s
      else s.setOwnOut false
    else if t.guardOk then s.grantPins
    else s

/-- OWN_SETTLE_END. -/
def execOwnSettleEnd (s : State) : Host.Outcome State Fault Refusal := .next s.settleEnds

/-- The wait after a collision ends when its time has passed (R220). -/
def State.retryEnds (s : State) : State :=
  match s.twn.retryAt with
  | some u => if u ≤ s.clk.freeU then s.setTwn fun t => { t with retryAt := none } else s
  | none => s

/-- OWN_RETRY_EXPIRE (R220). -/
def execOwnRetryExpire (s : State) : Host.Outcome State Fault Refusal := .next s.retryEnds

/-- OWN_RELEASE (R222). -/
def execOwnRelease (s : State) : Host.Outcome State Fault Refusal := .next s.releaseOwn

/-- OWN_REQ_CLEAR (R222): a write of own_req = 0; outside a handover OWN is released. -/
def State.clearOwnReq (s : State) : State :=
  let s := s.setFlag F.TWN_CTRL_own_req false
  if s.twn.ho.isNone then s.releaseOwn else s

/-- OWN_REQ_CLEAR. -/
def execOwnReqClear (s : State) : Host.Outcome State Fault Refusal := .next (s.ifOn 15 State.clearOwnReq)

/-- TAKEOVER_PWM_ENTRY (R243): a channel with no edge since the grant enters in the state its schedule has. -/
def State.pwmEnter (s : State) (c : Fin 32) : State :=
  if s.twn.enter.contains c.val then
    let s := s.setTwn fun t => { t with enter := t.enter.filter (· ≠ c.val) }
    s.drive (.pwm c) (.pwm c ((s.amp1 c).edges.map fun e => e.time.toNat))
  else s

/-- TAKEOVER_PWM_ENTRY. -/
def execTakeoverPwmEntry (c : Fin 32) (s : State) : Host.Outcome State Fault Refusal := .next (s.pwmEnter c)

/-! ## Pairing (R224 to R227) -/

/-- The HELLO message's arguments (R229). -/
def State.helloArgs (s : State) : List Byte :=
  beBytes 1 (bit s.pref) ++ beBytes 1 (bit s.ticking) ++ [0, 0] ++ beBytes 8 s.moduleId.toNat
    ++ beBytes 4 (s.reg R.FAB_GRAPH_ID).toNat ++ beBytes 4 (s.reg R.TCK_CFG).toNat ++ beBytes 8 s.tickNum
    ++ beBytes 4 (s.reg R.SYS_FW_VERSION).toNat

/-- Send HELLO, and link (R224, R227): a command message goes on the lowest active lane (R229). -/
def State.helloSend (s : State) : State := (s.sendCmd 1 s.helloArgs).setPair 1

/-- PAIRING_ATTEMPT (R224): an attempt of a solo module that seeks a partner. -/
def State.pairAttempt (s : State) : State :=
  if !s.solo || !s.flag F.TWN_CTRL_pair_en || s.fwStopped then s
  else
    let s := s.count R.TWN_PAIR_TRY_CNT
    if s.twn.working = 0 then s else s.helloSend

/-- PAIRING_ATTEMPT. -/
def execPairingAttempt (s : State) : Host.Outcome State Fault Refusal := .next s.pairAttempt

/-- Pairing is refused with a reason (R225). -/
def State.refusePair (s : State) (reason : Nat) : State :=
  ((s.postEvent 4 1 (leBytes 1 reason)).setFlag F.TWN_STATUS_pair_refused true).goSolo

/-- fs_sel, t_sel, link_off and launch_off of a TCK_CFG word (R225). -/
def tckFields (w : Word) : List Nat :=
  [F.TCK_CFG_fs_sel, F.TCK_CFG_t_sel, F.TCK_CFG_link_off, F.TCK_CFG_launch_off].map fun f => bitsOf w f.hi f.lo

/-- Why a HELLO is refused (R225). -/
def State.helloBad (s : State) (m : HelloMsg) : Option Nat :=
  if m.pref == s.pref then some 1
  else if m.graphId ≠ s.reg R.FAB_GRAPH_ID then some 2
  else if tckFields m.tckCfg ≠ tckFields (s.reg R.TCK_CFG) then some 3
  else none

/-- The common first tick (R227): a multiple of 256 at least 1 s after the later of the two clocks. -/
def State.commonStart (s : State) (theirs : Nat) : Nat := (max s.tickNum theirs + s.fs / s.T + 255) / 256 * 256

/-- Pairing succeeds (R227). -/
def State.pairUp (s : State) (m : HelloMsg) : State :=
  let s := s.setTwn fun t => { t with partner := some m, own := [], theirs := [], run := 0, agree := 0, cold := true }
  let s := s.putPair R.TWN_PARTNER_ID_LO R.TWN_PARTNER_ID_HI m.moduleId.toNat
  if !m.running && !s.ticking then
    (s.putPair R.TCK_START_LO R.TCK_START_HI (s.commonStart m.tick.toNat)).setPair 4
  else s.startResync (s.isOwner || (!s.twn.ownIn && s.pref))

/-- HELLO (R225, R227): a module that is linking checks it; a solo one that seeks a partner answers first. -/
def State.takeHello (s : State) (m : HelloMsg) : State :=
  let s := s.setTwn fun t => { t with theirPref := some m.pref }
  let s := if s.solo && s.flag F.TWN_CTRL_pair_en then s.helloSend else s
  if s.pairState ≠ 1 then s
  else match s.helloBad m with
    | some r => s.refusePair r
    | none => s.pairUp m

/-- HELLO: firmware's to answer (R483). -/
def execHello (m : HelloMsg) (s : State) (crcOk : Bool := true) : Host.Outcome State Fault Refusal :=
  .next (s.ifCrc crcOk fun s => if s.fwStopped then s else s.takeHello m)

/-- HELLO_TIMEOUT (R225): no answer within 100 ms. -/
def execHelloTimeout (s : State) : Host.Outcome State Fault Refusal :=
  .next (if s.pairState = 1 && !s.fwStopped then s.refusePair 4 else s)

/-! ## Heartbeats and markers (R229, R232, R234) -/

/-- The state for a revertive return (R245): eligible now. -/
def State.revertEligible (s : State) : Bool := s.pref && !s.isOwner && s.equinox && !s.unhealthy && s.twn.lbOk

/-- The heartbeat's payload (R229). -/
def State.heartbeatBytes (s : State) : List Byte :=
  beBytes 8 s.tickNum ++ beBytes 1 s.role ++ beBytes 1 s.pairState ++ beBytes 1 s.worst
    ++ beBytes 1 (bit s.twn.ownOut + 2 * bit s.twn.ownIn + 4 * bit (s.flag F.TWN_CTRL_own_req) + 8 * bit s.revertEligible)
    ++ beBytes 4 (wordI s.twn.rxOff).toNat

/-- MARKER_SEND (R232), with the heartbeat of the tick: where a lane is active. The marker's offset from the boundary is that of
the lane's blocks, a free value. -/
def State.sendMarker (s : State) : State :=
  let m := s.fld F.TWN_STATUS_lanes
  if m = 0 then s
  else ((s.tick1).emit (.link (lowLane m) [markerBlock s.tickNum (Config.freeNat s.fresh)])).sendMsg 1 s.heartbeatBytes

/-- HEARTBEAT (R229, R234). -/
def State.takeHeartbeat (s : State) (m : HeartbeatMsg) : State :=
  ((s.setTwn fun t => { t with hb := some m, hbNow := true }).setFlag F.TWN_STATUS_hb_ok true).ref6

/-- HEARTBEAT (R228). -/
def execHeartbeat (m : HeartbeatMsg) (s : State) : Host.Outcome State Fault Refusal :=
  .next (s.ifCrc m.crcOk fun s => s.takeHeartbeat m)

/-- The heartbeat is lost (R234). -/
def State.heartbeatLost (s : State) : State :=
  let s := s.setTwn fun t => { t with marker := false }
  if s.solo then (s.setFlag F.TWN_STATUS_hb_ok false).ref6
  else ((s.postEvent 4 3 []).count R.TWN_HB_LOSS_CNT).goSolo

/-- HEARTBEAT_LOSS (R234): not where a heartbeat arrives in the same clock cycle. -/
def execHeartbeatLoss (s : State) : Host.Outcome State Fault Refusal := .next (if s.twn.hbNow then s else s.heartbeatLost)

/-- TICK_BOUNDARY_MARKER (R232): the partner's marker arrives `t` ps after the own boundary. -/
def State.takeMarker (s : State) (t : Int) : State :=
  let s := s.setTwn fun w => { w with marker := true, noMark := 0, rxOff := t }
  let s := match s.twn.hb with
    | some h =>
      (s.put R.TWN_PHASE (wordI (openDivI 4 (t - h.markerOffset) 2))).put R.TWN_LINK_DELAY (wordI (openDivI 4 (t + h.markerOffset) 2))
    | none => s
  s.ref6

/-- TICK_BOUNDARY_MARKER. -/
def execTickBoundaryMarker (rxOffset : Int) (s : State) : Host.Outcome State Fault Refusal := .next (s.takeMarker rxOffset)

/-- At a boundary without a marker since the last but one, the partner's markers do not arrive (R286; how many may be missing is
PRESUMED, log entry 43). -/
def State.markTick (s : State) : State :=
  let n := s.twn.noMark + 1
  let s := s.setTwn fun w => { w with noMark := n }
  if 2 ≤ n && s.twn.marker then (s.setTwn fun w => { w with marker := false }).ref6 else s

/-! ## Lanes (R233) -/

/-- The largest lane set within a mask: all four, {0, 1}, {2, 3}, the lowest one. -/
def laneSet (m : Nat) : Nat :=
  let m := m % 16
  if m = 15 then 15 else if m &&& 3 = 3 then 3 else if m &&& 12 = 12 then 12 else if m = 0 then 0 else 2 ^ lowLane m

/-- This module has the lower ID of the pair. -/
def State.lowerId (s : State) : Bool :=
  match s.twn.partner with
  | some m => s.moduleId.toNat < m.moduleId.toNat
  | none => true

/-- Send LANESET with a mask, for the next tick. -/
def State.sendLaneset (s : State) (m : Nat) : State := s.sendCmd 10 (beBytes 1 m ++ beBytes 8 (s.tickNum + 1))

/-- A change of the working lanes (R233): the lower ID decides, the higher asks; a module with no partner decides alone. With no
lane the messages that wait are lost. -/
def State.lanesChanged (s : State) : State :=
  let w := s.twn.working
  let m := if s.lowerId then laneSet (w &&& s.twn.theirLanes) else laneSet w
  if laneSet w = 0 then ((s.setFld F.TWN_STATUS_lanes 0).setTwn fun t => { t with msgs := [], laneTill := [] }).heartbeatLost
  else if s.twn.partner.isNone then s.setFld F.TWN_STATUS_lanes m
  else if s.lowerId then
    if m = 0 then s else (s.sendLaneset m).setTwn fun t => { t with laneNext := some (m, s.tickNum + 1) }
  else s.sendLaneset w

/-- A partner lane lost block lock (R233). -/
def State.laneDown (s : State) (l : Nat) : State :=
  if s.twn.working.testBit l then
    let s := (s.count R.TWN_LANE_DOWN_CNT).setTwn fun t => { t with working := t.working - 2 ^ l }
    s.lanesChanged
  else s

/-- A partner lane is ready (R233, R224): it joins only where it completes a set of 2 or 4; a solo module sends HELLO. -/
def State.laneUp (s : State) (l : Nat) : State :=
  if s.twn.working.testBit l then s
  else
    let s := s.setTwn fun t => { t with working := t.working + 2 ^ l }
    let m := laneSet s.twn.working
    let cur := s.fld F.TWN_STATUS_lanes
    let s := if cur = 0 then s.setFld F.TWN_STATUS_lanes m
      else if m ≠ cur && (m = 15 || m = 3 || m = 12) then s.lanesChanged
      else s
    if s.solo && s.flag F.TWN_CTRL_pair_en then s.helloSend else s

/-- LANESET (R233): from the lower ID it changes the set; from the higher it is a request. -/
def State.takeLaneset (s : State) (m n : Nat) : State :=
  if s.twn.partner.isNone then s
  else if s.lowerId then
    let s := s.setTwn fun t => { t with theirLanes := m }
    let k := laneSet (s.twn.working &&& m)
    if k = 0 then s else (s.sendLaneset k).setTwn fun t => { t with laneNext := some (k, s.tickNum + 1) }
  else s.setTwn fun t => { t with laneNext := some (m, n) }

/-- LANESET. -/
def execLaneset (mask : BitVec 4) (tick : BitVec 64) (s : State) (crcOk : Bool := true) : Host.Outcome State Fault Refusal :=
  .next (s.ifCrc crcOk fun s => s.takeLaneset mask.toNat tick.toNat)

/-- A lane set takes effect at the boundary (R233). -/
def State.laneTick (s : State) : State :=
  match s.twn.laneNext with
  | some (m, n) =>
    if n ≤ s.tickNum then (s.setFld F.TWN_STATUS_lanes m).setTwn fun t => { t with laneNext := none } else s
  | none => s

/-! ## Handover (R239 to R245) -/

/-- The reference-6 lock of this module to the owner (R232, R239). -/
def State.lockedToOwner (s : State) : Bool := s.dpll = 2 && s.sel = 6

/-- The partner reports an unrecovered fault of class C2 or C3. -/
def State.partnerUnhealthy (s : State) : Bool :=
  match s.twn.hb with
  | some h => 2 ≤ h.worst.toNat % 4
  | none => false

/-- Why a handover cannot be (R239), as TWN_HO_CTRL.result codes it: the incoming module is this one unless it is the owner. -/
def State.handoverBad (s : State) : Option Nat :=
  if !s.equinox then some 2
  else if if s.isOwner then s.partnerUnhealthy else s.unhealthy then some 3
  else if !s.isOwner && !s.lockedToOwner then some 5
  else none

/-- Ask for a handover at a target (R239): 0 for the earliest, below it the earliest and LATE. It is the partner that judges, but for
the lock of an incoming module to the owner, which only that module knows: it asks for none while it is not locked (DEDUCED, log
entry 45). While one is armed or asked for, another has the result 6 (PRESUMED, log entry 45). -/
def State.askHandover (s : State) (target : Nat) : State :=
  if s.twn.ho.isSome || s.twn.hoReq.isSome then s.setFld F.TWN_HO_CTRL_result 6
  else if s.handoverBad = some 5 then s.setFld F.TWN_HO_CTRL_result 5
  else
    let e := s.tickNum + 4
    s.proposeHandover (max e target) (target ≠ 0 && target < e) false

/-- HANDOVER_REQUEST (R239). -/
def execHandoverRequest (s : State) : Host.Outcome State Fault Refusal :=
  .next (s.ifOn 15 fun s => s.askHandover (s.pair R.TWN_HO_TICK_LO R.TWN_HO_TICK_HI))

/-- HO_PROPOSE (R239): the partner's proposal is agreed, and armed, or refused; `owner` is the proposer's role. -/
def State.takeHoPropose (s : State) (h : Nat) : State :=
  let bad := match s.handoverBad with
    | some r => some r
    | none => if s.twn.ho.isSome then some 6 else none
  match bad with
  | some r => s.sendCmd 8 (beBytes 8 h ++ beBytes 1 r)
  | none => (s.sendCmd 7 (beBytes 8 h)).armHandover h s.isOwner

/-- HO_PROPOSE. -/
def execHoPropose (h : BitVec 64) (_owner : Bool) (s : State) (crcOk : Bool := true) : Host.Outcome State Fault Refusal :=
  .next (s.ifCrc crcOk fun s => s.takeHoPropose h.toNat)

/-- HO_AGREE (R239). -/
def State.takeHoAgree (s : State) (h : Nat) : State :=
  match s.twn.hoReq with
  | some q =>
    if q.h = h then
      (s.armHandover h s.isOwner).setTwn fun t => { t with ho := t.ho.map fun x => { x with late := q.late } }
    else s
  | none => s

/-- HO_AGREE. -/
def execHoAgree (h : BitVec 64) (s : State) (crcOk : Bool := true) : Host.Outcome State Fault Refusal :=
  .next (s.ifCrc crcOk fun s => s.takeHoAgree h.toNat)

/-- The request on its way fails with a result (R239, R245, R246). -/
def State.failRequest (s : State) (result : Nat) : State :=
  match s.twn.hoReq with
  | none => s
  | some q =>
    let s := s.cancelHandover result
    let s := s.setTwn fun t => { t with revU := t.revU.map fun _ => s.clk.freeU }
    if q.yield then s.releaseOwn else s

/-- A refusal of the request on its way: the reason becomes the result (R239). -/
def State.takeHoRefuse (s : State) (h reason : Nat) : State :=
  match s.twn.hoReq with
  | some q => if q.h = h then s.failRequest (reason % 16) else s
  | none => s

/-- HO_REFUSE (R239). -/
def execHoRefuse (h : BitVec 64) (reason : Byte) (s : State) (crcOk : Bool := true) : Host.Outcome State Fault Refusal :=
  .next (s.ifCrc crcOk fun s => s.takeHoRefuse h.toNat reason.toNat)

/-- HANDOVER_AGREE_TIMEOUT (R239): no AGREE by b_(H-1). -/
def execHandoverAgreeTimeout (s : State) : Host.Outcome State Fault Refusal := .next (s.failRequest 4)

/-- The two-wire controllers are all idle. -/
def State.twiIdle (s : State) : Bool := (List.range 3).all fun n =>
  let st := s.fld (F.TWI_C_STATUS_state n)
  st ≠ 2 && st ≠ 3

/-- Every group of owned pins (R241). -/
def pinGroups : List PinGroup :=
  (List.finRange 16).map .tdm ++ (List.finRange 32).map .pwm ++ (List.finRange 4).map .mclk ++ (List.finRange 4).map .sclk
    ++ [.twi]

/-- HANDOVER_PIN_SWITCH (R241): a group of pins switches at its own point. -/
def State.switchPins (s : State) (g : PinGroup) : State :=
  match s.twn.ho with
  | none => s
  | some h =>
    if s.tickNum < h.h || h.switched.contains g || (g = .twi && !s.twiIdle) then s
    else s.setTwn fun t => { t with ho := some { h with switched := h.switched ++ [g] } }

/-- HANDOVER_PIN_SWITCH. -/
def execHandoverPinSwitch (g : PinGroup) (s : State) : Host.Outcome State Fault Refusal := .next (s.switchPins g)

/-- HANDOVER_OWN_CHANGE (R242): every pin has switched; the OWN lines change. An incoming module that a level-3 reaction forbids to
assert OWN does not take part (R443). -/
def State.changeOwn (s : State) : State :=
  match s.twn.ho with
  | none => s
  | some h =>
    if h.owned || !(pinGroups.all fun g => h.switched.contains g) then s
    else if !h.outgoing && s.yielding then s.cancelHandover 6
    else
      let s := s.setTwn fun t => { t with ho := some { h with owned := true } }
      if h.outgoing then (s.setPins false).setOwnOut false else (s.setOwnOut true).twiPins true

/-- HANDOVER_OWN_CHANGE. -/
def execHandoverOwnChange (s : State) : Host.Outcome State Fault Refusal := .next s.changeOwn

/-- HANDOVER_COMPLETE (R242): R219 grants the incoming owner's pins, and the handover is over; the roles are reported at
b_(H+1). -/
def State.handoverDone (s : State) : State :=
  match s.twn.ho with
  | none => s
  | some h =>
    if !h.owned || (!h.outgoing && !s.twn.guardOk) then s
    else
      let s := s.setTwn fun t => { t with ho := none, revU := none, hoPost := some (h.h + 1) }
      let s := if h.outgoing then s else s.setPins true
      let s := (s.setFlag F.TWN_HO_CTRL_busy false).setFld F.TWN_HO_CTRL_result (bit h.late)
      let s := (s.count R.TWN_HANDOVER_CNT).setFlag F.TWN_STATUS_handover true
      s.ref6

/-- HANDOVER_COMPLETE. -/
def execHandoverComplete (s : State) : Host.Outcome State Fault Refusal := .next s.handoverDone

/-- From b_(H+1) the new roles are reported, and the handover's event is posted (R242). -/
def State.hoTick (s : State) : State :=
  match s.twn.hoPost with
  | some n => if n ≤ s.tickNum then (s.setTwn fun t => { t with hoPost := none }).postEvent 4 5 [] else s
  | none => s

/-- HANDOVER_CANCEL (R242): the outgoing owner's OWN is released before the OWN change, as its own release shows it, or as the
incoming module sees it; the incoming module goes on by R244. -/
def State.handoverCancelled (s : State) : State :=
  match s.twn.ho with
  | none => s
  | some h =>
    if h.owned || (h.outgoing && s.twn.ownOut) then s
    else
      let s := s.cancelHandover 6
      if h.outgoing then s else s.setTwn fun t => { t with takeover := true, ownIn := false }

/-- HANDOVER_CANCEL. -/
def execHandoverCancel (s : State) : Host.Outcome State Fault Refusal := .next s.handoverCancelled

/-- The revert hold in units: 1 to 3600 s (R245). -/
def State.revertHold (s : State) : Nat := max 1 (min 3600 (s.fld F.TWN_CFG_revert_hold)) * secU

/-- REVERT_REQUEST (R245): eligible without a break for the hold. -/
def State.revert (s : State) : State :=
  match s.twn.revU with
  | some u =>
    if s.flag F.TWN_CTRL_revert_en && s.revertEligible && u + s.revertHold ≤ s.clk.freeU then
      let s := s.setTwn fun t => { t with revU := some s.clk.freeU }
      s.askHandover 0
    else s
  | none => s

/-- REVERT_REQUEST. -/
def execRevertRequest (s : State) : Host.Outcome State Fault Refusal := .next s.revert

/-- At a boundary a break of R245 restarts the hold. -/
def State.revertTick (s : State) : State :=
  let ok := s.flag F.TWN_CTRL_revert_en && s.revertEligible
  let at0 := if ok then some (s.twn.revU.getD s.clk.freeU) else none
  s.setTwn fun t => { t with revU := at0, lbOk := true }

/-- TWN_REVERT_LEFT: whole seconds left, rounded up; 0 when not counting. -/
def State.revertLeft (s : State) : Nat :=
  match s.twn.revU with
  | some u => (u + s.revertHold - s.clk.freeU + (secU - 1)) / secU
  | none => 0

/-- TWN_STATUS as a read gives it: the levels are live (R247). -/
def State.twnStatus (s : State) : Word :=
  let w := s.reg R.TWN_STATUS
  let f := fun (w : Word) (f : Fld) (b : Bool) => setBits w f.hi f.lo (bit b)
  f (f (f (f (f w F.TWN_STATUS_owner s.isOwner) F.TWN_STATUS_pref s.pref) F.TWN_STATUS_own_out s.twn.ownOut)
    F.TWN_STATUS_own_in s.twn.ownIn) F.TWN_STATUS_ho_armed s.twn.ho.isSome

end Sys2Proof.Machine
end

