-- ==== Sys2Proof/Machine/Lanes.lean ====
section
/-!
DEFINITION. The serial lanes (R313 to R325, R335 to R338): the bring-up state machine of R318, polarity, training of the
partner lanes, restarts, the loops and the PRBS functions.
-/

namespace Sys2Proof.Machine

/-- Lane states, as SDS_STATUS.state codes them (R318). -/
abbrev lDisabled : Nat := 0
abbrev lSignal : Nat := 1
abbrev lCdr : Nat := 2
abbrev lHunt : Nat := 3
abbrev lUp : Nat := 4
abbrev lTrain : Nat := 5
abbrev lReady : Nat := 6
abbrev lTest : Nat := 7

/-- A lane's state. -/
def State.lst (s : State) (l : Nat) : Nat := s.fld (F.SDS_STATUS_state l)

/-- A lane beside its registers. -/
def State.lane (s : State) (l : Nat) : Lane := Tbl.get (fun _ => {}) s.eth.lanes l

/-- Store it. -/
def State.setLane (s : State) (l : Nat) (x : Lane) : State :=
  s.setEth fun t => { t with lanes := Tbl.set (fun _ => {}) t.lanes l x }

/-- The lane carries the partner link (R313). -/
def isPartner (l : Nat) : Bool := 2 ≤ l && l ≤ 5

/-- The MAC of an Ethernet lane (R313). -/
def laneMac (l : Nat) : Nat := if l = 6 then 3 else if l = 7 then 2 else l

/-- The lane of a MAC. -/
def macLane (n : Nat) : Nat := if n = 3 then 6 else if n = 2 then 7 else n

/-- The training block that a partner lane sends in training state `k` (R228, R323): lane ID, 0x5A, state, module ID bits 31:0.
The module ID is in network order: R228 gives none for it, and R8's order for messages is taken (DESIGN CHOICE, log entry 38). -/
def State.trainBlock (s : State) (l k : Nat) : LinkBlock :=
  ctlBlock 0x4B (leBytes 1 (l - 2) ++ [0x5A] ++ leBytes 1 k ++ beBytes 4 (s.moduleId.toNat % 2 ^ 32))

/-- A partner lane sends training blocks of a state. -/
def State.sendTraining (s : State) (l k : Nat) : State := s.emit (.training l (s.trainBlock l k))

/-- The lane leaves the state it is in for one in which it carries no traffic: UP and READY are noted, the port's link goes down
(R322), a partner lane leaves the lane sets (R233). -/
def State.leaveLane (s : State) (l : Nat) : State :=
  if s.lst l = lUp then
    let n := laneMac l
    let s := ((s.setFlag (F.SDS_STATUS_down l) true).setFlag (F.MAC_STATUS_an_done n) false).setFlag (F.MAC_STATUS_fec_lock n) false
    s.linkDown n
  else if s.lst l = lReady then
    let s := s.setFlag (F.SDS_STATUS_down l) true
    match (s.lane l).farId with
    | some i => s.laneDown i
    | none => s
  else s

/-- Put a lane in a state, with CDR and block lock as that state has them. -/
def State.setLst (s : State) (l st : Nat) : State :=
  let s := s.setFld (F.SDS_STATUS_state l) st
  let s := s.setFlag (F.SDS_STATUS_cdr_lock l) (3 ≤ st && st ≤ 6)
  s.setFlag (F.SDS_STATUS_blk_lock l) (4 ≤ st && st ≤ 6)

/-- The lane's training begins anew (R323, R324). -/
def State.clearTraining (s : State) (l : Nat) : State :=
  let s := s.setLane l { s.lane l with sent := 0, far2 := 0, farId := none }
  (((s.setFld (F.SDS_STATUS_lane_id l) 0).setFlag (F.SDS_STATUS_id_err l) false).setFlag (F.SDS_STATUS_self_loop l) false)

/-- SIGNAL, and on to CDR where signal is detected and the lane PLL is locked (R314, R318). -/
def State.enterSignal (s : State) (l : Nat) : State :=
  let s := (s.leaveLane l).clearTraining l
  let s := s.setLst l (if s.flag (F.SDS_STATUS_sig_det l) && s.flag (F.SDS_STATUS_pll_lock l) then lCdr else lSignal)
  if isPartner l then s.sendTraining l 0 else s.emit (.lane l 2)

/-- The lane restarts (R318): CDR to READY go back to SIGNAL, counted. -/
def State.restartLane (s : State) (l : Nat) : State :=
  if 2 ≤ s.lst l && s.lst l ≤ 6 then (s.count (R.SDS_RESTART_CNT l)).enterSignal l else s

/-- The lane is switched off: transmitter at common mode (R318). -/
def State.disableLane (s : State) (l : Nat) : State :=
  (((s.leaveLane l).clearTraining l).setLst l lDisabled).emit (.lane l 0)

/-! ## Events of one clock cycle (R319) -/

/-- An event of R318 that moved a lane from its place in `s` to that in `t` is noted for the present clock cycle; the first one stands. -/
def State.noteLane (s t : State) (l : Nat) (timeout : Bool) : State :=
  if t.now.lanes.any (fun x => x.lane = l) || (t.lst l = s.lst l && t.reg (R.SDS_RESTART_CNT l) = s.reg (R.SDS_RESTART_CNT l)) then t
  else
    let x : LaneNow :=
      { lane := l, status := s.reg (R.SDS_STATUS l), restarts := s.reg (R.SDS_RESTART_CNT l), losses := s.reg (R.SDS_LOCK_LOSS_CNT l)
        x := s.lane l, timeout := timeout, counted := t.reg R.TWN_LANE_DOWN_CNT ≠ s.reg R.TWN_LANE_DOWN_CNT }
    { t with now := { t.now with lanes := t.now.lanes ++ [x] } }

/-- A lane as it stood before its first event of the present clock cycle. -/
def State.laneBack (s : State) (x : LaneNow) : State :=
  let s := { s with now := { s.now with lanes := s.now.lanes.filter fun y => y.lane ≠ x.lane } }
  (((s.put (R.SDS_STATUS x.lane) x.status).put (R.SDS_RESTART_CNT x.lane) x.restarts).put (R.SDS_LOCK_LOSS_CNT x.lane) x.losses).setLane
    x.lane x.x

/-- The event of a lane in the present clock cycle, noted. -/
def State.laneEvent (s : State) (l : Nat) (timeout : Bool) (f : State → State) : State := s.noteLane (f s) l timeout

/-- An event that may complete a step: where it does so in the clock cycle of that step's timeout, it counts and the timeout does not
(R319). -/
def State.stepEvent1 (s : State) (l : Nat) (f : State → State) : State :=
  match s.now.lanes.find? fun x => x.lane = l && x.timeout with
  | some x =>
    let b := s.laneBack x
    let t := b.laneEvent l false f
    if t.lst l ≠ b.lst l then t else s.laneEvent l false f
  | none => s.laneEvent l false f

/-- A loop or a PRBS function is selected (R318, R335, R336): codes 6 and 7 are taken as 0. -/
def State.testing (s : State) (l : Nat) : Bool :=
  s.fld (F.SDS_CTRL_loop l) ≠ 0 || (1 ≤ s.fld (F.SDS_PRBS_CTRL_gen_sel l) && s.fld (F.SDS_PRBS_CTRL_gen_sel l) ≤ 5)
    || (1 ≤ s.fld (F.SDS_PRBS_CTRL_chk_sel l) && s.fld (F.SDS_PRBS_CTRL_chk_sel l) ≤ 5)

/-- The lane follows its enable and its test functions (R318, R338). -/
def State.laneFollow (s : State) (l : Nat) : State :=
  if !s.flag (F.SDS_CTRL_en l) then (if s.lst l = lDisabled then s else s.disableLane l)
  else
    let s := if s.lst l = lDisabled then s.enterSignal l else s
    if s.testing l then (if s.lst l = lTest then s else ((s.leaveLane l).clearTraining l).setLst l lTest)
    else if s.lst l = lTest then s.enterSignal l
    else s

/-- What the blocks released in the clock cycle before find (R516: until now their words read as reset): the oscillator's level (R279),
and the lane PLLs, with which the lanes start (R314, R318). -/
def State.showLevels (s : State) : State :=
  let new := s.pwr.levels
  let s := { s with pwr := { s.pwr with levels := [] } }
  let s := if new.contains 1 then s.setFlag F.CLK_STATUS_osc_ok (!s.condActive 12) else s
  if new.contains 15 then
    let s := (List.range 8).foldl (fun s l => s.setFlag (F.SDS_STATUS_pll_lock l) (!s.condActive 14)) s
    (List.range 8).foldl State.laneFollow s
  else s

/-- What a lane in TEST transmits, as `Out.lane` codes it (R335, R336): the PRBS sequence, which replaces all transmit data, or
what its loop gives; loops 1 and 2 with tx_quiet hold the transmitter at common mode. -/
def State.testOut (s : State) (l : Nat) : Option Nat :=
  let loop := s.fld (F.SDS_CTRL_loop l)
  let gen := s.fld (F.SDS_PRBS_CTRL_gen_sel l)
  if s.lst l ≠ lTest then none
  else if (loop = 1 || loop = 2) && s.flag (F.SDS_CTRL_tx_quiet l) then some 0
  else if 1 ≤ gen && gen ≤ 5 then some (32 + gen + 8 * bit (s.flag (F.SDS_PRBS_CTRL_gen_inv l)))
  else if loop ≠ 0 then some (64 + loop)
  else some 2

/-- The lane's transmitter follows its test functions; `old` is what it sent before. -/
def State.testFollow (s : State) (l : Nat) (old : Option Nat) : State :=
  match s.testOut l with
  | some k => if old = some k then s else s.emit (.lane l k)
  | none => s

/-- The lane is in a near-end loop (R335): its own transmit data reaches its receiver. -/
def State.looped (s : State) (l : Nat) : Bool :=
  s.lst l = lTest && (s.fld (F.SDS_CTRL_loop l) = 1 || s.fld (F.SDS_CTRL_loop l) = 2)

/-- The lane receives what its pins carry (R335): not in a near-end loop. -/
def State.rxPins (s : State) (l : Nat) : Bool := !s.looped l

/-- In a near-end loop the generator's sequence is the checker's (R335, R336); the serial loop passes both polarities (DEDUCED, log
entry 38). -/
def State.loopMatches (s : State) (l : Nat) : Bool :=
  let gen := s.fld (F.SDS_PRBS_CTRL_gen_sel l)
  let pins : Bool := s.fld (F.SDS_CTRL_loop l) = 1 && (s.flag (F.SDS_CTRL_tx_inv l) != s.flag (F.SDS_STATUS_rx_inv l))
  let inv := s.flag (F.SDS_PRBS_CTRL_gen_inv l) != pins
  1 ≤ gen && gen ≤ 5 && gen = s.fld (F.SDS_PRBS_CTRL_chk_sel l) && inv == s.flag (F.SDS_PRBS_CTRL_chk_inv l)

/-- A far-end loop sends again what the lane receives (R335), unless the generator replaces it (R336). -/
def State.farLoop (s : State) (l : Nat) (o : Out) : State := if s.testOut l = some 67 then s.emit o else s

/-- A write of SDS_CTRL (R318, R321, R335). -/
def State.sdsCtrl (s : State) (l : Nat) (w : Word) : State :=
  let old := s.testOut l
  let s := s.put (R.SDS_CTRL l) (w &&& 0xFD#32)
  let s := if s.flag (F.SDS_CTRL_pol_auto l) then s else s.setFlag (F.SDS_STATUS_rx_inv l) (s.flag (F.SDS_CTRL_rx_inv l))
  let s := (s.laneFollow l).testFollow l old
  if w.getLsbD 1 then s.laneEvent l false (fun s => s.restartLane l) else s

/-- Both counts of the checker go to 0 (R336). -/
def State.prbsClear (s : State) (l : Nat) : State := s.setLane l { s.lane l with bits := 0, errs := 0 }

/-- One bit of the generator's output is inverted (R336); a near-end loop brings it to the checker (R335). -/
def State.prbsInject (s : State) (l : Nat) : State :=
  if 1 ≤ s.fld (F.SDS_PRBS_CTRL_gen_sel l) && s.fld (F.SDS_PRBS_CTRL_gen_sel l) ≤ 5 && s.lst l = lTest then
    let s := if s.looped l then s.setLane l { s.lane l with inj := (s.lane l).inj + 1 } else s
    s.emit (.lane l 1)
  else s

/-- A write of SDS_PRBS_CTRL (R336, R338): a checker that is selected anew seeds itself anew. -/
def State.sdsPrbs (s : State) (l : Nat) (w : Word) : State :=
  let old := bitsOf (s.reg (R.SDS_PRBS_CTRL l)) 7 4
  let sent := s.testOut l
  let s := s.put (R.SDS_PRBS_CTRL l) (w &&& 0xFF#32)
  let s := if old = bitsOf w 7 4 then s else s.setFlag (F.SDS_PRBS_STATUS_chk_lock l) false
  let s := (s.laneFollow l).testFollow l sent
  let s := if w.getLsbD 9 then s.prbsClear l else s
  if w.getLsbD 8 then s.prbsInject l else s

/-- SDS registers answer while PD_NET is released (R474). -/
def State.ifNet (s : State) (f : State → State) : State := if s.domOn 15 then f s else s

/-- LANE_TEST_ENTRY (R338): the write of SDS_CTRL or SDS_PRBS_CTRL that does it. -/
def execLaneTestEntry (l : Fin 8) (prbs : Bool) (w : Word) (s : State) : Host.Outcome State Fault Refusal :=
  .next (s.ifNet fun s => if prbs then s.sdsPrbs l w else s.sdsCtrl l w)

/-- PRBS_INJECT (R336). -/
def execPrbsInject (l : Fin 8) (s : State) : Host.Outcome State Fault Refusal := .next (s.ifNet fun s => s.prbsInject l)

/-- PRBS_CLEAR (R336). -/
def execPrbsClear (l : Fin 8) (s : State) : Host.Outcome State Fault Refusal := .next (s.ifNet fun s => s.prbsClear l)

/-- SDS_RESTART (R318): a write of 1 to SDS_CTRL.restart. -/
def execSdsRestart (l : Fin 8) (s : State) : Host.Outcome State Fault Refusal :=
  .next (s.ifNet fun s => s.laneEvent l false fun s => s.restartLane l)

/-- The checker compared `bits` more bits, `errs` of them mismatched (R336): counted while it is locked, both saturate. In a near-end
loop the mismatched ones are those that the generator inverted (R335). -/
def State.prbsCount (s : State) (l bits errs : Nat) : State :=
  if s.flag (F.SDS_PRBS_STATUS_chk_lock l) then
    let x := s.lane l
    let n := if s.looped l && s.loopMatches l then x.inj else errs
    s.setLane l { x with bits := min (x.bits + bits) (2 ^ 48 - 1), errs := min (x.errs + n) (2 ^ 32 - 1), inj := 0 }
  else s

/-- The degrees of a PRBS polynomial x^n + x^k + 1 (R336). -/
def prbsPoly (sel : Nat) : Nat × Nat :=
  match sel with
  | 1 => (7, 6)
  | 2 => (9, 5)
  | 3 => (15, 14)
  | 4 => (23, 18)
  | _ => (31, 28)

/-- A bit of the sequence from the ones before it, the last first (R336). -/
def prbsNext (sel : Nat) (before : List Bool) : Bool :=
  let p := prbsPoly sel
  before.getD (p.1 - 1) false != before.getD (p.2 - 1) false

/-- Each of `n` bits, the last first, follows from those before it. -/
def prbsMatch (sel : Nat) : Nat → List Bool → Bool
  | 0, _ => true
  | _ + 1, [] => false
  | n + 1, b :: bs => b == prbsNext sel bs && prbsMatch sel n bs

/-- The checker locks on received bits, oldest first (R336): it seeds itself from a register's length of them, and the 64 that
follow match the sequence, or its complement with chk_inv. Bits all 0 are no PRBS (DEDUCED, log entry 38). -/
def prbsLocks (sel : Nat) (inv : Bool) (bits : List Bool) : Bool :=
  let bs := (bits.map fun b => b != inv).reverse
  bs.length = (prbsPoly sel).1 + 64 && bs.any (fun b => b) && prbsMatch sel 64 bs

/-- PRBS_CHECKER_LOCK (R336): the bits received last, oldest first; in a near-end loop they are the lane's own (R335). -/
def execPrbsCheckerLock (l : Fin 8) (s : State) (bits : List Bool := []) : Host.Outcome State Fault Refusal :=
  let sel := s.fld (F.SDS_PRBS_CTRL_chk_sel l)
  let ok := if s.looped l then s.loopMatches l else prbsLocks sel (s.flag (F.SDS_PRBS_CTRL_chk_inv l)) bits
  .next (if s.lst l = lTest && 1 ≤ sel && sel ≤ 5 && ok then
      s.setFlag (F.SDS_PRBS_STATUS_chk_lock l) true
    else s)

/-- PRBS_LOCK_LOSS (R336), with the bits compared and mismatched since they were last counted; `last` says of the last 64 bits
which mismatched: 32 of them lose lock. In a near-end loop it is lost where the lane's own data is not the sequence. -/
def execPrbsLockLoss (l : Fin 8) (bits errs : Nat) (s : State) (last : List Bool := []) : Host.Outcome State Fault Refusal :=
  .next (if s.flag (F.SDS_PRBS_STATUS_chk_lock l) then
      let s := s.prbsCount l bits errs
      if if s.looped l then !s.loopMatches l else last.length = 64 && 32 ≤ last.countP (fun b => b) then
        ((s.setFlag (F.SDS_PRBS_STATUS_chk_lock l) false).setFlag (F.SDS_PRBS_STATUS_lock_lost l) true).count (R.SDS_PRBS_LOSS_CNT l)
      else s
    else s)

/-- A read of SDS_PRBS_BITS_LO captures both counts (R337). -/
def State.prbsCapture (s : State) (l : Nat) : State :=
  let x := s.lane l
  (s.putPair (R.SDS_PRBS_BITS_LO l) (R.SDS_PRBS_BITS_HI l) x.bits).put (R.SDS_PRBS_ERR l) (word x.errs)

/-- SDS_PRBS_BITS_LO_READ (R337), with the bits compared and mismatched since they were last counted. -/
def execSdsPrbsBitsLoRead (l : Fin 8) (bits errs : Nat) (s : State) : Host.Outcome State Fault Refusal :=
  .next (if s.domOn 15 then
      let s := (s.prbsCount l bits errs).prbsCapture l
      { s with lastRead := s.reg (R.SDS_PRBS_BITS_LO l) }
    else { s with lastRead := 0 })

/-! ## Bring-up (R318 to R320) -/

/-- SIGNAL_DETECT_ASSERT (R319). -/
def execSignalDetectAssert (l : Fin 8) (s : State) : Host.Outcome State Fault Refusal :=
  .next (s.ifNet fun s =>
    let s := s.setFlag (F.SDS_STATUS_sig_det l) true
    if s.lst l = lSignal && s.flag (F.SDS_STATUS_pll_lock l) then s.setLst l lCdr else s)

/-- A partner lane in TRAIN loses block lock (R233): counted; one in READY is counted as it leaves the lane sets. -/
def State.trainLost (s : State) (l : Nat) : State :=
  if isPartner l && s.lst l = lTrain then s.count R.TWN_LANE_DOWN_CNT else s

/-- Signal detect deasserts (R319): it wins over any other event of R318 in its clock cycle. -/
def State.signalLost (s : State) (l : Nat) : State :=
  let n := s.now.lanes.find? fun x => x.lane = l
  let s := match n with
    | some x => s.laneBack x
    | none => s
  let s := s.setFlag (F.SDS_STATUS_sig_det l) false
  (if n.any (·.counted) then s else s.trainLost l).restartLane l

/-- SIGNAL_DETECT_DEASSERT (R319). -/
def execSignalDetectDeassert (l : Fin 8) (s : State) : Host.Outcome State Fault Refusal := .next (s.ifNet fun s => s.signalLost l)

/-- The CDR locks (R318): the receive polarity is that of SDS_CTRL, or kept from the last detection. -/
def State.cdrLocks (s : State) (l : Nat) : State :=
  if s.lst l = lCdr then
    let s := if s.flag (F.SDS_CTRL_pol_auto l) then s else s.setFlag (F.SDS_STATUS_rx_inv l) (s.flag (F.SDS_CTRL_rx_inv l))
    s.setLst l lHunt
  else s

/-- CDR_LOCK (R318). -/
def execCdrLock (l : Fin 8) (s : State) : Host.Outcome State Fault Refusal := .next (s.stepEvent1 l fun s => s.cdrLocks l)

/-- The time of a step ends while the lane is in it (R318). -/
def State.stepTimeout (s : State) (l st : Nat) : State := s.laneEvent l true fun s => if s.lst l = st then s.restartLane l else s

/-- CDR_TIMEOUT (R318). -/
def execCdrTimeout (l : Fin 8) (s : State) : Host.Outcome State Fault Refusal := .next (s.stepTimeout l lCdr)

/-- A sync header is valid: 0b01 or 0b10 (R320). -/
def headerOk (h : BitVec 2) : Bool := h = 1 || h = 2

/-- The hunt gains lock (R320): the last 64 headers examined are valid, at one position; on lane 6 the sync status is OK. -/
def huntLocks (l : Nat) (headers : List (BitVec 2)) (sync : Bool) : Bool :=
  if l = 6 then sync else 64 ≤ (headers.reverse.takeWhile headerOk).length

/-- After lock an Ethernet lane is UP; a partner lane trains, and sends state 1 (R318, R323). -/
def State.laneLocks (s : State) (l : Nat) : State :=
  if isPartner l then ((s.setLst l lTrain).setLane l { s.lane l with sent := 1, far2 := 0 }).sendTraining l 1
  else s.setLst l lUp

/-- The hunt examines headers (R320): each invalid one moves its position by one bit. -/
def State.hunt (s : State) (l : Nat) (headers : List (BitVec 2)) (sync : Bool) : State :=
  if s.lst l = lHunt then
    let x := s.lane l
    let s := s.setLane l { x with pos := (x.pos + (headers.filter fun h => !headerOk h).length) % 66 }
    if huntLocks l headers sync then s.laneLocks l else s
  else s

/-- BLOCK_LOCK (R320). -/
def execBlockLock (l : Fin 8) (s : State) (headers : List (BitVec 2) := []) (sync : Bool := false) :
    Host.Outcome State Fault Refusal :=
  .next (s.stepEvent1 l fun s => s.hunt l headers sync)

/-- HUNT_TIMEOUT (R318). -/
def execHuntTimeout (l : Fin 8) (s : State) : Host.Outcome State Fault Refusal := .next (s.stepTimeout l lHunt)

/-- A window of headers after lock (R320): the invalid ones are counted; 16 or more of its 64 lose lock. On lane 6 they are code
errors, and lock is lost with the sync status. -/
def State.lockWindow (s : State) (l invalid : Nat) (synced : Bool) : State :=
  if lUp ≤ s.lst l && s.lst l ≤ lReady then
    let s := s.countBy (R.SDS_SH_ERR_CNT l) invalid
    if if l = 6 then !synced else 16 ≤ invalid then ((s.count (R.SDS_LOCK_LOSS_CNT l)).trainLost l).restartLane l else s
  else s

/-- LOCK_LOSS (R320). -/
def execLockLoss (l : Fin 8) (invalid : Nat) (s : State) (synced : Bool := false) : Host.Outcome State Fault Refusal :=
  .next (s.laneEvent l false fun s => s.lockWindow l invalid synced)

/-- The lane inverts its receive polarity and hunts again (R321, R228). -/
def State.invertLane (s : State) (l : Nat) : State :=
  let s := s.leaveLane l
  let s := (s.setFlag (F.SDS_STATUS_rx_inv l) (!s.flag (F.SDS_STATUS_rx_inv l))).setFlag (F.SDS_STATUS_pol_chg l) true
  if isPartner l then (((s.trainLost l).clearTraining l).setLst l lHunt).sendTraining l 0 else s.setLst l lHunt

/-- POLARITY_CHECK (R321): errored blocks of the two decoders over the first 1024 blocks after a lock; on lane 6 the consecutive
/I/ ordered sets whose code group after K28.5 is the complement of a valid one. -/
def execPolarityCheck (l : Fin 8) (badDirect badInverted : Nat) (s : State) : Host.Outcome State Fault Refusal :=
  .next (s.laneEvent l false fun s =>
    if s.lst l = lUp && s.flag (F.SDS_CTRL_pol_auto l)
        && (if l = 6 then 16 ≤ badDirect else 64 ≤ badDirect && badInverted = 0) then s.invertLane l
    else s)

/-! ## Training (R323, R324) -/

/-- The lane ID that a training block carries is refused (R324): out of range, received on another lane too, or looped back. -/
def State.laneIdBad (s : State) (l id : Nat) : Bool :=
  3 < id || (List.range 8).any fun k =>
    isPartner k && k ≠ l && (s.lst k = lTrain || s.lst k = lReady) && (s.lane k).farId = some id

/-- A training block's own fields: lane ID, state, module ID bits 31:0 (R228), the module ID in the order of
`State.trainBlock` (DESIGN CHOICE, log entry 38). -/
def State.training (s : State) (l : Nat) (b : List Byte) : State :=
  let id := leAt b 1 1
  let self := beAt b 4 4 = s.moduleId.toNat % 2 ^ 32
  let bad := s.laneIdBad l id || self
  let x := s.lane l
  let far := leAt b 3 1
  let sent := if far = 1 || far = 2 then 2 else x.sent
  let far2 := if far = 2 && !bad then x.far2 + 1 else 0
  let s := s.setLane l { x with sent := sent, far2 := far2, farId := if id ≤ 3 then some id else none }
  let s := if sent = x.sent then s else s.sendTraining l sent
  let s := ((s.setFld (F.SDS_STATUS_lane_id l) id).setFlag (F.SDS_STATUS_id_err l) bad).setFlag (F.SDS_STATUS_self_loop l) self
  if !bad && x.sent = 2 && 16 ≤ far2 then ((s.setLst l lReady).emit (.link (l - 2) [idleBlock])).laneUp id else s

/-- A training block (R323, R324, R228): one received complemented inverts the lane where pol_auto = 1. -/
def State.takeTraining (s : State) (l : Nat) (inverted : Bool) (payload : List Byte) : State :=
  if isPartner l && s.lst l = lTrain then
    if inverted then (if s.flag (F.SDS_CTRL_pol_auto l) then s.invertLane l else s)
    else if leAt payload 0 1 = 0x4B && leAt payload 2 1 = 0x5A then s.training l payload
    else s
  else s

/-- TRAINING_BLOCK (R323). -/
def execTrainingBlock (l : Fin 8) (inverted : Bool) (payload : List Byte) (s : State) : Host.Outcome State Fault Refusal :=
  .next (s.stepEvent1 l fun s => s.takeTraining l inverted payload)

/-- TRAIN_TIMEOUT (R318). -/
def execTrainTimeout (l : Fin 8) (s : State) : Host.Outcome State Fault Refusal := .next (s.stepTimeout l lTrain)

/-! ## The serial reference (R314) -/

/-- The lane PLLs lose the reference: no lane leaves SIGNAL, and the serial-reference fault is present. -/
def State.serialLost (s : State) : State :=
  let s := (List.range 8).foldl (fun s l => s.setFlag (F.SDS_STATUS_pll_lock l) false) s
  let s := (List.range 8).foldl (fun s l => s.restartLane l) s
  s.condBegin 14 0

/-- The lane PLLs lock again. -/
def State.serialBack (s : State) : State :=
  (List.range 8).foldl
    (fun s l =>
      let s := s.setFlag (F.SDS_STATUS_pll_lock l) true
      if s.lst l = lSignal && s.flag (F.SDS_STATUS_sig_det l) then s.setLst l lCdr else s) s

/-- SERIAL_REFERENCE_LOSS (R314). -/
def execSerialReferenceLoss (s : State) : Host.Outcome State Fault Refusal := .next (s.ifNet State.serialLost)

end Sys2Proof.Machine
end

