-- ==== Sys2Proof/Machine/Mac.lean ====
section
/-!
DEFINITION. The receive side of the MACs and their configuration (R315, R316, R322, R328 to R330, R364 to R367, R518).
-/

namespace Sys2Proof.Machine

/-- The link's conditions hold (R322). -/
def State.linkUpNow (s : State) (n sgmii : Nat) : State :=
  let s := if n < 3 && s.flag (F.MAC_STATUS_local_fault n) then s.emit (.macSignal n 4) else s
  let s := ((s.setFlag (F.MAC_STATUS_local_fault n) false).setFlag (F.MAC_STATUS_remote_fault n) false).setFlag
    (F.MAC_STATUS_hi_ber n) false
  let s := if n < 2 && !s.flag (F.MAC_CTRL_speed n) && (s.fld (F.MAC_CTRL_fec n) = 1 || s.fld (F.MAC_CTRL_fec n) = 2) then
      s.setFlag (F.MAC_STATUS_fec_lock n) true
    else s
  let s := if n = 3 && s.flag (F.MAC_CTRL_an_en 3) then s.setFlag (F.MAC_STATUS_an_done 3) true else s
  let s := if n = 3 && s.flag (F.MAC_CTRL_speed 3) then s.setFld (F.MAC_STATUS_sgmii_speed 3) sgmii else s
  (s.setFlag (F.MAC_STATUS_link n) true).setFlag (F.MAC_STATUS_link_chg n) true

/-- The reconciliation sublayer answers a fault, as IEEE 802.3 has it (R322; PRESUMED, log entry 58): to a local fault it sends
remote fault, to a remote fault idle. The management port's PCS has neither. -/
def State.faultSignal (s : State) (n : Nat) (localF remoteF : Bool) : State :=
  if 3 ≤ n then s
  else if localF && !s.flag (F.MAC_STATUS_local_fault n) then s.emit (.macSignal n 3)
  else if remoteF && !localF then s.emit (.macSignal n 4)
  else s

/-- A condition of the link fails (R322): 0 local fault, 1 remote fault, 2 high bit-error rate, 3 the FEC's alignment lock, 4
auto-negotiation. -/
def State.linkFails (s : State) (n : Nat) (faults : BitVec 5) : State :=
  let s := s.faultSignal n (faults.getLsbD 0) (faults.getLsbD 1)
  let s := ((s.setFlag (F.MAC_STATUS_local_fault n) (faults.getLsbD 0)).setFlag (F.MAC_STATUS_remote_fault n)
    (faults.getLsbD 1)).setFlag (F.MAC_STATUS_hi_ber n) (faults.getLsbD 2)
  let s := if faults.getLsbD 3 then s.setFlag (F.MAC_STATUS_fec_lock n) false else s
  let s := if faults.getLsbD 4 then s.setFlag (F.MAC_STATUS_an_done n) false else s
  s.linkDown n

/-- LINK_CHANGE (R322): a port's conditions come to hold or cease to. -/
def execLinkChange (n : Fin 4) (up : Bool) (faults : BitVec 5) (sgmii : Fin 3) (s : State) : Host.Outcome State Fault Refusal :=
  .next (s.ifNet fun s =>
    if up then (if s.lst (macLane n) = lUp && !s.flag (F.MAC_STATUS_link n) && faults = 0 then s.linkUpNow n sgmii else s)
    else s.linkFails n faults)

/-! ## The management receive ring (R364 to R367) -/

/-- Bytes 16-31 of a receive descriptor (R364). -/
def mrxEntry (len sop eop status port stamp total : Nat) : List Byte :=
  leBytes 2 len ++ leBytes 1 (sop + 2 * eop) ++ leBytes 1 status ++ leBytes 1 port ++ [0, 0, 0] ++ leBytes 4 stamp ++ leBytes 4 total

/-- The buffers that a frame of `len` bytes takes: host address, bytes. -/
def mrxSplit : List (Nat × Nat) → Nat → List (Nat × Nat)
  | [], _ => []
  | b :: bs, len => if len ≤ b.2 then [(b.1, len)] else (b.1, b.2) :: mrxSplit bs (len - b.2)

/-- Read the descriptors of a frame's pieces, and write the pieces and the descriptors' parts from consumer index `i`. -/
def State.mrxWrite (s : State) (port stamp status total i : Nat) (first : Bool) : List (Nat × Nat) → List Byte → State
  | [], _ => s
  | p :: ps, f =>
    let eop := ps.isEmpty
    let e := mrxEntry p.2 (bit first) (bit eop) status port (if first then stamp else 0) (if eop then total else 0)
    let d := s.ringBase 11 + i % s.ringSize 11 * 32
    let s := ((s.emit (.hostRead d 32)).writeHost p.1 (f.take p.2)).emit (.hostWrite (d + 16) e)
    s.mrxWrite port stamp status total (i + 1) false ps (f.drop p.2)

/-- A frame for the host (R365 to R367): `bufs` are the posted descriptors' buffers from the consumer index on. -/
def State.toHost (s : State) (port : Nat) (f : List Byte) (stamp : Nat) (bufs : List (Nat × Nat)) : State :=
  let x := s.ring 11
  let free := if s.traffic && x.en then bufs.take (dist x.prod x.cons) else []
  if free.isEmpty then s.count R.HIF_MRX_DROP_CNT
  else
    let ps := mrxSplit free f.length
    let put := (ps.map (·.2)).sum
    let whole := put = f.length
    let s := s.mrxWrite port stamp (if whole then stOk else stTruncated) put x.cons true ps f
    let s := s.setRing 11 { s.ring 11 with cons := (x.cons + ps.length) % 2 ^ 32 }
    if whole then s.count R.HIF_MRX_CNT else s.count R.HIF_MRX_TRUNC_CNT

/-! ## Receiving (R328 to R330) -/

/-- The counter of the discard that a received frame meets, FCS included (R328). -/
def State.rxBad (s : State) (n : Nat) (f : List Byte) (fecBad room : Bool) : Option Nat :=
  let body := f.take (f.length - 4)
  let t := frameType body
  if fecBad || leAt f (f.length - 4) 4 ≠ (crc32 body).toNat then some (R.MAC_RX_FCS_CNT n)
  else if f.length < 64 then some (R.MAC_RX_RUNT_CNT n)
  else if s.fld (F.MAC_CFG_max_len n) < f.length then some (R.MAC_RX_OVERSIZE_CNT n)
  else if t.2 ≤ 1500 && body.length - t.1 < t.2 then some (R.MAC_RX_LEN_CNT n)
  else if !room then some (R.MAC_RX_OVF_CNT n)
  else none

/-- The address filter (R329). -/
def State.addrPass (s : State) (n : Nat) (f : List Byte) : Bool :=
  let d := f.take 6
  let h := (crc32 d).toNat / 2 ^ 26
  d = s.macAddr n || d = List.replicate 6 0xFF
    || ((leAt f 0 1).testBit 0 && (s.pair (R.MAC_MC_HASH_LO n) (R.MAC_MC_HASH_HI n)).testBit h)
    || s.flag (F.MAC_CFG_promisc n)

/-- A frame is an IGMP query (R185): the group it asks for, 0 for all (PRESUMED, RFC 3376, log entry 58). -/
def igmpQuery (f : List Byte) : Option Nat :=
  let t := frameType f
  let u := t.1 + beAt f t.1 1 % 16 * 4
  if t.2 = 0x0800 && beAt f (t.1 + 9) 1 = 2 && beAt f u 1 = 0x11 then some (beAt f (u + 4) 4) else none

/-- Firmware answers an IGMP query on a port (R185). -/
def State.igmpAnswer (s : State) (n : Nat) (f : List Byte) : State :=
  match igmpQuery f with
  | some g => if n < 3 then s.igmpReport n ((s.igmpGroups n).filter fun x => g = 0 || x = g) else s
  | none => s

/-- A frame on the management path (R329): to the firmware on ports A to C, to the host where it is copied. -/
def State.mgmtPath (s : State) (n : Nat) (f : List Byte) (stamp : Nat) (bufs : List (Nat × Nat)) : State :=
  if !s.addrPass n f then s.count (R.MAC_RX_FILTER_CNT n)
  else
    let s := (s.emit (.firmware "FRAME" n)).igmpAnswer n f
    if n = 3 || s.flag (F.MAC_CFG_host_fwd n) then s.toHost n f stamp bufs else s

/-- A MAC Control frame (R330): PAUSE, or dropped. -/
def State.macControl (s : State) (n o : Nat) (f : List Byte) : State :=
  if beAt f o 2 = 1 then s.takePause n (beAt f (o + 2) 2) else s.count (R.MAC_RX_CTRL_DROP_CNT n)

/-- Network time in ns of a local clock reading in ns: in FREE format R304 applied to C (R301, R304). -/
def State.stampTime (s : State) (c : Nat) : Nat := if s.isFree then (freeTime c s.rate s.offset / 2 ^ 32).toNat else c

/-- A frame of a media port that passed the MAC: classified, and to the management path where that says so (R201). -/
def State.mediaPath (s : State) (n : Nat) (f : List Byte) (stamp : Nat) (bufs : List (Nat × Nat)) : State :=
  let r := s.classify n f (s.stampTime stamp)
  if r.2 then r.1.mgmtPath n f stamp bufs else r.1

/-- A frame that passed R328, without its FCS: its time at the land in ns (R301, R329, R330). -/
def State.rxGood (s : State) (n : Nat) (f : List Byte) (stamp : Nat) (bufs : List (Nat × Nat)) : State :=
  let s := s.count (R.MAC_RX_FRM_CNT n)
  let s := s.ptpStamp n false (ptpHeader f).isSome stamp
  let t := frameType f
  if t.2 = 0x8808 then s.macControl n t.1 f
  else if n = 3 then s.mgmtPath n f stamp bufs
  else s.mediaPath n f stamp bufs

/-- A frame from the wire (R328 to R330): what its FEC corrected and whether it failed are counted. -/
def State.rxFrame (s : State) (n : Nat) (f : List Byte) (fecBad : Bool) (fecCorr : Nat) (room : Bool) (raw : Nat)
    (bufs : List (Nat × Nat)) : State :=
  let s := if fecBad then s.count (R.MAC_FEC_UNCORR_CNT n) else s
  let s := s.countBy (R.MAC_FEC_CORR_CNT n) fecCorr
  match s.rxBad n f fecBad room with
  | some c => s.count c
  | none => s.rxGood n (f.take (f.length - 4)) (s.landStamp false n raw) bufs

/-- A port's receiver takes what comes on its pins: its domain is on, rx_en is set, its lane is in no near-end loop (R335),
and the network DMA is not being drained (R399). -/
def State.rxOpen (s : State) (n : Nat) : Bool := s.domOn 15 && s.flag (F.MAC_CTRL_rx_en n) && s.rxPins (macLane n) && s.mayIssue 15

/-- PAUSE_FRAME (R330). -/
def execPauseFrame (n : Fin 4) (quanta : BitVec 16) (s : State) : Host.Outcome State Fault Refusal :=
  .next (if s.rxOpen n then s.takePause n quanta.toNat else s)

/-- LPI_ENTRY (R333, R334): of the own transmitter, or LPI received on a port. -/
def execLpiEntry (s : State) (rx : Option (Fin 4) := none) : Host.Outcome State Fault Refusal :=
  .next (match rx with
    | some n => if s.domOn 15 && s.rxPins (macLane n) then s.lpiReceived n true else s
    | none => s.enterLpi)

/-- LPI_EXIT (R333, R334). -/
def execLpiExit (s : State) (rx : Option (Fin 4) := none) : Host.Outcome State Fault Refusal :=
  .next (match rx with
    | some n => if s.domOn 15 && s.rxPins (macLane n) then s.lpiReceived n false else s
    | none => s.leaveLpi)

/-- MAC_FRAME_RECEIVE (R328, R329, R365): the frame with its FCS; whether its FEC failed, the codewords it corrected, and whether the
packet buffer has room; the local clock in ns, C in FREE format, at the boundary between PCS and PMA (R301); the buffers posted
for it. -/
def execMacFrameReceive (n : Fin 4) (frame : List Byte) (fecBad room : Bool) (raw : Nat) (bufs : List (Nat × Nat)) (s : State)
    (fecCorr : Nat := 0) : Host.Outcome State Fault Refusal :=
  .next (if s.rxOpen n then
      (s.farLoop (macLane n) (.frame n frame)).rxFrame n frame fecBad fecCorr room raw bufs
    else s)

/-- MEDIA_FRAME_RECEIVE (R200): a frame without its FCS, from port A, B, C or the partner, with the local clock as it came. A frame
of the partner is a message, whose CRC may fail (R228); one that matches no context has no port and goes no further (DEDUCED, log
entry 25). -/
def execMediaFrameReceive (src : Fin 4) (frame : List Byte) (raw : Nat) (s : State) (bufs : List (Nat × Nat) := [])
    (crcOk : Bool := true) : Host.Outcome State Fault Refusal :=
  .next (if !s.mayIssue 15 then s
    else if src = 3 then s.ifCrc crcOk fun s => (s.classify 3 frame (s.stampTime raw)).1
    else if s.rxPins (macLane src) then s.mediaPath src frame (s.landStamp false src raw) bufs
    else s)

/-! ## Configuration (R315 to R317, R518) -/

/-- SDS_RATE of a port's lane follows its speed (R313, R315). -/
def State.laneRate (s : State) (n : Nat) : State :=
  if n < 2 then s.setFld (F.SDS_RATE_rate n) (s.fld (F.MAC_CTRL_speed n)) else s

/-- A port's lane restarts for a change of speed, FEC, PCS mode or auto-negotiation: its link is down until it locks again. -/
def State.portRestart (s : State) (n : Nat) : State :=
  let l := macLane n
  if s.lst l = lTest then s.linkDown n else s.restartLane l

/-- Auto-negotiation restarts (R316): the link is down until it completes. -/
def State.anRestart (s : State) : State :=
  if s.flag (F.MAC_CTRL_an_en 3) then ((s.setFlag (F.MAC_STATUS_an_done 3) false).linkDown 3).emit (.macSignal 3 2) else s

/-- The speed, FEC, PCS mode and auto-negotiation of a MAC_CTRL word: FEC 3 is taken as 0 (R315 to R317). -/
def macMode (w : Word) : Nat := if bitsOf w 4 3 = 3 then (w &&& 0x24#32).toNat else (w &&& 0x3C#32).toNat

/-- A write of MAC_CTRL (R315 to R317): a transmitter that is enabled sends what waits (R198). -/
def State.macCtrl (s : State) (n : Nat) (w : Word) : State :=
  let old := s.reg (R.MAC_CTRL n)
  let new :=
    if n = 2 then (w &&& 0x3#32) ||| 4#32
    else if n = 3 then w &&& 0x27#32
    else if w.getLsbD 2 then w &&& 0x7#32
    else w &&& 0x1F#32
  let s := (s.put (R.MAC_CTRL n) new).laneRate n
  let s := if macMode old = macMode new then s else s.portRestart n
  let s := if n < 3 && new.getLsbD 0 && !old.getLsbD 0 then s.drainPort n else s
  if n = 3 && w.getLsbD 6 then s.anRestart else s

/-- MAC_CTRL_WRITE (R317). -/
def execMacCtrlWrite (n : Fin 4) (w : Word) (s : State) : Host.Outcome State Fault Refusal := .next (s.ifNet fun s => s.macCtrl n w)

/-- A write of MAC_CFG (R518). -/
def State.macCfg (s : State) (n : Nat) (w : Word) : State :=
  let len := bitsOf w 29 16
  if len < 1518 || 9600 < len then s.setFlag (F.MAC_STATUS_cfg_err n) true
  else s.put (R.MAC_CFG n) (w &&& (if n = 3 then 0x3FFF0003#32 else 0x3FFF0007#32))

/-- MAC_CFG_WRITE (R518). -/
def execMacCfgWrite (n : Fin 4) (w : Word) (s : State) : Host.Outcome State Fault Refusal := .next (s.ifNet fun s => s.macCfg n w)

/-- AN_RESTART (R316): a write of 1 to MAC_CTRL.an_restart. -/
def execAnRestart (s : State) : Host.Outcome State Fault Refusal := .next (s.ifNet State.anRestart)

end Sys2Proof.Machine
end

