-- ==== Sys2Proof/Machine/Tdm.lean ====
section
/-!
DEFINITION. The local converter ports (R373 to R390): input and output frames on the tick grid, follow mode with its slips,
losses and returns, the records that a pair exchanges, listen-back of the data, and the staged registers.
-/

namespace Sys2Proof.Machine

/-- Update the TDM ports. -/
def State.setTdm (s : State) (f : Tdm → Tdm) : State := { s with tdm := f s.tdm }

/-- A port beside its registers. -/
def State.port (s : State) (p : Nat) : TdmPort := Tbl.get (fun _ => {}) s.tdm.ports p

/-- Store it. -/
def State.setPort (s : State) (p : Nat) (x : TdmPort) : State :=
  s.setTdm fun t => { t with ports := Tbl.set (fun _ => {}) t.ports p x }

/-- TDM_STATUS.state: 0 off, 1 master, 2 hunting, 3 following, 4 FALLBACK, 5 MUTED. -/
def State.portSt (s : State) (p : Nat) : Nat := s.fld (F.TDM_STATUS_state p)

/-- The tick that begins at the next boundary (R16, R294). -/
def State.comingTick (s : State) : Nat := s.clk.commitAs.getD s.tickNum + 1

/-- A port's word code as applied: 0 32, 1 24, 2 16 bits. -/
def State.portWord (s : State) (p : Nat) : Nat := s.appFld (F.TDM_CFG_word p)

/-- A captured word: the bits below its width are 0 (R376). -/
def captured (fmt : Nat) (w : Word) : Word := w >>> (8 * fmt) <<< (8 * fmt)

/-- A sample as it stands on DOUT: rounded half up, saturated, left-aligned (R376). -/
def outWord (fmt : Nat) (w : Word) : Word := readSample fmt (wireSample fmt w)

/-- BCLK periods from the frame-sync edge to the first bit of a port's frames (R374). -/
def State.dataStart (s : State) (p : Nat) : Nat :=
  let fmt := s.appFld (F.TDM_CFG_fmt p)
  if fmt = 0 then s.appFld (F.TDM_CFG_fs_delay p) else if fmt = 1 then 1 else 0

/-- The bits of a frame on the line: every channel's 32, MSB first (R374). -/
def lineBits (f : List Word) : List Bool := f.flatMap fun w => (List.range 32).map fun i => w.getLsbD (31 - i)

/-- The word of 32 bits on the line, MSB first; bits that are missing are 0. -/
def lineWord (bs : List Bool) : Word := word (((bs ++ List.replicate 32 false).take 32).foldl (fun n b => 2 * n + bit b) 0)

/-- The words of the line's bits from the frame-sync edge on (R374). -/
def State.lineWords (s : State) (p : Nat) (bs : List Bool) : List Word :=
  (List.range (s.tdmCh p)).map fun c => lineWord ((bs.drop (s.dataStart p + 32 * c)).take 32)

/-- The slot of an output channel for the block that is output (R389). -/
def State.outSlot (s : State) (p c : Nat) : Nat :=
  match (s.port p).oldMap with
  | some m => m.getD c 0xFFFF
  | none => s.tdmOut p c

/-- Position k of the output frames that carry the committed block (R378). -/
def State.outFrame (s : State) (p k : Nat) : List Word :=
  (List.range (s.tdmCh p)).map fun c =>
    let slot := s.outSlot p c
    if slot = 0xFFFF then 0 else outWord (s.portWord p) ((s.outBlock slot).getD k 0)

/-- The port times its own frames: master or FALLBACK. -/
def State.portMaster (s : State) (p : Nat) : Bool := s.portSt p = 1 || s.portSt p = 4

/-- Send an output frame where the port drives DOUT and the module owns it (R216). -/
def State.sendFrame (s : State) (p : Fin 16) (f : List Word) : State :=
  if s.appFlag (F.TDM_CFG_out_en p) then s.drive (.tdm p) (.tdm p (s.dataStart p) (lineBits f)) else s

/-- Position k of the present tick has come: the ports that time their own frames send theirs (R378, R379). -/
def State.sendPos (s : State) (k : Nat) : State :=
  (List.finRange 16).foldl (fun s (p : Fin 16) => if s.portMaster p then s.sendFrame p (s.outFrame p k) else s) s

/-- The positions up to n that have not been sent. -/
def State.tdmDue (s : State) (n : Nat) : State :=
  (((List.range n).drop s.tdm.sent).foldl State.sendPos s).setTdm fun t => { t with sent := max n t.sent }

/-- The positions of the tick whose instants have come (R378): a port that turns master, or falls back, joins at the next (R384). -/
def State.tdmRun (s : State) : State := s.tdmDue (min s.T (s.clk.tickPos * s.T / s.tickLen + 1))

/-- The frames that began before the commit of their block (R382; recorded with that commit, DEDUCED, log entry 51). -/
def State.tdmEarly (s : State) : State :=
  (List.finRange 16).foldl
    (fun s (p : Fin 16) =>
      let x := s.port p
      let s := x.early.foldl (fun s y => if y / s.T = s.tickNum then s.sendFrame p (s.outFrame p (y % s.T)) else s) s
      if x.early.isEmpty then s else s.setPort p { x with early := [] }) s

/-- Before a commit: the last two output frames of the block that ends are kept for frames still on their way. -/
def State.tdmTail (s : State) : State :=
  (List.range 16).foldl
    (fun s p =>
      if s.portSt p = 0 then s
      else s.setPort p { s.port p with tail := [s.outFrame p (s.T - 2), s.outFrame p (s.T - 1)], oldMap := none }) s

/-! ## Input (R377, R387) -/

/-- The rows of tick m of a port, and whether a position was filled. -/
def State.portRows (s : State) (p m : Nat) : List (List Word) × Bool :=
  let x := s.port p
  let got := (List.range s.T).map fun k => x.win.find? fun e => e.1 = m * s.T + k
  (got.mapIdx fun k g => match g with
    | some e => e.2
    | none => if s.appFlag (F.TDM_CFG_fill p) then x.rows.getD k [] else [],
   got.any Option.isNone)

/-- A port's rows become the input blocks of the slots of its input map (R377). -/
def State.portSlots (s : State) (p : Nat) : State :=
  let rows := (s.port p).rows
  (List.range (s.tdmCh p)).foldl
    (fun s c =>
      let slot := s.tdmIn p c
      if slot = 0xFFFF then s
      else
        let b := rows.map fun r => captured (s.portWord p) (r.getD c 0)
        { s with fab := { s.fab with inp := Tbl.set (fun _ => []) s.fab.inp slot b } }) s

/-- A port captures: it is on, and in_en is set. -/
def State.portIn (s : State) (p : Nat) : Bool := s.portSt p ≠ 0 && s.appFlag (F.TDM_CFG_in_en p)

/-- TDM_INPUT_FILL: the input blocks of tick m; positions without a frame take the port's fill value (R387). -/
def State.tdmFill (s : State) (m : Nat) : State :=
  (List.range 16).foldl
    (fun s p =>
      if !s.portIn p then s
      else
        let r := s.portRows p m
        let x := s.port p
        let s := s.setPort p { x with
          rows := r.1, win := x.win.filter fun e => (m + 1) * s.T ≤ e.1, slips := x.slips.filter fun e => m < e.tick
          recs := x.recs.filter fun e => m < e.1, raw := x.raw.filter fun f => m * s.tickU < f.edge + (s.T + 2) * s.sampU }
        let s := s.portSlots p
        if r.2 then
          ((s.count (R.TDM_UNDERRUN_CNT p)).count (R.TDM_GRP_UNDERRUN_CNT (s.appFld (F.TDM_CFG_group p)))).setFlag
            (F.TDM_STATUS_underrun p) true
        else s) s

/-- Frames of the window that closes, of the ports that time their own (R377). -/
def State.tdmCapture (s : State) (fs : List CapFrame) : State :=
  let n := s.comingTick
  let s := fs.foldl
    (fun s f =>
      if s.portMaster f.port && s.portIn f.port && f.pos < s.T then
        s.setPort f.port { s.port f.port with win := Tbl.put (n * s.T + f.pos) (s.lineWords f.port f.din) (s.port f.port).win }
      else s) s
  s.setTdm fun t => { t with closed := n }

/-- Listen-back of the data (R237): the frame at position k of the window that closes carries output position k - 2 of the
block that is output, or one of the last two of the block before. -/
def State.lbExpected (s : State) (p k : Nat) : List Word :=
  if 2 ≤ k then s.outFrame p (k - 2) else (s.port p).tail.getD k []

/-- `n` periods of a clock over a span of `p` fine counts; `first` is the level at their start. -/
def clkEdges (l : ClkLine) (p n : Nat) (first : Bool) : List ClkEdge :=
  (List.range n).flatMap fun k => [⟨l, (k * p / n : Nat), first⟩, ⟨l, ((2 * k + 1) * p / (2 * n) : Nat), !first⟩]

/-- The edges of FSYNC over a frame of `p` fine counts with `n` BCLK periods (R374): its pulse is 1 BCLK wide, or 32, or half a
frame; `fs_inv` inverts it. -/
def State.fsyncEdges (s : State) (p n : Nat) (port : Nat) : List ClkEdge :=
  let fmt := s.appFld (F.TDM_CFG_fmt port)
  let high := (fmt ≠ 1) != s.appFlag (F.TDM_CFG_fs_inv port)
  let w := if fmt = 0 then (if s.appFlag (F.TDM_CFG_fs_width port) then 32 else 1) else n / 2
  if fmt = 0 && n ≤ w then [⟨.fsync, 0, high⟩] else [⟨.fsync, 0, high⟩, ⟨.fsync, (w * p / n : Nat), !high⟩]

/-- The edges of the MCLK outputs over a sample period of `p` fine counts from a position's instant on, where they rise (R380). -/
def State.mclkEdges (s : State) (p : Nat) : List ClkEdge :=
  (List.finRange 4).flatMap fun (m : Fin 4) =>
    if s.appFlag (F.TDM_MCLK_CFG_en m) then clkEdges (.mclk m) p (128 * 2 ^ s.appFld (F.TDM_MCLK_CFG_mult m)) true else []

/-- The clock edges computed for a frame, from its frame-sync edge on (R375, R379, R380): of a port that drives its clocks BCLK with
its launch edge there and FSYNC, and in the frame of any port the MCLK outputs. -/
def State.frameEdges (s : State) (port : Nat) : List ClkEdge :=
  let p := 4915200000 / s.fs
  let n := s.tdmCh port * 32
  (if s.portMaster port then clkEdges .bclk p n (s.appFlag (F.TDM_CFG_bclk_inv port)) ++ s.fsyncEdges p n port else [])
    ++ s.mclkEdges p

/-- The data of a frame read back matches (R237). -/
def State.lbDataOk (s : State) (f : LbFrame) : Bool :=
  s.lineWords f.port f.dout = (List.range (s.tdmCh f.port)).map fun c => (s.lbExpected f.port f.pos).getD c 0

/-- A frame read back matches (R237): its data where the port drives DOUT, the clocks that the module drives. -/
def State.lbFrameOk (s : State) (f : LbFrame) : Bool :=
  (s.portSt f.port = 0 || !s.appFlag (F.TDM_CFG_out_en f.port) || s.lbDataOk f)
    && clkMatch (s.fld F.TWN_LB_CFG_tol) f.edges (s.frameEdges f.port)

/-- The frames read back from the pins (R237, R238). -/
def State.lbFrames (s : State) (fs : List LbFrame) : State :=
  if s.lbOn then fs.foldl (fun s f => s.lbTdmTake f.port (s.lbFrameOk f)) s else s

/-! ## Follow mode (R381 to R386) -/

/-- The instant of an absolute input position, in units of 1/6 ns of network time (R377). -/
def State.posU (s : State) (x : Nat) : Int := ((x : Int) - (s.T + 2 : Nat)) * s.sampU

/-- The position whose instant lies nearest an edge, ties to the earlier (R382). -/
def State.nearest (s : State) (edge : Nat) : Nat :=
  let q := edge / s.sampU
  (if 2 * (edge % s.sampU) ≤ s.sampU then q else q + 1) + s.T + 2

/-- Record an event of a port for the partner (R388). -/
def State.slipEvent (s : State) (p : Nat) (e : SlipEvent) (x : Nat) : State :=
  s.setPort p { s.port p with slips := (s.port p).slips ++ [{ tick := x / s.T, event := e, pos := x % s.T }] }

/-- Put a frame at an absolute input position. -/
def State.putFrame (s : State) (p x : Nat) (w : List Word) : State :=
  if s.portIn p then s.setPort p { s.port p with win := Tbl.put x w (s.port p).win } else s

/-- The output frame at the external edge of input position x: output position x - (T + 2) (R378, R382). One whose edge lies before the
commit of its block waits for that block. -/
def State.followOut (s : State) (p : Fin 16) (x : Nat) : State :=
  let y := x - (s.T + 2)
  let n := s.tickNum
  if y / s.T = n + 1 then s.setPort p { s.port p with early := (s.port p).early ++ [y] }
  else
    s.sendFrame p (if y / s.T = n then s.outFrame p (y % s.T)
      else if y / s.T + 1 = n then (s.port p).tail.getD (y % s.T + 2 - s.T) []
      else List.replicate (s.tdmCh p) 0)

/-- A frame takes position x. -/
def State.giveFrame (s : State) (p : Fin 16) (x : Nat) (w : List Word) : State :=
  let s := (s.putFrame p x w).followOut p x
  s.setPort p { s.port p with next := some (x + 1), last := w, cur := some x }

/-- The phase of the last frame (R382). -/
def State.setPhase (s : State) (p edge x : Nat) : State :=
  s.setFld (F.TDM_STATUS_phase p) (BitVec.ofInt 8 (openDivI 5 (((edge : Int) - s.posU x) * 64) s.sampU)).toNat

/-- The event that an assignment anew ends is recorded (R388). -/
def State.endPend (s : State) (p k : Nat) : State :=
  let s := match (s.port p).pend with
    | some e => s.slipEvent p e k
    | none => s
  s.setPort p { s.port p with pend := none }

/-- A valid frame of a port takes position k, or slips (R382). -/
def State.placeFrame (s : State) (p : Fin 16) (edge k : Nat) (w : List Word) : State :=
  let phi := (edge : Int) - s.posU k
  if (s.sampU : Int) < phi then
    let s := ((s.count (R.TDM_SLIP_REP_CNT p)).setFlag (F.TDM_STATUS_slip p) true).slipEvent p .rep k
    let s := (s.putFrame p k (s.port p).last).followOut p (k - 1)
    (s.setPhase p edge (k + 1)).giveFrame p (k + 1) w
  else if phi ≤ -(s.sampU : Int) then
    let s := ((s.count (R.TDM_SLIP_DROP_CNT p)).setFlag (F.TDM_STATUS_slip p) true).slipEvent p .drop k
    s.setPort p { s.port p with next := some k, cur := none }
  else (s.setPhase p edge k).giveFrame p k w

/-- A valid frame of a following port is given its position (R382): the next, or anew the nearest. A port that is to be assigned anew
while another port of its clk_src follows joins that port's assignment, `lead` (R383). -/
def State.assign (s : State) (p : Fin 16) (edge : Nat) (w : List Word) (lead : Option Nat) : State :=
  match (s.port p).next with
  | some k => s.placeFrame p edge k w
  | none =>
    match lead with
    | some k => (s.endPend p k).placeFrame p edge k w
    | none =>
      let k := s.nearest edge
      ((s.endPend p k).setPhase p edge k).giveFrame p k w

/-- The state of a port. -/
def State.setPortSt (s : State) (p st : Nat) : State := s.setFld (F.TDM_STATUS_state p) st

/-- A port loses its external clock (R384, R386): it goes on with master timing, or holds DOUT low, which a frame of zeros stands for. -/
def State.portLoss (s : State) (p : Fin 16) : State :=
  let x := s.port p
  let k := x.next.getD (s.nearest s.gridU)
  let s := ((s.count (R.TDM_LOSS_CNT p)).setFlag (F.TDM_STATUS_loss p) true).slipEvent p .loss k
  let s := s.setPort p { s.port p with valid := 0, next := none, cur := none, pend := none }
  if s.appFlag (F.TDM_CFG_fallback p) then
    ((s.slipEvent p .fallback k).setPortSt p 4).count (R.TDM_FALLBACK_CNT p)
  else (s.setPortSt p 5).sendFrame p (List.replicate (s.tdmCh p) 0)

/-- A misplaced frame-sync edge (R385): the frame in progress is discarded, and the next valid frame is assigned anew. -/
def State.misplaced (s : State) (p : Fin 16) : State :=
  let s := ((s.count (R.TDM_RESYNC_CNT p)).setFlag (F.TDM_STATUS_sync_err p) true)
  let y := s.port p
  s.setPort p { y with
    win := y.win.filter fun e => some e.1 ≠ y.cur, next := none, cur := none, pend := some .resync
    raw := y.raw.map fun f => if f.pos.isSome && f.pos = y.cur then { f with pos := none } else f }

/-- A frame-sync edge of a port at network time `edge`, `bclks` BCLK periods after the last, with the frame's words (R381 to R386). -/
def State.followFrame (s : State) (p : Fin 16) (edge bclks : Nat) (w : List Word) (lead : Option Nat) : State :=
  let x := s.port p
  let st := s.portSt p
  let period : Int := match x.edge with
    | some e => (edge : Int) - e
    | none => s.sampU
  let dist := x.edge.isSome && bclks = s.tdmCh p * 32
  let rate := (period - s.sampU).natAbs * 1000 ≤ s.sampU
  let s := s.setPort p { x with edge := some edge }
  let s := if dist && 0 < period then
      s.setFld (F.TDM_RATE_ppm p) (BitVec.ofInt 16 (satN 16 (openDivI 5 ((s.sampU - period) * 10000000) period))).toNat
    else s
  if st = 3 then
    let bad := x.edge.isSome && !dist
    let s :=
      if bad then s.misplaced p
      else if dist && !rate then (s.setFlag (F.TDM_STATUS_rate_err p) true).portLoss p
      else s.assign p edge w lead
    s.setPort p { s.port p with raw := (s.port p).raw ++ [⟨edge, w, (s.port p).cur, bad⟩] }
  else if st = 2 || st = 4 || st = 5 then
    let v := if dist && rate then x.valid + 1 else 0
    let s := if st = 2 then s else s.setPort p { s.port p with raw := (s.port p).raw ++ [⟨edge, w, none, false⟩] }
    if 64 ≤ v then
      let s := s.setPort p { s.port p with valid := 0, next := none, pend := if st = 2 then none else some .back }
      (if st = 2 then s else s.count (R.TDM_RESYNC_CNT p)).setPortSt p 3
    else s.setPort p { s.port p with valid := v }
  else s

/-- The follow-mode ports that take their clocks from the lands of port q (R381). -/
def State.followers (s : State) (q : Fin 16) : List (Fin 16) :=
  (List.finRange 16).filter fun p => s.appFlag (F.TDM_CFG_mode p) && s.appFld (F.TDM_CFG_clk_src p) = q.val

/-- The position of the next frame at the lands of port q, as the ports that follow there have it (R383). -/
def State.leadNext (s : State) (q : Fin 16) : Option Nat :=
  ((s.followers q).filter fun p => s.portSt p = 3).findSome? fun p => (s.port p).next

/-- A frame-sync edge on the lands of port q: every port that takes its clocks there meets it, with the bits of its own DIN (R381,
R383). -/
def State.followEdge (s : State) (q : Fin 16) (edge bclks : Nat) (din : List Bool) (others : List (Fin 16 × List Bool)) : State :=
  let lead := s.leadNext q
  (s.followers q).foldl
    (fun s p =>
      let bs := if p = q then din else (others.find? fun o => o.1 = p).elim [] (·.2)
      s.followFrame p edge bclks (s.lineWords p bs) lead) s

/-- FOLLOW_FRAME (R382): the lands of port p, and DIN of p and of the `others` that take their clocks there. -/
def execFollowFrame (p : Fin 16) (edge bclks : Nat) (din : List Bool) (s : State) (others : List (Fin 16 × List Bool) := []) :
    Host.Outcome State Fault Refusal :=
  .next (s.followEdge p edge bclks din others)

/-- A frame-sync edge was captured in the present clock cycle (R384): it counts against the timeout. -/
def State.edgeNow (s : State) (p : Nat) : Bool := (s.port p).edge.any fun e => s.gridU < e + 5

/-- The clocks on its lands fail (R384): a port that hunts or follows declares loss. -/
def State.clockFails (s : State) (p : Fin 16) : State :=
  if (s.portSt p = 2 || s.portSt p = 3) && !s.edgeNow p then
    let s := s.portLoss p
    s.setPort p { s.port p with edge := none }
  else s

/-- TDM_LOSS (R384). -/
def execTdmLoss (p : Fin 16) (s : State) : Host.Outcome State Fault Refusal := .next (s.clockFails p)

/-! ## Records between the modules of a pair (R388) -/

/-- Records are exchanged in VERIFY and EQUINOX. -/
def State.slipPair (s : State) : Bool := s.pairState = 4 || s.pairState = 5

/-- The code of an event. -/
def slipCode : SlipEvent → Nat
  | .drop => 1
  | .rep => 2
  | .resync => 3
  | .loss => 4
  | .fallback => 5
  | .back => 6

/-- The owner sends the records of a port's window that closed last, in ascending position. -/
def State.slipSend (s : State) (p : Nat) : State :=
  let x := s.port p
  let mine := x.slips.filter fun e => e.tick = s.tdm.closed
  let sorted := (List.range s.T).flatMap fun k => mine.filter fun e => e.pos = k
  let s := s.setPort p { x with slips := x.slips.filter fun e => e.tick ≠ s.tdm.closed }
  sorted.foldl
    (fun s e => s.sendCmd 11 (beBytes 8 e.tick ++ beBytes 1 p ++ beBytes 1 (slipCode e.event) ++ beBytes 1 e.pos)) s

/-- TDM_SLIP_SEND (R388). -/
def execTdmSlipSend (p : Fin 16) (s : State) : Host.Outcome State Fault Refusal :=
  .next (if s.isOwner && s.slipPair then s.slipSend p else s)

/-- The owner's decisions put on frames as they came, from position k on (R388): `last` is the frame before. A drop leaves a frame out, a
repeat takes the frame before again, a loss follows no frame until a resync or a return, which name the position that the frame nearest
to it takes; a resync discards the frame that the misplaced edge ended. -/
def State.replay (s : State) : List RawFrame → Option Nat → List (SlipEvent × Nat) → List Word → List (Nat × List Word) × Option Nat
  | [], k, es, _ => ([], if es.any (fun e => e.1 = .loss) then none else k)
  | f :: fs, none, es, last =>
    match es.find? fun e => (e.1 = .resync || e.1 = .back) && e.2 ≤ s.nearest f.edge with
    | some e =>
      let r := s.replay fs (some (e.2 + 1)) (es.erase e) f.words
      ((e.2, f.words) :: r.1, r.2)
    | none => s.replay fs none es last
  | f :: fs, some k, es, last =>
    if es.contains (.drop, k) then s.replay fs (some k) (es.erase (.drop, k)) last
    else if es.contains (.rep, k) then
      let r := s.replay fs (some (k + 2)) (es.erase (.rep, k)) f.words
      ((k, last) :: (k + 1, f.words) :: r.1, r.2)
    else if es.contains (.loss, k) then s.replay fs none (es.erase (.loss, k)) last
    else if es.any (fun e => e.1 = .resync) && (f.bad || (fs.head?.any (·.bad))) then s.replay fs none es last
    else
      let r := s.replay fs (some (k + 1)) es f.words
      ((k, f.words) :: r.1, r.2)

/-- The records of the owner for window n stand in place of the port's own decisions from the first event of either on (R388; what a
record does beyond its window's frames is DEDUCED, log entry 51). -/
def State.followOwner (s : State) (n p : Nat) : State :=
  let x := s.port p
  let es := (x.recs.filter fun r => r.1 = n).map (·.2)
  let k := ((x.slips.filter fun o => o.tick = n).map (fun o => n * s.T + o.pos) ++ es.map (·.2)).foldl min ((n + 1) * s.T)
  let before := fun (f : RawFrame) => f.pos.any (· < k)
  let last := ((x.raw.filter before).getLast?.map (·.words)).getD (x.rows.getD (s.T - 1) [])
  let r := s.replay (x.raw.reverse.takeWhile fun f => !before f).reverse (some k) es last
  let s := s.setPort p { x with
    win := if s.portIn p then x.win.filter (fun f => f.1 < k) ++ r.1 else x.win
    next := r.2, cur := r.2.map (· - 1), last := (r.1.getLast?.map (·.2)).getD last, pend := if r.2.isSome then none else x.pend }
  if r.2.isSome then s.setPortSt p 3
  else if es.any (fun e => e.1 = .fallback) then s.setPortSt p 4
  else if es.any (fun e => e.1 = .loss) then s.setPortSt p 5
  else s

/-- A record of the owner for window n (R388), in a shadow whose port has followed. -/
def State.takeSlip (s : State) (n p : Nat) (e : SlipEvent) (pos : Nat) : State :=
  if s.isOwner || !s.slipPair || n ≤ s.tickNum || s.T ≤ pos || s.portSt p < 3 then s
  else (s.setPort p { s.port p with recs := (s.port p).recs ++ [(n, e, n * s.T + pos)] }).followOwner n p

/-- TDM_SLIP (R388). -/
def execTdmSlip (tick : BitVec 64) (port : Fin 16) (ev : SlipEvent) (pos : Nat) (s : State) (crcOk : Bool := true) :
    Host.Outcome State Fault Refusal :=
  .next (s.ifCrc crcOk fun s => s.takeSlip tick.toNat port ev pos)

/-! ## Configuration (R389, R390) -/

/-- TDM_APPLY_LO_WRITE (R389). -/
def State.armTdm (s : State) (w : Word) : State :=
  let s := s.putLo R.TDM_APPLY_LO R.TDM_APPLY_HI w
  (s.setTdm fun t => { t with armed := some (s.pair R.TDM_APPLY_LO R.TDM_APPLY_HI), armedIn := s.tickNum }).setFlag F.TDM_GSTATUS_apply_pend true

/-- TDM_APPLY_LO_WRITE. -/
def execTdmApplyLoWrite (w : Word) (s : State) : Host.Outcome State Fault Refusal :=
  .next (s.ifOn 17 fun s => s.armTdm w)

/-- Channels of a port as staged. -/
def State.tdmChStaged (s : State) (p : Nat) : Nat := s.fld (F.TDM_CFG_channels p) + 1

/-- BCLK of a port as staged does not exceed 24.576 MHz (R375). -/
def State.bclkOk (s : State) (p : Nat) : Bool := s.tdmChStaged p * 32 * s.fs ≤ 24576000

/-- A port's TDM_CFG as staged is valid (R374, R375, R381, R390). -/
def State.tdmCfgOk (s : State) (p : Nat) : Bool :=
  let fmt := s.fld (F.TDM_CFG_fmt p)
  let q := s.fld (F.TDM_CFG_clk_src p)
  fmt ≠ 3 && s.fld (F.TDM_CFG_word p) ≠ 3 && s.bclkOk p && (fmt = 0 || s.tdmChStaged p = 2)
    && (!s.flag (F.TDM_CFG_mode p)
      || (s.flag (F.TDM_CFG_mode q) && s.fld (F.TDM_CFG_group q) = s.fld (F.TDM_CFG_group p) && s.fld (F.TDM_CFG_fmt q) = fmt
        && s.tdmChStaged q = s.tdmChStaged p))

/-- The fields of a word of a staged map hold a slot or 0xFFFF, of the channels in use and of the others (R390). -/
def State.mapFields (s : State) (lo hi : Fld) : Bool := [s.fld lo, s.fld hi].all fun x => x < s.nslots || x = 0xFFFF

/-- Slots of word k of a port's staged map, of the channels in use, without 0xFFFF. -/
def State.mapWord (s : State) (p k : Nat) (lo hi : Fld) : List Nat :=
  ((if 2 * k < s.tdmChStaged p then [s.fld lo] else []) ++ (if 2 * k + 1 < s.tdmChStaged p then [s.fld hi] else [])).filter
    (· ≠ 0xFFFF)

/-- Slots of a word of the staged input map. -/
def State.inWord (s : State) (p k : Nat) : List Nat := s.mapWord p k (F.TDM_IN_MAP_map_lo p k) (F.TDM_IN_MAP_map_hi p k)

/-- The slot has a writer other than the TDM ports (R48, R140, R189). -/
def State.slotOther (s : State) (slot : Nat) : Bool :=
  s.tasks.any (fun k => k.outs.contains slot) || s.claimedBefore (s.tables [] s.tickNum) 3 0 slot
    || (List.range 32).any (fun c => (s.snsSlots c).contains slot)
    || s.str.rx.any (fun e => ctxOn e.2.ctx && (ctxSlots e.2.ctx).contains slot)

/-- A word of the input map is valid: slots within range, those of the channels in use written by nothing else. -/
def State.inWordOk (s : State) (p k : Nat) : Bool :=
  let mine := s.inWord p k
  let before := ((List.range p).flatMap fun q => (List.range 8).flatMap (s.inWord q)) ++ (List.range k).flatMap (s.inWord p)
  s.mapFields (F.TDM_IN_MAP_map_lo p k) (F.TDM_IN_MAP_map_hi p k)
    && mine.all (fun x => !s.slotOther x && !before.contains x) && !(mine.length = 2 && mine.getD 0 0 = mine.getD 1 0)

/-- A word of the output map is valid. -/
def State.outWordOk (s : State) (p k : Nat) : Bool :=
  s.mapFields (F.TDM_OUT_MAP_map_lo p k) (F.TDM_OUT_MAP_map_hi p k)

/-- The staged registers with their checks, in order of address: register, port, register offset or index, whether it holds. -/
def State.tdmChecks (s : State) : List (Nat × Nat × Nat × Bool) :=
  ((List.range 16).flatMap fun p =>
    (R.TDM_CFG p, p, 0, s.tdmCfgOk p)
      :: ((List.range 8).map fun k => (R.TDM_IN_MAP p k, p, 0x10 + 4 * k, s.inWordOk p k))
      ++ (List.range 8).map fun k => (R.TDM_OUT_MAP p k, p, 0x30 + 4 * k, s.outWordOk p k))
    ++ (List.range 4).map fun m =>
      (R.TDM_MCLK_CFG m, 15, m, s.fld (F.TDM_MCLK_CFG_mult m) ≠ 3
        && (!s.flag (F.TDM_MCLK_CFG_en m) || 128 * 2 ^ s.fld (F.TDM_MCLK_CFG_mult m) * s.fs ≤ 49152000))

/-- The state in which a port starts (R389): off where it neither captures nor drives. -/
def State.portStart (s : State) (p : Nat) : Nat :=
  if !s.appFlag (F.TDM_CFG_in_en p) && !s.appFlag (F.TDM_CFG_out_en p) then 0 else if s.appFlag (F.TDM_CFG_mode p) then 2 else 1

/-- The bits of TDM_CFG whose change restarts a port (R389): fmt, mode, channels, word, fs_delay, fs_width, inversions, clk_src. -/
def restartMask : Word := 0xF0FFC7#32

/-- A port restarts where its configuration changed, or where it is switched on or off (R389). -/
def State.portRestarts (s : State) (old : Word) (p : Nat) : State :=
  let new := s.app (R.TDM_CFG p)
  if old &&& restartMask = new &&& restartMask && (s.portSt p = 0) = (s.portStart p = 0) then s
  else
    let x := s.port p
    ((s.setPort p { rows := x.rows, tail := x.tail }).setPortSt p (s.portStart p)).setFld (F.TDM_RATE_ppm p) 0

/-- A port that goes on keeps its output map for the block that is output: a new one holds from the next block on (R389). -/
def State.keepMap (s : State) (p : Nat) (old : Word) (m : List Nat) : State :=
  let new := s.app (R.TDM_CFG p)
  if old &&& restartMask = new &&& restartMask && s.portSt p ≠ 0 && (s.port p).oldMap.isNone && (List.range 16).map (s.tdmOut p) ≠ m then
    s.setPort p { s.port p with oldMap := some m }
  else s

/-- An MCLK output starts or stops (R380). -/
def State.mclkPin (s : State) (m : Fin 4) (was : Bool) : State :=
  let on := s.appFlag (F.TDM_MCLK_CFG_en m)
  if on = was then s else s.drive (.mclk m) (.pin "MCLK" m on)

/-- The input blocks of the present tick follow the maps that the apply put in force (R389). -/
def State.remap (s : State) (old : List Nat) : State :=
  let s := { s with fab := { s.fab with inp := old.foldl (fun t slot => Tbl.drop slot t) s.fab.inp } }
  (List.range 16).foldl (fun s p => if s.portIn p then s.portSlots p else s) s

/-- The staged registers are checked and applied together, or refused (R389, R390). -/
def State.applyTdm (s : State) : State :=
  let l := s.tdmChecks
  match l.find? fun e => !e.2.2.2 with
  | some e => ((s.setFlag F.TDM_GSTATUS_cfg_err true).setFld F.TDM_GSTATUS_err_port e.2.1).setFld F.TDM_GSTATUS_err_reg e.2.2.1
  | none =>
    let cfgs := (List.range 16).map fun p => s.app (R.TDM_CFG p)
    let slots := (List.range 16).flatMap s.tdmInSlots
    let clks := (List.range 4).map fun m => s.appFlag (F.TDM_MCLK_CFG_en m)
    let maps := (List.range 16).map fun p => (List.range 16).map (s.tdmOut p)
    let s := l.foldl (fun s e => s.putApp e.1 (s.reg e.1)) s
    let s := (List.range 16).foldl (fun s p => (s.portRestarts (cfgs.getD p 0) p).keepMap p (cfgs.getD p 0) (maps.getD p [])) s
    let s := (List.finRange 4).foldl (fun s m => s.mclkPin m (clks.getD m false)) s
    s.remap slots

/-- TDM_STAGED_APPLY (R389, R390): the armed apply's tick has come. One armed in its tick or later has passed, and takes place at the
next boundary. -/
def State.tdmStagedApply (s : State) : State :=
  match s.tdm.armed with
  | none => s
  | some n =>
    if s.tickNum < n || (n ≤ s.tdm.armedIn && s.tickNum = s.tdm.armedIn) then s
    else
      let s := (s.setTdm fun t => { t with armed := none }).setFlag F.TDM_GSTATUS_apply_pend false
      (if n < s.tickNum then s.setFlag F.TDM_GSTATUS_apply_late true else s).applyTdm

/-- TDM_STAGED_APPLY. -/
def execTdmStagedApply (s : State) : Host.Outcome State Fault Refusal := .next s.tdmStagedApply

end Sys2Proof.Machine
end

