-- ==== Sys2Proof/Machine/HostRegs.lean ====
section
/-!
DEFINITION. The host interface's own registers and its failures (R340, R343, R344, R369 to R372): enabling rings, base and
size, HIF_CTRL, resets of the endpoint, failed transfers, bad accesses and bus mastering.
-/

namespace Sys2Proof.Machine

/-- What a ring's enable is at the next boundary, as the last write of its control register left it (R343). -/
def Ring.enNext (x : Ring) : Bool := x.enPend.getD x.en

/-- A write of HIF_RINGr_CTRL (R343): en waits for the next boundary; a command ring needs its completion ring enabled there
(DEDUCED, log 54). -/
def State.ringCtrl (s : State) (r : Nat) (w : Word) : State :=
  let en := w.getLsbD 0
  let x := s.ring r
  if r < 4 && en && !(s.ring (4 + r)).enNext then s.ringErr r
  else
    let s := s.put (R.HIF_RING_CTRL r) (w &&& (if r < 4 then 1#32 else 0xFF03F1#32))
    s.setRing r { x with enPend := if en = x.en then none else some en }

/-- PD_HOST is released: its registers answer. -/
def State.ifHost (s : State) (f : State → State) : State := if s.domOn 18 then f s else s

/-- HIF_RING_CTRL_WRITE (R343). -/
def execHifRingCtrlWrite (r : Fin 12) (w : Word) (s : State) : Host.Outcome State Fault Refusal :=
  .next (s.ifHost fun s => s.ringCtrl r w)

/-- A two-wire request whose command has not ended. -/
def TwiCmd.waits (t : TwiCmd) : Bool := !t.lost && !t.gone && !t.fw

/-- Completion ring k is disabled (R371): command ring k is disabled with it, and the completions that wait and those of the
commands already parsed are discarded and counted. -/
def State.cplRingOff (s : State) (k : Nat) : State :=
  let lost := (s.hif.cpls.filter fun c => c.ring = k).length + (s.hif.twi.filter fun t => t.ring = k && t.waits).length
  let s := s.setHif fun h => { h with
    cpls := h.cpls.filter fun c => c.ring ≠ k
    twi := h.twi.map fun t => if t.ring = k && !t.fw then { t with gone := true } else t }
  let s := { s with sched := s.sched.map fun (t : Timed) => if t.ring = some k then { t with lost := true } else t }
  let s := (s.setRing k { s.ring k with en := false, enPend := none, flight := 0 }).setFlag (F.HIF_RING_CTRL_en k) false
  s.countBy R.HIF_CPL_DROP_CNT lost

/-- A pending enable or disable of a ring takes effect at the boundary (R343, R371): an enabled ring starts with both indices 0; a
command ring whose completion ring is not enabled with it is refused as a write would be. -/
def State.ringEnable1 (s : State) (r : Nat) : State :=
  let x := s.ring r
  match x.enPend with
  | none => s
  | some true =>
    if r < 4 && !(s.ring (4 + r)).enNext then
      ((s.setRing r { x with enPend := none }).setFlag (F.HIF_RING_CTRL_en r) false).ringErr r
    else
    let s := s.setRing r { en := true, flight := x.flight, busy := x.busy }
    if r = 10 then s.setEth fun t => { t with mtx := [] } else s
  | some false =>
    let s := s.setRing r { x with en := false, enPend := none }
    if 4 ≤ r && r < 8 then s.cplRingOff (r - 4) else s

/-- RING_ENABLE_APPLY, and HIF_CTRL.en (R372), at the boundary. -/
def State.ringsEnable (s : State) : State :=
  let s := (List.range 12).foldl State.ringEnable1 s
  ((s.setHif fun h => { h with active := s.flag F.HIF_CTRL_en }).mtxFlush).twiResume

/-- A write of HIF_RINGr_BASE_LO, BASE_HI or SIZE (R343): ignored with ring_err while the ring is enabled or will be. -/
def State.ringCfg (s : State) (r which : Nat) (w : Word) : State :=
  let x := s.ring r
  if x.en || x.enPend = some true then s.ringErr r
  else if which = 0 then s.putLo (R.HIF_RING_BASE_LO r) (R.HIF_RING_BASE_HI r) w
  else if which = 1 then s.holdHi (R.HIF_RING_BASE_HI r) w
  else
    let n := bitsOf w 3 0
    if n < 4 || (if r = 9 then 14 else 12) < n then s.ringErr r else s.put (R.HIF_RING_SIZE r) (word n)

/-- HIF_RING_BASE_SIZE_WRITE (R343): 0 BASE_LO, 1 BASE_HI, 2 SIZE. -/
def execHifRingBaseSizeWrite (r : Fin 12) (which : Fin 3) (w : Word) (s : State) : Host.Outcome State Fault Refusal :=
  .next (s.ifHost fun s => s.ringCfg r which w)

/-- HIF_CTRL_WRITE (R372): it holds from the next boundary. -/
def execHifCtrlWrite (w : Word) (s : State) : Host.Outcome State Fault Refusal :=
  .next (s.ifHost fun s => s.put R.HIF_CTRL (w &&& 1#32))

/-- The offset of a register of the HIF block. -/
def isHif (o : Nat) : Bool := 0x800000 ≤ o && o < 0x810000

/-- The HIF block and the MSI-X table return to their reset values (R369, R477); HIF_DRAM_LIMIT, the link's state and what was
accepted stay, and what the two-wire controllers do. Completions not written, and those of the transfers that end, are discarded and
counted. -/
def State.hifReset (s : State) : State :=
  let limit := s.reg R.HIF_DRAM_LIMIT
  let status := s.reg R.HIF_STATUS
  let lost := s.hif.cpls.length + (s.hif.twi.filter TwiCmd.waits).length
  let s := (s.resetRegs isHif).put R.HIF_DRAM_LIMIT limit
  let s := s.put R.HIF_STATUS (status &&& 0x3F#32)
  let s := s.setHif fun h => {
    twi := (h.twi.filter fun t => t.back.isNone).map fun t => if t.fw then t else { t with lost := true }
    twiNew := h.twiNew
    twiClearU := h.twiClearU }
  let s := { s with sched := s.sched.map fun (t : Timed) => if t.ring.isSome then { t with lost := true } else t }
  let s := s.setEth fun t => { t with mtx := [] }
  s.countBy R.HIF_CPL_DROP_CNT lost

/-- PCIE_RESET (R369): a function-level, hot or link-down reset of the endpoint; the host DMA is drained (R399). Bus mastering is off
after it, and the link is reported again when it is next switched on. -/
def execPcieReset (s : State) : Host.Outcome State Fault Refusal :=
  .next (s.ifHost fun s => (((s.hifReset).drainMaster 14).put R.HIF_STATUS 0).setFlag F.HIF_STATUS_flr_seen true)

/-- A host change of bus mastering (R369): completions, read bytes and vectors that wait go out when it is switched on. The link is up
then; its speed and width are the system's (R339), free values. -/
def State.busMaster (s : State) (on : Bool) : State :=
  let s := if on && !s.flag F.HIF_STATUS_link_up then
      let s := (s.setFlag F.HIF_STATUS_link_up true).setFld F.HIF_STATUS_speed (1 + Config.freeNat s.fresh % 3)
      let s := s.tick1
      (s.setFld F.HIF_STATUS_width (1 + Config.freeNat s.fresh % 2)).tick1
    else s
  let s := s.setFlag F.HIF_STATUS_bme on
  if on then (s.writeCpls.mtxFlush.twiResume).msixGo else s

/-- BUS_MASTER_ENABLE_CHANGE (R369). -/
def execBusMasterEnableChange (on : Bool) (s : State) : Host.Outcome State Fault Refusal :=
  .next (s.ifHost fun s => s.busMaster on)

/-- BAR0_BAD_ACCESS (R340): a write is ignored, a read returns 0. -/
def execBar0BadAccess (write : Bool) (s : State) : Host.Outcome State Fault Refusal :=
  .next (s.ifHost fun s =>
    let s := s.setFlag F.HIF_STATUS_acc_err true
    if write then s else { s with lastRead := 0 })

/-- A failed transfer is recorded, and the host-DMA fault raised (R370). -/
def State.dmaFail (s : State) (a : Nat) : State :=
  let s := s.putPair R.HIF_DMA_ERR_ADDR_LO R.HIF_DMA_ERR_ADDR_HI a
  ((s.setFlag F.HIF_STATUS_dma_err true).count R.HIF_DMA_ERR_CNT).raise 16 (word a)

/-- The payload transfer of a two-wire request failed: its command completes with DMA_ERR (R370); a bus transfer under way goes on. -/
def State.twiFail (s : State) (t : TwiCmd) (a : Nat) : State :=
  let s := s.twiFinish t stDmaErr (a % 2 ^ 32)
  if t.back.isSome then s else s.setHif fun h => { h with twi := { t with lost := true } :: h.twi }

/-- A command's payload transfer failed: the command completes with DMA_ERR (R370). -/
def State.payloadFail (s : State) (c : HostCmd) (a : Nat) : State :=
  match if cmdOp c = 0x0060 then s.hif.twi.find? (fun t => t.ring = c.ring.val && t.tag = cmdTag c && t.waits) else none with
  | some t => s.twiFail t a
  | none =>
  if !s.mayParse c.ring then s
  else
    let s := (s.takeCmd c.ring).endCmd c stDmaErr (a % 2 ^ 32)
    if cmdOp c = 0x0024 then s.psetRefused else if cmdOp c = 0x0031 then s.streamRefused else s

/-- What a failed transfer does by its kind (R24, R370). -/
def State.dmaFailKind (s : State) (k : DmaKind) (a : Nat) : State :=
  match k with
  | .descriptor r =>
    let s := s.dmaFail a
    if r.val < 4 then
      ((s.setRing r { s.ring r with en := false, enPend := none }).setFlag (F.HIF_RING_CTRL_en r) false).ringErr r
    else s
  | .payload c => (s.dmaFail a).payloadFail c a
  | .frame k =>
    let s := s.dmaFail a
    let i := ((s.ring 10).cons + k) % 2 ^ 32
    if k < dist (s.ring 10).prod (s.ring 10).cons then
      let s := match s.mtx i with
        | some _ => s
        | none => s.setMtx i { port := 0 }
      if ((s.mtx i).elim false fun m => m.status.isNone && m.sent.isNone) then s.mtxDone i stDmaErr 0 else s
    else s
  | .completion _ => s.dmaFail a
  | .writeBack => s.dmaFail a
  | .event => s.dmaFail a
  | .meter => s.dmaFail a
  | .shadow => s.dmaFail a
  | .doorbell => if s.hif.fetching then s.fetchLate else s

/-- HOST_DMA_FAIL (R370): no transfer is made, and none fails, while the host interface makes no transfers (R369). -/
def execHostDmaFail (k : DmaKind) (addr : BitVec 64) (s : State) : Host.Outcome State Fault Refusal :=
  .next (if s.traffic then s.dmaFailKind k addr.toNat else s)

end Sys2Proof.Machine
end

