-- ==== Sys2Proof/Machine/TwiCtl.lean ====
section
/-!
DEFINITION. The three two-wire controllers (R463 to R468): requests, the end of a transfer, stretch timeout, lost arbitration,
protocol errors, bus clears and the configuration register. STATUS.state: 0 off, 1 idle, 2 busy, 3 clearing, 4 bus error, 5 not owner.
-/

namespace Sys2Proof.Machine

/-- A controller's state. -/
def State.twiSt (s : State) (n : Nat) : Nat := s.fld (F.TWI_C_STATUS_state n)

/-- Set it. -/
def State.setTwiSt (s : State) (n st : Nat) : State := s.setFld (F.TWI_C_STATUS_state n) st

/-- The request at the front of a controller's queue. -/
def State.twiFront (s : State) (n : Nat) : Option TwiCmd := s.hif.twi.find? fun t => t.ctl = n && t.back.isNone

/-- The outgoing owner of an armed handover starts no transfer (R240). -/
def State.twiHeld (s : State) : Bool := s.twn.ho.any fun h => h.outgoing

/-- Every request of a controller ends with a status. -/
def State.twiEndAll (s : State) (n status : Nat) : State :=
  (s.hif.twi.filter fun t => t.ctl = n && t.back.isNone).foldl (fun s t => s.twiFinish t status 0) s

/-- An enabled controller has not yet read SDA (R468). -/
def State.twiUnread (s : State) (n : Nat) : Bool := s.hif.twiNew.contains n

/-- It is enabled, and has still to read SDA, or it has read it. -/
def State.setTwiUnread (s : State) (n : Nat) (on : Bool) : State :=
  s.setHif fun h => { h with twiNew := (h.twiNew.filter (· ≠ n)) ++ (if on then [n] else []) }

/-- A controller serves its queue (R463, R468): requests complete with NOT_OWNER where the module does not drive the pins, with
TWI_BUS_ERR in the bus-error state; an idle controller that has read SDA starts the one in front. -/
def State.twiServe (s : State) (n : Nat) : State :=
  if !s.drives .twi then (s.relayTwi fun t => t.ctl = n).twiEndAll n stNotOwner
  else if s.twiSt n = 4 then s.twiEndAll n stTwiBusErr
  else if s.twiSt n = 1 && !s.twiUnread n && (s.twiFront n).isSome && !s.twiHeld then s.setTwiSt n 2
  else s

/-- The offset in the descriptor of an argument out of range (R356). -/
def twiArgBad (c : HostCmd) : Option Nat :=
  if 2 < cmdArg c 0 1 then some 16
  else if 127 < cmdArg c 1 1 then some 17
  else if 256 < cmdArg c 2 2 then some 18
  else if 256 < cmdArg c 4 2 then some 20
  else none

/-- The request that a TWI_XFER command makes. -/
def twiRequest (c : HostCmd) : TwiCmd :=
  { ctl := cmdArg c 0 1, ring := c.ring, tag := cmdTag c, addr := cmdArg c 1 1, wr := padTo (cmdArg c 2 2) c.data,
    rd := cmdArg c 4 2, host := cmdArg c 8 8 }

/-- TWI_XFER is parsed (R351, R352, R463): its ring waits for the end of the transfer. -/
def State.twiXfer (s : State) (c : HostCmd) : State :=
  if cmdOp c ≠ 0x0060 || !s.mayParse c.ring then s
  else
    let s := s.takeCmd c.ring
    match badDesc c with
    | some o => s.endCmd c stBadArg o
    | none =>
      if cmdTarget c ≠ 0 then s.endCmd c stBadArg 8
      else match twiArgBad c with
        | some o => s.endCmd c stBadArg o
        | none =>
          let t := twiRequest c
          let s := s.setRing c.ring { s.ring c.ring with busy := true }
          let s := if t.wr.isEmpty then s else s.emit (.hostRead t.host t.wr.length)
          (s.setHif fun h => { h with twi := h.twi ++ [t] }).twiServe t.ctl

/-- A request of the module's own firmware enters the queue of its controller (R463), while firmware runs (R483). -/
def State.twiFirm (s : State) (c : HostCmd) : State :=
  if s.domOn 1 && !s.fwStopped && (twiArgBad c).isNone then
    (s.setHif fun h => { h with twi := h.twi ++ [{ twiRequest c with fw := true }] }).twiServe (cmdArg c 0 1)
  else s

/-- TWI_XFER (R463, R464): of a command, or a request of the module's firmware, with the same arguments. -/
def execTwiXfer (c : HostCmd) (s : State) (fw : Bool := false) : Host.Outcome State Fault Refusal :=
  .next (if fw then s.twiFirm c else s.twiXfer c)

/-- The bytes that a transfer sends before a NACK after `k` transferred data bytes, or all of them (R464). The byte that meets the NACK
is sent: the address, with `data` the first data byte (where k = 0), a later data byte, or the address of the read. With no write bytes
the address goes with R/W = 1, that of a probe too. -/
def twiBytes (t : TwiCmd) (nackAt : Option Nat) (data : Bool) : List Byte :=
  let w := BitVec.ofNat 8 (2 * t.addr)
  let r := BitVec.ofNat 8 (2 * t.addr + 1)
  if t.wr.isEmpty then [r]
  else
    let k := nackAt.getD t.wr.length
    if k = 0 && !data then [w]
    else w :: t.wr.take (k + 1) ++ (if t.rd ≠ 0 && t.wr.length ≤ k then [r] else [])

/-- The bus transfer of a request has ended well: bytes read go to the host, at once or when transfers are made again (R369). -/
def State.twiGood (s : State) (t : TwiCmd) (rd : List Byte) : State :=
  if t.rd = 0 || t.lost || t.fw then s.twiFinish t stOk 0
  else
    (s.setHif fun h => { h with twi := h.twi.erase t ++ [{ t with back := some (padTo t.rd rd) }] }).twiResume

/-- A transfer ends with STOP (R464): OK, with the read bytes in the buffer after the written ones, or TWI_NACK. -/
def State.twiDone (s : State) (n : Nat) (nackAt : Option Nat) (rd : List Byte) (data : Bool) : State :=
  match s.twiFront n with
  | none => s
  | some t =>
    if s.twiSt n ≠ 2 then s
    else
      let s := (s.emit (.twi n (twiBytes t nackAt data))).setTwiSt n 1
      let s := match nackAt with
        | some k =>
          let s := (s.count (R.TWI_C_NACK_CNT n)).setFlag (F.TWI_C_STATUS_nack n) true
          s.twiFinish t stTwiNack k
        | none => (s.count (R.TWI_C_XFER_CNT n)).twiGood t rd
      s.twiServe n

/-- TWI_TRANSFER_COMPLETE (R464): `nackAt` is the number of data bytes transferred before a NACK; `data` where the first data byte,
not the address, met it. -/
def execTwiTransferComplete (n : Fin 3) (nackAt : Option Nat) (rd : List Byte) (s : State) (data : Bool := false) :
    Host.Outcome State Fault Refusal :=
  .next (s.twiDone n nackAt rd data)

/-- A transfer in progress ends without its STOP: a status, and the state after it. -/
def State.twiAbort (s : State) (n status st : Nat) : State :=
  match s.twiFront n with
  | none => s.setTwiSt n st
  | some t => ((s.setTwiSt n st).twiFinish t status 0).twiServe n

/-- The stretch timeout in ns: TWI_Cn_CFG.stretch_ms, 0 taken as 1 (R466). -/
def State.stretchNs (s : State) (n : Nat) : Nat := max 1 (s.fld (F.TWI_C_CFG_stretch_ms n)) * 1000000

/-- TWI_STRETCH_TIMEOUT (R466): SCL has been low for `low` ns; the transfer ends, and the controller clears the bus
(TWI_BUS_CLEAR). A release captured in the same clock cycle counts (R449). -/
def execTwiStretchTimeout (n : Fin 3) (s : State) (low : Nat := 0) (released : Bool := false) : Host.Outcome State Fault Refusal :=
  .next (if s.twiSt n = 2 && s.stretchNs n ≤ low && !released then
      (s.setFlag (F.TWI_C_STATUS_stretch_to n) true).twiAbort n stTwiBusErr 3
    else s)

/-- TWI_ARBITRATION_LOST (R467). -/
def execTwiArbitrationLost (n : Fin 3) (s : State) : Host.Outcome State Fault Refusal :=
  .next (if s.twiSt n = 2 then (s.setFlag (F.TWI_C_STATUS_lost n) true).twiAbort n stTwiBusErr 1 else s)

/-- CONTROLLER_PROTOCOL_ERROR (R467): the controller sends STOP where it holds the bus. -/
def execControllerProtocolError (n : Fin 3) (holdsBus : Bool) (s : State) : Host.Outcome State Fault Refusal :=
  .next (if s.twiSt n = 2 then
      let s := (s.setFlag (F.TWI_C_STATUS_proto n) true).count (R.TWI_C_PROTO_CNT n)
      let s := if holdsBus then s.emit (.twiCond n "STOP") else s
      s.twiAbort n stTwiProto 1
    else s)

/-- A bus clear (R468): SDA reads high after `pulses` and one SCL pulses, or not after nine. -/
def State.twiClear (s : State) (n : Nat) (pulses : Option (Fin 9)) : State :=
  let s := (s.count (R.TWI_C_CLEAR_CNT n)).emit (.twiCond n "CLEAR")
  let s := (s.setTwiUnread n false).setHif fun h => { h with twiClearU := Tbl.set (fun _ => 0) h.twiClearU n s.clk.freeU }
  match pulses with
  | some _ => ((s.emit (.twiCond n "STOP")).setTwiSt n 1).twiServe n
  | none => ((s.setFlag (F.TWI_C_STATUS_bus_err n) true).setTwiSt n 4).twiServe n

/-- TWI_BUS_CLEAR (R468): the controller reads SDA at an enable, and clears the bus where it is low. -/
def execTwiBusClear (n : Fin 3) (sdaLow : Bool) (pulses : Option (Fin 9)) (s : State) : Host.Outcome State Fault Refusal :=
  .next (if (s.twiSt n = 1 && s.twiUnread n || s.twiSt n = 3) && s.drives .twi then
      if sdaLow then s.twiClear n pulses else ((s.setTwiUnread n false).setTwiSt n 1).twiServe n
    else s)

/-- 10 ms have passed since the controller's last bus clear (R468). -/
def State.clearDue (s : State) (n : Nat) : Bool := Tbl.get (fun _ => 0) s.hif.twiClearU n + 10 * (secU / 1000) ≤ s.clk.freeU

/-- TWI_BUS_CLEAR_RETRY (R468): every 10 ms in the bus-error state. -/
def execTwiBusClearRetry (n : Fin 3) (pulses : Option (Fin 9)) (s : State) : Host.Outcome State Fault Refusal :=
  .next (if s.twiSt n = 4 && s.drives .twi && s.clearDue n then s.twiClear n pulses else s)

/-- The defaults of TWI_Cn_TIMING0 to 2 for a speed (R465). -/
def twiTiming : Nat → Word × Word × Word
  | 0 => (word (250 + 248 * 65536), word (15 + 235 * 65536), word (200 + 235 * 65536))
  | 1 => (word (75 + 48 * 65536), word (15 + 30 * 65536), word (30 + 65 * 65536))
  | _ => (word (26 + 22 * 65536), word (5 + 13 * 65536), word (13 + 25 * 65536))

/-- A write of TWI_Cn_CFG (R465, R468): speed 3 is ignored; another speed loads its defaults; en from 0 to 1
enables, and the controller reads SDA (TWI_BUS_CLEAR) before it sends anything. -/
def State.twiCfg (s : State) (n : Nat) (w : Word) : State :=
  let was := s.flag (F.TWI_C_CFG_en n)
  let speed := bitsOf w 2 1
  let keep := s.fld (F.TWI_C_CFG_speed n)
  let s := s.put (R.TWI_C_CFG n) (setBits (w &&& 0xFF07#32) 2 1 (if speed = 3 then keep else speed))
  let s := if speed = 3 then s
    else
      let t := twiTiming speed
      ((s.put (R.TWI_C_TIMING0 n) t.1).put (R.TWI_C_TIMING1 n) t.2.1).put (R.TWI_C_TIMING2 n) t.2.2
  let on := w.getLsbD 0
  if on && !was then ((s.setTwiUnread n (s.drives .twi)).setTwiSt n (if s.drives .twi then 1 else 5)).twiServe n
  else if !on then (s.setTwiUnread n false).setTwiSt n 0
  else s

/-- TWI_CFG_WRITE (R465). -/
def execTwiCfgWrite (n : Fin 3) (w : Word) (s : State) : Host.Outcome State Fault Refusal :=
  .next (if s.domOn 1 then s.twiCfg n w else s)

end Sys2Proof.Machine
end

