-- ==== Sys2Proof/Machine/Twin.lean ====
section
/-!
DEFINITION. Digests, divergence and resynchronisation (R230, R231, R235, R236).
-/

namespace Sys2Proof.Machine

/-! ## Digests (R230) -/

/-- A slot that the digest covers: its writer is a task or a fixed block. -/
def State.digested (s : State) (slot : Nat) : Bool :=
  match s.writer slot with
  | .task _ _ => true
  | .stage _ _ => true
  | _ => false

/-- The digest of the committed blocks (R230). -/
def State.digestNow (s : State) : BitVec 64 :=
  ((List.range s.nslots).filter s.digested).foldl
    (fun c x => crc64 c ((s.blk s.fab.com x).flatMap fun w => beBytes 4 w.toNat)) 0

/-- The digest of the tick committed last is fixed, with the worst class at the commit (R22, R230). -/
def State.fixDigest (s : State) : State :=
  match s.fab.comTick with
  | some n =>
    if 4 ≤ s.pairState then
      s.setTwn fun t => { t with own := t.own ++ [{ tick := n, value := s.digestNow, worst := s.worst }] }
    else s
  | none => s

/-- DIGEST_SEND (R230): the digest of the tick committed last, with its worst class and the role. -/
def State.sendDigest (s : State) : State :=
  match s.twn.own.find? fun d => some d.tick = s.fab.comTick with
  | some d => s.sendMsg 2 (beBytes 8 d.tick ++ beBytes 8 d.value.toNat ++ beBytes 1 d.worst ++ beBytes 1 s.role ++ [0, 0])
  | none => s

/-- DIGEST_SEND. -/
def execDigestSend (s : State) : Host.Outcome State Fault Refusal := .next s.sendDigest

/-- DIGEST (R230): the partner's digest waits for its comparison. -/
def execDigest (tick value : BitVec 64) (worst : BitVec 2) (_owner : Bool) (s : State) (crcOk : Bool := true) :
    Host.Outcome State Fault Refusal :=
  .next (s.ifCrc crcOk fun s => if 4 ≤ s.pairState then
      s.setTwn fun t => { t with theirs := t.theirs ++ [{ tick := tick.toNat, value := value, worst := worst.toNat }] }
    else s)

/-- This module is the wrong one (R231), from the two worst classes. -/
def State.isWrong (s : State) (mine theirs : Nat) : Bool :=
  if 2 ≤ mine && theirs < 2 then true
  else if mine < 2 && 2 ≤ theirs then false
  else if 2 ≤ mine && mine ≠ theirs then theirs < mine
  else if s.pairState = 4 && s.twn.cold then !s.pref
  else !s.isOwner

/-- The wrong module of tick n becomes the destination; a wrong owner is handed over from at n + 4, with no proposal and in place
of a handover for another tick that has not begun (R231). -/
def State.resyncWrong (s : State) (n : Nat) (wrong : Bool) : State :=
  let ownerWrong := wrong == s.isOwner
  let s := s.startResync (!wrong)
  if ownerWrong && (s.isOwner || s.twn.ownIn) && !s.twn.ho.any (fun h => h.h ≤ s.tickNum) then s.armHandover (n + 4) s.isOwner else s

/-- What the digests of a tick that differ lead to (R227, R230, R231). -/
def State.diverge (s : State) (n mine theirs : Nat) : State :=
  let wrong := s.isWrong mine theirs
  if s.pairState = 4 then (s.count R.TWN_RESYNC_CNT).resyncWrong n wrong
  else if s.twn.run < 3 then s
  else
    let s := (s.raise 17 (word n)).count R.TWN_DIV_CNT
    let s := (s.setFlag F.TWN_STATUS_div true).postEvent 4 6 []
    s.resyncWrong n wrong

/-- A digest agrees (R227): the eighth in a row in VERIFY gives EQUINOX. -/
def State.agreeDigest (s : State) : State :=
  let s := s.setTwn fun t => { t with run := 0, agree := t.agree + 1 }
  if s.pairState = 4 && 8 ≤ s.twn.agree then
    ((s.setPair 5).setTwn fun t => { t with quiet := false, cold := false }).postEvent 4 2 []
  else s

/-- Compare the digests of one tick (R230). -/
def State.compareOne (s : State) (d : Dig) : State :=
  if s.pairState < 4 then s
  else
    match s.twn.theirs.find? fun e => e.tick = d.tick with
    | none => (s.count R.TWN_DIG_MISS_CNT).setTwn fun t => { t with agree := 0 }
    | some e =>
      let s := s.putPair R.TWN_DIG_LO R.TWN_DIG_HI d.value.toNat
      let s := s.putPair R.TWN_PDIG_LO R.TWN_PDIG_HI e.value.toNat
      let s := s.putPair R.TWN_DIG_TICK_LO R.TWN_DIG_TICK_HI d.tick
      if d.value = e.value then s.agreeDigest
      else
        let s := (s.count R.TWN_MISMATCH_CNT).setTwn fun t => { t with run := t.run + 1, agree := 0 }
        s.diverge d.tick d.worst e.worst

/-- DIGEST_COMPARE (R230): at b_(n+2) the digests of tick n are compared. -/
def State.compareDigests (s : State) : State :=
  let due := s.twn.own.filter fun d => d.tick + 2 ≤ s.tickNum
  let s := due.foldl State.compareOne s
  s.setTwn fun t => { t with
    own := t.own.filter fun d => !due.contains d, theirs := t.theirs.filter fun e => !(due.any fun d => d.tick = e.tick) }

/-- DIGEST_COMPARE. -/
def execDigestCompare (s : State) : Host.Outcome State Fault Refusal := .next s.compareDigests

/-! ## Resynchronisation: the configuration (R235, R278) -/

/-- A parameter set as step 1 carries it. -/
def State.setMove (s : State) (id : Nat) (p : PSet) : SetMove :=
  { id := id, off := p.off, size := p.size, bank := p.bank, data := s.active? p }

/-- An amplifier channel as step 1 carries it (R278). -/
def State.ampMove (s : State) (c : Fin 32) : AmpMove :=
  let x := s.amp1 c
  { ch := c, state := x.st.code, timer := x.timer, gFrom := x.gFrom, gTo := x.gTo, gLen := x.gLen, gK := x.gK, gr := x.gr
    sums := x.sums, win := (if x.st = .check then x.chk else x.win).map fun z => (z.n, z.vc, z.vs, z.ic, z.is), zBase := s.fld (F.SNS_CH_ZBASE_z_base c)
    learn := x.learn, flags := s.fld (F.SNS_CH_ZFLAGS_now c), uv := s.flag (F.MOD_CH_STATUS_uv c) }

/-- A commit that is pending, as step 1 carries it. -/
def Timed.move (t : Timed) : Option CommitMove :=
  match t.kind with
  | .psetCommit ids _ => some { tick := t.target, streams := false, ids := ids, id := t.propId.getD 0 }
  | .streamCommit xs _ => some { tick := t.target, streams := true, ids := xs, id := t.propId.getD 0 }
  | _ => none

/-- The configuration that the source sends in step 1 (R235). -/
def State.config (s : State) : ResyncCfg :=
  { step := 1
    sets := (s.mix.sets.map fun e => s.setMove e.1 e.2)
      ++ (List.range 20).map fun k => s.setMove (4064 + k) (s.blockSet (4064 + k))
    rx := s.str.rx.map fun e => (e.1, e.2.ctx)
    tx := s.str.tx
    commits := s.sched.filterMap Timed.move
    routes := s.mix.route
    xps := s.mix.xp
    looks := (s.mix.dyn.filter fun e => e.2.look.isSome || e.2.defer.isSome).map fun e =>
      { unit := e.1, look := e.2.look, defer := e.2.defer }
    amps := (List.finRange 32).map s.ampMove }

/-- Install one parameter set: its place, its bank, its active contents. -/
def State.installSet (s : State) (m : SetMove) : State :=
  let p : PSet := { off := m.off, size := m.size, bank := m.bank % 2 }
  (s.setPset m.id p).putBytes (p.addr p.bank 0) (m.data.take m.size)

/-- Install a receive context: a changed one starts anew (R208). One that the source does not have is empty. -/
def State.installRx (s : State) (i : Nat) (c : List Byte) : State :=
  if (s.rx i).ctx = c then s
  else (s.setRx i { ctx := c }).setFld (F.STR_RX_STATUS_state i) (bit (ctxOn c))

/-- Install a transmit context. -/
def State.installTx (s : State) (i : Nat) (c : List Byte) : State :=
  let s := s.setStr fun t => { t with tx := Tbl.set (fun _ => []) t.tx i c }
  let s := s.setFlag (F.STR_TX_STATUS_enabled i) (ctxOn c)
  s.setFld (F.STR_TX_STATUS_ports i) (if ctxOn c then ctxFlags c / 32 % 8 else 0)

/-- A pending commit of the source as the destination holds it. -/
def CommitMove.timed (m : CommitMove) : Timed :=
  { target := m.tick, kind := if m.streams then .streamCommit m.ids true else .psetCommit m.ids true, ring := none, tag := 0
    late := false, propId := some m.id }

/-- The channel state of a code; the codes without a state stand for OFF. -/
def chStateOf (n : Nat) : ChState :=
  match n with
  | 1 => .check
  | 2 => .play
  | 3 => .mute
  | 4 => .tripped
  | 5 => .retry
  | _ => .off

/-- Install an amplifier channel (R278). -/
def State.installAmp (s : State) (m : AmpMove) : State :=
  let x := s.amp1 m.ch
  let z := m.win.map fun w =>
    ({ n := w.1, vc := w.2.1, vs := w.2.2.1, ic := w.2.2.2.1, is := w.2.2.2.2 } : ZSum)
  let s := s.putAmp1 m.ch { x with
    st := chStateOf m.state, timer := m.timer, gFrom := m.gFrom, gTo := m.gTo, gLen := m.gLen, gK := m.gK, gr := m.gr
    sums := m.sums, chk := if chStateOf m.state = .check then z else none, win := if chStateOf m.state = .check then none else z, learn := m.learn, stage := (chStateOf m.state).switching }
  let s := s.setFld (F.SNS_CH_ZBASE_z_base m.ch) m.zBase
  (s.setFld (F.SNS_CH_ZFLAGS_now m.ch) m.flags).setFlag (F.MOD_CH_STATUS_uv m.ch) m.uv

/-- The bus and dynamics tables follow the installed sets. -/
def State.installTables (s : State) (looks : List LookMove) : State :=
  let b := s.active? (s.blockSet 4081)
  let d := s.active? (s.blockSet 4082)
  let s := (List.range 512).foldl
    (fun s i => s.setMix fun m => { m with bus := Tbl.set (fun _ => {}) m.bus i (busAt b i) }) s
  (List.range 512).foldl
    (fun s i =>
      let k := looks.find? fun m => m.unit = i
      let e := dynAt d i
      let e := match k with
        | some m => if m.defer.isSome then { e with look := (s.dynU i).e.look } else e
        | none => e
      s.setDyn i { s.dynU i with e := e, look := k.bind (·.look), defer := k.bind (·.defer) }) s

/-- The destination installs the configuration (R235). -/
def State.install (s : State) (c : ResyncCfg) : State :=
  let ids := c.sets.map (·.id)
  let s := s.setMix fun m => { m with sets := m.sets.filter fun e => ids.contains e.1 }
  let s := c.sets.foldl State.installSet s
  let s := s.installTables c.looks
  let gone := fun (mine : List Nat) (theirs : List (Nat × List Byte)) =>
    (mine.filter fun i => !theirs.any fun e => e.1 = i).map fun i => (i, ([] : List Byte))
  let s := (gone (s.str.rx.map (·.1)) c.rx ++ c.rx).foldl (fun s e => s.installRx e.1 e.2) s
  let s := (gone (s.str.tx.map (·.1)) c.tx ++ c.tx).foldl (fun s e => s.installTx e.1 e.2) s
  let s := { s with sched := (s.sched.filter fun (t : Timed) => !t.kind.isCommit || t.ring.isSome) ++ c.commits.map CommitMove.timed }
  let s := s.setMix fun m => { m with
    route := c.routes.foldl (fun t (e : Nat × RouteSt) => Tbl.set (fun _ => {}) t e.1 e.2) []
    xp := c.xps.foldl (fun t (e : Nat × XpSt) => Tbl.set (fun _ => {}) t e.1 e.2) []
    meterNew := true }
  let s := c.amps.foldl State.installAmp s
  ((s.mixCounts).strCounts).pendCounts

/-! ## Resynchronisation: mirror and units -/

/-- A mirror message (R229): tick, slot, byte offset, a block's samples in network order. -/
def State.mirrorMsg (s : State) (n slot : Nat) (b : List Word) : State :=
  s.sendMsg 5 (beBytes 8 n ++ beBytes 4 slot ++ beBytes 4 0 ++ b.flatMap fun w => beBytes 4 w.toNat)

/-- The source mirrors the blocks committed last and the inputs of the present tick (R235). -/
def State.sendMirror (s : State) : State :=
  match s.fab.comTick with
  | none => s
  | some k =>
    (List.range s.nslots).foldl
      (fun s x =>
        if s.digested x then s.mirrorMsg k x (s.blk s.fab.com x)
        else if s.isInput x then s.mirrorMsg s.tickNum x (s.blk s.fab.inp x)
        else s) s

/-- The units of phase p in the order of their transfer (R235). -/
def State.phaseUnits (s : State) (p : Nat) : List Nat :=
  ((List.range s.tasks.length).filter fun i => (s.task? i).elim false fun t => t.phase = p)
    ++ (s.mix.dyn.filter fun e => e.2.e.enable && e.2.e.phase = p).map fun e => 16384 + e.1

/-- The state bytes of a unit, as committed last. -/
def State.unitBytes (s : State) (u : Nat) : List Byte :=
  if u < 16384 then
    match s.task? u with
    | some t => s.bytes (tickStore + t.stateIn) (t.stateLen * 64)
    | none => []
  else
    let m := (s.dynU (u - 16384)).m
    Config.dynBytes m.gr m.ms m.hist

/-- Send a unit's state in messages of at most 8176 bytes. -/
def State.sendUnit (s : State) (u off : Nat) : Nat → List Byte → State
  | 0, _ => s
  | k + 1, bs =>
    let s := s.sendMsg 7 (beBytes 8 s.tickNum ++ beBytes 4 u ++ beBytes 4 off ++ bs.take 8176)
    if (bs.drop 8176).isEmpty then s else s.sendUnit u (off + 8176) k (bs.drop 8176)

/-- Ticks until the delayed entries of phase p have had a clean source for d + T samples (R235). -/
def State.delayTicks (s : State) (p : Nat) : Nat :=
  let ds := (s.mix.route.filter fun e => e.2.e.enable && e.2.e.dlyEn && e.2.e.phase = p).map fun e => e.2.e.delay
  if ds.isEmpty then 0 else (ds.foldl max 0 + 2 * s.T - 1) / s.T

/-- The source: the next phase, or the final step (R235, R236). -/
def State.nextPhaseOut (s : State) : State :=
  let p := s.twn.rsPhase + 1
  let s := s.setTwn fun t => { t with rsPhase := p, rsSent := 0, rsClean := none }
  if p < s.phases.length then
    let s := s.sendCmd 9 (beBytes 1 3 ++ beBytes 8 (s.tickNum + 1))
    (s.setFld F.TWN_RS_STATUS_phase p).rsStep 3
  else s.rsAnnounce 5

/-- Send units, and note which went in this tick, for eight ticks. -/
def State.sendBatch (s : State) (us : List Nat) : State :=
  let s := us.foldl (fun s u => let bs := s.unitBytes u; s.sendUnit u 0 (bs.length / 8176 + 1) bs) s
  s.setTwn fun t => { t with rsLog := (t.rsLog ++ [(s.tickNum, us)]).drop (t.rsLog.length - 7) }

/-- The source: the runs of every unit sent are over, and one that failed would have been asked for again (R235). -/
def State.rsSettled (s : State) : Bool := s.twn.rsLog.all fun e => e.2.isEmpty || e.1 + 3 ≤ s.tickNum

/-- The source at a boundary of its unit steps: units that the destination asked for again, then units of the phase, at most
rs_units; then the phase becomes clean. The final step waits until no unit can be asked for again. -/
def State.sendUnits (s : State) : State :=
  let n := max 1 (s.fld F.TWN_CFG_rs_units)
  if !s.twn.rsAgain.isEmpty then
    let us := s.twn.rsAgain.take n
    (s.sendBatch us).setTwn fun t => { t with
      rsAgain := t.rsAgain.drop n, rsClean := t.rsClean.map fun c => max c (s.tickNum + 1) }
  else
  match s.twn.rsClean with
  | some t =>
    if t ≤ s.tickNum && s.twn.rsNext.isNone && (s.twn.rsPhase + 1 < s.phases.length || s.rsSettled) then s.nextPhaseOut else s
  | none =>
    let us := (s.phaseUnits s.twn.rsPhase).drop s.twn.rsSent
    let s := s.sendBatch (us.take n)
    let s := s.setTwn fun t => { t with rsSent := t.rsSent + min n us.length }
    if us.length ≤ n then
      let s := s.setTwn fun t => { t with rsClean := some (s.tickNum + 1 + s.delayTicks t.rsPhase) }
      (s.sendCmd 9 (beBytes 1 4 ++ beBytes 8 (s.tickNum + 1))).rsStep 4
    else s

/-- Write bytes of a unit that was received. -/
def State.installPart (s : State) (r : RsUnit) : State :=
  if r.unit < 16384 then
    match s.task? r.unit with
    | some t => s.putBytes (tickStore + t.stateIn + r.off) (r.data.take (t.stateLen * 64 - r.off))
    | none => s
  else
    let i := r.unit - 16384
    let m := Config.dynState r.data
    s.setDyn i { s.dynU i with m := { gr := m.1, ms := m.2.1, hist := m.2.2 } }

/-- The destination installs the units that have arrived; each runs for the tick before first (R235). -/
def State.installUnits (s : State) : State :=
  let us := (s.twn.units.map (·.unit)).eraseDups
  let s := s.twn.units.foldl State.installPart s
  let s := s.setTwn fun t => { t with
    units := [], ran := us, catchUp := t.catchUp ++ us.filter fun u => !t.catchUp.contains u
    rsGot := t.rsGot ++ us.filter fun u => !t.rsGot.contains u }
  s.setFld F.TWN_RS_STATUS_units (min 16896 s.twn.rsGot.length)

/-- The units whose runs overran or failed in the tick that ends: that for the tick before, or a task's for the tick itself. -/
def State.failedUnits (s : State) : List Nat :=
  s.twn.ran.filter fun u => s.twn.catchUp.contains u || (u < 16384 && s.stat u ≠ .done)

/-- At the boundary the destination asks for the units of a tick with a failed run again (R235): by RS_STEP of step 3 with that
tick, for which the spec gives no message (DESIGN CHOICE, log entry 44). -/
def State.askAgain (s : State) : State :=
  if s.pairState ≠ 3 || s.twn.ran.isEmpty then s
  else
    let us := s.failedUnits
    let s := s.setTwn fun t => { t with
      ran := [], catchUp := t.catchUp.filter fun u => !us.contains u, rsGot := t.rsGot.filter fun u => !us.contains u }
    if us.isEmpty then s
    else
      (s.setFld F.TWN_RS_STATUS_units (min 16896 s.twn.rsGot.length)).sendCmd 9 (beBytes 1 3 ++ beBytes 8 s.tickNum)

/-- The mirror and the unit transfer at a boundary, and their end after tick F + 8 (R236). -/
def State.resyncTick (s : State) : State :=
  let n := s.tickNum
  let s := s.setTwn fun t => { t with mirror := t.mirror.filter fun m => n ≤ m.1 + 2 }
  let s := if s.pairState = 3 then s.installUnits else s
  match s.twn.rsEnd with
  | some e =>
    if e + 1 < n then (s.setTwn fun t => { t with rsEnd := none, rsSource := false, mirror := [] }).put R.TWN_RS_STATUS 0
    else if s.twn.rsSource then s.sendMirror
    else s
  | none =>
    if s.pairState = 2 && s.flag F.TWN_RS_STATUS_mirror then
      let s := s.sendMirror
      if 3 ≤ s.fld F.TWN_RS_STATUS_step then s.sendUnits else s
    else s

/-! ## Resynchronisation: the messages and the steps -/

/-- RS_STEP (R235): the destination takes note of an announced step; the source sends again the units whose runs in a tick failed:
those it sent the tick before (log entry 44). -/
def State.takeRsStep (s : State) (n tick : Nat) : State :=
  if s.pairState = 3 then s.setTwn fun t => { t with rsNext := some (n, tick) }
  else if s.pairState = 2 && n = 3 then
    s.setTwn fun t => { t with rsAgain := t.rsAgain ++ (t.rsLog.filter fun e => e.1 + 1 = tick).flatMap (·.2) }
  else s

/-- RS_STEP (R235). -/
def execRsStep (n : Fin 6) (tick : BitVec 64) (s : State) (crcOk : Bool := true) : Host.Outcome State Fault Refusal :=
  .next (s.ifCrc crcOk fun s => s.takeRsStep n tick.toNat)

/-- The announced step that is due. -/
def State.stepDue (s : State) : Option Nat :=
  match s.twn.rsNext with
  | some (n, t) => if t ≤ s.tickNum then some n else none
  | none => none

/-- RESYNC_STEP_START (R235): a step begins at its announced tick; the source announces the next one. -/
def State.stepStart (s : State) (c : ResyncCfg) : State :=
  if s.pairState ≠ 2 && s.pairState ≠ 3 then s
  else
    match s.stepDue with
    | some 1 =>
      let s := (s.setTwn fun t => { t with rsNext := none, rsFirst := true }).rsStep 1
      let s := if s.twn.rsSource then s.emit (.resync s.config) else s.install c
      let s := s.setPaired
      if s.twn.rsSource then s.rsAnnounce 2 else s
    | some 2 =>
      let s := (s.setTwn fun t => { t with rsNext := none, rsMirror := !t.rsSource }).rsStep 2
      let s := s.setFlag F.TWN_RS_STATUS_mirror true
      if s.twn.rsSource then (s.sendMirror).rsAnnounce 3 else s
    | some 3 =>
      let p := if s.fld F.TWN_RS_STATUS_step = 4 then s.fld F.TWN_RS_STATUS_phase + 1 else s.fld F.TWN_RS_STATUS_phase
      let s := if s.twn.rsSource then s else s.setFld F.TWN_RS_STATUS_phase p
      (s.setTwn fun t => { t with rsNext := none }).rsStep 3
    | some 4 => (s.setTwn fun t => { t with rsNext := none }).rsStep 4
    | _ => s

/-- RESYNC_STEP_START. -/
def execResyncStepStart (cfg : ResyncCfg) (s : State) : Host.Outcome State Fault Refusal := .next (s.stepStart cfg)

/-- MIRROR (R235): a block arrives in the destination. -/
def execMirror (tick : BitVec 64) (slot : Fin 4096) (block : List Word) (s : State) (crcOk : Bool := true) :
    Host.Outcome State Fault Refusal :=
  .next (s.ifCrc crcOk fun s => if s.pairState = 3 then s.setTwn fun t => { t with mirror := t.mirror ++ [(tick.toNat, slot.val, block)] } else s)

/-- STATE_TRANSFER (R235): bytes of a unit arrive in the destination; the next boundary installs them. -/
def execStateTransfer (tick : BitVec 64) (unit off : Nat) (data : List Byte) (s : State) (crcOk : Bool := true) :
    Host.Outcome State Fault Refusal :=
  .next (s.ifCrc crcOk fun s => if s.pairState = 3 then
      s.setTwn fun t => { t with units := t.units ++ [{ tick := tick.toNat, unit := unit, off := off, data := data }] }
    else s)

/-- RESYNC_FINAL (R236): at tick F the destination reads its own blocks, and both modules verify. -/
def State.resyncFinal (s : State) : State :=
  if s.stepDue = some 5 && (s.pairState = 2 || s.pairState = 3) then
    let s := s.setTwn fun t => { t with rsNext := none, rsMirror := false, catchUp := [], rsEnd := some (s.tickNum + 8), agree := 0, run := 0 }
    (s.rsStep 5).setPair 4
  else s

/-- RESYNC_FINAL. -/
def execResyncFinal (s : State) : Host.Outcome State Fault Refusal := .next s.resyncFinal

end Sys2Proof.Machine
end

