-- ==== Sys2Proof/Machine/Xbar.lean ====
section
/-!
DEFINITION. Crossbar and on-chip memory (R391 to R407): the address map, decode errors, drains of masters, uncorrectable
words, the transparent march and soft repair.
-/

namespace Sys2Proof.Machine

/-! ## The address map (R391, R393) -/

/-- Installed capacity in bytes (DDR_CAP, R412): 0 before training. -/
def State.dramCap (s : State) : Nat := s.fld F.DDR_CAP_cap * 2 ^ 30

/-- A populated offset of an engine's window (R80). -/
def windowOff (o : Nat) : Bool := within o 0 0x8000 || within o 0x10000 0x10000 || within o 0x20000 0x8000

/-- The address reaches a target other than the default one (R391, R393, R474). -/
def State.decodes (s : State) (a : Nat) : Bool :=
  (s.domOn 1 && (within a 0 0x40000 || within a 0x10000000 0x40000 || within a 0x11000000 0x200000 || within a 0x40000000 0x1000000))
    || (s.domOn 15 && within a 0x12000000 0x400000)
    || (s.domOn 2 && within a 0x20000000 0x2000000)
    || (within a 0x30000000 0x1800000 && s.domOn (3 + (a - 0x30000000) / 0x200000) && windowOff ((a - 0x30000000) % 0x40000))
    || (s.domOn 16 && within a 0x400000000 s.dramCap)

/-- The offset in the boot ROM that an address reaches (R391, R392). -/
def State.rom (s : State) (a : Nat) : Option Nat :=
  if within a 0x10000000 0x40000 then some (a - 0x10000000)
  else if a < 0x40000 && !s.flag F.SYS_REMAP_remap then some a
  else none

/-- Where the byte at an address is stored (R391, R392): the zero window is control SRAM while SYS_REMAP = 1. -/
def State.storageOf (s : State) (a : Nat) : Nat := if a < 0x40000 && s.flag F.SYS_REMAP_remap then 0x11000000 + a else a

/-- The byte that a master's read of an address returns: 0 from the default target (R393). -/
def State.readByte (s : State) (a : Nat) : Byte :=
  match s.rom a with
  | some o => if s.decodes a then Config.bootRom o else 0
  | none => if s.decodes a then s.byte (s.storageOf a) else 0

/-- The word that a master's read of an address returns. -/
def State.readWord (s : State) (a : Nat) : Word := word (leNat ((List.range 4).map fun k => s.readByte (a / 4 * 4 + k)))

/-- A request to the default target (R393) is answered with an error; a read returns 0. The first since derr was cleared is latched,
each is counted and raised. -/
def State.decodeErr (s : State) (a m : Nat) (write : Bool) : State :=
  let s := if s.flag F.XBR_STATUS_derr then s
    else ((s.putPair R.XBR_DERR_ADDR_LO R.XBR_DERR_ADDR_HI a).setFld F.XBR_DERR_INFO_master m).setFlag F.XBR_DERR_INFO_write write
  let s := ((s.setFlag F.XBR_STATUS_derr true).count R.XBR_DERR_CNT).emit (.firmware "ERROR_RESPONSE" m)
  (if write then s else { s with lastRead := 0 }).raise 5 (s.reg R.XBR_DERR_INFO)

/-- A write of another master to an engine's window (R80): stored while the engine is fenced, and otherwise discarded with an
error response. -/
def State.windowWrite (s : State) (a m : Nat) (w : Word) : State :=
  if s.active ((a - 0x30000000) / 0x40000) then s.emit (.firmware "ERROR_RESPONSE" m) else s.putMemWord (a / 4 * 4) w

/-- A request that reaches a memory: a read returns its word; a write of the boot ROM changes nothing, one of an engine's window is
R80's. The register space is the register commands'. -/
def State.request (s : State) (a m : Nat) : Option Word → State
  | none => if within a 0x40000000 0x1000000 then s else { s with lastRead := s.readWord a }
  | some w =>
    if within a 0x40000000 0x1000000 || (s.rom a).isSome then s
    else if within a 0x30000000 0x1800000 then s.windowWrite a m w
    else s.store m (s.storageOf (a / 4 * 4)) (leBytes 4 w.toNat)

/-- DECODE_ERROR (R391, R393): a request of a master, the word that it writes or none for a read, to the default target; one that reaches
another target is carried out there. -/
def execDecodeError (addr : BitVec 36) (master : Fin 17) (write : Option Word) (s : State) : Host.Outcome State Fault Refusal :=
  .next (if s.decodes addr.toNat then s.request addr.toNat master write else s.decodeErr addr.toNat master write.isSome)

/-! ## Drains (R399, R400) -/

/-- MASTER_DRAIN (R399, R400). -/
def execMasterDrain (m : Fin 17) (s : State) : Host.Outcome State Fault Refusal := .next (s.drainMaster m)

/-- The drain `k` is of master m: its own, or that of an engine of its cluster. -/
def drainOf (m k : Nat) : Bool := k = m || (32 ≤ k && (k - 32) / 8 = m)

/-- The writes of the engines of cluster m that were drained: as many 64-byte beats of each as had been accepted are written, the rest
changes nothing (R399). -/
def State.landWrites (s : State) (m : Nat) (landed : List (Eng × Nat)) : State :=
  let s := (s.sram.landing.filter fun l => drainOf m (32 + l.1)).foldl
    (fun s l => s.storeWords (l.1 / 8) l.2.1 (l.2.2.take (16 * (landed.find? fun x => x.1.val = l.1).elim 0 (·.2)))) s
  s.setSram fun x => { x with landing := x.landing.filter fun l => !drainOf m (32 + l.1) }

/-- The drains of a master end, after `cycles` cycles, 256 at most (R399, R400). -/
def State.drainEnds (s : State) (m cycles : Nat) (landed : List (Eng × Nat)) : State :=
  if s.sram.drain.any (drainOf m) then
    let s := (s.landWrites m landed).setSram fun x => { x with drain := x.drain.filter fun k => !drainOf m k }
    s.setFld F.XBR_DRAIN_MAX_cycles (max (s.fld F.XBR_DRAIN_MAX_cycles) (min cycles 256))
  else s

/-! ## Patrol scrub and conflict counters (R404, R408) -/

/-- Rows of a unit's memory of `n` rows in which the patrol scrub stands. -/
def State.scrubRow (s : State) (n : Nat) : Nat := s.sram.scrub % n

/-- The SRAM scrub of a tick: MEM_SCRUB_CFG.rows rows of every memory (R404). -/
def State.scrubSram (s : State) : State :=
  if s.domOn 2 then s.setSram fun x => { x with scrub := x.scrub + s.fld F.MEM_SCRUB_CFG_rows } else s

/-- What the memory system counted in the tick (R401, R408, R413, R415, R418). -/
def State.memSeen (s : State) (x : TickSeen) : State :=
  let s := x.conf.foldl (fun s (e : Fin 17 × Fin 16 × Nat) => s.countBy (R.XBR_CONF_CNT (16 * e.1.val + e.2.1.val)) e.2.2) s
  let s := s.countBy R.MEM_ECC_CORR_CNT x.fixed
  if s.domOn 16 then (s.countBy R.DDR_PANIC_CYC x.panic).dramFix x.dramFixed else s

/-! ## March and repair (R405 to R407) -/

/-- The spares of a sub-bank. -/
def State.spares (s : State) (sub : Nat) : Spares := Tbl.get (fun _ => {}) s.sram.spares sub

/-- Spare rows in use. -/
def Spares.used (x : Spares) : Nat := bit x.row0.isSome + bit x.row1.isSome

/-- Store them; MEM_REPAIR_USED follows. -/
def State.setSpares (s : State) (sub : Nat) (x : Spares) : State :=
  let s := s.setSram fun t => { t with spares := Tbl.set (fun _ => {}) t.spares sub x }
  s.setFld F.MEM_REPAIR_USED_rows ((s.sram.spares.map fun e => e.2.used).sum)

/-- A failing row is replaced by a spare of its sub-bank that passed, where one is free (R406, R407). -/
def Spares.replace (x : Spares) (row : Nat) : Option Spares :=
  if x.row0.isNone && !x.bad0 then some { x with row0 := some row }
  else if x.row1.isNone && !x.bad1 then some { x with row1 := some row }
  else none

/-- The sub-bank of a unit's row, and the row within it: an engine's rows lie program, X, Y. -/
def subBank (u row : Nat) : Nat × Nat :=
  if u < 16 then (u * 32 + row / 512, row % 512)
  else if u = 16 then (512 + row / 512, row % 512)
  else if u = 17 then (544 + row / 512, row % 512)
  else
    let k := 608 + 3 * (u - 32)
    if row < 256 then (k, row) else if row < 768 then (k + 1, row - 256) else (k + 2, row - 768)

/-- A row fails a march on request: repaired at once, or it stays in use and SRAM-unrepairable is raised with class C2 (R407). -/
def State.marchRow (s : State) (u row : Nat) : State :=
  let b := subBank u row
  let s := s.setFld F.MEM_MARCH_STATUS_row row
  match (s.spares b.1).replace b.2 with
  | some x =>
    let s := (s.setSpares b.1 x).setFlag F.MEM_STATUS_repair true
    s.setFld F.MEM_MARCH_STATUS_result (max 1 (s.fld F.MEM_MARCH_STATUS_result))
  | none =>
    let s := (s.setFlag F.MEM_STATUS_unrep true).setFld F.MEM_MARCH_STATUS_result 2
    s.raiseAs 7 (word b.1) 2

/-- A request of a transparent march (R407): refused for an active engine. -/
def State.marchRequest (s : State) (u : Nat) : State :=
  if s.sram.march.isSome then s
  else if 18 ≤ u && (u < 32 || 128 ≤ u || s.active (u - 32)) then s.setFld F.MEM_MARCH_STATUS_result 3
  else
    (((s.setSram fun x => { x with march := some u }).setFlag F.MEM_MARCH_STATUS_busy true).setFld
      F.MEM_MARCH_STATUS_result 0).setFld F.MEM_MARCH_STATUS_row 0

/-- A write of MEM_MARCH_CTRL. -/
def State.marchCtrl (s : State) (w : Word) : State :=
  let s := s.put R.MEM_MARCH_CTRL (w &&& 0xFF#32)
  if w.getLsbD 8 then s.marchRequest (bitsOf w 7 0) else s

/-- MARCH_REQUEST (R407). -/
def execMarchRequest (w : Word) (s : State) : Host.Outcome State Fault Refusal :=
  .next (if s.domOn 2 then s.marchCtrl w else s)

/-- The march that runs ends, with the rows that failed. -/
def State.marchDone (s : State) (failing : List Nat) : State :=
  match s.sram.march with
  | some u =>
    let s := failing.foldl (fun s r => s.marchRow u r) s
    (s.setSram fun x => { x with march := none }).setFlag F.MEM_MARCH_STATUS_busy false
  | none => s

/-- MARCH_COMPLETE (R407). -/
def execMarchComplete (failing : List Nat) (s : State) : Host.Outcome State Fault Refusal := .next (s.marchDone failing)

/-- MEM_REPAIR_DATA of the sub-bank that MEM_REPAIR_IDX names. -/
def State.repairData (s : State) : Word :=
  let x := s.spares (s.fld F.MEM_REPAIR_IDX_sub)
  word (x.row0.getD 0x3FF + x.row1.getD 0x3FF * 2 ^ 16 + bit x.bad0 * 2 ^ 30 + bit x.bad1 * 2 ^ 31)

/-- A row of a sub-bank failed the march of a power-up (R405, R406): 512 and 513 name its spares themselves. True where the
sub-bank had no good spare left. -/
def State.powerUpRow (s : State) (sub row : Nat) : State × Bool :=
  let x := s.spares sub
  if row = 512 then (s.setSpares sub { x with bad0 := true }, false)
  else if row = 513 then (s.setSpares sub { x with bad1 := true }, false)
  else match x.replace row with
    | some y => (s.setSpares sub y, false)
    | none => (s.setFlag F.MEM_STATUS_unrep true, true)

end Sys2Proof.Machine
end

