-- ==== Sys2Proof/Machine/Dram.lean ====
section
/-!
DEFINITION. The external DRAM controller (R409 to R432): capacity, refresh and its debts, temperature, uncorrectable words,
training, clearing and self-refresh.
-/

namespace Sys2Proof.Machine

/-- PD_DDR is released: its registers answer. -/
def State.ifDdr (s : State) (f : State → State) : State := if s.domOn 16 then f s else s

/-- Capacity in GiB of the organisation that DDR_CFG names (R409); 0 for the one that is not supported. -/
def State.ddrSize (s : State) : Nat :=
  let one := match s.flag F.DDR_CFG_dens, s.flag F.DDR_CFG_width with
    | false, true => 4
    | false, false => 8
    | true, true => 8
    | true, false => 16
  if s.ranks = 2 && one = 16 then 0 else one * s.ranks

/-- Bank groups of the channel's devices (R409). -/
def State.bankGroups (s : State) : Nat := if s.flag F.DDR_CFG_width then 2 else 4

/-- Rows of a bank (R409). -/
def State.dramRows (s : State) : Nat := if s.flag F.DDR_CFG_dens then 131072 else 65536

/-- Where the byte at an offset from the start of DRAM lies (R411). -/
def State.dramPlace (s : State) (a : Nat) : DramPlace :=
  let b := a / 64
  let g := s.bankGroups
  { byte := a % 64, group := b % g, column := b / g % 128 * 8, bank := b / (128 * g) % 4, row := b / (512 * g) % s.dramRows
    rank := b / (512 * g * s.dramRows) }

/-- The patrol scrub of a tick (R415): DDR_SCRUB_CFG.kib KiB in ascending order, from the start again at the end. It runs on a DRAM
that is cleared and not in self-refresh (DESIGN CHOICE, log entry 48). -/
def State.scrubDram (s : State) : State :=
  let n := s.fld F.DDR_SCRUB_CFG_kib * 1024
  if s.domOn 16 && s.dramReady && n ≠ 0 then
    (s.emit (.dramScrub (s.dramPlace s.ddr.scrub) (n / 64))).setDdr fun d => { d with scrub := (d.scrub + n) % s.dramCap }
  else s

/-! ## Refresh (R420 to R426) -/

/-- The RT port's panic with its buffers at these levels (R418): asserted below a watermark, cleared when both levels are at least
twice theirs. -/
def State.panicAt (s : State) (b : RtBuf) : Bool :=
  let rd := s.fld F.DDR_RT_CFG_rd_wm * 1024
  let wr := s.fld F.DDR_RT_CFG_wr_wm * 1024
  if (b.reads ≠ 0 && b.rd < rd) || 32768 - b.wr < wr then true
  else if 2 * rd ≤ b.rd && 2 * wr ≤ 32768 - b.wr then false
  else s.flag F.DDR_STATUS_panic

/-- Panic is as told, or as the levels of the buffers give it. -/
def State.seePanic (s : State) (told : Bool) : Option RtBuf → State
  | none => s.setFlag F.DDR_STATUS_panic told
  | some b => (s.setDdr fun d => { d with rt := b }).setFlag F.DDR_STATUS_panic (s.panicAt b)

/-- tRFC in units of 1/6 ns: 550 ns of 16 Gb devices (R422), 350 ns of 8 Gb devices (PRESUMED from JEDEC DDR4, log 52). -/
def State.trfc (s : State) : Nat := if s.flag F.DDR_CFG_dens then 3300 else 2100

/-- When a rank's last batch of refreshes ends. -/
def State.batchEnd (s : State) (r : Nat) : Nat := if r = 0 then s.ddr.end0 else s.ddr.end1

/-- Set it. -/
def State.setBatchEnd (s : State) (r u : Nat) : State :=
  s.setDdr fun d => if r = 0 then { d with end0 := u } else { d with end1 := u }

/-- A forced batch: the rank is precharged and refreshed until its debt is 0 (R422). -/
def State.forceRefs (s : State) (r : Nat) : State :=
  let d := s.debt r
  let s := s.setBatchEnd r (s.clk.freeU + d * s.trfc)
  (((s.emit (.dram "PRE" r)).refs r d).setFld (debtF r) 0).count R.DDR_REF_FORCED_CNT

/-- A rank's timer expires (R420, R421). An interval that expires during a batch joins it (R422). A debt of 8 has had its batch by now
(R422, R426). -/
def State.refExpire (s : State) (r : Nat) : State :=
  let due := s.refT r + s.trefi
  let s := s.setRefT r due
  if due < s.batchEnd r then (s.refs r 1).setBatchEnd r (s.batchEnd r + s.trfc)
  else
    let s := if 8 ≤ s.debt r then s.forceRefs r else s
    let d := s.debt r + 1
    let s := s.setFld (debtF r) d
    if s.flag F.DDR_STATUS_panic && d < 8 then s.count R.DDR_REF_POSTPONE_CNT else s

/-- A REF is issued where a debt stands, but under panic while the debt is below 8 (R421). -/
def State.refIssue (s : State) (r : Nat) : State :=
  if s.flag F.DDR_STATUS_panic && s.debt r < 8 then s
  else (s.setFld (debtF r) (s.debt r - 1)).emit (.dram "REF" r)

/-- A change of hot converts a rank's debt and timer; a debt of 8 or more is paid at once (R424). -/
def State.convertRank (s : State) (r : Nat) (hot : Bool) : State :=
  let e := s.clk.freeU - s.refT r
  let d := s.debt r
  if !s.refreshes r then s
  else
  let s :=
    if hot then
      if 23400 ≤ e then (s.setFld (debtF r) (min 31 (2 * d + 1))).setRefT r (s.refT r + 23400)
      else s.setFld (debtF r) (min 31 (2 * d))
    else s.setFld (debtF r) ((d + 1) / 2)
  if 8 ≤ s.debt r then (s.forceRefs r).count R.DDR_REF_HOT_CNT else s

/-- FORCED_REFRESH_BATCH (R422). -/
def execForcedRefreshBatch (r : Fin 2) (s : State) : Host.Outcome State Fault Refusal :=
  .next (if s.refreshes r && 8 ≤ s.debt r then s.forceRefs r else s)

/-- Set or clear hot (R423, R424). What stood before is kept for the rest of the clock (R425). -/
def State.setHot (s : State) (hot : Bool) : State :=
  if s.flag F.DDR_STATUS_hot = hot then s
  else
    let t := (List.range s.ranks).foldl (fun s r => s.convertRank r hot) (s.setFlag F.DDR_STATUS_hot hot)
    let h : HotNow :=
      { hot := hot, start := s.outbox.length, added := t.outbox.length - s.outbox.length, status := s.reg R.DDR_REF_STATUS
        forced := s.reg R.DDR_REF_FORCED_CNT, hots := s.reg R.DDR_REF_HOT_CNT, t0 := s.ddr.t0, t1 := s.ddr.t1
        end0 := s.ddr.end0, end1 := s.ddr.end1 }
    { t with now := { t.now with hot := some h } }

/-- A change of hot in the present clock is taken back. -/
def State.undoHot (s : State) (h : HotNow) : State :=
  let s := (s.setFlag F.DDR_STATUS_hot (!h.hot)).put R.DDR_REF_STATUS h.status
  let s := (s.put R.DDR_REF_FORCED_CNT h.forced).put R.DDR_REF_HOT_CNT h.hots
  let s := s.setDdr fun d => { d with t0 := h.t0, t1 := h.t1, end0 := h.end0, end1 := h.end1 }
  { s with outbox := s.outbox.take h.start ++ s.outbox.drop (h.start + h.added), now := { s.now with hot := none } }

/-- A REF or an expiry in the clock of a change of hot counts before the conversion (R425). -/
def State.beforeHot (s : State) (f : State → State) : State :=
  match s.now.hot with
  | none => f s
  | some h => (f (s.undoHot h)).setHot h.hot

/-- REFRESH_INTERVAL_EXPIRE (R420): `panic` is the RT port's panic at that moment, or follows from the levels of its buffers (R418). -/
def execRefreshIntervalExpire (r : Fin 2) (panic : Bool) (s : State) (rt : Option RtBuf := none) : Host.Outcome State Fault Refusal :=
  .next (s.beforeHot fun s => if s.refreshes r && s.refDue r then (s.seePanic panic rt).refExpire r else s)

/-- REF_ISSUE (R421): a REF where a debt stands. -/
def execRefIssue (r : Fin 2) (s : State) (rt : Option RtBuf := none) : Host.Outcome State Fault Refusal :=
  .next (s.beforeHot fun s =>
    if s.refreshes r && 1 ≤ s.debt r then (s.seePanic (s.flag F.DDR_STATUS_panic) rt).refIssue r else s)

/-- A write of DDR_TEMP (R423): above 85 degrees sets hot, 83 or less clears it. -/
def State.ddrTemp (s : State) (w : Word) : State :=
  let s := (s.put R.DDR_TEMP (w &&& 0xFF#32)).setDdr fun d => { d with tempU := s.clk.freeU }
  let t := signExt 8 (bitsOf w 7 0)
  let s := (s.setFlag F.DDR_STATUS_temp_stale false).condEnd 10
  if 85 < t then s.setHot true else if t ≤ 83 then s.setHot false else s

/-- DDR_TEMP_WRITE (R423). -/
def execDdrTempWrite (w : Word) (s : State) : Host.Outcome State Fault Refusal := .next (s.ifDdr fun s => s.ddrTemp w)

/-- DDR_TEMP_STALE (R423): DDR_TEMP was not written for 1 s while init_done = 1. -/
def execDdrTempStale (s : State) : Host.Outcome State Fault Refusal :=
  .next (if s.flag F.DDR_STATUS_init_done && s.ddr.tempU + secU ≤ s.clk.freeU then ((s.setHot true).setFlag F.DDR_STATUS_temp_stale true).condBegin 10 0 else s)

/-! ## Training and clearing (R410, R427 to R430) -/

/-- A write of DDR_CFG (R410). -/
def State.ddrCfg (s : State) (w : Word) : State :=
  if s.flag F.DDR_STATUS_init_done then s.setFlag F.DDR_STATUS_cfg_err true else s.put R.DDR_CFG (w &&& 0x1F1F1F#32)

/-- DDR_CFG_WRITE (R410). -/
def execDdrCfgWrite (w : Word) (s : State) : Host.Outcome State Fault Refusal := .next (s.ifDdr fun s => s.ddrCfg w)

/-- A write of DDR_TRN_CTRL (R427). -/
def State.trnCtrl (s : State) (w : Word) : State :=
  let s := s.put R.DDR_TRN_CTRL (w &&& 0xFFFF7E#32)
  if w.getLsbD 0 then
    let pat := s.fld F.DDR_TRN_CTRL_pat
    (s.setFlag F.DDR_TRN_STATUS_busy true).emit (.dramTrain (s.fld F.DDR_TRN_CTRL_step) pat (s.fld F.DDR_TRN_CTRL_rank)
      (s.fld F.DDR_TRN_CTRL_len) (if pat = 3 then (List.range 16).map fun i => s.reg (R.DDR_TRN_USER i) else []))
  else s

/-- TRAINING_STEP (R427). -/
def execTrainingStep (w : Word) (s : State) : Host.Outcome State Fault Refusal := .next (s.ifDdr fun s => s.trnCtrl w)

/-- Training ends well (R409, R412, R428): the capacity is known, the firmware's region begins 256 MiB below its end. -/
def State.trained (s : State) : State :=
  let c := s.ddrSize
  let s := (s.setFld F.DDR_CAP_cap c).put R.HIF_DRAM_LIMIT (word ((0x400000000 + c * 2 ^ 30 - 0x10000000) / 16))
  (s.setDdr fun d => { d with failed := false, live := true }).startRefresh

/-- What the firmware makes of a step's results (R428, R429): the whole sequence is repeated once; then the fault is raised, and the
module does not go on to run audio. -/
def State.trnEnds (s : State) : TrainEnd → State
  | .sweep => s
  | .passed => if s.fld F.DDR_TRN_CTRL_step = 6 && s.fld F.DDR_TRN_CTRL_rank + 1 = s.ranks then s.trained else s
  | .failed lane =>
    if s.ddr.failed then
      let s := s.setDdr fun d => { d with failed := false }
      let s := (s.setFld F.DDR_TRN_STATUS_lane lane).setFld F.DDR_TRN_STATUS_step (s.fld F.DDR_TRN_CTRL_step)
      ((s.setSram fun x => { x with noAudio := true }).setFlag F.DDR_STATUS_trn_fail true).raise 11 (s.reg R.DDR_TRN_STATUS)
    else s.setDdr fun d => { d with failed := true }

/-- TRAINING_STEP_DONE (R427, R429): pass bit of each bit lane, failing bits, and the firmware's finding. -/
def execTrainingStepDone (pass : BitVec 72) (errs : Word) (ends : TrainEnd) (s : State) : Host.Outcome State Fault Refusal :=
  .next (if s.flag F.DDR_TRN_STATUS_busy then
      let s := ((s.put (R.DDR_TRN_PASS 0) (pass.setWidth 32)).put (R.DDR_TRN_PASS 1) ((pass >>> 32).setWidth 32)).put
        (R.DDR_TRN_PASS 2) ((pass >>> 64).setWidth 32)
      ((s.put R.DDR_TRN_ERR errs).setFlag F.DDR_TRN_STATUS_busy false).trnEnds ends
    else s)

/-- A write of 1 to DDR_CTRL.init, after training (R430). -/
def State.startClear (s : State) : State :=
  if s.fld F.DDR_CAP_cap ≠ 0 && !s.flag F.DDR_STATUS_sr then s.setDdr fun d => { d with clearing := true } else s

/-- DRAM_INIT (R430). -/
def execDramInit (s : State) : Host.Outcome State Fault Refusal := .next (s.ifDdr State.startClear)

/-- Every byte of DRAM is 0. -/
def State.zeroDram (s : State) : State :=
  { s with
    mem := s.mem.filter fun c => c.1 < 0x400000000 || 0x800000000 ≤ c.1
    sram := { s.sram with bad := s.sram.bad.filter fun w => w < 0x400000000 } }

/-- DRAM_INIT_DONE (R430). -/
def execDramInitDone (s : State) : Host.Outcome State Fault Refusal :=
  .next (if s.ddr.clearing then
      ((s.zeroDram).setDdr fun d => { d with clearing := false, tempU := s.clk.freeU }).setFlag F.DDR_STATUS_init_done true
    else s)

/-! ## Self-refresh (R431, R432) -/

/-- The delay and Vref registers. -/
def trnRegs : List Nat :=
  ((List.range 9).flatMap fun n => [R.DDR_LANE_WL n, R.DDR_LANE_GATE n, R.DDR_LANE_RDQS n])
    ++ (List.range 72).map R.DDR_BIT_DESKEW ++ [R.DDR_VREF]

/-- A write of 1 to DDR_CTRL.sr_req (R431): every owed refresh is issued, then self-refresh. -/
def State.selfRefresh (s : State) : State :=
  if s.ticking then s.setFlag F.DDR_STATUS_sr_err true
  else if s.flag F.DDR_STATUS_sr then s
  else
    let s := (List.range s.ranks).foldl (fun s r => (s.refs r (s.debt r)).setFld (debtF r) 0) s
    let s := s.setDdr fun d => { d with held := true, saved := trnRegs.map fun o => (o, s.reg o) }
    ((s.setFlag F.DDR_STATUS_sr true).count R.DDR_SR_CNT).emit (.dram "SRE" 0)

/-- SELF_REFRESH_REQUEST (R431). -/
def execSelfRefreshRequest (s : State) : Host.Outcome State Fault Refusal := .next (s.ifDdr State.selfRefresh)

/-- SELF_REFRESH_EXIT (R432). -/
def execSelfRefreshExit (s : State) : Host.Outcome State Fault Refusal := .next (s.ifDdr State.leaveSelfRefresh)

end Sys2Proof.Machine
end

