-- ==== Sys2Proof/Machine/Uncorr.lean ====
section
/-!
DEFINITION. What the readers make of uncorrectable words of the SRAM and of the DRAM (R401 to R403, R413, R414, R152).
-/

namespace Sys2Proof.Machine

/-- Two samples of a block read as 0. -/
def zeroPair (b : List Word) (k : Nat) : List Word := (b.set (2 * k) 0).set (2 * k + 1) 0

/-- The discard of a write of less than 64 bits whose read met an uncorrectable word (R402, R414): the word keeps its bytes, and
the writer is answered with an error. -/
def State.undoWrite (s : State) (a m : Nat) (old : List Byte) : State :=
  (s.putBytes (a / 8 * 8) (padTo 8 old)).emit (.firmware "ERROR_RESPONSE" m)

/-- The host copy that met the word completes with DMA_ERR (R413). -/
def State.copyFails (s : State) (c : HostCmd) : State :=
  if cmdOp c = 0x0003 && s.mayParse c.ring then (s.takeCmd c.ring).endCmd c stDmaErr (cmdArg c 0 8 % 2 ^ 32) else s

/-- Two samples of a slot's block in a set of blocks read as 0. -/
def zeroSlot (t : List (Nat × List Word)) (slot k : Nat) : List (Nat × List Word) :=
  Tbl.set (fun _ => []) t slot (zeroPair (Tbl.get (fun _ => []) t slot) k)

/-- What the reader makes of the word (R402, R403). -/
def State.sramHit (s : State) (a m : Nat) : SramHit → State
  | .other => s
  | .partWrite old => s.undoWrite a m old
  | .task e =>
    match (s.engine e).task with
    | some _ => s.taskFault e 3
    | none => s
  | .samples slot k true => s.setFab fun f => { f with com := Tbl.set (fun _ => []) f.com slot (zeroPair (s.blk f.com slot) k) }
  | .samples slot k false => s.setFab fun f => { f with cur := Tbl.set (fun _ => []) f.cur slot (zeroPair (s.blk f.cur slot) k) }
  | .input slot k => s.setFab fun f => { f with inp := zeroSlot f.inp slot k }
  | .staged i pos k =>
    s.setRx i { s.rx i with fill := (s.rx i).fill.map fun e => if e.1 = pos then (e.1, zeroPair e.2 k) else e }
  | .tdm p row k => s.setPort p { s.port p with rows := (s.port p).rows.modify row fun b => zeroPair b k }
  | .dyn u k =>
    let d := s.dynU u
    s.setDyn u { d with m := { d.m with hist := (d.m.hist.set (2 * k) 0).set (2 * k + 1) 0 } }
  | .copyOut c => s.copyFails c

/-- An uncorrectable word was read, by a read or by the read of a partial write (R401, R402). A task fault that it makes (source 2)
goes before source 6 (R439). -/
def State.sramBad (s : State) (a u m : Nat) (hit : SramHit) : State := ((s.sramSeen a u m).sramHit a m hit).raise 6 (word u)

/-- SRAM_UNCORRECTABLE (R401): engine local memory is ENGINE_FAULT's (R72). -/
def execSramUncorrectable (addr : BitVec 36) (master : Fin 17) (hit : SramHit) (s : State) : Host.Outcome State Fault Refusal :=
  .next (match s.unitOf addr.toNat with
    | some u => s.sramBad addr.toNat u master hit
    | none => s)

/-- The delay samples of the 64-bit word at an address (R150). -/
def State.delaySamples (s : State) (a : Nat) : Nat :=
  let size := s.fld F.RTE_DLY_COUNT_lines * s.dlyLen * 4
  ((List.range 2).filter fun k => s.dlyBase ≤ a / 8 * 8 + 4 * k && a / 8 * 8 + 4 * k < s.dlyBase + size).length

/-- An uncorrectable DRAM word was read (R413, R152): the route stage (master 31) reads its delay samples as zero, each counted. -/
def State.dramBad (s : State) (a m : Nat) (hit : DramHit) : State :=
  let s := s.dramSeen a m
  let s := if m = 31 && hit = .other then
      (s.putBytes (a / 8 * 8) (List.replicate 8 0)).countBy R.RTE_DLY_ECC_CNT (s.delaySamples a) else s
  match hit with
  | .copyOut c => s.copyFails c
  | .partWrite old => s.undoWrite a m old
  | .other => s

/-- DRAM_UNCORRECTABLE (R413, R414). -/
def execDramUncorrectable (addr : BitVec 36) (master : BitVec 5) (hit : DramHit) (s : State) :
    Host.Outcome State Fault Refusal :=
  .next (s.ifDdr fun s => s.dramBad addr.toNat master.toNat hit)

/-- DRAM_CORRECTION_RATE (R413, R414): so many words are corrected. -/
def execDramCorrectionRate (count : Nat) (s : State) : Host.Outcome State Fault Refusal :=
  .next (s.ifDdr fun s => s.dramFix count)

end Sys2Proof.Machine
end

