-- ==== Sys2Proof/Machine/Power.lean ====
section
/-!
DEFINITION. Supplies, power domains and resets (R469 to R478, R405, R406, R519): the power-on sequence, switching domains on and
off, regulator faults, VIN and temperature, and cold and warm resets.
-/

namespace Sys2Proof.Machine

/-- Update the power state. -/
def State.setPwr (s : State) (f : Pwr → Pwr) : State := { s with pwr := f s.pwr }

/-- Bit `d` of a register of domain bits. -/
def domF (o d : Nat) : Fld := ⟨o, d, d⟩

/-- A domain is switching. -/
def State.domBusy (s : State) (d : Nat) : Bool := s.flag (domF R.PWR_DOM_BUSY d)

/-- A domain is in FAULT. -/
def State.domFault (s : State) (d : Nat) : Bool := s.flag (domF R.PWR_DOM_FAULT d)

/-! ## The power-on sequence (R475) -/

/-- The order in which the domains are switched on after PD_AON. -/
def powerOrder : List Nat := [1, 2, 18, 15, 16, 17] ++ (List.range 12).map (3 + ·)

/-- The clusters' domains. -/
def isClusterDom (d : Nat) : Bool := 3 ≤ d && d ≤ 14

/-- A domain starts to switch on. -/
def State.domStart (s : State) (d : Nat) : State := s.setFlag (domF R.PWR_DOM_BUSY d) true

/-- The sequence starts the domain in front; the clusters follow at their intervals as time passes (`State.elapse`). -/
def State.seqHead (s : State) : State :=
  match s.pwr.seq with
  | [] => s
  | d :: _ => if isClusterDom d then ({ s with pwr := { s.pwr with seqU := s.clk.freeU } }).clusterStart else s.domStart d

/-- The sequence starts, unless a reset is held (R471, R476) or VIN is lost. PWR_DOM_REQ and FAULT, in PD_AON, stay: a FAULT domain
is left out (R474), but for PD_CTRL and PD_FABRIC, which a reset brings back (DEDUCED, log 47). -/
def State.seqStart (s : State) : State :=
  let s := (s.put R.PWR_DOM_FAULT (s.reg R.PWR_DOM_FAULT &&& 0x7FFF8#32)).put R.PWR_DOM_ON 1
  let s := s.put R.PWR_DOM_BUSY 0
  if s.pwr.pin || s.pwr.hot || s.pwr.cut then s.setPwr fun p => { p with held := true, seq := [] }
  else (s.setPwr fun p => { p with held := false, seq := powerOrder.filter fun d => !s.domFault d }).seqHead

/-- A held reset ends once nothing holds it. -/
def State.unhold (s : State) : State :=
  if s.pwr.held && !s.pwr.pin && !s.pwr.hot && !s.pwr.cut then s.seqStart else s

/-! ## Resets (R476 to R478, R486) -/

/-- The retained words, FLT_LOG_WP and the calendar's block: kept through every reset and on VBAT (R470, R486). -/
def retained (o : Nat) : Bool :=
  (0x20000 ≤ o && o < 0x30000)
    || [R.SYS_RESET_REASON, R.SYS_BOOT_CTRL, R.SYS_BOOT_FAIL_CNT, R.SYS_KEY_REVOKE, R.FLT_LOG_WP].contains o

/-- Registers of PD_AON, which a reset keeps. -/
def keptReg (o : Nat) : Bool := retained o || (0x10000 ≤ o && o < 0x20000)

/-- What a reset of every domain but PD_AON leaves; `keep` picks the registers that stay. The oscillator is taken now (R279);
network time is not kept (R306); the level of the partner's OWN is a pin's. -/
def State.resetTo (s : State) (keep : Nat → Bool) : State :=
  let t : State :=
    { regs := s.regs.filter fun e => keep e.1
      hold := s.hold.filter fun e => keep e.1
      whold := s.whold.filter fun e => keep e.1
      lastRead := s.lastRead
      moduleId := s.moduleId
      pref := s.pref
      twiAddr := s.twiAddr
      testMode := s.testMode
      bootKeys := s.bootKeys
      clk := { rtcU := s.clk.rtcU, rtcF := s.clk.rtcF, svcU := s.clk.svcU }
      clkx := { osc := s.fld F.CLK_CTRL_osc_sel }
      flt := { log := s.flt.log, seq := s.flt.seq }
      ddr := { held := s.ddr.held, live := s.ddr.held && s.ddr.live }
      twn := { ownIn := s.twn.ownIn, guardOk := s.twn.guardOk, relAt := s.twn.relAt }
      pwr := { aon := s.pwr.aon, pin := s.pwr.pin, hot := s.pwr.hot, cut := s.pwr.cut, ovp := s.pwr.ovp, vin := s.pwr.vin
               temp := s.pwr.temp, cleared := s.pwr.cleared }
      pending := s.pending
      outbox := s.outbox
      fresh := s.fresh }
  let t := t.put R.SYS_BOOT_CTRL (t.reg R.SYS_BOOT_CTRL &&& 0xC#32)
  (t.setFlag F.PWR_STATUS_temp_hi false).setFlag F.PWR_STATUS_temp_crit false

/-- Set bits of SYS_RESET_REASON; those set stay (R478). -/
def State.reason (s : State) (bits : Nat) : State := s.put R.SYS_RESET_REASON (s.reg R.SYS_RESET_REASON ||| word bits)

/-- A cold reset (R477): OWN released, every domain but PD_AON reset, the sequence restarts. -/
def State.coldReset (s : State) (bits : Nat) : State := (((s.releaseOwn).resetTo keptReg).reason bits).seqStart

/-- A warm reset once its drains are complete (R477): besides, the PCI Express link and configuration space stay, and the HIF block is
reset as R369 states. -/
def State.warmReset (s : State) (bits : Nat) : State :=
  (((s.releaseOwn.hifReset).resetTo fun o => keptReg o || isHif o).reason bits).seqStart

/-- No crossbar master is being drained: a reset request waits for the drains (R478). -/
def State.drained (s : State) : Bool := s.sram.drain.isEmpty

/-- COLD_RESET (R477): the cold resets asked for are carried out; a warm one asked for with them is not (R478). -/
def execColdReset (s : State) : Host.Outcome State Fault Refusal :=
  .next (if s.pwr.coldReq ≠ 0 && s.drained then s.coldReset s.pwr.coldReq else s)

/-- A warm reset starts (R477): OWN is released, and every crossbar master is drained (R399). -/
def State.warmStart (s : State) : State :=
  let s := (List.range 17).foldl State.drainMaster s.releaseOwn
  s.setPwr fun p => { p with draining := true }

/-- WARM_RESET (R477, R444): the drains start, and once they are complete the reset is carried out by the command's next coming; a
cold reset asked for goes first (R478). -/
def execWarmReset (s : State) : Host.Outcome State Fault Refusal :=
  .next (if !s.drained then s
    else if s.pwr.coldReq ≠ 0 then s.coldReset s.pwr.coldReq
    else if s.warmReq = 0 then s
    else if s.pwr.draining then s.warmReset s.warmReq
    else s.warmStart)

/-- A cold reset is asked for, with its bit of SYS_RESET_REASON. -/
def State.askCold (s : State) (b : Nat) : State :=
  if s.pwr.aon then s.setPwr fun p => { p with coldReq := p.coldReq ||| b } else s

/-- RESET_N_ASSERT (R476): low for 1 us. -/
def execResetNAssert (s : State) : Host.Outcome State Fault Refusal :=
  .next ((s.setPwr fun p => { p with pin := true }).askCold 4)

/-- RESET_N_RELEASE (R476): the held reset ends. -/
def execResetNRelease (s : State) : Host.Outcome State Fault Refusal :=
  .next ((s.setPwr fun p => { p with pin := false }).unhold)

/-- A write of SYS_CTRL (R476): the key must be in the same write. -/
def State.sysCtrl (s : State) (w : Word) : State :=
  if w.getLsbD 0 && bitsOf w 31 16 = 0xA5C3 then
    { s.setFlag F.SYS_CTRL_warm_rst true with warmReq := s.warmReq ||| 32 }
  else s

/-- WARM_RESET_WRITE (R476). -/
def execWarmResetWrite (w : Word) (s : State) : Host.Outcome State Fault Refusal :=
  .next (if s.domOn 1 then s.sysCtrl w else s)

/-! ## VIN (R469, R470) -/

/-- VIN lies within 4.5 to 18.0 V. -/
def vinIn (v : Nat) : Bool := 450 ≤ v && v ≤ 1800

/-- POWER_ON_RESET (R469, R475): VIN rises through 4.4 V, or PD_AON is first powered; a module cut off above 19.0 V waits for
VIN_RETURN. -/
def State.powerOn (s : State) (vin : Nat) : State :=
  if vin < 440 || (s.pwr.aon && !s.pwr.cut) || (s.pwr.cut && s.pwr.ovp) then s
  else
    let b := s.pwr.coldReq ||| 1
    let s := s.setPwr fun p => { p with aon := true, cut := false, coldReq := 0, vin := vin }
    (s.setFlag F.PWR_STATUS_on_vbat false).coldReset b

/-- POWER_ON_RESET, with VIN in 10 mV. -/
def execPowerOnReset (s : State) (vin : BitVec 12 := 440) : Host.Outcome State Fault Refusal := .next (s.powerOn vin.toNat)

/-- VIN below 4.1 V or above 19.0 V (R469, R470): every domain but PD_AON goes off, and PD_AON runs from VBAT. Without VBAT
nothing is kept, and RTC_STATUS.lost is set by its reset value. -/
def State.vinLost (s : State) (vin : Nat) (vbat : Bool) : State :=
  let s := s.releaseOwn
  let s := s.setPwr fun p => { p with cut := true, ovp := 1900 < vin, vin := vin, aon := p.aon && vbat, cleared := 0 }
  let aon := s.pwr.aon
  let s := (s.resetTo fun o => vbat && retained o).setPwr fun p => { p with coldReq := if vbat then 2 else 0 }
  let s := { s with clkx := {}, ddr := {} }
  let s := if vbat then s else { s with clk := {}, flt := {} }
  if aon then ((s.put R.PWR_DOM_ON 1).setFlag F.PWR_STATUS_on_vbat true) else s

/-- VIN_LOSS. -/
def execVinLoss (vin : BitVec 12) (vbat : Bool) (s : State) : Host.Outcome State Fault Refusal :=
  .next (if vin.toNat < 410 || 1900 < vin.toNat then s.vinLost vin.toNat vbat else s)

/-- VIN_RETURN (R469, R476): below 18.0 V again after an overvoltage cut-off. -/
def State.vinBack (s : State) (vin : Nat) : State :=
  if s.pwr.cut && s.pwr.ovp && vin < 1800 then
    let b := if s.pwr.aon then s.pwr.coldReq else 1
    let s := s.setPwr fun p => { p with aon := true, cut := false, ovp := false, coldReq := 0, vin := vin }
    (s.setFlag F.PWR_STATUS_on_vbat false).coldReset b
  else s

/-- VIN_RETURN, with VIN in 10 mV. -/
def execVinReturn (s : State) (vin : BitVec 12 := 1799) : Host.Outcome State Fault Refusal := .next (s.vinBack vin.toNat)

/-- VIN_OUT_OF_RANGE (R469): source 22; it ends by CONDITION_END. -/
def execVinOutOfRange (vin : BitVec 12) (s : State) : Host.Outcome State Fault Refusal :=
  .next (if s.domOn 1 && !vinIn vin.toNat then
      ((s.setPwr fun p => { p with vin := vin.toNat }).setFlag F.PWR_STATUS_vin_ok false).condBegin 22 (word vin.toNat)
    else s)

/-- VIN_SAMPLE (R469): every 1 ms. -/
def execVinSample (vin : BitVec 12) (s : State) : Host.Outcome State Fault Refusal :=
  .next (if s.pwr.aon then
      ((s.setPwr fun p => { p with vin := vin.toNat }).setFld F.PWR_VIN_vin vin.toNat).setFlag F.PWR_STATUS_vin_ok (vinIn vin.toNat)
    else s)

/-! ## Temperature (R471) -/

/-- PWR_TEMP: signed, 8 bits; a reading outside its range has no stated code, a free value. -/
def State.putTemp (s : State) (t : Int) : State :=
  if -128 ≤ t && t ≤ 127 then s.setFld F.PWR_TEMP_temp (wordI t).toNat
  else (s.setFld F.PWR_TEMP_temp (Config.freeNat s.fresh)).tick1

/-- The threshold of source 23: 80 to 120, other values taken as the nearest limit. -/
def State.tempHi (s : State) : Nat := max 80 (min 120 (s.fld F.PWR_TEMP_CFG_hi))

/-- A temperature source follows the reading, and its bit of PWR_STATUS with it. -/
def State.tempSource (s : State) (src : Nat) (f : Fld) (t : Int) (on off : Int) : State :=
  let s := if on ≤ t then s.condBegin src (wordI t) else if t ≤ off then s.condEnd src else s
  s.setFlag f (s.condActive src)

/-- A reading of the highest die temperature. -/
def State.tempSample (s : State) (t : Int) : State :=
  let s := (s.setPwr fun p => { p with temp := t }).putTemp t
  let s := if s.domOn 1 then
      let h : Int := s.tempHi
      (s.tempSource 23 F.PWR_STATUS_temp_hi t h (h - 5)).tempSource 24 F.PWR_STATUS_temp_crit t 125 120
    else s
  if 135 ≤ t then (s.setPwr fun p => { p with hot := true }).askCold 8
  else if t ≤ 120 then (s.setPwr fun p => { p with hot := false }).unhold
  else s

/-- TEMPERATURE_SAMPLE (R471). -/
def execTemperatureSample (t : Int) (s : State) : Host.Outcome State Fault Refusal :=
  .next (if s.pwr.aon then s.tempSample t else s)

/-! ## Switching a domain off (R472, R473) -/

/-- The condition of R472 for switching a domain off. -/
def State.offOk (s : State) (d : Nat) : Bool :=
  if d < 3 then false
  else if isClusterDom d then (clusterEngines (d - 3)).all fun e => !s.active e
  else if d = 15 then !s.ticking
  else if d = 16 then s.flag F.DDR_STATUS_sr
  else if d = 17 then !s.flag F.MOD_STATUS_running && !s.flag F.SNS_CTRL_run
  else true

/-- The registers of a domain. -/
def inDomain (d o : Nat) : Bool := domainOf o = some d

/-- The blocks of a domain are reset. -/
def State.resetDomain (s : State) (d : Nat) : State :=
  if isClusterDom d then
    ((clusterEngines (d - 3)).foldl (fun s e => s.setEngine e {}) s).resetRegs (inDomain d)
  else if d = 15 then
    let s := s.releaseOwn.resetRegs (inDomain d)
    let s := { s with str := {}, eth := {}, twn := { ownIn := s.twn.ownIn, guardOk := s.twn.guardOk, relAt := s.twn.relAt } }
    (s.setMix fun m => { m with props := [] }).ref6
  else if d = 16 then { s.resetRegs (inDomain d) with ddr := { held := s.ddr.held, live := s.ddr.held && s.ddr.live } }
  else if d = 17 then
    { s.resetRegs (inDomain d) with
      amp := {}, tdm := {}, applied := s.applied.filter fun e => !inDomain d e.1 }
  else if d = 18 then s.hifReset.resetRegs (inDomain d)
  else s

/-- The crossbar master of a domain that can be switched off (R396): none for PD_DDR. -/
def domMaster (d : Nat) : Option Nat :=
  if isClusterDom d then some (d - 3) else if d = 15 then some 15 else if d = 17 then some 16 else if d = 18 then some 14 else none

/-- A domain goes off (R473): it is isolated and reset, and its master's drain ends the transition (R399, R474). -/
def State.domOff (s : State) (d : Nat) : State :=
  let s := (s.resetDomain d).setFlag (domF R.PWR_DOM_ON d) false
  match domMaster d with
  | some m => ((s.drainMaster m).setPwr fun p => { p with offs := p.offs ++ [d] }).setFlag (domF R.PWR_DOM_BUSY d) true
  | none => s

/-- The transition of a domain that was switched off ends with its master's drain; a request held meanwhile is acted on (R474). -/
def State.offEnds (s : State) (m : Nat) : State :=
  match s.pwr.offs.find? fun d => domMaster d = some m with
  | some d =>
    let s := (s.setPwr fun p => { p with offs := p.offs.filter (· ≠ d) }).setFlag (domF R.PWR_DOM_BUSY d) false
    if s.flag (domF R.PWR_DOM_REQ d) then s.domStart d else s
  | none => s

/-- DRAIN_COMPLETE (R399): what the drain was for takes effect. -/
def execDrainComplete (m : Fin 17) (cycles : Nat) (s : State) (landed : List (Eng × Nat) := []) : Host.Outcome State Fault Refusal :=
  .next (if s.sram.drain.any (drainOf m.val) then (s.drainEnds m.val cycles landed).offEnds m.val else s)

/-- A refused request: the bit returns to 1 (R473). -/
def State.refuseOff (s : State) (d : Nat) : State :=
  let s := (s.setFlag (domF R.PWR_DOM_REQ d) true).setFlag F.PWR_STATUS_refused true
  ((s.setFld F.PWR_DOM_ERR_domain d).setFlag F.PWR_DOM_ERR_kind false).count R.PWR_REFUSE_CNT

/-- A request to switch a released domain off. -/
def State.askOff (s : State) (d : Nat) : State := if s.offOk d then s.domOff d else s.refuseOff d

/-- A FAULT domain is switched on again only after its bit is written 0 and then 1 (R474). -/
def State.faultReq (s : State) (d : Nat) (on : Bool) : State :=
  if !on then s.setPwr fun p => { p with cleared := p.cleared ||| 2 ^ d }
  else if s.pwr.cleared.testBit d then
    let s := s.setPwr fun p => { p with cleared := p.cleared ^^^ 2 ^ d }
    (s.setFlag (domF R.PWR_DOM_FAULT d) false).domStart d
  else s

/-- One bit of a write of PWR_DOM_REQ (R473, R474): a domain that switches, or that the sequence will still start, keeps the
request for later. -/
def State.domReq (s : State) (d : Nat) (on : Bool) : State :=
  let was := s.flag (domF R.PWR_DOM_REQ d)
  let s := s.setFlag (domF R.PWR_DOM_REQ d) on
  if s.domFault d then s.faultReq d on
  else if was = on || s.domBusy d || s.pwr.seq.contains d then s
  else if on then (if s.domOn d then s else s.domStart d)
  else if s.domOn d then s.askOff d
  else s

/-- A write of PWR_DOM_REQ: bits 0 to 2 stay 1, and a 0 of bit 18 through BAR0 is ignored (R473). -/
def State.pwrReq (s : State) (src : ReqSource) (w : Word) : State :=
  ((List.range 16).map (3 + ·)).foldl
    (fun s d => if d = 18 && !w.getLsbD 18 && src = .bar0 then s else s.domReq d (w.getLsbD d)) s

/-- PWR_DOM_REQ_WRITE (R473). -/
def execPwrDomReqWrite (src : ReqSource) (w : Word) (s : State) : Host.Outcome State Fault Refusal :=
  .next (if s.domOn 1 then s.pwrReq src w else s)

/-! ## The release of a domain (R405, R406, R473) -/

/-- The SRAM of a domain. -/
def domMem (d a : Nat) : Bool :=
  if d = 1 then within a 0x11000000 0x200000
  else if d = 2 then within a 0x20000000 0x2000000
  else if d = 15 then within a 0x12000000 0x400000
  else if isClusterDom d then within a (0x30000000 + (d - 3) * 0x200000) 0x200000
  else false

/-- The domain of a sub-bank (R406, MEM_REPAIR_IDX). -/
def subDomain (sub : Nat) : Nat :=
  if sub < 512 then 2 else if sub < 544 then 1 else if sub < 608 then 15 else 3 + (sub - 608) / 24

/-- What a sub-bank without a good spare does (R406): an engine stays fenced with cause 0x6; other memories raise
SRAM-unrepairable with class C3, and start-up does not go on to run audio. -/
def State.unrepaired (s : State) (sub : Nat) : State :=
  if sub < 608 then (s.setSram fun x => { x with noAudio := true }).raiseAs 7 (word sub) 3
  else
    let e := (sub - 608) / 3
    let s := (s.putActive e false).put R.FAB_FENCE_INFO (word (e + 6 * 2 ^ 8))
    (s.raise 3 (s.reg R.FAB_FENCE_INFO)).capacityCheck

/-- An engine's sub-banks are one memory here: the first of its three stands for them. -/
def unitKey (sub : Nat) : Nat := if sub < 608 then sub else 608 + (sub - 608) / 3 * 3

/-- March C- has run over the domain's SRAM: every word is 0, failing rows are replaced where a good spare is left, the spares' own
failures first. A sub-bank without a good spare, or an engine with one, acts once (R406). -/
def State.marchDomain (s : State) (d : Nat) (failing : List (Nat × Nat)) : State :=
  let s := { s with mem := s.mem.filter fun c => !domMem d c.1 }
  let s := s.setSram fun x => { x with
    spares := x.spares.filter fun e => subDomain e.1 ≠ d, bad := x.bad.filter fun w => !domMem d w }
  let s := s.setFld F.MEM_REPAIR_USED_rows ((s.sram.spares.map fun e => e.2.used).sum)
  let fs := failing.filter fun f => subDomain f.1 = d
  let r := (fs.filter (fun f => 512 ≤ f.2) ++ fs.filter (fun f => f.2 < 512)).foldl
    (fun (r : State × List Nat) f =>
      let q := r.1.powerUpRow f.1 f.2
      (q.1, if q.2 then r.2 ++ [unitKey f.1] else r.2)) (s, [])
  r.2.eraseDups.foldl State.unrepaired r.1

/-- What a domain's hardware does at its release; levels that its blocks find show from the next cycle on (`State.showLevels`). -/
def State.domInit (s : State) (d : Nat) : State :=
  if d = 1 then
    let s := s.setFlag F.FLT_MODE_test_pin s.testMode
    let s := s.setFld F.TWI_TGT_STATUS_addr (0x3A + s.twiAddr.toNat)
    let u := s.clk.freeU
    s.setPwr fun p => { p with scan := true, boot := .ready, kick0 := u, kick1 := u }
  else if d = 16 then
    if s.ddr.held then
      ((s.setDdr fun x => { x with held := false, saved := [] }).emit (.dram "SRX" 0)).wakeRanks
    else s
  else s

/-- A domain is released: its march has run, and a change of its bit that was held is acted on. -/
def State.release (s : State) (d : Nat) (failing : List (Nat × Nat)) : State :=
  let s := (s.setFlag (domF R.PWR_DOM_BUSY d) false).setFlag (domF R.PWR_DOM_ON d) true
  let s := ((s.marchDomain d failing).domInit d).setPwr fun p => { p with levels := p.levels ++ [d] }
  let s := if s.pwr.seq.head? = some d then (s.setPwr fun p => { p with seq := p.seq.tail }).seqHead else s
  if s.flag (domF R.PWR_DOM_REQ d) then s else s.askOff d

/-! ## Regulator faults (R474) -/

/-- The engines of a cluster whose domain fails are fenced (R39): what they held is placed anew (R73), and they come back by an
unfence (R77; DEDUCED, log 47). -/
def State.fenceCluster (s : State) (d : Nat) : State :=
  if isClusterDom d then
    let es := (clusterEngines (d - 3)).filter s.active
    let s := if es.isEmpty then s else (es.foldl State.fenceEngine s).capacityCheck
    (clusterEngines (d - 3)).foldl (fun s e => s.putActive e false) s
  else s

/-- A domain's supply fails. PD_CTRL and PD_FABRIC cannot be isolated: the reaction of level 4 follows, to a warm reset. -/
def State.regFault (s : State) (d : Nat) : State :=
  let s := ((s.setFld F.PWR_DOM_ERR_domain d).setFlag F.PWR_DOM_ERR_kind true).setFlag F.PWR_STATUS_reg_fault true
  let s := (s.count R.PWR_FAULT_CNT).setFlag (domF R.PWR_DOM_FAULT d) true
  let s :=
    if d < 3 then s
    else
      let s := ((s.fenceCluster d).resetDomain d).setFlag (domF R.PWR_DOM_ON d) false
      let s := s.setFlag (domF R.PWR_DOM_BUSY d) false
      s.setPwr fun p => { p with
        cleared := if p.cleared.testBit d then p.cleared ^^^ 2 ^ d else p.cleared, offs := p.offs.filter (· ≠ d) }
  if s.domOn 1 then s.raiseOcc { src := 25, data := word d, top := d < 3 }
  else if d < 3 then { s with warmReq := s.warmReq ||| 16 } else s

/-! ## The scan after a reset (R519) -/

/-- The condition sources. -/
def condSources : List Nat := [4, 10, 12, 14, 22, 23, 24]

/-- A condition found present shows in its own block as well; with the oscillator absent the module runs from the TCXO (R279). -/
def State.condShown (s : State) (i : Nat) : State :=
  if i = 12 then ((s.setFlag F.CLK_STATUS_osc_ok false).setClkx fun x => { x with osc := 0 }).mclkCheck
  else if i = 22 then s.setFlag F.PWR_STATUS_vin_ok false
  else if i = 23 then s.setFlag F.PWR_STATUS_temp_hi true
  else if i = 24 then s.setFlag F.PWR_STATUS_temp_crit true
  else s

/-- RESET_CONDITION_SCAN (R519): in the cycle of PD_CTRL's release, in ascending source order (R439); source and data word. -/
def State.scan (s : State) (present : List (Fin 64 × Word)) : State :=
  condSources.foldl
    (fun s i =>
      match present.find? fun p => p.1.val = i with
      | none => s
      | some p =>
        if s.condActive i then s
        else
          let s := (s.setBit64 R.FLT_ACTIVE_LO R.FLT_ACTIVE_HI i true).condShown i
          s.raiseOcc { src := i, data := p.2, scan := true })
    (s.setPwr fun p => { p with scan := false })

/-- RESET_CONDITION_SCAN. -/
def execResetConditionScan (present : List (Fin 64 × Word)) (s : State) : Host.Outcome State Fault Refusal :=
  .next (if s.pwr.scan then s.scan present else s)

end Sys2Proof.Machine
end

