-- ==== Sys2Proof/Machine/Sha256.lean ====
section
/-!
DEFINITION. SHA-256 (FIPS 180-4), over bytes: the hash of R479 and R480.
-/

namespace Sys2Proof.Machine

/-- The round constants. -/
def shaK : List Nat :=
  [0x428a2f98, 0x71374491, 0xb5c0fbcf, 0xe9b5dba5, 0x3956c25b, 0x59f111f1, 0x923f82a4, 0xab1c5ed5,
   0xd807aa98, 0x12835b01, 0x243185be, 0x550c7dc3, 0x72be5d74, 0x80deb1fe, 0x9bdc06a7, 0xc19bf174]
  ++ [0xe49b69c1, 0xefbe4786, 0x0fc19dc6, 0x240ca1cc, 0x2de92c6f, 0x4a7484aa, 0x5cb0a9dc, 0x76f988da,
   0x983e5152, 0xa831c66d, 0xb00327c8, 0xbf597fc7, 0xc6e00bf3, 0xd5a79147, 0x06ca6351, 0x14292967]
  ++ [0x27b70a85, 0x2e1b2138, 0x4d2c6dfc, 0x53380d13, 0x650a7354, 0x766a0abb, 0x81c2c92e, 0x92722c85,
   0xa2bfe8a1, 0xa81a664b, 0xc24b8b70, 0xc76c51a3, 0xd192e819, 0xd6990624, 0xf40e3585, 0x106aa070]
  ++ [0x19a4c116, 0x1e376c08, 0x2748774c, 0x34b0bcb5, 0x391c0cb3, 0x4ed8aa4a, 0x5b9cca4f, 0x682e6ff3,
   0x748f82ee, 0x78a5636f, 0x84c87814, 0x8cc70208, 0x90befffa, 0xa4506ceb, 0xbef9a3f7, 0xc67178f2]

/-- A word rotated right. -/
def rotr32 (x n : Nat) : Nat := (x >>> n) ||| (x <<< (32 - n)) % 0x100000000

/-- The message schedule, newest word first, `n` words more. -/
def shaSched : Nat → List Nat → List Nat
  | 0, w => w
  | n + 1, w =>
    let a := w.getD 14 0
    let b := w.getD 1 0
    let s0 := rotr32 a 7 ^^^ rotr32 a 18 ^^^ (a >>> 3)
    let s1 := rotr32 b 17 ^^^ rotr32 b 19 ^^^ (b >>> 10)
    shaSched n ((w.getD 15 0 + s0 + w.getD 6 0 + s1) % 0x100000000 :: w)

/-- The eight working variables. -/
structure ShaVars where
  a : Nat
  b : Nat
  c : Nat
  d : Nat
  e : Nat
  f : Nat
  g : Nat
  h : Nat

/-- One round, with its constant and its word of the schedule. -/
def shaRound (v : ShaVars) (k w : Nat) : ShaVars :=
  let s1 := rotr32 v.e 6 ^^^ rotr32 v.e 11 ^^^ rotr32 v.e 25
  let ch := (v.e &&& v.f) ^^^ ((0xFFFFFFFF ^^^ v.e) &&& v.g)
  let t1 := v.h + s1 + ch + k + w
  let s0 := rotr32 v.a 2 ^^^ rotr32 v.a 13 ^^^ rotr32 v.a 22
  let mj := (v.a &&& v.b) ^^^ (v.a &&& v.c) ^^^ (v.b &&& v.c)
  ⟨(t1 + s0 + mj) % 0x100000000, v.a, v.b, v.c, (v.d + t1) % 0x100000000, v.e, v.f, v.g⟩

/-- A block of 64 bytes. -/
def shaBlock (v : ShaVars) (block : List Byte) : ShaVars :=
  let first := (List.range 16).map fun i => beNat (slice block (4 * i) 4)
  let w := (shaSched 48 first.reverse).reverse
  let u := (shaK.zip w).foldl (fun u p => shaRound u p.1 p.2) v
  let add := fun x y => (x + y) % 0x100000000
  ⟨add v.a u.a, add v.b u.b, add v.c u.c, add v.d u.d, add v.e u.e, add v.f u.f, add v.g u.g, add v.h u.h⟩

/-- `n` blocks. -/
def shaBlocks : Nat → ShaVars → List Byte → ShaVars
  | 0, v, _ => v
  | n + 1, v, bs => shaBlocks n (shaBlock v (bs.take 64)) (bs.drop 64)

/-- The message with its padding. -/
def shaPad (m : List Byte) : List Byte :=
  m ++ [0x80] ++ List.replicate ((119 - m.length % 64) % 64) 0 ++ beBytes 8 (8 * m.length)

/-- The SHA-256 of bytes, as the number that its 32 bytes spell. -/
def sha256 (m : List Byte) : Nat :=
  let p := shaPad m
  let v := shaBlocks (p.length / 64)
    ⟨0x6a09e667, 0xbb67ae85, 0x3c6ef372, 0xa54ff53a, 0x510e527f, 0x9b05688c, 0x1f83d9ab, 0x5be0cd19⟩ p
  [v.a, v.b, v.c, v.d, v.e, v.f, v.g, v.h].foldl (fun n x => n * 0x100000000 + x) 0

end Sys2Proof.Machine
end

