-- ==== Sys2Proof/Machine/Boot.lean ====
section
/-!
DEFINITION. Boot and control firmware (R479 to R488): checking an image, attempts and their waits, ok and fail, the boot
watchdog, reloads and the cores' watchdogs.
-/

namespace Sys2Proof.Machine

/-- The SYS block answers. -/
def State.ifCtrl (s : State) (f : State → State) : State := if s.domOn 1 then f s else s

/-! ## The header (R479) -/

/-- image_size. -/
def imgSize (h : List Byte) : Nat := leAt h 12 4

/-- primary_size. -/
def imgPrimary (h : List Byte) : Nat := leAt h 20 4

/-- magic, format and the bytes that are 0 (log entry 46). -/
def imgFormatOk (h : List Byte) : Bool :=
  h.length = 192 && leAt h 0 4 = 0x4B584657 && leAt h 4 4 = 1 && (slice h 37 27).all (· = 0)

/-- The sizes, offsets and the entry point. -/
def imgSizesOk (h : List Byte) : Bool :=
  let n := imgSize h
  let po := leAt h 16 4
  let ps := imgPrimary h
  let so := leAt h 28 4
  let ss := leAt h 32 4
  (192 ≤ n && n ≤ 33554432) && (192 ≤ po && po % 8 = 0) && (1 ≤ ps && ps ≤ 1835008) && po + ps ≤ n
    && leAt h 24 4 < ps && so % 8 = 0 && ((so = 0) == (ss = 0)) && so + ss ≤ n

/-- The key is one of four and not revoked. -/
def State.keyOk (s : State) (h : List Byte) : Bool :=
  leAt h 36 1 < 4 && !(s.fld F.SYS_KEY_REVOKE_revoked).testBit (leAt h 36 1)

/-- The signature over the SHA-256 of bytes 0 to 127 verifies under the key that the header names (R479). -/
def State.sigOk (s : State) (h : List Byte) : Bool :=
  ecdsaOk (s.bootKeys.getD (leAt h 36 1) (0, 0)) (sha256 (slice h 0 128)) (beAt h 128 32) (beAt h 160 32)

/-- The primary as it is copied: primary_size bytes. -/
def primaryBytes (i : BootImage) : List Byte := padTo (imgPrimary i.hdr) i.primary

/-- primary_hash is that of the primary (R479). -/
def primaryHashOk (i : BootImage) : Bool := sha256 (primaryBytes i) = beAt i.hdr 64 32

/-- The first check before the copy that fails, as SYS_BOOT_STATUS.reason codes it (R480). -/
def State.imageBad (s : State) (i : BootImage) : Option Nat :=
  if !i.answering then some 1
  else if !imgFormatOk i.hdr then some 2
  else if !imgSizesOk i.hdr then some 3
  else if !s.keyOk i.hdr then some 4
  else if !s.sigOk i.hdr then some 5
  else none

/-! ## Attempts (R480, R481) -/

/-- Consecutive failed attempts: the number of the next attempt (R481). -/
def State.fails (s : State) : Nat := (s.reg R.SYS_BOOT_FAIL_CNT).toNat

/-- The slot of an attempt: next for an even one, the other for an odd one. -/
def State.slotOf (s : State) (a : Nat) : Nat := (s.fld F.SYS_BOOT_CTRL_next + a) % 2

/-- ALERT_N is driven as SYS_BOOT_FAIL_CNT asks (R481): asserted is low. -/
def State.alert (s : State) (was : Bool) : State :=
  let now := decide (3 ≤ s.fails)
  if now = was then s else s.emit (.pin "ALERT_N" 0 (!now))

/-- The wait after a failed attempt in seconds, k the new count (R481). -/
def bootWait (k : Nat) : Nat := if 7 ≤ k then 60 else 2 ^ (k - 1)

/-- An attempt fails (R481); `reset` where a warm reset follows the wait (R482). -/
def State.bootFail (s : State) (why : Nat) (reset : Bool) : State :=
  let was := decide (3 ≤ s.fails)
  let s := ((s.count R.SYS_BOOT_FAIL_CNT).setFld F.SYS_BOOT_STATUS_reason why).alert was
  let u := s.clk.freeU + bootWait s.fails * secU
  (s.setPwr fun p => { p with boot := .waiting reset, waitU := u }).raise 27 (word (s.fld F.SYS_BOOT_STATUS_slot))

/-- An attempt (R480). -/
def State.bootAttempt (s : State) (i : BootImage) : State :=
  let a := s.fails
  let s := ((s.setFld F.SYS_BOOT_STATUS_slot (s.slotOf a)).setFld F.SYS_BOOT_STATUS_attempt a).setFlag F.SYS_REMAP_remap false
  match s.imageBad i with
  | some r => s.bootFail r false
  | none =>
    let s := s.store 12 0x11000000 (primaryBytes i)
    if primaryHashOk i then
      let s := (s.setFlag F.SYS_REMAP_remap true).put R.SYS_FW_VERSION (word (leAt i.hdr 8 4))
      let u := s.clk.freeU
      s.setPwr fun p => { p with boot := .started, entry := leAt i.hdr 24 4, waitU := u, kick0 := u, kick1 := u }
    else s.bootFail 6 false

/-- BOOT_ATTEMPT (R480): the slot that R481 chooses answers with `img`. None is made while the cores' transactions are drained (R485). -/
def execBootAttempt (img : BootImage) (s : State) : Host.Outcome State Fault Refusal :=
  .next (s.ifCtrl fun s => if s.pwr.boot = .ready && s.mayIssue 12 && s.mayIssue 13 then s.bootAttempt img else s)

/-- The wait ends (R481, R482): the next attempt, or the warm reset that follows a boot watchdog. -/
def State.bootWaitEnds (s : State) : State :=
  match s.pwr.boot with
  | .waiting true => { s.setPwr fun p => { p with boot := .off } with warmReq := s.warmReq ||| 64 }
  | .waiting false => s.setPwr fun p => { p with boot := .ready }
  | _ => s

/-- BOOT_WAIT_EXPIRE (R481). -/
def execBootWaitExpire (s : State) : Host.Outcome State Fault Refusal :=
  .next (s.ifCtrl fun s => if s.pwr.waitU ≤ s.clk.freeU then s.bootWaitEnds else s)

/-- A write of 1 to SYS_BOOT_CTRL.ok (R482). -/
def State.bootOk (s : State) : State :=
  if s.pwr.boot ≠ .started then s
  else
    let was := decide (3 ≤ s.fails)
    let slot := s.fld F.SYS_BOOT_STATUS_slot
    let s := ((s.put R.SYS_BOOT_FAIL_CNT 0).alert was).setFlag F.SYS_BOOT_CTRL_ok true
    let s := (s.setFld F.SYS_BOOT_CTRL_next slot).setFld F.SYS_BOOT_CTRL_last_good slot
    let s := if s.pwr.reload.isSome then (s.igmpReports.count R.SYS_RELOAD_CNT).setFlag F.SYS_FW_STATUS_reloading false else s
    s.setPwr fun p => { p with boot := .ok, reload := none }

/-- BOOT_OK (R482). -/
def execBootOk (s : State) : Host.Outcome State Fault Refusal := .next (s.ifCtrl State.bootOk)

/-- A write of 1 to SYS_BOOT_CTRL.fail (R480): the secondary's hash. -/
def State.bootFails8 (s : State) : State := if s.pwr.boot = .started then s.bootFail 8 false else s

/-- BOOT_FAIL_REPORT (R480). -/
def execBootFailReport (s : State) : Host.Outcome State Fault Refusal := .next (s.ifCtrl State.bootFails8)

/-- SYS_BOOT_WDT.sec has passed since the start at the entry point (R482); 0 is taken as 1. -/
def State.bootWdtDue (s : State) : Bool := s.pwr.waitU + max 1 (s.fld F.SYS_BOOT_WDT_sec) * secU ≤ s.clk.freeU

/-- BOOT_WATCHDOG_EXPIRE (R482). -/
def execBootWatchdogExpire (s : State) : Host.Outcome State Fault Refusal :=
  .next (s.ifCtrl fun s => if s.pwr.boot = .started && s.bootWdtDue then s.bootFail 7 true else s)

/-- SYS_BOOT_WAIT: seconds left of the wait. -/
def State.bootWaitLeft (s : State) : Nat :=
  match s.pwr.boot with
  | .waiting _ => (s.pwr.waitU - s.clk.freeU + (secU - 1)) / secU
  | _ => 0

/-- A write of SYS_BOOT_CTRL: ok, fail and next. -/
def State.bootCtrl (s : State) (w : Word) : State :=
  let s := s.setFlag F.SYS_BOOT_CTRL_next (w.getLsbD 2)
  let s := if w.getLsbD 0 then s.bootOk else s
  if w.getLsbD 1 then s.bootFails8 else s

/-! ## Reload and watchdogs (R484 to R488) -/

/-- A reload starts, or starts again (R485, R487): both cores are held in reset, their transactions are drained (R399), and attempts
begin. -/
def State.startReload (s : State) : State :=
  let u := s.clk.freeU
  let s := (s.setFlag F.SYS_FW_STATUS_reloading true).setFlag F.SYS_BOOT_CTRL_ok false
  ((s.drainMaster 12).drainMaster 13).setPwr fun p => { p with boot := .ready, reload := some u }

/-- RELOAD (R485). -/
def execReload (s : State) : Host.Outcome State Fault Refusal := .next (s.ifCtrl State.startReload)

/-- 30 s have passed since a reload began (R488). -/
def State.reloadDue (s : State) : Bool := s.pwr.reload.any fun u => u + 30 * secU ≤ s.clk.freeU

/-- RELOAD_TIMEOUT (R488). -/
def execReloadTimeout (s : State) : Host.Outcome State Fault Refusal :=
  .next (if s.domOn 1 && s.reloadDue then { s with warmReq := s.warmReq ||| 128 } else s)

/-- SYS_FW_STATUS.left: seconds left of the 30. -/
def State.reloadLeft (s : State) : Nat :=
  match s.pwr.reload with
  | some u => (u + 30 * secU - s.clk.freeU + (secU - 1)) / secU
  | none => 0

/-- Firmware runs: the cores' watchdogs count. -/
def State.fwRuns (s : State) : Bool := s.pwr.boot = .started || s.pwr.boot = .ok

/-- A core's watchdog is restarted. -/
def State.wdtKick (s : State) (core : Nat) : State :=
  let u := s.clk.freeU
  s.setPwr fun p => if core = 0 then { p with kick0 := u } else { p with kick1 := u }

/-- The watchdog's timeout in units: SYS_WDT_CFG.ms, a value outside 100 to 10,000 taken as the nearest limit (DESIGN CHOICE, log
entry 59; R484 gives only the range). -/
def State.wdtU (s : State) : Nat := max 100 (min 10000 (s.fld F.SYS_WDT_CFG_ms)) * (secU / 1000)

/-- A core's watchdog has run out (R484). -/
def State.wdtDue (s : State) (core : Nat) : Bool := (if core = 0 then s.pwr.kick0 else s.pwr.kick1) + s.wdtU ≤ s.clk.freeU

/-- CORE_WATCHDOG_EXPIRE (R484). -/
def execCoreWatchdogExpire (core : Fin 2) (s : State) : Host.Outcome State Fault Refusal :=
  .next (s.ifCtrl fun s => if s.fwRuns && s.wdtDue core then (s.wdtKick core).raise 26 (word core) else s)

/-- SYS_WDT_KICK (R484). -/
def execSysWdtKick (core : Fin 2) (s : State) : Host.Outcome State Fault Refusal :=
  .next (s.ifCtrl fun s => s.wdtKick core)

end Sys2Proof.Machine
end

