-- ==== Sys2Proof/Machine/Operands.lean ====
section
/-!
DEFINITION. The engine's operand forms (R91, R92, R100 to R105, R121): registers by their codes, results on their way,
the addressing modes, local accesses, and how a slot issues and a bundle closes (R105 to R108, R116 to R120).
-/

namespace Sys2Proof.Machine

/-! ## Registers -/

/-- D register as ALU operations, stores and moves see it. -/
def Engine.dv (g : Engine) (i : Nat) : Word := Tbl.get (fun _ => 0) g.d i

/-- D register as BR and RPTR see it (R129). -/
def Engine.dBrv (g : Engine) (i : Nat) : Word := Tbl.get (fun _ => 0) g.dBr i

/-- Accumulator as the next addition sees it (R124). -/
def Engine.av (g : Engine) (i : Nat) : Acc := Tbl.get (fun _ => 0) g.a i

/-- Accumulator as a source sees it (R124). -/
def Engine.asv (g : Engine) (i : Nat) : Acc := Tbl.get (fun _ => 0) g.aSrc i

/-- Pointer. -/
def Engine.pv (g : Engine) (i : Nat) : BitVec 16 := Tbl.get (fun _ => 0) g.p i

/-- Modifier. -/
def Engine.mv (g : Engine) (i : Nat) : BitVec 16 := Tbl.get (fun _ => 0) g.m i

/-- Circular length. -/
def Engine.lv (g : Engine) (i : Nat) : BitVec 16 := Tbl.get (fun _ => 0) g.l i

/-- Circular base. -/
def Engine.bv (g : Engine) (i : Nat) : BitVec 16 := Tbl.get (fun _ => 0) g.b i

/-- The rw bits of ES (R93). -/
def esRw : Word := 0x77FF

/-- A bit of ES. -/
def Engine.esBit (g : Engine) (i : Nat) : Bool := g.es.getLsbD i

/-- Write z, n, c, v into the low bits of ES. -/
def setNzcv (es : Word) (z n c v : Bool) : Word := setBits es 3 0 (bit z + 2 * bit n + 4 * bit c + 8 * bit v)

/-- A result arrives. -/
def Engine.arrive (g : Engine) : Dst → Engine
  | .d i v => { g with d := Tbl.set (fun _ => 0) g.d i v }
  | .dBr i v => { g with dBr := Tbl.set (fun _ => 0) g.dBr i v }
  | .a i v => { g with a := Tbl.set (fun _ => 0) g.a i v }
  | .aSrc i v => { g with aSrc := Tbl.set (fun _ => 0) g.aSrc i v }
  | .p i v => { g with p := Tbl.set (fun _ => 0) g.p i v }
  | .m i v => { g with m := Tbl.set (fun _ => 0) g.m i v }
  | .l i v => { g with l := Tbl.set (fun _ => 0) g.l i v }
  | .b i v => { g with b := Tbl.set (fun _ => 0) g.b i v }
  | .lc v => { g with lc := v }
  | .lcDec v => { g with lc := v }
  | .es v => { g with es := (g.es &&& ~~~esRw) ||| (v &&& esRw), esBr := v.setWidth 5 }
  | .flags z n c v => { g with es := setNzcv g.es z n c v }
  | .brFlags z n c v => { g with esBr := (setNzcv (g.esBr.setWidth 32) z n c v).setWidth 5 }
  | .z b => { g with es := setBits g.es 0 0 (bit b) }
  | .brZ b => { g with esBr := (setBits (g.esBr.setWidth 32) 0 0 (bit b)).setWidth 5 }
  | .sat => { g with es := g.es ||| 16, esBr := g.esBr ||| 16 }
  | .bexp n => { g with es := setBits g.es 10 6 (min (bitsOf g.es 10 6) n) }
  | .epc v => { g with epc := v }
  | .ees v => { g with ees := v }

/-- Results arrive in order. -/
def Engine.arriveAll (g : Engine) : List Dst → Engine
  | [] => g
  | x :: xs => (g.arrive x).arriveAll xs

/-- A write of ES that comes in takes the place of older ones still on their way (log 10): a move into ES, or RTE's, of every
older result in ES; ALU flags of an older z of MBR. -/
def Dst.overtakes : Dst → Dst → Bool
  | .es _, .brFlags _ _ _ _ => true
  | .es _, .z _ => true
  | .es _, .brZ _ => true
  | .es _, .sat => true
  | .es _, .bexp _ => true
  | .flags _ _ _ _, .z _ => true
  | _, _ => false

/-- The results on their way but those that a younger one, due now, overtakes. -/
def dropOvertaken : List Flight → List Flight
  | [] => []
  | f :: fs =>
    if 1 < f.k && fs.any (fun x => x.k ≤ 1 && x.dst.overtakes f.dst) then dropOvertaken fs else f :: dropOvertaken fs

/-- One bundle passes: the results due arrive in order of issue, the others come one bundle nearer (R105, R119). ES follows the
program's order: of two writes of a field, by ALU operations, MBR, moves and RTE, the younger stands, and within a bundle that of
the later slot (DESIGN CHOICE, log 10). Pointers follow the time of arrival: a move or ADDA into Pn at j, seen from j + 3,
overwrites a post-modify at j + 1, seen from j + 2 (DESIGN CHOICE, log 10). -/
def Engine.advance (g : Engine) : Engine :=
  let fs := dropOvertaken g.flights
  let due := (fs.filter fun f => f.k ≤ 1).map (·.dst)
  let rest := (fs.filter fun f => 1 < f.k).map fun f => { f with k := f.k - 1 }
  ({ g with flights := rest }).arriveAll due

/-- Every result of the bundles issued is complete (R106, R133). -/
def Engine.flush (g : Engine) : Engine := g.advance.advance.advance

/-- Results go on their way. -/
def Engine.fly (g : Engine) (fs : List Flight) : Engine := { g with flights := g.flights ++ fs }

/-- A value into a D register, seen after k bundles, by BR and RPTR after 3 (R105, R129). -/
def toD (i : Nat) (v : Word) (k : Nat) : List Flight := [⟨k, .d i v⟩, ⟨3, .dBr i v⟩]

/-- A value into an accumulator, seen by additions after 1 bundle and by sources after 3 (R124). -/
def toA (i : Nat) (v : Acc) : List Flight := [⟨1, .a i v⟩, ⟨3, .aSrc i v⟩]

/-- Flags: seen after 1 bundle, by branches after 3 (R105). -/
def toFlags (r : Alu) : List Flight := [⟨1, .flags r.z r.n r.c r.v⟩, ⟨3, .brFlags r.z r.n r.c r.v⟩]

/-- An ALU result into Dd with its flags. -/
def toAlu (d : Nat) (r : Alu) : List Flight := toD d r.val 1 ++ toFlags r

/-- A conversion result into Dd: seen after 2 bundles; sat and, with bx_en, bexp with it (R96, R97). Branches see sat from j + 2
too: R105's j + 3 is of ALU flags (DEDUCED, log 10). -/
def toConv (g : Engine) (d : Nat) (a : Acc) (sc : Int) : List Flight :=
  let v := convert a.toInt sc
  toD d v 2 ++ (if convSat a.toInt sc then [⟨2, .sat⟩] else [])
    ++ (if g.esBit 5 then [⟨2, .bexp (lsc v)⟩] else [])

/-! ## Register codes of moves (R121, R92, R135) -/

/-- A register read by MOVR, as a 32-bit value. -/
def Engine.readCode (g : Engine) (c : Nat) : Word :=
  if c < 0x10 then g.dv c
  else if c < 0x18 then (g.pv (c - 0x10)).setWidth 32
  else if c < 0x20 then (g.mv (c - 0x18)).signExtend 32
  else if c < 0x28 then (g.lv (c - 0x20)).setWidth 32
  else if c < 0x30 then (g.bv (c - 0x28)).setWidth 32
  else if c = 0x30 then g.lc.setWidth 32
  else if c = 0x31 then word g.rc
  else if c = 0x32 then g.es
  else if c = 0x33 then word g.pc
  else if c = 0x34 then g.epc.setWidth 32
  else g.ees

/-- The result is a branch's view of ALU flags. -/
def Dst.isFlags : Dst → Bool
  | .brFlags _ _ _ _ => true
  | _ => false

/-- The result is LBR's decrement. -/
def Dst.isLcDec : Dst → Bool
  | .lcDec _ => true
  | _ => false

/-- R105 leaves open what a move reads: ES with ALU flags of an earlier bundle still on their way to branches, LC after an LBR's
decrement. -/
def Engine.openRead (g : Engine) (c : Nat) : Bool :=
  (c = 0x32 && g.flights.any fun f => f.k < 3 && f.dst.isFlags) || (c = 0x30 && g.flights.any fun f => f.dst.isLcDec)

/-- A register read by MOVR; `w` is the free value of what R105 leaves open. -/
def Engine.moveRead (g : Engine) (c : Nat) (w : Word) : Word :=
  if !g.openRead c then g.readCode c
  else if c = 0x32 then setBits g.es 3 0 w.toNat
  else w.setWidth 16 |>.setWidth 32

/-- A move into a register: what arrives, and when (R135). EPC and EES are seen from j + 3 by RTE, as the rule says, and by a MOVR that
reads them as well (DESIGN CHOICE, log 10). -/
def moveTo (c : Nat) (v : Word) : List Flight :=
  if c < 0x10 then toD c v 1
  else if c < 0x18 then [⟨3, .p (c - 0x10) (v.setWidth 16)⟩]
  else if c < 0x20 then [⟨3, .m (c - 0x18) (v.setWidth 16)⟩]
  else if c < 0x28 then [⟨3, .l (c - 0x20) (v.setWidth 16)⟩]
  else if c < 0x30 then [⟨3, .b (c - 0x28) (v.setWidth 16)⟩]
  else if c = 0x30 then [⟨3, .lc (v.setWidth 16)⟩]
  else if c = 0x32 then [⟨1, .es v⟩]
  else if c = 0x34 then [⟨3, .epc (v.setWidth 12)⟩]
  else [⟨3, .ees v⟩]

/-! ## Addressing (R100 to R103) -/

/-- R101. -/
def postModify (p m b len : BitVec 16) : BitVec 16 :=
  let q : Int := (p.toNat : Int) + m.toInt
  let q := if len = 0 then q
    else if (b.toNat : Int) + len.toNat ≤ q then q - len.toNat
    else if q < b.toNat then q + len.toNat
    else q
  BitVec.ofInt 16 q

/-- The low k bits of a number, reversed (R103). -/
def revBits : Nat → Nat → Nat
  | 0, _ => 0
  | k + 1, v => v % 2 * 2 ^ k + revBits k (v / 2)

/-- R103: the requirement on Ln and Bn. -/
def bitrevOk (b len : BitVec 16) : Bool :=
  2 ≤ len.toNat && len.toNat ≤ 16384 && 2 ^ len.toNat.log2 = len.toNat && b.toNat % len.toNat = 0

/-- R103. -/
def bitrevModify (p m b len : BitVec 16) : BitVec 16 :=
  let n := len.toNat
  let k := n.log2
  let r := revBits k ((p - b).toNat % n) + revBits k (m.toNat % n)
  b + BitVec.ofNat 16 (revBits k (r % n))

/-- The pointer after an access in a mode, `step` the post-increment (R100). -/
def Engine.pAfter (g : Engine) (n : Nat) (mode : AddrMode) (step : BitVec 16) : BitVec 16 :=
  match mode with
  | .plain => g.pv n
  | .postMod => postModify (g.pv n) (g.mv n) (g.bv n) (g.lv n)
  | .postInc => postModify (g.pv n) step (g.bv n) (g.lv n)
  | .bitRev =>
    if bitrevOk (g.bv n) (g.lv n) then bitrevModify (g.pv n) (g.mv n) (g.bv n) (g.lv n)
    else postModify (g.pv n) (g.mv n) (g.bv n) 0

/-- The pointer's update as a result on its way (R105). -/
def Engine.toP (g : Engine) (n : Nat) (mode : AddrMode) (step : BitVec 16) : List Flight :=
  if mode = .plain then [] else [⟨1, .p n (g.pAfter n mode step)⟩]

/-- The pointer that a mode updates, as a named destination (R118). -/
def pName (n : Nat) (mode : AddrMode) : List Nat := if mode = .plain then [] else [0x10 + n]

/-! ## Local accesses under task DMA (R89) -/

/-- A local word lies in a transfer that is queued or running. -/
def Engine.inDma (g : Engine) (a : Nat) : Bool := g.dma.any fun x => x.loc ≤ a && a < x.loc + x.count

/-- What a load of a local word returns: a free value under DMA (R89). -/
def State.loadVal (s : State) (e a : Nat) : Word :=
  if (s.engine e).inDma a then Config.freeWord s.fresh else s.localWord e a

/-- The count of free values after a load or a store. -/
def State.usedDma (s : State) (e a : Nat) : State := if (s.engine e).inDma a then s.tick1 else s

/-- Store a local word: under DMA the word then has an undefined value, also once the transfer is over (R89). -/
def State.storeVal (s : State) (e a : Nat) (w : Word) : State :=
  let g := s.engine e
  if g.inDma a then
    ((s.putLocal e a (Config.freeWord s.fresh)).tick1).setEngine e { g with dma := g.dma.map fun x =>
      if x.loc ≤ a && a < x.loc + x.count then { x with spoilt := a :: x.spoilt } else x }
  else s.putLocal e a w

/-- An effect of a slot takes place as the bundle closes. -/
def State.lateDo (s : State) (e : Nat) : Late → State
  | .store a w => s.storeVal e a w
  | .fixed mem a => s.eccFixed e mem a
  | .fault _ => s

/-- A slot's effect waits for the close of its bundle. -/
def State.later (s : State) (e : Nat) (x : Late) : State :=
  let g := s.engine e
  s.setEngine e { g with late := g.late ++ [x] }

/-- The effects of the bundle's slots take place. -/
def State.commitLate (s : State) (e : Nat) : State :=
  let g := s.engine e
  g.late.foldl (fun s x => s.lateDo e x) (s.setEngine e { g with late := [] })

/-- The present bundle has had no effect (R132): its results and its waiting effects go. -/
def Engine.unissue (g : Engine) : Engine :=
  { g with flights := g.flights.take g.before, late := [], named := [], partway := false }

/-! ## Issue -/

/-- The engine is running task code. -/
def State.runs (s : State) (e : Nat) : Bool := (s.engine e).st = .running

/-- The present bundle is a delay slot (R107). -/
def Engine.inDelay (g : Engine) : Bool := g.br.isSome || g.slots ≠ 0

/-- The bundles of the loaded code. -/
def State.codeBundles (s : State) : Nat := match s.fab.graph with | none => 0 | some g => g.code.length / 8

/-- The engine's place after the present bundle (R105, R108, R120): the next index and the branch, delay-slot and repeat state. -/
def Engine.nextPlace (g : Engine) : Int × Engine :=
  if g.repeating && g.rc ≠ 0 then ((g.pc : Int), { g with rc := g.rc - 1 })
  else
    let h := { g with repeating := false, rc := 0, rpt := none, taken := none, branched := false }
    let seq : Int := g.pc + 1
    match g.rpt with
    | some n => (seq, { h with repeating := true, rc := n - 1 })
    | none =>
      if g.branched then
        match g.taken with
        | some t => (seq, { h with br := some (t, 2) })
        | none => (seq, { h with slots := 2 })
      else
        match g.br with
        | some (t, k) => if k ≤ 1 then (t, { h with br := none }) else (seq, { h with br := some (t, k - 1) })
        | none => (seq, { h with slots := g.slots - 1 })

/-- Enabled events pending grow older by a bundle (R112). -/
def Engine.older (g : Engine) : Engine :=
  let up := fun t i =>
    Tbl.set (fun _ => 0) t i (if g.esBit (16 + i) && g.esBit (12 + i) then Tbl.get (fun _ => 0) g.age i + 1 else 0)
  { g with age := (List.range 3).foldl up g.age }

/-- The present bundle closes: its stores take place, results advance, the engine moves on, or the run ends (R105, R120, R133). -/
def State.closeBundle (s : State) (e : Nat) : State :=
  let s := (s.commitLate e).count (R.ENG_BUSY_CYC e)
  let g0 := s.engine e
  let g := (Engine.advance { g0 with named := [], partway := false }).older
  let g := { g with before := g.flights.length }
  if g.tend then
    let g1 := g.flush
    s.setEngine e { g1 with st := .writeback, tend := false }
  else
    let r := g.nextPlace
    let h := r.2
    let s := s.setEngine e { h with pc := r.1.toNat }
    if r.1 < 0 || (s.codeBundles : Int) ≤ r.1 then s.taskFault e 4 else s

/-- The reason of the first slot of the present bundle whose access faults (R71). -/
def Engine.faulted (g : Engine) : Option Nat :=
  g.late.findSome? fun x => match x with
    | .fault r => some r
    | _ => none

/-- A slot whose access is a task fault: the bundle faults at its last slot, so that a stall of that slot comes first (R132). -/
def State.faultSlot (s : State) (e : Nat) (last : Bool) (names : List Nat) (r : Nat) : State :=
  let g := s.engine e
  if last then s.taskFault e (g.faulted.getD r)
  else s.setEngine e { g with named := g.named ++ names, partway := true, late := g.late ++ [.fault r] }

/-- Close the bundle when its last slot has issued. -/
def State.close (s : State) (e : Nat) (last : Bool) : State := if last then s.closeBundle e else s

/-- A slot issues (R116, R118), as a change of the whole state: as `issue`, with `bad` a reason of R71 that the operands give. Where
slots of one bundle give several reasons, the first slot's stands: of slot Y's address (0x2) and slot Z's encoding (0x1: R107, R108,
RPTR's count of R130, DMAQ in a repeat) or DMAQ's operands (R131) that is slot Y's; the rules state no order (DESIGN CHOICE, log 11). -/
def State.issueS (s : State) (e : Nat) (last ok : Bool) (names : List Nat) (bad : Option Nat) (f : State → State) : State :=
  let g := s.engine e
  if g.st ≠ .running then s
  else if !ok || hasDup (g.named ++ names) then s.taskFault e (g.faulted.getD 1)
  else
    match g.faulted.or bad with
    | some r => s.faultSlot e last names r
    | none => (f (s.setEngine e { g with named := g.named ++ names, partway := true })).close e last

/-- A slot issues (R116, R118): `names` are the registers it names as destinations, `ok` says that its encoding is
legal, `f` what it does to the engine. An illegal encoding is a task fault with reason 0x1 (R117), but where an earlier slot of the
bundle has faulted already (log 11). -/
def State.issue (s : State) (e : Nat) (last ok : Bool) (names : List Nat) (f : Engine → Engine) : State :=
  let g := s.engine e
  if g.st ≠ .running then s
  else if !ok || hasDup (g.named ++ names) then s.taskFault e (g.faulted.getD 1)
  else
    match g.faulted with
    | some r => s.faultSlot e last names r
    | none => (s.setEngine e (f { g with named := g.named ++ names, partway := true })).close e last

/-- A slot whose whole effect is results on their way. -/
def State.issueFly (s : State) (e : Nat) (last : Bool) (names : List Nat) (f : Engine → List Flight) : State :=
  s.issue e last true names fun g => g.fly (f g)

/-- The code by which an accumulator counts as a named destination (R118). -/
abbrev aName (i : Nat) : Nat := 0x40 + i

end Sys2Proof.Machine
end

