-- ==== Sys2Proof/Machine/EngAlu.lean ====
section
/-!
DEFINITION. Slot X, ALU operations on D registers (R99, R123): every one exact, with its flags.
-/

namespace Sys2Proof.Machine

/-- An ALU operation into Dd: `r` computes the result from the D registers (R99, R105). -/
def State.alu (s : State) (e : Nat) (d : Nat) (last : Bool) (r : Engine → Alu) : State :=
  s.issueFly e last [d] fun g => toAlu d (r g)

/-- A compare: flags only (R123). -/
def State.aluCmp (s : State) (e : Nat) (last : Bool) (r : Engine → Alu) : State :=
  s.issueFly e last [] fun g => toFlags (r g)

/-- A shift amount in a D register: bits 4:0 (R123). -/
def shAmt (w : Word) : Nat := w.toNat % 32

/-- ADD: Dd = Ds + Dt; z n c v (R123). -/
def execAdd (e : Eng) (d s' t : BitVec 4) (last : Bool) (s : State) : Host.Outcome State Fault Refusal :=
  .next (s.alu e d.toNat last fun g => aluAdd (g.dv s'.toNat) (g.dv t.toNat))

/-- SUB: Dd = Ds - Dt; z n c v (R123). -/
def execSub (e : Eng) (d s' t : BitVec 4) (last : Bool) (s : State) : Host.Outcome State Fault Refusal :=
  .next (s.alu e d.toNat last fun g => aluSub (g.dv s'.toNat) (g.dv t.toNat))

/-- AND: Dd = Ds &&& Dt; z n, c = v = 0 (R123). -/
def execAnd (e : Eng) (d s' t : BitVec 4) (last : Bool) (s : State) : Host.Outcome State Fault Refusal :=
  .next (s.alu e d.toNat last fun g => aluLogic (g.dv s'.toNat &&& g.dv t.toNat))

/-- OR: Dd = Ds ||| Dt; z n, c = v = 0 (R123). -/
def execOr (e : Eng) (d s' t : BitVec 4) (last : Bool) (s : State) : Host.Outcome State Fault Refusal :=
  .next (s.alu e d.toNat last fun g => aluLogic (g.dv s'.toNat ||| g.dv t.toNat))

/-- XOR: Dd = Ds ^^^ Dt; z n, c = v = 0 (R123). -/
def execXor (e : Eng) (d s' t : BitVec 4) (last : Bool) (s : State) : Host.Outcome State Fault Refusal :=
  .next (s.alu e d.toNat last fun g => aluLogic (g.dv s'.toNat ^^^ g.dv t.toNat))

/-- MIN: the signed one of Ds, Dt; z n, c = v = 0 (R123). -/
def execMin (e : Eng) (d s' t : BitVec 4) (last : Bool) (s : State) : Host.Outcome State Fault Refusal :=
  .next (s.alu e d.toNat last fun g => aluMin (g.dv s'.toNat) (g.dv t.toNat))

/-- MAX: the signed one of Ds, Dt; z n, c = v = 0 (R123). -/
def execMax (e : Eng) (d s' t : BitVec 4) (last : Bool) (s : State) : Host.Outcome State Fault Refusal :=
  .next (s.alu e d.toNat last fun g => aluMax (g.dv s'.toNat) (g.dv t.toNat))

/-- ASR: Dd = Ds shifted by Dt[4:0]; z n c, v = 0 (R123). -/
def execAsr (e : Eng) (d s' t : BitVec 4) (last : Bool) (s : State) : Host.Outcome State Fault Refusal :=
  .next (s.alu e d.toNat last fun g => aluAsr (g.dv s'.toNat) (shAmt (g.dv t.toNat)))

/-- LSR: Dd = Ds shifted by Dt[4:0]; z n c, v = 0 (R123). -/
def execLsr (e : Eng) (d s' t : BitVec 4) (last : Bool) (s : State) : Host.Outcome State Fault Refusal :=
  .next (s.alu e d.toNat last fun g => aluLsr (g.dv s'.toNat) (shAmt (g.dv t.toNat)))

/-- LSL: Dd = Ds shifted by Dt[4:0]; z n c, v = 0 (R123). -/
def execLsl (e : Eng) (d s' t : BitVec 4) (last : Bool) (s : State) : Host.Outcome State Fault Refusal :=
  .next (s.alu e d.toNat last fun g => aluLsl (g.dv s'.toNat) (shAmt (g.dv t.toNat)))

/-- CMP: flags of Ds - Dt; no register is written (R123). -/
def execCmp (e : Eng) (s' t : BitVec 4) (last : Bool) (s : State) : Host.Outcome State Fault Refusal :=
  .next (s.aluCmp e last fun g => aluSub (g.dv s'.toNat) (g.dv t.toNat))

/-- MOV: Dd = Ds; z n, c = v = 0 (R123). -/
def execMov (e : Eng) (d s' : BitVec 4) (last : Bool) (s : State) : Host.Outcome State Fault Refusal :=
  .next (s.alu e d.toNat last fun g => aluLogic (g.dv s'.toNat))

/-- NEG: Dd = 0 - Ds; z n c v (R123). -/
def execNeg (e : Eng) (d s' : BitVec 4) (last : Bool) (s : State) : Host.Outcome State Fault Refusal :=
  .next (s.alu e d.toNat last fun g => aluNeg (g.dv s'.toNat))

/-- ABS: Dd = |Ds|; z n v, c = 0 (R123). -/
def execAbs (e : Eng) (d s' : BitVec 4) (last : Bool) (s : State) : Host.Outcome State Fault Refusal :=
  .next (s.alu e d.toNat last fun g => aluAbs (g.dv s'.toNat))

/-- NOT: Dd = ~Ds; z n, c = v = 0 (R123). -/
def execNot (e : Eng) (d s' : BitVec 4) (last : Bool) (s : State) : Host.Outcome State Fault Refusal :=
  .next (s.alu e d.toNat last fun g => aluLogic (~~~(g.dv s'.toNat)))

/-- ADDI: Dd = Ds + sign_extend(imm10); z n c v (R123). -/
def execAddi (e : Eng) (d s' : BitVec 4) (imm : BitVec 10) (last : Bool) (s : State) : Host.Outcome State Fault Refusal :=
  .next (s.alu e d.toNat last fun g => aluAdd (g.dv s'.toNat) (imm.signExtend 32))

/-- CMPI: flags of Ds - sign_extend(imm10) (R123). -/
def execCmpi (e : Eng) (s' : BitVec 4) (imm : BitVec 10) (last : Bool) (s : State) : Host.Outcome State Fault Refusal :=
  .next (s.aluCmp e last fun g => aluSub (g.dv s'.toNat) (imm.signExtend 32))

/-- MOVI: Dd = sign_extend(imm10); z n, c = v = 0 (R123). -/
def execMovi (e : Eng) (d : BitVec 4) (imm : BitVec 10) (last : Bool) (s : State) : Host.Outcome State Fault Refusal :=
  .next (s.alu e d.toNat last fun _ => aluLogic (imm.signExtend 32))

/-- ASRI: Dd = Ds shifted by sh; z n c, v = 0 (R123). -/
def execAsri (e : Eng) (d s' : BitVec 4) (sh : BitVec 5) (last : Bool) (s : State) : Host.Outcome State Fault Refusal :=
  .next (s.alu e d.toNat last fun g => aluAsr (g.dv s'.toNat) sh.toNat)

/-- LSRI: Dd = Ds shifted by sh; z n c, v = 0 (R123). -/
def execLsri (e : Eng) (d s' : BitVec 4) (sh : BitVec 5) (last : Bool) (s : State) : Host.Outcome State Fault Refusal :=
  .next (s.alu e d.toNat last fun g => aluLsr (g.dv s'.toNat) sh.toNat)

/-- LSLI: Dd = Ds shifted by sh; z n c, v = 0 (R123). -/
def execLsli (e : Eng) (d s' : BitVec 4) (sh : BitVec 5) (last : Bool) (s : State) : Host.Outcome State Fault Refusal :=
  .next (s.alu e d.toNat last fun g => aluLsl (g.dv s'.toNat) sh.toNat)

/-- BEXP: ES.bexp = min(ES.bexp, lsc(Ds)), whatever bx_en is (R97). -/
def execBexp (e : Eng) (s' : BitVec 4) (last : Bool) (s : State) : Host.Outcome State Fault Refusal :=
  .next (s.issueFly e last [] fun g => [⟨1, .bexp (lsc (g.dv s'.toNat))⟩])

/-- LDI: Dd = imm32, no flag (R136). -/
def execLdi (e : Eng) (d : BitVec 4) (imm : Word) (last : Bool) (s : State) : Host.Outcome State Fault Refusal :=
  .next (s.issueFly e last [d.toNat] fun _ => toD d.toNat imm 1)

end Sys2Proof.Machine
end

