-- ==== Sys2Proof/Machine/EngMem.lean ====
section
/-!
DEFINITION. Slot Y: loads, stores and pointer updates (R81, R82, R100 to R103, R125, R126).
-/

namespace Sys2Proof.Machine

/-- A word access outside X and Y (R81). -/
def badWord (a : Nat) : Option Nat := if populated a then none else some 2

/-- A pair access outside X and Y, or at an odd address (R81, R100). -/
def badPair (a : Nat) : Option Nat := if populated a && a % 2 = 0 then none else some 2

/-- Two accesses, one in X and one in Y (R126). -/
def badDual (a b : Nat) : Option Nat :=
  if (a < 0x4000 && 0x4000 ≤ b && populated b) || (b < 0x4000 && 0x4000 ≤ a && populated a) then none else some 2

/-- Results go on their way. -/
def State.flyE (s : State) (e : Nat) (fs : List Flight) : State := s.setEngine e ((s.engine e).fly fs)

/-- Load a word into Dd, seen after 2 bundles (R105, R125). -/
def State.loadTo (s : State) (e d a : Nat) : State := (s.flyE e (toD d (s.loadVal e a) 2)).usedDma e a

/-- ECC corrected the local word on its way, or not (R109). -/
def State.ifFixed (s : State) (e : Nat) (ecc : Bool) (a : Nat) : State :=
  if ecc then s.later e (.fixed (if a < 0x4000 then 1 else 2) a) else s

/-- LD: Dd = word at Pn (R125). `ecc` says that ECC corrected the word on its way (R109). -/
def execLd (e : Eng) (d : BitVec 4) (n : BitVec 3) (mode : AddrMode) (ecc last : Bool) (s : State) :
    Host.Outcome State Fault Refusal :=
  let g := s.engine e
  let a := (g.pv n.toNat).toNat
  .next (s.issueS e last true (d.toNat :: pName n.toNat mode) (badWord a) fun s =>
    ((s.loadTo e d.toNat a).flyE e (g.toP n.toNat mode 1)).ifFixed e ecc a)

/-- LDP: Dd:Dd+1 = pair at Pn; an odd d is illegal (R125). `ecc`: the pair's 64-bit word was corrected (R79, R109). -/
def execLdp (e : Eng) (d : BitVec 4) (n : BitVec 3) (mode : AddrMode) (last : Bool) (s : State) (ecc : Bool := false) :
    Host.Outcome State Fault Refusal :=
  let g := s.engine e
  let a := (g.pv n.toNat).toNat
  .next (s.issueS e last (d.toNat % 2 = 0) (d.toNat :: (d.toNat + 1) :: pName n.toNat mode) (badPair a) fun s =>
    (((s.loadTo e d.toNat a).loadTo e (d.toNat + 1) (a + 1)).flyE e (g.toP n.toNat mode 2)).ifFixed e ecc a)

/-- ST: word at Pn = Dd, as D is before the bundle's own results (R105, R125), when the bundle closes. -/
def execSt (e : Eng) (d : BitVec 4) (n : BitVec 3) (mode : AddrMode) (last : Bool) (s : State) :
    Host.Outcome State Fault Refusal :=
  let g := s.engine e
  let a := (g.pv n.toNat).toNat
  .next (s.issueS e last true (pName n.toNat mode) (badWord a) fun s =>
    (s.later e (.store a (g.dv d.toNat))).flyE e (g.toP n.toNat mode 1))

/-- STP: pair at Pn = Dd:Dd+1; an odd d is illegal (R125). -/
def execStp (e : Eng) (d : BitVec 4) (n : BitVec 3) (mode : AddrMode) (last : Bool) (s : State) :
    Host.Outcome State Fault Refusal :=
  let g := s.engine e
  let a := (g.pv n.toNat).toNat
  .next (s.issueS e last (d.toNat % 2 = 0) (pName n.toNat mode) (badPair a) fun s =>
    ((s.later e (.store a (g.dv d.toNat))).later e (.store (a + 1) (g.dv (d.toNat + 1)))).flyE e (g.toP n.toNat mode 2))

/-- LDD: a word from X and a word from Y at once; both pointers post-modify (R125, R126). `eccN`, `eccM`: the word at Pn, at Pm was corrected. -/
def execLdd (e : Eng) (d : BitVec 4) (n : BitVec 3) (d2 : BitVec 4) (m : BitVec 3) (last : Bool) (s : State)
    (eccN eccM : Bool := false) : Host.Outcome State Fault Refusal :=
  let g := s.engine e
  let a := (g.pv n.toNat).toNat
  let b := (g.pv m.toNat).toNat
  .next (s.issueS e last true [d.toNat, d2.toNat, 0x10 + n.toNat, 0x10 + m.toNat] (badDual a b) fun s =>
    let s := (((s.loadTo e d.toNat a).loadTo e d2.toNat b).flyE e (g.toP n.toNat .postMod 1)).flyE e (g.toP m.toNat .postMod 1)
    (s.ifFixed e eccN a).ifFixed e eccM b)

/-- The pair access's mode in LDDP: post-modify or post-increment by 2 (R125). -/
def pairMode (inc : Bool) : AddrMode := if inc then .postInc else .postMod

/-- LDDP: a pair from X and a pair from Y at once (R125, R126). -/
def execLddp (e : Eng) (dp n ep m : BitVec 3) (mn mm last : Bool) (s : State) (eccN eccM : Bool := false) :
    Host.Outcome State Fault Refusal :=
  let g := s.engine e
  let a := (g.pv n.toNat).toNat
  let b := (g.pv m.toNat).toNat
  let d := 2 * dp.toNat
  let d' := 2 * ep.toNat
  .next (s.issueS e last true [d, d + 1, d', d' + 1, 0x10 + n.toNat, 0x10 + m.toNat]
    (if a % 2 = 1 || b % 2 = 1 then some 2 else badDual a b) fun s =>
    let s := ((s.loadTo e d a).loadTo e (d + 1) (a + 1)).flyE e (g.toP n.toNat (pairMode mn) 2)
    let s := ((s.loadTo e d' b).loadTo e (d' + 1) (b + 1)).flyE e (g.toP m.toNat (pairMode mm) 2)
    (s.ifFixed e eccN a).ifFixed e eccM b)

/-- MODP: the pointer's update without an access (R125). -/
def execModp (e : Eng) (n : BitVec 3) (mode : AddrMode) (last : Bool) (s : State) : Host.Outcome State Fault Refusal :=
  .next (s.issueFly e last (pName n.toNat mode) fun g => g.toP n.toNat mode 1)

end Sys2Proof.Machine
end

