-- ==== Sys2Proof/Machine/EngCtl.lean ====
section
/-!
DEFINITION. Slot Z (R127 to R135), task DMA (R88 to R90, R131, R132), events (R109 to R113), and whole bundles (R116, R117).
-/

namespace Sys2Proof.Machine

/-! ## Branches and repeats -/

/-- An instruction that neither a delay slot nor a repeat may hold (R107, R108, R130). -/
def State.issueCtl (s : State) (e : Nat) (last ok : Bool) (f : Engine → Engine) : State :=
  let g := s.engine e
  s.issue e last (ok && !g.inDelay && !g.repeating) [] f

/-- A branch slot: taken to a target, or not taken; both have two delay slots (R105, R129). -/
def Engine.branch (g : Engine) (target : Option Int) : Engine := { g with branched := true, taken := target }

/-- B (R127). -/
def execB (e : Eng) (target : BitVec 12) (last : Bool) (s : State) : Host.Outcome State Fault Refusal :=
  .next (s.issueCtl e last true fun g => g.branch (some target.toNat))

/-- A condition on the flags as branches see them: z, n, c, v, sat in bits 0 to 4 (R128). Code 0xF names none. -/
def condHolds (f : BitVec 5) (c : Cond) : Bool :=
  let z := f.getLsbD 0
  let n := f.getLsbD 1
  let cy := f.getLsbD 2
  let v := f.getLsbD 3
  match c.toNat with
  | 0x0 => z
  | 0x1 => !z
  | 0x2 => n != v
  | 0x3 => n == v
  | 0x4 => !z && n == v
  | 0x5 => z || n != v
  | 0x6 => cy
  | 0x7 => !cy
  | 0x8 => n
  | 0x9 => !n
  | 0xA => v
  | 0xB => !v
  | 0xC => f.getLsbD 4
  | 0xD => !f.getLsbD 4
  | _ => true

/-- BCC (R127, R128): the target is the bundle's own index plus off9. -/
def execBcc (e : Eng) (cond : Cond) (off : BitVec 9) (last : Bool) (s : State) : Host.Outcome State Fault Refusal :=
  .next (s.issueCtl e last (cond ≠ 0xF) fun g =>
    g.branch (if condHolds g.esBr cond then some ((g.pc : Int) + off.toInt) else none))

/-- LBR (R127, R129): LC - 1, branch when it is not 0. -/
def execLbr (e : Eng) (target : BitVec 12) (last : Bool) (s : State) : Host.Outcome State Fault Refusal :=
  .next (s.issueCtl e last true fun g =>
    let lc := g.lc - 1
    (g.fly [⟨3, .lcDec lc⟩]).branch (if lc ≠ 0 then some target.toNat else none))

/-- BR (R127, R129): to Ds[11:0]. -/
def execBr (e : Eng) (s' : BitVec 4) (last : Bool) (s : State) : Host.Outcome State Fault Refusal :=
  .next (s.issueCtl e last true fun g => g.branch (some ((g.dBrv s'.toNat).toNat % 2 ^ 12)))

/-- RTE (R111): ES from EES, branch to EPC with two delay slots; the pending bits stay as they are. The restored rw fields are
seen from j + 1, as a move into ES, and in_evt at once (DEDUCED, log 10). -/
def execRte (e : Eng) (last : Bool) (s : State) : Host.Outcome State Fault Refusal :=
  .next (s.issueCtl e last true fun g =>
    let h := g.fly [⟨1, .es g.ees⟩]
    let h := { h with es := setBits h.es 19 19 (bit (g.ees.getLsbD 19)) }
    h.branch (some g.epc.toNat))

/-- RPT (R108, R130): the next bundle issues n1 + 1 times. -/
def execRpt (e : Eng) (n1 : BitVec 12) (last : Bool) (s : State) : Host.Outcome State Fault Refusal :=
  .next (s.issueCtl e last true fun g => { g with rpt := some (n1.toNat + 1) })

/-- RPTR (R130): the count is Ds[12:0], 1 to 4096. -/
def execRptr (e : Eng) (s' : BitVec 4) (last : Bool) (s : State) : Host.Outcome State Fault Refusal :=
  let n := ((s.engine e).dBrv s'.toNat).toNat % 2 ^ 13
  .next (s.issueCtl e last (n ≠ 0 && n ≤ 4096) fun g => { g with rpt := some n })

/-- TEND (R133). -/
def execTend (e : Eng) (last : Bool) (s : State) : Host.Outcome State Fault Refusal :=
  .next (s.issueCtl e last true fun g => { g with tend := true })

/-! ## Moves -/

/-- MOVR (R121, R135). -/
def execMovr (e : Eng) (dst src : BitVec 6) (last : Bool) (s : State) : Host.Outcome State Fault Refusal :=
  let g := s.engine e
  let w := Config.freeWord s.fresh
  let s := if g.openRead src.toNat then s.tick1 else s
  .next (s.issue e last (destOk dst.toNat && codeOk src.toNat) [dst.toNat] fun g =>
    g.fly (moveTo dst.toNat (g.moveRead src.toNat w)))

/-- MOVIZ (R135). -/
def execMoviz (e : Eng) (dst : BitVec 6) (imm : BitVec 7) (last : Bool) (s : State) : Host.Outcome State Fault Refusal :=
  .next (s.issue e last (destOk dst.toNat) [dst.toNat] fun g => g.fly (moveTo dst.toNat (imm.signExtend 32)))

/-- ADDA (R127): never circular, seen after 3 bundles. -/
def execAdda (e : Eng) (n : BitVec 3) (imm : BitVec 10) (last : Bool) (s : State) : Host.Outcome State Fault Refusal :=
  .next (s.issueFly e last [0x10 + n.toNat] fun g => [⟨3, .p n.toNat (g.pv n.toNat + imm.signExtend 16)⟩])

/-! ## Task DMA -/

/-- A bundle stalls in decode for a cycle (R132): counted; nothing of it takes effect, also of slots X and Y that came before. -/
def State.stall (s : State) (e : Nat) : State :=
  let s := s.count (R.ENG_DMA_WAIT_CYC e)
  let s := s.count (R.ENG_BUSY_CYC e)
  s.setEngine e (s.engine e).unissue.older

/-- A local range lies wholly inside X or wholly inside Y (R131). -/
def localRange (a n : Nat) : Bool := a + n ≤ 0x4000 || (0x4000 ≤ a && a + n ≤ 0x6000)

/-- A range of bytes lies inside another. -/
def inside (off len base size : Nat) : Bool := base ≤ off && off + len ≤ base + size

/-- The range a task may read by DMA (R90): words of its state_in from unit res_len on, and of the active parameter area, which may
follow each other. -/
def State.dmaReads (s : State) (t : Task) (off len : Nat) : Bool :=
  let r := residentLen t s.T * 64
  (List.range (len / 4)).all fun i =>
    inside (off + 4 * i) 4 (t.stateIn + r) (t.stateLen * 64 - r) || inside (off + 4 * i) 4 0x1000000 0x800000

/-- Where the block of a slot lies in the tick store: the spec leaves it open within the slot blocks' area (R394, log entry 6). -/
def State.slotOff (s : State) (o : Nat) : Nat := min (Config.slotOff o) (0x200000 - 4 * s.T)

/-- The range a task may write by DMA (R70, R89): words of its state_out and of its output slots, which may follow each other. -/
def State.dmaWrites (s : State) (t : Task) (off len : Nat) : Bool :=
  inside off len t.stateOut (t.stateLen * 64) || (List.range (len / 4)).all fun i =>
    inside (off + 4 * i) 4 t.stateOut (t.stateLen * 64)
      || t.outs.any fun o => inside (off + 4 * i) 4 (s.slotOff o) (4 * s.T)

/-- The reason for which a transfer fails when DMAQ issues (R131). Where several of the table's conditions hold, the first in the
table's order gives the reason: the rule states no order (DESIGN CHOICE, log 11). -/
def State.dmaBad (s : State) (t : Task) (out : Bool) (off loc count : Nat) : Option Nat :=
  if count = 0 || 4096 < count then some 1
  else if off % 4 ≠ 0 || 0x2000000 < off + 4 * count then some 3
  else if !out && !s.dmaReads t off (4 * count) then some 3
  else if !localRange loc count then some 2
  else if out && !s.dmaWrites t off (4 * count) then some 3
  else none

/-- DMAQ (R88, R131): queue a transfer; with four under way the bundle stalls. -/
def execDmaq (e : Eng) (dir : Bool) (s' t u : BitVec 4) (last : Bool) (s : State) : Host.Outcome State Fault Refusal :=
  let g := s.engine e
  let off := (g.dv s'.toNat).toNat
  let loc := (g.dv t.toNat).toNat % 2 ^ 16
  let n := (g.dv u.toNat).toNat % 2 ^ 13
  let ok := !g.inDelay && !g.repeating
  .next (if g.st = .running && ok && 4 ≤ g.dma.length then s.stall e
    else
      let bad :=
        match g.task.bind s.task? with
        | some k => s.dmaBad k dir off loc n
        | none => none
      s.issueS e last ok [] bad fun s =>
        let g := s.engine e
        s.setEngine e { g with dma := g.dma ++ [{ out := dir, off := off, loc := loc, count := n }] })

/-- DMAW (R132): wait until at most k transfers are queued or running. -/
def execDmaw (e : Eng) (k : BitVec 2) (last : Bool) (s : State) : Host.Outcome State Fault Refusal :=
  let g := s.engine e
  .next (if g.st = .running && !g.inDelay && !g.repeating && k.toNat < g.dma.length then s.stall e
    else s.issueCtl e last true id)

/-- Move a transfer's words from the tick store to local memory (R88, R90). -/
def State.dmaIn (s : State) (e off loc : Nat) : Nat → State
  | 0 => s
  | n + 1 => (s.putLocal e loc (s.dmaWord off)).dmaIn e (off + 4) (loc + 1) n

/-- Move a transfer's words from local memory to the tick store (R88). -/
def State.dmaOut (s : State) (e off loc n : Nat) : State := s.storeWords (e / 8) (tickStore + off) (s.localWords e loc n)

/-- The oldest transfer completes (R88); words stored under it stay undefined (R89). -/
def State.dmaDone (s : State) (e : Nat) : State :=
  let g := s.engine e
  match g.dma with
  | [] => s
  | x :: xs =>
    if !s.engIssues e then s
    else match if x.out then none else s.badWord (tickStore + x.off) (4 * x.count) with
    | some a => s.badRead e a
    | none =>
    let s := s.setEngine e { g with dma := xs }
    if x.out then s.dmaOut e x.off x.loc x.count
    else x.spoilt.foldl (fun s a => (s.putLocal e a (Config.freeWord s.fresh)).tick1) (s.dmaIn e x.off x.loc x.count)

/-- DMA_TRANSFER_COMPLETE (R88). -/
def execDmaTransferComplete (e : Eng) (s : State) : Host.Outcome State Fault Refusal := .next (s.dmaDone e)

/-- DMAS (R127): Dd = transfers queued or running. -/
def execDmas (e : Eng) (d : BitVec 4) (last : Bool) (s : State) : Host.Outcome State Fault Refusal :=
  .next (s.issueFly e last [d.toNat] fun g => toD d.toNat (word g.dma.length) 1)

/-! ## Mailboxes -/

/-- z of MBR, seen after 3 bundles by moves and branches alike (R127). -/
def toZ (b : Bool) : List Flight := [⟨3, .z b⟩, ⟨3, .brZ b⟩]

/-- MBR (R134): Dd = the inbound word; z says that there was none. Beside an ALU operation in slot X of the same bundle MBR's z
stands, as the later slot's (DESIGN CHOICE, log 10). -/
def execMbr (e : Eng) (d : BitVec 4) (last : Bool) (s : State) : Host.Outcome State Fault Refusal :=
  let w := s.reg (R.ENG_MBOX_IN e)
  let full := s.flag (F.ENG_MBOX_STATUS_in_full e)
  .next (s.issueS e last true [d.toNat] none fun s =>
    let s := s.setFlag (F.ENG_MBOX_STATUS_in_full e) false
    let g := s.engine e
    s.setEngine e (({ g with es := setBits g.es 18 18 0 }).fly (toD d.toNat w 1 ++ toZ (!full))))

/-- MBW (R134). -/
def execMbw (e : Eng) (s' : BitVec 4) (last : Bool) (s : State) : Host.Outcome State Fault Refusal :=
  let w := (s.engine e).dv s'.toNat
  .next (s.issueS e last true [] none fun s =>
    (s.put (R.ENG_MBOX_OUT e) w).setFlag (F.ENG_MBOX_STATUS_out_valid e) true)

/-- ENG_MBOX_IN_WRITE (R109): the word, in_full, in_ovr, pend_mbox; an event raised in the cycle of a stop is discarded (R113). -/
def State.mboxIn (s : State) (e : Nat) (w : Word) : State :=
  let s := if s.flag (F.ENG_MBOX_STATUS_in_full e) then s.setFlag (F.ENG_MBOX_STATUS_in_ovr e) true else s
  let s := (s.put (R.ENG_MBOX_IN e) w).setFlag (F.ENG_MBOX_STATUS_in_full e) true
  if s.now.stopped.contains e then s
  else
    let g := s.engine e
    let rings := !g.es.getLsbD 18
    let s := s.setEngine e { g with es := setBits g.es 18 18 1 }
    if rings then { s with now := { s.now with rung := e :: s.now.rung } } else s

/-- ENG_MBOX_IN_WRITE (R109): refused by nothing while the cluster answers (R10, R474). -/
def execEngMboxInWrite (e : Eng) (w : Word) (s : State) : Host.Outcome State Fault Refusal :=
  .next (if s.domOn (3 + e / 8) then s.mboxIn e w else s)

/-! ## Events and whole bundles -/

/-- The event that enters (R110): 1 FAULT first, then 2 MAILBOX, then 0 TICK. -/
def Engine.entering (g : Engine) : Option Nat :=
  [1, 2, 0].find? fun i => g.esBit (16 + i) && g.esBit (12 + i)

/-- An event may enter at this bundle boundary (R110, R133). -/
def Engine.mayEnter (g : Engine) : Bool :=
  g.st = .running && !g.partway && !g.esBit 19 && !g.inDelay && !g.repeating && g.rpt.isNone && !g.tend && !g.branched

/-- R111, R112: the event enters; every result of the bundles before is complete (R106). -/
def State.enterEvent (s : State) (e i : Nat) : State :=
  let g := (s.engine e).flush
  let s := s.count (R.ENG_EVT_CNT e)
  let hold := min 8191 (Tbl.get (fun _ => 0) g.age i + 7)
  let s := s.setFld (F.ENG_HOLD_MAX_cycles e) (max hold (s.fld (F.ENG_HOLD_MAX_cycles e)))
  let v := if i = 0 then 0 else if i = 1 then 4 else 8
  let s := s.setEngine e { g with
    before := 0
    epc := BitVec.ofNat 12 g.pc
    ees := g.es
    es := setBits (setBits g.es (16 + i) (16 + i) 0) 19 19 1
    age := Tbl.set (fun _ => 0) g.age i 0
    pc := v }
  if s.codeBundles ≤ v then s.taskFault e 4 else s

/-- EVENT_ENTRY (R110, R111). -/
def execEventEntry (e : Eng) (s : State) : Host.Outcome State Fault Refusal :=
  let g := s.engine e
  .next (if g.mayEnter then
      match g.entering with
      | some i => s.enterEvent e i
      | none => s
    else s)

/-- BUNDLE_NOP (R116): nothing for one cycle. -/
def execBundleNop (e : Eng) (s : State) : Host.Outcome State Fault Refusal :=
  .next (if s.runs e then s.closeBundle e else s)

/-- BUNDLE_ILLEGAL (R117): an illegal encoding is a task fault; no slot takes effect. -/
def execBundleIllegal (e : Eng) (b : BitVec 64) (s : State) : Host.Outcome State Fault Refusal :=
  .next (if s.runs e && !bundleLegal b then s.taskFault e 1 else s)

end Sys2Proof.Machine
end

