-- ==== Sys2Proof/Machine/EngMac.lean ====
section
/-!
DEFINITION. Slot X, the multiply families, accumulator moves and conversions (R92, R95 to R98, R123, R124).
-/

namespace Sys2Proof.Machine

/-- One accumulator of a multiply form: its products added or subtracted exactly, modulo 2^80, to the accumulator or
to 0 (R95, R98, R123). -/
def macTo (g : Engine) (sub clr : Bool) (i : Nat) (p : Int) : List Flight :=
  toA i ((if clr then 0 else g.av i) + accI (if sub then -p else p))

/-- MAC1 family (R98). -/
def State.mac1 (s : State) (e : Nat) (sub clr : Bool) (a x c : Nat) (last : Bool) : State :=
  s.issueFly e last [aName a] fun g => macTo g sub clr a (prod (g.dv x) (g.dv c))

/-- MAC2 family: both accumulators of the pair share the coefficient (R98). -/
def State.mac2 (s : State) (e : Nat) (sub clr : Bool) (a x0 x1 c : Nat) (last : Bool) : State :=
  s.issueFly e last [aName a, aName (a + 1)] fun g =>
    macTo g sub clr a (prod (g.dv x0) (g.dv c)) ++ macTo g sub clr (a + 1) (prod (g.dv x1) (g.dv c))

/-- MAC4 outer family: all four accumulators (R98). -/
def State.mac4o (s : State) (e : Nat) (sub clr : Bool) (x c : Nat) (last : Bool) : State :=
  s.issueFly e last [aName 0, aName 1, aName 2, aName 3] fun g =>
    macTo g sub clr 0 (prod (g.dv x) (g.dv c)) ++ macTo g sub clr 1 (prod (g.dv (x + 1)) (g.dv c))
      ++ macTo g sub clr 2 (prod (g.dv x) (g.dv (c + 1))) ++ macTo g sub clr 3 (prod (g.dv (x + 1)) (g.dv (c + 1)))

/-- MAC4 complex family (R98). -/
def State.mac4c (s : State) (e : Nat) (sub clr : Bool) (a x c : Nat) (last : Bool) : State :=
  s.issueFly e last [aName a, aName (a + 1)] fun g =>
    macTo g sub clr a (prod (g.dv x) (g.dv c) - prod (g.dv (x + 1)) (g.dv (c + 1)))
      ++ macTo g sub clr (a + 1) (prod (g.dv x) (g.dv (c + 1)) + prod (g.dv (x + 1)) (g.dv c))

/-- MAC4 conjugate family (R98). -/
def State.mac4j (s : State) (e : Nat) (sub clr : Bool) (a x c : Nat) (last : Bool) : State :=
  s.issueFly e last [aName a, aName (a + 1)] fun g =>
    macTo g sub clr a (prod (g.dv x) (g.dv c) + prod (g.dv (x + 1)) (g.dv (c + 1)))
      ++ macTo g sub clr (a + 1) (prod (g.dv (x + 1)) (g.dv c) - prod (g.dv x) (g.dv (c + 1)))

/-- The first register of a pair named by a 3-bit field (R121). -/
abbrev pairD (k : BitVec 3) : Nat := 2 * k.toNat

/-- The first accumulator of a pair named by one bit (R121). -/
abbrev pairA (ap : Bool) : Nat := if ap then 2 else 0

/-- MAC1: products added (R98, R123). -/
def execMac1 (e : Eng) (a : BitVec 2) (x c : BitVec 4) (last : Bool) (s : State) : Host.Outcome State Fault Refusal :=
  .next (s.mac1 e false false a.toNat x.toNat c.toNat last)

/-- MAC2: products added (R98, R123). -/
def execMac2 (e : Eng) (ap : Bool) (x0 x1 c : BitVec 4) (last : Bool) (s : State) : Host.Outcome State Fault Refusal :=
  .next (s.mac2 e false false (pairA ap) x0.toNat x1.toNat c.toNat last)

/-- MAC4O: products added (R98, R123). -/
def execMac4o (e : Eng) (dp cp : BitVec 3) (last : Bool) (s : State) : Host.Outcome State Fault Refusal :=
  .next (s.mac4o e false false (pairD dp) (pairD cp) last)

/-- MAC4C: products added (R98, R123). -/
def execMac4c (e : Eng) (ap : Bool) (dp cp : BitVec 3) (last : Bool) (s : State) : Host.Outcome State Fault Refusal :=
  .next (s.mac4c e false false (pairA ap) (pairD dp) (pairD cp) last)

/-- MAC4J: products added (R98, R123). -/
def execMac4j (e : Eng) (ap : Bool) (dp cp : BitVec 3) (last : Bool) (s : State) : Host.Outcome State Fault Refusal :=
  .next (s.mac4j e false false (pairA ap) (pairD dp) (pairD cp) last)

/-- MSU1: products subtracted (R98, R123). -/
def execMsu1 (e : Eng) (a : BitVec 2) (x c : BitVec 4) (last : Bool) (s : State) : Host.Outcome State Fault Refusal :=
  .next (s.mac1 e true false a.toNat x.toNat c.toNat last)

/-- MSU2: products subtracted (R98, R123). -/
def execMsu2 (e : Eng) (ap : Bool) (x0 x1 c : BitVec 4) (last : Bool) (s : State) : Host.Outcome State Fault Refusal :=
  .next (s.mac2 e true false (pairA ap) x0.toNat x1.toNat c.toNat last)

/-- MSU4O: products subtracted (R98, R123). -/
def execMsu4o (e : Eng) (dp cp : BitVec 3) (last : Bool) (s : State) : Host.Outcome State Fault Refusal :=
  .next (s.mac4o e true false (pairD dp) (pairD cp) last)

/-- MSU4C: products subtracted (R98, R123). -/
def execMsu4c (e : Eng) (ap : Bool) (dp cp : BitVec 3) (last : Bool) (s : State) : Host.Outcome State Fault Refusal :=
  .next (s.mac4c e true false (pairA ap) (pairD dp) (pairD cp) last)

/-- MSU4J: products subtracted (R98, R123). -/
def execMsu4j (e : Eng) (ap : Bool) (dp cp : BitVec 3) (last : Bool) (s : State) : Host.Outcome State Fault Refusal :=
  .next (s.mac4j e true false (pairA ap) (pairD dp) (pairD cp) last)

/-- MPY1: accumulators taken as 0, products added (R98, R123). -/
def execMpy1 (e : Eng) (a : BitVec 2) (x c : BitVec 4) (last : Bool) (s : State) : Host.Outcome State Fault Refusal :=
  .next (s.mac1 e false true a.toNat x.toNat c.toNat last)

/-- MPY2: accumulators taken as 0, products added (R98, R123). -/
def execMpy2 (e : Eng) (ap : Bool) (x0 x1 c : BitVec 4) (last : Bool) (s : State) : Host.Outcome State Fault Refusal :=
  .next (s.mac2 e false true (pairA ap) x0.toNat x1.toNat c.toNat last)

/-- MPY4O: accumulators taken as 0, products added (R98, R123). -/
def execMpy4o (e : Eng) (dp cp : BitVec 3) (last : Bool) (s : State) : Host.Outcome State Fault Refusal :=
  .next (s.mac4o e false true (pairD dp) (pairD cp) last)

/-- MPY4C: accumulators taken as 0, products added (R98, R123). -/
def execMpy4c (e : Eng) (ap : Bool) (dp cp : BitVec 3) (last : Bool) (s : State) : Host.Outcome State Fault Refusal :=
  .next (s.mac4c e false true (pairA ap) (pairD dp) (pairD cp) last)

/-- MPY4J: accumulators taken as 0, products added (R98, R123). -/
def execMpy4j (e : Eng) (ap : Bool) (dp cp : BitVec 3) (last : Bool) (s : State) : Host.Outcome State Fault Refusal :=
  .next (s.mac4j e false true (pairA ap) (pairD dp) (pairD cp) last)

/-- MPN1: accumulators taken as 0, products subtracted (R98, R123). -/
def execMpn1 (e : Eng) (a : BitVec 2) (x c : BitVec 4) (last : Bool) (s : State) : Host.Outcome State Fault Refusal :=
  .next (s.mac1 e true true a.toNat x.toNat c.toNat last)

/-- MPN2: accumulators taken as 0, products subtracted (R98, R123). -/
def execMpn2 (e : Eng) (ap : Bool) (x0 x1 c : BitVec 4) (last : Bool) (s : State) : Host.Outcome State Fault Refusal :=
  .next (s.mac2 e true true (pairA ap) x0.toNat x1.toNat c.toNat last)

/-- MPN4O: accumulators taken as 0, products subtracted (R98, R123). -/
def execMpn4o (e : Eng) (dp cp : BitVec 3) (last : Bool) (s : State) : Host.Outcome State Fault Refusal :=
  .next (s.mac4o e true true (pairD dp) (pairD cp) last)

/-- MPN4C: accumulators taken as 0, products subtracted (R98, R123). -/
def execMpn4c (e : Eng) (ap : Bool) (dp cp : BitVec 3) (last : Bool) (s : State) : Host.Outcome State Fault Refusal :=
  .next (s.mac4c e true true (pairA ap) (pairD dp) (pairD cp) last)

/-- MPN4J: accumulators taken as 0, products subtracted (R98, R123). -/
def execMpn4j (e : Eng) (ap : Bool) (dp cp : BitVec 3) (last : Bool) (s : State) : Host.Outcome State Fault Refusal :=
  .next (s.mac4j e true true (pairA ap) (pairD dp) (pairD cp) last)

/-- CNV: Dd = convert(Aa, sc) (R96). -/
def execCnv (e : Eng) (d : BitVec 4) (a : BitVec 2) (sc : BitVec 5) (last : Bool) (s : State) : Host.Outcome State Fault Refusal :=
  .next (s.issueFly e last [d.toNat] fun g => toConv g d.toNat (g.asv a.toNat) sc.toInt)

/-- CNV2: both accumulators of a pair into a D pair (R96, R123). -/
def execCnv2 (e : Eng) (dp : BitVec 3) (ap : Bool) (sc : BitVec 5) (last : Bool) (s : State) : Host.Outcome State Fault Refusal :=
  .next (s.issueFly e last [pairD dp, pairD dp + 1] fun g =>
    toConv g (pairD dp) (g.asv (pairA ap)) sc.toInt ++ toConv g (pairD dp + 1) (g.asv (pairA ap + 1)) sc.toInt)

/-- ALD: Aa = sign_extend(Dd) x 2^32 (R95). -/
def execAld (e : Eng) (a : BitVec 2) (d : BitVec 4) (last : Bool) (s : State) : Host.Outcome State Fault Refusal :=
  .next (s.issueFly e last [aName a.toNat] fun g => toA a.toNat (accOf (g.dv d.toNat)))

/-- ALDS: Aa takes in addition sign_extend(Dd) x 2^32 (R95). -/
def execAlds (e : Eng) (a : BitVec 2) (d : BitVec 4) (last : Bool) (s : State) : Host.Outcome State Fault Refusal :=
  .next (s.issueFly e last [aName a.toNat] fun g => toA a.toNat (g.av a.toNat + accOf (g.dv d.toNat)))

/-- ALD2: ALD on a pair (R123). -/
def execAld2 (e : Eng) (dp : BitVec 3) (ap : Bool) (last : Bool) (s : State) : Host.Outcome State Fault Refusal :=
  .next (s.issueFly e last [aName (pairA ap), aName (pairA ap + 1)] fun g =>
    toA (pairA ap) (accOf (g.dv (pairD dp))) ++ toA (pairA ap + 1) (accOf (g.dv (pairD dp + 1))))

/-- ALDS2: ALDS on a pair (R123). -/
def execAlds2 (e : Eng) (dp : BitVec 3) (ap : Bool) (last : Bool) (s : State) : Host.Outcome State Fault Refusal :=
  .next (s.issueFly e last [aName (pairA ap), aName (pairA ap + 1)] fun g =>
    toA (pairA ap) (g.av (pairA ap) + accOf (g.dv (pairD dp)))
      ++ toA (pairA ap + 1) (g.av (pairA ap + 1) + accOf (g.dv (pairD dp + 1))))

/-- ALDQ: A0 = A2 from the first, A1 = A3 from the second of a D pair (R123). -/
def execAldq (e : Eng) (dp : BitVec 3) (last : Bool) (s : State) : Host.Outcome State Fault Refusal :=
  .next (s.issueFly e last [aName 0, aName 1, aName 2, aName 3] fun g =>
    let x := accOf (g.dv (pairD dp))
    let y := accOf (g.dv (pairD dp + 1))
    toA 0 x ++ toA 1 y ++ toA 2 x ++ toA 3 y)

/-- AADD: Aa = Aa + Ab, modulo 2^80; Ab as a source (R124). -/
def execAadd (e : Eng) (a b : BitVec 2) (last : Bool) (s : State) : Host.Outcome State Fault Refusal :=
  .next (s.issueFly e last [aName a.toNat] fun g => toA a.toNat (g.av a.toNat + g.asv b.toNat))

/-- ASUB: Aa = Aa - Ab, modulo 2^80 (R124). -/
def execAsub (e : Eng) (a b : BitVec 2) (last : Bool) (s : State) : Host.Outcome State Fault Refusal :=
  .next (s.issueFly e last [aName a.toNat] fun g => toA a.toNat (g.av a.toNat - g.asv b.toNat))

/-- AMOV: Aa = Ab (R124). -/
def execAmov (e : Eng) (a b : BitVec 2) (last : Bool) (s : State) : Host.Outcome State Fault Refusal :=
  .next (s.issueFly e last [aName a.toNat] fun g => toA a.toNat (g.asv b.toNat))

/-- ACLR: Aa = 0 (R123). -/
def execAclr (e : Eng) (a : BitVec 2) (last : Bool) (s : State) : Host.Outcome State Fault Refusal :=
  .next (s.issueFly e last [aName a.toNat] fun _ => toA a.toNat 0)

/-- MVFH: Dd = Aa.h (R92). -/
def execMvfh (e : Eng) (a : BitVec 2) (d : BitVec 4) (last : Bool) (s : State) : Host.Outcome State Fault Refusal :=
  .next (s.issueFly e last [d.toNat] fun g => toD d.toNat ((g.asv a.toNat).extractLsb' 32 32) 1)

/-- MVFL: Dd = Aa.l (R92). -/
def execMvfl (e : Eng) (a : BitVec 2) (d : BitVec 4) (last : Bool) (s : State) : Host.Outcome State Fault Refusal :=
  .next (s.issueFly e last [d.toNat] fun g => toD d.toNat ((g.asv a.toNat).extractLsb' 0 32) 1)

/-- MVFG: Dd = Aa.g, sign-extended (R92). -/
def execMvfg (e : Eng) (a : BitVec 2) (d : BitVec 4) (last : Bool) (s : State) : Host.Outcome State Fault Refusal :=
  .next (s.issueFly e last [d.toNat] fun g => toD d.toNat (((g.asv a.toNat).extractLsb' 64 16).signExtend 32) 1)

/-- The accumulator with one part replaced (R92): h bits 63:32, l bits 31:0, g bits 79:64. -/
def accPart (x : Acc) (lo width : Nat) (v : Word) : Acc :=
  let m : Acc := BitVec.ofNat 80 ((2 ^ width - 1) <<< lo)
  (x &&& ~~~m) ||| ((v.setWidth 80 <<< lo) &&& m)

/-- MVTH: Aa.h = Dd (R92). -/
def execMvth (e : Eng) (a : BitVec 2) (d : BitVec 4) (last : Bool) (s : State) : Host.Outcome State Fault Refusal :=
  .next (s.issueFly e last [aName a.toNat] fun g => toA a.toNat (accPart (g.av a.toNat) 32 32 (g.dv d.toNat)))

/-- MVTL: Aa.l = Dd (R92). -/
def execMvtl (e : Eng) (a : BitVec 2) (d : BitVec 4) (last : Bool) (s : State) : Host.Outcome State Fault Refusal :=
  .next (s.issueFly e last [aName a.toNat] fun g => toA a.toNat (accPart (g.av a.toNat) 0 32 (g.dv d.toNat)))

/-- MVTG: Aa.g = Dd[15:0] (R92). -/
def execMvtg (e : Eng) (a : BitVec 2) (d : BitVec 4) (last : Bool) (s : State) : Host.Outcome State Fault Refusal :=
  .next (s.issueFly e last [aName a.toNat] fun g => toA a.toNat (accPart (g.av a.toNat) 64 16 (g.dv d.toNat)))

end Sys2Proof.Machine
end

