-- ==== Sys2Proof/Machine/FltRegs.lean ====
section
/-!
DEFINITION. The fault collector's registers and the level-2 repairs (R437, R441, R447, R450, R451, R453), and the end of a
condition (R436).
-/

namespace Sys2Proof.Machine

/-! ## Acknowledgement (R437) -/

/-- A write of FLT_ACK_LO: the pair names the sources, and the held FLT_ACK_HI returns to 0. -/
def State.ackLo (s : State) (w : Word) : State :=
  let h : Word := Tbl.get (fun _ => 0) s.whold R.FLT_ACK_HI
  ({ s with whold := Tbl.drop R.FLT_ACK_HI s.whold }).ackMask (w.toNat + h.toNat * 2 ^ 32)

/-- FLT_ACK_LO_WRITE (R437). -/
def execFltAckLoWrite (w : Word) (s : State) : Host.Outcome State Fault Refusal := .next (s.ifCtrl fun s => s.ackLo w)

/-! ## The end of a condition (R436) -/

/-- The source's own block still reports its condition: such a condition ends where that block ends it; VIN outside 4.6 to 17.9 V
(R469), the temperature above its lower threshold (R471). -/
def State.condStands (s : State) (i : Nat) : Bool :=
  (i = 4 && s.flag F.FAB_STATUS_cap_short) || (i = 10 && s.flag F.DDR_STATUS_temp_stale)
    || (i = 22 && (s.pwr.vin < 460 || 1790 < s.pwr.vin)) || (i = 23 && s.tempHi < s.pwr.temp + 5) || (i = 24 && 120 < s.pwr.temp)

/-- The block follows the end of its condition (R279, R314, R469, R471). -/
def State.condGone (s : State) (i : Nat) : State :=
  if i = 12 then (s.setFlag F.CLK_STATUS_osc_ok true).mclkCheck
  else if i = 14 then s.serialBack
  else if i = 22 then s.setFlag F.PWR_STATUS_vin_ok true
  else if i = 23 then s.setFlag F.PWR_STATUS_temp_hi false
  else if i = 24 then s.setFlag F.PWR_STATUS_temp_crit false
  else s

/-- CONDITION_END (R436). -/
def execConditionEnd (i : Fin 64) (s : State) : Host.Outcome State Fault Refusal :=
  .next (if s.condActive i && !s.condStands i then (s.condGone i).condEnd i else s)

/-! ## Local repair (R441) -/

/-- The repair of one occurrence by its data word. -/
def State.repairOne (s : State) (i : Nat) (d : Word) : State :=
  if i = 6 then (if d.toNat < 18 then s.marchRequest d.toNat else s)
  else if i = 15 then (if d.toNat < 4 then s.restartLane (macLane d.toNat) else s)
  else if i = 26 then s.startReload
  else s

/-- The repairs asked for by occurrences of a source are carried out, oldest first. A fence of source 3 is already in force; its
unfence is UNFENCE_REPAIR's, 1 s later. The repair of source 26 waits for firmware (R483). A march waits for the one that runs. -/
def State.repairSource (s : State) (i : Nat) : State :=
  if i = 3 || (i = 26 && s.fwStopped) then s
  else
    let ds := (s.flt.repair.filter fun r => r.1 = i).map (·.2)
    let s := s.setFlt fun f => { f with repair := f.repair.filter fun r => r.1 ≠ i }
    ds.foldl
      (fun s d =>
        if i = 6 && s.sram.march.isSome then s.setFlt fun f => { f with repair := f.repair ++ [(i, d)] } else s.repairOne i d) s

/-- LOCAL_REPAIR (R441). -/
def execLocalRepair (i : Fin 64) (s : State) : Host.Outcome State Fault Refusal :=
  .next (s.ifCtrl fun s => s.repairSource i)

/-! ## Midwinter mode and injection (R450 to R452) -/

/-- MW_UNLOCK (R450): the three words of the JTAG sequence, before the first tick. -/
def execMwUnlock (w1 w2 w3 : Word) (s : State) : Host.Outcome State Fault Refusal :=
  .next (s.ifCtrl fun s =>
    if s.testMode && !s.clk.ranTick && w1 = 0xD1CE#32 && w2 = s.moduleId.setWidth 32 && w3 = 0xEC1#32 then
      s.setFlag F.FLT_MODE_midwinter true
    else s)

/-- A write of FLT_INJ_CTRL: ignored outside Midwinter mode. Sources 28 to 62 never raise, and source 63 is always C0 (R434). -/
def State.inject (s : State) (w : Word) : State :=
  if s.flag F.FLT_MODE_midwinter then
    let s := s.put R.FLT_INJ_CTRL (w &&& 0x323F#32)
    let i := s.fld F.FLT_INJ_CTRL_source
    if w.getLsbD 8 && (i < 28 || i = 63) then
      let c := if i = 63 then 0 else s.fld F.FLT_INJ_CTRL_class
      s.raiseOcc { src := i, data := s.reg R.FLT_INJ_DATA, cls := some c, inj := true, dry := s.flag F.FLT_INJ_CTRL_dry_run }
    else s
  else s

/-- FAULT_INJECT (R451). -/
def execFaultInject (w : Word) (s : State) : Host.Outcome State Fault Refusal := .next (s.ifCtrl fun s => s.inject w)

/-! ## The log (R447) -/

/-- The selected word of the selected log entry. -/
def State.logWord (s : State) : Word :=
  let e := Tbl.get (fun _ => []) s.flt.log (s.fld F.FLT_LOG_IDX_entry)
  word (leAt e (4 * s.fld F.FLT_LOG_IDX_word) 4)

/-- A read of FLT_LOG_DATA: the word advances, and the entry after word 7. -/
def State.readLog (s : State) : State :=
  let v := s.logWord
  let k := s.fld F.FLT_LOG_IDX_word
  let s := { s.setFld F.FLT_LOG_IDX_word (k + 1) with lastRead := v }
  if k = 7 then s.setFld F.FLT_LOG_IDX_entry (s.fld F.FLT_LOG_IDX_entry + 1) else s

/-- FLT_LOG_DATA_READ (R447). -/
def execFltLogDataRead (s : State) : Host.Outcome State Fault Refusal := .next (if s.domOn 1 then s.readLog else { s with lastRead := 0 })

/-- DEBUG_ATTACH (R453). -/
def execDebugAttach (s : State) : Host.Outcome State Fault Refusal :=
  .next (s.ifCtrl fun s => (s.count R.FLT_DBG_ATTACH_CNT).raise 63 0)

end Sys2Proof.Machine
end

