-- ==== Sys2Proof/Machine/GraphLoad.lean ====
section
/-!
DEFINITION. Loading a graph (R40 to R54, R140): reading the image, the load checks in the order of R52, the throughput and
critical-path checks, and what an accepted load does.
-/

namespace Sys2Proof.Machine

/-! ## The image (R41 to R47) -/

/-- The header's fields and the image they stand in (R41). -/
structure Image where
  bytes : List Byte
  /-- image_size. -/
  size : Nat
  reserve : Nat
  phases : Nat
  tasks : Nat
  bundles : Nat
  taskOff : Nat
  phaseOff : Nat
  codeOff : Nat
  listOff : Nat
  listSize : Nat
  stateOff : Nat
  stateBase : Nat
  stateSize : Nat
deriving DecidableEq, Repr

/-- The image that bytes spell. -/
def imageOf (b : List Byte) : Image :=
  { bytes := b, size := leAt b 12 4, reserve := leAt b 18 1, phases := leAt b 19 1, tasks := leAt b 20 2,
    bundles := leAt b 22 2, taskOff := leAt b 24 4, phaseOff := leAt b 28 4, codeOff := leAt b 32 4, listOff := leAt b 36 4,
    listSize := leAt b 40 4, stateOff := leAt b 44 4, stateBase := leAt b 48 4, stateSize := leAt b 52 4 }

/-- A task descriptor's bytes. -/
def Image.taskBytes (g : Image) (i : Nat) : List Byte := slice g.bytes (g.taskOff + 32 * i) 32

/-- A phase entry's bytes. -/
def Image.phaseBytes (g : Image) (p : Nat) : List Byte := slice g.bytes (g.phaseOff + 8 * p) 8

/-- The slot-list area. -/
def Image.lists (g : Image) : List Byte := slice g.bytes g.listOff g.listSize

/-- The slots of the list at an offset of the slot-list area, none where there is no list (R47). -/
def Image.slots (g : Image) (o : Nat) : List Nat :=
  if o = 0xFFFFFFFF then []
  else (List.range (leAt g.lists o 2)).map fun k => leAt g.lists (o + 4 + 2 * k) 2

/-- The task that a descriptor spells (R46). -/
def Image.task (g : Image) (i : Nat) : Task :=
  let b := g.taskBytes i
  { phase := leAt b 2 1 % 64, qos := leAt b 3 1 % 16, restart := (leAt b 3 1).testBit 4, repeatPrev := (leAt b 3 1).testBit 5,
    affinity := leAt b 4 1, code := leAt b 6 2, stateIn := leAt b 8 4, stateOut := leAt b 12 4,
    ins := g.slots (leAt b 16 4), outs := g.slots (leAt b 20 4), budget := leAt b 24 4 % 2 ^ 20, stateLen := leAt b 28 2 }

/-- The phase that an entry spells (R44). -/
def Image.phase (g : Image) (p : Nat) : Phase :=
  let b := g.phaseBytes p
  { first := leAt b 0 2, count := leAt b 2 2, stages := leAt b 4 1 }

/-- The tasks. -/
def Image.taskList (g : Image) : List Task := (List.range g.tasks).map g.task

/-- The phases. -/
def Image.phaseList (g : Image) : List Phase := (List.range g.phases).map g.phase

/-- The graph of the image. -/
def Image.graph (g : Image) : Graph :=
  { id := leAt g.bytes 8 4, fsSel := leAt g.bytes 16 1, tSel := leAt g.bytes 17 1, reserve := g.reserve,
    phases := g.phaseList, tasks := g.taskList, code := slice g.bytes g.codeOff (8 * g.bundles),
    stateBase := g.stateBase, stateSize := g.stateSize }

/-! ## The checks (R52) -/

/-- 0x01: magic, version, header_size. -/
def Image.magicOk (g : Image) : Bool :=
  leAt g.bytes 0 4 = 0x4B584731 && leAt g.bytes 4 2 = 1 && leAt g.bytes 6 2 = 64

/-- 0x02: the CRC with its own field taken as 0, and every offset and size within image_size. -/
def Image.crcOk (g : Image) : Bool :=
  64 ≤ g.size && (crc32 (slice g.bytes 0 60 ++ [0, 0, 0, 0] ++ g.bytes.drop 64)).toNat = leAt g.bytes 60 4
    && g.taskOff + 32 * g.tasks ≤ g.size && g.phaseOff + 8 * g.phases ≤ g.size && g.codeOff + 8 * g.bundles ≤ g.size
    && g.listOff + g.listSize ≤ g.size && g.stateOff + g.stateSize ≤ g.size

/-- R41: the header's ranges and alignments; without a state region state_base is not checked (R52). -/
def Image.headerOk (g : Image) : Bool :=
  g.reserve ≤ 48 && (1 ≤ g.phases && g.phases ≤ 64) && (1 ≤ g.tasks && g.tasks ≤ 16384)
    && (1 ≤ g.bundles && g.bundles ≤ 4096) && g.taskOff % 32 = 0 && g.phaseOff % 8 = 0 && g.codeOff % 8 = 0
    && g.listOff % 4 = 0 && g.listSize ≤ 0x100000 
    && (g.stateSize = 0 || g.stateBase % 64 = 0) && g.stateSize % 64 = 0

/-- R44: a phase entry's count and reserved bits. -/
def Image.phaseOk (g : Image) (p : Nat) : Bool :=
  let b := g.phaseBytes p
  leAt b 2 2 ≤ 16384 && leAt b 4 1 < 8 && leAt b 5 3 = 0

/-- R47: the slot list at an offset. -/
def Image.listOk (g : Image) (nslots o : Nat) : Bool :=
  o = 0xFFFFFFFF
    || (o + 4 ≤ g.listSize
      && (let n := leAt g.lists o 2
          1 ≤ n && n ≤ 256 && leAt g.lists (o + 2) 2 = 0 && o + 4 + 2 * n ≤ g.listSize)
      && (g.slots o).all (· < nslots) && decide (g.slots o).Nodup)

/-- R46, R47: a task descriptor's fields and lists. -/
def Image.taskOk (g : Image) (nslots i : Nat) : Bool :=
  let b := g.taskBytes i
  leAt b 0 2 < 2 ^ 14 && leAt b 2 1 < 64 && leAt b 3 1 < 64 && (leAt b 4 1 < 96 || leAt b 4 1 = 0xFF) && leAt b 5 1 = 0
    && leAt b 6 2 < 4096 && leAt b 8 4 % 64 = 0 && leAt b 12 4 % 64 = 0 && (1 ≤ leAt b 24 4 && leAt b 24 4 ≤ 800000)
    && leAt b 28 2 ≤ 2048 && leAt b 30 2 = 0 && g.listOk nslots (leAt b 16 4) && g.listOk nslots (leAt b 20 4)

/-- 0x04: counts, fields, slot lists and reserved fields. -/
def Image.fieldsOk (g : Image) (nslots : Nat) : Bool :=
  g.headerOk && (List.range g.phases).all g.phaseOk && (List.range g.tasks).all (g.taskOk nslots)

/-- R45: the entries with tasks follow each other from task `n` on, and their tasks name their phase. -/
def phasesOk (ts : List Task) : Nat → Nat → List Phase → Bool
  | n, _, [] => n = ts.length
  | n, p, e :: es =>
    if e.count = 0 then phasesOk ts n (p + 1) es
    else e.first = n && ((ts.drop n).take e.count).all (·.phase = p) && phasesOk ts (n + e.count) (p + 1) es

/-- 0x06: the phase table and the order of the tasks (R45). -/
def Image.orderOk (g : Image) : Bool :=
  (List.range g.tasks).all (fun i => leAt (g.taskBytes i) 0 2 = i) && phasesOk g.taskList 0 0 g.phaseList

/-- A fixed-block object or an input source writes a slot (R48, R140). -/
def State.claimed (s : State) (x : Nat) : Bool :=
  s.isInput x || s.mix.route.any (fun e => (e.2.claims && e.2.e.dst = x) || (e.2.tab.enable && e.2.tab.dst = x))
    || s.mix.bus.any (fun e => e.2.enable && e.2.out = x) || s.mix.dyn.any (fun e => e.2.e.enable && e.2.e.out = x)

/-- 0x07: one writer a slot (R48, R140). -/
def State.writersOk (s : State) (ts : List Task) : Bool :=
  decide (ts.flatMap (·.outs)).Nodup && (ts.flatMap (·.outs)).all fun x => !s.claimed x

/-- The state buffers: offset, size. -/
def buffers (ts : List Task) : List (Nat × Nat) :=
  ts.flatMap fun t => if t.stateLen = 0 then [] else [(t.stateIn, t.stateLen * 64), (t.stateOut, t.stateLen * 64)]

/-- Two buffers do not overlap. -/
def apart (a b : Nat × Nat) : Bool := a.1 + a.2 ≤ b.1 || b.1 + b.2 ≤ a.1

/-- 0x08: the state region and the state buffers. -/
def Image.stateOk (g : Image) : Bool :=
  let bs := buffers g.taskList
  (g.stateSize = 0 || (0x600000 ≤ g.stateBase && g.stateBase + g.stateSize ≤ 0x1000000))
    && bs.all (fun b => g.stateBase ≤ b.1 && b.1 + b.2 ≤ g.stateBase + g.stateSize)
    && decide (bs.Pairwise fun a b => apart a b = true)

/-- Non-empty phases (R53). -/
def Image.barriers (g : Image) : Nat := (g.phaseList.filter fun p => p.count ≠ 0).length

/-- W = 0.9 x B (R53, R64). -/
def State.watermark (s : State) : Nat := s.budget * 9 / 10

/-- 0x09: the throughput check (R54). -/
def State.throughputOk (s : State) (g : Image) : Bool :=
  let avail : Int := (s.activeCount : Int) - g.reserve
  let work : Nat := (g.taskList.map fun t => t.budget + 40).sum
  (work : Int) ≤ avail * ((s.watermark : Int) - 200 * g.barriers)

/-- The longest task of a phase with its dispatch. -/
def longest (ts : List Task) (p : Phase) : Nat :=
  (((ts.drop p.first).take p.count).map fun t => t.budget + 40).foldl max 0

/-- 0x0A: the critical-path check (R54). -/
def State.criticalOk (s : State) (g : Image) : Bool :=
  let ts := g.taskList
  ((g.phaseList.filter fun p => p.count ≠ 0).map (longest ts)).sum + 200 * g.barriers ≤ s.watermark

/-- 0x0D: budget_total. -/
def Image.budgetOk (g : Image) : Bool := leAt g.bytes 56 4 = (g.taskList.map (·.budget)).sum

/-- The code of the first check that fails, in the order of R52. -/
def State.imageErr (s : State) (g : Image) : Option Nat :=
  if !g.magicOk then some 0x01
  else if !g.crcOk then some 0x02
  else if leAt g.bytes 16 1 ≠ s.fld F.TCK_CFG_fs_sel || leAt g.bytes 17 1 ≠ s.fld F.TCK_CFG_t_sel then some 0x03
  else if !g.fieldsOk s.nslots then some 0x04
  else if !(g.taskList.all fun t => t.code < g.bundles) then some 0x05
  else if !g.orderOk then some 0x06
  else if !s.writersOk g.taskList then some 0x07
  else if !g.stateOk then some 0x08
  else if !s.throughputOk g then some 0x09
  else if !s.criticalOk g then some 0x0A
  else if !(g.reserve < s.activeCount) then some 0x0B
  else if !g.budgetOk then some 0x0D
  else none

/-! ## The load (R43, R52, R53) -/

/-- A refused load (R52). -/
def State.loadRefused (s : State) (code : Nat) : State :=
  (s.setFlag F.FAB_STATUS_load_err true).setFld F.FAB_STATUS_load_err_code code

/-- An engine whose cluster is off counts as fenced (R39). It gets no code at a load, so that from the load on it is fenced: it
comes back by an unfence, which brings the code (R43, R77; DEDUCED, log 47). -/
def State.fenceOff (s : State) : State :=
  ((List.range 96).filter fun e => !s.domOn (3 + e / 8)).foldl (fun s e => s.putActive e false) s

/-- An accepted load: code into every active engine, state into the state region, the reserve recorded. -/
def State.loadGraph (s : State) (g : Image) : State :=
  let s := s.fenceOff
  let s := { s with fab := { s.fab with
    graph := some g.graph, stat := [], phase := none, stages := 0, done := false, cur := [], com := [], comOld := none,
    deque := [], backlog := [], rr := [], steal := [], cut := [] } }
  let s := ((List.range 96).filter s.active).foldl State.loadCode s
  let s := s.putBytes (tickStore + g.stateBase) (slice g.bytes g.stateOff g.stateSize)
  let s := (s.setFlag F.FAB_STATUS_loaded true).put R.FAB_GRAPH_ID (word g.graph.id)
  ((s.setFld F.FAB_RESERVE_reserve g.reserve).setFld F.FAB_RESERVE_e_avail (s.activeCount - g.reserve)).capacityCheck

/-- GRAPH_LOAD: the tick must be stopped, before anything is read (R40, R52). The header, and then the size that it gives, must
lie in DRAM below HIF_DRAM_LIMIT (R356, R412); the header's magic is checked before its size counts. -/
def State.graphCmd (s : State) (a : Nat) : State × Nat × Nat :=
  let h := imageOf (s.bytes a 64)
  if s.ticking then (s.loadRefused 0x0C, stLoadErr, 0x0C)
  else if !s.copyRange a 64 then (s, stBadAddr, 0)
  else if !h.magicOk then (s.loadRefused 0x01, stLoadErr, 0x01)
  else if !s.copyRange a (max 64 h.size) then (s, stBadAddr, 0)
  else
    let g := imageOf (s.bytes a (max 64 h.size))
    match s.imageErr g with
    | some e => (s.loadRefused e, stLoadErr, e)
    | none => (s.loadGraph g, stOk, 0)

/-- GRAPH_LOAD (R52): a load that may read its image waits for the DRAM target (R430). -/
def execGraphLoad (c : HostCmd) (s : State) : Host.Outcome State Fault Refusal :=
  .next (if untimedOk c 0x0010 && !s.ticking && s.copyRange (cmdArg c 0 8) 64 && !s.dramReady then s.holdCopy c
    else s.untimed c 0x0010 fun s => s.graphCmd (cmdArg c 0 8))

end Sys2Proof.Machine
end

