-- ==== Sys2Proof/Machine/RegIo.lean ====
section
/-!
DEFINITION. Register writes and reads in general (R9, R10, R36, R37): what a write of any register does, by the rules of its
own chapter, and what a read of any register returns, with the captures and the clears of the read.
-/

namespace Sys2Proof.Machine

/-- The index of an offset in an array of registers. -/
def arr (base stride count o : Nat) : Option Nat :=
  if base ≤ o && (o - base) % stride = 0 && (o - base) / stride < count then some ((o - base) / stride) else none

/-! ## TCK_CFG and TCK_CTRL (R15, R20, R21, R517) -/

/-- Every field of a TCK_CFG word is in range, with the T that the word itself selects (R15). -/
def tckOk (w : Word) : Bool :=
  bitsOf w 1 0 ≠ 3 && 1 ≤ bitsOf w 12 8 && bitsOf w 12 8 ≤ 16 && bitsOf w 24 16 ≤ 8 * tSamples (bitsOf w 3 2)

/-- A write of TCK_CFG (R15): ignored as a whole with cfg_err, or taken; where fs or T changes, TICK_NUM is renumbered (R517). -/
def State.tckCfg (s : State) (w : Word) : State :=
  if s.ticking || !tckOk w then s.setFlag F.TCK_STATUS_cfg_err true
  else
    let u := s.timeU
    let old := bitsOf (s.reg R.TCK_CFG) 3 0
    let s := s.put R.TCK_CFG (w &&& 0x1FF1F0F#32)
    if old = bitsOf w 3 0 then s else ((s.setGridU u).followBw).strCounts

/-- Setting TCK_CTRL.run (R20): armed for TCK_START as it stands now, unless the tick is started already. R20 does not say which
value of TCK_START counts where it is written again before the start: the model takes the one at this write, and after a stop
that is still under way the one at its end (DESIGN CHOICE, log entry 19). -/
def State.runSet (s : State) : State :=
  let s := s.setFlag F.TCK_CTRL_run true
  match s.run with
  | .stopped => { s with run := .armed (s.pair R.TCK_START_LO R.TCK_START_HI) false }
  | _ => s

/-- Clearing TCK_CTRL.run (R21): the tick in progress completes and commits; an armed start is off. -/
def State.runClear (s : State) : State :=
  let s := s.setFlag F.TCK_CTRL_run false
  match s.run with
  | .armed _ _ => { s with run := .stopped }
  | .running => { s with run := .stopping }
  | _ => s

/-! ## Writes -/

/-- A write by the field types alone (R9): rw bits take the word, w1c bits written 1 clear unless the hardware sets them in the
same clock cycle (R11); unlisted offsets are ignored (R10). -/
def State.writeGen (s : State) (o : Nat) (w : Word) : State :=
  match findReg o with
  | none => s
  | some (r, _, _) => s.put o (((s.reg o &&& ~~~r.rw) ||| (w &&& r.rw)) &&& ~~~(w &&& r.w1c &&& ~~~s.setNow o))

/-- A write in the SYS, PWR and RTC blocks (chapters 9 and 17). -/
def State.writeSys (s : State) (src : ReqSource) (o : Nat) (w : Word) : State :=
  if o = R.SYS_CTRL then s.sysCtrl w
  else if o = R.SYS_BOOT_CTRL then s.bootCtrl w
  else if o = R.SYS_FW_CTRL then (if w.getLsbD 0 then s.startReload else s)
  else if o = R.SYS_WDT_KICK then s.wdtKick (bitsOf w 0 0)
  else if o = R.PWR_DOM_REQ then s.pwrReq src w
  else if o = R.RTC_CTRL then s.rtcCtrl w
  else if o = R.RTC_SVC_HOURS then s.svcHours w
  else s.writeGen o w

/-- A write in the FLT and TCK blocks (chapters 1 and 15). -/
def State.writeFltTck (s : State) (o : Nat) (w : Word) : State :=
  if o = R.FLT_ACK_LO then s.ackLo w
  else if o = R.FLT_ACK_HI then s.holdHi R.FLT_ACK_HI w
  else if o = R.FLT_INJ_CTRL then s.inject w
  else if o = R.FLT_INJ_DATA then (if s.flag F.FLT_MODE_midwinter then s.put o w else s)
  else if o = R.TCK_CTRL then (if w.getLsbD 0 then s.runSet else s.runClear)
  else if o = R.TCK_CFG then s.tckCfg w
  else if o = R.TCK_START_HI then s.holdHi R.TCK_START_HI w
  else if o = R.TCK_START_LO then s.putLo R.TCK_START_LO R.TCK_START_HI w
  else (s.holdClass o).writeGen o w

/-- A register of the delay region (R150): written only while the tick is stopped. -/
def State.writeDly (s : State) (o : Nat) (w : Word) : State :=
  let len := bitsOf w 17 0
  if s.ticking || (o = R.RTE_DLY_LEN && (len % 32 ≠ 0 || len < 64 || 192032 < len)) then s.setFlag F.RTE_STATUS_dly_cfg_err true
  else s.writeGen o w

/-- A write in the FAB, ENG, MIX, DYN and RTE blocks (chapters 2, 3 and 5). -/
def State.writeFab (s : State) (o : Nat) (w : Word) : State :=
  if o = R.FAB_CTRL then
    let s := s.writeGen o w
    if w.getLsbD 2 then s.unloadGraph else s
  else if o = R.RTE_DLY_BASE_LO || o = R.RTE_DLY_BASE_HI || o = R.RTE_DLY_LEN || o = R.RTE_DLY_COUNT then s.writeDly o w
  else
    match arr (R.FAB_FENCE 0) 4 3 o, arr (R.FAB_UNFENCE 0) 4 3 o, arr (R.ENG_MBOX_IN 0) 0x1000 96 o with
    | some j, _, _ => s.forBits j w State.requestFence
    | _, some j, _ => s.forBits j w State.requestUnfence
    | _, _, some e => s.mboxIn e w
    | _, _, _ => s.writeGen o w

/-- A write of TWN_CTRL: any of own_req = 0 outside a handover releases OWN (R222); one of pair_en = 0 ends the pair (R224). -/
def State.writeTwn (s : State) (o : Nat) (w : Word) : State :=
  if o = R.TWN_CTRL then
    let pair := s.flag F.TWN_CTRL_pair_en
    let s := s.writeGen o w
    let s := if w.getLsbD 1 then s else s.clearOwnReq
    if pair && !w.getLsbD 0 then s.goSolo else s
  else if o = R.TWN_HO_CTRL then
    (if w.getLsbD 0 then s.askHandover (s.pair R.TWN_HO_TICK_LO R.TWN_HO_TICK_HI) else s)
  else s.writeGen o w

/-- A write in the MOD, SNS and TDM blocks (chapters 8 and 12). -/
def State.writeMod (s : State) (o : Nat) (w : Word) : State :=
  if o = R.MOD_FSW then s.writeFsw w
  else if o = R.MOD_DITHER then s.writeDither w
  else if o = R.MOD_APPLY_HI then s.holdHi R.MOD_APPLY_HI w
  else if o = R.MOD_APPLY_LO then s.armMod w
  else if o = R.SNS_CLK_CFG then s.writeSnsClk w
  else if o = R.TDM_APPLY_HI then s.holdHi R.TDM_APPLY_HI w
  else if o = R.TDM_APPLY_LO then s.armTdm w
  else
    match arr (R.MOD_CH_CTRL 0) 0x20 32 o, arr (R.SNS_CH_ZCFG 0) 0x80 32 o with
    | some c, _ => if w.getLsbD 0 then s.clrCh c else s
    | _, some c =>
      let s := s.writeGen o w
      if w.getLsbD 12 then s.learnStart c else s
    | _, _ => s.writeGen o w

/-- A write of TIM_CFG (R304): the format changes only while the tick is stopped; the tick grid follows the time. -/
def State.writeTimCfg (s : State) (w : Word) : State :=
  let fmt := bitsOf (s.reg R.TIM_CFG) 0 0
  if bitsOf w 0 0 = fmt then s.writeGen R.TIM_CFG w
  else if s.ticking then s.writeGen R.TIM_CFG (setBits w 0 0 fmt)
  else
    let s := s.writeGen R.TIM_CFG w
    if s.isFree then s.setGridU s.timeU else { s with clk := { s.clk with frac := 0 } }

/-- A write in the CLK and TIM blocks (chapter 9). -/
def State.writeClk (s : State) (o : Nat) (w : Word) : State :=
  if o = R.CLK_CTRL then
    (s.writeGen o w).clkCtrl s.network w
  else if o = R.CLK_DCO_STEER then (s.writeGen o w).steer
  else if o = R.CLK_HO_CTRL then
    let s := s.writeGen o w
    if w.getLsbD 0 then s.holdoverLoad else s
  else if o = R.TIM_CFG then s.writeTimCfg w
  else if o = R.TIM_ADJ_CTRL then (if w.getLsbD 0 then s.adjCommit else s)
  else if o = R.TIM_SET_CTRL then (if w.getLsbD 0 then s.timSet else s)
  else
    match arr (R.CLK_REF_CFG 0) 4 7 o, arr (R.TIM_TMR_CTRL 0) 0x20 8 o with
    | some n, _ => (((((s.writeGen o w).refOff n).refStatus n).ref6).reselect).followBw
    | _, some k => s.armTimer k w
    | _, _ => s.writeGen o w

/-- A write of SDS_TX_EQ (R503): where pre and post exceed 32 together, post is taken as 32 - pre. -/
def State.sdsTxEq (s : State) (l : Nat) (w : Word) : State :=
  s.put (R.SDS_TX_EQ l) (setBits (w &&& 0x3F1F0F#32) 12 8 (min (bitsOf w 12 8) (32 - bitsOf w 3 0)))

/-- A write in the MAC and SDS blocks (chapter 10). -/
def State.writeNet (s : State) (o : Nat) (w : Word) : State :=
  match arr (R.MAC_CTRL 0) 0x10000 4 o, arr (R.MAC_CFG 0) 0x10000 4 o, arr (R.MAC_ADDR_LO 0) 0x10000 4 o,
    arr (R.MAC_ADDR_HI 0) 0x10000 4 o with
  | some n, _, _, _ => s.macCtrl n w
  | _, some n, _, _ => s.macCfg n w
  | _, _, some n, _ => s.putLo (R.MAC_ADDR_LO n) (R.MAC_ADDR_HI n) w
  | _, _, _, some n => s.holdHi (R.MAC_ADDR_HI n) (w &&& 0xFFFF#32)
  | _, _, _, _ =>
    match arr (R.SDS_CTRL 0) 0x1000 8 o, arr (R.SDS_PRBS_CTRL 0) 0x1000 8 o, arr (R.MAC_EEE 0) 0x10000 3 o,
      arr (R.MAC_EEE_IDLE 0) 0x10000 3 o, arr (R.SDS_TX_EQ 0) 0x1000 8 o with
    | some l, _, _, _, _ => s.sdsCtrl l w
    | _, some l, _, _, _ => s.sdsPrbs l w
    | _, _, some _, _, _ => s
    | _, _, _, some _, _ => s
    | _, _, _, _, some l => s.sdsTxEq l w
    | _, _, _, _, _ => s.writeGen o w

/-- A write of a word of the MSI-X table (R341): a vector unmasked with its pending bit set is sent. -/
def State.writeMsix (s : State) (i : Nat) (w : Word) : State :=
  let w := if i % 4 = 3 then w &&& 1#32 else if i % 4 = 0 then w &&& 0xFFFFFFFC#32 else w
  (s.setHif fun h => { h with msix := Tbl.set (fun k => if k % 4 = 3 then 1 else 0) h.msix i w }).msixGo

/-- A write in the HIF block (chapter 11). -/
def State.writeHif (s : State) (o : Nat) (w : Word) : State :=
  if o = R.HIF_DB_ADDR_HI || o = R.HIF_SH_ADDR_HI then s.holdHi o w
  else if o = R.HIF_DB_ADDR_LO || o = R.HIF_SH_ADDR_LO then s.putLo o (o + 4) w
  else if within o 0x800100 0xC0 then
    let r := (o - 0x800100) / 16
    let k := (o - 0x800100) % 16
    if k = 12 then s.ringCtrl r w else s.ringCfg r (k / 4) w
  else
    match arr 0x801000 4 128 o with
    | some i => s.writeMsix i w
    | none => s.writeGen o w

/-- A write in the MEM, DDR and TWI blocks (chapters 13, 14 and 16). -/
def State.writeMem (s : State) (o : Nat) (w : Word) : State :=
  if o = R.MEM_MARCH_CTRL then s.marchCtrl w
  else if o = R.DDR_CTRL then
    let s := if w.getLsbD 0 then s.startClear else s
    let s := if w.getLsbD 1 then s.selfRefresh else s
    if w.getLsbD 2 then s.leaveSelfRefresh else s
  else if o = R.DDR_CFG then s.ddrCfg w
  else if o = R.DDR_TEMP then s.ddrTemp w
  else if o = R.DDR_TRN_CTRL then s.trnCtrl w
  else
    match arr (R.TWI_C_CFG 0) 0x100 3 o with
    | some n => s.twiCfg n w
    | none => s.writeGen o w

/-- A write of a register whose block answers. -/
def State.writeIn (s : State) (src : ReqSource) (o : Nat) (w : Word) : State :=
  if o < 0x30000 then s.writeSys src o w
  else if o < 0x100000 then s.writeFltTck o w
  else if o < 0x400000 then s.writeFab o w
  else if o < 0x480000 then s.writeGen o w
  else if o < 0x500000 then s.writeTwn o w
  else if o < 0x600000 then s.writeMod o w
  else if o < 0x700000 then s.writeClk o w
  else if o < 0x800000 then s.writeNet o w
  else if o < 0x900000 then s.writeHif o w
  else if o < 0xA00000 then s.writeMod o w
  else if o < 0xD00000 then s.writeMem o w
  else s

/-- The block of an offset answers: its domain is on and not switching (R474). -/
def State.answers (s : State) (o : Nat) : Bool :=
  match domainOf o with
  | some d => s.domOn d && !s.domBusy d
  | none => false

/-- A write of a register (R9, R10, R474): a block that is off, and an offset that no block lists, ignore it. -/
def State.writeReg (s : State) (src : ReqSource) (o : Nat) (w : Word) : State :=
  if s.answers o then s.writeIn src o w else s

/-! ## Reads -/

/-- The words that a read captures (R36, R181, R247, R312, R337, chapters 10, 11, 13 to 15, 17). -/
def captures : List (Nat × List Nat) :=
  [(R.SYS_ID_LO, [R.SYS_ID_HI]), (R.RTC_SEC_LO, [R.RTC_SEC_HI, R.RTC_DATE, R.RTC_TIME]),
   (R.FLT_STATUS_LO, [R.FLT_STATUS_HI]), (R.FLT_UNACK_LO, [R.FLT_UNACK_HI]), (R.FLT_ACTIVE_LO, [R.FLT_ACTIVE_HI]),
   (R.FLT_INJ_TAG_LO, [R.FLT_INJ_TAG_HI]), (R.FLT_REAL_LO, [R.FLT_REAL_HI]), (R.TCK_NUM_LO, [R.TCK_NUM_HI]),
   (R.FAB_OVR_TICK_LO, [R.FAB_OVR_TICK_HI]), (R.MIX_PSET_LAST_LO, [R.MIX_PSET_LAST_HI])]
  ++ [(R.TWN_HO_TICK_LO, [R.TWN_HO_TICK_HI]),
   (R.TWN_DIG_TICK_LO, [R.TWN_DIG_TICK_HI, R.TWN_DIG_LO, R.TWN_DIG_HI, R.TWN_PDIG_LO, R.TWN_PDIG_HI]),
   (R.TWN_PARTNER_ID_LO, [R.TWN_PARTNER_ID_HI]), (R.TIM_NOW_NS, [R.TIM_NOW_S_LO, R.TIM_NOW_S_HI]),
   (R.TIM_FREE_LO, [R.TIM_FREE_HI]), (R.TIM_PPSIN_NS, [R.TIM_PPSIN_S_LO, R.TIM_PPSIN_S_HI])]
  ++ [(R.HIF_DB_ADDR_LO, [R.HIF_DB_ADDR_HI]), (R.HIF_SH_ADDR_LO, [R.HIF_SH_ADDR_HI]),
   (R.HIF_DMA_ERR_ADDR_LO, [R.HIF_DMA_ERR_ADDR_HI]), (R.XBR_DERR_ADDR_LO, [R.XBR_DERR_ADDR_HI, R.XBR_DERR_INFO]),
   (R.MEM_ECC_ADDR_LO, [R.MEM_ECC_ADDR_HI, R.MEM_ECC_INFO]), (R.DDR_ECC_ADDR_LO, [R.DDR_ECC_ADDR_HI, R.DDR_ECC_INFO])]
  ++ (List.range 12).map (fun r => (R.HIF_RING_BASE_LO r, [R.HIF_RING_BASE_HI r]))
  ++ (List.range 4).map (fun n => (R.MAC_ADDR_LO n, [R.MAC_ADDR_HI n]))

/-- The companions of an offset. -/
def companions (o : Nat) : List Nat := ((captures.find? fun e => e.1 = o).map (·.2)).getD []

/-- The offset is a companion: a read returns its holding register (R36). -/
def isCompanion (o : Nat) : Bool := captures.any fun e => e.2.contains o

/-- What a holding register resets to: 0 (R36), but RTC_DATE as its table says. -/
def holdReset (o : Nat) : Word := if o = R.RTC_DATE then resetWord o else 0

/-- A holding register. -/
def State.holdWord (s : State) (o : Nat) : Word := Tbl.get holdReset s.hold o

/-- A word of bits from a list of engine numbers, for register j. -/
def engBits (es : List Nat) (j : Nat) : Word :=
  word ((es.filter fun e => e / 32 = j).foldl (fun n e => n ||| 2 ^ (e % 32)) 0)

/-- FAB_ACTIVE, register j, now: an engine that is off is not active (R39). -/
def State.fabActive (s : State) (j : Nat) : Word := engBits ((List.range 96).filter s.active) j

/-- ENG_STATUS.state's code; 4 for a fenced engine. -/
def State.engState (s : State) (e : Nat) : Nat :=
  if !s.active e then 4
  else match (s.engine e).st with
    | .idle => 0
    | .prefetch => 1
    | .running => 2
    | .writeback => 3

/-- ENG_STATUS now. -/
def State.engStatus (s : State) (e : Nat) : Word :=
  let g := s.engine e
  word (s.engState e + bit (g.es.getLsbD 19) * 8 + g.task.getD 0 % 2 ^ 14 * 2 ^ 8)

/-- ENG_PC now. -/
def State.engPc (s : State) (e : Nat) : Word :=
  let g := s.engine e
  word (g.pc % 4096 + bit (g.st = .running) * 2 ^ 31)

/-- TCK_POS now (R16): the sample period within the tick, and the position in it in 1/256. -/
def State.tckPos (s : State) : Word :=
  let u := s.clk.tickPos * s.tickU / s.tickLen
  word (min (u / s.sampU) (s.T - 1) + u % s.sampU * 256 / s.sampU * 256)

/-- TWI_TGT_STATUS now: the address in use (R454), and whether an access is pending (R460). -/
def State.tgtStatus (s : State) : Word :=
  setBits (setBits (s.reg R.TWI_TGT_STATUS) 6 0 (0x3A + s.twiAddr.toNat)) 8 8 (bit (!s.tgt.writes.isEmpty || s.tgt.read.isSome))

/-- A word of a stream context's window (R213). -/
def State.ctxWord (s : State) (o : Nat) : Option Word :=
  if within o 0x440000 0x20000 then some (word (leAt (s.rx ((o - 0x440000) / 256)).ctx ((o - 0x440000) % 256) 4))
  else if within o 0x460000 0x20000 then some (word (leAt (s.tx ((o - 0x460000) / 256)) ((o - 0x460000) % 256) 4))
  else none

/-- Live words of the SYS, RTC and TCK blocks. -/
def State.liveSys (s : State) (o : Nat) : Word :=
  if o = R.SYS_ID_LO then s.moduleId.setWidth 32
  else if o = R.SYS_ID_HI then (s.moduleId >>> 32).setWidth 32
  else if o = R.SYS_STRAPS then word (bit s.pref + 2 * s.twiAddr.toNat + 8 * bit s.testMode)
  else if o = R.SYS_BOOT_WAIT then word s.bootWaitLeft
  else if o = R.SYS_FW_STATUS then setBits (s.reg o) 15 8 s.reloadLeft
  else if o = R.RTC_SEC_LO then word s.rtcSec
  else if o = R.RTC_SEC_HI then word (s.rtcSec / 2 ^ 32)
  else if o = R.RTC_DATE then rtcDate s.rtcSec
  else if o = R.RTC_TIME then rtcTime s.rtcSec
  else if o = R.RTC_SVC_SEC then word (s.clk.svcU / secU % 3600)
  else if o = R.TCK_NUM_LO then word s.tickNum
  else if o = R.TCK_NUM_HI then word (s.tickNum / 2 ^ 32)
  else if o = R.TCK_POS then s.tckPos
  else if o = R.TCK_BUDGET then word s.budget
  else if o = R.TCK_PERIOD_NS then word (s.tickU / 6)
  else s.reg o

/-- Live words of the FAB, ENG, MIX and DYN blocks. -/
def State.liveFab (s : State) (o : Nat) : Word :=
  if o = R.MIX_XP_CAP then word (131072 / 2 ^ s.fld F.TCK_CFG_fs_sel)
  else if o = R.FAB_RESERVE then setBits (s.reg o) 22 16 s.activeCount
  else if o = R.DYN_GR_NOW then wordI (s.dynU (s.fld F.DYN_GR_SEL_unit)).m.gr
  else
    match arr (R.FAB_ACTIVE 0) 4 3 o, arr (R.FAB_FENCE 0) 4 3 o, arr (R.FAB_UNFENCE 0) 4 3 o, arr (R.ENG_STATUS 0) 0x1000 96 o,
      arr (R.ENG_PC 0) 0x1000 96 o with
    | some j, _, _, _, _ => s.fabActive j
    | _, some j, _, _, _ => engBits ((List.range 96).filter fun e => !s.active e) j
    | _, _, some j, _, _ => engBits s.fab.unfence j
    | _, _, _, some e, _ => s.engStatus e
    | _, _, _, _, some e => s.engPc e
    | _, _, _, _, _ => s.reg o

/-- Live words of the other blocks. -/
def State.liveRest (s : State) (o : Nat) : Word :=
  if o = R.TWN_STATUS then s.twnStatus
  else if o = R.TWN_REVERT_LEFT then word s.revertLeft
  else if o = R.SNS_DEC then word s.snsDec
  else if o = R.TIM_NOW_NS then word s.netSubNs
  else if o = R.TIM_NOW_S_LO then word s.netSec
  else if o = R.TIM_NOW_S_HI then word (s.netSec / 2 ^ 32)
  else if o = R.TIM_FREE_LO then word s.freeC
  else if o = R.TIM_FREE_HI then word (s.freeC / 2 ^ 32)
  else if o = R.MEM_REPAIR_DATA then s.repairData
  else if o = R.TWI_TGT_STATUS then s.tgtStatus
  else if o = 0x801800 then s.hif.msixPba
  else
    match arr (R.MAC_PAUSE_LEFT 0) 0x10000 4 o, arr 0x801000 4 128 o with
    | some n, _ => word (s.pauseLeft n)
    | _, some i => s.msixWord i
    | _, _ => s.reg o

/-- The word of a register now: stored, or taken from the state that it shows. -/
def State.liveWord (s : State) (o : Nat) : Word :=
  if o < 0x100000 then s.liveSys o
  else if o < 0x400000 then s.liveFab o
  else match s.ctxWord o with
    | some w => w
    | none => s.liveRest o

/-- A field that shows a level or a measurement which no command gives, of a pin, the crystal, VBAT or the input power: a free
value (log entry 4). -/
def pinField (o : Nat) : Option Fld :=
  if o = R.RTC_STATUS then some ⟨R.RTC_STATUS, 1, 0⟩ else
  if o = R.PWR_IN_MW then some ⟨R.PWR_IN_MW, 15, 0⟩ else
  match arr (R.MOD_CH_STATUS 0) 0x20 32 o, arr (R.TWI_C_STATUS 0) 0x100 3 o with
  | some c, _ => some (F.MOD_CH_STATUS_fault_in c)
  | _, some n => some ⟨R.TWI_C_STATUS n, 4, 3⟩
  | _, _ => none

/-- Such a level has been sampled since its block's reset, until which its field reads as reset (R516). -/
def State.sampled (s : State) (o : Nat) : Bool :=
  if o < 0x30000 then s.clk.rtcU ≠ 0 || s.clk.rtcF ≠ 0 else !(within o 0x500000 0x100000 && s.pwr.levels.contains 17)

/-- The read returns a word. -/
def State.returns (s : State) (w : Word) : State := { s with lastRead := w }

/-- The companions of an offset are captured (R36). -/
def State.capture (s : State) (o : Nat) : State :=
  { s with hold := (companions o).foldl (fun t c => Tbl.set holdReset t c (s.liveWord c)) s.hold }

/-- A read of a register by its field types (R9): wo bits read 0, rc bits clear. A w1s action bit whose table says nothing of what it
reads (CLK_CTRL.realign, DDR_CTRL.init, MEM_MARCH_CTRL.start) reads 0, also while its action is in progress (DESIGN CHOICE, log 16). -/
def State.readGen (s : State) (o : Nat) : State :=
  let v := if isCompanion o then s.holdWord o else s.liveWord o
  let s := s.capture o
  match (pinField o).filter (fun _ => s.sampled o), findReg o with
  | some f, _ => (s.returns (setBits v f.hi f.lo (Config.freeNat s.fresh))).tick1
  | none, some (r, _, _) => (if r.rc = 0 then s else s.put o (s.reg o &&& ~~~r.rc)).returns (v &&& ~~~r.wo)
  | none, none => s.returns v

/-- A read of a register whose block answers. -/
def State.readIn (s : State) (o : Nat) : State :=
  if o = R.FLT_LOG_DATA then s.readLog
  else if o = R.MOD_IFIR_DATA then s.readIfir
  else if 0xD00000 ≤ o then s.returns 0
  else
    match arr (R.SDS_PRBS_BITS_LO 0) 0x1000 8 o with
    | some l =>
      let s := s.prbsCapture l
      s.returns (s.reg o)
    | none => s.readGen o

/-- A read of a register (R9, R10, R36, R474): a block that is off reads 0, and so does an offset that no block lists. -/
def State.readReg (s : State) (o : Nat) : State := if s.answers o then s.readIn o else s.returns 0

/-! ## The commands -/

/-- TCK_CFG_WRITE (R15, R517). -/
def execTckCfgWrite (w : Word) (s : State) : Host.Outcome State Fault Refusal := .next (s.ifCtrl fun s => s.tckCfg w)

/-- TICK_RUN_SET (R20). -/
def execTickRunSet (s : State) : Host.Outcome State Fault Refusal := .next (s.ifCtrl State.runSet)

/-- TICK_RUN_CLEAR (R21). -/
def execTickRunClear (s : State) : Host.Outcome State Fault Refusal := .next (s.ifCtrl State.runClear)

/-- TCK_NUM_LO_READ (R36). -/
def execTckNumLoRead (s : State) : Host.Outcome State Fault Refusal := .next (s.readReg R.TCK_NUM_LO)

/-- TCK_START_LO_WRITE (R36). -/
def execTckStartLoWrite (w : Word) (s : State) : Host.Outcome State Fault Refusal :=
  .next (s.ifCtrl fun s => s.putLo R.TCK_START_LO R.TCK_START_HI w)

/-- CAPTURE_REGISTER_READ (R36). -/
def execCaptureRegisterRead (off : BitVec 24) (s : State) : Host.Outcome State Fault Refusal := .next (s.readReg off.toNat)

/-- COUNTER_READ_CLEAR (R9, R37). -/
def execCounterReadClear (off : BitVec 24) (s : State) : Host.Outcome State Fault Refusal := .next (s.readReg off.toNat)

/-- REGISTER_WRITE (R9, R10): a write through BAR0. -/
def execRegisterWrite (off : BitVec 24) (w : Word) (s : State) : Host.Outcome State Fault Refusal :=
  .next (s.writeReg .bar0 off.toNat w)

/-! ## Timed commands (R354, R356) -/

/-- The word that a REG_WRITE writes (R356): unmasked bits of rw fields as stored, every other unmasked bit 0. -/
def State.maskedWord (s : State) (o : Nat) (value mask : Word) : Word :=
  let stored := match arr 0x801000 4 128 o, findReg o with
    | some i, _ => s.msixWord i
    | none, some (r, _, _) => s.reg o &&& r.rw
    | none, none => 0
  (value &&& mask) ||| (stored &&& ~~~mask)

/-- A timed command other than a commit takes effect and completes. -/
def State.applyTimed (s : State) (t : Timed) : State :=
  match t.kind with
  | .regWrite o value mask => (s.writeReg .bar0 o (s.maskedWord o value mask)).endTimed t t.okStatus 0
  | _ => s.endTimed t t.okStatus 0

/-- A scheduled action takes effect (R19). -/
def State.applyAction (s : State) (t : Timed) : State := if t.kind.isCommit then s.applyCommit t else s.applyTimed t

/-- TIMED_COMMAND_EFFECT (R354): the timed commands due at the present boundary. -/
def execTimedCommandEffect (s : State) : Host.Outcome State Fault Refusal :=
  .next (s.runDue (fun k => !k.isCommit) State.applyTimed)

end Sys2Proof.Machine
end

