-- ==== Sys2Proof/Machine/TwiTgt.lean ====
section
/-!
DEFINITION. The two-wire target (R454 to R462): its map, the page buffer of a write, fetches of a read, accesses that wait for
a power domain, busy and stretch, protocol errors.
-/

namespace Sys2Proof.Machine

/-- Update the target. -/
def State.setTgt (s : State) (f : TwiTgt → TwiTgt) : State := { s with tgt := f s.tgt }

/-- The target's pointer. -/
def State.tgtPtr (s : State) : Nat := s.fld F.TWI_TGT_PTR_ptr

/-- Set it; it is 16 bits wide. -/
def State.setTgtPtr (s : State) (p : Nat) : State := s.setFld F.TWI_TGT_PTR_ptr p

/-- The register-space offset of a pointer (R455); none in 0x5000 to 0x7FFF. -/
def State.tgtMap (s : State) (p : Nat) : Option Nat :=
  if p < 0x1000 then some p
  else if p < 0x2000 then some (0x10000 + p % 0x1000)
  else if p < 0x3000 then some (0x20000 + p % 0x1000)
  else if p < 0x4000 then some (0x30000 + p % 0x1000)
  else if p < 0x5000 then some (0xC00000 + p % 0x1000)
  else if p < 0x8000 then none
  else some ((s.reg R.TWI_TGT_WIN).toNat + (p - 0x8000))

/-- An access to an offset waits (R458): its domain is switching on, or held in reset until the sequence of R475 comes to it. -/
def State.tgtWaits (s : State) (o : Nat) : Bool :=
  match domainOf o with
  | some d => (s.domBusy d || s.pwr.seq.contains d) && !s.domFault d && !s.pwr.offs.contains d
  | none => false

/-- An internal access is pending (R460). -/
def State.tgtBusy (s : State) : Bool := !s.tgt.writes.isEmpty || s.tgt.read.isSome

/-! ## Writes (R457, R458) -/

/-- The page buffer's bytes by position, with the order in which the last byte of each position arrived, after data bytes from a
pointer; and the pointer after them (R457). -/
def pageFill : List Byte → Nat → Nat → List (Nat × Byte × Nat) → List (Nat × Byte × Nat) × Nat
  | [], p, _, t => (t, p)
  | b :: bs, p, k, t =>
    pageFill bs (p / 32 * 32 + (p + 1) % 32) (k + 1) ((t.filter fun e => e.1 ≠ p % 32) ++ [(p % 32, b, k)])

/-- The bytes that the buffer holds of a word, by position. -/
def pageWord (t : List (Nat × Byte × Nat)) (w : Nat) : List (Nat × Byte × Nat) := t.filter fun e => e.1 / 4 = w

/-- The word numbers that were received whole, in the order of their last bytes. -/
def pageWhole (t : List (Nat × Byte × Nat)) : List Nat :=
  ((t.map fun e => e.1 / 4).reverse.eraseDups.reverse).filter fun w => (pageWord t w).length = 4

/-- The bytes of words not received whole. -/
def pageRest (t : List (Nat × Byte × Nat)) : Nat := (t.filter fun e => (pageWord t (e.1 / 4)).length ≠ 4).length

/-- The value of a word received whole (R8, R456). -/
def pageValue (t : List (Nat × Byte × Nat)) (w : Nat) : Word :=
  word ((pageWord t w).foldl (fun n e => n + e.2.1.toNat * 2 ^ (8 * (e.1 % 4))) 0)

/-- A word is written, or waits behind those that wait; a domain that is off ignores it. -/
def State.tgtWrite (s : State) (o : Nat) (w : Word) : State :=
  if !s.tgt.writes.isEmpty || s.tgtWaits o then s.setTgt fun t => { t with writes := t.writes ++ [(o, w)] }
  else s.writeReg .twi o w

/-- A write is closed (R457): whole words are written in order, the bytes of the others are discarded and counted. -/
def State.tgtClose (s : State) (data : List Byte) : State :=
  let f := pageFill data s.tgtPtr 0 []
  let page := s.tgtPtr / 32 * 32
  let s := s.setTgtPtr f.2
  let s := (pageWhole f.1).foldl
    (fun s w => match s.tgtMap (page + 4 * w) with
      | some o => s.tgtWrite o (pageValue f.1 w)
      | none => s) s
  let n := pageRest f.1
  if n = 0 then s else (s.setFlag F.TWI_TGT_STATUS_part true).countBy R.TWI_TGT_DISC_CNT n

/-- The acknowledged bytes of a write transaction: the pointer, high byte first (R455), then data. -/
def State.tgtBytes (s : State) : List Byte → State
  | hi :: lo :: data => (s.setTgtPtr (hi.toNat * 256 + lo.toNat)).tgtClose data
  | _ => s

/-! ## Reads (R458, R459, R461) -/

/-- The bytes of a fetched word go on the bus from the pointer's byte on; the pointer advances and wraps (R459). -/
def State.tgtSend (s : State) (v : Word) (n : Nat) : State :=
  let p := s.tgtPtr
  ((s.emit (.twi 3 (slice (leBytes 4 v.toNat) (p % 4) n))).setTgtPtr ((p + n) % 65536)).setTgt fun t => { t with more := p % 4 + n = 4 }

/-- A word is fetched, once and only when a byte of it is to be sent (R459), with the effects of its read; an off domain reads 0 and
sets off_rd. A domain that is switching holds SCL in legacy mode; in native mode the word is 0 and off_rd is set (R461). -/
def State.tgtFetch (s : State) (n : Nat) : State :=
  let n := min n (4 - s.tgtPtr % 4)
  if n = 0 then s
  else match s.tgtMap (s.tgtPtr / 4 * 4) with
  | none => s.tgtSend 0 n
  | some o =>
    if s.tgtWaits o && s.flag F.TWI_TGT_CFG_legacy then s.setTgt fun t => { t with read := some n, since := s.clk.freeU }
    else if (domainOf o).isSome && !s.answers o then (s.setFlag F.TWI_TGT_STATUS_off_rd true).tgtSend 0 n
    else
      let s := s.readReg o
      s.tgtSend s.lastRead n

/-- The words that wait are written once their domains answer or are off, in order, and then the fetch that waits (R458). -/
def State.tgtGo : List (Nat × Word) → State → State
  | [], s => s
  | (o, w) :: r, s =>
    if s.tgtWaits o then s
    else State.tgtGo r ((s.setTgt fun t => { t with writes := r }).writeReg .twi o w)

/-- A transaction whose address byte is acknowledged. -/
def State.tgtRun (s : State) : TgtHeld → State
  | .write bytes => s.tgtBytes bytes
  | .fetch n => s.tgtFetch n

/-- Carry on with the accesses that wait: the words of a write, the fetch, and then the transaction that SCL is held for, which
is acknowledged (R458, R461). -/
def State.tgtFlush (s : State) : State :=
  let s := State.tgtGo s.tgt.writes s
  let s := match s.tgt.read with
    | none => s
    | some n => (s.setTgt fun t => { t with read := none }).tgtFetch n
  match s.tgt.held with
  | some h => if s.tgtBusy then s else (s.setTgt fun t => { t with held := none }).tgtRun h
  | none => s

/-- SCL is held low (R461). -/
def State.tgtHolds (s : State) : Bool := s.tgt.held.isSome || s.tgt.read.isSome

/-! ## The commands -/

/-- The address byte carries the target's own address (R454); `none` stands for it. -/
def State.tgtNamed (s : State) (addr : Option (BitVec 7)) : Bool := addr.all fun a => a.toNat = 0x3A + s.twiAddr.toNat

/-- A transaction begins. Only one with the target's address is acknowledged (R454). While an access is pending that is not either
(R460); in legacy mode SCL is held, and the transaction goes on when the access completes (R461). None begins while SCL is held. -/
def State.tgtStart (s : State) (addr : Option (BitVec 7)) (x : TgtHeld) : State :=
  let s := s.tgtFlush
  if s.tgtHolds then s
  else if !s.tgtNamed addr then s.setTgt fun t => { t with more := false }
  else
    let s := s.setTgt fun t => { t with more := false }
    let s := s.count R.TWI_TGT_XFER_CNT
    if !s.tgtBusy then s.tgtRun x
    else if s.flag F.TWI_TGT_CFG_legacy then s.setTgt fun t => { t with held := some x, since := s.clk.freeU }
    else s.count R.TWI_TGT_NACK_CNT

/-- TWI_TARGET_WRITE (R455, R457): the bytes acknowledged after the address byte, up to the STOP or repeated START. -/
def execTwiTargetWrite (bytes : List Byte) (s : State) (addr : Option (BitVec 7) := none) : Host.Outcome State Fault Refusal :=
  .next (s.ifCtrl fun s => s.tgtStart addr (.write bytes))

/-- TWI_TARGET_READ_FETCH (R459): the word that holds the pointer; `first` for the first of its transaction, `n` the bytes of
it that the controller takes. Another word follows only the last byte of the word before it. -/
def execTwiTargetReadFetch (first : Bool) (n : Nat) (s : State) (addr : Option (BitVec 7) := none) : Host.Outcome State Fault Refusal :=
  .next (s.ifCtrl fun s => if first then s.tgtStart addr (.fetch n)
    else
      let s := s.tgtFlush
      if s.tgtHolds || !s.tgt.more then s else s.tgtFetch n)

/-- TWI_TARGET_BUSY_NACK (R460): the address byte of a transaction meets a pending access in native mode. -/
def execTwiTargetBusyNack (s : State) (addr : Option (BitVec 7) := none) : Host.Outcome State Fault Refusal :=
  .next (s.ifCtrl fun s =>
    let s := s.tgtFlush
    if s.tgtNamed addr && s.tgtBusy && !s.tgtHolds && !s.flag F.TWI_TGT_CFG_legacy then
      ((s.count R.TWI_TGT_XFER_CNT).count R.TWI_TGT_NACK_CNT).emit (.twiCond 3 "NACK")
    else s)

/-- TWI_TARGET_STRETCH_TIMEOUT (R461): SCL held for 10 ms without completion; the transaction that was held, or the fetch that
waited, ends. A completion in the same clock cycle counts. -/
def execTwiTargetStretchTimeout (s : State) : Host.Outcome State Fault Refusal :=
  .next (s.ifCtrl fun s =>
    let s := s.tgtFlush
    if s.tgtHolds && s.tgt.since + 10 * (secU / 1000) ≤ s.clk.freeU then
      let s := (s.count R.TWI_TGT_STRETCH_TO_CNT).setFlag F.TWI_TGT_STATUS_stretch_to true
      (s.setTgt fun t => { t with read := none, held := none }).emit (.twiCond 3 "NACK")
    else s)

/-- TWI_TARGET_PROTOCOL_ERROR (R462): the acknowledged bytes of a write stand; the byte in progress is discarded. The START that
may have caused it begins a transaction, which its own commands carry. -/
def execTwiTargetProtocolError (acked : List Byte) (_start : Bool) (s : State) (addr : Option (BitVec 7) := none) :
    Host.Outcome State Fault Refusal :=
  .next (s.ifCtrl fun s =>
    if s.tgtNamed addr then (if acked.isEmpty then s else s.tgtStart addr (.write acked)).setFlag F.TWI_TGT_STATUS_proto true else s)

/-- REGULATOR_FAULT (R474): the supply is on or being switched on; PD_AON is not a switched domain. Accesses of
the two-wire target that waited for it go on (R458). -/
def execRegulatorFault (d : Fin 19) (s : State) : Host.Outcome State Fault Refusal :=
  .next (if d.val ≠ 0 && (s.domBusy d || s.domOn d) && !s.domFault d then (s.regFault d).tgtFlush else s)

/-- DOMAIN_RELEASE (R473): `failing` are the rows that failed the march: sub-bank, row, 512 and 513 for its spares. Accesses of
the two-wire target that waited for the domain go on (R458). -/
def execDomainRelease (d : Fin 19) (failing : List (Nat × Nat)) (s : State) : Host.Outcome State Fault Refusal :=
  .next (if s.domBusy d && !s.pwr.offs.contains d.val then (s.release d failing).tgtFlush else s)

end Sys2Proof.Machine
end

