-- ==== Sys2Proof/Machine/Tick.lean ====
section
/-!
DEFINITION. The tick (R13 to R24, R34, R50, R55, R63 to R66, R139, R165, R222): its start and stop, the capture windows, the
watermark, the deadline, and what every boundary does.
-/

namespace Sys2Proof.Machine

/-! ## The watermark and the deadline (R63 to R65) -/

/-- The graph of the tick runs and is not done. -/
def State.graphLate (s : State) : Bool := s.processing && s.fab.graph.isSome && !s.fab.done && !s.fab.overran

/-- The graph is not done at cycle W (R64): warned once in the tick. -/
def State.warnOverrun (s : State) : State :=
  if s.graphLate && !s.fab.warned then
    let s := (s.setFab fun f => { f with warned := true }).setFlag F.FAB_STATUS_wm_seen true
    (s.raise 0 (word (s.watermark % 2 ^ 20 + s.fab.phase.getD 0 % 64 * 2 ^ 20))).count R.FAB_WM_CNT
  else s

/-- The tasks of the tick that have neither completed nor failed. -/
def State.unfinished (s : State) : List Nat :=
  (List.range s.tasks.length).filter fun i =>
    match s.stat i with
    | .done | .failed | .aborted => false
    | _ => true

/-- Every unfinished task is aborted: those running, queued, and of phases not yet released (R65, R113). -/
def State.abortTasks (s : State) : State :=
  let late := s.unfinished
  let s := (List.range 96).foldl (fun s e => if (s.engine e).task.isSome then s.haltEngine e else s) s
  let s := s.setFab fun f => { f with deque := [], backlog := [], steal := [], stealReq := [] }
  late.foldl (fun s i => s.setStat i .aborted) s

/-- The deadline of the tick (R65, R165). -/
def State.deadline (s : State) : State :=
  if s.graphLate then
    let n := s.unfinished.length
    let s := (s.cutStages).abortTasks
    let c := s.fab.deadline.getD s.budget
    let s := (s.setFab fun f => { f with overran := true }).setFlag F.FAB_STATUS_overrun true
    let s := (s.setFld F.FAB_LAST_CYC_cycles c).setFld F.FAB_PEAK_CYC_cycles (max c (s.fld F.FAB_PEAK_CYC_cycles))
    let s := s.putPair R.FAB_OVR_TICK_LO R.FAB_OVR_TICK_HI s.tickNum
    ((s.raise 1 (word n)).count R.FAB_OVR_CNT).countBy R.FAB_LATE_TASK_CNT n
  else s

/-! ## The commit (R22, R34, R50, R66, R139, R165) -/

/-- The slots that tasks and fixed blocks write. -/
def State.outSlots (s : State) : List Nat :=
  s.tasks.flatMap (·.outs)
    ++ (s.mix.route.filter fun e => e.2.claims).map (·.2.e.dst)
    ++ (s.mix.bus.filter fun e => e.2.enable).map (·.2.out)
    ++ (s.mix.dyn.filter fun e => e.2.e.enable).map (·.2.e.out)

/-- The block that a slot commits: as computed, or the late fill of its writer, or zeros of an object that no stage runs. -/
def State.commitBlock (s : State) (slot : Nat) : List Word :=
  match s.writer slot with
  | .task i _ =>
    if s.stat i = .done then s.blk s.fab.cur slot else s.lateBlock slot ((s.task? i).elim false (·.repeatPrev))
  | .stage k p =>
    if !s.runsStage k p then s.zeros
    else match s.fab.cut.find? fun c => c.1 = slot with
      | some c => s.lateBlock slot c.2
      | none => s.blk s.fab.cur slot
  | _ => s.zeros

/-- STATE_EXCHANGE (R50, R159): of the tasks that completed and of the units that were processed. -/
def State.exchange (s : State) : State :=
  let s := ((List.range s.tasks.length).filter fun i => s.stat i = .done).foldl State.swapState s
  s.setMix fun m => { m with
    dyn := mapTbl (fun _ => {}) (fun u => { u with
      m := u.next.getD u.m, low := if u.next.isSome then u.low else u.m.gr, next := none }) m.dyn }

/-- COMMIT (R22): the blocks of tick n become visible, its digest is fixed. After a step the outputs fade (R295). -/
def State.commit (s : State) (n : Nat) : State :=
  let com := s.outSlots.foldl (fun t x => Tbl.set (fun _ => []) t x (s.commitBlock x)) []
  let fade := s.clk.fade = some n
  let old := s.fab.com
  let s := s.exchange
  let s := s.setFab fun f => { f with
    com := com, comTick := some n, comOld := if fade then some old else none
    graph := f.graph.map fun g => { g with fresh := false } }
  let s := { s with clk := { s.clk with fade := if fade then none else s.clk.fade }, twn := { s.twn with noCommit := 0 } }
  s.fixDigest

/-- From here on all output slots read zero, and nothing is launched (R20, R21). -/
def State.silence (s : State) : State := s.setFab fun f => { f with com := [], comTick := none, comOld := none }

/-- A boundary without a commit; the second in succession releases OWN (R222). -/
def State.uncommitted (s : State) : State :=
  let s := { s with twn := { s.twn with noCommit := s.twn.noCommit + 1 } }
  if 2 ≤ s.twn.noCommit then s.releaseOwn else s

/-- The boundary's commit, as the run state has it (R20 to R22, R34). -/
def State.commitStep (s : State) (n : Nat) : State :=
  if s.processing then (s.deadline).commit n
  else if s.run = .draining then (s.silence).uncommitted
  else s.uncommitted

/-! ## Inputs (R22, R203, R261, R377) -/

/-- The measurement samples of the closed window become the input blocks of their slots (R261). -/
def State.senseFill (s : State) (c : Nat) : State :=
  let x := s.amp1 c
  let put := fun (s : State) (slot : Nat) (b : List Word) =>
    s.setFab fun f => { f with inp := Tbl.set (fun _ => []) f.inp slot b }
  let s := if s.appFlag (F.SNS_CH_CFG_v_en c) then put s (s.appFld (F.SNS_CH_CFG_v_slot c)) x.v else s
  if s.appFlag (F.SNS_CH_CFG_i_en c) then put s (s.appFld (F.SNS_CH_CFG_i_slot c)) x.i else s

/-- The input blocks of tick m: receive streams, TDM inputs, measurements. -/
def State.inputs (s : State) (m : Nat) : State :=
  let s := s.setFab fun f => { f with inpPrev := f.inp, inp := [] }
  let s := (s.rxFill m).tdmFill m
  (List.range 32).foldl State.senseFill s

/-- The samples of a window: that of sample period i is the decimator's output at its end (R261). -/
def State.decimate (s : State) (old bits : List Bool) : List Word :=
  let r := s.snsDec
  let n := bits.length
  let all := bits.reverse ++ old
  ((List.range s.T).filter fun i => (i + 1) * r ≤ n).map fun i => sinc3 r (all.drop (n - (i + 1) * r))

/-- The bitstream of the window that closes is decimated, of the channels whose sense path runs (R22, R261). -/
def State.senseCapture (s : State) (x : SnsCap) : State :=
  if s.senseOk x.ch then
    let a := s.amp1 x.ch
    let keep := fun (old : List Bool) => (x.bits.reverse ++ old).take 1024
    s.putAmp1 x.ch (
      if x.cur then { a with iNext := s.decimate a.iBits x.bits, iBits := keep a.iBits }
      else { a with vNext := s.decimate a.vBits x.bits, vBits := keep a.vBits })
  else s

/-! ## The new tick -/

/-- The present tick ends at the boundary, whose time has come: tick m begins (R16, R293, R294). -/
def State.nextTick (s : State) (m : Nat) : State :=
  let e := s.toBoundary
  { s with
    clk := { s.clk with tickNum := m, tickPos := 0, frac := e.2, lenU := none, commitAs := none, shift := 0 }
    fab := { s.fab with deadline := none }
    tdm := { s.tdm with sent := 0 } }

/-- The run state at the boundary of tick m (R20, R21). -/
def State.runStep (s : State) (m : Nat) : State :=
  match s.run with
  | .armed n _ => { s with run := .armed n true }
  | .stopping =>
    if s.flag F.TCK_CTRL_run && s.pair R.TCK_START_LO R.TCK_START_HI ≤ m then { s with run := .running }
    else { s with run := .draining }
  | .draining => { s with run := .ending }
  | _ => s

/-- What the fabric takes at a boundary: the enables of stealing and the late policies (R60, R66). -/
def State.fabTake (s : State) : State :=
  let s := s.setFab fun f => { f with
    stealEn := s.flag F.FAB_CTRL_steal_en, xcEn := s.flag F.FAB_CTRL_xc_steal_en, xcMin := max 1 (s.fld F.FAB_STEAL_CFG_xc_min) }
  s.setMix fun m => { m with
    lateRte := s.flag F.RTE_CTRL_late_policy, lateMix := s.flag F.MIX_CTRL_late_policy, lateDyn := s.flag F.DYN_CTRL_late_policy }

/-- The graph of a tick starts: nothing is done, and the first phase is dealt (R22, R55, R56). -/
def State.startGraph (s : State) : State :=
  let s := s.setFab fun f => { f with
    stat := [], phase := none, stages := 0, done := false, warned := false, overran := false, cur := [], cut := []
    deque := [], backlog := [], steal := [], stealReq := [] }
  let s := if s.fab.graph.isSome then s.orphans else s
  match s.releasable with
  | some p => s.releasePhase p
  | none => s.checkDone

/-- What begins anew with a tick on the host side (R22, R346, R352): the doorbell fetch starts; without bus mastering
it is missed, and counted late (R369). -/
def State.hostTick (s : State) : State :=
  let s := (List.range 12).foldl (fun s r => s.setRing r { s.ring r with parsed := 0, intLeft := (s.ring r).intLeft - 1 }) s
  let t := s.traffic
  let s := s.setHif fun h => { h with fetching := t, fetched := false, late := false, shadowed := false }
  let s := s.overflow
  if t then s.emit (.hostRead (s.pair R.HIF_DB_ADDR_LO R.HIF_DB_ADDR_HI / 256 * 256) 256)
  else if s.hif.active then s.fetchLate else s

/-- TICK_EVENT_POST (R359). -/
def State.tickEvent (s : State) : State :=
  let d := s.fld F.TCK_EVT_CFG_evt_div
  if d ≠ 0 && s.tickNum % d = 0 then s.postEvent 1 0 [] else s

/-- SCHEDULED_ACTION_APPLY (R19), with the fades that end (R143) and the changes that waited for them. -/
def State.actions (s : State) : State := ((s.endFades).applyDeferred).runDue (fun _ => true) State.applyAction

/-- The twin's part of a boundary (R232, R233, R235, R245). -/
def State.twinTick (s : State) : State := (((((s.laneTick).markTick).hoTick).resyncTick).revertTick).sendMarker

/-- TICK_BOUNDARY (R22). The time to the boundary passes first: all that follows falls in the boundary's clock cycle, a source that
raises by itself before an injection by a timed write (R439, R452). Tick n is committed and leaves, TICK_NUM reads m, rings change
(R343, R372), the meter record due is posted with the list that it was taken with (R167), the engines asked for are fenced (R76),
scheduled actions take effect, the inputs of tick m are there (R191), phase 0 is dealt, and the doorbell fetch starts. -/
def State.boundary (s : State) : State :=
  let n := s.clk.commitAs.getD s.tickNum
  let m := s.comingTick
  let commits := s.processing
  let s := ((s.showLevels).tdmDue s.T).elapse s.toBoundary.1
  let s := ((s.tdmTail).commitStep n).askAgain
  let s := s.ampTick n
  let s := if commits then s.meterTake else s
  let s := ((s.nextTick m).tdmEarly).runStep m
  let s := ((s.setStr fun t => { t with launched := false, txServe := t.tx }).clockTick).ringsEnable
  let s := (((s.meterPost).fenceAll).actions).inputs m
  let s := ((s.fabTake).hostTick).scrubSram.scrubDram
  let s := if s.run = .running then s.startGraph else s
  let s := (s.twinTick).tickEvent
  (List.range 3).foldl State.twiServe s

/-- An empty queue: the output frames whose instants have come are sent, and one engine clock cycle passes. -/
def State.rest (s : State) : State := ((s.showLevels).tdmRun).idle

/-! ## The commands -/

/-- TICK_START (R20): the first tick begins; output slots read zero until its commit. Not after a power-up test that left an
SRAM unrepaired (R406). -/
def State.startTick (s : State) : State :=
  match s.run with
  | .armed n true =>
    if n ≤ s.tickNum && s.clk.tickPos = 0 && !s.sram.noAudio then
      let s := { s with run := .running, clk := { s.clk with ranTick := true } }
      ((s.setFlag F.TCK_STATUS_running true).silence).startGraph
    else s
  | _ => s

/-- TICK_STOP (R21): at b_(n+2) the tick has stopped. A run written since then starts anew. -/
def State.stopTick (s : State) : State :=
  if s.run = .ending then
    let again := s.flag F.TCK_CTRL_run
    let s := { s with run := if again then .armed (s.pair R.TCK_START_LO R.TCK_START_HI) true else .stopped }
    (s.setFlag F.TCK_STATUS_running false).silence
  else s

/-- TICK_START (R20). -/
def execTickStart (s : State) : Host.Outcome State Fault Refusal := .next (s.ifCtrl State.startTick)

/-- TICK_STOP (R21). -/
def execTickStop (s : State) : Host.Outcome State Fault Refusal := .next (s.ifCtrl State.stopTick)

/-- TICK_BOUNDARY (R22). -/
def execTickBoundary (s : State) (seen : TickSeen := {}) : Host.Outcome State Fault Refusal :=
  .next (s.ifCtrl fun s => (s.memSeen seen).boundary)

/-- CAPTURE_WINDOW_CLOSE (R22): the frames of the TDM windows, the decimators' samples, and the frames read back (R237). -/
def execCaptureWindowClose (tdm : List CapFrame) (sns : List SnsCap) (lb : List LbFrame) (s : State) :
    Host.Outcome State Fault Refusal :=
  .next (s.ifCtrl fun s => (sns.foldl State.senseCapture (s.tdmCapture tdm)).lbFrames lb)

/-- TICK_OVERRUN_WARNING (R64). -/
def execTickOverrunWarning (s : State) : Host.Outcome State Fault Refusal := .next (s.ifCtrl State.warnOverrun)

/-- TICK_DEADLINE (R65). -/
def execTickDeadline (s : State) : Host.Outcome State Fault Refusal := .next (s.ifCtrl State.deadline)

end Sys2Proof.Machine
end

