-- ==== Sys2Proof/Machine/Dispatch.lean ====
section
/-!
DEFINITION. One arm per command, each one direct call of its meaning.
-/

namespace Sys2Proof.Machine

/-- The effect of a command on everything but the queue. -/
def exec (i : Instr) (s : State) : Host.Outcome State Fault Refusal :=
  match i with
  | .tckCfgWrite w => Sys2Proof.Machine.execTckCfgWrite w s
  | .tickRunSet => Sys2Proof.Machine.execTickRunSet s
  | .tickRunClear => Sys2Proof.Machine.execTickRunClear s
  | .tickStart => Sys2Proof.Machine.execTickStart s
  | .tickStop => Sys2Proof.Machine.execTickStop s
  | .tickBoundary seen => Sys2Proof.Machine.execTickBoundary s seen
  | .captureWindowClose tdm sns lb => Sys2Proof.Machine.execCaptureWindowClose tdm sns lb s
  | .tickOverrunWarning => Sys2Proof.Machine.execTickOverrunWarning s
  | .tickDeadline => Sys2Proof.Machine.execTickDeadline s
  | .doorbellFetchComplete db => Sys2Proof.Machine.execDoorbellFetchComplete db s
  | .doorbellFetchLate => Sys2Proof.Machine.execDoorbellFetchLate s
  | .shadowBlockWrite => Sys2Proof.Machine.execShadowBlockWrite s
  | .tckNumLoRead => Sys2Proof.Machine.execTckNumLoRead s
  | .tckStartLoWrite w => Sys2Proof.Machine.execTckStartLoWrite w s
  | .captureRegisterRead off => Sys2Proof.Machine.execCaptureRegisterRead off s
  | .counterReadClear off => Sys2Proof.Machine.execCounterReadClear off s
  | .registerWrite off w => Sys2Proof.Machine.execRegisterWrite off w s
  | .graphLoad c => Sys2Proof.Machine.execGraphLoad c s
  | .unload => Sys2Proof.Machine.execUnload s
  | .phaseRelease => Sys2Proof.Machine.execPhaseRelease s
  | .backlogAppend e => Sys2Proof.Machine.execBacklogAppend e s
  | .depthBroadcast fixed => Sys2Proof.Machine.execDepthBroadcast s fixed
  | .taskAcquire e => Sys2Proof.Machine.execTaskAcquire e s
  | .stealComplete e => Sys2Proof.Machine.execStealComplete e s
  | .taskTake e => Sys2Proof.Machine.execTaskTake e s
  | .prefetchComplete e => Sys2Proof.Machine.execPrefetchComplete e s
  | .taskComplete e => Sys2Proof.Machine.execTaskComplete e s
  | .taskBudgetExceeded e => Sys2Proof.Machine.execTaskBudgetExceeded e s
  | .engineFault e cause => Sys2Proof.Machine.execEngineFault e cause s
  | .engineHang e => Sys2Proof.Machine.execEngineHang e s
  | .fabFenceWrite j w => Sys2Proof.Machine.execFabFenceWrite j w s
  | .plannedFence e => Sys2Proof.Machine.execPlannedFence e s
  | .fabUnfenceWrite j w => Sys2Proof.Machine.execFabUnfenceWrite j w s
  | .engineActivate e marchOk => Sys2Proof.Machine.execEngineActivate e marchOk s
  | .unfenceRepair e => Sys2Proof.Machine.execUnfenceRepair e s
  | .bundleIllegal e b => Sys2Proof.Machine.execBundleIllegal e b s
  | .bundleNop e => Sys2Proof.Machine.execBundleNop e s
  | .add e d sr t last => Sys2Proof.Machine.execAdd e d sr t last s
  | .sub e d sr t last => Sys2Proof.Machine.execSub e d sr t last s
  | .and e d sr t last => Sys2Proof.Machine.execAnd e d sr t last s
  | .or e d sr t last => Sys2Proof.Machine.execOr e d sr t last s
  | .xor e d sr t last => Sys2Proof.Machine.execXor e d sr t last s
  | .min e d sr t last => Sys2Proof.Machine.execMin e d sr t last s
  | .max e d sr t last => Sys2Proof.Machine.execMax e d sr t last s
  | .asr e d sr t last => Sys2Proof.Machine.execAsr e d sr t last s
  | .lsr e d sr t last => Sys2Proof.Machine.execLsr e d sr t last s
  | .lsl e d sr t last => Sys2Proof.Machine.execLsl e d sr t last s
  | .cmp e sr t last => Sys2Proof.Machine.execCmp e sr t last s
  | .mov e d sr last => Sys2Proof.Machine.execMov e d sr last s
  | .neg e d sr last => Sys2Proof.Machine.execNeg e d sr last s
  | .abs e d sr last => Sys2Proof.Machine.execAbs e d sr last s
  | .not e d sr last => Sys2Proof.Machine.execNot e d sr last s
  | .addi e d sr imm last => Sys2Proof.Machine.execAddi e d sr imm last s
  | .cmpi e sr imm last => Sys2Proof.Machine.execCmpi e sr imm last s
  | .movi e d imm last => Sys2Proof.Machine.execMovi e d imm last s
  | .asri e d sr sh last => Sys2Proof.Machine.execAsri e d sr sh last s
  | .lsri e d sr sh last => Sys2Proof.Machine.execLsri e d sr sh last s
  | .lsli e d sr sh last => Sys2Proof.Machine.execLsli e d sr sh last s
  | .bexp e sr last => Sys2Proof.Machine.execBexp e sr last s
  | .mac1 e a x c last => Sys2Proof.Machine.execMac1 e a x c last s
  | .msu1 e a x c last => Sys2Proof.Machine.execMsu1 e a x c last s
  | .mpy1 e a x c last => Sys2Proof.Machine.execMpy1 e a x c last s
  | .mpn1 e a x c last => Sys2Proof.Machine.execMpn1 e a x c last s
  | .mac2 e ap x0 x1 c last => Sys2Proof.Machine.execMac2 e ap x0 x1 c last s
  | .msu2 e ap x0 x1 c last => Sys2Proof.Machine.execMsu2 e ap x0 x1 c last s
  | .mpy2 e ap x0 x1 c last => Sys2Proof.Machine.execMpy2 e ap x0 x1 c last s
  | .mpn2 e ap x0 x1 c last => Sys2Proof.Machine.execMpn2 e ap x0 x1 c last s
  | .mac4o e dp cp last => Sys2Proof.Machine.execMac4o e dp cp last s
  | .msu4o e dp cp last => Sys2Proof.Machine.execMsu4o e dp cp last s
  | .mpy4o e dp cp last => Sys2Proof.Machine.execMpy4o e dp cp last s
  | .mpn4o e dp cp last => Sys2Proof.Machine.execMpn4o e dp cp last s
  | .mac4c e ap dp cp last => Sys2Proof.Machine.execMac4c e ap dp cp last s
  | .msu4c e ap dp cp last => Sys2Proof.Machine.execMsu4c e ap dp cp last s
  | .mpy4c e ap dp cp last => Sys2Proof.Machine.execMpy4c e ap dp cp last s
  | .mpn4c e ap dp cp last => Sys2Proof.Machine.execMpn4c e ap dp cp last s
  | .mac4j e ap dp cp last => Sys2Proof.Machine.execMac4j e ap dp cp last s
  | .msu4j e ap dp cp last => Sys2Proof.Machine.execMsu4j e ap dp cp last s
  | .mpy4j e ap dp cp last => Sys2Proof.Machine.execMpy4j e ap dp cp last s
  | .mpn4j e ap dp cp last => Sys2Proof.Machine.execMpn4j e ap dp cp last s
  | .cnv e d a sc last => Sys2Proof.Machine.execCnv e d a sc last s
  | .cnv2 e dp ap sc last => Sys2Proof.Machine.execCnv2 e dp ap sc last s
  | .ald e a d last => Sys2Proof.Machine.execAld e a d last s
  | .alds e a d last => Sys2Proof.Machine.execAlds e a d last s
  | .ald2 e dp ap last => Sys2Proof.Machine.execAld2 e dp ap last s
  | .alds2 e dp ap last => Sys2Proof.Machine.execAlds2 e dp ap last s
  | .aldq e dp last => Sys2Proof.Machine.execAldq e dp last s
  | .aadd e a b last => Sys2Proof.Machine.execAadd e a b last s
  | .asub e a b last => Sys2Proof.Machine.execAsub e a b last s
  | .amov e a b last => Sys2Proof.Machine.execAmov e a b last s
  | .aclr e a last => Sys2Proof.Machine.execAclr e a last s
  | .mvfh e a d last => Sys2Proof.Machine.execMvfh e a d last s
  | .mvfl e a d last => Sys2Proof.Machine.execMvfl e a d last s
  | .mvfg e a d last => Sys2Proof.Machine.execMvfg e a d last s
  | .mvth e a d last => Sys2Proof.Machine.execMvth e a d last s
  | .mvtl e a d last => Sys2Proof.Machine.execMvtl e a d last s
  | .mvtg e a d last => Sys2Proof.Machine.execMvtg e a d last s
  | .ld e d n mode ecc last => Sys2Proof.Machine.execLd e d n mode ecc last s
  | .ldp e d n mode last ecc => Sys2Proof.Machine.execLdp e d n mode last s ecc
  | .st e d n mode last => Sys2Proof.Machine.execSt e d n mode last s
  | .stp e d n mode last => Sys2Proof.Machine.execStp e d n mode last s
  | .ldd e d n d2 m last eccN eccM => Sys2Proof.Machine.execLdd e d n d2 m last s eccN eccM
  | .lddp e dp n ep m mn mm last eccN eccM => Sys2Proof.Machine.execLddp e dp n ep m mn mm last s eccN eccM
  | .modp e n mode last => Sys2Proof.Machine.execModp e n mode last s
  | .b e target last => Sys2Proof.Machine.execB e target last s
  | .bcc e cond off last => Sys2Proof.Machine.execBcc e cond off last s
  | .lbr e target last => Sys2Proof.Machine.execLbr e target last s
  | .br e sr last => Sys2Proof.Machine.execBr e sr last s
  | .rte e last => Sys2Proof.Machine.execRte e last s
  | .rpt e n1 last => Sys2Proof.Machine.execRpt e n1 last s
  | .rptr e sr last => Sys2Proof.Machine.execRptr e sr last s
  | .tend e last => Sys2Proof.Machine.execTend e last s
  | .movr e dst src last => Sys2Proof.Machine.execMovr e dst src last s
  | .moviz e dst imm last => Sys2Proof.Machine.execMoviz e dst imm last s
  | .adda e n imm last => Sys2Proof.Machine.execAdda e n imm last s
  | .dmaq e dir sr t u last => Sys2Proof.Machine.execDmaq e dir sr t u last s
  | .dmaw e k last => Sys2Proof.Machine.execDmaw e k last s
  | .dmaTransferComplete e => Sys2Proof.Machine.execDmaTransferComplete e s
  | .dmas e d last => Sys2Proof.Machine.execDmas e d last s
  | .mbr e d last => Sys2Proof.Machine.execMbr e d last s
  | .mbw e sr last => Sys2Proof.Machine.execMbw e sr last s
  | .ldi e d imm last => Sys2Proof.Machine.execLdi e d imm last s
  | .eventEntry e => Sys2Proof.Machine.execEventEntry e s
  | .engMboxInWrite e w => Sys2Proof.Machine.execEngMboxInWrite e w s
  | .routeStage => Sys2Proof.Machine.execRouteStage s
  | .delayTapWait idx => Sys2Proof.Machine.execDelayTapWait idx s
  | .mixStage => Sys2Proof.Machine.execMixStage s
  | .dynamicsStage => Sys2Proof.Machine.execDynamicsStage s
  | .psetDefine c => Sys2Proof.Machine.execPsetDefine c s
  | .psetUndefine c => Sys2Proof.Machine.execPsetUndefine c s
  | .psetLoad c => Sys2Proof.Machine.execPsetLoad c s
  | .psetWrite c => Sys2Proof.Machine.execPsetWrite c s
  | .psetCommit c => Sys2Proof.Machine.execPsetCommit c s
  | .psetCommitApply => Sys2Proof.Machine.execPsetCommitApply s
  | .shadowRefresh id => Sys2Proof.Machine.execShadowRefresh id s
  | .deferredChangeApply => Sys2Proof.Machine.execDeferredChangeApply s
  | .fadeEnd => Sys2Proof.Machine.execFadeEnd s
  | .meterRecordPost => Sys2Proof.Machine.execMeterRecordPost s
  | .propose p crcOk => Sys2Proof.Machine.execPropose p s crcOk
  | .agree id crcOk => Sys2Proof.Machine.execAgree id s crcOk
  | .refuse id reason crcOk => Sys2Proof.Machine.execRefuse id reason s crcOk
  | .withdraw id crcOk => Sys2Proof.Machine.execWithdraw id s crcOk
  | .commitAgreeTimeout id => Sys2Proof.Machine.execCommitAgreeTimeout id s
  | .streamStage c => Sys2Proof.Machine.execStreamStage c s
  | .streamCommit c => Sys2Proof.Machine.execStreamCommit c s
  | .streamCommitApply => Sys2Proof.Machine.execStreamCommitApply s
  | .transmitLaunch => Sys2Proof.Machine.execTransmitLaunch s
  | .transmitLateDrop port => Sys2Proof.Machine.execTransmitLateDrop port s
  | .mediaFrameReceive src frame raw bufs crcOk => Sys2Proof.Machine.execMediaFrameReceive src frame raw s bufs crcOk
  | .streamRunningTimeout idx => Sys2Proof.Machine.execStreamRunningTimeout idx s
  | .partnerOwnAssert => Sys2Proof.Machine.execPartnerOwnAssert s
  | .ownGuardExpire => Sys2Proof.Machine.execOwnGuardExpire s
  | .ownAssert => Sys2Proof.Machine.execOwnAssert s
  | .ownSettleEnd => Sys2Proof.Machine.execOwnSettleEnd s
  | .ownRetryExpire => Sys2Proof.Machine.execOwnRetryExpire s
  | .ownRelease => Sys2Proof.Machine.execOwnRelease s
  | .ownReqClear => Sys2Proof.Machine.execOwnReqClear s
  | .takeoverPwmEntry c => Sys2Proof.Machine.execTakeoverPwmEntry c s
  | .pairingAttempt => Sys2Proof.Machine.execPairingAttempt s
  | .hello m crcOk => Sys2Proof.Machine.execHello m s crcOk
  | .helloTimeout => Sys2Proof.Machine.execHelloTimeout s
  | .heartbeat m => Sys2Proof.Machine.execHeartbeat m s
  | .heartbeatLoss => Sys2Proof.Machine.execHeartbeatLoss s
  | .digestSend => Sys2Proof.Machine.execDigestSend s
  | .digest tick value worst owner crcOk => Sys2Proof.Machine.execDigest tick value worst owner s crcOk
  | .digestCompare => Sys2Proof.Machine.execDigestCompare s
  | .tickBoundaryMarker rxOffset => Sys2Proof.Machine.execTickBoundaryMarker rxOffset s
  | .laneset mask tick crcOk => Sys2Proof.Machine.execLaneset mask tick s crcOk
  | .rsStep n tick crcOk => Sys2Proof.Machine.execRsStep n tick s crcOk
  | .resyncStepStart cfg => Sys2Proof.Machine.execResyncStepStart cfg s
  | .mirror tick slot block crcOk => Sys2Proof.Machine.execMirror tick slot block s crcOk
  | .stateTransfer tick unit off data crcOk => Sys2Proof.Machine.execStateTransfer tick unit off data s crcOk
  | .resyncFinal => Sys2Proof.Machine.execResyncFinal s
  | .handoverRequest => Sys2Proof.Machine.execHandoverRequest s
  | .hoPropose h owner crcOk => Sys2Proof.Machine.execHoPropose h owner s crcOk
  | .hoAgree h crcOk => Sys2Proof.Machine.execHoAgree h s crcOk
  | .hoRefuse h reason crcOk => Sys2Proof.Machine.execHoRefuse h reason s crcOk
  | .handoverAgreeTimeout => Sys2Proof.Machine.execHandoverAgreeTimeout s
  | .handoverPinSwitch g => Sys2Proof.Machine.execHandoverPinSwitch g s
  | .handoverOwnChange => Sys2Proof.Machine.execHandoverOwnChange s
  | .handoverComplete => Sys2Proof.Machine.execHandoverComplete s
  | .handoverCancel => Sys2Proof.Machine.execHandoverCancel s
  | .revertRequest => Sys2Proof.Machine.execRevertRequest s
  | .tdmSlip tick port ev pos crcOk => Sys2Proof.Machine.execTdmSlip tick port ev pos s crcOk
  | .pwmPeriodStart c j captured pstage sclk theirTrip => Sys2Proof.Machine.execPwmPeriodStart c j captured pstage s sclk theirTrip
  | .channelTrip c bits => Sys2Proof.Machine.execChannelTrip c bits s
  | .faultNAssert c => Sys2Proof.Machine.execFaultNAssert c s
  | .channelTimerExpire c => Sys2Proof.Machine.execChannelTimerExpire c s
  | .channelStart c => Sys2Proof.Machine.execChannelStart c s
  | .channelStop c => Sys2Proof.Machine.execChannelStop c s
  | .checkStart c => Sys2Proof.Machine.execCheckStart c s
  | .checkEnd c => Sys2Proof.Machine.execCheckEnd c s
  | .channelMute pllLock => Sys2Proof.Machine.execChannelMute pllLock s
  | .modChCtrlClr c => Sys2Proof.Machine.execModChCtrlClr c s
  | .impedanceWindowEnd c => Sys2Proof.Machine.execImpedanceWindowEnd c s
  | .impedanceLearn c => Sys2Proof.Machine.execImpedanceLearn c s
  | .powerSubblockEnd c => Sys2Proof.Machine.execPowerSubblockEnd c s
  | .timebaseLoss => Sys2Proof.Machine.execTimebaseLoss s
  | .timebaseRelock => Sys2Proof.Machine.execTimebaseRelock s
  | .modFswWrite w => Sys2Proof.Machine.execModFswWrite w s
  | .modDitherWrite w => Sys2Proof.Machine.execModDitherWrite w s
  | .modApplyLoWrite w => Sys2Proof.Machine.execModApplyLoWrite w s
  | .modStagedApply => Sys2Proof.Machine.execModStagedApply s
  | .modIfirDataRead => Sys2Proof.Machine.execModIfirDataRead s
  | .snsClkCfgWrite w => Sys2Proof.Machine.execSnsClkCfgWrite w s
  | .oscillatorFault => Sys2Proof.Machine.execOscillatorFault s
  | .refWindowEnd n active ppb stable => Sys2Proof.Machine.execRefWindowEnd n active ppb s stable
  | .refQualify n => Sys2Proof.Machine.execRefQualify n s
  | .refMissingEdges n => Sys2Proof.Machine.execRefMissingEdges n s
  | .refRateChange n => Sys2Proof.Machine.execRefRateChange n s
  | .ptpSyncMissing portB => Sys2Proof.Machine.execPtpSyncMissing portB s
  | .phaseDetectorUpdate n phase => Sys2Proof.Machine.execPhaseDetectorUpdate n phase s
  | .dpllLock => Sys2Proof.Machine.execDpllLock s
  | .dpllUnlock => Sys2Proof.Machine.execDpllUnlock s
  | .holdoverUpdate theta => Sys2Proof.Machine.execHoldoverUpdate theta s
  | .tickSlew sr => Sys2Proof.Machine.execTickSlew sr s
  | .networkTimeStep sr => Sys2Proof.Machine.execNetworkTimeStep sr s
  | .realign => Sys2Proof.Machine.execRealign s
  | .holdoverLoad => Sys2Proof.Machine.execHoldoverLoad s
  | .timSet => Sys2Proof.Machine.execTimSet s
  | .timAdjCommit => Sys2Proof.Machine.execTimAdjCommit s
  | .timerArm k w => Sys2Proof.Machine.execTimerArm k w s
  | .timerFire k => Sys2Proof.Machine.execTimerFire k s
  | .ppsOutEdge => Sys2Proof.Machine.execPpsOutEdge s
  | .ppsInEdge => Sys2Proof.Machine.execPpsInEdge s
  | .rtcSet => Sys2Proof.Machine.execRtcSet s
  | .rtcSvcWrite w hours => Sys2Proof.Machine.execRtcSvcWrite w hours s
  | .serviceHour => Sys2Proof.Machine.execServiceHour s
  | .mgmtFrameLaunch port k desc frame => Sys2Proof.Machine.execMgmtFrameLaunch port k desc frame s
  | .serialReferenceLoss => Sys2Proof.Machine.execSerialReferenceLoss s
  | .signalDetectAssert l => Sys2Proof.Machine.execSignalDetectAssert l s
  | .signalDetectDeassert l => Sys2Proof.Machine.execSignalDetectDeassert l s
  | .cdrLock l => Sys2Proof.Machine.execCdrLock l s
  | .cdrTimeout l => Sys2Proof.Machine.execCdrTimeout l s
  | .blockLock l headers sync => Sys2Proof.Machine.execBlockLock l s headers sync
  | .huntTimeout l => Sys2Proof.Machine.execHuntTimeout l s
  | .lockLoss l invalid synced => Sys2Proof.Machine.execLockLoss l invalid s synced
  | .polarityCheck l badDirect badInverted => Sys2Proof.Machine.execPolarityCheck l badDirect badInverted s
  | .trainingBlock l inverted payload => Sys2Proof.Machine.execTrainingBlock l inverted payload s
  | .trainTimeout l => Sys2Proof.Machine.execTrainTimeout l s
  | .sdsRestart l => Sys2Proof.Machine.execSdsRestart l s
  | .laneTestEntry l prbs w => Sys2Proof.Machine.execLaneTestEntry l prbs w s
  | .prbsInject l => Sys2Proof.Machine.execPrbsInject l s
  | .prbsClear l => Sys2Proof.Machine.execPrbsClear l s
  | .prbsLockLoss l bits errs last => Sys2Proof.Machine.execPrbsLockLoss l bits errs s last
  | .sdsPrbsBitsLoRead l bits errs => Sys2Proof.Machine.execSdsPrbsBitsLoRead l bits errs s
  | .linkChange n up faults sgmii => Sys2Proof.Machine.execLinkChange n up faults sgmii s
  | .macFrameReceive n frame fecBad room raw bufs fecCorr => Sys2Proof.Machine.execMacFrameReceive n frame fecBad room raw bufs s fecCorr
  | .pauseFrame n quanta => Sys2Proof.Machine.execPauseFrame n quanta s
  | .pauseEnd n => Sys2Proof.Machine.execPauseEnd n s
  | .lpiEntry rx => Sys2Proof.Machine.execLpiEntry s rx
  | .lpiExit rx => Sys2Proof.Machine.execLpiExit s rx
  | .anRestart => Sys2Proof.Machine.execAnRestart s
  | .macCfgWrite n w => Sys2Proof.Machine.execMacCfgWrite n w s
  | .macCtrlWrite n w => Sys2Proof.Machine.execMacCtrlWrite n w s
  | .mgmtFrameComplete port raw => Sys2Proof.Machine.execMgmtFrameComplete port raw s
  | .nop c => Sys2Proof.Machine.execNop c s
  | .copyIn c => Sys2Proof.Machine.execCopyIn c s
  | .copyOut c => Sys2Proof.Machine.execCopyOut c s
  | .regWrite c => Sys2Proof.Machine.execRegWrite c s
  | .fltAck c => Sys2Proof.Machine.execFltAck c s
  | .twiXfer c fw => Sys2Proof.Machine.execTwiXfer c s fw
  | .badOpcode c => Sys2Proof.Machine.execBadOpcode c s
  | .timedCommandEffect => Sys2Proof.Machine.execTimedCommandEffect s
  | .completionWrite => Sys2Proof.Machine.execCompletionWrite s
  | .hifRingCtrlWrite r w => Sys2Proof.Machine.execHifRingCtrlWrite r w s
  | .hifRingBaseSizeWrite r which w => Sys2Proof.Machine.execHifRingBaseSizeWrite r which w s
  | .hifCtrlWrite w => Sys2Proof.Machine.execHifCtrlWrite w s
  | .pcieReset => Sys2Proof.Machine.execPcieReset s
  | .hostDmaFail k addr => Sys2Proof.Machine.execHostDmaFail k addr s
  | .bar0BadAccess write => Sys2Proof.Machine.execBar0BadAccess write s
  | .followFrame p edge bclks din others => Sys2Proof.Machine.execFollowFrame p edge bclks din s others
  | .tdmSlipSend p => Sys2Proof.Machine.execTdmSlipSend p s
  | .tdmLoss p => Sys2Proof.Machine.execTdmLoss p s
  | .tdmApplyLoWrite w => Sys2Proof.Machine.execTdmApplyLoWrite w s
  | .tdmStagedApply => Sys2Proof.Machine.execTdmStagedApply s
  | .decodeError addr master write => Sys2Proof.Machine.execDecodeError addr master write s
  | .sramUncorrectable addr master hit => Sys2Proof.Machine.execSramUncorrectable addr master hit s
  | .masterDrain m => Sys2Proof.Machine.execMasterDrain m s
  | .drainComplete m cycles landed => Sys2Proof.Machine.execDrainComplete m cycles s landed
  | .marchRequest w => Sys2Proof.Machine.execMarchRequest w s
  | .marchComplete failing => Sys2Proof.Machine.execMarchComplete failing s
  | .refreshIntervalExpire r panic rt => Sys2Proof.Machine.execRefreshIntervalExpire r panic s rt
  | .refIssue r rt => Sys2Proof.Machine.execRefIssue r s rt
  | .forcedRefreshBatch r => Sys2Proof.Machine.execForcedRefreshBatch r s
  | .ddrTempWrite w => Sys2Proof.Machine.execDdrTempWrite w s
  | .ddrTempStale => Sys2Proof.Machine.execDdrTempStale s
  | .dramUncorrectable addr master hit => Sys2Proof.Machine.execDramUncorrectable addr master hit s
  | .dramCorrectionRate count => Sys2Proof.Machine.execDramCorrectionRate count s
  | .ddrCfgWrite w => Sys2Proof.Machine.execDdrCfgWrite w s
  | .trainingStep w => Sys2Proof.Machine.execTrainingStep w s
  | .trainingStepDone pass errs ends => Sys2Proof.Machine.execTrainingStepDone pass errs ends s
  | .dramInit => Sys2Proof.Machine.execDramInit s
  | .dramInitDone => Sys2Proof.Machine.execDramInitDone s
  | .selfRefreshRequest => Sys2Proof.Machine.execSelfRefreshRequest s
  | .selfRefreshExit => Sys2Proof.Machine.execSelfRefreshExit s
  | .localRepair sr => Sys2Proof.Machine.execLocalRepair sr s
  | .conditionEnd sr => Sys2Proof.Machine.execConditionEnd sr s
  | .fltAckLoWrite w => Sys2Proof.Machine.execFltAckLoWrite w s
  | .faultInject w => Sys2Proof.Machine.execFaultInject w s
  | .fltLogDataRead => Sys2Proof.Machine.execFltLogDataRead s
  | .mwUnlock w1 w2 w3 => Sys2Proof.Machine.execMwUnlock w1 w2 w3 s
  | .debugAttach => Sys2Proof.Machine.execDebugAttach s
  | .twiTargetWrite bytes addr => Sys2Proof.Machine.execTwiTargetWrite bytes s addr
  | .twiTargetReadFetch first n addr => Sys2Proof.Machine.execTwiTargetReadFetch first n s addr
  | .twiTargetBusyNack addr => Sys2Proof.Machine.execTwiTargetBusyNack s addr
  | .twiTargetStretchTimeout => Sys2Proof.Machine.execTwiTargetStretchTimeout s
  | .twiTargetProtocolError acked start addr => Sys2Proof.Machine.execTwiTargetProtocolError acked start s addr
  | .twiTransferComplete n nackAt rd data => Sys2Proof.Machine.execTwiTransferComplete n nackAt rd s data
  | .twiStretchTimeout n low released => Sys2Proof.Machine.execTwiStretchTimeout n s low released
  | .twiArbitrationLost n => Sys2Proof.Machine.execTwiArbitrationLost n s
  | .twiBusClear n sdaLow pulses => Sys2Proof.Machine.execTwiBusClear n sdaLow pulses s
  | .twiBusClearRetry n pulses => Sys2Proof.Machine.execTwiBusClearRetry n pulses s
  | .twiCfgWrite n w => Sys2Proof.Machine.execTwiCfgWrite n w s
  | .vinOutOfRange vin => Sys2Proof.Machine.execVinOutOfRange vin s
  | .vinLoss vin vbat => Sys2Proof.Machine.execVinLoss vin vbat s
  | .powerOnReset vin => Sys2Proof.Machine.execPowerOnReset s vin
  | .temperatureSample t => Sys2Proof.Machine.execTemperatureSample t s
  | .vinSample vin => Sys2Proof.Machine.execVinSample vin s
  | .pwrDomReqWrite src w => Sys2Proof.Machine.execPwrDomReqWrite src w s
  | .domainRelease d failing => Sys2Proof.Machine.execDomainRelease d failing s
  | .regulatorFault d => Sys2Proof.Machine.execRegulatorFault d s
  | .resetNAssert => Sys2Proof.Machine.execResetNAssert s
  | .warmResetWrite w => Sys2Proof.Machine.execWarmResetWrite w s
  | .warmReset => Sys2Proof.Machine.execWarmReset s
  | .coldReset => Sys2Proof.Machine.execColdReset s
  | .resetConditionScan present => Sys2Proof.Machine.execResetConditionScan present s
  | .bootAttempt img => Sys2Proof.Machine.execBootAttempt img s
  | .bootWaitExpire => Sys2Proof.Machine.execBootWaitExpire s
  | .bootOk => Sys2Proof.Machine.execBootOk s
  | .bootFailReport => Sys2Proof.Machine.execBootFailReport s
  | .bootWatchdogExpire => Sys2Proof.Machine.execBootWatchdogExpire s
  | .reload => Sys2Proof.Machine.execReload s
  | .reloadTimeout => Sys2Proof.Machine.execReloadTimeout s
  | .coreWatchdogExpire core => Sys2Proof.Machine.execCoreWatchdogExpire core s
  | .sysWdtKick core => Sys2Proof.Machine.execSysWdtKick core s
  | .ptpPortLeavesSlave portB => Sys2Proof.Machine.execPtpPortLeavesSlave portB s
  | .senseBitstreamOverload c cur bits => Sys2Proof.Machine.execSenseBitstreamOverload c cur s bits
  | .prbsCheckerLock l bits => Sys2Proof.Machine.execPrbsCheckerLock l s bits
  | .busMasterEnableChange on => Sys2Proof.Machine.execBusMasterEnableChange on s
  | .vinReturn vin => Sys2Proof.Machine.execVinReturn s vin
  | .resetNRelease => Sys2Proof.Machine.execResetNRelease s
  | .controllerProtocolError n holdsBus => Sys2Proof.Machine.execControllerProtocolError n holdsBus s

end Sys2Proof.Machine
end

