-- ==== Sys2Proof/Safety.lean ====
section
/-!
DEFINITION. The terms in which the statements speak: the canonical form of the sparse tables, what a command keeps, and the
blocks' conditions under which a command has its effect.
-/

namespace Sys2Proof.Machine

/-- Memory and registers are in canonical form: addresses strictly rising, no entry equal to what an unlisted one reads as. -/
structure State.Canonical (s : State) : Prop where
  mem : memWf s.mem
  regs : Tbl.wf resetWord s.regs

/-- Every register reads as before but those listed. -/
def State.KeepsRegs (s t : State) (l : List Nat) : Prop := ∀ o, o ∉ l → t.reg o = s.reg o

/-- Every byte of memory reads as before. -/
def State.KeepsMem (s t : State) : Prop := ∀ a, t.byte a = s.byte a

/-- Every byte of memory reads as before but those of the `n` bytes from `a`. -/
def State.KeepsMemBut (s t : State) (a n : Nat) : Prop := ∀ b, (b < a ∨ a + n ≤ b) → t.byte b = s.byte b

/-- The straps and the identity of the part are as before. -/
def State.SameStraps (s t : State) : Prop :=
  t.moduleId = s.moduleId ∧ t.pref = s.pref ∧ t.twiAddr = s.twiAddr ∧ t.testMode = s.testMode

/-- The command of opcode `op` is at the front of its ring, its ring may parse it, and its descriptor is sound (R350 to R352). -/
structure State.Takes (s : State) (c : HostCmd) (op : Nat) : Prop where
  opcode : cmdOp c = op
  parse : s.mayParse c.ring = true
  sound : badDesc c = none

/-- The engine runs, no earlier slot of the bundle has faulted, and the slot's destinations are not yet named in the bundle (R71,
R116, R118). -/
structure State.Issues (s : State) (e : Nat) (names : List Nat) : Prop where
  runs : (s.engine e).st = .running
  clean : (s.engine e).faulted = none
  single : hasDup ((s.engine e).named ++ names) = false

/-- The bundle is neither a delay slot nor a repetition (R107, R108). -/
structure Engine.Free (g : Engine) : Prop where
  delay : g.inDelay = false
  repeats : g.repeating = false

/-- What a slot does whose whole effect is results on their way (R105): it names its destinations, the results fly, and the bundle
closes where the slot is its last. -/
def State.slot (s : State) (e : Nat) (names : List Nat) (fs : List Flight) (last : Bool) : State :=
  (s.setEngine e { s.engine e with
    named := (s.engine e).named ++ names, partway := true, flights := (s.engine e).flights ++ fs }).close e last

/-- Flags on their way (R93, R105): z and n of the value, c and v as given; branches see them later. -/
def flagsOut (val : Word) (c v : Bool) : List Flight :=
  [⟨1, .flags (val = 0) (val.toInt < 0) c v⟩, ⟨3, .brFlags (val = 0) (val.toInt < 0) c v⟩]

/-- An ALU result on its way into Dd with its flags (R93, R105). -/
def aluOut (d : Nat) (val : Word) (c v : Bool) : List Flight := toD d val 1 ++ flagsOut val c v

/-- One command message, of class 3, joined the messages that wait for the partner link (R228, R229): its sequence number, its
subtype, a tag that the spec leaves open, its arguments. Nothing else was sent. -/
def State.SendsCmd (s t : State) (sub : Byte) (args : List Byte) : Prop :=
  t.outbox = s.outbox ∧
    ∃ tag : Nat, t.twn.msgs = s.twn.msgs ++ [⟨3, Tbl.get (fun _ => 0) s.twn.msgSeq 3, [sub, 0] ++ beBytes 2 tag ++ args⟩]

/-- The word of a saturating counter after one more count (R37). -/
def counted (w : Word) : Word := word (min (w.toNat + 1) 0xFFFFFFFF)

/-- From `s` to `t`, task i of engine e ended as failed with a reason (R71): recorded and counted, source 2 raised, the engine free;
memory and time are as before. -/
structure State.Fails (s t : State) (e i reason : Nat) : Prop where
  stat : t.stat i = .failed
  free : (t.engine e).task = none ∧ (t.engine e).st = .idle
  info : t.reg R.FAB_FAIL_INFO = word (i % 2 ^ 14 + reason * 2 ^ 16 + e * 2 ^ 24)
  count : t.reg R.FAB_TASK_FAIL_CNT = counted (s.reg R.FAB_TASK_FAIL_CNT)
  raised : t.latched 2 = true
  mem : t.mem = s.mem
  clk : t.clk = s.clk

end Sys2Proof.Machine
end

