-- ==== Sys2Proof/Certificates/Slice0/Obligations.lean ====
section
/-!
DEFINITION. The statements for the provers: whole-machine rules first, then the commands family by family in the order
of spec/opcode_table.json. A result statement gives the next state that the rules give, or what it holds and what it keeps.
-/

open Sys2Proof Sys2Proof.Machine

/-- For every command c, queue rest and state s whose queue is c followed by that rest, a step at s is exec of c on s with
the rest as its queue. The queue is the model's form of a block that is sent commands (log entry 1). -/
def Obligations.StepRunsTheFrontCommand : Prop :=
  ∀ (c : Instr) (rest : List Instr) (s : State), s.pending = c :: rest → step s = exec c { s with pending := rest }

/-- With an empty queue and PD_CTRL on, and no domain released in the cycle before (log entry 4), a step moves the FREE count, the
calendar and the powered time on by one engine clock cycle, five units of 1/6 ns (the calendar by as much as the correction of RTC_CAL
makes of them, five where it is 0), and the position in the tick by the whole units that the grid's rate makes of them, five at the
nominal rate; the tick's number, memory, engines and scheduled actions stay, and so does every register but PWR_DOM_BUSY (R475). Where
no message waits for the partner, no PPS_OUT pulse runs, no power-on sequence waits and no TDM port times frames of its own, nothing
is sent and no register changes. At the tick's end time stands still, and registers, memory and engines stay. That the empty queue
stands for passing time is the model's choice (log entry 1). -/
def Obligations.EmptyQueueLetsOneCyclePass : Prop :=
  ∀ s : State, s.pending = [] → s.domOn 1 = true → s.pwr.levels = [] →
    let c := s.clk.frac + 5 * s.gridRate
    let pos := s.clk.tickPos + (c / s.gridDen).toNat
    (s.clk.frac = 0 → s.gridRate = s.gridDen → pos = s.clk.tickPos + 5) ∧
    (s.fld F.RTC_CAL_corr = 0 → s.calRate = 10 ^ 8) ∧
    (pos < s.tickLen → ∃ t, step s = .next t ∧ t.clk.tickPos = pos ∧ t.clk.frac = c % s.gridDen ∧ t.clk.tickNum = s.clk.tickNum ∧
      t.clk.freeU = s.clk.freeU + 5 ∧ t.clk.svcU = s.clk.svcU + 5 ∧
      (s.pwr.aon = true → t.clk.rtcU = s.clk.rtcU + (s.clk.rtcF + 5 * s.calRate) / 10 ^ 8 ∧
        t.clk.rtcF = (s.clk.rtcF + 5 * s.calRate) % 10 ^ 8) ∧
      s.KeepsRegs t [R.PWR_DOM_BUSY] ∧ t.mem = s.mem ∧ t.eng = s.eng ∧ t.sched = s.sched ∧ t.run = s.run ∧ t.fab = s.fab ∧
      (s.twn.msgs = [] → s.clkx.ppsEnd = none → s.pwr.seq = [] → (∀ p : Fin 16, s.portMaster p = false) →
        t.outbox = s.outbox ∧ s.KeepsRegs t [])) ∧
    (¬ pos < s.tickLen → ∃ t, step s = .next t ∧ t.clk = s.clk ∧ s.KeepsRegs t [] ∧ t.mem = s.mem ∧ t.eng = s.eng ∧
      t.sched = s.sched ∧ t.run = s.run ∧ t.fab = s.fab)

/-- For every command c and every state s, exec of c on s answers a next state: a faulty, refused or misplaced command shows
in the block's own status, counters and fault sources, and never stops the machine. -/
def Obligations.EveryCommandAnswersANextState : Prop :=
  ∀ (c : Instr) (s : State), ∃ t, exec c s = .next t

/-- For every command c and states s, t: where exec of c on s answers t, the queue of t is the queue of s, and module ID, PREF,
TWI address and TEST_MODE straps read in t as in s. This covers every reset and every power event too: they return registers and
memories to their reset contents and leave the straps. Both clauses are the model's choice: the queue and who sends into it are log
entries 1 and 36, and that the straps are fields which no command changes is log entry 6. -/
def Obligations.CommandsLeaveQueueAndStraps : Prop :=
  ∀ (c : Instr) (s t : State), exec c s = .next t → t.pending = s.pending ∧ s.SameStraps t

/-- For every state s whose memory and register file are in canonical form (addresses strictly rising, no entry equal to the
reset contents), if a step at s answers t, then the memory and the register file of t are in canonical form: equal contents are
equal data after every command, store, transfer, reset and power event. -/
def Obligations.CanonicalFormIsKept : Prop :=
  ∀ s t : State, s.Canonical → step s = .next t → t.Canonical

/-- In State.reset every register holds its reset word of the register index, every byte of memory is 0, no tick runs, no graph is
loaded, nothing was sent and no command waits, and memory and register file are in canonical form. The model's choice: that bytes never
written are 0 (log entry 5), that the state stands before the power-on sequence, with nothing running and an empty outbox (log entry 8),
and the values of registers and words for which the register index gives none (log entries 6 and 50). -/
def Obligations.ResetState : Prop :=
  (∀ o, State.reset.reg o = resetWord o) ∧ (∀ a, State.reset.byte a = 0) ∧ State.reset.run = .stopped ∧
    State.reset.fab.graph = none ∧ State.reset.outbox = [] ∧ State.reset.pending = [] ∧ State.reset.Canonical

/-- With PD_CTRL on, TCK_CFG_WRITE of w: while the tick runs, or where fs_sel is 3, link_off is 0 or above 16, or launch_off is above
8 T with the T that w selects, the only change is cfg_err; else TCK_CFG holds w's fields, and memory, the run state and the scheduled
actions are as before. With fs and T as they were, so are every other register and the clock; else TICK_NUM is the number of the tick
of the new length in which the present time lies (R517), and of the other registers only those that follow the tick's length may
change: STR_ACTIVE, STR_CH_USED and STR_BW (R213). -/
def Obligations.TickConfigurationWrite : Prop :=
  ∀ (w : Word) (s : State), s.domOn 1 = true →
    let bad := bitsOf w 1 0 = 3 ∨ bitsOf w 12 8 = 0 ∨ 16 < bitsOf w 12 8 ∨ 8 * tSamples (bitsOf w 3 2) < bitsOf w 24 16
    (s.ticking = true ∨ bad → exec (.tckCfgWrite w) s = .next (s.setFlag F.TCK_STATUS_cfg_err true)) ∧
    (s.ticking = false → ¬ bad → ∃ t, exec (.tckCfgWrite w) s = .next t ∧ t.reg R.TCK_CFG = w &&& 0x1FF1F0F#32 ∧
      t.mem = s.mem ∧ t.run = s.run ∧ t.sched = s.sched ∧ t.outbox = s.outbox ∧
      (bitsOf w 3 0 = bitsOf (s.reg R.TCK_CFG) 3 0 → t.clk = s.clk ∧ s.KeepsRegs t [R.TCK_CFG]) ∧
      (bitsOf w 3 0 ≠ bitsOf (s.reg R.TCK_CFG) 3 0 → t.tickNum = s.timeU / t.tickU ∧ t.clk.tickPos = s.timeU % t.tickU ∧
        s.KeepsRegs t [R.TCK_CFG, R.STR_ACTIVE, R.STR_CH_USED, R.STR_BW 0, R.STR_BW 1, R.STR_BW 2]))

/-- With PD_CTRL on: setting run of a stopped tick arms the start at TCK_START, for a boundary still to come (R20); clearing it
ends an armed start, and lets a running tick complete (R21); nothing but the run bit and the run state changes. That the START which
counts is the pair's value at the write that sets run is the model's choice (log entry 19). A write of
TCK_START_LO takes the word held for TCK_START_HI with it (R36), and changes no other register, no memory and not the run state. -/
def Obligations.TickRunIsSetAndCleared : Prop :=
  ∀ (w : Word) (n : Nat) (p : Bool) (s : State), s.domOn 1 = true →
    (s.run = .stopped → exec .tickRunSet s =
      .next { s.setFlag F.TCK_CTRL_run true with run := .armed (s.pair R.TCK_START_LO R.TCK_START_HI) false }) ∧
    (s.run = .armed n p → exec .tickRunClear s = .next { s.setFlag F.TCK_CTRL_run false with run := .stopped }) ∧
    (s.run = .running → exec .tickRunClear s = .next { s.setFlag F.TCK_CTRL_run false with run := .stopping }) ∧
    ∃ t, exec (.tckStartLoWrite w) s = .next t ∧ t.reg R.TCK_START_LO = w ∧
      t.reg R.TCK_START_HI = Tbl.get (fun _ => s.reg R.TCK_START_HI) s.whold R.TCK_START_HI ∧
      s.KeepsRegs t [R.TCK_START_LO, R.TCK_START_HI] ∧ t.mem = s.mem ∧ t.run = s.run ∧ t.sched = s.sched

/-- With PD_CTRL on. At a boundary that follows the write, from the number asked for on, TICK_START sets TCK_STATUS.running, the
first tick begins, every output slot reads zero until its first commit (R20), and of the registers only TCK_STATUS, the cycle
counts of a graph without work and the orphan flags (R139) change. TICK_STOP two boundaries after the last processed tick clears running and leaves no
committed block (R21), and changes nothing else where run was not set again. -/
def Obligations.TickStartsAndStops : Prop :=
  ∀ (n : Nat) (s : State), s.domOn 1 = true →
    (s.run = .armed n true → n ≤ s.tickNum → s.clk.tickPos = 0 → s.sram.noAudio = false →
      ∃ t, exec .tickStart s = .next t ∧ t.run = .running ∧ t.ticking = true ∧ t.clk.ranTick = true ∧ t.fab.com = [] ∧
        t.fab.comTick = none ∧ s.KeepsRegs t [R.TCK_STATUS, R.FAB_LAST_CYC, R.FAB_PEAK_CYC, R.RTE_STATUS, R.MIX_STATUS, R.DYN_STATUS] ∧ t.mem = s.mem ∧
        t.clk = { s.clk with ranTick := true } ∧ t.eng = s.eng ∧ t.outbox = s.outbox) ∧
    (s.run = .ending → s.flag F.TCK_CTRL_run = false → exec .tickStop s =
      .next { s.setFlag F.TCK_STATUS_running false with
        run := .stopped, fab := { s.fab with com := [], comTick := none, comOld := none } })

/-- With PD_CTRL on and no scheduled action waiting, where the boundary cannot set the clock itself (a reference that it newly selects
because the partner's markers stopped moves a stopped grid in FREERUN, R290), TICK_BOUNDARY answers a state in which TICK_NUM is the coming tick's number (the
next number, or the number that a step of the time gives), the position in the tick is 0, a slewed length and a pending step are
spent (R16, R22, R293, R294), and the run state has moved on: an armed start has met its boundary, a tick whose run bit stayed
cleared is being output, and after that the outputs are to end (R20, R21). -/
def Obligations.BoundaryOpensTheNextTick : Prop :=
  ∀ (seen : TickSeen) (s : State), s.domOn 1 = true → s.sched = [] → (s.twn.marker = false ∨ s.dpll ≠ 0 ∨ s.ticking = true) →
    ∃ t, exec (.tickBoundary seen) s = .next t ∧ t.tickNum = s.comingTick ∧ t.clk.tickPos = 0 ∧ t.clk.lenU = none ∧
      t.clk.commitAs = none ∧
      (∀ n p, s.run = .armed n p → t.run = .armed n true) ∧ (s.run = .stopped → t.run = .stopped) ∧
      (s.run = .running → t.run = .running) ∧
      (s.run = .stopping → s.flag F.TCK_CTRL_run = false → t.run = .draining) ∧ (s.run = .draining → t.run = .ending)

/-- With PD_CTRL on, while the graph of the tick is not done: TICK_OVERRUN_WARNING, once in the tick, sets wm_seen, raises source 0
with W and the phase as its data word and counts it (R64), and changes nothing else; TICK_DEADLINE sets overrun, records the
tick, and leaves every task of the graph completed, failed or aborted and every engine without a task (R65), memory and the run
state as before. -/
def Obligations.WatermarkAndDeadline : Prop :=
  ∀ s : State, s.domOn 1 = true → s.graphLate = true →
    (s.fab.warned = false → exec .tickOverrunWarning s =
      .next ((({ s with fab := { s.fab with warned := true } }.setFlag F.FAB_STATUS_wm_seen true).raise 0
        (word (s.watermark % 2 ^ 20 + s.fab.phase.getD 0 % 64 * 2 ^ 20))).count R.FAB_WM_CNT)) ∧
    ∃ t, exec .tickDeadline s = .next t ∧ t.fab.overran = true ∧ t.flag F.FAB_STATUS_overrun = true ∧
      t.pair R.FAB_OVR_TICK_LO R.FAB_OVR_TICK_HI = s.tickNum % 2 ^ 64 ∧
      (∀ i, i < s.tasks.length → t.stat i = .done ∨ t.stat i = .failed ∨ t.stat i = .aborted) ∧
      (∀ e, e < 96 → (t.engine e).task = none) ∧ t.mem = s.mem ∧ t.run = s.run ∧ t.clk = s.clk

/-- While a fetch is under way: DOORBELL_FETCH_COMPLETE with a block of bytes takes the host tag, and the producer index of command
ring 0 where the ring is enabled and the index lies within it (R344, R346); DOORBELL_FETCH_LATE counts, sets dbf_late, and keeps
every index (R24). While ring traffic is possible, the first SHADOW_BLOCK_WRITE of a tick writes the shadow block (R347). Registers
but the named ones, and memory, stay. -/
def Obligations.DoorbellFetchAndShadow : Prop :=
  ∀ (db : List Byte) (s : State),
    (s.hif.fetching = true →
      (∃ t, exec (.doorbellFetchComplete db) s = .next t ∧ t.hif.fetched = true ∧ t.hif.fetching = false ∧
        t.hif.hostTag = leAt db 48 4 ∧
        ((s.ring 0).en = true → leAt db 0 4 ≠ (s.ring 0).prod → Sys2Proof.Machine.dist (leAt db 0 4) (s.ring 0).cons ≤ s.ringSize 0 →
          (t.ring 0).prod = leAt db 0 4) ∧
        s.KeepsRegs t [R.HIF_STATUS, R.HIF_RING_ERR] ∧ t.mem = s.mem ∧ t.clk = s.clk) ∧
      exec .doorbellFetchLate s = .next { (s.count R.TCK_DBF_LATE_CNT).setFlag F.TCK_STATUS_dbf_late true with
        hif := { s.hif with fetching := false, late := true } }) ∧
    (s.traffic = true → s.hif.shadowed = false → ∃ t, exec .shadowBlockWrite s = .next t ∧ t.hif.shadowed = true ∧
      .hostWrite (s.pair R.HIF_SH_ADDR_LO R.HIF_SH_ADDR_HI / 64 * 64) s.shadowBlock ∈ t.outbox ∧
      s.KeepsRegs t [] ∧ t.mem = s.mem ∧ t.clk = s.clk)

/-- For a register at an offset whose block answers, without a read rule of its own: CAPTURE_REGISTER_READ and COUNTER_READ_CLEAR
return the word of the register now, or its holding register where it is a companion, with write-only bits 0; every companion of
the offset is captured from the same instant; the rc bits clear; and every other register and memory stay. TCK_NUM_LO_READ
returns the low word of TICK_NUM and captures its high word. -/
def Obligations.RegisterReadsCaptureAndClear : Prop :=
  (∀ (off : BitVec 24) (r : RegDef) (b i : Nat) (s : State), s.answers off.toNat = true → findReg off.toNat = some (r, b, i) →
    off.toNat ≠ R.FLT_LOG_DATA → off.toNat ≠ R.MOD_IFIR_DATA → off.toNat < 0xD00000 →
    arr (R.SDS_PRBS_BITS_LO 0) 0x1000 8 off.toNat = none → pinField off.toNat = none →
    ∃ t, exec (.captureRegisterRead off) s = .next t ∧ exec (.counterReadClear off) s = .next t ∧
      t.lastRead = (if isCompanion off.toNat then s.holdWord off.toNat else s.liveWord off.toNat) &&& ~~~r.wo ∧
      (∀ c, c ∈ companions off.toNat → t.holdWord c = s.liveWord c) ∧
      t.reg off.toNat = s.reg off.toNat &&& ~~~r.rc ∧ s.KeepsRegs t [off.toNat] ∧ t.mem = s.mem ∧ t.clk = s.clk) ∧
  ∀ s : State, s.domOn 1 = true → s.domBusy 1 = false →
    ∃ t, exec .tckNumLoRead s = .next t ∧ t.lastRead = word s.tickNum ∧ t.holdWord R.TCK_NUM_HI = word (s.tickNum / 2 ^ 32) ∧
      s.KeepsRegs t [] ∧ t.mem = s.mem ∧ t.clk = s.clk

/-- REGISTER_WRITE of w at an offset whose block does not answer (an unlisted offset, a domain that is off or switching) changes
nothing (R10, R474). At a register of the stream block, whose words have no write rule of their own, the rw bits take w, the w1c
bits written 1 clear unless the hardware set them in the same clock cycle (R11), every other bit stays (R9), and every other register, memory and everything else stay. -/
def Obligations.RegisterWriteByFieldTypes : Prop :=
  ∀ (off : BitVec 24) (w : Word) (s : State),
    (s.answers off.toNat = false → exec (.registerWrite off w) s = .next s) ∧
    (∀ (r : RegDef) (b i : Nat), s.answers off.toNat = true → findReg off.toNat = some (r, b, i) →
      0x400000 ≤ off.toNat → off.toNat < 0x480000 → exec (.registerWrite off w) s =
        .next (s.put off.toNat (((s.reg off.toNat &&& ~~~r.rw) ||| (w &&& r.rw)) &&& ~~~(w &&& r.w1c &&& ~~~s.setNow off.toNat))))

/-- GRAPH_LOAD of a command that may be parsed and whose descriptor is sound: while the tick runs it is refused with code 0x0C and
LOAD_ERR, and nothing else happens (R52); stopped, with the image in DRAM and every check of R52 passed, the graph of the image is
loaded, loaded and FAB_GRAPH_ID show it, and engines, time and run state stay. UNLOAD while stopped leaves no graph; while the tick
runs it sets load_err with code 0x0C and nothing else. -/
def Obligations.GraphLoadAndUnload : Prop :=
  (∀ (c : HostCmd) (s : State), s.Takes c 0x0010 → cmdTarget c = 0 →
    (s.ticking = true → exec (.graphLoad c) s =
      .next ((((s.takeCmd c.ring).setFlag F.FAB_STATUS_load_err true).setFld F.FAB_STATUS_load_err_code 0x0C).endCmd c
        stLoadErr 0x0C)) ∧
    (s.ticking = false → s.dramReady = true → s.copyRange (cmdArg c 0 8) 64 = true →
      (imageOf (s.bytes (cmdArg c 0 8) 64)).magicOk = true →
      s.copyRange (cmdArg c 0 8) (max 64 (imageOf (s.bytes (cmdArg c 0 8) 64)).size) = true →
      (let g := imageOf (s.bytes (cmdArg c 0 8) (max 64 (imageOf (s.bytes (cmdArg c 0 8) 64)).size))
       s.imageErr g = none → ∃ t, exec (.graphLoad c) s = .next t ∧ t.fab.graph = some g.graph ∧
        t.flag F.FAB_STATUS_loaded = true ∧ t.reg R.FAB_GRAPH_ID = word g.graph.id ∧ t.eng = s.eng ∧ t.clk = s.clk ∧
        t.run = s.run))) ∧
  ∀ s : State,
    (s.ticking = true → exec .unload s =
      .next ((s.setFlag F.FAB_STATUS_load_err true).setFld F.FAB_STATUS_load_err_code 0x0C)) ∧
    (s.ticking = false → ∃ t, exec .unload s = .next t ∧ t.fab.graph = none ∧ t.flag F.FAB_STATUS_loaded = false ∧
      t.reg R.FAB_GRAPH_ID = 0 ∧ t.fab.com = [] ∧ t.mem = s.mem ∧ t.eng = s.eng ∧ t.clk = s.clk ∧ t.run = s.run)

/-- Where a phase may be released that holds one task, whose preferred engine is active and has room, PHASE_RELEASE appends the task
to that engine's deque, marks it queued, and notes the phase and its stages (R44, R55, R56); registers, memory, engines and time
stay. Where no phase may be released it changes nothing. -/
def Obligations.PhaseReleaseDealsByAffinity : Prop :=
  ∀ (s : State) (p : Nat) (ph : Phase) (d : Task),
    (s.releasable = some p → s.phases[p]? = some ph → ph.count = 1 → s.task? ph.first = some d → d.affinity < 96 →
      s.active d.affinity = true → (s.deque d.affinity).length < 32 → s.backlog d.affinity = [] →
      ∃ t, exec .phaseRelease s = .next t ∧ t.deque d.affinity = s.deque d.affinity ++ [ph.first] ∧ t.stat ph.first = .queued ∧
        t.fab.phase = some p ∧ t.fab.stages = ph.stages % 8 ∧ (∀ e, e ≠ d.affinity → t.deque e = s.deque e) ∧
        t.regs = s.regs ∧ t.mem = s.mem ∧ t.eng = s.eng ∧ t.clk = s.clk) ∧
    (s.releasable = none → exec .phaseRelease s = .next s)

/-- BACKLOG_APPEND moves a backlog's front into the deque as far as its 32 entries reach (R57). DEPTH_BROADCAST publishes the deque's
length of every active engine, 0 of the others (R59); a corrected error that it carries is recorded in its engine, and counted where its
word is of program or local memory (R72, R109): that this command carries such errors is the model's choice (log entries 9 and 48). An active idle engine's TASK_TAKE and TASK_ACQUIRE take the head of its own
deque (R58, R60); with an empty deque TASK_ACQUIRE takes a victim's tail and a steal is under way (R60); STEAL_COMPLETE counts it
and gives the task to the thief (R61). Memory, time and every register but the counters stay. -/
def Obligations.QueuesOfTasks : Prop :=
  ∀ (e : Eng) (i v : Nat) (q : List Nat) (d : Task) (cross : Bool) (fixed : List EccFix) (x : EccFix) (s : State),
    (∃ t, exec (.backlogAppend e) s = .next t ∧ t.deque e = s.deque e ++ (s.backlog e).take (32 - (s.deque e).length) ∧
      t.backlog e = (s.backlog e).drop (32 - (s.deque e).length) ∧ (∀ x, x ≠ e.val → t.deque x = s.deque x) ∧
      t.regs = s.regs ∧ t.mem = s.mem ∧ t.eng = s.eng) ∧
    (∃ t, exec (.depthBroadcast fixed) s = .next t ∧
      Tbl.get (fun _ => 0) t.fab.depth e = (if s.active e then (s.deque e).length else 0) ∧
      t.deque e = s.deque e ∧ t.mem = s.mem ∧ (fixed = [] → t.regs = s.regs ∧ t.eng = s.eng)) ∧
    (s.domOn (3 + x.e / 8) = true → ∃ t, exec (.depthBroadcast [x]) s = .next t ∧
      t.reg (R.ENG_ECC_CNT x.e) = (if x.mem = 3 then s.reg (R.ENG_ECC_CNT x.e) else counted (s.reg (R.ENG_ECC_CNT x.e))) ∧
      t.reg (R.ENG_ECC_INFO x.e) = word (x.addr.toNat + x.mem * 2 ^ 16) ∧
      s.KeepsRegs t [R.ENG_ECC_CNT x.e, R.ENG_ECC_INFO x.e]) ∧
    (s.active e = true → s.isIdle e = true → s.deque e = i :: q → s.task? i = some d → frameState d s.T ≤ 0x4000 →
      ∃ t, exec (.taskTake e) s = .next t ∧ exec (.taskAcquire e) s = .next t ∧ t.deque e = q ∧ t.stat i = .taken ∧
        (t.engine e).task = some i ∧ (t.engine e).st = .prefetch ∧ t.regs = s.regs ∧ t.mem = s.mem) ∧
    (s.active e = true → s.isIdle e = true → s.deque e = [] → s.findVictim e = some (v, cross) → s.deque v = q ++ [i] →
      ∃ t, exec (.taskAcquire e) s = .next t ∧ t.deque v = q ∧ t.stat i = .taken ∧ (e.val, i, cross) ∈ t.fab.steal ∧
        t.regs = s.regs ∧ t.mem = s.mem ∧ t.eng = s.eng) ∧
    (s.fab.steal.find? (fun x => x.1 = e.val) = some (e.val, i, cross) → s.task? i = some d → frameState d s.T ≤ 0x4000 →
      ∃ t, exec (.stealComplete e) s = .next t ∧ (t.engine e).task = some i ∧ t.isIdle e = false ∧
        t.regs = (s.count (if cross then R.FAB_XSTEAL_CNT else R.FAB_STEAL_CNT)).regs ∧ t.mem = s.mem)

/-- PREFETCH_COMPLETE of an engine whose task's inputs are there starts it at code_addr with the task-start ES, EPC and EES being
free values (R83, R86; log entry 4). TASK_COMPLETE of an engine in writeback, without transfers left and not in a run for the tick before,
marks the task done, counts it and frees the engine (R87). Both where the engine is not being drained (R399; else they wait) and no word
of SRAM is uncorrectable (R403). TASK_BUDGET_EXCEEDED counts and names a task whose run has taken more cycles than its budget, once in
the run, and changes nothing else (R67). -/
def Obligations.TaskRunsFromPrefetchToWriteback : Prop :=
  ∀ (e : Eng) (i : Nat) (d : Task) (s : State), (s.engine e).task = some i →
    (s.task? i = some d → (s.engine e).st = .prefetch → s.taskReady i d = true → s.engIssues e = true → s.sram.bad = [] →
      ∃ t, exec (.prefetchComplete e) s = .next t ∧ (t.engine e).st = .running ∧ (t.engine e).task = some i ∧
        (t.engine e).pc = d.code ∧ (t.engine e).es = 0x7C0 ||| ((s.engine e).es &&& 0x40000) ∧
        t.fresh = s.fresh + 2 ∧ t.regs = s.regs ∧ t.clk = s.clk ∧ t.fab = s.fab) ∧
    (s.task? i = some d → (s.engine e).st = .writeback → (s.engine e).dma = [] → s.runsBack i = false → s.engIssues e = true → s.sram.bad = [] →
      ∃ t, exec (.taskComplete e) s = .next t ∧ t.stat i = .done ∧ (t.engine e).task = none ∧
        t.reg (R.ENG_TASK_CNT e) = word (min ((s.reg (R.ENG_TASK_CNT e)).toNat + 1) 0xFFFFFFFF) ∧
        s.KeepsRegs t [R.ENG_TASK_CNT e, R.FAB_LAST_CYC, R.FAB_PEAK_CYC] ∧ t.clk = s.clk ∧ t.outbox = s.outbox) ∧
    (s.engIssues e = false → exec (.prefetchComplete e) s = .next s ∧ exec (.taskComplete e) s = .next s) ∧
    (s.task? i = some d →
      ((s.engine e).tbud = false → d.budget < s.cycle - (s.engine e).began_at → exec (.taskBudgetExceeded e) s =
        .next (((s.setEngine e { s.engine e with tbud := true }).count R.FAB_TBUD_CNT).setFld F.FAB_TBUD_INFO_task_id i)) ∧
      ((s.engine e).tbud = true ∨ s.cycle - (s.engine e).began_at ≤ d.budget → exec (.taskBudgetExceeded e) s = .next s))

/-- An active engine that reports a fault, or hangs with a task, is fenced: it is no longer active, and FAB_FENCE_INFO names engine and
cause (R72, R73). A write of FAB_FENCE asks for the fence of each active engine it names, and PLANNED_FENCE carries it out (R76).
A write of FAB_UNFENCE asks for each inactive engine whose cluster is powered, and ENGINE_ACTIVATE with a passed march makes it
active: the code of the loaded graph then stands in its program memory from bundle 0 on (R43, R77), and every other byte of memory stays;
UNFENCE_REPAIR asks once, 1 s after the fence, for an engine fenced for the first time, not for cause 0x6 (R441). All the others leave
memory. -/
def Obligations.EnginesAreFencedAndReturn : Prop :=
  ∀ (e : Eng) (j : Fin 3) (i : Nat) (w d : Word) (c : EngCause) (s : State),
    (s.active e = true → ∃ t, exec (.engineFault e c) s = .next t ∧ t.active e = false ∧
      t.reg R.FAB_FENCE_INFO = word (e.val + engCauseCode c * 2 ^ 8) ∧ t.mem = s.mem ∧ t.clk = s.clk) ∧
    (s.active e = true → (s.current e).isSome = true → ∃ t, exec (.engineHang e) s = .next t ∧ t.active e = false ∧
      t.reg R.FAB_FENCE_INFO = word (e.val + 5 * 2 ^ 8) ∧ t.mem = s.mem ∧ t.clk = s.clk) ∧
    (s.domOn 2 = true → ∃ t, exec (.fabFenceWrite j w) s = .next t ∧
      (i < 32 → w.getLsbD i = true → s.active (32 * j.val + i) = true → 32 * j.val + i ∈ t.fab.fence) ∧
      t.regs = s.regs ∧ t.mem = s.mem ∧ t.eng = s.eng) ∧
    (e.val ∈ s.fab.fence → s.active e = true → ∃ t, exec (.plannedFence e) s = .next t ∧ t.active e = false ∧
      e.val ∉ t.fab.fence ∧ t.mem = s.mem ∧ t.clk = s.clk) ∧
    (s.domOn 2 = true → ∃ t, exec (.fabUnfenceWrite j w) s = .next t ∧
      (i < 32 → w.getLsbD i = true → s.active (32 * j.val + i) = false → s.domOn (3 + (32 * j.val + i) / 8) = true →
        32 * j.val + i ∈ t.fab.unfence) ∧ s.KeepsRegs t [R.FAB_STATUS] ∧ t.mem = s.mem ∧ t.eng = s.eng) ∧
    (e.val ∈ s.fab.unfence → s.domOn (3 + e.val / 8) = true → s.active e = false →
      ∃ t, exec (.engineActivate e true) s = .next t ∧ t.active e = true ∧ e.val ∉ t.fab.unfence ∧ t.clk = s.clk ∧
        (s.fab.graph = none → s.KeepsMem t) ∧
        ∀ g, s.fab.graph = some g → s.KeepsMemBut t (engWindow e) g.code.length ∧
          ∀ k b, g.code[k]? = some b → t.byte (engWindow e + k) = b) ∧
    (s.flt.repair = [(3, d)] → s.fwStopped = false → s.repairDue e = true → bitsOf d 6 0 = e.val → bitsOf d 11 8 ≠ 6 → (s.flt.fenced.filter fun x => x.1 = e.val).length ≤ 1 →
      s.active e = false → s.domOn (3 + e.val / 8) = true →
      ∃ t, exec (.unfenceRepair e) s = .next t ∧ e.val ∈ t.fab.unfence ∧ t.flt.repair = [] ∧ t.regs = s.regs ∧ t.mem = s.mem)

/-- In a running engine, for a slot whose destination the bundle does not name yet: the sum, the difference or the negation goes into Dd,
z and n follow the value, c is the carry or the borrow, v says that the signed result does not fit; CMP and CMPI send the flags of the
difference alone. The immediate is sign-extended. Nothing else changes, but that the bundle closes with its last slot. -/
def Obligations.AluSumsAndCompares : Prop :=
  ∀ (e : Eng) (d a b : BitVec 4) (imm : BitVec 10) (last : Bool) (s : State),
    let x := (s.engine e).dv a.toNat
    let y := (s.engine e).dv b.toNat
    let k := imm.signExtend 32
    let fits := fun i : Int => decide (-2147483648 ≤ i ∧ i ≤ 2147483647)
    (s.Issues e [d.toNat] →
      exec (.add e d a b last) s =
        .next (s.slot e [d.toNat] (aluOut d.toNat (x + y) (2 ^ 32 ≤ x.toNat + y.toNat) (!fits (x.toInt + y.toInt))) last) ∧
      exec (.sub e d a b last) s =
        .next (s.slot e [d.toNat] (aluOut d.toNat (x - y) (x.toNat < y.toNat) (!fits (x.toInt - y.toInt))) last) ∧
      exec (.neg e d a last) s =
        .next (s.slot e [d.toNat] (aluOut d.toNat (-x) (x ≠ 0) (x = 0x80000000#32)) last) ∧
      exec (.addi e d a imm last) s =
        .next (s.slot e [d.toNat] (aluOut d.toNat (x + k) (2 ^ 32 ≤ x.toNat + k.toNat) (!fits (x.toInt + imm.toInt))) last)) ∧
    (s.Issues e [] →
      exec (.cmp e a b last) s =
        .next (s.slot e [] (flagsOut (x - y) (x.toNat < y.toNat) (!fits (x.toInt - y.toInt))) last) ∧
      exec (.cmpi e a imm last) s =
        .next (s.slot e [] (flagsOut (x - k) (x.toNat < k.toNat) (!fits (x.toInt - imm.toInt))) last))

/-- In a running engine, for a slot whose destination the bundle does not name yet: the logical results, the moved value, the signed
minimum and maximum and the sign-extended immediate go into Dd with z and n of the value and c = v = 0; ABS leaves 0x8000_0000 as it is
and sets v for it alone; LDI sends its 32 bits without flags. -/
def Obligations.AluLogicAndConstants : Prop :=
  ∀ (e : Eng) (d a b : BitVec 4) (imm : BitVec 10) (w : Word) (last : Bool) (s : State), s.Issues e [d.toNat] →
    let x := (s.engine e).dv a.toNat
    let y := (s.engine e).dv b.toNat
    let out := fun v : Word => Host.Outcome.next (φ := Fault) (ρ := Refusal) (s.slot e [d.toNat] (aluOut d.toNat v false false) last)
    exec (.and e d a b last) s = out (x &&& y) ∧ exec (.or e d a b last) s = out (x ||| y) ∧
    exec (.xor e d a b last) s = out (x ^^^ y) ∧ exec (.not e d a last) s = out (~~~x) ∧
    exec (.mov e d a last) s = out x ∧
    exec (.min e d a b last) s = out (if x.toInt ≤ y.toInt then x else y) ∧
    exec (.max e d a b last) s = out (if x.toInt ≤ y.toInt then y else x) ∧
    exec (.movi e d imm last) s = out (imm.signExtend 32) ∧
    exec (.abs e d a last) s = .next (s.slot e [d.toNat]
      (aluOut d.toNat (if x.toInt < 0 then -x else x) false (x = 0x80000000#32)) last) ∧
    exec (.ldi e d w last) s = .next (s.slot e [d.toNat] (toD d.toNat w 1) last)

/-- In a running engine: a shift by Dt[4:0], or by the constant, floors towards minus infinity (ASR), shifts zeros in from the left (LSR) or
from the right (LSL); c is the last bit shifted out, 0 for a shift of 0, and v is 0. BEXP sends the leading-sign count of Ds to
ES.bexp, where it counts as the minimum; the count of w is the largest k up to 31 of which the k bits below bit 31 equal bit 31. -/
def Obligations.AluShiftsAndSignCount : Prop :=
  (∀ (e : Eng) (d a b : BitVec 4) (sh : BitVec 5) (last : Bool) (s : State),
    let x := (s.engine e).dv a.toNat
    let n := ((s.engine e).dv b.toNat).toNat % 32
    let k := sh.toNat
    let asr := fun n : Nat => aluOut d.toNat (wordI (x.toInt / 2 ^ n)) (n ≠ 0 && x.toNat / 2 ^ (n - 1) % 2 = 1) false
    let lsr := fun n : Nat => aluOut d.toNat (word (x.toNat / 2 ^ n)) (n ≠ 0 && x.toNat / 2 ^ (n - 1) % 2 = 1) false
    let lsl := fun n : Nat => aluOut d.toNat (word (x.toNat * 2 ^ n)) (n ≠ 0 && x.toNat / 2 ^ (32 - n) % 2 = 1) false
    (s.Issues e [d.toNat] →
      exec (.asr e d a b last) s = .next (s.slot e [d.toNat] (asr n) last) ∧
      exec (.lsr e d a b last) s = .next (s.slot e [d.toNat] (lsr n) last) ∧
      exec (.lsl e d a b last) s = .next (s.slot e [d.toNat] (lsl n) last) ∧
      exec (.asri e d a sh last) s = .next (s.slot e [d.toNat] (asr k) last) ∧
      exec (.lsri e d a sh last) s = .next (s.slot e [d.toNat] (lsr k) last) ∧
      exec (.lsli e d a sh last) s = .next (s.slot e [d.toNat] (lsl k) last)) ∧
    (s.Issues e [] → exec (.bexp e a last) s = .next (s.slot e [] [⟨1, .bexp (lsc x)⟩] last))) ∧
  ∀ (w : Word) (k : Nat), k ≤ 31 → (k ≤ lsc w ↔ ∀ j, j < k → w.getLsbD (30 - j) = w.msb)

/-- In a running engine, for each of the families MAC1, MAC2, MAC4 outer, complex and conjugate and each of their four forms (added,
subtracted, in place of the accumulator, negated in its place): every product of two Q1.31 operands enters as twice the integer product,
exactly, the sum is taken modulo 2^80, and each accumulator of the form takes its own; nothing else changes, but that the bundle
closes with its last slot. -/
def Obligations.MultiplyFamilies : Prop :=
  ∀ (e : Eng) (a : BitVec 2) (ap : Bool) (x0 x1 c : BitVec 4) (dp cp : BitVec 3) (last : Bool) (s : State),
    let g := s.engine e
    let r := fun i : Nat => (g.dv i).toInt
    let p := if ap then 2 else 0
    let d := 2 * dp.toNat
    let k := 2 * cp.toNat
    -- what accumulator i takes from an exact product sum m: added, subtracted, or in place of its value
    let add := fun (i : Nat) (m : Int) => toA i (g.av i + accI (2 * m))
    let sub := fun (i : Nat) (m : Int) => toA i (g.av i + accI (-(2 * m)))
    let mpy := fun (i : Nat) (m : Int) => toA i (accI (2 * m))
    let mpn := fun (i : Nat) (m : Int) => toA i (accI (-(2 * m)))
    let one := fun f : Nat → Int → List Flight => f a.toNat (r x0.toNat * r c.toNat)
    let two := fun f : Nat → Int → List Flight => f p (r x0.toNat * r c.toNat) ++ f (p + 1) (r x1.toNat * r c.toNat)
    let outer := fun f : Nat → Int → List Flight =>
      f 0 (r d * r k) ++ f 1 (r (d + 1) * r k) ++ f 2 (r d * r (k + 1)) ++ f 3 (r (d + 1) * r (k + 1))
    let cplx := fun f : Nat → Int → List Flight =>
      f p (r d * r k - r (d + 1) * r (k + 1)) ++ f (p + 1) (r d * r (k + 1) + r (d + 1) * r k)
    let conj := fun f : Nat → Int → List Flight =>
      f p (r d * r k + r (d + 1) * r (k + 1)) ++ f (p + 1) (r (d + 1) * r k - r d * r (k + 1))
    let out := fun (names : List Nat) (fs : List Flight) => Host.Outcome.next (φ := Fault) (ρ := Refusal) (s.slot e names fs last)
    (s.Issues e [aName a.toNat] →
      exec (.mac1 e a x0 c last) s = out [aName a.toNat] (one add) ∧ exec (.msu1 e a x0 c last) s = out [aName a.toNat] (one sub) ∧
      exec (.mpy1 e a x0 c last) s = out [aName a.toNat] (one mpy) ∧ exec (.mpn1 e a x0 c last) s = out [aName a.toNat] (one mpn)) ∧
    (s.Issues e [aName p, aName (p + 1)] →
      exec (.mac2 e ap x0 x1 c last) s = out [aName p, aName (p + 1)] (two add) ∧
      exec (.msu2 e ap x0 x1 c last) s = out [aName p, aName (p + 1)] (two sub) ∧
      exec (.mpy2 e ap x0 x1 c last) s = out [aName p, aName (p + 1)] (two mpy) ∧
      exec (.mpn2 e ap x0 x1 c last) s = out [aName p, aName (p + 1)] (two mpn) ∧
      exec (.mac4c e ap dp cp last) s = out [aName p, aName (p + 1)] (cplx add) ∧
      exec (.msu4c e ap dp cp last) s = out [aName p, aName (p + 1)] (cplx sub) ∧
      exec (.mpy4c e ap dp cp last) s = out [aName p, aName (p + 1)] (cplx mpy) ∧
      exec (.mpn4c e ap dp cp last) s = out [aName p, aName (p + 1)] (cplx mpn) ∧
      exec (.mac4j e ap dp cp last) s = out [aName p, aName (p + 1)] (conj add) ∧
      exec (.msu4j e ap dp cp last) s = out [aName p, aName (p + 1)] (conj sub) ∧
      exec (.mpy4j e ap dp cp last) s = out [aName p, aName (p + 1)] (conj mpy) ∧
      exec (.mpn4j e ap dp cp last) s = out [aName p, aName (p + 1)] (conj mpn)) ∧
    (s.Issues e [aName 0, aName 1, aName 2, aName 3] →
      exec (.mac4o e dp cp last) s = out [aName 0, aName 1, aName 2, aName 3] (outer add) ∧
      exec (.msu4o e dp cp last) s = out [aName 0, aName 1, aName 2, aName 3] (outer sub) ∧
      exec (.mpy4o e dp cp last) s = out [aName 0, aName 1, aName 2, aName 3] (outer mpy) ∧
      exec (.mpn4o e dp cp last) s = out [aName 0, aName 1, aName 2, aName 3] (outer mpn))

/-- In a running engine, for a slot whose destinations the bundle does not name yet: ALD and ALD2 and ALDQ put D times 2^32 into
accumulators, ALDS and ALDS2 add it, AADD, ASUB, AMOV and ACLR compute modulo 2^80 with the second accumulator as a source,
MVFH, MVFL and MVFG read its parts h, l and g (g sign-extended), and MVTH, MVTL and MVTG replace one part and keep the others. -/
def Obligations.AccumulatorMoves : Prop :=
  ∀ (e : Eng) (a b : BitVec 2) (d : BitVec 4) (dp : BitVec 3) (ap last : Bool) (s : State),
    let g := s.engine e
    let p := if ap then 2 else 0
    let up := fun i : Nat => accI ((g.dv i).toInt * 2 ^ 32)
    let out := fun (names : List Nat) (fs : List Flight) => Host.Outcome.next (φ := Fault) (ρ := Refusal) (s.slot e names fs last)
    (s.Issues e [aName a.toNat] →
      let set := fun v : Acc => out [aName a.toNat] (toA a.toNat v)
      let old := g.av a.toNat
      let w := g.dv d.toNat
      exec (.ald e a d last) s = set (up d.toNat) ∧ exec (.alds e a d last) s = set (old + up d.toNat) ∧
      exec (.aadd e a b last) s = set (old + g.asv b.toNat) ∧ exec (.asub e a b last) s = set (old - g.asv b.toNat) ∧
      exec (.amov e a b last) s = set (g.asv b.toNat) ∧ exec (.aclr e a last) s = set 0 ∧
      exec (.mvth e a d last) s = set (old.extractLsb' 64 16 ++ w ++ old.extractLsb' 0 32) ∧
      exec (.mvtl e a d last) s = set (old.extractLsb' 64 16 ++ old.extractLsb' 32 32 ++ w) ∧
      exec (.mvtg e a d last) s = set (w.extractLsb' 0 16 ++ old.extractLsb' 32 32 ++ old.extractLsb' 0 32)) ∧
    (s.Issues e [aName p, aName (p + 1)] →
      exec (.ald2 e dp ap last) s = out [aName p, aName (p + 1)] (toA p (up (2 * dp.toNat)) ++ toA (p + 1) (up (2 * dp.toNat + 1))) ∧
      exec (.alds2 e dp ap last) s = out [aName p, aName (p + 1)]
        (toA p (g.av p + up (2 * dp.toNat)) ++ toA (p + 1) (g.av (p + 1) + up (2 * dp.toNat + 1)))) ∧
    (s.Issues e [aName 0, aName 1, aName 2, aName 3] →
      exec (.aldq e dp last) s = out [aName 0, aName 1, aName 2, aName 3]
        (toA 0 (up (2 * dp.toNat)) ++ toA 1 (up (2 * dp.toNat + 1)) ++ toA 2 (up (2 * dp.toNat)) ++ toA 3 (up (2 * dp.toNat + 1)))) ∧
    (s.Issues e [d.toNat] →
      exec (.mvfh e a d last) s = out [d.toNat] (toD d.toNat ((g.asv a.toNat).extractLsb' 32 32) 1) ∧
      exec (.mvfl e a d last) s = out [d.toNat] (toD d.toNat ((g.asv a.toNat).extractLsb' 0 32) 1) ∧
      exec (.mvfg e a d last) s = out [d.toNat] (toD d.toNat (((g.asv a.toNat).extractLsb' 64 16).signExtend 32) 1))

/-- In a running engine, CNV of accumulator a with scale sc sends to Dd floor((a + 2^(31+sc)) / 2^(32+sc)), limited to the 32-bit range, with
sat where the limit took effect, and with ES.bx_en the value's leading-sign count to ES.bexp; CNV2 does so for both of a pair. That
branches too see sat after two bundles is the model's reading of R105 (DEDUCED, log entry 10). -/
def Obligations.ConversionRoundsAndSaturates : Prop :=
  ∀ (e : Eng) (d : BitVec 4) (a : BitVec 2) (dp : BitVec 3) (ap : Bool) (sc : BitVec 5) (last : Bool) (s : State),
    let g := s.engine e
    let p := if ap then 2 else 0
    let raw := fun i : Nat => ((g.asv i).toInt + 2 ^ (31 + sc.toInt).toNat) / 2 ^ (32 + sc.toInt).toNat
    let conv := fun d i : Nat =>
      let v := wordI (max (-2147483648) (min 2147483647 (raw i)))
      toD d v 2 ++ (if raw i < -2147483648 ∨ 2147483647 < raw i then [⟨2, Dst.sat⟩] else [])
        ++ (if g.es.getLsbD 5 then [⟨2, Dst.bexp (lsc v)⟩] else [])
    (s.Issues e [d.toNat] → exec (.cnv e d a sc last) s = .next (s.slot e [d.toNat] (conv d.toNat a.toNat) last)) ∧
    (s.Issues e [2 * dp.toNat, 2 * dp.toNat + 1] → exec (.cnv2 e dp ap sc last) s =
      .next (s.slot e [2 * dp.toNat, 2 * dp.toNat + 1] (conv (2 * dp.toNat) p ++ conv (2 * dp.toNat + 1) (p + 1)) last))

/-- In a running engine, for accesses to populated words that no transfer covers (R81, R89): LD, LDP, LDD and LDDP send the words at the
pointers to their registers and note a corrected word; ST and STP note Dd, and Dd+1 after it, for the pointer's words; MODP stores nothing;
each pointer takes the value of its mode, and registers and memory stay. As the bundle closes, what ST noted is stored and no other byte
changes; as its effects take place, a corrected word of local or program memory is counted and reported (R109). An access outside X and
Y, a pair access at an odd address, and a dual access that is not one in X and one in Y fail the task with reason 0x2 at the bundle's last slot (R71, R81,
R100, R126); an earlier slot only notes it, with no other effect. -/
def Obligations.LocalLoadsAndStores : Prop :=
  ∀ (e : Eng) (d d2 : BitVec 4) (n m dp ep : BitVec 3) (mode : AddrMode) (mn mm ecc eccM last : Bool) (i : Nat) (s : State),
    let g := s.engine e
    let a := (g.pv n.toNat).toNat
    let b := (g.pv m.toNat).toNat
    let fixed := fun (b : Bool) (x : Nat) => if b then [Late.fixed (if x < 0x4000 then 1 else 2) x] else []
    let sent := fun (t : State) (fs : List Flight) (names : List Nat) (lt : List Late) =>
      t.engine e = { g with named := g.named ++ names, partway := true, flights := g.flights ++ fs, late := g.late ++ lt } ∧
        (∀ x, x ≠ e.val → t.engine x = s.engine x) ∧ t.clk = s.clk ∧ t.fab = s.fab ∧ t.regs = s.regs ∧ t.mem = s.mem
    (s.Issues e (d.toNat :: pName n.toNat mode) → a < 0x6000 → g.inDma a = false →
      ∃ t : State, exec (.ld e d n mode ecc last) s = .next (t.close e last) ∧
        sent t (toD d.toNat (s.localWord e a) 2 ++ g.toP n.toNat mode 1) (d.toNat :: pName n.toNat mode) (fixed ecc a)) ∧
    (s.Issues e (d.toNat :: (d.toNat + 1) :: pName n.toNat mode) → d.toNat % 2 = 0 → a < 0x6000 → a % 2 = 0 →
      g.inDma a = false → g.inDma (a + 1) = false → ∃ t : State, exec (.ldp e d n mode last ecc) s = .next (t.close e last) ∧
        sent t (toD d.toNat (s.localWord e a) 2 ++ toD (d.toNat + 1) (s.localWord e (a + 1)) 2 ++ g.toP n.toNat mode 2)
          (d.toNat :: (d.toNat + 1) :: pName n.toNat mode) (fixed ecc a)) ∧
    (s.Issues e (pName n.toNat mode) → a < 0x6000 → g.inDma a = false →
      ∃ t : State, exec (.st e d n mode last) s = .next (t.close e last) ∧
        sent t (g.toP n.toNat mode 1) (pName n.toNat mode) [.store a (g.dv d.toNat)] ∧
        (g.late = [] → (t.close e true).localWord e a = g.dv d.toNat ∧ s.KeepsMemBut (t.close e true) (localAddr e a) 4)) ∧
    (s.Issues e (pName n.toNat mode) → d.toNat % 2 = 0 → a < 0x6000 → a % 2 = 0 → g.inDma a = false → g.inDma (a + 1) = false →
      ∃ t : State, exec (.stp e d n mode last) s = .next (t.close e last) ∧
        sent t (g.toP n.toNat mode 2) (pName n.toNat mode) [.store a (g.dv d.toNat), .store (a + 1) (g.dv (d.toNat + 1))] ∧
        (g.late = [] → (t.close e true).localWord e a = g.dv d.toNat ∧
          (t.close e true).localWord e (a + 1) = g.dv (d.toNat + 1) ∧ s.KeepsMemBut (t.close e true) (localAddr e a) 8)) ∧
    (s.Issues e [d.toNat, d2.toNat, 0x10 + n.toNat, 0x10 + m.toNat] → a < 0x4000 → 0x4000 ≤ b → b < 0x6000 →
      g.inDma a = false → g.inDma b = false → ∃ t : State, exec (.ldd e d n d2 m last ecc eccM) s = .next (t.close e last) ∧
        sent t (toD d.toNat (s.localWord e a) 2 ++ toD d2.toNat (s.localWord e b) 2 ++ g.toP n.toNat .postMod 1
          ++ g.toP m.toNat .postMod 1) [d.toNat, d2.toNat, 0x10 + n.toNat, 0x10 + m.toNat] (fixed ecc a ++ fixed eccM b)) ∧
    (s.Issues e [2 * dp.toNat, 2 * dp.toNat + 1, 2 * ep.toNat, 2 * ep.toNat + 1, 0x10 + n.toNat, 0x10 + m.toNat] →
      a < 0x4000 → 0x4000 ≤ b → b < 0x6000 → a % 2 = 0 → b % 2 = 0 → (∀ x, g.inDma x = false) →
      ∃ t : State, exec (.lddp e dp n ep m mn mm last ecc eccM) s = .next (t.close e last) ∧
        sent t (toD (2 * dp.toNat) (s.localWord e a) 2 ++ toD (2 * dp.toNat + 1) (s.localWord e (a + 1)) 2
          ++ g.toP n.toNat (pairMode mn) 2 ++ toD (2 * ep.toNat) (s.localWord e b) 2
          ++ toD (2 * ep.toNat + 1) (s.localWord e (b + 1)) 2 ++ g.toP m.toNat (pairMode mm) 2)
          [2 * dp.toNat, 2 * dp.toNat + 1, 2 * ep.toNat, 2 * ep.toNat + 1, 0x10 + n.toNat, 0x10 + m.toNat]
          (fixed ecc a ++ fixed eccM b)) ∧
    (s.Issues e (pName n.toNat mode) → exec (.modp e n mode last) s =
      .next (s.slot e (pName n.toNat mode) (g.toP n.toNat mode 1) last)) ∧
    (g.task = some i →
      let wild := fun c : Bool → Instr => (∃ t : State, exec (c true) s = .next t ∧ s.Fails t e i 2) ∧
        ∃ t : State, exec (c false) s = .next t ∧ (t.engine e).faulted = some 2 ∧ t.regs = s.regs ∧ t.mem = s.mem ∧ t.clk = s.clk
      let dual := a < 0x4000 ∧ 0x4000 ≤ b ∧ b < 0x6000 ∨ b < 0x4000 ∧ 0x4000 ≤ a ∧ a < 0x6000
      (s.Issues e (d.toNat :: pName n.toNat mode) → 0x6000 ≤ a → wild (.ld e d n mode ecc ·)) ∧
      (s.Issues e (pName n.toNat mode) → 0x6000 ≤ a → wild (.st e d n mode ·)) ∧
      (s.Issues e (d.toNat :: (d.toNat + 1) :: pName n.toNat mode) → d.toNat % 2 = 0 → 0x6000 ≤ a ∨ a % 2 = 1 →
        wild (.ldp e d n mode · ecc)) ∧
      (s.Issues e (pName n.toNat mode) → d.toNat % 2 = 0 → 0x6000 ≤ a ∨ a % 2 = 1 → wild (.stp e d n mode ·)) ∧
      (s.Issues e [d.toNat, d2.toNat, 0x10 + n.toNat, 0x10 + m.toNat] → ¬ dual → wild (.ldd e d n d2 m · ecc eccM)) ∧
      (s.Issues e [2 * dp.toNat, 2 * dp.toNat + 1, 2 * ep.toNat, 2 * ep.toNat + 1, 0x10 + n.toNat, 0x10 + m.toNat] →
        ¬ dual ∨ a % 2 = 1 ∨ b % 2 = 1 → wild (.lddp e dp n ep m mn mm · ecc eccM)) ∧
      ∀ r, g.st = .running → g.faulted = some r → ∃ t : State, exec (.add e d d2 d2 true) s = .next t ∧ s.Fails t e i r) ∧
    ∀ (k x : Nat), g.late = [.fixed k x] → g.st = .running → k ≠ 3 →
      (s.commitLate e).engine e = { g with es := g.es ||| 0x20000#32, late := [] } ∧
      (s.commitLate e).reg (R.ENG_ECC_CNT e) = counted (s.reg (R.ENG_ECC_CNT e)) ∧
      (s.commitLate e).reg (R.ENG_ECC_INFO e) = word (x % 2 ^ 16 + k * 2 ^ 16) ∧
      s.KeepsRegs (s.commitLate e) [R.ENG_ECC_CNT e, R.ENG_ECC_INFO e] ∧ (s.commitLate e).mem = s.mem

/-- A plain access leaves the pointer and sends nothing; each other mode sends the pointer's new value, seen after one bundle (R105). Post-modify
adds Mn and post-increment the access's step, with one correction by Ln where Ln is not 0, modulo 2^16 (R101): with the buffer below
2^16, the pointer inside it and a step of at most Ln in size, the pointer stays inside, at the sum modulo Ln. Bit-reversed adds Mn with
reversed carry where Ln is a power of two from 2 to 16,384 and Bn a multiple of it, else as R101 with Ln = 0; with Mn = Ln / 2 successive
accesses visit the buffer in bit-reversed order (R103). -/
def Obligations.PointerModes : Prop :=
  ∀ (g : Engine) (n : Nat) (k : BitVec 16),
    let p := g.pv n
    let b := g.bv n
    let len := g.lv n
    let modify := fun (m len : BitVec 16) =>
      let q : Int := (p.toNat : Int) + m.toInt
      BitVec.ofInt 16 (if len.toNat = 0 then q else if (b.toNat : Int) + len.toNat ≤ q then q - len.toNat
        else if q < b.toNat then q + len.toNat else q)
    -- the bits j - 1 to 0 of v, reversed
    let rev := fun (j v : Nat) => ((List.range j).map fun i => if v.testBit i then 2 ^ (j - 1 - i) else 0).sum
    g.pAfter n .plain k = p ∧ g.toP n .plain k = [] ∧
    (∀ mode, mode ≠ .plain → g.toP n mode k = [⟨1, .p n (g.pAfter n mode k)⟩]) ∧
    g.pAfter n .postMod k = modify (g.mv n) len ∧
    g.pAfter n .postInc k = modify k len ∧
    (∀ mode m, mode = .postMod ∧ m = g.mv n ∨ mode = .postInc ∧ m = k →
      0 < len.toNat → b.toNat + len.toNat ≤ 65536 → b.toNat ≤ p.toNat → p.toNat < b.toNat + len.toNat → m.toInt.natAbs ≤ len.toNat →
      b.toNat ≤ (g.pAfter n mode k).toNat ∧ (g.pAfter n mode k).toNat < b.toNat + len.toNat ∧
      (((g.pAfter n mode k).toNat : Int) - b.toNat) % (len.toNat : Int) = ((p.toNat : Int) + m.toInt - b.toNat) % (len.toNat : Int)) ∧
    (∀ j, 1 ≤ j → j ≤ 14 → len.toNat = 2 ^ j → b.toNat % 2 ^ j = 0 →
      g.pAfter n .bitRev k =
        b + BitVec.ofNat 16 (rev j ((rev j ((p - b).toNat % 2 ^ j) + rev j ((g.mv n).toNat % 2 ^ j)) % 2 ^ j)) ∧
      ∀ i, i < 2 ^ j → (g.mv n).toNat = 2 ^ (j - 1) → p = b + BitVec.ofNat 16 (rev j i) →
        g.pAfter n .bitRev k = b + BitVec.ofNat 16 (rev j ((i + 1) % 2 ^ j))) ∧
    ((∀ j, 1 ≤ j → j ≤ 14 → len.toNat = 2 ^ j → b.toNat % 2 ^ j ≠ 0) → g.pAfter n .bitRev k = modify (g.mv n) 0)

/-- In a running engine, in a bundle that is neither a delay slot nor a repetition: B and BR always branch, BCC where its condition holds on the
flags as branches see them, LBR where the decremented LC is not 0 (and LC takes the decrement), RTE to EPC with ES from EES; RPT and RPTR
set the repetitions of the next bundle; TEND ends the run. Nothing else changes, but that the bundle closes with its last slot. That ES as
RTE restores it is seen from the next bundle on, and in_evt at once, is the model's reading (DEDUCED, log entry 10). In a delay slot (R107)
or a repeated bundle (R108) each of them, and DMAW, fails the task with reason 0x1, as DMAQ does in a delay slot. -/
def Obligations.BranchesAndRepeats : Prop :=
  ∀ (e : Eng) (target : BitVec 12) (cond : Cond) (off : BitVec 9) (r : BitVec 4) (n1 : BitVec 12) (last : Bool) (s : State),
    s.Issues e [] →
    let g := s.engine e
    (∀ i, g.task = some i →
      (g.inDelay = true ∨ g.repeating = true → ∀ c ∈ [Instr.b e target last, .bcc e cond off last, .lbr e target last, .br e r last,
        .rte e last, .rpt e n1 last, .rptr e r last, .tend e last, .dmaw e (n1.setWidth 2) last],
        ∃ t : State, exec c s = .next t ∧ s.Fails t e i 1) ∧
      (g.inDelay = true → ∃ t : State, exec (.dmaq e (n1.getLsbD 0) r r r last) s = .next t ∧ s.Fails t e i 1)) ∧
    ((s.engine e).Free →
    let out := fun h : Engine => Host.Outcome.next (φ := Fault) (ρ := Refusal) ((s.setEngine e { h with partway := true }).close e last)
    exec (.b e target last) s = out { g with branched := true, taken := some (target.toNat : Int) } ∧
    (cond ≠ 0xF → exec (.bcc e cond off last) s = out { g with
      branched := true, taken := if condHolds g.esBr cond then some ((g.pc : Int) + off.toInt) else none }) ∧
    exec (.lbr e target last) s = out { g with
      flights := g.flights ++ [⟨3, .lcDec (g.lc - 1)⟩], branched := true
      taken := if g.lc = 1 then none else some (target.toNat : Int) } ∧
    exec (.br e r last) s = out { g with branched := true, taken := some ((g.dBrv r.toNat).toNat % 4096 : Nat) } ∧
    exec (.rte e last) s = out { g with
      flights := g.flights ++ [⟨1, .es g.ees⟩], es := setBits g.es 19 19 (bit (g.ees.getLsbD 19))
      branched := true, taken := some (g.epc.toNat : Int) } ∧
    exec (.rpt e n1 last) s = out { g with rpt := some (n1.toNat + 1) } ∧
    (1 ≤ (g.dBrv r.toNat).toNat % 8192 → (g.dBrv r.toNat).toNat % 8192 ≤ 4096 →
      exec (.rptr e r last) s = out { g with rpt := some ((g.dBrv r.toNat).toNat % 8192) }) ∧
    exec (.tend e last) s = out { g with tend := true })

/-- In a running engine: MOVR and MOVIZ send a register's value or a sign-extended constant to a register that may be written, where R105 fixes
what is read, and a free value in what it leaves open (log entry 10); ADDA adds to a pointer without wrap; DMAS sends the number of transfers. DMAQ queues a transfer of a sound range where fewer
than four are under way, DMAW goes on once at most k are left and waits without an effect before, and DMA_TRANSFER_COMPLETE moves the oldest transfer's words (those stored under it stay open, R89), where the engine is not being drained and no word of SRAM is uncorrectable. MBR takes the
inbound word, MBW offers the outbound one, and a host write of ENG_MBOX_IN fills the inbound mailbox and sets its pending bit, but not in
the cycle in which the engine is stopped (R113). -/
def Obligations.MovesTransfersAndMailboxes : Prop :=
  ∀ (e : Eng) (d a b u : BitVec 4) (dst src : BitVec 6) (n : BitVec 3) (k : BitVec 2) (i7 : BitVec 7) (i10 : BitVec 10)
    (dir last : Bool) (w : Word) (k' : Task) (x : Xfer) (xs : List Xfer) (s : State),
    let g := s.engine e
    (s.Issues e [dst.toNat] → dst.toNat ≤ 0x35 → dst.toNat ≠ 0x31 → dst.toNat ≠ 0x33 →
      (src.toNat ≤ 0x35 → g.openRead src.toNat = false → exec (.movr e dst src last) s =
        .next (s.slot e [dst.toNat] (moveTo dst.toNat (g.readCode src.toNat)) last)) ∧
      (src.toNat ≤ 0x35 → g.openRead src.toNat = true → exec (.movr e dst src last) s =
        .next (s.tick1.slot e [dst.toNat] (moveTo dst.toNat (g.moveRead src.toNat (Config.freeWord s.fresh))) last)) ∧
      exec (.moviz e dst i7 last) s = .next (s.slot e [dst.toNat] (moveTo dst.toNat (i7.signExtend 32)) last)) ∧
    (s.Issues e [0x10 + n.toNat] → exec (.adda e n i10 last) s =
      .next (s.slot e [0x10 + n.toNat] [⟨3, .p n.toNat (g.pv n.toNat + i10.signExtend 16)⟩] last)) ∧
    (s.Issues e [d.toNat] → exec (.dmas e d last) s = .next (s.slot e [d.toNat] (toD d.toNat (word g.dma.length) 1) last)) ∧
    (s.Issues e [] → g.Free → g.dma.length < 4 → g.task.bind s.task? = some k' →
      s.dmaBad k' dir (g.dv a.toNat).toNat ((g.dv b.toNat).toNat % 2 ^ 16) ((g.dv u.toNat).toNat % 2 ^ 13) = none →
      ∃ t : State, exec (.dmaq e dir a b u last) s = .next (t.close e last) ∧
        t.engine e = { g with
          partway := true
          dma := g.dma ++ [⟨dir, (g.dv a.toNat).toNat, (g.dv b.toNat).toNat % 2 ^ 16, (g.dv u.toNat).toNat % 2 ^ 13, []⟩] } ∧
        t.regs = s.regs ∧ t.mem = s.mem ∧ t.fab = s.fab) ∧
    (s.Issues e [] → g.Free → g.dma.length ≤ k.toNat → exec (.dmaw e k last) s = .next ((s.setEngine e { g with partway := true }).close e last)) ∧
    (s.Issues e [] → g.Free → k.toNat < g.dma.length → ∃ t : State, exec (.dmaw e k last) s = .next t ∧ (t.engine e).pc = g.pc ∧
      (t.engine e).flights = g.flights.take g.before ∧ (t.engine e).late = [] ∧ (t.engine e).dma = g.dma ∧
      s.KeepsRegs t [R.ENG_DMA_WAIT_CYC e, R.ENG_BUSY_CYC e] ∧ t.mem = s.mem) ∧
    (g.dma = x :: xs → s.engIssues e = true → s.sram.bad = [] → ∃ t : State, exec (.dmaTransferComplete e) s = .next t ∧ (t.engine e).dma = xs ∧ t.regs = s.regs) ∧
    (g.dma = x :: xs → s.engIssues e = true → s.sram.bad = [] → (x.out = true ∨ x.spoilt = []) → exec (.dmaTransferComplete e) s =
      .next (if x.out then (s.setEngine e { g with dma := xs }).dmaOut e x.off x.loc x.count
        else (s.setEngine e { g with dma := xs }).dmaIn e x.off x.loc x.count)) ∧
    (s.Issues e [d.toNat] → ∃ t : State, exec (.mbr e d last) s = .next (t.close e last) ∧
      (t.engine e).flights = g.flights ++ toD d.toNat (s.reg (R.ENG_MBOX_IN e)) 1
        ++ [⟨3, .z (!s.flag (F.ENG_MBOX_STATUS_in_full e))⟩, ⟨3, .brZ (!s.flag (F.ENG_MBOX_STATUS_in_full e))⟩] ∧ (t.engine e).es = setBits g.es 18 18 0 ∧
      t.flag (F.ENG_MBOX_STATUS_in_full e) = false ∧ s.KeepsRegs t [R.ENG_MBOX_STATUS e] ∧ t.mem = s.mem) ∧
    (s.Issues e [] → ∃ t : State, exec (.mbw e a last) s = .next (t.close e last) ∧ t.reg (R.ENG_MBOX_OUT e) = g.dv a.toNat ∧
      t.flag (F.ENG_MBOX_STATUS_out_valid e) = true ∧ s.KeepsRegs t [R.ENG_MBOX_OUT e, R.ENG_MBOX_STATUS e] ∧ t.mem = s.mem) ∧
    (s.domOn (3 + e.val / 8) = true → ∃ t : State, exec (.engMboxInWrite e w) s = .next t ∧ t.reg (R.ENG_MBOX_IN e) = w ∧
      t.flag (F.ENG_MBOX_STATUS_in_full e) = true ∧
      (t.engine e).es = (if e.val ∈ s.now.stopped then g.es else setBits g.es 18 18 1) ∧
      s.KeepsRegs t [R.ENG_MBOX_IN e, R.ENG_MBOX_STATUS e] ∧ t.mem = s.mem ∧ t.fab = s.fab)

/-- In a running engine, in a bundle without branch, repeat or task end, before the end of the code: BUNDLE_NOP lets the results on their way
come one bundle nearer, so a value due after one bundle is there and one due after three is seen by branches after two more (R105, R119), moves PC on
by one and counts a busy cycle. An enabled pending event enters at its vector with PC in EPC and ES in EES (R110 to R112). An illegal bundle
ends the task as failed with reason 0x1 and frees the engine (R71, R117); so does a slot whose destination, be it a register, an
accumulator or a post-modified pointer, an earlier slot of the bundle has named (R118). -/
def Obligations.BundlesCloseAndEventsEnter : Prop :=
  ∀ (e : Eng) (i : Nat) (v : Word) (bw : BitVec 64) (s : State),
    let g := s.engine e
    g.st = .running →
    (g.tend = false → g.Free → g.rpt = none → g.branched = false → g.flights = toD i v 1 → g.late = [] → g.pc + 1 < s.codeBundles →
      ∃ t : State, exec (.bundleNop e) s = .next t ∧ (t.engine e).dv i = v ∧ (∀ j, j ≠ i → (t.engine e).dv j = g.dv j) ∧
        (∀ j, (t.engine e).dBrv j = g.dBrv j) ∧ (t.engine e).flights = [⟨2, .dBr i v⟩] ∧ (t.engine e).pc = g.pc + 1 ∧
        (t.engine e).st = .running ∧ (t.engine e).es = g.es ∧ s.KeepsRegs t [R.ENG_BUSY_CYC e] ∧ t.mem = s.mem ∧
        t.reg (R.ENG_BUSY_CYC e) = word (min ((s.reg (R.ENG_BUSY_CYC e)).toNat + 1) 0xFFFFFFFF)) ∧
    (g.mayEnter = true → g.entering = some i → g.flights = [] → 12 ≤ s.codeBundles →
      ∃ t : State, exec (.eventEntry e) s = .next t ∧ (t.engine e).pc = (if i = 0 then 0 else if i = 1 then 4 else 8) ∧
        (t.engine e).epc = BitVec.ofNat 12 g.pc ∧ (t.engine e).ees = g.es ∧
        (t.engine e).es = setBits (setBits g.es (16 + i) (16 + i) 0) 19 19 1 ∧
        s.KeepsRegs t [R.ENG_EVT_CNT e, R.ENG_HOLD_MAX e] ∧ t.mem = s.mem) ∧
    (g.task = some i → bundleLegal bw = false → ∃ t : State, exec (.bundleIllegal e bw) s = .next t ∧ s.Fails t e i 1) ∧
    (g.task = some i → g.faulted = none → ∀ (d x : BitVec 4) (a c : BitVec 2) (n : BitVec 3) (dst : BitVec 6) (sh : BitVec 5)
        (k : BitVec 10) (k7 : BitVec 7) (w : Word) (mode : AddrMode) (ecc last : Bool),
      let fails := fun l : List Instr => ∀ c ∈ l, ∃ t : State, exec c s = .next t ∧ s.Fails t e i 1
      (hasDup (g.named ++ [d.toNat]) = true → fails [.add e d x x last, .sub e d x x last, .neg e d x last, .addi e d x k last,
        .and e d x x last, .or e d x x last, .xor e d x x last, .not e d x last, .mov e d x last, .min e d x x last,
        .max e d x x last, .abs e d x last, .movi e d k last, .ldi e d w last, .asr e d x x last, .lsr e d x x last,
        .lsl e d x x last, .asri e d x sh last, .lsri e d x sh last, .lsli e d x sh last, .mvfh e a d last, .mvfl e a d last,
        .mvfg e a d last, .cnv e d a sh last, .dmas e d last, .mbr e d last]) ∧
      (hasDup (g.named ++ [aName a.toNat]) = true → fails [.mac1 e a x d last, .msu1 e a x d last, .mpy1 e a x d last,
        .mpn1 e a x d last, .ald e a d last, .alds e a d last, .aadd e a c last, .asub e a c last, .amov e a c last, .aclr e a last,
        .mvth e a d last, .mvtl e a d last, .mvtg e a d last]) ∧
      (hasDup (g.named ++ (d.toNat :: pName n.toNat mode)) = true → fails [.ld e d n mode ecc last]) ∧
      (hasDup (g.named ++ pName n.toNat mode) = true → fails [.st e d n mode last, .modp e n mode last]) ∧
      (hasDup (g.named ++ [0x10 + n.toNat]) = true → fails [.adda e n k last]) ∧
      (hasDup (g.named ++ [dst.toNat]) = true → fails [.moviz e dst k7 last]))

/-- Where its stage is the next to run at the end of phase p: the route stage puts into an enabled steady entry's destination the block
that the stage reads from its source times its gain, converted exactly (R142, R146); the mix stage puts into a bus the converted product
of its one steady crosspoint (R154); the dynamics stage passes the input of a unit without slope, makeup and lookahead unchanged (R159 to
R161). Each stage then counts as finished; memory, engines and time stay. DELAY_TAP_WAIT of an entry of the running stage that reads a delay line,
its own or an old tap's through the crossfade, is counted (R152). -/
def Obligations.FixedBlockStages : Prop :=
  ∀ (s : State) (p i j : Nat) (r : RouteSt) (b : Bus) (x : XpSt) (u : DynSt) (w : Fin 4096),
    let out := fun (src : List Word) (g : Int) => (List.range s.T).map fun k => convert (accI (8 * smp src k * g)).toInt 0
    (s.stageTurn 0 = some p → s.mix.route = [(i, r)] → r.e.enable = true → r.e.src ≠ 0xFFFF → r.e.phase = p → r.e.dlyEn = false →
      r.cross = none → r.ramp = none → r.tap = none →
      ∃ t, exec .routeStage s = .next t ∧
        Tbl.get (fun _ => []) t.fab.cur r.e.dst = out (s.stageReads p 0 r.e.src) (effGain r.e.gain r.e.range) ∧
        t.fab.stages = s.fab.stages - 1 ∧ t.mem = s.mem ∧ t.eng = s.eng ∧ t.clk = s.clk) ∧
    (s.stageTurn 1 = some p → s.mix.bus = [(i, b)] → s.mix.xp = [(j, x)] → b.enable = true → b.phase = p → x.e.enable = true →
      x.e.bus = i → x.ramp = none → x.out = [] →
      ∃ t, exec .mixStage s = .next t ∧
        Tbl.get (fun _ => []) t.fab.cur b.out = out (s.stageReads p 1 x.e.src) (effGain x.e.gain x.e.range) ∧
        t.fab.stages = s.fab.stages - 2 ∧ t.mem = s.mem ∧ t.eng = s.eng ∧ t.clk = s.clk) ∧
    (s.stageTurn 2 = some p → s.mix.dyn = [(i, u)] → u.e.enable = true → u.e.phase = p → u.e.slope = 0 → u.e.makeup = 0 →
      u.e.look = 0 → u.look = none → u.m.gr = 0 → s.runsBack (16384 + i) = false →
      ∃ t, exec .dynamicsStage s = .next t ∧
        Tbl.get (fun _ => []) t.fab.cur u.e.out = (List.range s.T).map (fun k => (s.stageReads p 2 u.e.inp).getD k 0) ∧
        t.fab.stages = s.fab.stages - 4 ∧ t.mem = s.mem ∧ t.eng = s.eng ∧ t.clk = s.clk) ∧
    ((s.rte w).e.enable = true → ((s.rte w).e.dlyEn = true ∨ ∃ o x, (s.rte w).tap = some (some o, x)) → s.stageTurn 0 = some (s.rte w).e.phase →
      exec (.delayTapWait w) s = .next (s.count R.RTE_DLY_WAIT_CNT))

/-- With the tables in canonical form: FADE_END takes out of every route entry, crosspoint and dynamics unit exactly the ramps, crossfades,
tap crossfades and fade-outs that are over, of which as many samples have passed as they are long (R143, R149, R156, R162), and keeps the
others and all else; one that started at a later tick number than the present one, after a step back, is over too (the model's reading,
log entry 12). DEFERRED_CHANGE_APPLY gives an entry whose crossfades are over the enabled contents that waited for them (R149); registers
but the counts of objects, memory and time stay. At a meter boundary METER_RECORD_POST writes the record into the meter ring where it fits and
starts a new accumulation, and counts a drop where events cannot be written (R168, R169). -/
def Obligations.FadesEndAndDeferredChangesApply : Prop :=
  ∀ (s : State) (i : Nat) (n : Route),
    let counts := [R.RTE_ACTIVE, R.RTE_FADING, R.MIX_XP_ACTIVE, R.MIX_XP_FADING, R.DYN_ACTIVE]
    let past := fun n0 len : Nat => decide (s.tickNum < n0 ∨ len ≤ (s.tickNum - n0) * s.T)
    (Tbl.wf (fun _ => {}) s.mix.route → Tbl.wf (fun _ => {}) s.mix.xp → Tbl.wf (fun _ => {}) s.mix.dyn →
      (∃ t, exec .fadeEnd s = .next t ∧
        t.rte i = { s.rte i with
          ramp := (s.rte i).ramp.bind fun f => if past f.n0 f.len then none else some f
          cross := (s.rte i).cross.bind fun f => if past f.2.n0 f.2.len then none else some f
          tap := (s.rte i).tap.bind fun f => if past f.2.1 f.2.2 then none else some f } ∧
        (let x := Tbl.get (fun _ => {}) s.mix.xp i
         Tbl.get (fun _ => {}) t.mix.xp i = { x with
           ramp := x.ramp.bind fun f => if past f.n0 f.len then none else some f
           out := x.out.filter fun o => !past o.2.2.n0 o.2.2.len }) ∧
        t.dynU i = { s.dynU i with look := (s.dynU i).look.bind fun f => if past f.2 64 then none else some f } ∧
        s.KeepsRegs t counts ∧ t.mem = s.mem ∧ t.clk = s.clk ∧ t.fab = s.fab) ∧
      ((s.rte i).defer = some n → n.enable = true → ((s.rte i).cross.all fun f => past f.2.n0 f.2.len) = true →
        ((s.rte i).tap.all fun f => past f.2.1 f.2.2) = true →
        ∃ t, exec .deferredChangeApply s = .next t ∧ (t.rte i).defer = none ∧ (t.rte i).e = n ∧ s.KeepsRegs t counts ∧
          t.mem = s.mem ∧ t.clk = s.clk ∧ t.fab = s.fab)) ∧
    (s.fld F.MIX_METER_CFG_interval ≠ 0 → s.tickNum % s.fld F.MIX_METER_CFG_interval = 0 → s.mix.meterTicks ≠ 0 →
      (s.hostUp = true → (s.ring 9).en = true → s.meterRecord.length / 16 ≤ s.ringRoom 9 →
        ∃ t, exec .meterRecordPost s = .next t ∧ (t.ring 9).prod % 2 ^ 32 = ((s.ring 9).prod + s.meterRecord.length / 16) % 2 ^ 32 ∧
          t.mix.meterTicks = 0 ∧ t.mix.meterNew = false ∧ t.regs = s.regs ∧ t.mem = s.mem ∧ t.clk = s.clk) ∧
      (s.hostUp = false → exec .meterRecordPost s = .next { s.count R.MIX_METER_DROP_CNT with
        mix := { s.mix with meter := [], meterGr := [], meterN := 0, meterTicks := 0 } }))

/-- For a command that may be parsed, with target 0: PSET_DEFINE of a free host set in a free range defines it, both banks zero;
PSET_UNDEFINE of a set that is not pending removes it while the tick is stopped; PSET_LOAD and PSET_WRITE put the given bytes into the
set's shadow, which no reader sees, where no copy runs; each completes OK, and changes nothing else. -/
def Obligations.ParameterSetCommands : Prop :=
  ∀ (c : HostCmd) (s : State) (p : Machine.PSet), cmdTarget c = 0 →
    let q := s.takeCmd c.ring
    let id := cmdArg c 0 2
    (s.Takes c 0x0020 → id < 4064 → q.psetPending id = false → q.pset? id = none → 1 ≤ cmdArg c 8 2 → cmdArg c 8 2 ≤ 1024 →
      (let off := cmdArg c 4 4 * 64
       let size := cmdArg c 8 2 * 64
       off + size ≤ 0x600000 → (∀ e ∈ s.mix.sets, e.2.off + e.2.size ≤ off ∨ off + size ≤ e.2.off) →
       exec (.psetDefine c) s = .next ((((q.putBytes (paramBase + off) (List.replicate size 0)).putBytes
         (paramBase + bankSize + off) (List.replicate size 0)).setPset id { off := off, size := size }).psetUsed.endCmd c stOk 0))) ∧
    (s.Takes c 0x0021 → s.ticking = false → isBlockSet id = false → q.pset? id = some p → q.psetPending id = false →
      exec (.psetUndefine c) s = .next ((q.setMix fun m => { m with sets := Tbl.drop id m.sets }).psetUsed.pendCounts.endCmd c stOk 0)) ∧
    (s.Takes c 0x0022 → q.pset? id = some p → p.copying = false → q.psetPending id = false → 4 ≤ cmdArg c 8 4 →
      cmdArg c 8 4 ≤ 65536 → cmdArg c 8 4 % 4 = 0 → cmdArg c 4 4 + cmdArg c 8 4 ≤ p.size →
      exec (.psetLoad c) s = .next (((q.readHost (cmdArg c 16 8) (cmdArg c 8 4)).putBytes
        (paramBase + (1 - p.bank) * bankSize + p.off + cmdArg c 4 4) (padTo (cmdArg c 8 4) c.data)).endCmd c stOk 0)) ∧
    (s.Takes c 0x0023 → q.pset? id = some p → p.copying = false → q.psetPending id = false → 1 ≤ cmdArg c 2 2 → cmdArg c 2 2 ≤ 32 →
      cmdArg c 4 4 + cmdArg c 2 2 ≤ p.size →
      exec (.psetWrite c) s = .next ((q.putBytes (paramBase + (1 - p.bank) * bankSize + p.off + cmdArg c 4 4)
        (slice c.desc 24 (cmdArg c 2 2))).endCmd c stOk 0))

/-- A PSET_COMMIT of defined, distinct, not pending sets that passes validation, of a module without a partner, with a target at or
above the earliest, is scheduled and completes nothing yet (R175, R177). When it is due, PSET_COMMIT_APPLY of a host set that is
not being copied switches its active bank, starts its copy, records the tick and completes the command (R173). SHADOW_REFRESH ends a copy: the
shadow then holds the active contents (R174). -/
def Obligations.ParameterSetCommitAndSwitch : Prop :=
  (∀ (c : HostCmd) (s : State), s.Takes c 0x0024 →
    (let q := s.takeCmd c.ring
     let ids := commitList c
     q.earliest (s.issueTick c.ring) true ≤ cmdTarget c → cmdTarget c ≤ s.issueTick c.ring + 2 ^ 31 → cmdTarget c ≠ 0 →
     1 ≤ cmdArg c 0 2 → cmdArg c 0 2 ≤ 4096 → twice ids = false → (∀ id ∈ ids, (q.pset? id).isSome = true ∧ q.psetPending id = false) →
     q.psetCommits < 64 → q.psetBad ids (cmdTarget c) = none → q.paired = false →
     exec (.psetCommit c) s = .next ((q.readHost (cmdArg c 8 8) (2 * cmdArg c 0 2)).schedule c (cmdTarget c) false (.psetCommit ids false) none).pendCounts)) ∧
  (∀ (s : State) (a : Timed) (id : Nat) (p : Machine.PSet), s.sched = [a] → a.kind = .psetCommit [id] true → a.target ≤ s.tickNum →
    id < 4064 → s.pset? id = some p → p.copying = false →
    ∃ t, exec .psetCommitApply s = .next t ∧ t.pset? id = some { p with bank := 1 - p.bank, copying := true } ∧
      t.pair R.MIX_PSET_LAST_LO R.MIX_PSET_LAST_HI = s.tickNum % 2 ^ 64 ∧ t.sched = [] ∧ t.mem = s.mem ∧ t.clk = s.clk ∧
      (∀ r, a.ring = some r → a.lost = false → (⟨r, a.tag, a.opcode, a.okStatus, 0, s.tickNum⟩ : Cpl) ∈ t.hif.cpls)) ∧
  ∀ (s : State) (id : Fin 4096) (p : Machine.PSet), s.pset? id = some p → p.copying = true →
    exec (.shadowRefresh id) s =
      .next ((s.putBytes (p.addr (1 - p.bank) 0) (s.bytes (p.addr p.bank 0) p.size)).setPset id { p with copying := false }).pendCounts

/-- In a pair, PROPOSE of members that match, are free and pass validation is scheduled and agreed; of others it is refused, and changes
nothing but the message sent. AGREE marks the own commit of that identifier agreed; REFUSE, and COMMIT_AGREE_TIMEOUT of one not agreed,
take it out of the schedule, withdraw it and end its command with a failure; WITHDRAW takes the partner's out (R178). A message whose CRC
fails is discarded and counted (R228). -/
def Obligations.CommitsAreAgreedInAPair : Prop :=
  ∀ (p : Proposal) (id : Word) (reason : Byte) (a : Timed) (r : Nat) (s : State),
    (s.paired = true → (∀ k, s.propBad p = some k → exec (.propose p true) s = .next (s.sendCmd 4 (beBytes 4 p.id.toNat ++ [Config.refuseCode k]))) ∧
      (s.propBad p = none → ∃ t, exec (.propose p true) s = .next t ∧ t.mem = s.mem ∧ t.clk = s.clk ∧
        t.sched = s.sched ++ [{ target := p.tick.toNat, ring := none, tag := 0, late := false, propId := some p.id.toNat,
                                kind := if p.streams then .streamCommit (p.items.map (·.1)) true else .psetCommit (p.items.map (·.1)) true }])) ∧
    exec (.agree id true) s = .next { s with sched := s.sched.map fun t => if t.isOwn id.toNat then { t with kind := t.kind.agree } else t } ∧
    (s.sched = [a] → a.propId = some id.toNat → a.ring = some r → a.lost = false →
      (∃ t, exec (.refuse id reason true) s = .next t ∧ t.sched = [] ∧ t.mem = s.mem ∧ t.clk = s.clk ∧
        t.reg R.MIX_PSET_WITHDRAW_CNT = word (min ((s.reg R.MIX_PSET_WITHDRAW_CNT).toNat + 1) 0xFFFFFFFF) ∧
        ∃ st, st ≠ stOk ∧ (⟨r, a.tag, a.opcode, st, 0, s.tickNum⟩ : Cpl) ∈ t.hif.cpls) ∧
      (a.agreed = false → ∃ t, exec (.commitAgreeTimeout id) s = .next t ∧ t.sched = [] ∧ t.mem = s.mem ∧ t.clk = s.clk ∧
        (⟨r, a.tag, a.opcode, stPairFail, 0, s.tickNum⟩ : Cpl) ∈ t.hif.cpls)) ∧
    (s.sched = [a] → a.propId = some id.toNat → a.ring = none → ∃ t, exec (.withdraw id true) s = .next t ∧ t.sched = [] ∧
      t.reg R.MIX_PSET_WITHDRAW_CNT = word (min ((s.reg R.MIX_PSET_WITHDRAW_CNT).toNat + 1) 0xFFFFFFFF) ∧
      s.KeepsRegs t [R.MIX_PSET_WITHDRAW_CNT, R.MIX_PSET_STATUS, R.STR_STATUS] ∧ t.mem = s.mem ∧ t.outbox = s.outbox) ∧
    (let bad := Host.Outcome.next (φ := Fault) (ρ := Refusal) (s.count R.TWN_MSG_CRC_CNT)
     exec (.propose p false) s = bad ∧ exec (.agree id false) s = bad ∧ exec (.refuse id reason false) s = bad ∧
       exec (.withdraw id false) s = bad)

/-- STREAM_STAGE of a context that is not pending keeps the 192 bytes read as its staged context and completes OK (R186). A STREAM_COMMIT
of staged contexts that are not pending and pass validation, of a module without a partner, is scheduled (R186, R189). When it is due,
STREAM_COMMIT_APPLY makes a receive context active and an enabled one that was disabled WAITING (R191, R208), and completes the
command; memory and time stay. -/
def Obligations.StreamsAreStagedAndCommitted : Prop :=
  (∀ (c : HostCmd) (s : State), s.Takes c 0x0030 → cmdTarget c = 0 →
    (let q := (s.takeCmd c.ring).emit (.hostRead (cmdArg c 8 8) 192)
     let i := cmdArg c 2 2
     i ≤ 511 →
     (cmdArg c 0 1 = 0 → (s.takeCmd c.ring).ctxPending i = false → exec (.streamStage c) s =
       .next ((q.setStr fun t => { t with rxStage := Tbl.set (fun _ => []) t.rxStage i (padTo 192 c.data) }).endCmd c stOk 0)) ∧
     (cmdArg c 0 1 = 1 → (s.takeCmd c.ring).ctxPending (0x8000 + i) = false → exec (.streamStage c) s =
       .next ((q.setStr fun t => { t with txStage := Tbl.set (fun _ => []) t.txStage i (padTo 192 c.data) }).endCmd c stOk 0)))) ∧
  (∀ (c : HostCmd) (s : State), s.Takes c 0x0031 →
    (let q := s.takeCmd c.ring
     let xs := commitList c
     q.earliest (s.issueTick c.ring) true ≤ cmdTarget c → cmdTarget c ≤ s.issueTick c.ring + 2 ^ 31 → cmdTarget c ≠ 0 →
     1 ≤ cmdArg c 0 2 → cmdArg c 0 2 ≤ 64 → twice xs = false →
     (∀ x ∈ xs, x / 512 % 64 = 0 ∧ q.stagedCtx x ≠ [] ∧ q.ctxPending x = false) →
     q.streamCommits < 64 → q.streamBad xs (cmdTarget c) = none → q.paired = false →
     exec (.streamCommit c) s = .next (q.schedule c (cmdTarget c) false (.streamCommit xs false) none).pendCounts)) ∧
  ∀ (s : State) (a : Timed) (x : Nat), s.sched = [a] → a.kind = .streamCommit [x] true → a.target ≤ s.tickNum → x < 512 →
    ∃ t, exec .streamCommitApply s = .next t ∧ (t.rx x).ctx = s.stagedCtx x ∧ t.sched = [] ∧ t.mem = s.mem ∧ t.clk = s.clk ∧
      (ctxOn (s.stagedCtx x) = true → ctxOn (s.rx x).ctx = false → t.rxState x = 1) ∧
      (ctxOn (s.stagedCtx x) = false → t.rxState x = 0) ∧ (∀ y, y ≠ x → t.rx y = s.rx y)

/-- At the launch of a committed tick that is not withheld, the one enabled stream of port A is sent as its frame of R192, once, where its time is not over; a packet not
started two ticks later is dropped and counted (R198). A frame of a matched stream in WAITING that passes its checks, is new, lies on the grid
and falls into the window is accepted: the stream is RUNNING with its phase (R203, R208); an AVTP frame that matches none is counted
unmatched, another of a port goes to the management path, and a message of the partner whose CRC fails is counted (R228); without a valid grid a matched frame is only counted (R201). A port's frame comes through pins that are not in a near-end loop (R335), and
while the network DMA is being drained no frame is taken or launched (R399). A RUNNING stream 64 boundaries without a packet waits again. -/
def Obligations.PacketsAreSentAndReceived : Prop :=
  ∀ (s : State) (i n : Nat) (c f : List Byte) (k : TxPkt) (p : Fin 3) (src : Fin 4) (raw : Nat) (bufs : List (Nat × Nat)) (crcOk : Bool)
    (x : Int) (j : Fin 512),
    let frame := exec (.mediaFrameReceive src f raw bufs crcOk) s
    let time := s.stampTime (if src = 3 then raw else s.landStamp false src raw)
    let mayCome := s.mayIssue 15 = true ∧ (src = 3 ∨ s.rxPins (macLane src) = true)
    let whole := mayCome ∧ (src ≠ 3 ∨ crcOk = true)
    (s.mayIssue 15 = false → frame = .next s ∧ (s.fab.comTick = some n → exec .transmitLaunch s = .next s)) ∧
    (s.mayIssue 15 = true → s.fab.comTick = some n → s.tickNum < n + 2 → s.str.launched = false → s.ticking = true → s.withhold = false → s.str.txServe = [(i, c)] → ctxOn c = true →
      ctxPort c 0 = true → ctxPort c 1 = false → ctxPort c 2 = false → (∀ q, s.txQueue q = []) →
      s.flag (F.MAC_STATUS_link 0) = true → s.portSends 0 = true →
      ∃ t, exec .transmitLaunch s = .next t ∧ t.outbox = s.outbox ++ [.frame 0 (s.mediaFrame c 0 n (s.nextMr i))] ∧
        t.str.launched = true ∧ s.KeepsRegs t [R.STR_TX_STATUS i, R.STR_TX_SENT_CNT i, R.MAC_TX_FRM_CNT 0] ∧ t.mem = s.mem) ∧
    (s.txQueue p = [k] → k.tick + 2 ≤ s.tickNum → ∃ t, exec (.transmitLateDrop p) s = .next t ∧ t.txQueue p = [] ∧
      t.flag F.STR_STATUS_tx_late = true ∧ t.reg R.STR_TX_LATE_CNT = word (min ((s.reg R.STR_TX_LATE_CNT).toNat + 1) 0xFFFFFFFF) ∧
      s.KeepsRegs t [R.STR_TX_LATE_CNT, R.STR_TX_LATE_CNT_S k.stream, R.STR_STATUS] ∧ t.mem = s.mem ∧ t.outbox = s.outbox) ∧
    (mayCome → src = 3 → crcOk = false → frame = .next (s.count R.TWN_MSG_CRC_CNT)) ∧
    (whole → s.matchRx f src = none → (frameType f).2 = 0x22F0 → frame =
      .next ((s.count R.STR_RX_UNMATCHED_CNT).setFlag F.STR_STATUS_unmatched true)) ∧
    (mayCome → src ≠ 3 → s.matchRx f src = none → (frameType f).2 ≠ 0x22F0 →
      frame = .next (s.mgmtPath src f (s.landStamp false src raw) bufs)) ∧
    (whole → s.matchRx f src = some i → s.flag F.TCK_STATUS_grid_valid = false → frame = .next (s.count R.STR_RX_NOGRID_CNT)) ∧
    (whole → s.matchRx f src = some i → s.flag F.TCK_STATUS_grid_valid = true → (s.rx i).ctx = c → ctxRtp c = false → ctxFlag c 8 = false →
      s.aafBad c f (frameType f).1 = none → (s.rx i).win = none → (s.rx i).fill = [] → s.now.media = [] →
      s.presentation c f (frameType f).1 time = .inl x → s.rxState i = 1 → (s.tickNum : Int) < x / s.T →
      x / s.T ≤ (s.tickNum : Int) + s.L + 1 →
      ∃ t, frame = .next t ∧ t.rxState i = 2 ∧ (t.rx i).got = true ∧
        t.fld (F.STR_RX_STATUS_phase i) = x.toNat % s.T ∧
        t.reg (accCounter src i) = word (min ((s.reg (accCounter src i)).toNat + 1) 0xFFFFFFFF) ∧
        s.KeepsRegs t [R.STR_RX_STATUS i, accCounter src i] ∧ t.mem = s.mem ∧ t.outbox = s.outbox) ∧
    (s.rxState j = 2 → 64 ≤ (s.rx j).quiet → (s.rx j).got = false → ∃ t, exec (.streamRunningTimeout j) s = .next t ∧
      t.rxState j = 1 ∧ (t.rx j).win = none ∧ s.KeepsRegs t [R.STR_RX_STATUS j, R.HIF_EVT_DROP_CNT] ∧ t.mem = s.mem)

/-- While PD_CTRL is released: PARTNER_OWN_ASSERT restarts the guard; an owner outside a handover loses its pins and raises the OWN conflict (R218, R219, R223).
OWN_GUARD_EXPIRE, not in the cycle of an assertion (R221), counts the partner released, and grants the pins to a module that has asserted OWN and settled (R219); the release of a
paired partner makes the next assertion a takeover (R243). OWN_ASSERT asserts OWN_OUT_N (low) where own_req and the guard allow it and starts
the settle time (R220); OWN_SETTLE_END grants the pins, or acts on the PREF straps after a collision, where equal straps release OWN for the wait of
R220 (log entry 43 says which nibble counts); a takeover is counted (R243). A module that a level-3 reaction keeps from OWN releases it
instead of taking the pins (R443), and a destination of resynchronisation with take_unsync = 0 asserts nothing when its partner lets go (R243).
OWN_RELEASE and OWN_REQ_CLEAR disable the pins, then release OWN_OUT_N (R222). A channel without an edge enters as scheduled (R243). -/
def Obligations.OwnershipFollowsTheInterlock : Prop :=
  ∀ (s : State) (c : Fin 32) (u : Nat),
    (s.domOn 1 = false → exec .partnerOwnAssert s = .next s ∧ exec .ownGuardExpire s = .next s) ∧
    (s.domOn 1 = true → s.isOwner = false → exec .partnerOwnAssert s = .next (s.setTwn fun t => { t with
      ownIn := true, ownNow := true, guardOk := false, relAt := none, takeover := false, barred := false, collided := t.collided || t.settling
      collisions := if s.longReleased then 0 else t.collisions })) ∧
    (s.domOn 1 = true → s.isOwner = true → s.twn.ho = none → ∃ t : State, exec .partnerOwnAssert s = .next t ∧ t.isOwner = false ∧ t.twn.ownIn = true ∧
      t.flag F.TWN_STATUS_own_conflict = true ∧ t.latched 20 = true ∧ t.mem = s.mem) ∧
    (s.twn.ownNow = true → exec .ownGuardExpire s = .next s) ∧
    (s.domOn 1 = true → s.twn.ownNow = false → s.twn.ownOut = false → s.twn.ho = none →
      (let take := s.twn.takeover || (s.twn.ownIn && (decide (2 ≤ s.pairState) || s.twn.wasShadow.isSome)
         && (s.equinox || decide (s.twn.wasShadow = some true) || s.flag F.TWN_CTRL_take_unsync))
       exec .ownGuardExpire s = .next (s.setTwn fun t => { t with
        ownIn := false, guardOk := true, relAt := some (t.relAt.getD (s.clk.freeU - 12000)), wasShadow := none, takeover := take
        barred := t.barred || (!take && t.ownIn && decide (s.pairState = 3 ∨ s.pairState = 4)) }))) ∧
    (s.domOn 1 = true → s.twn.ownNow = false → s.twn.ownOut = true → s.twn.settling = false → s.twn.ho = none → s.twn.takeover = false → s.flt.yield = [] → ∃ t : State,
      exec .ownGuardExpire s = .next t ∧ t.isOwner = true ∧ t.twn.ownIn = false ∧ t.twn.guardOk = true ∧ t.mem = s.mem) ∧
    (s.flag F.TWN_CTRL_own_req = true → s.twn.guardOk = true → s.twn.ownOut = false → s.twn.settling = false → s.twn.retryAt = none →
      s.twn.ho = none → s.flt.yield = [] → s.twn.takeover = false → s.twn.barred = false → s.ticking = true → s.pref = true →
      s.unhealthy = false →
      exec .ownAssert s = .next ((s.emit (.pin "OWN_OUT_N" 0 false)).setTwn fun t => { t with
        ownOut := true, settling := true, collided := false })) ∧
    (s.twn.barred = true → s.pairState = 3 ∨ s.pairState = 4 → s.flag F.TWN_CTRL_take_unsync = false → exec .ownAssert s = .next s) ∧
    (s.twn.settling = true → s.twn.collided = false → s.twn.guardOk = true → s.flt.yield ≠ [] → ∃ t : State, exec .ownSettleEnd s = .next t ∧
      t.isOwner = false ∧ t.twn.ownOut = false ∧ t.mem = s.mem) ∧
    (s.twn.settling = true → s.twn.collided = false → s.twn.guardOk = true → s.flt.yield = [] → ∃ t : State, exec .ownSettleEnd s = .next t ∧
      t.isOwner = true ∧ t.twn.settling = false ∧ t.twn.takeover = false ∧ t.mem = s.mem ∧
      (s.twn.takeover = true → t.flag F.TWN_STATUS_takeover = true ∧
        t.reg R.TWN_TAKEOVER_CNT = word (min ((s.reg R.TWN_TAKEOVER_CNT).toNat + 1) 0xFFFFFFFF))) ∧
    (s.twn.settling = true → s.twn.collided = true → s.equalStraps = false → s.pref = true →
      exec .ownSettleEnd s = .next (s.setTwn fun t => { t with settling := false, collided := false })) ∧
    (s.twn.settling = true → s.twn.collided = true → s.equalStraps = false → s.pref = false → s.twn.ownOut = true →
      exec .ownSettleEnd s = .next ((s.setTwn fun t => { t with settling := false, collided := false, ownOut := false }).emit
        (.pin "OWN_OUT_N" 0 true))) ∧
    (s.twn.settling = true → s.twn.collided = true → s.equalStraps = true → s.twn.ownOut = true → ∃ t : State,
      exec .ownSettleEnd s = .next t ∧ t.twn.ownOut = false ∧ t.twn.settling = false ∧ t.twn.collisions = s.twn.collisions + 1 ∧
      t.twn.retryAt = some (s.clk.freeU + 60000 * (1 + s.moduleId.toNat / 16 ^ ((s.twn.collisions + 1) % 16) % 16)) ∧
      t.regs = s.regs ∧ t.mem = s.mem) ∧
    (s.twn.retryAt = some u → exec .ownRetryExpire s =
      .next (if u ≤ s.clk.freeU then s.setTwn fun t => { t with retryAt := none } else s)) ∧
    (∃ t : State, exec .ownRelease s = .next t ∧ t.isOwner = false ∧ t.twn.ownOut = false ∧ t.mem = s.mem ∧ t.clk = s.clk ∧
      (s.isOwner = true → s.twn.ownOut = true → s.hif.twi = [] →
        t.outbox = s.outbox ++ [.pin "OWNED" 0 false, .pin "OWN_OUT_N" 0 true])) ∧
    (s.domOn 15 = true → s.twn.ho = none → ∃ t : State, exec .ownReqClear s = .next t ∧ t.flag F.TWN_CTRL_own_req = false ∧ t.isOwner = false ∧
      t.twn.ownOut = false ∧ t.mem = s.mem ∧ t.clk = s.clk) ∧
    (c.val ∈ s.twn.enter → s.isOwner = true → s.twn.ho = none → exec (.takeoverPwmEntry c) s =
      .next ((s.setTwn fun t => { t with enter := t.enter.filter (· ≠ c.val) }).emit
        (.pwm c ((s.amp1 c).edges.map fun e => e.time.toNat))))

/-- HANDOVER_REQUEST with none armed or asked for proposes H: the target, or TICK_NUM + 4 where it is 0 or earlier (R239); else the result is 6 (log entry
45). A healthy incoming module that is not locked to the owner asks for none: the result is 5 (its own check: log entry 45). HO_PROPOSE in EQUINOX with a healthy, locked incoming module and none armed is answered HO_AGREE and arms; outside EQUINOX it is
answered HO_REFUSE; a message whose CRC fails is counted (R228). HO_AGREE arms the proposer at the agreed H; HO_REFUSE and the missing AGREE end the request with their
result. From b_H a pin group switches once (R241); when all have, the OWN lines change (R242); the completion is counted; OWN released
earlier cancels with result 6. An eligible PREF module whose hold has run asks for H = TICK_NUM + 4 (R245). -/
def Obligations.HandoversAreProposedAgreedAndCarriedOut : Prop :=
  ∀ (s : State) (h : BitVec 64) (o : Bool) (r : Byte) (g : PinGroup) (x : Handover) (q : HoReq) (u : Nat),
    (let target := s.pair R.TWN_HO_TICK_LO R.TWN_HO_TICK_HI
     s.domOn 15 = true →
      (s.twn.ho ≠ none ∨ s.twn.hoReq ≠ none → exec .handoverRequest s = .next (s.setFld F.TWN_HO_CTRL_result 6)) ∧
      (let unlocked := s.equinox = true ∧ s.isOwner = false ∧ s.unhealthy = false ∧ ¬ (s.dpll = 2 ∧ s.sel = 6)
       s.twn.ho = none → s.twn.hoReq = none → (unlocked → exec .handoverRequest s = .next (s.setFld F.TWN_HO_CTRL_result 5)) ∧
        (¬ unlocked → ∃ t : State, exec .handoverRequest s = .next t ∧
        t.twn.hoReq = some { h := max (s.tickNum + 4) target, late := decide (target ≠ 0 ∧ target < s.tickNum + 4) } ∧
        t.flag F.TWN_HO_CTRL_busy = true ∧ s.SendsCmd t 6 (beBytes 8 (max (s.tickNum + 4) target) ++ beBytes 1 s.role) ∧
        s.KeepsRegs t [R.TWN_HO_CTRL] ∧ t.mem = s.mem))) ∧
    (s.equinox = false → ∃ t : State, exec (.hoPropose h o true) s = .next t ∧ s.SendsCmd t 8 (beBytes 8 h.toNat ++ [2]) ∧
      s.KeepsRegs t [] ∧ t.twn.ho = s.twn.ho ∧ t.mem = s.mem) ∧
    (s.equinox = true → (s.isOwner = true → s.partnerUnhealthy = false) →
      (s.isOwner = false → s.unhealthy = false ∧ s.dpll = 2 ∧ s.sel = 6) → s.twn.ho = none → ∃ t : State,
      exec (.hoPropose h o true) s = .next t ∧ s.SendsCmd t 7 (beBytes 8 h.toNat) ∧
      t.twn.ho = some { h := h.toNat, outgoing := s.isOwner } ∧
      t.pair R.TWN_HO_TICK_LO R.TWN_HO_TICK_HI = h.toNat ∧ t.flag F.TWN_HO_CTRL_busy = true ∧
      s.KeepsRegs t [R.TWN_HO_CTRL, R.TWN_HO_TICK_LO, R.TWN_HO_TICK_HI] ∧ t.mem = s.mem) ∧
    (let bad := Host.Outcome.next (φ := Fault) (ρ := Refusal) (s.count R.TWN_MSG_CRC_CNT)
     exec (.hoPropose h o false) s = bad ∧ exec (.hoAgree h false) s = bad ∧ exec (.hoRefuse h r false) s = bad) ∧
    (s.twn.hoReq = some q → q.h = h.toNat → ∃ t : State, exec (.hoAgree h true) s = .next t ∧ t.twn.hoReq = none ∧
      t.twn.ho = some { h := h.toNat, outgoing := s.isOwner, late := q.late } ∧ t.pair R.TWN_HO_TICK_LO R.TWN_HO_TICK_HI = h.toNat ∧
      s.KeepsRegs t [R.TWN_HO_CTRL, R.TWN_HO_TICK_LO, R.TWN_HO_TICK_HI] ∧ t.outbox = s.outbox ∧ t.mem = s.mem) ∧
    (s.twn.hoReq = some q → s.twn.ho = none → q.h = h.toNat → q.yield = false → ∃ t : State, exec (.hoRefuse h r true) s = .next t ∧ t.twn.hoReq = none ∧
      t.fld F.TWN_HO_CTRL_result = r.toNat % 16 ∧ t.flag F.TWN_HO_CTRL_busy = false ∧ s.KeepsRegs t [R.TWN_HO_CTRL] ∧
      t.outbox = s.outbox ∧ t.mem = s.mem) ∧
    (s.twn.hoReq = some q → s.twn.ho = none → q.yield = false → ∃ t : State, exec .handoverAgreeTimeout s = .next t ∧ t.twn.hoReq = none ∧
      t.fld F.TWN_HO_CTRL_result = 4 ∧ t.flag F.TWN_HO_CTRL_busy = false ∧ s.KeepsRegs t [R.TWN_HO_CTRL] ∧
      t.outbox = s.outbox ∧ t.mem = s.mem) ∧
    (s.twn.ho = some x → x.h ≤ s.tickNum → g ∉ x.switched → (g = .twi → s.twiIdle = true) → exec (.handoverPinSwitch g) s =
      .next (s.setTwn fun t => { t with ho := some { x with switched := x.switched ++ [g] } })) ∧
    (s.twn.ho = some x → x.owned = false → (∀ p ∈ pinGroups, p ∈ x.switched) → (x.outgoing = false → s.flt.yield = []) → ∃ t : State, exec .handoverOwnChange s = .next t ∧
      t.twn.ho = some { x with owned := true } ∧ t.twn.ownOut = !x.outgoing ∧ (x.outgoing = true → t.isOwner = false) ∧ t.mem = s.mem) ∧
    (s.twn.ho = some x → x.owned = true → (x.outgoing = false → s.twn.guardOk = true) → ∃ t : State,
      exec .handoverComplete s = .next t ∧ t.twn.ho = none ∧ t.flag F.TWN_HO_CTRL_busy = false ∧
      t.fld F.TWN_HO_CTRL_result = (if x.late then 1 else 0) ∧ (x.outgoing = false → t.isOwner = true) ∧
      t.reg R.TWN_HANDOVER_CNT = counted (s.reg R.TWN_HANDOVER_CNT) ∧ t.flag F.TWN_STATUS_handover = true ∧ t.mem = s.mem) ∧
    (s.twn.ho = some x → x.owned = false → (x.outgoing = true → s.twn.ownOut = false) → ∃ t : State,
      exec .handoverCancel s = .next t ∧ t.twn.ho = none ∧ t.fld F.TWN_HO_CTRL_result = 6 ∧ t.flag F.TWN_HO_CTRL_busy = false ∧
      (x.outgoing = false → t.twn.takeover = true) ∧ (s.isOwner = false → s.KeepsRegs t [R.TWN_HO_CTRL]) ∧ t.mem = s.mem) ∧
    (s.twn.revU = some u → s.flag F.TWN_CTRL_revert_en = true → s.pref = true → s.isOwner = false → s.equinox = true →
      s.unhealthy = false → s.dpll = 2 → s.sel = 6 → s.twn.lbOk = true → u + s.revertHold ≤ s.clk.freeU → s.twn.ho = none →
      s.twn.hoReq = none → ∃ t : State, exec .revertRequest s = .next t ∧ t.twn.hoReq = some { h := s.tickNum + 4, late := false } ∧
      s.SendsCmd t 6 (beBytes 8 (s.tickNum + 4) ++ [0]) ∧ s.KeepsRegs t [R.TWN_HO_CTRL] ∧ t.mem = s.mem)

/-- PAIRING_ATTEMPT of a solo module with pair_en and a lane counts, sends HELLO with the fields of R229 and links (R224, R227). A HELLO with the
same PREF is refused; one that agrees starts VERIFY with the common TCK_START where neither tick runs, else resynchronisation, the owner
or, with no owner, the PREF module being the source (R225, R227). No HELLO in time refuses. A valid heartbeat is kept and one that fails its CRC
only counted, as other messages are (R228); its loss, where none arrives in the same cycle, posts, counts and gives SOLO, and the owner without a handover stays the owner (R234). A marker gives θ and D
(R232). LANESET is taken by the higher ID, and answered by the lower with the largest common set, for the next tick (R233). -/
def Obligations.ModulesPairAndKeepTheLink : Prop :=
  ∀ (s : State) (m : HelloMsg) (b : HeartbeatMsg) (o : Int) (mask : BitVec 4) (n : BitVec 64) (p : HelloMsg),
    (s.solo = true → s.flag F.TWN_CTRL_pair_en = true → s.fwStopped = false → s.twn.working = 0 →
      exec .pairingAttempt s = .next (s.count R.TWN_PAIR_TRY_CNT)) ∧
    (s.solo = true → s.flag F.TWN_CTRL_pair_en = true → s.fwStopped = false → s.twn.working ≠ 0 → ∃ t : State, exec .pairingAttempt s = .next t ∧
      t.pairState = 1 ∧ t.reg R.TWN_PAIR_TRY_CNT = counted (s.reg R.TWN_PAIR_TRY_CNT) ∧
      s.SendsCmd t 1 ([if s.pref then 1 else 0, if s.ticking then 1 else 0, 0, 0] ++ beBytes 8 s.moduleId.toNat
        ++ beBytes 4 (s.reg R.FAB_GRAPH_ID).toNat ++ beBytes 4 (s.reg R.TCK_CFG).toNat ++ beBytes 8 s.tickNum
        ++ beBytes 4 (s.reg R.SYS_FW_VERSION).toNat) ∧
      s.KeepsRegs t [R.TWN_PAIR_TRY_CNT, R.TWN_STATUS, R.MIX_PSET_STATUS] ∧ t.mem = s.mem) ∧
    (let bad := Host.Outcome.next (φ := Fault) (ρ := Refusal) (s.count R.TWN_MSG_CRC_CNT)
     exec (.hello m false) s = bad ∧ exec (.laneset mask n false) s = bad) ∧
    (s.pairState = 1 → s.fwStopped = false → m.pref = s.pref → ∃ t : State, exec (.hello m true) s = .next t ∧ t.pairState = 0 ∧
      t.flag F.TWN_STATUS_pair_refused = true ∧ t.paired = false ∧ t.mem = s.mem) ∧
    (s.pairState = 1 → s.fwStopped = false → m.pref ≠ s.pref → m.graphId = s.reg R.FAB_GRAPH_ID →
      tckFields m.tckCfg = tckFields (s.reg R.TCK_CFG) →
      (m.running = false → s.ticking = false → max s.tickNum m.tick.toNat + s.fs / s.T + 256 < 2 ^ 64 → ∃ t : State,
        exec (.hello m true) s = .next t ∧ t.pairState = 4 ∧ t.paired = true ∧ t.twn.partner = some m ∧
        t.pair R.TCK_START_LO R.TCK_START_HI % 256 = 0 ∧
        max s.tickNum m.tick.toNat + s.fs / s.T ≤ t.pair R.TCK_START_LO R.TCK_START_HI ∧
        t.pair R.TCK_START_LO R.TCK_START_HI < max s.tickNum m.tick.toNat + s.fs / s.T + 256 ∧
        s.KeepsRegs t [R.TWN_PARTNER_ID_LO, R.TWN_PARTNER_ID_HI, R.TCK_START_LO, R.TCK_START_HI, R.TWN_STATUS, R.MIX_PSET_STATUS]) ∧
      (m.running = true ∨ s.ticking = true → ∃ t : State, exec (.hello m true) s = .next t ∧
        t.pairState = (if s.isOwner ∨ (s.twn.ownIn = false ∧ s.pref = true) then 2 else 3) ∧ t.mem = s.mem)) ∧
    (s.pairState = 1 → s.fwStopped = false → ∃ t : State, exec .helloTimeout s = .next t ∧ t.pairState = 0 ∧ t.flag F.TWN_STATUS_pair_refused = true ∧
      t.mem = s.mem) ∧
    (b.crcOk = false → exec (.heartbeat b) s = .next (s.count R.TWN_MSG_CRC_CNT)) ∧
    (b.crcOk = true → ∃ t : State, exec (.heartbeat b) s = .next t ∧ t.twn.hb = some b ∧ t.flag F.TWN_STATUS_hb_ok = true ∧
      t.mem = s.mem ∧ t.clk.freeU = s.clk.freeU) ∧
    (s.twn.hbNow = true → exec .heartbeatLoss s = .next s) ∧
    (s.twn.hbNow = false → s.solo = false → ∃ t : State, exec .heartbeatLoss s = .next t ∧ t.pairState = 0 ∧ t.flag F.TWN_STATUS_hb_ok = false ∧
      t.reg R.TWN_HB_LOSS_CNT = counted (s.reg R.TWN_HB_LOSS_CNT) ∧ t.twn.partner = none ∧ t.mem = s.mem ∧
      (s.twn.ho = none → s.twn.hoReq = none → t.isOwner = s.isOwner)) ∧
    (s.twn.hb = some b → (o - b.markerOffset) % 2 = 0 → ∃ t : State, exec (.tickBoundaryMarker o) s = .next t ∧ t.twn.marker = true ∧
      t.twn.rxOff = o ∧ t.reg R.TWN_PHASE = wordI ((o - b.markerOffset) / 2) ∧
      t.reg R.TWN_LINK_DELAY = wordI ((o + b.markerOffset) / 2) ∧ t.mem = s.mem) ∧
    (s.twn.partner = some p → p.moduleId.toNat ≤ s.moduleId.toNat → exec (.laneset mask n true) s =
      .next (s.setTwn fun t => { t with laneNext := some (mask.toNat, n.toNat) })) ∧
    (s.twn.partner = some p → s.moduleId.toNat < p.moduleId.toNat → laneSet (s.twn.working &&& mask.toNat) ≠ 0 → ∃ t : State,
      exec (.laneset mask n true) s = .next t ∧ t.twn.laneNext = some (laneSet (s.twn.working &&& mask.toNat), s.tickNum + 1) ∧
      s.SendsCmd t 10 (beBytes 1 (laneSet (s.twn.working &&& mask.toNat)) ++ beBytes 8 (s.tickNum + 1)) ∧ s.KeepsRegs t [] ∧ t.mem = s.mem)

/-- DIGEST_SEND sends the digest fixed at the commit, DIGEST keeps the partner's in VERIFY and EQUINOX (R230). DIGEST_COMPARE two ticks later: a
match clears the run, a mismatch counts it, a missing digest leaves it; the third mismatch in EQUINOX raises the divergence fault 17 and
starts resynchronisation with the wrong module of R231 as destination; a mismatch in VERIFY restarts it, and the eighth match gives EQUINOX
(R227). RS_STEP is noted by the destination; at its tick the source sends its configuration and announces the next step, the destination
installs it, then reads the mirror, and later steps only change the status (R235). MIRROR and STATE_TRANSFER wait in the destination; at
tick F both go to VERIFY, and the source mirrors to F + 8 (R236). A message whose CRC fails is counted (R228). -/
def Obligations.DigestsAreComparedAndPairsResynchronise : Prop :=
  ∀ (s : State) (d e : Dig) (n : BitVec 64) (v : BitVec 64) (w : BitVec 2) (o : Bool) (k : Fin 6) (a i u f : Nat) (c : ResyncCfg)
    (x : Fin 4096) (bl : List Word) (bs : List Byte),
    (s.twn.own = [d] → s.fab.comTick = some d.tick → ∃ t : State, exec .digestSend s = .next t ∧
      t.twn.msgs = s.twn.msgs ++ [⟨2, Tbl.get (fun _ => 0) s.twn.msgSeq 2,
        beBytes 8 d.tick ++ beBytes 8 d.value.toNat ++ beBytes 1 d.worst ++ beBytes 1 s.role ++ [0, 0]⟩] ∧ t.outbox = s.outbox ∧
      s.KeepsRegs t [] ∧ t.mem = s.mem ∧ t.twn.own = s.twn.own) ∧
    (4 ≤ s.pairState → exec (.digest n v w o true) s = .next (s.setTwn fun t => { t with
      theirs := t.theirs ++ [{ tick := n.toNat, value := v, worst := w.toNat }] })) ∧
    (s.twn.own = [d] → d.tick + 2 ≤ s.tickNum → s.twn.theirs = [] → 4 ≤ s.pairState → exec .digestCompare s =
      .next ((s.count R.TWN_DIG_MISS_CNT).setTwn fun t => { t with agree := 0, own := [], theirs := [] })) ∧
    (s.twn.own = [d] → d.tick + 2 ≤ s.tickNum → s.twn.theirs = [e] → e.tick = d.tick →
      (d.value = e.value → s.pairState = 5 → ∃ t : State, exec .digestCompare s = .next t ∧ t.twn.run = 0 ∧ t.twn.own = [] ∧
        t.twn.theirs = [] ∧ t.pair R.TWN_DIG_LO R.TWN_DIG_HI = d.value.toNat ∧ t.pair R.TWN_PDIG_LO R.TWN_PDIG_HI = e.value.toNat ∧
        s.KeepsRegs t [R.TWN_DIG_LO, R.TWN_DIG_HI, R.TWN_PDIG_LO, R.TWN_PDIG_HI, R.TWN_DIG_TICK_LO, R.TWN_DIG_TICK_HI] ∧
        t.mem = s.mem ∧ t.outbox = s.outbox) ∧
      (d.value = e.value → s.pairState = 4 → s.twn.agree = 7 → ∃ t : State, exec .digestCompare s = .next t ∧ t.pairState = 5 ∧
        t.paired = true ∧ t.mem = s.mem) ∧
      (d.value ≠ e.value → s.pairState = 5 → s.twn.run < 2 → ∃ t : State, exec .digestCompare s = .next t ∧
        t.twn.run = s.twn.run + 1 ∧ t.pairState = 5 ∧ t.reg R.TWN_MISMATCH_CNT = counted (s.reg R.TWN_MISMATCH_CNT) ∧
        t.mem = s.mem ∧ t.outbox = s.outbox) ∧
      (d.value ≠ e.value → s.pairState = 5 → s.twn.run = 2 → 2 ≤ d.worst → e.worst < 2 → ∃ t : State,
        exec .digestCompare s = .next t ∧ t.pairState = 3 ∧ t.latched 17 = true ∧ t.flag F.TWN_STATUS_div = true ∧
        t.reg R.TWN_DIV_CNT = counted (s.reg R.TWN_DIV_CNT) ∧ t.mem = s.mem) ∧
      (d.value ≠ e.value → s.pairState = 5 → s.twn.run = 2 → d.worst < 2 → e.worst < 2 → s.isOwner = true → ∃ t : State,
        exec .digestCompare s = .next t ∧ t.pairState = 2 ∧ t.latched 17 = true ∧ t.mem = s.mem) ∧
      (d.value ≠ e.value → s.pairState = 4 → d.worst < 2 → 2 ≤ e.worst → ∃ t : State, exec .digestCompare s = .next t ∧
        t.pairState = 2 ∧ t.reg R.TWN_RESYNC_CNT = counted (s.reg R.TWN_RESYNC_CNT) ∧ t.mem = s.mem)) ∧
    (s.pairState = 3 → exec (.rsStep k n true) s = .next (s.setTwn fun t => { t with rsNext := some (k.val, n.toNat) })) ∧
    (s.pairState = 2 → s.twn.rsSource = true → s.twn.rsNext = some (1, a) → a ≤ s.tickNum → ∃ t : State,
      exec (.resyncStepStart c) s = .next t ∧ t.paired = true ∧ t.fld F.TWN_RS_STATUS_step = 1 ∧
      (∃ (tag : Nat) (at2 : Nat), s.tickNum < at2 ∧ t.twn.rsNext = some (2, at2) ∧ t.outbox = s.outbox ++ [.resync s.config] ∧
        t.twn.msgs = s.twn.msgs ++ [⟨3, Tbl.get (fun _ => 0) s.twn.msgSeq 3, [9, 0] ++ beBytes 2 tag ++ ([2] ++ beBytes 8 at2)⟩]) ∧
      s.KeepsRegs t [R.TWN_RS_STATUS, R.TWN_STATUS, R.MIX_PSET_STATUS] ∧ t.mem = s.mem) ∧
    (s.pairState = 3 → s.twn.rsSource = false → s.twn.rsNext = some (1, a) → a ≤ s.tickNum → i < 512 → ∃ t : State,
      exec (.resyncStepStart { step := 1, tx := [(i, bs)] }) s = .next t ∧ t.paired = true ∧ t.fld F.TWN_RS_STATUS_step = 1 ∧
      Tbl.get (fun _ => []) t.str.tx i = bs ∧ t.mix.sets = [] ∧ t.outbox = s.outbox) ∧
    (s.pairState = 3 → s.twn.rsSource = false → s.twn.rsNext = some (2, a) → a ≤ s.tickNum → ∃ t : State,
      exec (.resyncStepStart c) s = .next t ∧ t.twn.rsMirror = true ∧ t.fld F.TWN_RS_STATUS_step = 2 ∧
      t.flag F.TWN_RS_STATUS_mirror = true ∧ s.KeepsRegs t [R.TWN_RS_STATUS] ∧ t.mem = s.mem ∧ t.outbox = s.outbox) ∧
    (s.pairState = 3 → s.twn.rsNext = some (4, a) → a ≤ s.tickNum → exec (.resyncStepStart c) s =
      .next ((s.setTwn fun t => { t with rsNext := none }).setFld F.TWN_RS_STATUS_step 4)) ∧
    (let bad := Host.Outcome.next (φ := Fault) (ρ := Refusal) (s.count R.TWN_MSG_CRC_CNT)
     exec (.digest n v w o false) s = bad ∧ exec (.rsStep k n false) s = bad ∧ exec (.mirror n x bl false) s = bad ∧
       exec (.stateTransfer n u f bs false) s = bad) ∧
    (s.pairState = 3 → exec (.mirror n x bl true) s = .next (s.setTwn fun t => { t with mirror := t.mirror ++ [(n.toNat, x.val, bl)] })) ∧
    (s.pairState = 3 → exec (.stateTransfer n u f bs true) s = .next (s.setTwn fun t => { t with
      units := t.units ++ [{ tick := n.toNat, unit := u, off := f, data := bs }] })) ∧
    (s.pairState = 2 ∨ s.pairState = 3 → s.twn.rsNext = some (5, a) → a ≤ s.tickNum → ∃ t : State, exec .resyncFinal s = .next t ∧
      t.pairState = 4 ∧ t.paired = true ∧ t.fld F.TWN_RS_STATUS_step = 5 ∧ t.twn.rsMirror = false ∧ t.twn.rsEnd = some (s.tickNum + 8) ∧
      s.KeepsRegs t [R.TWN_RS_STATUS, R.TWN_STATUS, R.MIX_PSET_STATUS] ∧ t.mem = s.mem ∧ t.outbox = s.outbox)

/-- CAPTURE_WINDOW_CLOSE gives a frame of a port that times its own its position of the coming tick (R377, R374). A valid frame on the
lands of port q gives a following port whose clk_src q is the next position; with a phase above +1 sample the previous frame is repeated,
at -1 or less the frame is dropped, each counted (R382); two ports on the same lands take the same position (R383); the 64th valid frame of
a hunting port locks it (R381). TDM_LOSS, with no edge in the same cycle, counts and gives FALLBACK or MUTED (R384). The owner sends the
record of the window that closed last; a record of the owner stands in place of the shadow's own decision, and one whose CRC fails is
counted (R388, R228; how a record is put on the frames that came is log entry 51). TDM_APPLY_LO arms the apply with TDM_APPLY_HI's held
word; it waits for its tick's boundary, and TDM_STAGED_APPLY puts all staged registers into effect, or none and names the first that fails
(R389, R390; that it is the first by address is log entry 27). -/
def Obligations.ConverterPortsFollowAndApply : Prop :=
  ∀ (s : State) (p q r : Fin 16) (f : CapFrame) (e0 edge bclks k n pos : Nat) (din dp dr : List Bool) (w0 w1 : List Word)
    (x0 x1 : Nat) (ev : SlipEvent) (v : Word) (h : BitVec 64),
    let w := s.lineWords p (if p = q then din else dp)
    (s.domOn 1 = true → s.portSt f.port = 1 ∨ s.portSt f.port = 4 → s.appFlag (F.TDM_CFG_in_en f.port) = true → f.pos < s.T →
      exec (.captureWindowClose [f] [] []) s = .next ((s.setPort f.port { s.port f.port with
        win := Tbl.put (s.comingTick * s.T + f.pos) (s.lineWords f.port f.din) (s.port f.port).win }).setTdm fun t =>
          { t with closed := s.comingTick })) ∧
    (s.followers q = [p] → s.portSt p = 3 → (s.port p).edge = some e0 → bclks = s.tdmCh p * 32 → e0 < edge →
      ((edge : Int) - e0 - s.sampU).natAbs * 1000 ≤ s.sampU → (s.port p).next = some k → ∃ t : State,
      exec (.followFrame q edge bclks din [(p, dp)]) s = .next t ∧ t.mem = s.mem ∧ (t.port p).edge = some edge ∧
      (let phi : Int := (edge : Int) - ((k : Int) - (s.T + 2 : Nat)) * s.sampU
       (-(s.sampU : Int) < phi → phi ≤ s.sampU → (t.port p).next = some (k + 1) ∧ (t.port p).last = w ∧
          (s.appFlag (F.TDM_CFG_in_en p) = true → (k, w) ∈ (t.port p).win) ∧ s.KeepsRegs t [R.TDM_STATUS p, R.TDM_RATE p]) ∧
       (phi ≤ -(s.sampU : Int) → (t.port p).next = some k ∧ (t.port p).win = (s.port p).win ∧ t.flag (F.TDM_STATUS_slip p) = true ∧
          t.reg (R.TDM_SLIP_DROP_CNT p) = counted (s.reg (R.TDM_SLIP_DROP_CNT p)) ∧
          s.KeepsRegs t [R.TDM_STATUS p, R.TDM_RATE p, R.TDM_SLIP_DROP_CNT p] ∧ t.outbox = s.outbox) ∧
       ((s.sampU : Int) < phi → (t.port p).next = some (k + 2) ∧ (t.port p).last = w ∧ t.flag (F.TDM_STATUS_slip p) = true ∧
          (s.appFlag (F.TDM_CFG_in_en p) = true → (k, (s.port p).last) ∈ (t.port p).win ∧ (k + 1, w) ∈ (t.port p).win) ∧
          t.reg (R.TDM_SLIP_REP_CNT p) = counted (s.reg (R.TDM_SLIP_REP_CNT p)) ∧
          s.KeepsRegs t [R.TDM_STATUS p, R.TDM_RATE p, R.TDM_SLIP_REP_CNT p]))) ∧
    (s.followers q = [p, r] → p ≠ r → (∀ x ∈ [p, r], s.portSt x = 3 ∧ (s.port x).edge = some e0 ∧ s.tdmCh x * 32 = bclks ∧
        (s.port x).next = some k) → e0 < edge → ((edge : Int) - e0 - s.sampU).natAbs * 1000 ≤ s.sampU →
      -(s.sampU : Int) < (edge : Int) - ((k : Int) - (s.T + 2 : Nat)) * s.sampU →
      (edge : Int) - ((k : Int) - (s.T + 2 : Nat)) * s.sampU ≤ s.sampU → ∃ t : State,
      exec (.followFrame q edge bclks din [(p, dp), (r, dr)]) s = .next t ∧ (∀ x ∈ [p, r], (t.port x).next = some (k + 1)) ∧
      (t.port r).last = s.lineWords r (if r = q then din else dr) ∧ t.mem = s.mem ∧
      s.KeepsRegs t [R.TDM_STATUS p, R.TDM_RATE p, R.TDM_STATUS r, R.TDM_RATE r]) ∧
    (s.followers q = [p] → s.portSt p = 2 → (s.port p).edge = some e0 → bclks = s.tdmCh p * 32 → e0 < edge →
      ((edge : Int) - e0 - s.sampU).natAbs * 1000 ≤ s.sampU → (s.port p).valid = 63 → ∃ t : State,
      exec (.followFrame q edge bclks din [(p, dp)]) s = .next t ∧ t.portSt p = 3 ∧ (t.port p).next = none ∧
      s.KeepsRegs t [R.TDM_STATUS p, R.TDM_RATE p] ∧ t.mem = s.mem ∧ t.outbox = s.outbox) ∧
    (s.portSt p = 2 ∨ s.portSt p = 3 → s.edgeNow p = false → ∃ t : State, exec (.tdmLoss p) s = .next t ∧ t.flag (F.TDM_STATUS_loss p) = true ∧
      t.portSt p = (if s.appFlag (F.TDM_CFG_fallback p) then 4 else 5) ∧
      t.reg (R.TDM_LOSS_CNT p) = counted (s.reg (R.TDM_LOSS_CNT p)) ∧
      t.reg (R.TDM_FALLBACK_CNT p) =
        (if s.appFlag (F.TDM_CFG_fallback p) then counted (s.reg (R.TDM_FALLBACK_CNT p)) else s.reg (R.TDM_FALLBACK_CNT p)) ∧
      s.KeepsRegs t [R.TDM_STATUS p, R.TDM_LOSS_CNT p, R.TDM_FALLBACK_CNT p] ∧ t.mem = s.mem ∧
      (s.appFlag (F.TDM_CFG_fallback p) = true ∨ s.appFlag (F.TDM_CFG_out_en p) = false → t.outbox = s.outbox)) ∧
    (s.isOwner = true → s.equinox = true → (s.port p).slips = [⟨s.tdm.closed, ev, pos⟩] → pos < s.T → ∃ t : State,
      exec (.tdmSlipSend p) s = .next t ∧ (t.port p).slips = [] ∧ s.KeepsRegs t [] ∧ t.mem = s.mem ∧
      s.SendsCmd t 11 (beBytes 8 s.tdm.closed ++ beBytes 1 p ++ beBytes 1 (slipCode ev) ++ beBytes 1 pos)) ∧
    (s.isOwner = false → s.equinox = true → s.tickNum < h.toNat → pos < s.T → k = h.toNat * s.T + pos → s.portSt p = 3 →
      s.portIn p = true → (s.port p).win = [(k, w0), (k + 1, w1)] → (s.port p).slips = [] → (s.port p).recs = [] →
      (s.port p).raw = [⟨x0, w0, some k, false⟩, ⟨x1, w1, some (k + 1), false⟩] → (s.port p).next = some (k + 2) →
      (∃ t : State, exec (.tdmSlip h p .drop pos true) s = .next t ∧ (t.port p).win = [(k, w1)] ∧ (t.port p).next = some (k + 1) ∧
        t.portSt p = 3 ∧ s.KeepsRegs t [R.TDM_STATUS p] ∧ t.mem = s.mem ∧ t.outbox = s.outbox) ∧
      (∃ t : State, exec (.tdmSlip h p .rep pos true) s = .next t ∧
        (t.port p).win = [(k, (s.port p).rows.getD (s.T - 1) []), (k + 1, w0), (k + 2, w1)] ∧ (t.port p).next = some (k + 3) ∧
        t.portSt p = 3 ∧ s.KeepsRegs t [R.TDM_STATUS p] ∧ t.mem = s.mem ∧ t.outbox = s.outbox)) ∧
    (s.isOwner = true ∨ h.toNat ≤ s.tickNum → exec (.tdmSlip h p ev pos true) s = .next s) ∧
    exec (.tdmSlip h p ev pos false) s = .next (s.count R.TWN_MSG_CRC_CNT) ∧
    (s.domOn 17 = true → ∃ t : State, exec (.tdmApplyLoWrite v) s = .next t ∧ t.reg R.TDM_APPLY_LO = v ∧
      t.reg R.TDM_APPLY_HI = Tbl.get (fun _ => s.reg R.TDM_APPLY_HI) s.whold R.TDM_APPLY_HI ∧
      t.tdm.armed = some (t.pair R.TDM_APPLY_LO R.TDM_APPLY_HI) ∧ t.tdm.armedIn = s.tickNum ∧ t.flag F.TDM_GSTATUS_apply_pend = true ∧
      s.KeepsRegs t [R.TDM_APPLY_LO, R.TDM_APPLY_HI, R.TDM_GSTATUS] ∧ t.mem = s.mem ∧ t.applied = s.applied) ∧
    (s.tdm.armed = some n → s.tickNum < n ∨ (n ≤ s.tdm.armedIn ∧ s.tickNum = s.tdm.armedIn) → exec .tdmStagedApply s = .next s) ∧
    (s.tdm.armed = some s.tickNum → s.tdm.armedIn ≠ s.tickNum →
      let q := (s.setTdm fun t => { t with armed := none }).setFlag F.TDM_GSTATUS_apply_pend false
      (q.tdmCfgOk 0 = false → exec .tdmStagedApply s = .next
        (((q.setFlag F.TDM_GSTATUS_cfg_err true).setFld F.TDM_GSTATUS_err_port 0).setFld F.TDM_GSTATUS_err_reg 0)) ∧
      ((∀ e ∈ q.tdmChecks, e.2.2.2 = true) → ∃ t : State, exec .tdmStagedApply s = .next t ∧
        t.app (R.TDM_CFG p) = s.reg (R.TDM_CFG p) ∧ t.tdm.armed = none ∧ t.mem = s.mem ∧ t.clk = s.clk))

/-- A wanted channel in OFF with a locked timebase enters CHECK, PSTAGE_EN_N asserting (R263, R268); one no longer wanted ramps to 0 over 32
samples, or is OFF at once where it does not switch. TRIPPED and RETRY end by their timer or by MOD_CH_CTRL.clr. A trip or FAULT_N forces the
legs low, records the reason, counts, and raises fault 21; a trip needs fast outputs of the bitstream that reach thr; PLAY goes to TRIPPED for 0.5 s, CHECK to RETRY for 10 s (R263, R265; the timers
count boundaries, log entry 28). A check of a channel without pilot passes after 1 ms; one with a pilot measures; its end gives PLAY, or RETRY
where the load is short (R267). The media PLL losing its lock is a media-clock error, which mutes; its end unmutes (R275, R281). A lost timebase turns every channel OFF, releases OWN
and raises fault 13; relocked, the wanted channels enter CHECK (R274). -/
def Obligations.AmplifierChannelsFollowTheirStates : Prop :=
  ∀ (s : State) (c : Fin 32) (bits : List Bool) (z : ZSum),
    (let x := s.amp1 c
     let wanted := s.flag F.MOD_CTRL_run = true ∧ s.appFlag (F.MOD_CH_CFG_en c) = true ∧ s.flag F.SNS_CTRL_run = true ∧
      (s.fld F.SNS_CLK_CFG_clk_en).testBit (c / 8) = true
    (x.st = .off → wanted → s.flag F.MOD_STATUS_tb_lock = true → s.twn.ho = none → ∃ t : State, exec (.channelStart c) s = .next t ∧
      (t.amp1 c).st = .check ∧ (t.amp1 c).stage = true ∧ (t.amp1 c).gTo = 0 ∧ t.fld (F.MOD_CH_STATUS_state c) = 1 ∧
      t.outbox = s.outbox ++ (if s.isOwner then [.pin "PSTAGE_EN_N" c false] else []) ∧
      s.KeepsRegs t [R.MOD_CH_STATUS c, R.MOD_STATUS] ∧ t.mem = s.mem ∧ (∀ d : Fin 32, d ≠ c → t.amp1 d = s.amp1 d)) ∧
    (s.flag F.MOD_CTRL_run = false → x.st = .play → x.stopping = false → ∃ t : State, exec (.channelStop c) s = .next t ∧
      t.amp1 c = { x with stopping := true, gFrom := x.gNow, gTo := 0, gLen := 32, gK := 0 } ∧
      s.KeepsRegs t [R.MOD_CH_STATUS c, R.MOD_STATUS] ∧ t.mem = s.mem ∧ t.outbox = s.outbox) ∧
    (s.flag F.MOD_CTRL_run = false → x.st = .tripped ∨ x.st = .retry → ∃ t : State, exec (.channelStop c) s = .next t ∧
      (t.amp1 c).st = .off ∧ t.fld (F.MOD_CH_STATUS_state c) = 0 ∧ s.KeepsRegs t [R.MOD_CH_STATUS c, R.MOD_STATUS] ∧ t.mem = s.mem) ∧
    (x.st = .tripped ∨ x.st = .retry → x.timer = 0 → ∃ t : State, exec (.channelTimerExpire c) s = .next t ∧
      (t.amp1 c).st = .check ∧ s.KeepsRegs t [R.MOD_CH_STATUS c, R.MOD_STATUS] ∧ t.mem = s.mem) ∧
    (s.domOn 17 = true → x.st = .tripped ∨ x.st = .retry → ∃ t : State, exec (.modChCtrlClr c) s = .next t ∧
      t.amp1 c = { x with timer := 1 } ∧ s.KeepsRegs t [R.MOD_CH_STATUS c, R.MOD_STATUS] ∧ t.mem = s.mem ∧ t.outbox = s.outbox) ∧
    (s.senseOk c = true → trips (s.appFld (F.SNS_CH_TRIP_thr c)) (s.appFld (F.SNS_CH_TRIP_trip_n c)) 0 (fastMags bits) = true →
      x.st = .play → ∃ t : State, exec (.channelTrip c bits) s = .next t ∧ (t.amp1 c).st = .tripped ∧ (t.amp1 c).stage = false ∧ (t.amp1 c).per = none ∧
      (t.amp1 c).timer = s.captureWait + s.fs / (2 * s.T) ∧ t.fld (F.MOD_CH_STATUS_reason c) = 1 ∧ t.latched 21 = true ∧
      t.reg (R.SNS_CH_TRIP_CNT c) = counted (s.reg (R.SNS_CH_TRIP_CNT c)) ∧
      t.reg (R.MOD_CH_TRIP_CNT c) = counted (s.reg (R.MOD_CH_TRIP_CNT c)) ∧ t.mem = s.mem) ∧
    (x.st = .check → ∃ t : State, exec (.faultNAssert c) s = .next t ∧ (t.amp1 c).st = .retry ∧ (t.amp1 c).stage = false ∧
      (t.amp1 c).timer = 1 + 20 * (s.fs / (2 * s.T)) ∧ t.fld (F.MOD_CH_STATUS_reason c) = 2 ∧ t.flag F.MOD_STATUS_trip = true ∧
      t.latched 21 = true ∧ t.reg (R.MOD_CH_TRIP_CNT c) = counted (s.reg (R.MOD_CH_TRIP_CNT c)) ∧ t.mem = s.mem) ∧
    (s.senseOk c = false ∨ trips (s.appFld (F.SNS_CH_TRIP_thr c)) (s.appFld (F.SNS_CH_TRIP_trip_n c)) 0 (fastMags bits) = false →
      exec (.channelTrip c bits) s = .next s) ∧
    (x.st = .check → x.stopping = false → x.chk = none → 6000000 ≤ x.since → s.flag F.MOD_STATUS_clk_err = false →
      (s.hasPilot c = false → ∃ t : State, exec (.checkStart c) s = .next t ∧ (t.amp1 c).st = .play ∧ (t.amp1 c).gFrom = 0 ∧
        (t.amp1 c).gTo = unity ∧ (t.amp1 c).gLen = 4096 ∧ s.KeepsRegs t [R.MOD_CH_STATUS c, R.MOD_STATUS] ∧ t.mem = s.mem) ∧
      (s.hasPilot c = true → ∃ t : State, exec (.checkStart c) s = .next t ∧
        t.amp1 c = { x with chk := some {} } ∧ s.KeepsRegs t [R.MOD_CH_STATUS c, R.MOD_STATUS] ∧ t.mem = s.mem)) ∧
    (x.st = .check → x.stopping = false → x.chk = some z → s.hasPilot c = true → s.fs / 2 ≤ z.n → z.invalid = false →
      (s.appFld (F.SNS_CH_ZTH_z_short c) ≤ s.zMag c z → ∃ t : State, exec (.checkEnd c) s = .next t ∧ (t.amp1 c).st = .play ∧
        (t.amp1 c).chk = none ∧ t.mem = s.mem ∧ t.clk = s.clk) ∧
      (s.zMag c z < s.appFld (F.SNS_CH_ZTH_z_short c) → ∃ t : State, exec (.checkEnd c) s = .next t ∧ (t.amp1 c).st = .retry ∧
        (t.amp1 c).timer = 20 * (s.fs / (2 * s.T)) ∧ t.mem = s.mem ∧ t.clk = s.clk)) ∧
    (s.domOn 17 = true → s.flag F.MOD_STATUS_clk_err = false → x.st = .play → ∃ t : State, exec (.channelMute false) s = .next t ∧
      (t.amp1 c).st = .mute ∧ (t.amp1 c).gTo = 0 ∧ t.flag F.MOD_STATUS_clk_err = true ∧ t.flag F.CLK_STATUS_mclk_err = true ∧
      t.mem = s.mem ∧ t.outbox = s.outbox) ∧
    (s.domOn 17 = true → s.flag F.MOD_STATUS_clk_err = true → s.flag F.CLK_STATUS_osc_ok = true → s.clkx.clampAt = none →
      x.st = .mute → x.stopping = false → ∃ t : State, exec (.channelMute true) s = .next t ∧ (t.amp1 c).st = .play ∧
      (t.amp1 c).gTo = unity ∧ t.flag F.MOD_STATUS_clk_err = false ∧ t.flag F.CLK_STATUS_mclk_err = false ∧
      t.mem = s.mem ∧ t.outbox = s.outbox) ∧
    (∃ t : State, exec .timebaseLoss s = .next t ∧ (t.amp1 c).st = .off ∧ t.isOwner = false ∧ t.twn.ownOut = false ∧
      t.flag F.MOD_STATUS_tb_lock = false ∧ t.flag F.MOD_STATUS_tb_loss = true ∧ t.latched 13 = true ∧ t.mem = s.mem) ∧
    (x.st = .off → wanted → ∃ t : State, exec .timebaseRelock s = .next t ∧ (t.amp1 c).st = .check ∧
      t.flag F.MOD_STATUS_tb_lock = true ∧ t.mem = s.mem))

/-- A channel in PLAY places the edges of its period by R255, from t(c, j) to t(c, j + 1), with its dead times and a pulse that keeps the
minimum; they are driven by the owner only. An impedance window that has its N samples reports |Z| and its flags (R271, R272); learning starts
with the next valid window; without a pilot no window runs (R268). 64 equal bits of a bitstream mark the windows (R261). A full power sub-block joins the last 64 (R273). MOD_FSW and MOD_DITHER are
refused while channels run or where R256 would fail, and name the register (R254); SNS_CLK_CFG.div is refused without a whole
ratio, and stands while sensing runs (R260). MOD_APPLY_LO arms, and MOD_STAGED_APPLY, at a boundary after it, applies all or none (R277; that
the first by address is named, and that an apply armed in its own tick waits for the next boundary, is log entry 27). A
read of MOD_IFIR_DATA moves its index on. -/
def Obligations.AmplifierScheduleMeasurementsAndRegisters : Prop :=
  ∀ (s : State) (c : Fin 32) (j : Nat) (cap : List PinEdge) (lvl b : Bool) (sclk : List ClkEdge) (bits : List Bool)
    (z : ZSum) (w : Word),
    (let x := s.amp1 c
     let l := s.periodStart c (j + 1) - s.periodStart c j
     let d := s.appFld (F.MOD_CH_DEAD_dead c)
     let mp := s.appFld F.MOD_MINPULSE_mp
     x.st = .play → x.last = false → x.stopping = false → s.equinox = false → s.twn.ho = none → s.twn.enter = [] → 2 * d + 2 * mp ≤ l →
      ∃ (t : State) (m : Word) (a : Nat), exec (.pwmPeriodStart c j cap lvl sclk b) s = .next t ∧ mp ≤ a ∧ a + 2 * d + mp ≤ l ∧
        (t.amp1 c).per = some ⟨s.periodStart c j, m⟩ ∧
        (t.amp1 c).edges = [⟨false, d, true⟩, ⟨false, d + a, false⟩, ⟨true, 2 * d + a, true⟩, ⟨true, l, false⟩] ∧
        t.outbox = s.outbox ++ (if s.isOwner then [.pwm c [d, d + a, 2 * d + a, l]] else []) ∧
        s.KeepsRegs t [R.MOD_CH_CLIP_CNT c, R.MOD_CH_STATUS c, R.MOD_STATUS, R.MOD_CH_UV_CNT c] ∧ t.mem = s.mem) ∧
    (s.hasPilot c = true → (s.amp1 c).win = some z → s.zLen c ≤ z.n → ∃ t : State, exec (.impedanceWindowEnd c) s = .next t ∧ (t.amp1 c).win = none ∧
      t.fld (F.SNS_CH_ZMAG_zmag c) = s.zMag c z ∧ t.flag (F.SNS_CH_ZPH_valid c) = !z.invalid ∧
      t.fld (F.SNS_CH_ZFLAGS_now c) = s.zFlags c z (s.zMag c z) ∧ t.mem = s.mem ∧ t.clk = s.clk) ∧
    (s.hasPilot c = false → ∃ t : State, exec (.impedanceWindowEnd c) s = .next t ∧ (t.amp1 c).win = none ∧
      t.fld (F.SNS_CH_ZFLAGS_now c) = 0 ∧ t.flag (F.SNS_CH_ZPH_valid c) = false ∧ t.mem = s.mem ∧ t.clk = s.clk) ∧
    (s.domOn 17 = true → ∃ t : State, exec (.impedanceLearn c) s = .next t ∧ t.amp1 c = { s.amp1 c with learn := some (0, 0) } ∧
      t.flag (F.SNS_CH_ZCFG_learn c) = true ∧ s.KeepsRegs t [R.SNS_CH_ZCFG c, R.MOD_CH_STATUS c, R.MOD_STATUS] ∧ t.mem = s.mem) ∧
    (s.senseOk c = true → (runOf 64 0 false bits).isSome = true → ∃ t : State,
      exec (.senseBitstreamOverload c b bits) s = .next t ∧ t.flag F.SNS_STATUS_ovl = true ∧
      ((s.amp1 c).win = some z → (t.amp1 c).win = some { z with ovl := true }) ∧
      s.KeepsRegs t [R.SNS_STATUS, R.MOD_CH_STATUS c, R.MOD_STATUS] ∧ t.mem = s.mem) ∧
    (s.senseOk c = false ∨ runOf 64 0 false bits = none → exec (.senseBitstreamOverload c b bits) s = .next s) ∧
    (s.appFlag (F.SNS_CH_PLIM_en c) = true → s.subTicks c ≤ (s.amp1 c).subT → ∃ t : State, exec (.powerSubblockEnd c) s = .next t ∧
      (t.amp1 c).sub = 0 ∧ (t.amp1 c).subT = 0 ∧ (t.amp1 c).gt ≤ 0 ∧
      (t.amp1 c).sums = ((s.amp1 c).sums ++ [(s.amp1 c).sub]).drop ((s.amp1 c).sums.length + 1 - 64) ∧
      s.KeepsRegs t [R.SNS_CH_PNOW c, R.MOD_CH_STATUS c, R.MOD_STATUS] ∧ t.mem = s.mem ∧ t.outbox = s.outbox) ∧
    (s.domOn 17 = true →
      (s.flag F.MOD_STATUS_running = true ∨ (bitsOf w 21 20 = 0 ∧ (bitsOf w 19 0 < 300000 ∨ 800000 < bitsOf w 19 0)) →
        exec (.modFswWrite w) s = .next (((s.setFlag F.MOD_STATUS_cfg_err true).setFld F.MOD_CFG_ERR_offset (R.MOD_FSW - 0x500000)).setFlag
          F.MOD_CFG_ERR_block false)) ∧
      (s.flag F.MOD_STATUS_running = false → bitsOf w 21 20 = 1 → s.deadsOk 0 111538278 = true → ∃ t : State,
        exec (.modFswWrite w) s = .next t ∧ t.reg R.MOD_FSW = w &&& 0x3FFFFF#32 ∧ t.reg R.MOD_PERIOD = 111538278#32 ∧
        s.KeepsRegs t [R.MOD_FSW, R.MOD_PERIOD] ∧ t.mem = s.mem) ∧
      (s.flag F.MOD_STATUS_running = true → exec (.modDitherWrite w) s = .next
        (((s.setFlag F.MOD_STATUS_cfg_err true).setFld F.MOD_CFG_ERR_offset (R.MOD_DITHER - 0x500000)).setFlag F.MOD_CFG_ERR_block false)) ∧
      (s.flag F.MOD_STATUS_running = false → s.fld F.MOD_FSW_mode = 0 → s.deadsOk (min 51 (bitsOf w 5 0)) s.pq = true →
        exec (.modDitherWrite w) s = .next (s.put R.MOD_DITHER (w &&& 0x3F#32))) ∧
      (bitsOf w 5 0 < 25 → exec (.snsClkCfgWrite w) s =
        .next ((s.setFld F.SNS_CLK_CFG_clk_en (bitsOf w 11 8)).setFlag F.SNS_STATUS_cfg_err true)) ∧
      (s.flag F.SNS_CTRL_run = true → bitsOf w 5 0 = 32 → s.fld F.TCK_CFG_fs_sel = 1 →
        exec (.snsClkCfgWrite w) s = .next (s.setFld F.SNS_CLK_CFG_clk_en (bitsOf w 11 8))) ∧
      (s.flag F.SNS_CTRL_run = false → bitsOf w 5 0 = 32 → s.fld F.TCK_CFG_fs_sel = 1 → ∃ t : State,
        exec (.snsClkCfgWrite w) s = .next t ∧ t.fld F.SNS_CLK_CFG_div = 32 ∧ s.KeepsRegs t [R.SNS_CLK_CFG] ∧ t.mem = s.mem) ∧
      (∃ t : State, exec (.modApplyLoWrite w) s = .next t ∧ t.reg R.MOD_APPLY_LO = w ∧
        t.reg R.MOD_APPLY_HI = Tbl.get (fun _ => s.reg R.MOD_APPLY_HI) s.whold R.MOD_APPLY_HI ∧
        t.amp.armed = some (t.pair R.MOD_APPLY_LO R.MOD_APPLY_HI) ∧ t.amp.armedIn = s.tickNum ∧ t.flag F.MOD_STATUS_apply_pend = true ∧
        s.KeepsRegs t [R.MOD_APPLY_LO, R.MOD_APPLY_HI, R.MOD_STATUS] ∧ t.mem = s.mem ∧ t.applied = s.applied) ∧
      (∃ t : State, exec .modIfirDataRead s = .next t ∧ t.fld F.MOD_IFIR_IDX_idx = (s.fld F.MOD_IFIR_IDX_idx + 1) % 1024 ∧
        s.KeepsRegs t [R.MOD_IFIR_IDX] ∧ t.mem = s.mem)) ∧
    (s.amp.armed = some s.tickNum → s.amp.armedIn = s.tickNum → exec .modStagedApply s = .next s) ∧
    (s.amp.armed = some s.tickNum → s.amp.armedIn ≠ s.tickNum →
      let q := (s.setAmp fun a => { a with armed := none }).setFlag F.MOD_STATUS_apply_pend false
      (983 < q.fld F.MOD_MINPULSE_mp → exec .modStagedApply s = .next
        (((q.setFlag F.MOD_STATUS_cfg_err true).setFld F.MOD_CFG_ERR_offset (R.MOD_MINPULSE - 0x500000)).setFlag F.MOD_CFG_ERR_block false)) ∧
      ((∀ e ∈ q.ampChecks, e.2 = true) → ∃ t : State, exec .modStagedApply s = .next t ∧
        t.app (R.MOD_CH_CFG c) = s.reg (R.MOD_CH_CFG c) ∧ t.amp.armed = none ∧ t.mem = s.mem ∧ t.clk = s.clk))

/-- OSCILLATOR_FAULT clears osc_ok, leaves the TCXO, gives the media-clock error and begins the condition of source 12 (R279, R281). At a good window an
enabled reference that is not qualified starts or counts down its hold-off, but not before it was stable for 64 periods after a rate
change; a window in which it was not active disqualifies it and is
counted (R283, R284). When the hold-off has run, REF_QUALIFY qualifies it; with no other one it is selected and the DPLL acquires (R287,
R290). Missing edges, a rate change, missing Sync messages and a port that leaves SLAVE disqualify a reference, each counted; where it was
selected, no other is qualified and the DPLL has locked, HOLDOVER begins (R284, R285, R290). -/
def Obligations.ReferencesQualifyAndFail : Prop :=
  ∀ (s : State) (n : Fin 7) (r : Fin 4) (ppb : Int) (portB : Bool) (k st : Nat),
    (s.condActive 12 = false → (∀ e ∈ s.flt.ended, e.1 ≠ 12) → ∃ t : State, exec .oscillatorFault s = .next t ∧ t.flag F.CLK_STATUS_osc_ok = false ∧
      t.flag F.CLK_STATUS_mclk_err = true ∧ t.clkx.osc = 0 ∧ t.condActive 12 = true ∧ t.latched 12 = true ∧ t.mem = s.mem) ∧
    (n.val ≠ 6 → s.prio n ≠ 0 → (s.regI R.CLK_DCO_NOW + ppb * 1000).natAbs ≤ 50000000 → (s.ref n).q = false →
      ((s.ref n).rough = false ∨ 64 ≤ st → (s.ref n).wait = none → ∃ t : State, exec (.refWindowEnd n true ppb st) s = .next t ∧ (t.ref n).ppb = ppb ∧
        (t.ref n).wait = some (s.fld (F.CLK_REF_CFG_holdoff n)) ∧ (t.ref n).q = false ∧
        s.KeepsRegs t [R.CLK_REF_STATUS n, R.CLK_HO_PRED] ∧ t.mem = s.mem ∧ t.outbox = s.outbox) ∧
      ((s.ref n).rough = true → st < 64 → ∃ t : State, exec (.refWindowEnd n true ppb st) s = .next t ∧ (t.ref n).wait = (s.ref n).wait ∧
        (t.ref n).rough = true ∧ s.KeepsRegs t [R.CLK_REF_STATUS n, R.CLK_HO_PRED] ∧ t.mem = s.mem ∧ t.outbox = s.outbox) ∧
      ((s.ref n).rough = false ∨ 64 ≤ st → (s.ref n).wait = some (k + 1) → ∃ t : State, exec (.refWindowEnd n true ppb st) s = .next t ∧ (t.ref n).wait = some k ∧
        (t.ref n).q = false ∧ s.KeepsRegs t [R.CLK_REF_STATUS n, R.CLK_HO_PRED] ∧ t.mem = s.mem ∧ t.outbox = s.outbox)) ∧
    (n.val ≠ 6 → s.prio n ≠ 0 → (s.ref n).q = true → ∃ t : State, exec (.refWindowEnd n false ppb st) s = .next t ∧ (t.ref n).q = false ∧
      t.reg R.CLK_DISQ_CNT = counted (s.reg R.CLK_DISQ_CNT) ∧ t.flag F.CLK_STATUS_disq_evt = true ∧ t.mem = s.mem) ∧
    (n.val ≠ 6 → s.prio n ≠ 0 → (s.ref n).act = true → (s.ref n).q = false → (s.ref n).wait = some 0 → s.sel = 7 → s.clkx.disputes = [] →
      (∀ m < 7, m ≠ n.val → (s.ref m).q = false) → ∃ t : State, exec (.refQualify n) s = .next t ∧ (t.ref n).q = true ∧ t.sel = n.val ∧
      t.dpll = 1 ∧ t.reg R.CLK_SWITCH_CNT = counted (s.reg R.CLK_SWITCH_CNT) ∧ t.mem = s.mem) ∧
    (s.prio r ≠ 0 → (s.ref r).q = true → s.sel = r.val → s.clkx.locked = true → s.clkx.disputes = [] → (∀ m < 7, m ≠ r.val → (s.ref m).q = false) →
      ∃ t : State, exec (.refMissingEdges r) s = .next t ∧ (t.ref r).q = false ∧ t.sel = 7 ∧ t.dpll = 3 ∧
      t.fld F.TCK_STATUS_time_src = 1 ∧ t.reg R.CLK_DISQ_CNT = counted (s.reg R.CLK_DISQ_CNT) ∧ t.mem = s.mem) ∧
    (s.prio r ≠ 0 → (s.ref r).q = true → ∃ t : State, exec (.refRateChange r) s = .next t ∧ (t.ref r).q = false ∧ (t.ref r).rough = true ∧ (t.ref r).wait = none ∧
      t.reg R.CLK_DISQ_CNT = counted (s.reg R.CLK_DISQ_CNT) ∧ t.mem = s.mem) ∧
    (let p := if portB then 5 else 4
     s.prio p ≠ 0 → (s.ref p).q = true → (∃ t : State, exec (.ptpSyncMissing portB) s = .next t ∧ (t.ref p).q = false ∧
        t.reg R.CLK_DISQ_CNT = counted (s.reg R.CLK_DISQ_CNT) ∧ t.mem = s.mem) ∧
      ∃ t : State, exec (.ptpPortLeavesSlave portB) s = .next t ∧ (t.ref p).q = false ∧
        t.reg R.CLK_DISQ_CNT = counted (s.reg R.CLK_DISQ_CNT) ∧ t.mem = s.mem)

/-- A phase update of the selected reference, within half the period it is known by, enters its mean, CLK_PHASE_ERR takes it less the build-out, and the DCO value, which the loop
filter leaves open, stays in ±200 ppm; under manual control it stays (R280, R282, R290). A phase error within lock_thr for lock_time gives TRACK and a
valid grid, one above ten times it for 1 s ACQUIRE (R290). In HOLDOVER the DCO takes u of R297, here u0 alone; HOLDOVER_LOAD puts the coefficients in
force (R298). In ISLAND mode, and without a time reference, a step in time alone does nothing (R293, R294). An offset of at most 1 us slews the tick that starts, without changing numbers (R293); a larger one lets it end at the first
boundary of the new grid at least one period later, whose number its commit takes (R294). Realign removes the build-out at the next boundary (R292).
That a phase is taken in the half-open interval from minus half a period on (`phaseOf`), and that an offset of o ps is o * 6 / 1000 units
rounded down, are the model's choices (log entry 32); the clauses with them are derived. -/
def Obligations.TheDpllSlewsStepsAndHoldsOver : Prop :=
  ∀ (s : State) (n : Fin 7) (ps : Int) (th : BitVec 16),
    (n.val ≠ 6 → s.sel = n.val → ∃ t : State, exec (.phaseDetectorUpdate n ps) s = .next t ∧
      (t.ref n).phases = (s.phaseOf n ps :: (s.ref n).phases).take 16 ∧
      t.reg R.CLK_PHASE_ERR = wordI (satN 32 (s.phaseOf n ps - s.buildout)) ∧ t.mem = s.mem ∧
      (s.flag F.CLK_CTRL_manual = true → t.reg R.CLK_DCO_NOW = s.reg R.CLK_DCO_NOW) ∧
      (s.flag F.CLK_CTRL_manual = false → s.dpll ≠ 3 → -200000000 ≤ t.regI R.CLK_DCO_NOW ∧ t.regI R.CLK_DCO_NOW ≤ 200000000)) ∧
    (s.dpll = 1 → s.sel = n.val → s.lasted s.clkx.inU (s.fld F.CLK_DPLL_CFG_lock_time * (secU / 10)) = true → s.prio n ≠ 0 → (s.ref n).q = true →
      (∀ m < 7, m ≠ n.val → (s.ref m).q = false) → ∃ t : State, exec .dpllLock s = .next t ∧ t.dpll = 2 ∧ t.sel = n.val ∧
      t.flag F.CLK_STATUS_switching = false ∧ t.fld F.TCK_STATUS_time_src = (if n.val = 6 then 2 else 0) ∧
      t.flag F.TCK_STATUS_grid_valid = true ∧ s.KeepsRegs t [R.CLK_STATUS, R.TCK_STATUS] ∧ t.mem = s.mem ∧ t.clk = s.clk) ∧
    (s.dpll = 2 → s.lasted s.clkx.outU secU = true → ∃ t : State, exec .dpllUnlock s = .next t ∧ t.dpll = 1 ∧
      s.KeepsRegs t [R.CLK_STATUS] ∧ t.mem = s.mem ∧ t.clk = s.clk) ∧
    (s.flag F.CLK_HO_CTRL_u0_valid = true → s.flag F.CLK_HO_CTRL_t_valid = false → s.flag F.CLK_HO_CTRL_a_valid = false →
      ∃ t : State, exec (.holdoverUpdate th) s = .next t ∧ t.fld F.CLK_OSC_TEMP_theta = th.toNat ∧
      t.reg R.CLK_HO_PRED = s.app R.CLK_HO_U0 ∧ t.mem = s.mem ∧ t.clk = s.clk ∧
      (s.dpll = 3 → s.flag F.CLK_CTRL_manual = false →
        t.regI R.CLK_DCO_NOW = max (-200000000) (min 200000000 (s.app R.CLK_HO_U0).toInt))) ∧
    (∃ t : State, exec .holdoverLoad s = .next t ∧ t.app R.CLK_HO_U0 = s.reg R.CLK_HO_U0 ∧ t.app R.CLK_HO_C1 = s.reg R.CLK_HO_C1 ∧
      t.app R.CLK_HO_A = s.reg R.CLK_HO_A ∧ t.app R.CLK_HO_B = s.reg R.CLK_HO_B ∧
      t.flag F.CLK_STATUS_ho_valid = s.flag F.CLK_HO_CTRL_u0_valid ∧ s.KeepsRegs t [R.CLK_STATUS] ∧ t.mem = s.mem ∧ t.clk = s.clk) ∧
    (let o := s.boundaryOffset ps
     ((s.network = false ∨ isTimeRef s.sel = false) → s.clkx.realign = false → s.clkx.offs = 0 → s.clkx.offAny = false →
        exec (.tickSlew ps) s = .next s ∧ exec (.networkTimeStep ps) s = .next s) ∧
     (s.network = true → isTimeRef s.sel = true → s.clkx.realign = false → o = s.clkx.offs + ps) ∧
     (s.network = false → s.clkx.realign = true → o = s.clkx.offs + s.buildout)) ∧
    (let o := s.boundaryOffset ps
     s.clk.tickPos = 0 →
      (o ≠ 0 → o.natAbs ≤ 1000000 → ∃ t : State, exec (.tickSlew ps) s = .next t ∧
        t.clk = { s.clk with lenU := some ((s.tickU : Int) - o * 6 / 1000).toNat } ∧ t.clkx.offs = 0 ∧
        t.reg R.CLK_SLEW_CNT = counted (s.reg R.CLK_SLEW_CNT) ∧ (s.clkx.realign = true → t.buildout = 0) ∧
        s.KeepsRegs t [R.CLK_SLEW_CNT, R.CLK_BUILDOUT_LO, R.CLK_BUILDOUT_HI] ∧ t.mem = s.mem ∧ t.outbox = s.outbox) ∧
      (1000000 < o.natAbs → s.clk.commitAs = none → 0 ≤ (s.tickNum * s.tickU : Nat) + o * 6 / 1000 → ∃ (t : State) (m : Nat),
        (let now := ((s.tickNum * s.tickU : Nat) + o * 6 / 1000).toNat
         exec (.networkTimeStep ps) s = .next t ∧ now + s.tickU ≤ m * s.tickU ∧ m * s.tickU < now + 2 * s.tickU ∧
          t.clk.lenU = some (m * s.tickU - now) ∧ t.clk.commitAs = some (m - 1) ∧ t.clk.tickNum = s.clk.tickNum ∧
          t.clk.fade = some m ∧ t.clkx.offs = 0 ∧ t.flag F.TCK_STATUS_step_seen = true ∧
          t.reg R.CLK_STEP_CNT = counted (s.reg R.CLK_STEP_CNT) ∧ t.mem = s.mem ∧
          (s.tickNum < m - 1 → t.reg R.TCK_SKIP_CNT = word (min ((s.reg R.TCK_SKIP_CNT).toNat + (m - 1 - s.tickNum)) 0xFFFFFFFF) ∧
            t.reg R.TCK_REPEAT_CNT = s.reg R.TCK_REPEAT_CNT)))) ∧
    (∃ t : State, exec .realign s = .next t ∧ t.clkx.realign = true ∧ t.clkx.offs = s.clkx.offs ∧
      s.KeepsRegs t [] ∧ t.mem = s.mem ∧ t.clk = s.clk ∧ t.outbox = s.outbox)

/-- TIM_SET gives set_err while a time reference is selected; while the tick runs its offset waits for the boundary, and while it is stopped
network time is the new time at once (R306). TIM_ADJ_CTRL.commit puts rate and offset in effect, under manual control only (R304). TIMER_ARM
arms a later target, fires an earlier one at once, late unless it is reached now, and disarms with en = 0; a fired periodic timer moves to
its first later target and counts those it skips (R308). PPS_OUT rises at a whole second of a valid grid, its fall set, and a PPS_IN edge is stamped (R309). RTC_SET loads the
calendar; the service hours count each whole hour, and are written only after the key (R310, R311). -/
def Obligations.TimeIsSetTimersFireAndTheCalendarCounts : Prop :=
  ∀ (s : State) (k : Fin 8) (w h : Word),
    (s.domOn 1 = true →
      (let ns := s.pair R.TIM_SET_S_LO R.TIM_SET_S_HI * 1000000000 + s.fld F.TIM_SET_NS_ns
       (isTimeRef s.sel = true → exec .timSet s = .next (s.setFlag F.TIM_STATUS_set_err true)) ∧
       (isTimeRef s.sel = false → s.ticking = true → ∃ t : State, exec .timSet s = .next t ∧
          t.clkx.offs = s.clkx.offs + ((ns : Int) - s.netNs) * 1000 ∧ s.KeepsRegs t [] ∧ t.clk = s.clk ∧ t.mem = s.mem) ∧
       (isTimeRef s.sel = false → s.ticking = false → s.isFree = false → ∃ t : State, exec .timSet s = .next t ∧ t.netNs = ns ∧ s.KeepsRegs t [] ∧ t.mem = s.mem ∧ t.outbox = s.outbox)) ∧
      (s.flag F.CLK_CTRL_manual = false → exec .timAdjCommit s = .next s) ∧
      (s.flag F.CLK_CTRL_manual = true → ∃ t : State, exec .timAdjCommit s = .next t ∧ t.app R.TIM_RATE_LO = s.reg R.TIM_RATE_LO ∧
        t.app R.TIM_RATE_HI = s.reg R.TIM_RATE_HI ∧ t.app (R.TIM_OFS 0) = s.reg (R.TIM_OFS 0) ∧
        t.app (R.TIM_OFS 1) = s.reg (R.TIM_OFS 1) ∧ t.app (R.TIM_OFS 2) = s.reg (R.TIM_OFS 2) ∧ s.KeepsRegs t [] ∧ t.mem = s.mem) ∧
      (let tgt := s.pair (R.TIM_TMR_S_LO k) (R.TIM_TMR_S_HI k) * 1000000000 + s.fld (F.TIM_TMR_NS_ns k)
       (bitsOf w 0 0 = 0 → ∃ t : State, exec (.timerArm k w) s = .next t ∧ (t.timer k).armed = false ∧
          s.KeepsRegs t [R.TIM_TMR_CTRL k] ∧ t.mem = s.mem ∧ t.outbox = s.outbox) ∧
       (bitsOf w 0 0 = 1 → s.netNs < tgt → ∃ t : State, exec (.timerArm k w) s = .next t ∧ t.timer k = { target := tgt, armed := true } ∧
          s.KeepsRegs t [R.TIM_TMR_CTRL k] ∧ t.mem = s.mem ∧ t.outbox = s.outbox) ∧
       (bitsOf w 0 0 = 1 → bitsOf w 1 1 = 0 → tgt < s.netNs → ∃ t : State, exec (.timerArm k w) s = .next t ∧
          (t.timer k).armed = false ∧ t.flag (F.TIM_TMR_CTRL_fired k) = true ∧ t.flag (F.TIM_TMR_CTRL_late k) = true ∧ t.mem = s.mem))) ∧
    ((s.timer k).armed = true → (s.timer k).target ≤ s.netNs →
      (s.flag (F.TIM_TMR_CTRL_periodic k) = false → ∃ t : State, exec (.timerFire k) s = .next t ∧ (t.timer k).armed = false ∧
        t.flag (F.TIM_TMR_CTRL_fired k) = true ∧ s.KeepsRegs t [R.TIM_TMR_CTRL k, R.HIF_EVT_DROP_CNT] ∧ t.mem = s.mem) ∧
      (s.flag (F.TIM_TMR_CTRL_periodic k) = true → s.reg (R.TIM_TMR_PER k) ≠ 0 → ∃ t : State, exec (.timerFire k) s = .next t ∧
        (let per := (s.reg (R.TIM_TMR_PER k)).toNat
         (t.timer k).armed = true ∧ s.netNs < (t.timer k).target ∧ (t.timer k).target ≤ s.netNs + per ∧
         ((t.timer k).target - (s.timer k).target) % per = 0 ∧ t.reg R.TIM_TMR_SKIP_CNT =
          word (min ((s.reg R.TIM_TMR_SKIP_CNT).toNat + (s.netNs - (s.timer k).target) / per) 0xFFFFFFFF) ∧ t.mem = s.mem))) ∧
    (s.flag F.TIM_CFG_pps_en = true → s.flag F.TCK_STATUS_grid_valid = true → s.wholeSec = true → exec .ppsOutEdge s =
      .next ((s.emit (.pin "PPS_OUT" 0 true)).setClkx fun x =>
        { x with ppsEnd := some (s.clk.freeU + s.fld F.TIM_CFG_pps_width * (secU / 1000)) })) ∧
    (s.flag F.TIM_CFG_pps_en = false ∨ s.flag F.TCK_STATUS_grid_valid = false ∨ s.wholeSec = false → exec .ppsOutEdge s = .next s) ∧
    (∃ t : State, exec .ppsInEdge s = .next t ∧ t.pair R.TIM_PPSIN_S_LO R.TIM_PPSIN_S_HI = s.netSec ∧
      t.reg R.TIM_PPSIN_NS = word s.netSubNs ∧
      s.KeepsRegs t [R.TIM_PPSIN_S_LO, R.TIM_PPSIN_S_HI, R.TIM_PPSIN_NS, R.HIF_EVT_DROP_CNT] ∧ t.mem = s.mem ∧ t.clk = s.clk) ∧
    exec .rtcSet s = .next (s.setClk fun c => { c with rtcU := s.pair R.RTC_SET_LO R.RTC_SET_HI % 2 ^ 40 * 6000000000, rtcF := 0 }) ∧
    (bitsOf w 31 16 = 0x5E7A → w.getLsbD 0 = false → ∃ t : State, exec (.rtcSvcWrite w h) s = .next t ∧ t.reg R.RTC_SVC_HOURS = h ∧
      t.clk = { s.clk with svcKey := false } ∧ s.KeepsRegs t [R.RTC_SVC_HOURS] ∧ t.mem = s.mem) ∧
    (bitsOf w 31 16 ≠ 0x5E7A → w.getLsbD 0 = false → s.clk.svcKey = false → exec (.rtcSvcWrite w h) s = .next s) ∧
    (3600 * 6000000000 ≤ s.clk.svcU → exec .serviceHour s = .next ((s.put R.RTC_SVC_HOURS (counted (s.reg R.RTC_SVC_HOURS))).setClk fun c =>
      { c with svcU := c.svcU - 3600 * 6000000000 })) ∧
    (s.clk.svcU < 3600 * 6000000000 → exec .serviceHour s = .next s)

/-- A lane goes from SIGNAL to CDR with signal and PLL lock, to HUNT with CDR lock, to UP with block lock, or to TRAIN on a partner lane, which
then sends state 1 (R318 to R320, R323); the hunt needs 64 valid headers at one position, on lane 6 the sync status. A timeout, a lost signal,
SDS_CTRL.restart and 16 invalid headers in a window take it back to SIGNAL, counted; fewer are only counted, and on lane 6 code errors without a
loss of sync too (R318, R320); an UP lane takes its port's link down. A lost serial reference takes every lane back and raises fault 14 (R314). A
lock whose direct blocks are bad and inverted blocks good inverts the polarity (R321). The sixteenth training block with state 2 after own
state 2 gives READY, and the lane works (R323, R324; the order of the module ID is log entry 38). Of several events of a lane in one clock
cycle, a lost signal goes before all others, and the event that completes a step before that step's timeout (R319). Test functions give TEST
(R338); the checker locks on 64 bits that follow its polynomial, and loses lock with 32 of the last 64 mismatched; in a near-end loop it checks
the lane's own generator, and counts the bits that it inverted (R335); counts and their capture follow R336 and R337. -/
def Obligations.SerialLanesComeUpAndFail : Prop :=
  ∀ (s : State) (l : Fin 8) (i b e : Nat) (w : Word) (id : Byte) (m : List Byte) (hs : List (BitVec 2)) (sy : Bool) (bits last : List Bool),
    (s.now.lanes = [] → s.lst l = 2 → ∃ t u : State, exec (.cdrTimeout l) s = .next t ∧ exec (.cdrLock l) t = .next u ∧ u.lst l = 3 ∧
      u.reg (R.SDS_RESTART_CNT l) = s.reg (R.SDS_RESTART_CNT l) ∧
      (s.domOn 15 = true → ∃ v w : State, exec (.signalDetectDeassert l) t = .next v ∧ exec (.signalDetectDeassert l) u = .next w ∧
        v.lst l = 1 ∧ w.lst l = 1 ∧ v.reg (R.SDS_RESTART_CNT l) = counted (s.reg (R.SDS_RESTART_CNT l)) ∧
        w.reg (R.SDS_RESTART_CNT l) = counted (s.reg (R.SDS_RESTART_CNT l)))) ∧
    (let back := if s.flag (F.SDS_STATUS_sig_det l) && s.flag (F.SDS_STATUS_pll_lock l) then 2 else 1
     let restarted := fun (t : State) => t.lst l = back ∧ t.reg (R.SDS_RESTART_CNT l) = counted (s.reg (R.SDS_RESTART_CNT l)) ∧
      s.KeepsRegs t [R.SDS_STATUS l, R.SDS_RESTART_CNT l] ∧ t.mem = s.mem ∧ t.clk = s.clk
    (s.lst l = 2 → (∃ t : State, exec (.cdrTimeout l) s = .next t ∧ restarted t) ∧
      (s.domOn 15 = true → ∃ t : State, exec (.sdsRestart l) s = .next t ∧ restarted t)) ∧
    (s.lst l = 3 → ∃ t : State, exec (.huntTimeout l) s = .next t ∧ restarted t) ∧
    (s.lst l = 5 → ∃ t : State, exec (.trainTimeout l) s = .next t ∧ restarted t) ∧
    (s.lst l = 5 → l.val ≠ 6 → 16 ≤ i → ∃ t : State, exec (.lockLoss l i sy) s = .next t ∧ t.lst l = back ∧
      (isPartner l = true → t.reg R.TWN_LANE_DOWN_CNT = counted (s.reg R.TWN_LANE_DOWN_CNT)) ∧
      t.reg (R.SDS_LOCK_LOSS_CNT l) = counted (s.reg (R.SDS_LOCK_LOSS_CNT l)) ∧
      t.reg (R.SDS_RESTART_CNT l) = counted (s.reg (R.SDS_RESTART_CNT l)) ∧ t.mem = s.mem) ∧
    (s.lst l = 4 → (if l.val = 6 then sy = true else i < 16) →
      exec (.lockLoss l i sy) s = .next (s.countBy (R.SDS_SH_ERR_CNT l) i)) ∧
    (s.lst l = 4 → isPartner l = false → (if l.val = 6 then sy = false else 16 ≤ i) → s.flag (F.MAC_STATUS_link (laneMac l)) = true →
      ∃ t : State, exec (.lockLoss l i sy) s = .next t ∧
      t.lst l = back ∧ t.flag (F.SDS_STATUS_down l) = true ∧ t.flag (F.MAC_STATUS_link (laneMac l)) = false ∧ t.latched 15 = true ∧
      t.mem = s.mem) ∧
    (s.domOn 15 = true →
      (s.lst l = 1 → s.flag (F.SDS_STATUS_pll_lock l) = true → ∃ t : State, exec (.signalDetectAssert l) s = .next t ∧ t.lst l = 2 ∧
        t.flag (F.SDS_STATUS_sig_det l) = true ∧ s.KeepsRegs t [R.SDS_STATUS l] ∧ t.mem = s.mem ∧ t.outbox = s.outbox) ∧
      (s.lst l = 3 → s.now.lanes = [] → ∃ t : State, exec (.signalDetectDeassert l) s = .next t ∧ t.lst l = 1 ∧
        t.flag (F.SDS_STATUS_sig_det l) = false ∧ t.reg (R.SDS_RESTART_CNT l) = counted (s.reg (R.SDS_RESTART_CNT l)) ∧
        s.KeepsRegs t [R.SDS_STATUS l, R.SDS_RESTART_CNT l] ∧ t.mem = s.mem) ∧
      (s.condActive 14 = false → (∀ e ∈ s.flt.ended, e.1 ≠ 14) → ∃ t : State, exec .serialReferenceLoss s = .next t ∧ t.latched 14 = true ∧ t.mem = s.mem ∧
        t.flag (F.SDS_STATUS_pll_lock l) = false ∧ t.lst l = (if 2 ≤ s.lst l ∧ s.lst l ≤ 6 then 1 else s.lst l)) ∧
      (s.flag (F.SDS_CTRL_en l) = true → s.lst l = 2 → 1 ≤ bitsOf w 2 0 → bitsOf w 2 0 ≤ 5 → ∃ t : State,
        exec (.laneTestEntry l true w) s = .next t ∧ t.lst l = 7 ∧ t.reg (R.SDS_PRBS_CTRL l) = w &&& 0xFF#32 ∧ t.mem = s.mem) ∧
      (s.lst l = 7 → s.fld (F.SDS_PRBS_CTRL_gen_sel l) = 1 → exec (.prbsInject l) s = .next
        ((if s.looped l then s.setLane l { s.lane l with inj := (s.lane l).inj + 1 } else s).emit (.lane l 1))) ∧
      exec (.prbsClear l) s = .next (s.setLane l { s.lane l with bits := 0, errs := 0 }) ∧
      (s.flag (F.SDS_PRBS_STATUS_chk_lock l) = true → (s.lane l).bits + b < 2 ^ 48 → e = (if s.looped l && s.loopMatches l then (s.lane l).inj else e) →
        (s.lane l).errs + e < 2 ^ 32 → ∃ t : State,
        exec (.sdsPrbsBitsLoRead l b e) s = .next t ∧
        t.pair (R.SDS_PRBS_BITS_LO l) (R.SDS_PRBS_BITS_HI l) = (s.lane l).bits + b ∧ t.reg (R.SDS_PRBS_ERR l) = word ((s.lane l).errs + e) ∧
        t.lastRead = word ((s.lane l).bits + b) ∧
        s.KeepsRegs t [R.SDS_PRBS_BITS_LO l, R.SDS_PRBS_BITS_HI l, R.SDS_PRBS_ERR l] ∧ t.mem = s.mem)) ∧
    (let sel := s.fld (F.SDS_PRBS_CTRL_chk_sel l)
     let locks := prbsLocks sel (s.flag (F.SDS_PRBS_CTRL_chk_inv l)) bits
     s.lst l = 7 → 1 ≤ sel → sel ≤ 5 →
      (s.looped l = false → exec (.prbsCheckerLock l bits) s =
        .next (if locks = true then s.setFlag (F.SDS_PRBS_STATUS_chk_lock l) true else s)) ∧
      (s.fld (F.SDS_CTRL_loop l) = 2 → s.fld (F.SDS_PRBS_CTRL_gen_sel l) = sel →
        s.flag (F.SDS_PRBS_CTRL_gen_inv l) = s.flag (F.SDS_PRBS_CTRL_chk_inv l) →
        exec (.prbsCheckerLock l bits) s = .next (s.setFlag (F.SDS_PRBS_STATUS_chk_lock l) true))) ∧
    (s.looped l = false → s.flag (F.SDS_PRBS_STATUS_chk_lock l) = true → last.countP (fun x => x) < 32 → ∃ t : State,
      exec (.prbsLockLoss l b e last) s = .next t ∧ t.flag (F.SDS_PRBS_STATUS_chk_lock l) = true ∧ s.KeepsRegs t [] ∧ t.mem = s.mem) ∧
    (s.looped l = false → s.flag (F.SDS_PRBS_STATUS_chk_lock l) = true → last.length = 64 → 32 ≤ last.countP (fun x => x) → ∃ t : State,
      exec (.prbsLockLoss l b e last) s = .next t ∧
      t.flag (F.SDS_PRBS_STATUS_chk_lock l) = false ∧ t.flag (F.SDS_PRBS_STATUS_lock_lost l) = true ∧
      t.reg (R.SDS_PRBS_LOSS_CNT l) = counted (s.reg (R.SDS_PRBS_LOSS_CNT l)) ∧
      s.KeepsRegs t [R.SDS_PRBS_STATUS l, R.SDS_PRBS_LOSS_CNT l] ∧ t.mem = s.mem) ∧
    (s.now.lanes = [] → s.lst l = 2 → ∃ t : State, exec (.cdrLock l) s = .next t ∧ t.lst l = 3 ∧ t.flag (F.SDS_STATUS_cdr_lock l) = true ∧
      s.KeepsRegs t [R.SDS_STATUS l] ∧ t.mem = s.mem) ∧
    (s.now.lanes = [] → s.lst l = 3 → huntLocks l hs sy = false → ∃ t : State, exec (.blockLock l hs sy) s = .next t ∧ t.lst l = 3 ∧
      s.KeepsRegs t [] ∧ t.mem = s.mem ∧ t.outbox = s.outbox) ∧
    (s.now.lanes = [] → s.lst l = 3 → huntLocks l hs sy = true → ∃ t : State, exec (.blockLock l hs sy) s = .next t ∧
      t.flag (F.SDS_STATUS_blk_lock l) = true ∧
      t.lst l = (if isPartner l = true then 5 else 4) ∧ s.KeepsRegs t [R.SDS_STATUS l] ∧ t.mem = s.mem ∧
      t.outbox = s.outbox ++ (if isPartner l = true then [.training l (s.trainBlock l 1)] else [])) ∧
    (s.lst l = 4 → s.flag (F.SDS_CTRL_pol_auto l) = true → isPartner l = false → (if l.val = 6 then 16 ≤ i else 64 ≤ i) → ∃ t : State,
      exec (.polarityCheck l i 0) s = .next t ∧
      t.lst l = 3 ∧ t.flag (F.SDS_STATUS_rx_inv l) = !s.flag (F.SDS_STATUS_rx_inv l) ∧ t.flag (F.SDS_STATUS_pol_chg l) = true ∧
      t.mem = s.mem) ∧
    (s.now.lanes = [] → 2 ≤ l.val → l.val ≤ 5 → s.lst l = 5 → (s.lane l).sent = 2 → (s.lane l).far2 = 15 → s.laneIdBad l id.toNat = false →
      beAt ([0x4B, id, 0x5A, 2] ++ m) 4 4 ≠ s.moduleId.toNat % 2 ^ 32 → ∃ t : State,
      exec (.trainingBlock l false ([0x4B, id, 0x5A, 2] ++ m)) s = .next t ∧ t.lst l = 6 ∧ t.fld (F.SDS_STATUS_lane_id l) = id.toNat ∧
      t.twn.working.testBit id.toNat = true ∧ t.mem = s.mem))

/-- A link comes up on an UP lane, and goes down counted with fault 15; a local fault is answered (R322). A frame that fails its FEC or CRC, or is too short, is counted and
discarded; a management frame that the filter stops is counted, one that it passes goes to the firmware and into the posted buffer
(R328, R329, R365); on a lane in the far-end loop it is sent again as well (R335). PAUSE holds the transmitter for its quanta, and its end,
when they have passed, lets it go (R330). LPI begins only with nothing to send, and received LPI is counted (R333, R334).
MAC_CFG takes a max_len of 1518 to 9600 only (R518); MAC_CTRL holds its own bits, and auto-negotiation restarts on port 3 (R316, R317). A
management frame whose port can send, with no media packet ahead, is read and sent with its FCS, in one-step form where TIM_CFG has it (R198,
R302); one whose link is down completes LINK_DOWN; the completion writes status and time stamp
and moves mtx_cons (R307, R327, R332, R363). -/
def Obligations.MacsCarryManagementTraffic : Prop :=
  ∀ (s : State) (n : Fin 4) (f d : List Byte) (room late : Bool) (raw a size i k : Nat) (q : BitVec 16) (g : Fin 3) (w : Word)
    (x : MgmtTx),
    (s.domOn 15 = true →
      (s.lst (macLane n) = 4 → s.flag (F.MAC_STATUS_link n) = false → ∃ t : State, exec (.linkChange n true 0 g) s = .next t ∧
        t.flag (F.MAC_STATUS_link n) = true ∧ t.flag (F.MAC_STATUS_link_chg n) = true ∧ s.KeepsRegs t [R.MAC_STATUS n] ∧
        t.mem = s.mem ∧
        t.outbox = s.outbox ++ (if n.val < 3 ∧ s.flag (F.MAC_STATUS_local_fault n) = true then [.macSignal n 4] else [])) ∧
      (s.flag (F.MAC_STATUS_link n) = true → ∃ t : State, exec (.linkChange n false 1 g) s = .next t ∧
        t.flag (F.MAC_STATUS_link n) = false ∧ t.flag (F.MAC_STATUS_local_fault n) = true ∧
        t.reg (R.MAC_LINK_DOWN_CNT n) = counted (s.reg (R.MAC_LINK_DOWN_CNT n)) ∧ t.latched 15 = true ∧ t.mem = s.mem ∧
        (n.val < 3 → s.flag (F.MAC_STATUS_local_fault n) = false → .macSignal n 3 ∈ t.outbox)) ∧
      (s.rxPins (macLane n) = true → s.flag (F.MAC_STATUS_lpi_rx n) = false →
        exec (.lpiEntry (some n)) s = .next ((s.setFlag (F.MAC_STATUS_lpi_rx n) true).count (R.MAC_LPI_RX_CNT n))) ∧
      (s.rxPins (macLane n) = true → exec (.lpiExit (some n)) s = .next (s.setFlag (F.MAC_STATUS_lpi_rx n) false)) ∧
      (let r := if s.testOut (macLane n) = some 67 then s.emit (.frame n f) else s
       s.flag (F.MAC_CTRL_rx_en n) = true → s.rxPins (macLane n) = true → s.mayIssue 15 = true →
        exec (.macFrameReceive n f true room raw [] k) s =
          .next (((r.count (R.MAC_FEC_UNCORR_CNT n)).countBy (R.MAC_FEC_CORR_CNT n) k).count (R.MAC_RX_FCS_CNT n)) ∧
        (leAt f (f.length - 4) 4 = (crc32 (f.take (f.length - 4))).toNat → f.length < 64 →
          exec (.macFrameReceive n f false room raw [] k) s = .next ((r.countBy (R.MAC_FEC_CORR_CNT n) k).count (R.MAC_RX_RUNT_CNT n)))) ∧
      (s.flag (F.MAC_CTRL_rx_en n) = true → s.rxPins (macLane n) = true → s.mayIssue 15 = true →
        (s.flag (F.MAC_CFG_pause_rx n) = true → q ≠ 0 → ∃ t : State, exec (.pauseFrame n q) s = .next t ∧
          t.flag (F.MAC_STATUS_paused n) = true ∧ (n.val, (⟨s.clk.freeU, q.toNat⟩ : Pause)) ∈ t.eth.pause ∧
          t.reg (R.MAC_RX_PAUSE_CNT n) = counted (s.reg (R.MAC_RX_PAUSE_CNT n)) ∧
          s.KeepsRegs t [R.MAC_RX_PAUSE_CNT n, R.MAC_STATUS n] ∧ t.mem = s.mem ∧ t.outbox = s.outbox)) ∧
      (let body := f.take (f.length - 4)
       let d := s.ringBase 11 + (s.ring 11).cons % s.ringSize 11 * 32
       let r := if s.testOut 6 = some 67 then s.emit (.frame 3 f) else s
       s.flag (F.MAC_CTRL_rx_en 3) = true → s.rxPins 6 = true → s.mayIssue 15 = true → s.rxBad 3 f false room = none → (frameType body).2 ≠ 0x8808 →
        (s.addrPass 3 body = false → exec (.macFrameReceive 3 f false room raw [] k) s =
          .next (((r.countBy (R.MAC_FEC_CORR_CNT 3) k).count (R.MAC_RX_FRM_CNT 3)).count (R.MAC_RX_FILTER_CNT 3))) ∧
        (s.addrPass 3 body = true → s.traffic = true → (s.ring 11).en = true → 0 < Machine.dist (s.ring 11).prod (s.ring 11).cons →
          body.length ≤ size → ∃ t : State, exec (.macFrameReceive 3 f false room raw [(a, size)] k) s = .next t ∧
          (t.ring 11).cons = ((s.ring 11).cons + 1) % 2 ^ 32 ∧
          t.outbox = (((r.emit (.firmware "FRAME" 3)).emit (.hostRead d 32)).writeHost a body).outbox ++ [.hostWrite (d + 16)
              (leBytes 2 body.length ++ [3, 0, 3, 0, 0, 0] ++ leBytes 4 (s.landStamp false 3 raw) ++ leBytes 4 body.length)] ∧
          t.reg R.HIF_MRX_CNT = counted (s.reg R.HIF_MRX_CNT) ∧
          s.KeepsRegs t [R.MAC_FEC_CORR_CNT 3, R.MAC_RX_FRM_CNT 3, R.HIF_MRX_CNT] ∧ t.mem = s.mem)) ∧
      (bitsOf w 29 16 < 1518 → exec (.macCfgWrite n w) s = .next (s.setFlag (F.MAC_STATUS_cfg_err n) true)) ∧
      (1518 ≤ bitsOf w 29 16 → bitsOf w 29 16 ≤ 9600 → exec (.macCfgWrite n w) s =
        .next (s.put (R.MAC_CFG n) (w &&& (if n = 3 then 0x3FFF0003#32 else 0x3FFF0007#32)))) ∧
      (s.reg (R.MAC_CTRL 2) &&& 0x3C#32 = 4#32 → w.getLsbD 0 = false ∨ (s.reg (R.MAC_CTRL 2)).getLsbD 0 = true →
        exec (.macCtrlWrite 2 w) s = .next (s.put (R.MAC_CTRL 2) ((w &&& 3#32) ||| 4#32))) ∧
      (s.reg (R.MAC_CTRL 2) &&& 0x3C#32 = 4#32 → w.getLsbD 0 = true → (s.reg (R.MAC_CTRL 2)).getLsbD 0 = false →
        exec (.macCtrlWrite 2 w) s = .next ((s.put (R.MAC_CTRL 2) ((w &&& 3#32) ||| 4#32)).drainPort 2)) ∧
      (s.flag (F.MAC_CTRL_an_en 3) = true → ∃ t : State, exec .anRestart s = .next t ∧ t.flag (F.MAC_STATUS_an_done 3) = false ∧
        t.flag (F.MAC_STATUS_link 3) = false ∧ t.mem = s.mem ∧ .macSignal 3 2 ∈ t.outbox)) ∧
    (s.pauseLeft n = 0 → ∃ t : State, exec (.pauseEnd n) s = .next t ∧ t.flag (F.MAC_STATUS_paused n) = false ∧ t.mem = s.mem ∧
      (s.flag (F.MAC_STATUS_paused n) = true → n = 3 → s.KeepsRegs t [R.MAC_STATUS n] ∧ t.outbox = s.outbox)) ∧
    (s.pauseLeft n ≠ 0 → exec (.pauseEnd n) s = .next s) ∧
    (∀ z : Pause, s.eth.pause = [(n.val, z)] → (s.pauseLeft n = 0 ↔ z.quanta * s.quantum n ≤ 100 * (s.clk.freeU - z.since))) ∧
    (s.flag (F.MAC_EEE_en 3) = true → s.flag (F.MAC_STATUS_link 3) = true → s.flag (F.MAC_STATUS_lpi_tx 3) = false → s.eth.mtx = [] →
      exec (.lpiEntry none) s = .next (((s.setFlag (F.MAC_STATUS_lpi_tx 3) true).count (R.MAC_LPI_TX_CNT 3)).emit (.macSignal 3 0))) ∧
    (s.flag (F.MAC_STATUS_lpi_tx 3) = true → exec (.lpiExit none) s = .next ((s.setFlag (F.MAC_STATUS_lpi_tx 3) false).emit (.macSignal 3 1))) ∧
    (s.traffic = true → (s.ring 10).en = true → 0 < Machine.dist (s.ring 10).prod (s.ring 10).cons → (s.ring 10).cons < 2 ^ 32 →
      s.eth.mtx = [] → mtxBad d = false → leAt d 10 1 = n.val → leAt d 11 1 = 0 → leAt d 8 2 + 4 ≤ s.fld (F.MAC_CFG_max_len n) →
      (let r := s.emit (.hostRead (s.ringBase 10 + (s.ring 10).cons % s.ringSize 10 * 32) 32)
       (s.flag (F.MAC_STATUS_link n) = true → s.portSends n = true → s.mediaWaits n = false → s.flag (F.MAC_STATUS_lpi_tx 3) = false →
        ∃ t : State, exec (.mgmtFrameLaunch n 0 d f) s = .next t ∧
        t.outbox = (r.readHost (leAt d 0 8) (leAt d 8 2)).outbox ++ [.frame n (withFcs (s.passFrame n (f.take (leAt d 8 2))).2)] ∧
        t.mtx (s.ring 10).cons = some { port := n, sent := some false, ptp := (ptpHeader (f.take (leAt d 8 2))).isSome } ∧
        t.reg (R.MAC_TX_FRM_CNT n) = counted (s.reg (R.MAC_TX_FRM_CNT n)) ∧ s.KeepsRegs t [R.MAC_TX_FRM_CNT n] ∧ t.mem = s.mem) ∧
       (s.flag (F.MAC_STATUS_link n) = false → ∃ t : State, exec (.mgmtFrameLaunch n 0 d f) s = .next t ∧
        (t.ring 10).cons = ((s.ring 10).cons + 1) % 2 ^ 32 ∧ t.eth.mtx = [] ∧ t.reg R.HIF_MTX_CNT = counted (s.reg R.HIF_MTX_CNT) ∧
        t.outbox = r.outbox ++ [.hostWrite (s.ringBase 10 + (s.ring 10).cons % s.ringSize 10 * 32 + 20)
          (leBytes 1 stLinkDown ++ [0, 0, 0] ++ leBytes 4 0)] ∧ s.KeepsRegs t [R.HIF_MTX_CNT] ∧ t.mem = s.mem))) ∧
    (s.traffic = true → (s.ring 10).cons = i → s.eth.mtx = [(i, x)] → x.port = n.val → x.sent = some late → x.status = none →
      x.back = false → ∃ t : State,
      (let at0 := s.landStamp true n raw
       exec (.mgmtFrameComplete n raw) s = .next t ∧ (t.ring 10).cons = (i + 1) % 2 ^ 32 ∧ t.eth.mtx = [] ∧
       t.reg R.HIF_MTX_CNT = counted (s.reg R.HIF_MTX_CNT) ∧ t.outbox = s.outbox ++
        (if x.ptp = true ∧ n.val < 3 then [.stamp n true at0] else []) ++ [.hostWrite (s.ringBase 10 + i % s.ringSize 10 * 32 + 20)
        (leBytes 1 (if late = true then stLate else stOk) ++ [0, 0, 0] ++ leBytes 4 (if x.ts then at0 else 0))] ∧
       s.KeepsRegs t [R.HIF_MTX_CNT] ∧ t.mem = s.mem))

/-- A timed command (NOP, REG_WRITE) within its bounds is scheduled for its target (R354, R355); one that is too late is scheduled at the earliest
tick as late, or LATE_REJECTED with its flag. COPY_IN and COPY_OUT of a valid length and range move bytes between host memory and DRAM and
complete OK, and outside the range BAD_ADDR; a COPY_OUT that meets an uncorrectable word ends with DMA_ERR (R413); while DRAM is not ready
they wait, and other rings go on, and their request starts the exit from self-refresh (R356, R430, R432). FLT_ACK acknowledges the sources of its mask (R437). TWI_XFER on an idle controller whose
pins the module drives starts, its ring waiting (R352, R463). An unknown opcode completes BAD_OPCODE (R358). A due timed command takes effect and
completes (R354); a waiting completion is written with its phase bit and the completion ring moves on (R353, R357). -/
def Obligations.HostCommandsAreCarriedOut : Prop :=
  ∀ (c : HostCmd) (s : State) (a : Timed) (k : Cpl) (off : Nat) (v m : Word),
    (let q := s.takeCmd c.ring
     let e := q.earliest (s.issueTick c.ring) false
     let n := cmdTarget c
     (s.Takes c 1 → n ≠ 0 → e ≤ n → n ≤ s.issueTick c.ring + 2 ^ 31 → q.pendingTimed < 256 →
        exec (.nop c) s = .next (q.schedule c n false .nop none)) ∧
     (s.Takes c 1 → n ≠ 0 → n < e → n ≤ s.issueTick c.ring + 2 ^ 31 → q.pendingTimed < 256 →
        exec (.nop c) s = .next (if cmdFlags c % 2 = 1 then q.endCmd c stLateRejected 0 else q.schedule c e true .nop none)) ∧
     (s.Takes c 1 → s.issueTick c.ring + 2 ^ 31 < n → exec (.nop c) s = .next (q.endCmd c stBadTick 0)) ∧
     (s.Takes c 0x40 → n ≠ 0 → e ≤ n → n ≤ s.issueTick c.ring + 2 ^ 31 → q.pendingTimed < 256 →
        cmdArg c 0 4 < 0x1000000 → cmdArg c 0 4 % 4 = 0 →
        exec (.regWrite c) s =
          .next (q.schedule c n false (.regWrite (cmdArg c 0 4) (word (cmdArg c 4 4)) (word (cmdArg c 8 4))) none)) ∧
     (let adr := cmdArg c 8 8
      let len := cmdArg c 16 4
      n = 0 → s.dramReady = true → 4 ≤ len → len ≤ 0x4000000 → len % 4 = 0 →
      (0x400000000 ≤ adr → adr + len ≤ s.dramLimit →
        (s.sram.bad = [] → s.Takes c 2 → exec (.copyIn c) s =
          .next (((q.readHost (cmdArg c 0 8) len).putBytes adr (padTo len c.data)).endCmd c stOk 0)) ∧
        (s.Takes c 2 → exec (.copyIn c) s =
          .next (((q.readHost (cmdArg c 0 8) len).store 14 adr (padTo len c.data)).endCmd c stOk 0)) ∧
        (s.badWord adr len = none → s.Takes c 3 → exec (.copyOut c) s =
          .next ((q.writeHost (cmdArg c 0 8) (q.bytes adr len)).endCmd c stOk 0)) ∧
        (s.badWord adr len = some off → s.Takes c 3 → exec (.copyOut c) s =
          .next ((q.dramSeen off 14).endCmd c stDmaErr (cmdArg c 0 8 % 2 ^ 32)))) ∧
      (s.dramLimit < adr + len → (s.Takes c 2 → exec (.copyIn c) s = .next (q.endCmd c stBadAddr 0)) ∧
        (s.Takes c 3 → exec (.copyOut c) s = .next (q.endCmd c stBadAddr 0)))) ∧
     (let w0 := s.setRing c.ring { s.ring c.ring with wait := true }
      let w := if s.domOn 16 then w0.leaveSelfRefresh else w0
      n = 0 → s.dramReady = false → copyLenOk (cmdArg c 16 4) = true → s.copyRange (cmdArg c 8 8) (cmdArg c 16 4) = true →
      (s.Takes c 2 → exec (.copyIn c) s = .next w) ∧ (s.Takes c 3 → exec (.copyOut c) s = .next w)) ∧
     (s.Takes c 0x50 → n = 0 → exec (.fltAck c) s = .next ((q.ackMask (cmdArg c 0 8)).endCmd c stOk 0)) ∧
     (s.Takes c 0x60 → n = 0 → twiArgBad c = none → s.isOwner = true → s.twn.ho = none → s.hif.twi = [] → s.twiSt (cmdArg c 0 1) = 1 →
        s.twiUnread (cmdArg c 0 1) = false →
        ∃ t : State, exec (.twiXfer c) s = .next t ∧ t.twiSt (cmdArg c 0 1) = 2 ∧ t.hif.twi = [twiRequest c] ∧
        (t.ring c.ring).busy = true ∧ s.KeepsRegs t [R.HIF_CMD_CNT, R.TWI_C_STATUS (cmdArg c 0 1)] ∧ t.mem = s.mem) ∧
     (cmdOp c ∉ knownOps → s.mayParse c.ring = true → exec (.badOpcode c) s = .next (q.endCmd c stBadOpcode 0))) ∧
    (s.sched = [a] → a.target ≤ s.tickNum → a.ring = some c.ring.val → a.lost = false →
      (a.kind = .nop → exec .timedCommandEffect s =
        .next (({ s with sched := [] } : State).finish c.ring a.tag a.opcode (if a.late then stLate else stOk) 0)) ∧
      (a.kind = .regWrite off v m → exec .timedCommandEffect s =
        .next ((({ s with sched := [] } : State).writeReg .bar0 off (s.maskedWord off v m)).finish c.ring a.tag a.opcode
          (if a.late then stLate else stOk) 0))) ∧
    (s.traffic = true → s.hif.cpls = [k] → k.ring < 4 → (s.ring (4 + k.ring)).en = true → ∃ t : State,
      exec .completionWrite s = .next t ∧ t.hif.cpls = [] ∧ (t.ring (4 + k.ring)).prod = ((s.ring (4 + k.ring)).prod + 1) % 2 ^ 32 ∧
      t.outbox = s.outbox ++ [.hostWrite (s.ringBase (4 + k.ring) + (s.ring (4 + k.ring)).prod % s.ringSize (4 + k.ring) * 16)
        (leBytes 4 k.tag ++ leBytes 2 k.opcode ++ leBytes 1 k.status
          ++ leBytes 1 (((s.ring (4 + k.ring)).prod / s.ringSize (4 + k.ring) + 1) % 2) ++ leBytes 4 k.detail ++ leBytes 4 k.tick)] ∧
      s.KeepsRegs t [] ∧ t.mem = s.mem)

/-- A write of a ring's CTRL asks for its enable or disable at the boundary; a command ring whose completion ring
will not be enabled there gives ring_err (R343; the model's reading, log 54).
BASE and SIZE are taken only while the ring is disabled and the size is legal, BASE_LO with the held BASE_HI; else ring_err. HIF_CTRL holds its
enable (R372). An endpoint reset returns the HIF block to its reset values but for the DRAM limit, sets flr_seen, disables every ring, and loses the
completions that wait, and drains the host DMA (R399); the tick, the graph and memory stay (R369). A failed transfer records its address and raises fault 16; that of a
descriptor disables its ring with ring_err, that of a payload completes DMA_ERR (R370). A bad access sets acc_err, and a read gives 0 (R340).
Bus mastering follows the host (R369). -/
def Obligations.TheHostInterfaceIsConfiguredAndFails : Prop :=
  ∀ (s : State) (r : Fin 12) (cr : Fin 4) (w : Word) (ad : BitVec 64) (c : HostCmd) (b : Bool),
    (s.domOn 18 = true →
      (4 ≤ r.val → (s.ring r).en = false → w.getLsbD 0 = true → ∃ t : State, exec (.hifRingCtrlWrite r w) s = .next t ∧
        t.reg (R.HIF_RING_CTRL r) = w &&& 0xFF03F1#32 ∧ t.ring r = { s.ring r with enPend := some true } ∧
        s.KeepsRegs t [R.HIF_RING_CTRL r] ∧ t.mem = s.mem ∧ t.outbox = s.outbox) ∧
      (r.val = cr.val → w.getLsbD 0 = true → (s.ring (4 + cr)).enNext = false → exec (.hifRingCtrlWrite r w) s =
        .next ((s.setFlag F.HIF_STATUS_ring_err true).setFld F.HIF_RING_ERR_ring r)) ∧
      ((s.ring r).en = true → ∀ x : Fin 3, exec (.hifRingBaseSizeWrite r x w) s =
        .next ((s.setFlag F.HIF_STATUS_ring_err true).setFld F.HIF_RING_ERR_ring r)) ∧
      ((s.ring r).en = false → (s.ring r).enPend = none →
        exec (.hifRingBaseSizeWrite r 1 w) s = .next { s with whold := Tbl.put (R.HIF_RING_BASE_HI r) w s.whold } ∧
        (∃ t : State, exec (.hifRingBaseSizeWrite r 0 w) s = .next t ∧ t.reg (R.HIF_RING_BASE_LO r) = w ∧
          t.reg (R.HIF_RING_BASE_HI r) = Tbl.get (fun _ => s.reg (R.HIF_RING_BASE_HI r)) s.whold (R.HIF_RING_BASE_HI r) ∧
          s.KeepsRegs t [R.HIF_RING_BASE_LO r, R.HIF_RING_BASE_HI r] ∧ t.mem = s.mem ∧ t.hif = s.hif) ∧
        (4 ≤ bitsOf w 3 0 → bitsOf w 3 0 ≤ 12 → exec (.hifRingBaseSizeWrite r 2 w) s =
          .next (s.put (R.HIF_RING_SIZE r) (word (bitsOf w 3 0)))) ∧
        (bitsOf w 3 0 < 4 → exec (.hifRingBaseSizeWrite r 2 w) s =
          .next ((s.setFlag F.HIF_STATUS_ring_err true).setFld F.HIF_RING_ERR_ring r))) ∧
      exec (.hifCtrlWrite w) s = .next (s.put R.HIF_CTRL (w &&& 1#32)) ∧
      (∃ t : State, exec .pcieReset s = .next t ∧ t.flag F.HIF_STATUS_flr_seen = true ∧ t.flag F.HIF_STATUS_bme = false ∧
        t.reg R.HIF_CTRL = resetWord R.HIF_CTRL ∧ t.reg R.HIF_DRAM_LIMIT = s.reg R.HIF_DRAM_LIMIT ∧ (t.ring r).en = false ∧
        t.hif.cpls = [] ∧ (s.hif.twi = [] → t.reg R.HIF_CPL_DROP_CNT =
          word (min ((resetWord R.HIF_CPL_DROP_CNT).toNat + s.hif.cpls.length) 0xFFFFFFFF)) ∧
        t.sched.length = s.sched.length ∧ (∀ o, isHif o = false → o ≠ R.XBR_STATUS → o ≠ R.XBR_DRAIN_CNT → t.reg o = s.reg o) ∧
        14 ∈ t.sram.drain ∧ t.flag F.XBR_STATUS_drain = (s.flag F.XBR_STATUS_drain || !s.sram.drain.contains 14) ∧
        t.fab = s.fab ∧ t.run = s.run ∧ t.clk = s.clk ∧ t.str = s.str ∧ t.twn = s.twn ∧ t.mem = s.mem ∧ t.outbox = s.outbox) ∧
      exec (.bar0BadAccess true) s = .next (s.setFlag F.HIF_STATUS_acc_err true) ∧
      exec (.bar0BadAccess false) s = .next { s.setFlag F.HIF_STATUS_acc_err true with lastRead := 0 } ∧
      (s.flag F.HIF_STATUS_link_up = true → s.hif.cpls = [] → s.eth.mtx = [] → s.hif.twi = [] → s.hif.msixPba = 0 → ∃ t : State, exec (.busMasterEnableChange b) s = .next t ∧
        t.flag F.HIF_STATUS_bme = b ∧ s.KeepsRegs t [R.HIF_STATUS] ∧ t.mem = s.mem ∧ t.outbox = s.outbox)) ∧
    (s.traffic = true →
      (∃ t : State, exec (.hostDmaFail .event ad) s = .next t ∧
        t.pair R.HIF_DMA_ERR_ADDR_LO R.HIF_DMA_ERR_ADDR_HI = ad.toNat ∧ t.flag F.HIF_STATUS_dma_err = true ∧
        t.reg R.HIF_DMA_ERR_CNT = counted (s.reg R.HIF_DMA_ERR_CNT) ∧ t.latched 16 = true ∧ t.mem = s.mem) ∧
      (r.val < 4 → ∃ t : State, exec (.hostDmaFail (.descriptor r) ad) s = .next t ∧ (t.ring r).en = false ∧
        t.flag F.HIF_STATUS_ring_err = true ∧ t.fld F.HIF_RING_ERR_ring = r.val ∧ (t.ring r).cons = (s.ring r).cons ∧
        t.latched 16 = true ∧ t.mem = s.mem) ∧
      (s.mayParse c.ring = true → cmdOp c = 2 → s.isOwner = false → s.solo = false → (s.ring 8).en = false → s.hif.twi = [] → ∃ t : State,
        exec (.hostDmaFail (.payload c) ad) s = .next t ∧
        t.hif.cpls = s.hif.cpls ++ [⟨c.ring, cmdTag c, 2, 7, ad.toNat % 2 ^ 32, s.tickNum⟩] ∧ t.latched 16 = true ∧ t.mem = s.mem) ∧
      (s.hif.fetching = true → ∃ t : State, exec (.hostDmaFail .doorbell ad) s = .next t ∧ t.hif.late = true ∧ t.hif.fetching = false ∧
        t.reg R.TCK_DBF_LATE_CNT = counted (s.reg R.TCK_DBF_LATE_CNT) ∧ s.KeepsRegs t [R.TCK_DBF_LATE_CNT, R.TCK_STATUS] ∧ t.mem = s.mem))

/-- A request to no target is answered with an error, counted, and raises fault 5; a read returns 0; the first since derr was cleared is
latched with master and direction (R393). A decoded address is carried out: a read returns the word, of the boot ROM or of control SRAM at the
zero window by SYS_REMAP (R391, R392); a write to an active engine's window is discarded with an error response, one to a fenced engine's is
stored (R80). An uncorrectable word of a tick store, the control SRAM or the packet buffer is counted, the first latched with its unit, and
raises fault 6 (R401); its two samples read as 0 (R403), a write of part of it is discarded, and it stays uncorrectable (R402). A drain of a
master is counted once, the longest is kept, 256 cycles at most, and of an engine's write only the beats accepted before its end land (R399).
A march is refused for an active engine and for a unit that does not exist; it ends not busy, a failing row replaced by a good spare, or, where none
is left, in use with fault 7 (R407). That a request for an unknown unit answers 3 as one for an active engine does, and that a request while a march
runs does nothing, are the model's choices (log entry 29). -/
def Obligations.BadAddressesDrainsAndFailingWordsAreRecorded : Prop :=
  ∀ (s : State) (adr : BitVec 36) (m : Fin 17) (wo : Option Word) (u : Nat) (hit : SramHit) (slot : Fin 4096) (k : Fin 16) (w : Word) (n r : Nat)
    (x : Spares) (e : Eng) (a c0 : Nat) (ws : List Word),
    (s.decodes adr.toNat = true → within adr.toNat 0x40000000 0x1000000 = false →
      (exec (.decodeError adr m none) s = .next { s with lastRead := s.readWord adr.toNat }) ∧
      (s.rom adr.toNat ≠ none → exec (.decodeError adr m (some w)) s = .next s) ∧
      (s.rom adr.toNat = none → within adr.toNat 0x30000000 0x1800000 = false → s.sram.bad = [] →
        exec (.decodeError adr m (some w)) s =
          .next (s.putBytes (s.storageOf (adr.toNat / 4 * 4)) (leBytes 4 w.toNat)))) ∧
    (s.domOn 1 = true → adr.toNat < 0x40000 → adr.toNat % 4 = 0 →
      (s.flag F.SYS_REMAP_remap = true → s.storageOf adr.toNat = 0x11000000 + adr.toNat ∧
        ∀ j < 4, s.readByte (adr.toNat + j) = s.byte (0x11000000 + adr.toNat + j)) ∧
      (s.flag F.SYS_REMAP_remap = false → ∀ j < 4, s.readByte (adr.toNat + j) = Config.bootRom (adr.toNat + j))) ∧
    (s.decodes adr.toNat = true → within adr.toNat 0x30000000 0x1800000 = true → wo = some w →
      (s.active ((adr.toNat - 0x30000000) / 0x40000) = true →
        exec (.decodeError adr m wo) s = .next (s.emit (.firmware "ERROR_RESPONSE" m))) ∧
      (s.active ((adr.toNat - 0x30000000) / 0x40000) = false →
        exec (.decodeError adr m wo) s = .next (s.putMemWord (adr.toNat / 4 * 4) w))) ∧
    (s.decodes adr.toNat = false → ∃ t : State, exec (.decodeError adr m wo) s = .next t ∧ t.flag F.XBR_STATUS_derr = true ∧
      t.reg R.XBR_DERR_CNT = counted (s.reg R.XBR_DERR_CNT) ∧ t.latched 5 = true ∧ t.unacked 5 = true ∧ t.mem = s.mem ∧ t.fab = s.fab ∧
      .firmware "ERROR_RESPONSE" m ∈ t.outbox ∧ (wo = none → t.lastRead = 0) ∧
      (s.flag F.XBR_STATUS_derr = false → t.pair R.XBR_DERR_ADDR_LO R.XBR_DERR_ADDR_HI = adr.toNat ∧
        t.fld F.XBR_DERR_INFO_master = m ∧ t.flag F.XBR_DERR_INFO_write = wo.isSome) ∧
      (s.flag F.XBR_STATUS_derr = true → ∀ o ∈ [R.XBR_DERR_ADDR_LO, R.XBR_DERR_ADDR_HI, R.XBR_DERR_INFO], t.reg o = s.reg o)) ∧
    (s.unitOf adr.toNat = none → exec (.sramUncorrectable adr m hit) s = .next s) ∧
    (s.unitOf adr.toNat = some u →
      (∃ t : State, exec (.sramUncorrectable adr m hit) s = .next t ∧ t.flag F.MEM_STATUS_uncorr = true ∧
        t.reg R.MEM_ECC_UNCORR_CNT = counted (s.reg R.MEM_ECC_UNCORR_CNT) ∧ t.latched 6 = true ∧
        adr.toNat / 8 * 8 ∈ t.sram.bad ∧
        ((∀ old, hit ≠ .partWrite old) → t.mem = s.mem) ∧
        (∀ old, hit = .partWrite old → (∀ i < 8, t.byte (adr.toNat / 8 * 8 + i) = old.getD i 0) ∧ s.KeepsMemBut t (adr.toNat / 8 * 8) 8) ∧
        (s.flag F.MEM_STATUS_uncorr = false → t.pair R.MEM_ECC_ADDR_LO R.MEM_ECC_ADDR_HI = adr.toNat ∧
          t.fld F.MEM_ECC_INFO_master = m ∧ t.fld F.MEM_ECC_INFO_unit = u) ∧
        (s.flag F.MEM_STATUS_uncorr = true → ∀ o ∈ [R.MEM_ECC_ADDR_LO, R.MEM_ECC_ADDR_HI, R.MEM_ECC_INFO], t.reg o = s.reg o)) ∧
      (∃ t : State, exec (.sramUncorrectable adr m (.samples slot k true)) s = .next t ∧
        Tbl.get (fun _ => []) t.fab.com slot = zeroPair (s.blk s.fab.com slot) k ∧ t.fab.cur = s.fab.cur ∧
        (∀ j, j ≠ slot.val → Tbl.get (fun _ => []) t.fab.com j = Tbl.get (fun _ => []) s.fab.com j))) ∧
    (m.val ∉ s.sram.drain → ∃ t : State, exec (.masterDrain m) s = .next t ∧ t.sram = { s.sram with drain := s.sram.drain ++ [m.val] } ∧
      t.flag F.XBR_STATUS_drain = true ∧ t.reg R.XBR_DRAIN_CNT = counted (s.reg R.XBR_DRAIN_CNT) ∧
      s.KeepsRegs t [R.XBR_STATUS, R.XBR_DRAIN_CNT] ∧ t.mem = s.mem ∧ t.fab = s.fab ∧ t.outbox = s.outbox) ∧
    (m.val ∈ s.sram.drain → exec (.masterDrain m) s = .next s) ∧
    (s.sram.drain.any (drainOf m) = true →
      (s.sram.landing = [] → ∃ t : State, exec (.drainComplete m n) s = .next t ∧
        t.sram = { s.sram with drain := s.sram.drain.filter fun k => !drainOf m k } ∧
        t.fld F.XBR_DRAIN_MAX_cycles = max (s.fld F.XBR_DRAIN_MAX_cycles) (min n 256) ∧
        s.KeepsRegs t [R.XBR_DRAIN_MAX] ∧ t.mem = s.mem ∧ t.fab = s.fab ∧ t.outbox = s.outbox) ∧
      (s.sram.landing = [(e.val, a, ws)] → e.val / 8 = m → s.sram.bad = [] → ∃ t : State,
        exec (.drainComplete m n [(e, c0)]) s = .next t ∧ t.mem = (s.putMemWords a (ws.take (16 * c0))).mem ∧ t.sram.landing = [] ∧
        s.KeepsRegs t [R.XBR_DRAIN_MAX] ∧ t.fab = s.fab ∧ t.outbox = s.outbox)) ∧
    (s.sram.drain.any (drainOf m) = false → exec (.drainComplete m n) s = .next s) ∧
    (let v := bitsOf w 7 0
     s.domOn 2 = true → w.getLsbD 8 = true → s.sram.march = none → ∃ t : State, exec (.marchRequest w) s = .next t ∧
      t.reg R.MEM_MARCH_CTRL = w &&& 0xFF#32 ∧ s.KeepsRegs t [R.MEM_MARCH_CTRL, R.MEM_MARCH_STATUS] ∧ t.mem = s.mem ∧ t.fab = s.fab ∧
      (v < 18 ∨ (32 ≤ v ∧ v < 128 ∧ s.active (v - 32) = false) → t.sram = { s.sram with march := some v } ∧
        t.flag F.MEM_MARCH_STATUS_busy = true ∧ t.fld F.MEM_MARCH_STATUS_result = 0 ∧ t.fld F.MEM_MARCH_STATUS_row = 0) ∧
      ((18 ≤ v ∧ v < 32) ∨ 128 ≤ v ∨ (32 ≤ v ∧ s.active (v - 32) = true) → t.sram = s.sram ∧ t.fld F.MEM_MARCH_STATUS_result = 3)) ∧
    (s.domOn 2 = true → s.sram.march.isSome = true → exec (.marchRequest w) s = .next (s.put R.MEM_MARCH_CTRL (w &&& 0xFF#32))) ∧
    (s.sram.march = some u →
      (∃ t : State, exec (.marchComplete []) s = .next t ∧ t.sram = { s.sram with march := none } ∧
        t.flag F.MEM_MARCH_STATUS_busy = false ∧ t.fld F.MEM_MARCH_STATUS_result = s.fld F.MEM_MARCH_STATUS_result ∧
        s.KeepsRegs t [R.MEM_MARCH_STATUS] ∧ t.mem = s.mem) ∧
      (let b := subBank u r
       ((s.spares b.1).replace b.2 = some x → ∃ t : State, exec (.marchComplete [r]) s = .next t ∧ t.spares b.1 = x ∧ t.sram.march = none ∧
          t.flag F.MEM_STATUS_repair = true ∧ t.fld F.MEM_MARCH_STATUS_result = max 1 (s.fld F.MEM_MARCH_STATUS_result) ∧
          (∀ j, j ≠ b.1 → t.spares j = s.spares j) ∧ s.KeepsRegs t [R.MEM_STATUS, R.MEM_MARCH_STATUS, R.MEM_REPAIR_USED]) ∧
       ((s.spares b.1).replace b.2 = none → ∃ t : State, exec (.marchComplete [r]) s = .next t ∧ t.sram = { s.sram with march := none } ∧
          t.flag F.MEM_STATUS_unrep = true ∧ t.fld F.MEM_MARCH_STATUS_result = 2 ∧ t.latched 7 = true ∧ t.flag F.MEM_MARCH_STATUS_busy = false)))

/-- An interval of a refreshed rank, once it has passed, adds 1 to its debt; under panic, below 8, it counts as postponed, and no REF is
issued (R420, R421). A REF takes 1 from the debt
(R420). At a debt of 8 or more the rank is precharged and refreshed until its debt is 0, intervals that expire in the batch joining it
(R422; a debt never passes 8 while ranks are refreshed, R426; tRFC, with which the
length of a batch is reckoned, is presumed for 8 Gb devices, log entry 52). A REF in the cycle of a conversion counts before it (R425). A write of DDR_TEMP above 85 degrees sets hot, one
of 83 or less clears it, and it ends the stale condition (R423). When hot is set, the debt doubles and one more interval is due where 3.9 us of the
present one have gone by; when it is cleared, the debt is halved, rounded up (R424); a converted debt of 8 or more is paid at once. A
temperature not written for 1 s sets hot and raises fault 10 (R423). -/
def Obligations.RefreshDebtsAndHeatAreKept : Prop :=
  ∀ (s : State) (r : Fin 2) (p : Bool) (w : Word),
    (s.refreshes r = true → s.now.hot = none →
      (s.refDue r = false → exec (.refreshIntervalExpire r p) s = .next s) ∧
      (s.refDue r = true → s.batchEnd r ≤ s.refT r + s.trefi → s.debt r < 8 → ∃ t : State,
        exec (.refreshIntervalExpire r p) s = .next t ∧ t.debt r = s.debt r + 1 ∧ t.debt (1 - r) = s.debt (1 - r) ∧
        t.flag F.DDR_STATUS_panic = p ∧ t.refT r = s.refT r + s.trefi ∧ t.refT (1 - r) = s.refT (1 - r) ∧
        t.reg R.DDR_REF_POSTPONE_CNT = (if p && decide (s.debt r < 7) then counted (s.reg R.DDR_REF_POSTPONE_CNT)
          else s.reg R.DDR_REF_POSTPONE_CNT) ∧
        s.KeepsRegs t [R.DDR_STATUS, R.DDR_REF_STATUS, R.DDR_REF_POSTPONE_CNT] ∧ t.mem = s.mem ∧ t.outbox = s.outbox) ∧
      (s.refDue r = true → s.batchEnd r ≤ s.refT r + s.trefi → 8 ≤ s.debt r → ∃ t : State,
        exec (.refreshIntervalExpire r p) s = .next t ∧ t.debt r = 1 ∧
        t.outbox = s.outbox ++ .dram "PRE" r :: List.replicate (s.debt r) (.dram "REF" r) ∧
        t.reg R.DDR_REF_FORCED_CNT = counted (s.reg R.DDR_REF_FORCED_CNT) ∧
        s.KeepsRegs t [R.DDR_STATUS, R.DDR_REF_STATUS, R.DDR_REF_POSTPONE_CNT, R.DDR_REF_FORCED_CNT] ∧ t.mem = s.mem) ∧
      (s.refDue r = true → s.refT r + s.trefi < s.batchEnd r → ∃ t : State, exec (.refreshIntervalExpire r p) s = .next t ∧
        t.debt r = s.debt r ∧ t.refT r = s.refT r + s.trefi ∧ t.batchEnd r = s.batchEnd r + s.trfc ∧
        t.outbox = s.outbox ++ [.dram "REF" r] ∧ s.KeepsRegs t [R.DDR_STATUS] ∧ t.mem = s.mem) ∧
      (1 ≤ s.debt r → s.flag F.DDR_STATUS_panic = false ∨ 8 ≤ s.debt r → ∃ t : State, exec (.refIssue r) s = .next t ∧
        t.debt r = s.debt r - 1 ∧ t.debt (1 - r) = s.debt (1 - r) ∧
        t.outbox = s.outbox ++ [.dram "REF" r] ∧ s.KeepsRegs t [R.DDR_STATUS, R.DDR_REF_STATUS] ∧ t.mem = s.mem ∧ t.ddr = s.ddr) ∧
      (s.flag F.DDR_STATUS_panic = true → s.debt r < 8 → ∃ t : State, exec (.refIssue r) s = .next t ∧ s.KeepsRegs t [] ∧
        t.outbox = s.outbox ∧ t.mem = s.mem ∧ t.ddr = s.ddr) ∧
      (s.debt r = 0 → exec (.refIssue r) s = .next s)) ∧
    (s.now.hot = none → ∀ t t' u u' : State, exec (.ddrTempWrite w) s = .next t → exec (.refIssue r) t = .next t' →
      exec (.refIssue r) s = .next u → exec (.ddrTempWrite w) u = .next u' → ∀ k, k < 2 → t'.debt k = u'.debt k) ∧
    (s.refreshes r = true →
      (8 ≤ s.debt r → ∃ t : State, exec (.forcedRefreshBatch r) s = .next t ∧ t.debt r = 0 ∧ t.debt (1 - r) = s.debt (1 - r) ∧
        t.outbox = s.outbox ++ .dram "PRE" r :: List.replicate (s.debt r) (.dram "REF" r) ∧
        t.reg R.DDR_REF_FORCED_CNT = counted (s.reg R.DDR_REF_FORCED_CNT) ∧
        t.batchEnd r = s.clk.freeU + s.debt r * s.trfc ∧
        s.KeepsRegs t [R.DDR_REF_STATUS, R.DDR_REF_FORCED_CNT] ∧ t.mem = s.mem)) ∧
    (s.domOn 16 = true → let c := signExt 8 (bitsOf w 7 0)
      ∃ t : State, exec (.ddrTempWrite w) s = .next t ∧ t.reg R.DDR_TEMP = w &&& 0xFF#32 ∧ t.flag F.DDR_STATUS_temp_stale = false ∧
      t.condActive 10 = false ∧ t.flag F.DDR_STATUS_hot = (if 85 < c then true else if c ≤ 83 then false else s.flag F.DDR_STATUS_hot) ∧
      t.mem = s.mem ∧
      (t.flag F.DDR_STATUS_hot = s.flag F.DDR_STATUS_hot → t.outbox = s.outbox ∧ ∀ k, k < 2 → t.debt k = s.debt k) ∧
      (∀ k, k < 2 → s.refreshes k = false → t.debt k = s.debt k) ∧
      (s.flag F.DDR_STATUS_hot = false → 85 < c → ∀ k, s.refreshes k = true → k < 2 →
        let e := s.clk.freeU - s.refT k
        (23400 ≤ e → 2 * s.debt k + 1 < 8 → t.debt k = 2 * s.debt k + 1 ∧ t.refT k = s.refT k + 23400) ∧
        (e < 23400 → 2 * s.debt k < 8 → t.debt k = 2 * s.debt k ∧ t.refT k = s.refT k) ∧
        (8 ≤ 2 * s.debt k → t.debt k = 0)) ∧
      (s.flag F.DDR_STATUS_hot = false → 85 < c → s.ranks = 1 → s.refreshes 0 = true → s.clk.freeU - s.refT 0 < 23400 → 4 ≤ s.debt 0 → s.debt 0 ≤ 15 →
        t.outbox = s.outbox ++ .dram "PRE" 0 :: List.replicate (2 * s.debt 0) (.dram "REF" 0) ∧
        t.reg R.DDR_REF_FORCED_CNT = counted (s.reg R.DDR_REF_FORCED_CNT) ∧ t.reg R.DDR_REF_HOT_CNT = counted (s.reg R.DDR_REF_HOT_CNT)) ∧
      (s.flag F.DDR_STATUS_hot = true → c ≤ 83 → ∀ k, s.refreshes k = true → k < 2 → s.debt k ≤ 14 → t.debt k = (s.debt k + 1) / 2)) ∧
    (s.flag F.DDR_STATUS_init_done = true → s.clk.freeU < s.ddr.tempU + 6000000000 → exec .ddrTempStale s = .next s) ∧
    (s.flag F.DDR_STATUS_init_done = true → s.ddr.tempU + 6000000000 ≤ s.clk.freeU → s.condActive 10 = false →
      (∀ e ∈ s.flt.ended, e.1 ≠ 10) → ∃ t : State, exec .ddrTempStale s = .next t ∧
      t.flag F.DDR_STATUS_hot = true ∧ t.flag F.DDR_STATUS_temp_stale = true ∧ t.condActive 10 = true ∧ t.latched 10 = true ∧
      t.unacked 10 = true ∧ t.mem = s.mem)

/-- DDR_CFG takes a write only before init_done; later it sets cfg_err (R410). A training step runs from its go; its results stand in the pass and
error registers (R427). Step 6 of the last rank passed sets the capacity of the organisation and the DRAM limit 256 MiB below its end (R409, R412); a
first failure repeats the sequence; the second sets trn_fail, names lane and step and raises fault 11 (R429). After training, init clears the
DRAM, and init_done is set (R430). Self-refresh is refused while the tick runs; else owed refreshes go first, the delay registers are saved, and the
exit brings them back with no debt (R431, R432). An uncorrectable word is counted, the first latched, and raises fault 8; a COPY_OUT that read it
completes DMA_ERR, delay samples in it read as 0 and are counted, a write of part of it is discarded (R413, R152, R414); more corrected words in a
second of network time than the threshold raise fault 9, once in it (R414). A module whose training failed does not go on to audio (R429). That the limit register is set at the end of training is the model's choice (log entry 31). -/
def Obligations.DramIsTrainedClearedAndPutToSleep : Prop :=
  ∀ (s : State) (w errs : Word) (ps : BitVec 72) (lane : Fin 9) (adr : BitVec 36) (m : BitVec 5) (n : Nat) (c : HostCmd)
    (old : List Byte),
    (s.domOn 16 = true →
      (s.flag F.DDR_STATUS_init_done = false → exec (.ddrCfgWrite w) s = .next (s.put R.DDR_CFG (w &&& 0x1F1F1F#32))) ∧
      (s.flag F.DDR_STATUS_init_done = true → exec (.ddrCfgWrite w) s = .next (s.setFlag F.DDR_STATUS_cfg_err true)) ∧
      (∃ t : State, exec (.trainingStep w) s = .next t ∧ t.reg R.DDR_TRN_CTRL = w &&& 0xFFFF7E#32 ∧
        t.flag F.DDR_TRN_STATUS_busy = (w.getLsbD 0 || s.flag F.DDR_TRN_STATUS_busy) ∧
        s.KeepsRegs t [R.DDR_TRN_CTRL, R.DDR_TRN_STATUS] ∧ t.mem = s.mem ∧ t.ddr = s.ddr) ∧
      (s.fld F.DDR_CAP_cap ≠ 0 → s.flag F.DDR_STATUS_sr = false →
        exec .dramInit s = .next { s with ddr := { s.ddr with clearing := true } }) ∧
      (s.ticking = true → exec .selfRefreshRequest s = .next (s.setFlag F.DDR_STATUS_sr_err true)) ∧
      (s.ticking = false → s.flag F.DDR_STATUS_sr = false → ∃ t : State, exec .selfRefreshRequest s = .next t ∧
        t.flag F.DDR_STATUS_sr = true ∧ t.ddr = { s.ddr with held := true, saved := trnRegs.map fun o => (o, s.reg o) } ∧
        t.reg R.DDR_SR_CNT = counted (s.reg R.DDR_SR_CNT) ∧ (∀ k, k < s.ranks → t.debt k = 0) ∧
        (s.ranks = 1 → t.outbox = s.outbox ++ List.replicate (s.debt 0) (.dram "REF" 0) ++ [.dram "SRE" 0]) ∧
        s.KeepsRegs t [R.DDR_STATUS, R.DDR_SR_CNT, R.DDR_REF_STATUS] ∧ t.mem = s.mem) ∧
      (s.flag F.DDR_STATUS_sr = true → ∃ t : State, exec .selfRefreshExit s = .next t ∧ t.flag F.DDR_STATUS_sr = false ∧
        t.debt 0 = 0 ∧ t.debt 1 = 0 ∧ t.ddr.held = false ∧ t.ddr.saved = [] ∧ t.refT 0 = s.clk.freeU ∧ t.mem = s.mem ∧
        (∀ v, s.ddr.saved = [(R.DDR_VREF, v)] → t.reg R.DDR_VREF = v) ∧
        (s.ddr.saved = [] → s.KeepsRegs t [R.DDR_STATUS, R.DDR_REF_STATUS] ∧
          t.outbox = s.outbox ++ .dram "SRX" 0 :: (List.range s.ranks).map fun k => .dram "ZQCL" k)) ∧
      (∃ t : State, exec (.dramUncorrectable adr m .other) s = .next t ∧ t.flag F.DDR_STATUS_uncorr = true ∧ t.latched 8 = true ∧ adr.toNat / 8 * 8 ∈ t.sram.bad ∧
        t.reg R.DDR_ECC_UNCORR_CNT = counted (s.reg R.DDR_ECC_UNCORR_CNT) ∧ (m.toNat ≠ 31 → t.mem = s.mem) ∧
        (m.toNat = 31 → (∀ a, adr.toNat / 8 * 8 ≤ a → a < adr.toNat / 8 * 8 + 8 → t.byte a = 0) ∧
          s.KeepsMemBut t (adr.toNat / 8 * 8) 8 ∧
          t.reg R.RTE_DLY_ECC_CNT = word (min ((s.reg R.RTE_DLY_ECC_CNT).toNat + s.delaySamples adr.toNat) 0xFFFFFFFF)) ∧
        (s.flag F.DDR_STATUS_uncorr = false → t.pair R.DDR_ECC_ADDR_LO R.DDR_ECC_ADDR_HI = adr.toNat ∧
          t.fld F.DDR_ECC_INFO_master = m.toNat) ∧
        (m.toNat ≠ 31 →
          (cmdOp c = 3 → t.mayParse c.ring = true → exec (.dramUncorrectable adr m (.copyOut c)) s =
            .next ((t.takeCmd c.ring).endCmd c stDmaErr (cmdArg c 0 8 % 2 ^ 32))) ∧
          (cmdOp c ≠ 3 ∨ t.mayParse c.ring = false → exec (.dramUncorrectable adr m (.copyOut c)) s = .next t) ∧
          exec (.dramUncorrectable adr m (.partWrite old)) s = .next (t.undoWrite adr.toNat m.toNat old))) ∧
      (let was := if s.ddr.corrSec = s.netSec then s.ddr.corrN else 0
       let thr := s.fld F.DDR_ECC_CFG_corr_thr
       let kept := { s.countBy R.DDR_ECC_CORR_CNT n with ddr := { s.ddr with corrSec := s.netSec, corrN := was + n } }
       (was + n ≤ thr ∨ thr < was → exec (.dramCorrectionRate n) s = .next kept) ∧
       (was ≤ thr → thr < was + n → exec (.dramCorrectionRate n) s = .next (kept.raise 9 (word (was + n))) ∧
         (kept.raise 9 (word (was + n))).latched 9 = true))) ∧
    (s.flag F.DDR_TRN_STATUS_busy = true →
      (∃ t : State, exec (.trainingStepDone ps errs .sweep) s = .next t ∧ t.reg R.DDR_TRN_ERR = errs ∧
        t.reg (R.DDR_TRN_PASS 0) = ps.setWidth 32 ∧ t.reg (R.DDR_TRN_PASS 1) = (ps >>> 32).setWidth 32 ∧
        t.reg (R.DDR_TRN_PASS 2) = (ps >>> 64).setWidth 32 ∧ t.flag F.DDR_TRN_STATUS_busy = false ∧
        s.KeepsRegs t [R.DDR_TRN_ERR, R.DDR_TRN_PASS 0, R.DDR_TRN_PASS 1, R.DDR_TRN_PASS 2, R.DDR_TRN_STATUS] ∧ t.mem = s.mem ∧
        t.ddr = s.ddr) ∧
      (s.fld F.DDR_TRN_CTRL_step = 6 → s.fld F.DDR_TRN_CTRL_rank + 1 = s.ranks → ∃ t : State,
        exec (.trainingStepDone ps errs .passed) s = .next t ∧ t.fld F.DDR_CAP_cap = s.ddrSize ∧
        (0 < s.ddrSize → t.dramLimit = 0x400000000 + s.ddrSize * 2 ^ 30 - 2 ^ 28) ∧ t.debt 0 = 0 ∧ t.debt 1 = 0 ∧ t.ddr.failed = false ∧
        t.ddr.live = true) ∧
      (s.ddr.failed = false → ∃ t : State, exec (.trainingStepDone ps errs (.failed lane)) s = .next t ∧ t.ddr = { s.ddr with failed := true } ∧
        t.flag F.DDR_STATUS_trn_fail = s.flag F.DDR_STATUS_trn_fail) ∧
      (s.ddr.failed = true → ∃ t : State, exec (.trainingStepDone ps errs (.failed lane)) s = .next t ∧
        t.flag F.DDR_STATUS_trn_fail = true ∧ t.fld F.DDR_TRN_STATUS_lane = lane ∧
        t.fld F.DDR_TRN_STATUS_step = s.fld F.DDR_TRN_CTRL_step ∧ t.latched 11 = true ∧ t.sram.noAudio = true)) ∧
    (s.ddr.clearing = true → ∃ t : State, exec .dramInitDone s = .next t ∧ t.flag F.DDR_STATUS_init_done = true ∧ t.ddr.clearing = false ∧
      (∀ a, 0x400000000 ≤ a → a < 0x800000000 → t.byte a = 0) ∧ (∀ a, a < 0x400000000 → t.byte a = s.byte a) ∧
      s.KeepsRegs t [R.DDR_STATUS] ∧ t.outbox = s.outbox)

/-- An injected occurrence latches, is unacknowledged, counted and tagged; its level is its class's, or one more where an injected occurrence of that
class is unacknowledged, which is counted; a new latch is logged with source, class and level. From level 2 its repair is asked for, from 3 the
module yields OWN, at 4 OWN is released and a warm reset is asked for; class C2 and C3 break the revert hold (R245); a dry run does none of it (R442, R451). Outside Midwinter mode, entered by its three words before
the first tick with TEST_MODE high (R450), nothing is injected. A debug attach is counted, logged and raises source 63 at level 1 (R453).
An acknowledgement, by the written word and the held one, clears UNACK, and STATUS where no condition stands, but of no source raised in the same cycle (R437, R438); the end of a condition clears
ACTIVE, and STATUS where acknowledged (R436). A repair marches the memory, after a march that runs, restarts the lane or reloads the firmware that the data word names (R441).
A read of the log moves on by a word (R447). That reserved sources raise nothing when injected is the model's choice (log entry 30). -/
def Obligations.FaultsAreLatchedEscalatedRepairedAndAcknowledged : Prop :=
  ∀ (s : State) (w w1 w2 w3 d : Word) (i : Fin 64), s.domOn 1 = true →
    (let v := w &&& 0x323F#32
     let j := bitsOf w 5 0
     let c := if j = 63 then 0 else bitsOf w 13 12
     let dry := w.getLsbD 9
     let esc := decide (j ≠ 63) && !dry && s.unackOf c true
     let lvl := if j = 63 then 1 else if esc then min 4 (s.lvlOf c + 1) else s.lvlOf c
     (s.flag F.FLT_MODE_midwinter = false → exec (.faultInject w) s = .next s) ∧
     (s.flag F.FLT_MODE_midwinter = true →
      (w.getLsbD 8 = false ∨ (28 ≤ j ∧ j ≠ 63) → exec (.faultInject w) s = .next (s.put R.FLT_INJ_CTRL v)) ∧
      (w.getLsbD 8 = true → j < 28 ∨ j = 63 → ∃ t : State, exec (.faultInject w) s = .next t ∧ t.latched j = true ∧ t.unacked j = true ∧
        (∀ k, k < 64 → k ≠ j → t.latched k = s.latched k ∧ t.unacked k = s.unacked k) ∧
        t.bit64 R.FLT_INJ_TAG_LO R.FLT_INJ_TAG_HI j = true ∧ t.reg R.FLT_OCC_CNT = counted (s.reg R.FLT_OCC_CNT) ∧
        t.reg R.FLT_ESC_CNT = (if esc then counted (s.reg R.FLT_ESC_CNT) else s.reg R.FLT_ESC_CNT) ∧
        t.flt.seq = (s.flt.seq + 1) % 2 ^ 32 ∧ t.mem = s.mem ∧
        (s.latched j = false ∨ j = 63 → t.fld F.FLT_LOG_WP_wp = (s.fld F.FLT_LOG_WP_wp + 1) % 64 ∧
          (Tbl.get (fun _ => []) t.flt.log (s.fld F.FLT_LOG_WP_wp)).take 3 = leBytes 1 j ++ leBytes 1 c ++ leBytes 1 lvl) ∧
        (dry = true → t.flt.repair = s.flt.repair ∧ t.flt.yield = s.flt.yield ∧ t.twn = s.twn ∧ t.warmReq = s.warmReq) ∧
        (dry = false → t.flt.repair = (if 2 ≤ lvl then s.flt.repair ++ [(j, s.reg R.FLT_INJ_DATA)] else s.flt.repair) ∧
          (3 ≤ lvl → j ∈ t.flt.yield ∧ (s.solo = true → t.isOwner = false ∧ t.twn.ownOut = false)) ∧
          (4 ≤ lvl → t.isOwner = false ∧ t.twn.ownOut = false) ∧
          (lvl < 3 → t.flt.yield = s.flt.yield ∧ t.twn = (if 2 ≤ c then { s.twn with revU := none } else s.twn)) ∧
          t.warmReq = (if 4 ≤ lvl then s.warmReq ||| 16 else s.warmReq))))) ∧
    (∃ t : State, exec .debugAttach s = .next t ∧ t.reg R.FLT_DBG_ATTACH_CNT = counted (s.reg R.FLT_DBG_ATTACH_CNT) ∧
      t.fld F.FLT_LOG_WP_wp = (s.fld F.FLT_LOG_WP_wp + 1) % 64 ∧ t.latched 63 = true ∧ t.unacked 63 = true ∧ t.reg R.FLT_OCC_CNT = counted (s.reg R.FLT_OCC_CNT) ∧
      t.reg R.FLT_ESC_CNT = s.reg R.FLT_ESC_CNT ∧ t.twn = s.twn ∧ t.flt.repair = s.flt.repair ∧ t.mem = s.mem ∧ t.warmReq = s.warmReq ∧
      (∀ k, k < 63 → t.latched k = s.latched k ∧ t.unacked k = s.unacked k)) ∧
    (let m := w.toNat + (Tbl.get (fun _ => (0 : Word)) s.whold R.FLT_ACK_HI).toNat * 2 ^ 32
     ∃ t : State, exec (.fltAckLoWrite w) s = .next t ∧ t.whold = Tbl.drop R.FLT_ACK_HI s.whold ∧
      (∀ k, k < 64 → t.unacked k = (s.unacked k && (!m.testBit k || s.raisedNow k)) ∧
        t.latched k = (if m.testBit k && s.unacked k && !s.raisedNow k then s.latched k && s.condActive k else s.latched k)) ∧
      s.KeepsRegs t [R.FLT_UNACK_LO, R.FLT_UNACK_HI, R.FLT_STATUS_LO, R.FLT_STATUS_HI, R.FLT_WORST] ∧
      t.mem = s.mem ∧ t.twn = s.twn ∧ t.outbox = s.outbox) ∧
    (s.condActive i = true → s.condStands i = true → exec (.conditionEnd i) s = .next s) ∧
    (s.condActive i = true → s.condStands i = false → ∃ t : State, exec (.conditionEnd i) s = .next t ∧ t.condActive i = false ∧
      t.unacked i = s.unacked i ∧ t.latched i = (s.latched i && s.unacked i) ∧ t.mem = s.mem ∧ t.twn = s.twn ∧
      (∀ k, k < 64 → k ≠ i.val → t.latched k = s.latched k ∧ t.unacked k = s.unacked k ∧ t.condActive k = s.condActive k) ∧
      (i = 12 → t.flag F.CLK_STATUS_osc_ok = true) ∧ (i = 14 → ∀ l, l < 8 → t.flag (F.SDS_STATUS_pll_lock l) = true) ∧
      (i = 22 → t.flag F.PWR_STATUS_vin_ok = true) ∧ (i = 23 → t.flag F.PWR_STATUS_temp_hi = false) ∧
      (i = 24 → t.flag F.PWR_STATUS_temp_crit = false)) ∧
    (s.flt.repair = [(i.val, d)] →
      let q : State := { s with flt := { s.flt with repair := [] } }
      (i = 6 → d.toNat < 18 → s.sram.march = none → ∃ t : State, exec (.localRepair i) s = .next t ∧ t.sram.march = some d.toNat ∧
        t.flt = q.flt ∧ s.KeepsRegs t [R.MEM_MARCH_STATUS] ∧ t.mem = s.mem) ∧
      (i = 6 → 18 ≤ d.toNat → s.sram.march = none → exec (.localRepair i) s = .next q) ∧
      (i = 6 → s.sram.march ≠ none → exec (.localRepair i) s = .next s) ∧
      (i = 15 → d.toNat < 4 → exec (.localRepair i) s = .next (q.restartLane (macLane d.toNat))) ∧
      (i = 26 → s.fwStopped = true → exec (.localRepair i) s = .next s) ∧
      (i = 26 → s.fwStopped = false → ∃ t : State, exec (.localRepair i) s = .next t ∧ t.flag F.SYS_FW_STATUS_reloading = true ∧
        t.flag F.SYS_BOOT_CTRL_ok = false ∧ t.pwr = { s.pwr with boot := .ready, reload := some s.clk.freeU } ∧ t.flt = q.flt ∧
        12 ∈ t.sram.drain ∧ 13 ∈ t.sram.drain ∧
        s.KeepsRegs t [R.SYS_FW_STATUS, R.SYS_BOOT_CTRL, R.XBR_STATUS, R.XBR_DRAIN_CNT] ∧ t.mem = s.mem) ∧
      (i = 3 → exec (.localRepair i) s = .next s) ∧
      (i ≠ 3 → i ≠ 6 → i ≠ 15 → i ≠ 26 → exec (.localRepair i) s = .next q)) ∧
    (s.testMode = true → s.clk.ranTick = false → w1 = 0xD1CE#32 → w2 = s.moduleId.setWidth 32 → w3 = 0xEC1#32 →
      exec (.mwUnlock w1 w2 w3) s = .next (s.setFlag F.FLT_MODE_midwinter true)) ∧
    (s.testMode = false ∨ s.clk.ranTick = true ∨ w1 ≠ 0xD1CE#32 ∨ w2 ≠ s.moduleId.setWidth 32 ∨ w3 ≠ 0xEC1#32 →
      exec (.mwUnlock w1 w2 w3) s = .next s) ∧
    (∃ t : State, exec .fltLogDataRead s = .next t ∧
      t.lastRead = word (leAt (Tbl.get (fun _ => []) s.flt.log (s.fld F.FLT_LOG_IDX_entry)) (4 * s.fld F.FLT_LOG_IDX_word) 4) ∧
      t.fld F.FLT_LOG_IDX_word = (s.fld F.FLT_LOG_IDX_word + 1) % 8 ∧
      t.fld F.FLT_LOG_IDX_entry = (s.fld F.FLT_LOG_IDX_entry + bit (decide (s.fld F.FLT_LOG_IDX_word = 7))) % 64 ∧
      s.KeepsRegs t [R.FLT_LOG_IDX] ∧ t.flt = s.flt ∧ t.mem = s.mem)

/-- Nothing pending. A transaction with another address is not the target's (R454). The first two bytes of a write set the pointer (R455). Four data bytes at an aligned pointer write their word, little-endian, to the
register that the map names, as a write of that register; the pointer advances within its 32-byte page (R456, R457). One to three data bytes
complete no word: they are discarded, counted, and part is set (R457). A fetch, where a byte is to be sent, reads the pointer's word once, with that read's effects, and sends its
bytes; the pointer advances and wraps, and another word follows only its last byte (R459); an off domain sends zeros and sets off_rd (R458); an unmapped pointer sends zeros. While an access waits
for its domain, a transaction is NACKed and counted in native mode; in legacy mode SCL is held for it, and 10 ms of stretching are counted, set
stretch_to, and end it (R460, R461). A protocol error keeps the acknowledged bytes and sets proto (R462). -/
def Obligations.TheTwoWireTargetReadsAndWritesRegisters : Prop :=
  ∀ (s : State) (hi lo : Byte) (data : List Byte) (b0 b1 b2 b3 : Byte) (o n : Nat) (st : Bool) (x : Nat × Word) (wt : List (Nat × Word))
    (y : TgtHeld),
    s.domOn 1 = true →
    (let p := hi.toNat * 256 + lo.toNat
     let q := s.count R.TWI_TGT_XFER_CNT
     s.tgt = {} →
      exec (.twiTargetWrite []) s = .next q ∧ exec (.twiTargetWrite [hi]) s = .next q ∧
      (∃ t : State, exec (.twiTargetWrite [hi, lo]) s = .next t ∧ t.tgtPtr = p ∧ t.reg R.TWI_TGT_XFER_CNT = counted (s.reg R.TWI_TGT_XFER_CNT) ∧
        s.KeepsRegs t [R.TWI_TGT_XFER_CNT, R.TWI_TGT_PTR] ∧ t.mem = s.mem ∧ t.outbox = s.outbox ∧ t.tgt = s.tgt) ∧
      (data ≠ [] → data.length < 4 → ∃ t : State, exec (.twiTargetWrite (hi :: lo :: data)) s = .next t ∧
        t.tgtPtr = p / 32 * 32 + (p + data.length) % 32 ∧ t.flag F.TWI_TGT_STATUS_part = true ∧
        t.reg R.TWI_TGT_DISC_CNT = word (min ((s.reg R.TWI_TGT_DISC_CNT).toNat + data.length) 0xFFFFFFFF) ∧
        s.KeepsRegs t [R.TWI_TGT_XFER_CNT, R.TWI_TGT_PTR, R.TWI_TGT_STATUS, R.TWI_TGT_DISC_CNT] ∧ t.mem = s.mem ∧ t.outbox = s.outbox) ∧
      (p % 4 = 0 →
        let q' := (q.setTgtPtr p).setTgtPtr (p / 32 * 32 + (p + 4) % 32)
        (q'.tgtMap p = none → exec (.twiTargetWrite [hi, lo, b0, b1, b2, b3]) s = .next q') ∧
        (q'.tgtMap p = some o → q'.tgtWaits o = false → exec (.twiTargetWrite [hi, lo, b0, b1, b2, b3]) s =
          .next (q'.writeReg .twi o (word (b0.toNat + b1.toNat * 2 ^ 8 + b2.toNat * 2 ^ 16 + b3.toNat * 2 ^ 24)))) ∧
        (q'.tgtMap p = some o → q'.tgtWaits o = true → ∃ t : State, exec (.twiTargetWrite [hi, lo, b0, b1, b2, b3]) s = .next t ∧
          t.tgt = { writes := [(o, word (b0.toNat + b1.toNat * 2 ^ 8 + b2.toNat * 2 ^ 16 + b3.toNat * 2 ^ 24))], read := none } ∧
          s.KeepsRegs t [R.TWI_TGT_XFER_CNT, R.TWI_TGT_PTR] ∧ t.mem = s.mem ∧ t.outbox = s.outbox)) ∧
      (let k := min n (4 - s.tgtPtr % 4)
       let a := s.tgtPtr / 4 * 4
       exec (.twiTargetReadFetch true 0) s = .next q ∧ exec (.twiTargetReadFetch false n) s = .next s ∧
       (0 < n → s.tgtMap a = none → ∃ t : State, exec (.twiTargetReadFetch true n) s = .next t ∧ t.tgt.more = decide (s.tgtPtr % 4 + k = 4) ∧
          t.outbox = s.outbox ++ [.twi 3 (List.replicate k 0)] ∧ t.tgtPtr = (s.tgtPtr + k) % 65536 ∧
          t.reg R.TWI_TGT_XFER_CNT = counted (s.reg R.TWI_TGT_XFER_CNT) ∧
          s.KeepsRegs t [R.TWI_TGT_XFER_CNT, R.TWI_TGT_PTR] ∧ t.mem = s.mem) ∧
       (0 < n → q.tgtMap a = some o → q.answers o = true →
          exec (.twiTargetReadFetch true n) s = .next ((q.readReg o).tgtSend (q.readReg o).lastRead k)) ∧
       (0 < n → q.tgtMap a = some o → (domainOf o).isSome = true → q.answers o = false → q.tgtWaits o = false → ∃ t : State,
          exec (.twiTargetReadFetch true n) s = .next t ∧ t.flag F.TWI_TGT_STATUS_off_rd = true ∧
          t.outbox = s.outbox ++ [.twi 3 (List.replicate k 0)] ∧ t.tgtPtr = (s.tgtPtr + k) % 65536 ∧
          s.KeepsRegs t [R.TWI_TGT_XFER_CNT, R.TWI_TGT_STATUS, R.TWI_TGT_PTR] ∧ t.mem = s.mem) ∧
       (0 < n → q.tgtMap a = some o → q.tgtWaits o = true → s.flag F.TWI_TGT_CFG_legacy = true →
          exec (.twiTargetReadFetch true n) s = .next { q with tgt := { s.tgt with read := some k, since := s.clk.freeU } })) ∧
      (∀ a7 : BitVec 7, a7.toNat ≠ 0x3A + s.twiAddr.toNat → exec (.twiTargetWrite (hi :: lo :: data) (some a7)) s = .next s ∧
        exec (.twiTargetReadFetch true n (some a7)) s = .next s ∧ exec (.twiTargetProtocolError [hi, lo] st (some a7)) s = .next s) ∧
      exec .twiTargetBusyNack s = .next s ∧ exec .twiTargetStretchTimeout s = .next s ∧
      exec (.twiTargetProtocolError [] st) s = .next (s.setFlag F.TWI_TGT_STATUS_proto true) ∧
      (∃ t : State, exec (.twiTargetProtocolError [hi, lo] st) s = .next t ∧ t.tgtPtr = p ∧ t.flag F.TWI_TGT_STATUS_proto = true ∧
        s.KeepsRegs t [R.TWI_TGT_XFER_CNT, R.TWI_TGT_PTR, R.TWI_TGT_STATUS] ∧ t.mem = s.mem ∧ t.outbox = s.outbox)) ∧
    (s.tgt = { more := true } →
      let k := min n (4 - s.tgtPtr % 4)
      let a := s.tgtPtr / 4 * 4
      0 < n → s.tgtMap a = some o → s.answers o = true →
        exec (.twiTargetReadFetch false n) s = .next ((s.readReg o).tgtSend (s.readReg o).lastRead k)) ∧
    (s.tgt.writes = x :: wt → s.tgt.more = false → s.tgtWaits x.1 = true → s.tgt.read = none →
      (s.tgt.held = none → s.flag F.TWI_TGT_CFG_legacy = false →
        (∃ t : State, exec .twiTargetBusyNack s = .next t ∧ t.outbox = s.outbox ++ [.twiCond 3 "NACK"] ∧ t.tgt = s.tgt ∧
          t.reg R.TWI_TGT_NACK_CNT = counted (s.reg R.TWI_TGT_NACK_CNT) ∧ t.reg R.TWI_TGT_XFER_CNT = counted (s.reg R.TWI_TGT_XFER_CNT) ∧
          s.KeepsRegs t [R.TWI_TGT_NACK_CNT, R.TWI_TGT_XFER_CNT] ∧ t.mem = s.mem) ∧
        exec (.twiTargetWrite data) s = .next ((s.count R.TWI_TGT_XFER_CNT).count R.TWI_TGT_NACK_CNT)) ∧
      (s.tgt.held = none → s.flag F.TWI_TGT_CFG_legacy = true → exec .twiTargetStretchTimeout s = .next s ∧
        exec .twiTargetBusyNack s = .next s ∧ ∃ t : State,
        exec (.twiTargetWrite data) s = .next t ∧ t.tgt = { s.tgt with held := some (.write data), since := s.clk.freeU } ∧
        t.reg R.TWI_TGT_XFER_CNT = counted (s.reg R.TWI_TGT_XFER_CNT) ∧ s.KeepsRegs t [R.TWI_TGT_XFER_CNT] ∧ t.mem = s.mem ∧
        t.outbox = s.outbox) ∧
      (s.tgt.held = some y → exec (.twiTargetWrite data) s = .next s ∧
        (s.clk.freeU < s.tgt.since + 60000000 → exec .twiTargetStretchTimeout s = .next s) ∧
        (s.tgt.since + 60000000 ≤ s.clk.freeU → ∃ t : State, exec .twiTargetStretchTimeout s = .next t ∧
          t.outbox = s.outbox ++ [.twiCond 3 "NACK"] ∧ t.tgt = { s.tgt with held := none } ∧ t.flag F.TWI_TGT_STATUS_stretch_to = true ∧
          t.reg R.TWI_TGT_STRETCH_TO_CNT = counted (s.reg R.TWI_TGT_STRETCH_TO_CNT) ∧
          s.KeepsRegs t [R.TWI_TGT_STRETCH_TO_CNT, R.TWI_TGT_STATUS] ∧ t.mem = s.mem)))

/-- One request runs on controller n. Its end sends its bytes and completes it OK, the read bytes to its buffer, once transfers are made (R369), or TWI_NACK with the number of bytes
transferred, counted (R464). SCL low for the configured time, not released in the same cycle, ends it with TWI_BUS_ERR and sets stretch_to, the bus to be cleared (R466); lost arbitration sets lost,
TWI_BUS_ERR; a protocol error is counted, TWI_PROTO, with STOP where the bus is held (R467). In each case the ring goes on. An enabled controller reads SDA once; where it is low the bus is cleared: counted, it
ends idle with STOP, or in the bus-error state with bus_err, retried from there every 10 ms (R468). A write of TWI_Cn_CFG loads the speed's timing, keeps the
old speed for 3, and enables or switches off the controller (R465, R468). That OK transfers alone are counted is the model's reading (log entry 33). -/
def Obligations.TwoWireControllersTransferAndRecover : Prop :=
  ∀ (s : State) (n : Fin 3) (r : TwiCmd) (k : Nat) (rd : List Byte) (h dn : Bool) (low : Nat) (p : Fin 9) (w : Word),
    (s.hif.twi = [r] → r.ctl = n.val → r.lost = false → r.gone = false → r.fw = false → r.back = none → s.twiSt n = 2 →
      (r.rd = 0 ∨ s.traffic = true → ∃ t : State, exec (.twiTransferComplete n none rd) s = .next t ∧ t.twiSt n = 1 ∧ t.hif.twi = [] ∧
        (t.ring r.ring).busy = false ∧ t.hif.cpls = s.hif.cpls ++ [⟨r.ring, r.tag, 0x60, 0, 0, s.tickNum⟩] ∧
        t.reg (R.TWI_C_XFER_CNT n) = counted (s.reg (R.TWI_C_XFER_CNT n)) ∧
        t.outbox = s.outbox ++ .twi n (twiBytes r none false) ::
          (if r.rd ≠ 0 then [.hostWrite (r.host + r.wr.length) (padTo r.rd rd)] else []) ∧
        s.KeepsRegs t [R.TWI_C_STATUS n, R.TWI_C_XFER_CNT n] ∧ t.mem = s.mem) ∧
      (r.rd ≠ 0 → s.traffic = false → ∃ t : State, exec (.twiTransferComplete n none rd) s = .next t ∧ t.twiSt n = 1 ∧
        t.hif.twi = [{ r with back := some (padTo r.rd rd) }] ∧ t.hif.cpls = s.hif.cpls ∧ (t.ring r.ring).busy = (s.ring r.ring).busy ∧
        t.outbox = s.outbox ++ [.twi n (twiBytes r none false)] ∧ s.KeepsRegs t [R.TWI_C_STATUS n, R.TWI_C_XFER_CNT n] ∧ t.mem = s.mem) ∧
      (∃ t : State, exec (.twiTransferComplete n (some k) rd dn) s = .next t ∧ t.twiSt n = 1 ∧ t.hif.twi = [] ∧ (t.ring r.ring).busy = false ∧
        t.hif.cpls = s.hif.cpls ++ [⟨r.ring, r.tag, 0x60, 0x21, k, s.tickNum⟩] ∧ t.flag (F.TWI_C_STATUS_nack n) = true ∧
        t.reg (R.TWI_C_NACK_CNT n) = counted (s.reg (R.TWI_C_NACK_CNT n)) ∧ t.outbox = s.outbox ++ [.twi n (twiBytes r (some k) dn)] ∧
        s.KeepsRegs t [R.TWI_C_STATUS n, R.TWI_C_NACK_CNT n, R.HIF_REJECT_CNT] ∧ t.mem = s.mem) ∧
      (low < s.stretchNs n ∨ h = true → exec (.twiStretchTimeout n low h) s = .next s) ∧
      (s.stretchNs n ≤ low → ∃ t : State, exec (.twiStretchTimeout n low false) s = .next t ∧ t.twiSt n = 3 ∧ t.hif.twi = [] ∧ (t.ring r.ring).busy = false ∧
        t.hif.cpls = s.hif.cpls ++ [⟨r.ring, r.tag, 0x60, 0x22, 0, s.tickNum⟩] ∧ t.flag (F.TWI_C_STATUS_stretch_to n) = true ∧
        s.KeepsRegs t [R.TWI_C_STATUS n, R.HIF_REJECT_CNT] ∧ t.mem = s.mem ∧ t.outbox = s.outbox) ∧
      (∃ t : State, exec (.twiArbitrationLost n) s = .next t ∧ t.twiSt n = 1 ∧ t.hif.twi = [] ∧ (t.ring r.ring).busy = false ∧
        t.hif.cpls = s.hif.cpls ++ [⟨r.ring, r.tag, 0x60, 0x22, 0, s.tickNum⟩] ∧ t.flag (F.TWI_C_STATUS_lost n) = true ∧
        s.KeepsRegs t [R.TWI_C_STATUS n, R.HIF_REJECT_CNT] ∧ t.mem = s.mem ∧ t.outbox = s.outbox) ∧
      (∃ t : State, exec (.controllerProtocolError n h) s = .next t ∧ t.twiSt n = 1 ∧ t.hif.twi = [] ∧ (t.ring r.ring).busy = false ∧
        t.hif.cpls = s.hif.cpls ++ [⟨r.ring, r.tag, 0x60, 0x23, 0, s.tickNum⟩] ∧ t.flag (F.TWI_C_STATUS_proto n) = true ∧
        t.reg (R.TWI_C_PROTO_CNT n) = counted (s.reg (R.TWI_C_PROTO_CNT n)) ∧
        t.outbox = s.outbox ++ (if h then [.twiCond n "STOP"] else []) ∧
        s.KeepsRegs t [R.TWI_C_STATUS n, R.TWI_C_PROTO_CNT n, R.HIF_REJECT_CNT] ∧ t.mem = s.mem)) ∧
    (s.hif.twi = [] → s.drives .twi = true →
      (let read := { s.hif with twiNew := s.hif.twiNew.filter (· ≠ n.val) }
       let cleared := { read with twiClearU := Tbl.set (fun _ => 0) s.hif.twiClearU n s.clk.freeU }
       (s.twiSt n = 1 → s.twiUnread n = false → exec (.twiBusClear n h none) s = .next s) ∧
       ((s.twiSt n = 1 ∧ s.twiUnread n = true) ∨ s.twiSt n = 3 →
        (∃ t : State, exec (.twiBusClear n false none) s = .next t ∧ t.twiSt n = 1 ∧
          s.KeepsRegs t [R.TWI_C_STATUS n] ∧ t.mem = s.mem ∧ t.outbox = s.outbox ∧ t.hif = read) ∧
        (∃ t : State, exec (.twiBusClear n true (some p)) s = .next t ∧ t.twiSt n = 1 ∧
          t.reg (R.TWI_C_CLEAR_CNT n) = counted (s.reg (R.TWI_C_CLEAR_CNT n)) ∧
          t.outbox = s.outbox ++ [.twiCond n "CLEAR", .twiCond n "STOP"] ∧ t.hif = cleared ∧
          s.KeepsRegs t [R.TWI_C_STATUS n, R.TWI_C_CLEAR_CNT n] ∧ t.mem = s.mem) ∧
        (∃ t : State, exec (.twiBusClear n true none) s = .next t ∧ t.twiSt n = 4 ∧
          t.flag (F.TWI_C_STATUS_bus_err n) = true ∧ t.outbox = s.outbox ++ [.twiCond n "CLEAR"] ∧ t.hif = cleared)) ∧
       (s.twiSt n = 4 →
        (s.clearDue n = false → exec (.twiBusClearRetry n none) s = .next s) ∧
        (s.clearDue n = true → (∃ t : State, exec (.twiBusClearRetry n none) s = .next t ∧ t.twiSt n = 4 ∧
          t.flag (F.TWI_C_STATUS_bus_err n) = true ∧
          t.reg (R.TWI_C_CLEAR_CNT n) = counted (s.reg (R.TWI_C_CLEAR_CNT n)) ∧ t.outbox = s.outbox ++ [.twiCond n "CLEAR"] ∧ t.hif = cleared ∧
          s.KeepsRegs t [R.TWI_C_STATUS n, R.TWI_C_CLEAR_CNT n] ∧ t.mem = s.mem) ∧
        (∃ t : State, exec (.twiBusClearRetry n (some p)) s = .next t ∧ t.twiSt n = 1 ∧
          t.outbox = s.outbox ++ [.twiCond n "CLEAR", .twiCond n "STOP"] ∧ t.hif = cleared))))) ∧
    (s.domOn 1 = true → s.hif.twi = [] → ∃ t : State, exec (.twiCfgWrite n w) s = .next t ∧
      t.fld (F.TWI_C_CFG_speed n) = (if bitsOf w 2 1 = 3 then s.fld (F.TWI_C_CFG_speed n) else bitsOf w 2 1) ∧
      t.flag (F.TWI_C_CFG_en n) = w.getLsbD 0 ∧
      (bitsOf w 2 1 ≠ 3 → t.reg (R.TWI_C_TIMING0 n) = (twiTiming (bitsOf w 2 1)).1 ∧
        t.reg (R.TWI_C_TIMING1 n) = (twiTiming (bitsOf w 2 1)).2.1 ∧ t.reg (R.TWI_C_TIMING2 n) = (twiTiming (bitsOf w 2 1)).2.2) ∧
      (bitsOf w 2 1 = 3 → s.KeepsRegs t [R.TWI_C_CFG n, R.TWI_C_STATUS n]) ∧
      (w.getLsbD 0 = false → t.twiSt n = 0) ∧
      (w.getLsbD 0 = true → t.twiSt n = (if s.flag (F.TWI_C_CFG_en n) then s.twiSt n else if s.drives .twi then 1 else 5)) ∧
      (w.getLsbD 0 = true → s.flag (F.TWI_C_CFG_en n) = true → t.hif = s.hif) ∧
      (w.getLsbD 0 = false ∨ s.flag (F.TWI_C_CFG_en n) = false → t.hif = { s.hif with
        twiNew := s.hif.twiNew.filter (· ≠ n.val) ++ (if w.getLsbD 0 = true ∧ s.drives .twi = true then [n.val] else []) }) ∧
      t.mem = s.mem ∧ t.outbox = s.outbox)

/-- R478. While a master is being drained neither reset is carried out, and the request stays; when the last drain completes it is carried out. A cold
reset asked for, alone, together with a warm one, or while the sequence of a warm one runs, is the one carried out, by either command; every
register outside PD_AON is at its reset word after it and the sequence starts again, without the domains whose supply failed. A warm reset,
where no cold one is asked for, releases OWN and starts the drain of every master, and is carried out by the command that comes after their
end (R477; that it takes two commands is the model's reading, log entry 36).
The same holds of the resets at power-on and at the return of VIN. SYS_RESET_REASON is one of the registers of PD_AON that every reset keeps: its set
bits stand, the bits of the requests carried out are set, and of a write of it the bits written 1 clear and the others stand. -/
def Obligations.ResetRequestsAreOrderedAndRemembered : Prop :=
  ∀ (s : State) (m : Fin 17) (n : Nat) (w : Word),
    (s.sram.drain ≠ [] → exec .coldReset s = .next s ∧ exec .warmReset s = .next s) ∧
    (s.sram.drain = [m.val] → s.pwr.offs = [] → ∃ t : State, exec (.drainComplete m n) s = .next t ∧ t.drained = true ∧ t.pwr = s.pwr ∧ t.warmReq = s.warmReq) ∧
    (s.sram.drain = [] → s.pwr.coldReq ≠ 0 → ∃ t : State, exec .coldReset s = .next t ∧ exec .warmReset s = .next t ∧
      t.reg R.SYS_RESET_REASON = s.reg R.SYS_RESET_REASON ||| word s.pwr.coldReq ∧ t.pwr.coldReq = 0 ∧ t.warmReq = 0 ∧
      (∀ o, keptReg o = false → t.reg o = resetWord o) ∧ t.isOwner = false ∧ t.twn.ownOut = false ∧ t.flt.log = s.flt.log ∧
      t.clk.rtcU = s.clk.rtcU ∧
      (∀ d, d < 19 → t.domFault d = (decide (3 ≤ d) && s.domFault d)) ∧
      (s.pwr.pin = false → s.pwr.hot = false → s.pwr.cut = false → t.pwr.seq = (powerOrder.filter fun d => !t.domFault d) ∧
        t.pwr.held = false ∧ t.domBusy 1 = true ∧ ∀ d, 1 ≤ d → t.domOn d = false) ∧
      (s.pwr.pin = true → t.pwr.held = true ∧ t.pwr.seq = [] ∧ ∀ d, 1 ≤ d → t.domOn d = false)) ∧
    (s.sram.drain = [] → s.pwr.coldReq = 0 → s.warmReq ≠ 0 → s.pwr.draining = false → exec .coldReset s = .next s ∧ ∃ t : State,
      exec .warmReset s = .next t ∧ t.pwr.draining = true ∧ t.sram.drain = List.range 17 ∧ t.isOwner = false ∧ t.twn.ownOut = false ∧
      t.warmReq = s.warmReq ∧ t.mem = s.mem ∧ t.reg R.XBR_DRAIN_CNT = word (min ((s.reg R.XBR_DRAIN_CNT).toNat + 17) 0xFFFFFFFF)) ∧
    (s.sram.drain = [] → s.pwr.coldReq = 0 → s.warmReq ≠ 0 → s.pwr.draining = true → exec .coldReset s = .next s ∧ ∃ t : State,
      exec .warmReset s = .next t ∧ t.reg R.SYS_RESET_REASON = s.reg R.SYS_RESET_REASON ||| word s.warmReq ∧ t.warmReq = 0 ∧
      (∀ o, keptReg o = false → isHif o = false → t.reg o = resetWord o) ∧ t.flag F.HIF_STATUS_link_up = s.flag F.HIF_STATUS_link_up ∧
      t.reg R.HIF_CTRL = resetWord R.HIF_CTRL ∧ t.isOwner = false ∧ t.twn.ownOut = false ∧ t.flt.log = s.flt.log ∧
      t.clk.rtcU = s.clk.rtcU) ∧
    keptReg R.SYS_RESET_REASON = true ∧
    (s.pwr.aon = false ∨ s.pwr.cut = true → s.pwr.cut = false ∨ s.pwr.ovp = false → ∃ t : State, exec .powerOnReset s = .next t ∧
      t.reg R.SYS_RESET_REASON = s.reg R.SYS_RESET_REASON ||| word (s.pwr.coldReq ||| 1)) ∧
    (s.pwr.aon = true → s.pwr.cut = true → s.pwr.ovp = true → ∃ t : State, exec .vinReturn s = .next t ∧
      t.reg R.SYS_RESET_REASON = s.reg R.SYS_RESET_REASON ||| word s.pwr.coldReq) ∧
    (s.answers R.SYS_RESET_REASON = true → s.setNow R.SYS_RESET_REASON = 0 → ∃ t : State, exec (.registerWrite (BitVec.ofNat 24 R.SYS_RESET_REASON) w) s = .next t ∧
      t.reg R.SYS_RESET_REASON = s.reg R.SYS_RESET_REASON &&& ~~~(w &&& 0xFF#32) ∧ s.KeepsRegs t [R.SYS_RESET_REASON])

/-- VIN and temperature readings stand in their registers; source 22 follows VIN out of range, 23 and 24 the thresholds; 135 degrees ask for a held
cold reset (R469, R471). VIN lost switches every domain but PD_AON off; with VBAT the retained words and the log stay (R470). A request to switch off is
refused where R472's condition does not hold; PD_HOST not through BAR0 (R473). A released domain has its SRAM zeroed, rows replaced, an engine
without a good spare fenced with cause 6, and the sequence goes on (R406, R473, R475). A domain that is switched off drains its crossbar master, and
its transition ends with that drain (R399, R474). A failed supply goes to FAULT with fault 25, a cluster's engines no longer count as active (R39); of PD_CTRL and
PD_FABRIC a warm reset follows (R474). RESET_N and SYS_CTRL ask for their resets; a held reset ends with its cause (R476). The scan raises present
conditions below level 4, without escalation (R519). That a reset leaves a failed domain out of the sequence is the model's reading (log
entry 47). -/
def Obligations.SuppliesDomainsAndResetSources : Prop :=
  ∀ (s : State) (v : BitVec 12) (tmp : Int) (src : ReqSource) (w dat : Word) (d : Fin 19) (i : Fin 64) (sub row k : Nat) (ks : List Nat),
    (s.pwr.aon = true →
      (∃ t : State, exec (.vinSample v) s = .next t ∧ t.fld F.PWR_VIN_vin = v.toNat ∧ t.flag F.PWR_STATUS_vin_ok = vinIn v.toNat ∧
        s.KeepsRegs t [R.PWR_VIN, R.PWR_STATUS] ∧ t.mem = s.mem) ∧
      (s.domOn 1 = true → s.pwr.held = false → ∃ t : State, exec (.temperatureSample tmp) s = .next t ∧
        (-128 ≤ tmp → tmp ≤ 127 → t.fld F.PWR_TEMP_temp = (wordI tmp).toNat % 256) ∧
        t.condActive 23 = (if (s.tempHi : Int) ≤ tmp then true else if tmp ≤ s.tempHi - 5 then false else s.condActive 23) ∧
        t.condActive 24 = (if 125 ≤ tmp then true else if tmp ≤ 120 then false else s.condActive 24) ∧
        t.flag F.PWR_STATUS_temp_hi = t.condActive 23 ∧ t.flag F.PWR_STATUS_temp_crit = t.condActive 24 ∧ t.mem = s.mem ∧
        (135 ≤ tmp → t.pwr = { s.pwr with temp := tmp, hot := true, coldReq := s.pwr.coldReq ||| 8 }) ∧
        (120 < tmp → tmp < 135 → t.pwr = { s.pwr with temp := tmp }) ∧ (tmp ≤ 120 → t.pwr = { s.pwr with temp := tmp, hot := false })) ∧
      (∃ t : State, exec .resetNAssert s = .next t ∧ t.pwr = { s.pwr with pin := true, coldReq := s.pwr.coldReq ||| 4 } ∧
        s.KeepsRegs t [] ∧ t.mem = s.mem) ∧
      (410 ≤ v.toNat → v.toNat ≤ 1900 → ∀ b : Bool, exec (.vinLoss v b) s = .next s) ∧
      (v.toNat < 410 ∨ 1900 < v.toNat → ∃ t : State, exec (.vinLoss v true) s = .next t ∧ t.flag F.PWR_STATUS_on_vbat = true ∧
        (∀ j, 1 ≤ j → t.domOn j = false) ∧ t.pwr.coldReq = 2 ∧ t.pwr.cut = true ∧
        t.pwr.ovp = decide (1900 < v.toNat) ∧ t.flt.log = s.flt.log ∧ t.clk.rtcU = s.clk.rtcU ∧
        (∀ o, retained o = true → o ≠ R.SYS_BOOT_CTRL → t.reg o = s.reg o) ∧ t.isOwner = false)) ∧
    (s.pwr.held = false → exec .resetNRelease s = .next { s with pwr := { s.pwr with pin := false } }) ∧
    (s.pwr.held = true → s.pwr.hot = false → s.pwr.cut = false → ∃ t : State, exec .resetNRelease s = .next t ∧
      t.pwr.seq = (powerOrder.filter fun j => !decide (3 ≤ j) || !s.domFault j) ∧
      t.pwr.held = false ∧ t.domBusy 1 = true ∧ s.KeepsRegs t [R.PWR_DOM_ON, R.PWR_DOM_BUSY, R.PWR_DOM_FAULT]) ∧
    (v.toNat < 440 → exec (.powerOnReset v) s = .next s) ∧ (1800 ≤ v.toNat → exec (.vinReturn v) s = .next s) ∧
    ((s.pwr.aon = false → s.pwr.cut = false ∨ s.pwr.ovp = false → ∃ t : State, exec .powerOnReset s = .next t ∧ t.pwr.aon = true ∧ t.pwr.cut = false ∧ t.pwr.coldReq = 0 ∧
        t.reg R.SYS_RESET_REASON = s.reg R.SYS_RESET_REASON ||| word (s.pwr.coldReq ||| 1)) ∧
     (s.pwr.aon = true → s.pwr.cut = false → exec .powerOnReset s = .next s ∧ exec .vinReturn s = .next s) ∧
     (s.pwr.aon = true → s.pwr.cut = true → s.pwr.ovp = true → ∃ t : State, exec .vinReturn s = .next t ∧ t.pwr.cut = false ∧
        t.reg R.SYS_RESET_REASON = s.reg R.SYS_RESET_REASON ||| word s.pwr.coldReq ∧ t.flag F.PWR_STATUS_on_vbat = false)) ∧
    (s.domOn 1 = true →
      (vinIn v.toNat = true → exec (.vinOutOfRange v) s = .next s) ∧
      (vinIn v.toNat = false → s.condActive 22 = false → (∀ e ∈ s.flt.ended, e.1 ≠ 22) → ∃ t : State, exec (.vinOutOfRange v) s = .next t ∧ t.condActive 22 = true ∧
        t.latched 22 = true ∧ t.flag F.PWR_STATUS_vin_ok = false ∧ t.mem = s.mem) ∧
      (w.getLsbD 0 = true → bitsOf w 31 16 = 0xA5C3 → ∃ t : State, exec (.warmResetWrite w) s = .next t ∧
        t.warmReq = s.warmReq ||| 32 ∧ s.KeepsRegs t [R.SYS_CTRL] ∧ t.mem = s.mem) ∧
      (w.getLsbD 0 = false ∨ bitsOf w 31 16 ≠ 0xA5C3 → exec (.warmResetWrite w) s = .next s) ∧
      (s.reg R.PWR_DOM_FAULT = 0 → s.reg R.PWR_DOM_BUSY = 0 → s.pwr.seq = [] → 3 ≤ d.val →
        (∀ j, 3 ≤ j → j ≤ 18 → j ≠ d.val → w.getLsbD j = s.flag (domF R.PWR_DOM_REQ j)) →
        w.getLsbD d = !s.flag (domF R.PWR_DOM_REQ d) →
        (w.getLsbD d = true → s.domOn d = false → ∃ t : State, exec (.pwrDomReqWrite src w) s = .next t ∧ t.domBusy d = true ∧
          t.flag (domF R.PWR_DOM_REQ d) = true ∧ s.KeepsRegs t [R.PWR_DOM_REQ, R.PWR_DOM_BUSY]) ∧
        (w.getLsbD d = false → s.domOn d = true →
          (s.offOk d = false → ∃ t : State, exec (.pwrDomReqWrite src w) s = .next t ∧ t.flag (domF R.PWR_DOM_REQ d) = true ∧
            t.flag F.PWR_STATUS_refused = true ∧ t.fld F.PWR_DOM_ERR_domain = d ∧ t.flag F.PWR_DOM_ERR_kind = false ∧
            t.reg R.PWR_REFUSE_CNT = counted (s.reg R.PWR_REFUSE_CNT) ∧
            s.KeepsRegs t [R.PWR_DOM_REQ, R.PWR_STATUS, R.PWR_DOM_ERR, R.PWR_REFUSE_CNT]) ∧
          (s.offOk d = true → (d ≠ 18 ∨ src ≠ .bar0) → ∃ t : State, exec (.pwrDomReqWrite src w) s = .next t ∧ t.domOn d = false ∧
            (∀ j, j < 19 → j ≠ d.val → t.domOn j = s.domOn j) ∧ (∀ o, domainOf o = some d.val → t.reg o = resetWord o) ∧
            (domMaster d = none → t.domBusy d = false ∧ t.pwr.offs = s.pwr.offs) ∧
            (∀ m, domMaster d = some m → t.domBusy d = true ∧ m ∈ t.sram.drain ∧ d.val ∈ t.pwr.offs)) ∧
          (d = 18 → src = .bar0 → ∃ t : State, exec (.pwrDomReqWrite src w) s = .next t ∧ s.KeepsRegs t [] ∧ t.mem = s.mem)))) ∧
    (∀ m : Fin 17, domMaster d = some m.val → s.pwr.offs = [d.val] → s.sram.drain = [m.val] → s.sram.landing = [] → ∃ t : State,
      exec (.drainComplete m k) s = .next t ∧ t.pwr = { s.pwr with offs := [] } ∧ t.domBusy d = s.flag (domF R.PWR_DOM_REQ d) ∧
      s.KeepsRegs t [R.PWR_DOM_BUSY, R.XBR_DRAIN_MAX] ∧ t.mem = s.mem) ∧
    (s.domBusy d = true → d.val ∉ s.pwr.offs → s.tgt = {} → d.val ∉ s.pwr.seq.tail → s.flag (domF R.PWR_DOM_REQ d) = true →
      (∃ t : State, exec (.domainRelease d []) s = .next t ∧ t.domOn d = true ∧ t.domBusy d = false ∧ (∀ a, domMem d a = true → t.byte a = 0) ∧
        (∀ a, domMem d a = false → t.byte a = s.byte a) ∧ (d = 1 → t.pwr.scan = true ∧ t.pwr.boot = .ready) ∧
        (s.pwr.seq = d.val :: k :: ks → k < 19 → isClusterDom k = false → t.pwr.seq = k :: ks ∧ t.domBusy k = true)) ∧
      (subDomain sub = d.val → row < 512 → ∃ t : State, exec (.domainRelease d [(sub, row)]) s = .next t ∧
        t.spares sub = { row0 := some row } ∧ t.domOn d = true) ∧
      (608 ≤ sub → sub < 896 → subDomain sub = d.val → s.unfenced ((sub - 608) / 3) = true → ∃ t : State,
        exec (.domainRelease d [(sub, 512), (sub, 513), (sub, 0)]) s = .next t ∧ t.unfenced ((sub - 608) / 3) = false ∧
        t.flag F.MEM_STATUS_unrep = true ∧ t.latched 3 = true)) ∧
    (d ≠ 0 → s.domBusy d = true ∨ s.domOn d = true → s.domFault d = false → s.tgt = {} → ∃ t : State, exec (.regulatorFault d) s = .next t ∧
      t.domFault d = true ∧ t.fld F.PWR_DOM_ERR_domain = d ∧ t.flag F.PWR_DOM_ERR_kind = true ∧
      t.reg R.PWR_FAULT_CNT = counted (s.reg R.PWR_FAULT_CNT) ∧ t.mem = s.mem ∧ (s.domOn 1 = true → t.latched 25 = true) ∧
      (3 ≤ d.val → t.domOn d = false ∧ t.domBusy d = false) ∧
      (3 ≤ d.val → d.val ≤ 14 → ∀ e < 8, t.active (8 * (d.val - 3) + e) = false) ∧ (d.val < 3 → t.warmReq.testBit 4 = true)) ∧
    (s.pwr.scan = true → exec (.resetConditionScan []) s = .next { s with pwr := { s.pwr with scan := false } } ∧
      (i.val ∈ condSources → s.condActive i = false → ∃ t : State, exec (.resetConditionScan [(i, dat)]) s = .next t ∧
        t.condActive i = true ∧ t.latched i = true ∧ t.unacked i = true ∧ t.pwr.scan = false ∧ t.warmReq = s.warmReq ∧
        t.reg R.FLT_ESC_CNT = s.reg R.FLT_ESC_CNT ∧ t.mem = s.mem))

/-- The boot ROM is ready. An attempt takes slot next where its number, the count of failures, is even, else the other; a failed check counts a failure,
names its reason, raises fault 27 and waits 2^(k-1) s, 60 at most, k the new count; the third failure asserts ALERT_N (R480, R481). An image whose header
is signed with its key and whose primary has its hash (R479) is copied to control SRAM and starts at its entry with SYS_REMAP 1 (R480). After the wait, not before, the next attempt may start; after a boot watchdog a warm reset is asked for
(R482). ok clears the count, releases ALERT_N, makes the running slot next and last_good, and ends a reload, which is counted; fail ends the attempt
with reason 8, the watchdog with 7 (R480, R482). A reload drains the cores' transactions and makes attempts begin; 30 s without ok ask for a warm reset (R485, R488). A core's watchdog, not kicked for its time,
raises fault 26 with its number (R484). That the rows act only in the boot state they belong to is the model's choice (log entry 37). -/
def Obligations.BootAttemptsWaitAndReloadsAreBounded : Prop :=
  ∀ (s : State) (img : BootImage) (core : Fin 2) (u r : Nat), s.domOn 1 = true →
    (s.pwr.boot = .ready → s.mayIssue 12 = true → s.mayIssue 13 = true →
      (s.imageBad img = some r ∨ (s.imageBad img = none ∧ primaryHashOk img = false ∧ r = 6) → ∃ t : State, exec (.bootAttempt img) s = .next t ∧
        t.fld F.SYS_BOOT_STATUS_reason = r ∧
        t.fld F.SYS_BOOT_STATUS_slot = (if s.fails % 2 = 0 then s.fld F.SYS_BOOT_CTRL_next else 1 - s.fld F.SYS_BOOT_CTRL_next) ∧
        t.reg R.SYS_BOOT_FAIL_CNT = counted (s.reg R.SYS_BOOT_FAIL_CNT) ∧ t.flag F.SYS_REMAP_remap = false ∧ t.latched 27 = true ∧
        t.unacked 27 = true ∧
        t.pwr = { s.pwr with boot := .waiting false, waitU := s.clk.freeU + (if 7 ≤ t.fails then 60 else 2 ^ (t.fails - 1)) * secU } ∧
        (s.fails = 2 → .pin "ALERT_N" 0 false ∈ t.outbox) ∧ (s.imageBad img ≠ none → t.mem = s.mem)) ∧
      (s.imageBad img = none → primaryHashOk img = true → s.sram.bad = [] → ∃ t : State, exec (.bootAttempt img) s = .next t ∧
        t.flag F.SYS_REMAP_remap = true ∧ t.reg R.SYS_FW_VERSION = word (leAt img.hdr 8 4) ∧
        t.pwr = { s.pwr with boot := .started, entry := leAt img.hdr 24 4, waitU := s.clk.freeU, kick0 := s.clk.freeU, kick1 := s.clk.freeU } ∧
        t.bytes 0x11000000 (imgPrimary img.hdr) = padTo (imgPrimary img.hdr) img.primary ∧
        s.KeepsMemBut t 0x11000000 (imgPrimary img.hdr) ∧ imgPrimary img.hdr ≤ 0x200000 - 0x40000 ∧
        s.KeepsRegs t [R.SYS_BOOT_STATUS, R.SYS_REMAP, R.SYS_FW_VERSION] ∧ t.outbox = s.outbox)) ∧
    (s.pwr.boot ≠ .ready ∨ s.mayIssue 12 = false ∨ s.mayIssue 13 = false → exec (.bootAttempt img) s = .next s) ∧
    (s.clk.freeU < s.pwr.waitU → exec .bootWaitExpire s = .next s) ∧
    (s.pwr.boot = .waiting false → s.pwr.waitU ≤ s.clk.freeU → exec .bootWaitExpire s = .next { s with pwr := { s.pwr with boot := .ready } }) ∧
    (s.pwr.boot = .waiting true → s.pwr.waitU ≤ s.clk.freeU →
      exec .bootWaitExpire s = .next { s with pwr := { s.pwr with boot := .off }, warmReq := s.warmReq ||| 64 }) ∧
    (s.pwr.boot = .started →
      (∃ t : State, exec .bootOk s = .next t ∧ t.reg R.SYS_BOOT_FAIL_CNT = 0 ∧ t.flag F.SYS_BOOT_CTRL_ok = true ∧
        t.fld F.SYS_BOOT_CTRL_next = s.fld F.SYS_BOOT_STATUS_slot ∧ t.fld F.SYS_BOOT_CTRL_last_good = s.fld F.SYS_BOOT_STATUS_slot ∧
        t.pwr = { s.pwr with boot := .ok, reload := none } ∧ t.mem = s.mem ∧
        (s.pwr.reload = none → t.outbox = (if 3 ≤ s.fails then s.outbox ++ [.pin "ALERT_N" 0 true] else s.outbox) ∧ s.KeepsRegs t [R.SYS_BOOT_FAIL_CNT, R.SYS_BOOT_CTRL]) ∧
        (s.pwr.reload = some u → t.reg R.SYS_RELOAD_CNT = counted (s.reg R.SYS_RELOAD_CNT) ∧ t.flag F.SYS_FW_STATUS_reloading = false)) ∧
      (∃ t : State, exec .bootFailReport s = .next t ∧ t.fld F.SYS_BOOT_STATUS_reason = 8 ∧
        t.reg R.SYS_BOOT_FAIL_CNT = counted (s.reg R.SYS_BOOT_FAIL_CNT) ∧ t.pwr.boot = .waiting false ∧ t.latched 27 = true ∧ t.mem = s.mem) ∧
      (s.bootWdtDue = false → exec .bootWatchdogExpire s = .next s) ∧
      (s.bootWdtDue = true → ∃ t : State, exec .bootWatchdogExpire s = .next t ∧ t.fld F.SYS_BOOT_STATUS_reason = 7 ∧
        t.reg R.SYS_BOOT_FAIL_CNT = counted (s.reg R.SYS_BOOT_FAIL_CNT) ∧ t.pwr.boot = .waiting true ∧ t.latched 27 = true ∧ t.mem = s.mem)) ∧
    (s.pwr.boot ≠ .started → exec .bootOk s = .next s ∧ exec .bootFailReport s = .next s ∧ exec .bootWatchdogExpire s = .next s) ∧
    (∃ t : State, exec .reload s = .next t ∧ t.flag F.SYS_FW_STATUS_reloading = true ∧ t.flag F.SYS_BOOT_CTRL_ok = false ∧
      t.pwr = { s.pwr with boot := .ready, reload := some s.clk.freeU } ∧
      12 ∈ t.sram.drain ∧ 13 ∈ t.sram.drain ∧ s.KeepsRegs t [R.SYS_FW_STATUS, R.SYS_BOOT_CTRL, R.XBR_STATUS, R.XBR_DRAIN_CNT] ∧
      t.mem = s.mem ∧ t.run = s.run ∧ t.clk = s.clk ∧ t.ddr = s.ddr ∧ t.outbox = s.outbox) ∧
    (s.reloadDue = true → exec .reloadTimeout s = .next { s with warmReq := s.warmReq ||| 128 }) ∧
    (s.reloadDue = false → exec .reloadTimeout s = .next s) ∧
    exec (.sysWdtKick core) s = .next { s with pwr := (if core = 0 then { s.pwr with kick0 := s.clk.freeU }
      else { s.pwr with kick1 := s.clk.freeU }) } ∧
    (s.wdtDue core = false → exec (.coreWatchdogExpire core) s = .next s) ∧
    (s.pwr.boot = .started ∨ s.pwr.boot = .ok → s.wdtDue core = true → ∃ t : State, exec (.coreWatchdogExpire core) s = .next t ∧ t.latched 26 = true ∧
      t.unacked 26 = true ∧ t.mem = s.mem ∧ t.run = s.run ∧
      (2 ≤ s.occLevel { src := 26, data := word core } → t.flt.repair = s.flt.repair ++ [(26, word core)])) ∧
    (s.pwr.boot = .ready → exec (.coreWatchdogExpire core) s = .next s)
end

