-- ==== Sys2Proof/Laws/Bits.lean ====
section
/-!
SUPPORT. The laws of bit fields: a field reads back what was written into it, and a write of a field leaves every other alone.
-/

namespace Sys2Proof

theorem testBit_bitsOf (w : Word) (hi lo j : Nat) :
    (bitsOf w hi lo).testBit j = (decide (j < hi + 1 - lo) && w.getLsbD (lo + j)) := by
  simp [bitsOf, Nat.testBit_mod_two_pow, Nat.testBit_shiftRight, BitVec.getLsbD]

theorem getLsbD_setBits (w : Word) (hi lo v i : Nat) (h : i < 32) :
    (setBits w hi lo v).getLsbD i = if lo ≤ i ∧ i ≤ hi then v.testBit (i - lo) else w.getLsbD i := by
  simp only [setBits, BitVec.getLsbD_or, BitVec.getLsbD_and, BitVec.getLsbD_not, BitVec.getLsbD_ofNat, Nat.testBit_shiftLeft,
    Nat.testBit_two_pow_sub_one, h, decide_true, Bool.true_and]
  by_cases h1 : lo ≤ i
  · by_cases h2 : i ≤ hi
    · simp [h1, h2, show i - lo < hi + 1 - lo by omega]
    · simp [h1, h2, show ¬ i - lo < hi + 1 - lo by omega]
  · simp [h1]

/-- A field reads back what was written into it. -/
theorem bitsOf_setBits (w : Word) (hi lo v : Nat) (h : hi < 32) :
    bitsOf (setBits w hi lo v) hi lo = v % 2 ^ (hi + 1 - lo) := by
  apply Nat.eq_of_testBit_eq
  intro j
  rw [testBit_bitsOf, Nat.testBit_mod_two_pow]
  by_cases hj : j < hi + 1 - lo
  · rw [getLsbD_setBits _ _ _ _ _ (by omega), if_pos (by omega)]
    simp [hj]
  · simp [hj]

/-- A write of a field leaves a field above or below it alone. -/
theorem bitsOf_setBits_of_apart (w : Word) (hi lo v hi' lo' : Nat) (h : hi' < 32) (ha : hi < lo' ∨ hi' < lo) :
    bitsOf (setBits w hi lo v) hi' lo' = bitsOf w hi' lo' := by
  apply Nat.eq_of_testBit_eq
  intro j
  simp only [testBit_bitsOf]
  by_cases hj : j < hi' + 1 - lo'
  · rw [getLsbD_setBits _ _ _ _ _ (by omega), if_neg (by omega)]
  · simp [hj]

theorem bitsOf_lt (w : Word) (hi lo : Nat) : bitsOf w hi lo < 2 ^ (hi + 1 - lo) := Nat.mod_lt _ (Nat.two_pow_pos _)

@[simp] theorem bit_eq_one (b : Bool) : (bit b = 1) = (b = true) := by cases b <;> simp [bit]

end Sys2Proof
end

