-- ==== Sys2Proof/Laws/State.lean ====
section
/-!
SUPPORT. What each plain update of the state keeps: one law per field and update, so that no later proof unfolds a record
update; and what each of them writes.
-/

namespace Sys2Proof.Machine

section
variable (s : State) (o : Nat) (w : Word)

@[simp] theorem State.put_sets : (s.put o w).sets = s.sets := rfl
@[simp] theorem State.put_now : (s.put o w).now = s.now := rfl
@[simp] theorem State.put_hold : (s.put o w).hold = s.hold := rfl
@[simp] theorem State.put_whold : (s.put o w).whold = s.whold := rfl
@[simp] theorem State.put_applied : (s.put o w).applied = s.applied := rfl
@[simp] theorem State.put_lastRead : (s.put o w).lastRead = s.lastRead := rfl
@[simp] theorem State.put_mem : (s.put o w).mem = s.mem := rfl
@[simp] theorem State.put_moduleId : (s.put o w).moduleId = s.moduleId := rfl
@[simp] theorem State.put_pref : (s.put o w).pref = s.pref := rfl
@[simp] theorem State.put_twiAddr : (s.put o w).twiAddr = s.twiAddr := rfl
@[simp] theorem State.put_testMode : (s.put o w).testMode = s.testMode := rfl
@[simp] theorem State.put_bootKeys : (s.put o w).bootKeys = s.bootKeys := rfl
@[simp] theorem State.put_clk : (s.put o w).clk = s.clk := rfl
@[simp] theorem State.put_clkx : (s.put o w).clkx = s.clkx := rfl
@[simp] theorem State.put_run : (s.put o w).run = s.run := rfl
@[simp] theorem State.put_flt : (s.put o w).flt = s.flt := rfl
@[simp] theorem State.put_warmReq : (s.put o w).warmReq = s.warmReq := rfl
@[simp] theorem State.put_hif : (s.put o w).hif = s.hif := rfl
@[simp] theorem State.put_sched : (s.put o w).sched = s.sched := rfl
@[simp] theorem State.put_fab : (s.put o w).fab = s.fab := rfl
@[simp] theorem State.put_eng : (s.put o w).eng = s.eng := rfl
@[simp] theorem State.put_mix : (s.put o w).mix = s.mix := rfl
@[simp] theorem State.put_str : (s.put o w).str = s.str := rfl
@[simp] theorem State.put_tdm : (s.put o w).tdm = s.tdm := rfl
@[simp] theorem State.put_amp : (s.put o w).amp = s.amp := rfl
@[simp] theorem State.put_twn : (s.put o w).twn = s.twn := rfl
@[simp] theorem State.put_eth : (s.put o w).eth = s.eth := rfl
@[simp] theorem State.put_sram : (s.put o w).sram = s.sram := rfl
@[simp] theorem State.put_ddr : (s.put o w).ddr = s.ddr := rfl
@[simp] theorem State.put_tgt : (s.put o w).tgt = s.tgt := rfl
@[simp] theorem State.put_pwr : (s.put o w).pwr = s.pwr := rfl
@[simp] theorem State.put_pending : (s.put o w).pending = s.pending := rfl
@[simp] theorem State.put_outbox : (s.put o w).outbox = s.outbox := rfl
@[simp] theorem State.put_fresh : (s.put o w).fresh = s.fresh := rfl

end

section
variable (s : State) (f : Fld) (v : Nat)

@[simp] theorem State.setFld_sets : (s.setFld f v).sets = s.sets := rfl
@[simp] theorem State.setFld_now : (s.setFld f v).now = s.now := rfl
@[simp] theorem State.setFld_hold : (s.setFld f v).hold = s.hold := rfl
@[simp] theorem State.setFld_whold : (s.setFld f v).whold = s.whold := rfl
@[simp] theorem State.setFld_applied : (s.setFld f v).applied = s.applied := rfl
@[simp] theorem State.setFld_lastRead : (s.setFld f v).lastRead = s.lastRead := rfl
@[simp] theorem State.setFld_mem : (s.setFld f v).mem = s.mem := rfl
@[simp] theorem State.setFld_moduleId : (s.setFld f v).moduleId = s.moduleId := rfl
@[simp] theorem State.setFld_pref : (s.setFld f v).pref = s.pref := rfl
@[simp] theorem State.setFld_twiAddr : (s.setFld f v).twiAddr = s.twiAddr := rfl
@[simp] theorem State.setFld_testMode : (s.setFld f v).testMode = s.testMode := rfl
@[simp] theorem State.setFld_bootKeys : (s.setFld f v).bootKeys = s.bootKeys := rfl
@[simp] theorem State.setFld_clk : (s.setFld f v).clk = s.clk := rfl
@[simp] theorem State.setFld_clkx : (s.setFld f v).clkx = s.clkx := rfl
@[simp] theorem State.setFld_run : (s.setFld f v).run = s.run := rfl
@[simp] theorem State.setFld_flt : (s.setFld f v).flt = s.flt := rfl
@[simp] theorem State.setFld_warmReq : (s.setFld f v).warmReq = s.warmReq := rfl
@[simp] theorem State.setFld_hif : (s.setFld f v).hif = s.hif := rfl
@[simp] theorem State.setFld_sched : (s.setFld f v).sched = s.sched := rfl
@[simp] theorem State.setFld_fab : (s.setFld f v).fab = s.fab := rfl
@[simp] theorem State.setFld_eng : (s.setFld f v).eng = s.eng := rfl
@[simp] theorem State.setFld_mix : (s.setFld f v).mix = s.mix := rfl
@[simp] theorem State.setFld_str : (s.setFld f v).str = s.str := rfl
@[simp] theorem State.setFld_tdm : (s.setFld f v).tdm = s.tdm := rfl
@[simp] theorem State.setFld_amp : (s.setFld f v).amp = s.amp := rfl
@[simp] theorem State.setFld_twn : (s.setFld f v).twn = s.twn := rfl
@[simp] theorem State.setFld_eth : (s.setFld f v).eth = s.eth := rfl
@[simp] theorem State.setFld_sram : (s.setFld f v).sram = s.sram := rfl
@[simp] theorem State.setFld_ddr : (s.setFld f v).ddr = s.ddr := rfl
@[simp] theorem State.setFld_tgt : (s.setFld f v).tgt = s.tgt := rfl
@[simp] theorem State.setFld_pwr : (s.setFld f v).pwr = s.pwr := rfl
@[simp] theorem State.setFld_pending : (s.setFld f v).pending = s.pending := rfl
@[simp] theorem State.setFld_outbox : (s.setFld f v).outbox = s.outbox := rfl
@[simp] theorem State.setFld_fresh : (s.setFld f v).fresh = s.fresh := rfl

end

section
variable (s : State) (f : Fld) (b : Bool)

@[simp] theorem State.setFlag_now : (s.setFlag f b).now = s.now := rfl
@[simp] theorem State.setFlag_hold : (s.setFlag f b).hold = s.hold := rfl
@[simp] theorem State.setFlag_whold : (s.setFlag f b).whold = s.whold := rfl
@[simp] theorem State.setFlag_applied : (s.setFlag f b).applied = s.applied := rfl
@[simp] theorem State.setFlag_lastRead : (s.setFlag f b).lastRead = s.lastRead := rfl
@[simp] theorem State.setFlag_mem : (s.setFlag f b).mem = s.mem := rfl
@[simp] theorem State.setFlag_moduleId : (s.setFlag f b).moduleId = s.moduleId := rfl
@[simp] theorem State.setFlag_pref : (s.setFlag f b).pref = s.pref := rfl
@[simp] theorem State.setFlag_twiAddr : (s.setFlag f b).twiAddr = s.twiAddr := rfl
@[simp] theorem State.setFlag_testMode : (s.setFlag f b).testMode = s.testMode := rfl
@[simp] theorem State.setFlag_bootKeys : (s.setFlag f b).bootKeys = s.bootKeys := rfl
@[simp] theorem State.setFlag_clk : (s.setFlag f b).clk = s.clk := rfl
@[simp] theorem State.setFlag_clkx : (s.setFlag f b).clkx = s.clkx := rfl
@[simp] theorem State.setFlag_run : (s.setFlag f b).run = s.run := rfl
@[simp] theorem State.setFlag_flt : (s.setFlag f b).flt = s.flt := rfl
@[simp] theorem State.setFlag_warmReq : (s.setFlag f b).warmReq = s.warmReq := rfl
@[simp] theorem State.setFlag_hif : (s.setFlag f b).hif = s.hif := rfl
@[simp] theorem State.setFlag_sched : (s.setFlag f b).sched = s.sched := rfl
@[simp] theorem State.setFlag_fab : (s.setFlag f b).fab = s.fab := rfl
@[simp] theorem State.setFlag_eng : (s.setFlag f b).eng = s.eng := rfl
@[simp] theorem State.setFlag_mix : (s.setFlag f b).mix = s.mix := rfl
@[simp] theorem State.setFlag_str : (s.setFlag f b).str = s.str := rfl
@[simp] theorem State.setFlag_tdm : (s.setFlag f b).tdm = s.tdm := rfl
@[simp] theorem State.setFlag_amp : (s.setFlag f b).amp = s.amp := rfl
@[simp] theorem State.setFlag_twn : (s.setFlag f b).twn = s.twn := rfl
@[simp] theorem State.setFlag_eth : (s.setFlag f b).eth = s.eth := rfl
@[simp] theorem State.setFlag_sram : (s.setFlag f b).sram = s.sram := rfl
@[simp] theorem State.setFlag_ddr : (s.setFlag f b).ddr = s.ddr := rfl
@[simp] theorem State.setFlag_tgt : (s.setFlag f b).tgt = s.tgt := rfl
@[simp] theorem State.setFlag_pwr : (s.setFlag f b).pwr = s.pwr := rfl
@[simp] theorem State.setFlag_pending : (s.setFlag f b).pending = s.pending := rfl
@[simp] theorem State.setFlag_outbox : (s.setFlag f b).outbox = s.outbox := rfl
@[simp] theorem State.setFlag_fresh : (s.setFlag f b).fresh = s.fresh := rfl

end

section
variable (s : State) (f : Fld) (v : Nat)

@[simp] theorem State.setSeen_now : (s.setSeen f v).now = s.now := rfl
@[simp] theorem State.setSeen_hold : (s.setSeen f v).hold = s.hold := rfl
@[simp] theorem State.setSeen_whold : (s.setSeen f v).whold = s.whold := rfl
@[simp] theorem State.setSeen_applied : (s.setSeen f v).applied = s.applied := rfl
@[simp] theorem State.setSeen_lastRead : (s.setSeen f v).lastRead = s.lastRead := rfl
@[simp] theorem State.setSeen_mem : (s.setSeen f v).mem = s.mem := rfl
@[simp] theorem State.setSeen_moduleId : (s.setSeen f v).moduleId = s.moduleId := rfl
@[simp] theorem State.setSeen_pref : (s.setSeen f v).pref = s.pref := rfl
@[simp] theorem State.setSeen_twiAddr : (s.setSeen f v).twiAddr = s.twiAddr := rfl
@[simp] theorem State.setSeen_testMode : (s.setSeen f v).testMode = s.testMode := rfl
@[simp] theorem State.setSeen_bootKeys : (s.setSeen f v).bootKeys = s.bootKeys := rfl
@[simp] theorem State.setSeen_clk : (s.setSeen f v).clk = s.clk := rfl
@[simp] theorem State.setSeen_clkx : (s.setSeen f v).clkx = s.clkx := rfl
@[simp] theorem State.setSeen_run : (s.setSeen f v).run = s.run := rfl
@[simp] theorem State.setSeen_flt : (s.setSeen f v).flt = s.flt := rfl
@[simp] theorem State.setSeen_warmReq : (s.setSeen f v).warmReq = s.warmReq := rfl
@[simp] theorem State.setSeen_hif : (s.setSeen f v).hif = s.hif := rfl
@[simp] theorem State.setSeen_sched : (s.setSeen f v).sched = s.sched := rfl
@[simp] theorem State.setSeen_fab : (s.setSeen f v).fab = s.fab := rfl
@[simp] theorem State.setSeen_eng : (s.setSeen f v).eng = s.eng := rfl
@[simp] theorem State.setSeen_mix : (s.setSeen f v).mix = s.mix := rfl
@[simp] theorem State.setSeen_str : (s.setSeen f v).str = s.str := rfl
@[simp] theorem State.setSeen_tdm : (s.setSeen f v).tdm = s.tdm := rfl
@[simp] theorem State.setSeen_amp : (s.setSeen f v).amp = s.amp := rfl
@[simp] theorem State.setSeen_twn : (s.setSeen f v).twn = s.twn := rfl
@[simp] theorem State.setSeen_eth : (s.setSeen f v).eth = s.eth := rfl
@[simp] theorem State.setSeen_sram : (s.setSeen f v).sram = s.sram := rfl
@[simp] theorem State.setSeen_ddr : (s.setSeen f v).ddr = s.ddr := rfl
@[simp] theorem State.setSeen_tgt : (s.setSeen f v).tgt = s.tgt := rfl
@[simp] theorem State.setSeen_pwr : (s.setSeen f v).pwr = s.pwr := rfl
@[simp] theorem State.setSeen_pending : (s.setSeen f v).pending = s.pending := rfl
@[simp] theorem State.setSeen_outbox : (s.setSeen f v).outbox = s.outbox := rfl
@[simp] theorem State.setSeen_fresh : (s.setSeen f v).fresh = s.fresh := rfl

end

section
variable (s : State) (o n : Nat)

@[simp] theorem State.countBy_sets : (s.countBy o n).sets = s.sets := rfl
@[simp] theorem State.countBy_now : (s.countBy o n).now = s.now := rfl
@[simp] theorem State.countBy_hold : (s.countBy o n).hold = s.hold := rfl
@[simp] theorem State.countBy_whold : (s.countBy o n).whold = s.whold := rfl
@[simp] theorem State.countBy_applied : (s.countBy o n).applied = s.applied := rfl
@[simp] theorem State.countBy_lastRead : (s.countBy o n).lastRead = s.lastRead := rfl
@[simp] theorem State.countBy_mem : (s.countBy o n).mem = s.mem := rfl
@[simp] theorem State.countBy_moduleId : (s.countBy o n).moduleId = s.moduleId := rfl
@[simp] theorem State.countBy_pref : (s.countBy o n).pref = s.pref := rfl
@[simp] theorem State.countBy_twiAddr : (s.countBy o n).twiAddr = s.twiAddr := rfl
@[simp] theorem State.countBy_testMode : (s.countBy o n).testMode = s.testMode := rfl
@[simp] theorem State.countBy_bootKeys : (s.countBy o n).bootKeys = s.bootKeys := rfl
@[simp] theorem State.countBy_clk : (s.countBy o n).clk = s.clk := rfl
@[simp] theorem State.countBy_clkx : (s.countBy o n).clkx = s.clkx := rfl
@[simp] theorem State.countBy_run : (s.countBy o n).run = s.run := rfl
@[simp] theorem State.countBy_flt : (s.countBy o n).flt = s.flt := rfl
@[simp] theorem State.countBy_warmReq : (s.countBy o n).warmReq = s.warmReq := rfl
@[simp] theorem State.countBy_hif : (s.countBy o n).hif = s.hif := rfl
@[simp] theorem State.countBy_sched : (s.countBy o n).sched = s.sched := rfl
@[simp] theorem State.countBy_fab : (s.countBy o n).fab = s.fab := rfl
@[simp] theorem State.countBy_eng : (s.countBy o n).eng = s.eng := rfl
@[simp] theorem State.countBy_mix : (s.countBy o n).mix = s.mix := rfl
@[simp] theorem State.countBy_str : (s.countBy o n).str = s.str := rfl
@[simp] theorem State.countBy_tdm : (s.countBy o n).tdm = s.tdm := rfl
@[simp] theorem State.countBy_amp : (s.countBy o n).amp = s.amp := rfl
@[simp] theorem State.countBy_twn : (s.countBy o n).twn = s.twn := rfl
@[simp] theorem State.countBy_eth : (s.countBy o n).eth = s.eth := rfl
@[simp] theorem State.countBy_sram : (s.countBy o n).sram = s.sram := rfl
@[simp] theorem State.countBy_ddr : (s.countBy o n).ddr = s.ddr := rfl
@[simp] theorem State.countBy_tgt : (s.countBy o n).tgt = s.tgt := rfl
@[simp] theorem State.countBy_pwr : (s.countBy o n).pwr = s.pwr := rfl
@[simp] theorem State.countBy_pending : (s.countBy o n).pending = s.pending := rfl
@[simp] theorem State.countBy_outbox : (s.countBy o n).outbox = s.outbox := rfl
@[simp] theorem State.countBy_fresh : (s.countBy o n).fresh = s.fresh := rfl

end

section
variable (s : State) (o : Nat)

@[simp] theorem State.count_sets : (s.count o).sets = s.sets := rfl
@[simp] theorem State.count_now : (s.count o).now = s.now := rfl
@[simp] theorem State.count_hold : (s.count o).hold = s.hold := rfl
@[simp] theorem State.count_whold : (s.count o).whold = s.whold := rfl
@[simp] theorem State.count_applied : (s.count o).applied = s.applied := rfl
@[simp] theorem State.count_lastRead : (s.count o).lastRead = s.lastRead := rfl
@[simp] theorem State.count_mem : (s.count o).mem = s.mem := rfl
@[simp] theorem State.count_moduleId : (s.count o).moduleId = s.moduleId := rfl
@[simp] theorem State.count_pref : (s.count o).pref = s.pref := rfl
@[simp] theorem State.count_twiAddr : (s.count o).twiAddr = s.twiAddr := rfl
@[simp] theorem State.count_testMode : (s.count o).testMode = s.testMode := rfl
@[simp] theorem State.count_bootKeys : (s.count o).bootKeys = s.bootKeys := rfl
@[simp] theorem State.count_clk : (s.count o).clk = s.clk := rfl
@[simp] theorem State.count_clkx : (s.count o).clkx = s.clkx := rfl
@[simp] theorem State.count_run : (s.count o).run = s.run := rfl
@[simp] theorem State.count_flt : (s.count o).flt = s.flt := rfl
@[simp] theorem State.count_warmReq : (s.count o).warmReq = s.warmReq := rfl
@[simp] theorem State.count_hif : (s.count o).hif = s.hif := rfl
@[simp] theorem State.count_sched : (s.count o).sched = s.sched := rfl
@[simp] theorem State.count_fab : (s.count o).fab = s.fab := rfl
@[simp] theorem State.count_eng : (s.count o).eng = s.eng := rfl
@[simp] theorem State.count_mix : (s.count o).mix = s.mix := rfl
@[simp] theorem State.count_str : (s.count o).str = s.str := rfl
@[simp] theorem State.count_tdm : (s.count o).tdm = s.tdm := rfl
@[simp] theorem State.count_amp : (s.count o).amp = s.amp := rfl
@[simp] theorem State.count_twn : (s.count o).twn = s.twn := rfl
@[simp] theorem State.count_eth : (s.count o).eth = s.eth := rfl
@[simp] theorem State.count_sram : (s.count o).sram = s.sram := rfl
@[simp] theorem State.count_ddr : (s.count o).ddr = s.ddr := rfl
@[simp] theorem State.count_tgt : (s.count o).tgt = s.tgt := rfl
@[simp] theorem State.count_pwr : (s.count o).pwr = s.pwr := rfl
@[simp] theorem State.count_pending : (s.count o).pending = s.pending := rfl
@[simp] theorem State.count_outbox : (s.count o).outbox = s.outbox := rfl
@[simp] theorem State.count_fresh : (s.count o).fresh = s.fresh := rfl

end

section
variable (s : State) (lo hi v : Nat)

@[simp] theorem State.putPair_sets : (s.putPair lo hi v).sets = s.sets := rfl
@[simp] theorem State.putPair_now : (s.putPair lo hi v).now = s.now := rfl
@[simp] theorem State.putPair_hold : (s.putPair lo hi v).hold = s.hold := rfl
@[simp] theorem State.putPair_whold : (s.putPair lo hi v).whold = s.whold := rfl
@[simp] theorem State.putPair_applied : (s.putPair lo hi v).applied = s.applied := rfl
@[simp] theorem State.putPair_lastRead : (s.putPair lo hi v).lastRead = s.lastRead := rfl
@[simp] theorem State.putPair_mem : (s.putPair lo hi v).mem = s.mem := rfl
@[simp] theorem State.putPair_moduleId : (s.putPair lo hi v).moduleId = s.moduleId := rfl
@[simp] theorem State.putPair_pref : (s.putPair lo hi v).pref = s.pref := rfl
@[simp] theorem State.putPair_twiAddr : (s.putPair lo hi v).twiAddr = s.twiAddr := rfl
@[simp] theorem State.putPair_testMode : (s.putPair lo hi v).testMode = s.testMode := rfl
@[simp] theorem State.putPair_bootKeys : (s.putPair lo hi v).bootKeys = s.bootKeys := rfl
@[simp] theorem State.putPair_clk : (s.putPair lo hi v).clk = s.clk := rfl
@[simp] theorem State.putPair_clkx : (s.putPair lo hi v).clkx = s.clkx := rfl
@[simp] theorem State.putPair_run : (s.putPair lo hi v).run = s.run := rfl
@[simp] theorem State.putPair_flt : (s.putPair lo hi v).flt = s.flt := rfl
@[simp] theorem State.putPair_warmReq : (s.putPair lo hi v).warmReq = s.warmReq := rfl
@[simp] theorem State.putPair_hif : (s.putPair lo hi v).hif = s.hif := rfl
@[simp] theorem State.putPair_sched : (s.putPair lo hi v).sched = s.sched := rfl
@[simp] theorem State.putPair_fab : (s.putPair lo hi v).fab = s.fab := rfl
@[simp] theorem State.putPair_eng : (s.putPair lo hi v).eng = s.eng := rfl
@[simp] theorem State.putPair_mix : (s.putPair lo hi v).mix = s.mix := rfl
@[simp] theorem State.putPair_str : (s.putPair lo hi v).str = s.str := rfl
@[simp] theorem State.putPair_tdm : (s.putPair lo hi v).tdm = s.tdm := rfl
@[simp] theorem State.putPair_amp : (s.putPair lo hi v).amp = s.amp := rfl
@[simp] theorem State.putPair_twn : (s.putPair lo hi v).twn = s.twn := rfl
@[simp] theorem State.putPair_eth : (s.putPair lo hi v).eth = s.eth := rfl
@[simp] theorem State.putPair_sram : (s.putPair lo hi v).sram = s.sram := rfl
@[simp] theorem State.putPair_ddr : (s.putPair lo hi v).ddr = s.ddr := rfl
@[simp] theorem State.putPair_tgt : (s.putPair lo hi v).tgt = s.tgt := rfl
@[simp] theorem State.putPair_pwr : (s.putPair lo hi v).pwr = s.pwr := rfl
@[simp] theorem State.putPair_pending : (s.putPair lo hi v).pending = s.pending := rfl
@[simp] theorem State.putPair_outbox : (s.putPair lo hi v).outbox = s.outbox := rfl
@[simp] theorem State.putPair_fresh : (s.putPair lo hi v).fresh = s.fresh := rfl

end

section
variable (s : State) (hi : Nat) (w : Word)

@[simp] theorem State.holdHi_regs : (s.holdHi hi w).regs = s.regs := rfl
@[simp] theorem State.holdHi_sets : (s.holdHi hi w).sets = s.sets := rfl
@[simp] theorem State.holdHi_now : (s.holdHi hi w).now = s.now := rfl
@[simp] theorem State.holdHi_hold : (s.holdHi hi w).hold = s.hold := rfl
@[simp] theorem State.holdHi_applied : (s.holdHi hi w).applied = s.applied := rfl
@[simp] theorem State.holdHi_lastRead : (s.holdHi hi w).lastRead = s.lastRead := rfl
@[simp] theorem State.holdHi_mem : (s.holdHi hi w).mem = s.mem := rfl
@[simp] theorem State.holdHi_moduleId : (s.holdHi hi w).moduleId = s.moduleId := rfl
@[simp] theorem State.holdHi_pref : (s.holdHi hi w).pref = s.pref := rfl
@[simp] theorem State.holdHi_twiAddr : (s.holdHi hi w).twiAddr = s.twiAddr := rfl
@[simp] theorem State.holdHi_testMode : (s.holdHi hi w).testMode = s.testMode := rfl
@[simp] theorem State.holdHi_bootKeys : (s.holdHi hi w).bootKeys = s.bootKeys := rfl
@[simp] theorem State.holdHi_clk : (s.holdHi hi w).clk = s.clk := rfl
@[simp] theorem State.holdHi_clkx : (s.holdHi hi w).clkx = s.clkx := rfl
@[simp] theorem State.holdHi_run : (s.holdHi hi w).run = s.run := rfl
@[simp] theorem State.holdHi_flt : (s.holdHi hi w).flt = s.flt := rfl
@[simp] theorem State.holdHi_warmReq : (s.holdHi hi w).warmReq = s.warmReq := rfl
@[simp] theorem State.holdHi_hif : (s.holdHi hi w).hif = s.hif := rfl
@[simp] theorem State.holdHi_sched : (s.holdHi hi w).sched = s.sched := rfl
@[simp] theorem State.holdHi_fab : (s.holdHi hi w).fab = s.fab := rfl
@[simp] theorem State.holdHi_eng : (s.holdHi hi w).eng = s.eng := rfl
@[simp] theorem State.holdHi_mix : (s.holdHi hi w).mix = s.mix := rfl
@[simp] theorem State.holdHi_str : (s.holdHi hi w).str = s.str := rfl
@[simp] theorem State.holdHi_tdm : (s.holdHi hi w).tdm = s.tdm := rfl
@[simp] theorem State.holdHi_amp : (s.holdHi hi w).amp = s.amp := rfl
@[simp] theorem State.holdHi_twn : (s.holdHi hi w).twn = s.twn := rfl
@[simp] theorem State.holdHi_eth : (s.holdHi hi w).eth = s.eth := rfl
@[simp] theorem State.holdHi_sram : (s.holdHi hi w).sram = s.sram := rfl
@[simp] theorem State.holdHi_ddr : (s.holdHi hi w).ddr = s.ddr := rfl
@[simp] theorem State.holdHi_tgt : (s.holdHi hi w).tgt = s.tgt := rfl
@[simp] theorem State.holdHi_pwr : (s.holdHi hi w).pwr = s.pwr := rfl
@[simp] theorem State.holdHi_pending : (s.holdHi hi w).pending = s.pending := rfl
@[simp] theorem State.holdHi_outbox : (s.holdHi hi w).outbox = s.outbox := rfl
@[simp] theorem State.holdHi_fresh : (s.holdHi hi w).fresh = s.fresh := rfl

end

section
variable (s : State) (lo hi : Nat) (w : Word)

@[simp] theorem State.putLo_sets : (s.putLo lo hi w).sets = s.sets := rfl
@[simp] theorem State.putLo_now : (s.putLo lo hi w).now = s.now := rfl
@[simp] theorem State.putLo_hold : (s.putLo lo hi w).hold = s.hold := rfl
@[simp] theorem State.putLo_applied : (s.putLo lo hi w).applied = s.applied := rfl
@[simp] theorem State.putLo_lastRead : (s.putLo lo hi w).lastRead = s.lastRead := rfl
@[simp] theorem State.putLo_mem : (s.putLo lo hi w).mem = s.mem := rfl
@[simp] theorem State.putLo_moduleId : (s.putLo lo hi w).moduleId = s.moduleId := rfl
@[simp] theorem State.putLo_pref : (s.putLo lo hi w).pref = s.pref := rfl
@[simp] theorem State.putLo_twiAddr : (s.putLo lo hi w).twiAddr = s.twiAddr := rfl
@[simp] theorem State.putLo_testMode : (s.putLo lo hi w).testMode = s.testMode := rfl
@[simp] theorem State.putLo_bootKeys : (s.putLo lo hi w).bootKeys = s.bootKeys := rfl
@[simp] theorem State.putLo_clk : (s.putLo lo hi w).clk = s.clk := rfl
@[simp] theorem State.putLo_clkx : (s.putLo lo hi w).clkx = s.clkx := rfl
@[simp] theorem State.putLo_run : (s.putLo lo hi w).run = s.run := rfl
@[simp] theorem State.putLo_flt : (s.putLo lo hi w).flt = s.flt := rfl
@[simp] theorem State.putLo_warmReq : (s.putLo lo hi w).warmReq = s.warmReq := rfl
@[simp] theorem State.putLo_hif : (s.putLo lo hi w).hif = s.hif := rfl
@[simp] theorem State.putLo_sched : (s.putLo lo hi w).sched = s.sched := rfl
@[simp] theorem State.putLo_fab : (s.putLo lo hi w).fab = s.fab := rfl
@[simp] theorem State.putLo_eng : (s.putLo lo hi w).eng = s.eng := rfl
@[simp] theorem State.putLo_mix : (s.putLo lo hi w).mix = s.mix := rfl
@[simp] theorem State.putLo_str : (s.putLo lo hi w).str = s.str := rfl
@[simp] theorem State.putLo_tdm : (s.putLo lo hi w).tdm = s.tdm := rfl
@[simp] theorem State.putLo_amp : (s.putLo lo hi w).amp = s.amp := rfl
@[simp] theorem State.putLo_twn : (s.putLo lo hi w).twn = s.twn := rfl
@[simp] theorem State.putLo_eth : (s.putLo lo hi w).eth = s.eth := rfl
@[simp] theorem State.putLo_sram : (s.putLo lo hi w).sram = s.sram := rfl
@[simp] theorem State.putLo_ddr : (s.putLo lo hi w).ddr = s.ddr := rfl
@[simp] theorem State.putLo_tgt : (s.putLo lo hi w).tgt = s.tgt := rfl
@[simp] theorem State.putLo_pwr : (s.putLo lo hi w).pwr = s.pwr := rfl
@[simp] theorem State.putLo_pending : (s.putLo lo hi w).pending = s.pending := rfl
@[simp] theorem State.putLo_outbox : (s.putLo lo hi w).outbox = s.outbox := rfl
@[simp] theorem State.putLo_fresh : (s.putLo lo hi w).fresh = s.fresh := rfl

end

section
variable (s : State) (o : Nat) (w : Word)

@[simp] theorem State.putApp_regs : (s.putApp o w).regs = s.regs := rfl
@[simp] theorem State.putApp_sets : (s.putApp o w).sets = s.sets := rfl
@[simp] theorem State.putApp_now : (s.putApp o w).now = s.now := rfl
@[simp] theorem State.putApp_hold : (s.putApp o w).hold = s.hold := rfl
@[simp] theorem State.putApp_whold : (s.putApp o w).whold = s.whold := rfl
@[simp] theorem State.putApp_lastRead : (s.putApp o w).lastRead = s.lastRead := rfl
@[simp] theorem State.putApp_mem : (s.putApp o w).mem = s.mem := rfl
@[simp] theorem State.putApp_moduleId : (s.putApp o w).moduleId = s.moduleId := rfl
@[simp] theorem State.putApp_pref : (s.putApp o w).pref = s.pref := rfl
@[simp] theorem State.putApp_twiAddr : (s.putApp o w).twiAddr = s.twiAddr := rfl
@[simp] theorem State.putApp_testMode : (s.putApp o w).testMode = s.testMode := rfl
@[simp] theorem State.putApp_bootKeys : (s.putApp o w).bootKeys = s.bootKeys := rfl
@[simp] theorem State.putApp_clk : (s.putApp o w).clk = s.clk := rfl
@[simp] theorem State.putApp_clkx : (s.putApp o w).clkx = s.clkx := rfl
@[simp] theorem State.putApp_run : (s.putApp o w).run = s.run := rfl
@[simp] theorem State.putApp_flt : (s.putApp o w).flt = s.flt := rfl
@[simp] theorem State.putApp_warmReq : (s.putApp o w).warmReq = s.warmReq := rfl
@[simp] theorem State.putApp_hif : (s.putApp o w).hif = s.hif := rfl
@[simp] theorem State.putApp_sched : (s.putApp o w).sched = s.sched := rfl
@[simp] theorem State.putApp_fab : (s.putApp o w).fab = s.fab := rfl
@[simp] theorem State.putApp_eng : (s.putApp o w).eng = s.eng := rfl
@[simp] theorem State.putApp_mix : (s.putApp o w).mix = s.mix := rfl
@[simp] theorem State.putApp_str : (s.putApp o w).str = s.str := rfl
@[simp] theorem State.putApp_tdm : (s.putApp o w).tdm = s.tdm := rfl
@[simp] theorem State.putApp_amp : (s.putApp o w).amp = s.amp := rfl
@[simp] theorem State.putApp_twn : (s.putApp o w).twn = s.twn := rfl
@[simp] theorem State.putApp_eth : (s.putApp o w).eth = s.eth := rfl
@[simp] theorem State.putApp_sram : (s.putApp o w).sram = s.sram := rfl
@[simp] theorem State.putApp_ddr : (s.putApp o w).ddr = s.ddr := rfl
@[simp] theorem State.putApp_tgt : (s.putApp o w).tgt = s.tgt := rfl
@[simp] theorem State.putApp_pwr : (s.putApp o w).pwr = s.pwr := rfl
@[simp] theorem State.putApp_pending : (s.putApp o w).pending = s.pending := rfl
@[simp] theorem State.putApp_outbox : (s.putApp o w).outbox = s.outbox := rfl
@[simp] theorem State.putApp_fresh : (s.putApp o w).fresh = s.fresh := rfl

end

section
variable (s : State) (a : Nat) (b : Byte)

@[simp] theorem State.putByte_regs : (s.putByte a b).regs = s.regs := rfl
@[simp] theorem State.putByte_sets : (s.putByte a b).sets = s.sets := rfl
@[simp] theorem State.putByte_now : (s.putByte a b).now = s.now := rfl
@[simp] theorem State.putByte_hold : (s.putByte a b).hold = s.hold := rfl
@[simp] theorem State.putByte_whold : (s.putByte a b).whold = s.whold := rfl
@[simp] theorem State.putByte_applied : (s.putByte a b).applied = s.applied := rfl
@[simp] theorem State.putByte_lastRead : (s.putByte a b).lastRead = s.lastRead := rfl
@[simp] theorem State.putByte_moduleId : (s.putByte a b).moduleId = s.moduleId := rfl
@[simp] theorem State.putByte_pref : (s.putByte a b).pref = s.pref := rfl
@[simp] theorem State.putByte_twiAddr : (s.putByte a b).twiAddr = s.twiAddr := rfl
@[simp] theorem State.putByte_testMode : (s.putByte a b).testMode = s.testMode := rfl
@[simp] theorem State.putByte_bootKeys : (s.putByte a b).bootKeys = s.bootKeys := rfl
@[simp] theorem State.putByte_clk : (s.putByte a b).clk = s.clk := rfl
@[simp] theorem State.putByte_clkx : (s.putByte a b).clkx = s.clkx := rfl
@[simp] theorem State.putByte_run : (s.putByte a b).run = s.run := rfl
@[simp] theorem State.putByte_flt : (s.putByte a b).flt = s.flt := rfl
@[simp] theorem State.putByte_warmReq : (s.putByte a b).warmReq = s.warmReq := rfl
@[simp] theorem State.putByte_hif : (s.putByte a b).hif = s.hif := rfl
@[simp] theorem State.putByte_sched : (s.putByte a b).sched = s.sched := rfl
@[simp] theorem State.putByte_fab : (s.putByte a b).fab = s.fab := rfl
@[simp] theorem State.putByte_eng : (s.putByte a b).eng = s.eng := rfl
@[simp] theorem State.putByte_mix : (s.putByte a b).mix = s.mix := rfl
@[simp] theorem State.putByte_str : (s.putByte a b).str = s.str := rfl
@[simp] theorem State.putByte_tdm : (s.putByte a b).tdm = s.tdm := rfl
@[simp] theorem State.putByte_amp : (s.putByte a b).amp = s.amp := rfl
@[simp] theorem State.putByte_twn : (s.putByte a b).twn = s.twn := rfl
@[simp] theorem State.putByte_eth : (s.putByte a b).eth = s.eth := rfl
@[simp] theorem State.putByte_sram : (s.putByte a b).sram = s.sram := rfl
@[simp] theorem State.putByte_ddr : (s.putByte a b).ddr = s.ddr := rfl
@[simp] theorem State.putByte_tgt : (s.putByte a b).tgt = s.tgt := rfl
@[simp] theorem State.putByte_pwr : (s.putByte a b).pwr = s.pwr := rfl
@[simp] theorem State.putByte_pending : (s.putByte a b).pending = s.pending := rfl
@[simp] theorem State.putByte_outbox : (s.putByte a b).outbox = s.outbox := rfl
@[simp] theorem State.putByte_fresh : (s.putByte a b).fresh = s.fresh := rfl

end

section
variable (s : State) (o : Out)

@[simp] theorem State.emit_regs : (s.emit o).regs = s.regs := rfl
@[simp] theorem State.emit_sets : (s.emit o).sets = s.sets := rfl
@[simp] theorem State.emit_now : (s.emit o).now = s.now := rfl
@[simp] theorem State.emit_hold : (s.emit o).hold = s.hold := rfl
@[simp] theorem State.emit_whold : (s.emit o).whold = s.whold := rfl
@[simp] theorem State.emit_applied : (s.emit o).applied = s.applied := rfl
@[simp] theorem State.emit_lastRead : (s.emit o).lastRead = s.lastRead := rfl
@[simp] theorem State.emit_mem : (s.emit o).mem = s.mem := rfl
@[simp] theorem State.emit_moduleId : (s.emit o).moduleId = s.moduleId := rfl
@[simp] theorem State.emit_pref : (s.emit o).pref = s.pref := rfl
@[simp] theorem State.emit_twiAddr : (s.emit o).twiAddr = s.twiAddr := rfl
@[simp] theorem State.emit_testMode : (s.emit o).testMode = s.testMode := rfl
@[simp] theorem State.emit_bootKeys : (s.emit o).bootKeys = s.bootKeys := rfl
@[simp] theorem State.emit_clk : (s.emit o).clk = s.clk := rfl
@[simp] theorem State.emit_clkx : (s.emit o).clkx = s.clkx := rfl
@[simp] theorem State.emit_run : (s.emit o).run = s.run := rfl
@[simp] theorem State.emit_flt : (s.emit o).flt = s.flt := rfl
@[simp] theorem State.emit_warmReq : (s.emit o).warmReq = s.warmReq := rfl
@[simp] theorem State.emit_hif : (s.emit o).hif = s.hif := rfl
@[simp] theorem State.emit_sched : (s.emit o).sched = s.sched := rfl
@[simp] theorem State.emit_fab : (s.emit o).fab = s.fab := rfl
@[simp] theorem State.emit_eng : (s.emit o).eng = s.eng := rfl
@[simp] theorem State.emit_mix : (s.emit o).mix = s.mix := rfl
@[simp] theorem State.emit_str : (s.emit o).str = s.str := rfl
@[simp] theorem State.emit_tdm : (s.emit o).tdm = s.tdm := rfl
@[simp] theorem State.emit_amp : (s.emit o).amp = s.amp := rfl
@[simp] theorem State.emit_twn : (s.emit o).twn = s.twn := rfl
@[simp] theorem State.emit_eth : (s.emit o).eth = s.eth := rfl
@[simp] theorem State.emit_sram : (s.emit o).sram = s.sram := rfl
@[simp] theorem State.emit_ddr : (s.emit o).ddr = s.ddr := rfl
@[simp] theorem State.emit_tgt : (s.emit o).tgt = s.tgt := rfl
@[simp] theorem State.emit_pwr : (s.emit o).pwr = s.pwr := rfl
@[simp] theorem State.emit_pending : (s.emit o).pending = s.pending := rfl
@[simp] theorem State.emit_fresh : (s.emit o).fresh = s.fresh := rfl

end

section
variable (s : State)

@[simp] theorem State.tick1_regs : (s.tick1).regs = s.regs := rfl
@[simp] theorem State.tick1_sets : (s.tick1).sets = s.sets := rfl
@[simp] theorem State.tick1_now : (s.tick1).now = s.now := rfl
@[simp] theorem State.tick1_hold : (s.tick1).hold = s.hold := rfl
@[simp] theorem State.tick1_whold : (s.tick1).whold = s.whold := rfl
@[simp] theorem State.tick1_applied : (s.tick1).applied = s.applied := rfl
@[simp] theorem State.tick1_lastRead : (s.tick1).lastRead = s.lastRead := rfl
@[simp] theorem State.tick1_mem : (s.tick1).mem = s.mem := rfl
@[simp] theorem State.tick1_moduleId : (s.tick1).moduleId = s.moduleId := rfl
@[simp] theorem State.tick1_pref : (s.tick1).pref = s.pref := rfl
@[simp] theorem State.tick1_twiAddr : (s.tick1).twiAddr = s.twiAddr := rfl
@[simp] theorem State.tick1_testMode : (s.tick1).testMode = s.testMode := rfl
@[simp] theorem State.tick1_bootKeys : (s.tick1).bootKeys = s.bootKeys := rfl
@[simp] theorem State.tick1_clk : (s.tick1).clk = s.clk := rfl
@[simp] theorem State.tick1_clkx : (s.tick1).clkx = s.clkx := rfl
@[simp] theorem State.tick1_run : (s.tick1).run = s.run := rfl
@[simp] theorem State.tick1_flt : (s.tick1).flt = s.flt := rfl
@[simp] theorem State.tick1_warmReq : (s.tick1).warmReq = s.warmReq := rfl
@[simp] theorem State.tick1_hif : (s.tick1).hif = s.hif := rfl
@[simp] theorem State.tick1_sched : (s.tick1).sched = s.sched := rfl
@[simp] theorem State.tick1_fab : (s.tick1).fab = s.fab := rfl
@[simp] theorem State.tick1_eng : (s.tick1).eng = s.eng := rfl
@[simp] theorem State.tick1_mix : (s.tick1).mix = s.mix := rfl
@[simp] theorem State.tick1_str : (s.tick1).str = s.str := rfl
@[simp] theorem State.tick1_tdm : (s.tick1).tdm = s.tdm := rfl
@[simp] theorem State.tick1_amp : (s.tick1).amp = s.amp := rfl
@[simp] theorem State.tick1_twn : (s.tick1).twn = s.twn := rfl
@[simp] theorem State.tick1_eth : (s.tick1).eth = s.eth := rfl
@[simp] theorem State.tick1_sram : (s.tick1).sram = s.sram := rfl
@[simp] theorem State.tick1_ddr : (s.tick1).ddr = s.ddr := rfl
@[simp] theorem State.tick1_tgt : (s.tick1).tgt = s.tgt := rfl
@[simp] theorem State.tick1_pwr : (s.tick1).pwr = s.pwr := rfl
@[simp] theorem State.tick1_pending : (s.tick1).pending = s.pending := rfl
@[simp] theorem State.tick1_outbox : (s.tick1).outbox = s.outbox := rfl

end

section
variable (s : State) (u : Nat)

@[simp] theorem State.passTime_regs : (s.passTime u).regs = s.regs := rfl
@[simp] theorem State.passTime_hold : (s.passTime u).hold = s.hold := rfl
@[simp] theorem State.passTime_whold : (s.passTime u).whold = s.whold := rfl
@[simp] theorem State.passTime_applied : (s.passTime u).applied = s.applied := rfl
@[simp] theorem State.passTime_lastRead : (s.passTime u).lastRead = s.lastRead := rfl
@[simp] theorem State.passTime_mem : (s.passTime u).mem = s.mem := rfl
@[simp] theorem State.passTime_moduleId : (s.passTime u).moduleId = s.moduleId := rfl
@[simp] theorem State.passTime_pref : (s.passTime u).pref = s.pref := rfl
@[simp] theorem State.passTime_twiAddr : (s.passTime u).twiAddr = s.twiAddr := rfl
@[simp] theorem State.passTime_testMode : (s.passTime u).testMode = s.testMode := rfl
@[simp] theorem State.passTime_bootKeys : (s.passTime u).bootKeys = s.bootKeys := rfl
@[simp] theorem State.passTime_clkx : (s.passTime u).clkx = s.clkx := rfl
@[simp] theorem State.passTime_run : (s.passTime u).run = s.run := rfl
@[simp] theorem State.passTime_warmReq : (s.passTime u).warmReq = s.warmReq := rfl
@[simp] theorem State.passTime_hif : (s.passTime u).hif = s.hif := rfl
@[simp] theorem State.passTime_sched : (s.passTime u).sched = s.sched := rfl
@[simp] theorem State.passTime_fab : (s.passTime u).fab = s.fab := rfl
@[simp] theorem State.passTime_eng : (s.passTime u).eng = s.eng := rfl
@[simp] theorem State.passTime_mix : (s.passTime u).mix = s.mix := rfl
@[simp] theorem State.passTime_str : (s.passTime u).str = s.str := rfl
@[simp] theorem State.passTime_tdm : (s.passTime u).tdm = s.tdm := rfl
@[simp] theorem State.passTime_amp : (s.passTime u).amp = s.amp := rfl
@[simp] theorem State.passTime_eth : (s.passTime u).eth = s.eth := rfl
@[simp] theorem State.passTime_sram : (s.passTime u).sram = s.sram := rfl
@[simp] theorem State.passTime_ddr : (s.passTime u).ddr = s.ddr := rfl
@[simp] theorem State.passTime_tgt : (s.passTime u).tgt = s.tgt := rfl
@[simp] theorem State.passTime_pwr : (s.passTime u).pwr = s.pwr := rfl
@[simp] theorem State.passTime_pending : (s.passTime u).pending = s.pending := rfl
@[simp] theorem State.passTime_outbox : (s.passTime u).outbox = s.outbox := rfl
@[simp] theorem State.passTime_fresh : (s.passTime u).fresh = s.fresh := rfl

end

section
variable (s : State) (u : Nat)

@[simp] theorem State.setGridU_regs : (s.setGridU u).regs = s.regs := rfl
@[simp] theorem State.setGridU_sets : (s.setGridU u).sets = s.sets := rfl
@[simp] theorem State.setGridU_now : (s.setGridU u).now = s.now := rfl
@[simp] theorem State.setGridU_hold : (s.setGridU u).hold = s.hold := rfl
@[simp] theorem State.setGridU_whold : (s.setGridU u).whold = s.whold := rfl
@[simp] theorem State.setGridU_applied : (s.setGridU u).applied = s.applied := rfl
@[simp] theorem State.setGridU_lastRead : (s.setGridU u).lastRead = s.lastRead := rfl
@[simp] theorem State.setGridU_mem : (s.setGridU u).mem = s.mem := rfl
@[simp] theorem State.setGridU_moduleId : (s.setGridU u).moduleId = s.moduleId := rfl
@[simp] theorem State.setGridU_pref : (s.setGridU u).pref = s.pref := rfl
@[simp] theorem State.setGridU_twiAddr : (s.setGridU u).twiAddr = s.twiAddr := rfl
@[simp] theorem State.setGridU_testMode : (s.setGridU u).testMode = s.testMode := rfl
@[simp] theorem State.setGridU_bootKeys : (s.setGridU u).bootKeys = s.bootKeys := rfl
@[simp] theorem State.setGridU_clkx : (s.setGridU u).clkx = s.clkx := rfl
@[simp] theorem State.setGridU_run : (s.setGridU u).run = s.run := rfl
@[simp] theorem State.setGridU_flt : (s.setGridU u).flt = s.flt := rfl
@[simp] theorem State.setGridU_warmReq : (s.setGridU u).warmReq = s.warmReq := rfl
@[simp] theorem State.setGridU_hif : (s.setGridU u).hif = s.hif := rfl
@[simp] theorem State.setGridU_sched : (s.setGridU u).sched = s.sched := rfl
@[simp] theorem State.setGridU_fab : (s.setGridU u).fab = s.fab := rfl
@[simp] theorem State.setGridU_eng : (s.setGridU u).eng = s.eng := rfl
@[simp] theorem State.setGridU_mix : (s.setGridU u).mix = s.mix := rfl
@[simp] theorem State.setGridU_str : (s.setGridU u).str = s.str := rfl
@[simp] theorem State.setGridU_tdm : (s.setGridU u).tdm = s.tdm := rfl
@[simp] theorem State.setGridU_amp : (s.setGridU u).amp = s.amp := rfl
@[simp] theorem State.setGridU_twn : (s.setGridU u).twn = s.twn := rfl
@[simp] theorem State.setGridU_eth : (s.setGridU u).eth = s.eth := rfl
@[simp] theorem State.setGridU_sram : (s.setGridU u).sram = s.sram := rfl
@[simp] theorem State.setGridU_ddr : (s.setGridU u).ddr = s.ddr := rfl
@[simp] theorem State.setGridU_tgt : (s.setGridU u).tgt = s.tgt := rfl
@[simp] theorem State.setGridU_pwr : (s.setGridU u).pwr = s.pwr := rfl
@[simp] theorem State.setGridU_pending : (s.setGridU u).pending = s.pending := rfl
@[simp] theorem State.setGridU_outbox : (s.setGridU u).outbox = s.outbox := rfl
@[simp] theorem State.setGridU_fresh : (s.setGridU u).fresh = s.fresh := rfl

end

section
variable (s : State) (r : Nat) (x : Ring)

@[simp] theorem State.setRing_regs : (s.setRing r x).regs = s.regs := rfl
@[simp] theorem State.setRing_sets : (s.setRing r x).sets = s.sets := rfl
@[simp] theorem State.setRing_now : (s.setRing r x).now = s.now := rfl
@[simp] theorem State.setRing_hold : (s.setRing r x).hold = s.hold := rfl
@[simp] theorem State.setRing_whold : (s.setRing r x).whold = s.whold := rfl
@[simp] theorem State.setRing_applied : (s.setRing r x).applied = s.applied := rfl
@[simp] theorem State.setRing_lastRead : (s.setRing r x).lastRead = s.lastRead := rfl
@[simp] theorem State.setRing_mem : (s.setRing r x).mem = s.mem := rfl
@[simp] theorem State.setRing_moduleId : (s.setRing r x).moduleId = s.moduleId := rfl
@[simp] theorem State.setRing_pref : (s.setRing r x).pref = s.pref := rfl
@[simp] theorem State.setRing_twiAddr : (s.setRing r x).twiAddr = s.twiAddr := rfl
@[simp] theorem State.setRing_testMode : (s.setRing r x).testMode = s.testMode := rfl
@[simp] theorem State.setRing_bootKeys : (s.setRing r x).bootKeys = s.bootKeys := rfl
@[simp] theorem State.setRing_clk : (s.setRing r x).clk = s.clk := rfl
@[simp] theorem State.setRing_clkx : (s.setRing r x).clkx = s.clkx := rfl
@[simp] theorem State.setRing_run : (s.setRing r x).run = s.run := rfl
@[simp] theorem State.setRing_flt : (s.setRing r x).flt = s.flt := rfl
@[simp] theorem State.setRing_warmReq : (s.setRing r x).warmReq = s.warmReq := rfl
@[simp] theorem State.setRing_sched : (s.setRing r x).sched = s.sched := rfl
@[simp] theorem State.setRing_fab : (s.setRing r x).fab = s.fab := rfl
@[simp] theorem State.setRing_eng : (s.setRing r x).eng = s.eng := rfl
@[simp] theorem State.setRing_mix : (s.setRing r x).mix = s.mix := rfl
@[simp] theorem State.setRing_str : (s.setRing r x).str = s.str := rfl
@[simp] theorem State.setRing_tdm : (s.setRing r x).tdm = s.tdm := rfl
@[simp] theorem State.setRing_amp : (s.setRing r x).amp = s.amp := rfl
@[simp] theorem State.setRing_twn : (s.setRing r x).twn = s.twn := rfl
@[simp] theorem State.setRing_eth : (s.setRing r x).eth = s.eth := rfl
@[simp] theorem State.setRing_sram : (s.setRing r x).sram = s.sram := rfl
@[simp] theorem State.setRing_ddr : (s.setRing r x).ddr = s.ddr := rfl
@[simp] theorem State.setRing_tgt : (s.setRing r x).tgt = s.tgt := rfl
@[simp] theorem State.setRing_pwr : (s.setRing r x).pwr = s.pwr := rfl
@[simp] theorem State.setRing_pending : (s.setRing r x).pending = s.pending := rfl
@[simp] theorem State.setRing_outbox : (s.setRing r x).outbox = s.outbox := rfl
@[simp] theorem State.setRing_fresh : (s.setRing r x).fresh = s.fresh := rfl

end

section
variable (s : State) (e : Nat) (g : Engine)

@[simp] theorem State.setEngine_regs : (s.setEngine e g).regs = s.regs := rfl
@[simp] theorem State.setEngine_sets : (s.setEngine e g).sets = s.sets := rfl
@[simp] theorem State.setEngine_now : (s.setEngine e g).now = s.now := rfl
@[simp] theorem State.setEngine_hold : (s.setEngine e g).hold = s.hold := rfl
@[simp] theorem State.setEngine_whold : (s.setEngine e g).whold = s.whold := rfl
@[simp] theorem State.setEngine_applied : (s.setEngine e g).applied = s.applied := rfl
@[simp] theorem State.setEngine_lastRead : (s.setEngine e g).lastRead = s.lastRead := rfl
@[simp] theorem State.setEngine_mem : (s.setEngine e g).mem = s.mem := rfl
@[simp] theorem State.setEngine_moduleId : (s.setEngine e g).moduleId = s.moduleId := rfl
@[simp] theorem State.setEngine_pref : (s.setEngine e g).pref = s.pref := rfl
@[simp] theorem State.setEngine_twiAddr : (s.setEngine e g).twiAddr = s.twiAddr := rfl
@[simp] theorem State.setEngine_testMode : (s.setEngine e g).testMode = s.testMode := rfl
@[simp] theorem State.setEngine_bootKeys : (s.setEngine e g).bootKeys = s.bootKeys := rfl
@[simp] theorem State.setEngine_clk : (s.setEngine e g).clk = s.clk := rfl
@[simp] theorem State.setEngine_clkx : (s.setEngine e g).clkx = s.clkx := rfl
@[simp] theorem State.setEngine_run : (s.setEngine e g).run = s.run := rfl
@[simp] theorem State.setEngine_flt : (s.setEngine e g).flt = s.flt := rfl
@[simp] theorem State.setEngine_warmReq : (s.setEngine e g).warmReq = s.warmReq := rfl
@[simp] theorem State.setEngine_hif : (s.setEngine e g).hif = s.hif := rfl
@[simp] theorem State.setEngine_sched : (s.setEngine e g).sched = s.sched := rfl
@[simp] theorem State.setEngine_fab : (s.setEngine e g).fab = s.fab := rfl
@[simp] theorem State.setEngine_mix : (s.setEngine e g).mix = s.mix := rfl
@[simp] theorem State.setEngine_str : (s.setEngine e g).str = s.str := rfl
@[simp] theorem State.setEngine_tdm : (s.setEngine e g).tdm = s.tdm := rfl
@[simp] theorem State.setEngine_amp : (s.setEngine e g).amp = s.amp := rfl
@[simp] theorem State.setEngine_twn : (s.setEngine e g).twn = s.twn := rfl
@[simp] theorem State.setEngine_eth : (s.setEngine e g).eth = s.eth := rfl
@[simp] theorem State.setEngine_sram : (s.setEngine e g).sram = s.sram := rfl
@[simp] theorem State.setEngine_ddr : (s.setEngine e g).ddr = s.ddr := rfl
@[simp] theorem State.setEngine_tgt : (s.setEngine e g).tgt = s.tgt := rfl
@[simp] theorem State.setEngine_pwr : (s.setEngine e g).pwr = s.pwr := rfl
@[simp] theorem State.setEngine_pending : (s.setEngine e g).pending = s.pending := rfl
@[simp] theorem State.setEngine_outbox : (s.setEngine e g).outbox = s.outbox := rfl
@[simp] theorem State.setEngine_fresh : (s.setEngine e g).fresh = s.fresh := rfl

end

section
variable (s : State) (f : Clock → Clock)

@[simp] theorem State.setClk_regs : (s.setClk f).regs = s.regs := rfl
@[simp] theorem State.setClk_sets : (s.setClk f).sets = s.sets := rfl
@[simp] theorem State.setClk_now : (s.setClk f).now = s.now := rfl
@[simp] theorem State.setClk_hold : (s.setClk f).hold = s.hold := rfl
@[simp] theorem State.setClk_whold : (s.setClk f).whold = s.whold := rfl
@[simp] theorem State.setClk_applied : (s.setClk f).applied = s.applied := rfl
@[simp] theorem State.setClk_lastRead : (s.setClk f).lastRead = s.lastRead := rfl
@[simp] theorem State.setClk_mem : (s.setClk f).mem = s.mem := rfl
@[simp] theorem State.setClk_moduleId : (s.setClk f).moduleId = s.moduleId := rfl
@[simp] theorem State.setClk_pref : (s.setClk f).pref = s.pref := rfl
@[simp] theorem State.setClk_twiAddr : (s.setClk f).twiAddr = s.twiAddr := rfl
@[simp] theorem State.setClk_testMode : (s.setClk f).testMode = s.testMode := rfl
@[simp] theorem State.setClk_bootKeys : (s.setClk f).bootKeys = s.bootKeys := rfl
@[simp] theorem State.setClk_clkx : (s.setClk f).clkx = s.clkx := rfl
@[simp] theorem State.setClk_run : (s.setClk f).run = s.run := rfl
@[simp] theorem State.setClk_flt : (s.setClk f).flt = s.flt := rfl
@[simp] theorem State.setClk_warmReq : (s.setClk f).warmReq = s.warmReq := rfl
@[simp] theorem State.setClk_hif : (s.setClk f).hif = s.hif := rfl
@[simp] theorem State.setClk_sched : (s.setClk f).sched = s.sched := rfl
@[simp] theorem State.setClk_fab : (s.setClk f).fab = s.fab := rfl
@[simp] theorem State.setClk_eng : (s.setClk f).eng = s.eng := rfl
@[simp] theorem State.setClk_mix : (s.setClk f).mix = s.mix := rfl
@[simp] theorem State.setClk_str : (s.setClk f).str = s.str := rfl
@[simp] theorem State.setClk_tdm : (s.setClk f).tdm = s.tdm := rfl
@[simp] theorem State.setClk_amp : (s.setClk f).amp = s.amp := rfl
@[simp] theorem State.setClk_twn : (s.setClk f).twn = s.twn := rfl
@[simp] theorem State.setClk_eth : (s.setClk f).eth = s.eth := rfl
@[simp] theorem State.setClk_sram : (s.setClk f).sram = s.sram := rfl
@[simp] theorem State.setClk_ddr : (s.setClk f).ddr = s.ddr := rfl
@[simp] theorem State.setClk_tgt : (s.setClk f).tgt = s.tgt := rfl
@[simp] theorem State.setClk_pwr : (s.setClk f).pwr = s.pwr := rfl
@[simp] theorem State.setClk_pending : (s.setClk f).pending = s.pending := rfl
@[simp] theorem State.setClk_outbox : (s.setClk f).outbox = s.outbox := rfl
@[simp] theorem State.setClk_fresh : (s.setClk f).fresh = s.fresh := rfl
@[simp] theorem State.setClk_clk : (s.setClk f).clk = f s.clk := rfl

end

section
variable (s : State) (f : ClkX → ClkX)

@[simp] theorem State.setClkx_regs : (s.setClkx f).regs = s.regs := rfl
@[simp] theorem State.setClkx_sets : (s.setClkx f).sets = s.sets := rfl
@[simp] theorem State.setClkx_now : (s.setClkx f).now = s.now := rfl
@[simp] theorem State.setClkx_hold : (s.setClkx f).hold = s.hold := rfl
@[simp] theorem State.setClkx_whold : (s.setClkx f).whold = s.whold := rfl
@[simp] theorem State.setClkx_applied : (s.setClkx f).applied = s.applied := rfl
@[simp] theorem State.setClkx_lastRead : (s.setClkx f).lastRead = s.lastRead := rfl
@[simp] theorem State.setClkx_mem : (s.setClkx f).mem = s.mem := rfl
@[simp] theorem State.setClkx_moduleId : (s.setClkx f).moduleId = s.moduleId := rfl
@[simp] theorem State.setClkx_pref : (s.setClkx f).pref = s.pref := rfl
@[simp] theorem State.setClkx_twiAddr : (s.setClkx f).twiAddr = s.twiAddr := rfl
@[simp] theorem State.setClkx_testMode : (s.setClkx f).testMode = s.testMode := rfl
@[simp] theorem State.setClkx_bootKeys : (s.setClkx f).bootKeys = s.bootKeys := rfl
@[simp] theorem State.setClkx_clk : (s.setClkx f).clk = s.clk := rfl
@[simp] theorem State.setClkx_run : (s.setClkx f).run = s.run := rfl
@[simp] theorem State.setClkx_flt : (s.setClkx f).flt = s.flt := rfl
@[simp] theorem State.setClkx_warmReq : (s.setClkx f).warmReq = s.warmReq := rfl
@[simp] theorem State.setClkx_hif : (s.setClkx f).hif = s.hif := rfl
@[simp] theorem State.setClkx_sched : (s.setClkx f).sched = s.sched := rfl
@[simp] theorem State.setClkx_fab : (s.setClkx f).fab = s.fab := rfl
@[simp] theorem State.setClkx_eng : (s.setClkx f).eng = s.eng := rfl
@[simp] theorem State.setClkx_mix : (s.setClkx f).mix = s.mix := rfl
@[simp] theorem State.setClkx_str : (s.setClkx f).str = s.str := rfl
@[simp] theorem State.setClkx_tdm : (s.setClkx f).tdm = s.tdm := rfl
@[simp] theorem State.setClkx_amp : (s.setClkx f).amp = s.amp := rfl
@[simp] theorem State.setClkx_twn : (s.setClkx f).twn = s.twn := rfl
@[simp] theorem State.setClkx_eth : (s.setClkx f).eth = s.eth := rfl
@[simp] theorem State.setClkx_sram : (s.setClkx f).sram = s.sram := rfl
@[simp] theorem State.setClkx_ddr : (s.setClkx f).ddr = s.ddr := rfl
@[simp] theorem State.setClkx_tgt : (s.setClkx f).tgt = s.tgt := rfl
@[simp] theorem State.setClkx_pwr : (s.setClkx f).pwr = s.pwr := rfl
@[simp] theorem State.setClkx_pending : (s.setClkx f).pending = s.pending := rfl
@[simp] theorem State.setClkx_outbox : (s.setClkx f).outbox = s.outbox := rfl
@[simp] theorem State.setClkx_fresh : (s.setClkx f).fresh = s.fresh := rfl
@[simp] theorem State.setClkx_clkx : (s.setClkx f).clkx = f s.clkx := rfl

end

section
variable (s : State) (f : Flt → Flt)

@[simp] theorem State.setFlt_regs : (s.setFlt f).regs = s.regs := rfl
@[simp] theorem State.setFlt_sets : (s.setFlt f).sets = s.sets := rfl
@[simp] theorem State.setFlt_now : (s.setFlt f).now = s.now := rfl
@[simp] theorem State.setFlt_hold : (s.setFlt f).hold = s.hold := rfl
@[simp] theorem State.setFlt_whold : (s.setFlt f).whold = s.whold := rfl
@[simp] theorem State.setFlt_applied : (s.setFlt f).applied = s.applied := rfl
@[simp] theorem State.setFlt_lastRead : (s.setFlt f).lastRead = s.lastRead := rfl
@[simp] theorem State.setFlt_mem : (s.setFlt f).mem = s.mem := rfl
@[simp] theorem State.setFlt_moduleId : (s.setFlt f).moduleId = s.moduleId := rfl
@[simp] theorem State.setFlt_pref : (s.setFlt f).pref = s.pref := rfl
@[simp] theorem State.setFlt_twiAddr : (s.setFlt f).twiAddr = s.twiAddr := rfl
@[simp] theorem State.setFlt_testMode : (s.setFlt f).testMode = s.testMode := rfl
@[simp] theorem State.setFlt_bootKeys : (s.setFlt f).bootKeys = s.bootKeys := rfl
@[simp] theorem State.setFlt_clk : (s.setFlt f).clk = s.clk := rfl
@[simp] theorem State.setFlt_clkx : (s.setFlt f).clkx = s.clkx := rfl
@[simp] theorem State.setFlt_run : (s.setFlt f).run = s.run := rfl
@[simp] theorem State.setFlt_warmReq : (s.setFlt f).warmReq = s.warmReq := rfl
@[simp] theorem State.setFlt_hif : (s.setFlt f).hif = s.hif := rfl
@[simp] theorem State.setFlt_sched : (s.setFlt f).sched = s.sched := rfl
@[simp] theorem State.setFlt_fab : (s.setFlt f).fab = s.fab := rfl
@[simp] theorem State.setFlt_eng : (s.setFlt f).eng = s.eng := rfl
@[simp] theorem State.setFlt_mix : (s.setFlt f).mix = s.mix := rfl
@[simp] theorem State.setFlt_str : (s.setFlt f).str = s.str := rfl
@[simp] theorem State.setFlt_tdm : (s.setFlt f).tdm = s.tdm := rfl
@[simp] theorem State.setFlt_amp : (s.setFlt f).amp = s.amp := rfl
@[simp] theorem State.setFlt_twn : (s.setFlt f).twn = s.twn := rfl
@[simp] theorem State.setFlt_eth : (s.setFlt f).eth = s.eth := rfl
@[simp] theorem State.setFlt_sram : (s.setFlt f).sram = s.sram := rfl
@[simp] theorem State.setFlt_ddr : (s.setFlt f).ddr = s.ddr := rfl
@[simp] theorem State.setFlt_tgt : (s.setFlt f).tgt = s.tgt := rfl
@[simp] theorem State.setFlt_pwr : (s.setFlt f).pwr = s.pwr := rfl
@[simp] theorem State.setFlt_pending : (s.setFlt f).pending = s.pending := rfl
@[simp] theorem State.setFlt_outbox : (s.setFlt f).outbox = s.outbox := rfl
@[simp] theorem State.setFlt_fresh : (s.setFlt f).fresh = s.fresh := rfl
@[simp] theorem State.setFlt_flt : (s.setFlt f).flt = f s.flt := rfl

end

section
variable (s : State) (f : Hif → Hif)

@[simp] theorem State.setHif_regs : (s.setHif f).regs = s.regs := rfl
@[simp] theorem State.setHif_sets : (s.setHif f).sets = s.sets := rfl
@[simp] theorem State.setHif_now : (s.setHif f).now = s.now := rfl
@[simp] theorem State.setHif_hold : (s.setHif f).hold = s.hold := rfl
@[simp] theorem State.setHif_whold : (s.setHif f).whold = s.whold := rfl
@[simp] theorem State.setHif_applied : (s.setHif f).applied = s.applied := rfl
@[simp] theorem State.setHif_lastRead : (s.setHif f).lastRead = s.lastRead := rfl
@[simp] theorem State.setHif_mem : (s.setHif f).mem = s.mem := rfl
@[simp] theorem State.setHif_moduleId : (s.setHif f).moduleId = s.moduleId := rfl
@[simp] theorem State.setHif_pref : (s.setHif f).pref = s.pref := rfl
@[simp] theorem State.setHif_twiAddr : (s.setHif f).twiAddr = s.twiAddr := rfl
@[simp] theorem State.setHif_testMode : (s.setHif f).testMode = s.testMode := rfl
@[simp] theorem State.setHif_bootKeys : (s.setHif f).bootKeys = s.bootKeys := rfl
@[simp] theorem State.setHif_clk : (s.setHif f).clk = s.clk := rfl
@[simp] theorem State.setHif_clkx : (s.setHif f).clkx = s.clkx := rfl
@[simp] theorem State.setHif_run : (s.setHif f).run = s.run := rfl
@[simp] theorem State.setHif_flt : (s.setHif f).flt = s.flt := rfl
@[simp] theorem State.setHif_warmReq : (s.setHif f).warmReq = s.warmReq := rfl
@[simp] theorem State.setHif_sched : (s.setHif f).sched = s.sched := rfl
@[simp] theorem State.setHif_fab : (s.setHif f).fab = s.fab := rfl
@[simp] theorem State.setHif_eng : (s.setHif f).eng = s.eng := rfl
@[simp] theorem State.setHif_mix : (s.setHif f).mix = s.mix := rfl
@[simp] theorem State.setHif_str : (s.setHif f).str = s.str := rfl
@[simp] theorem State.setHif_tdm : (s.setHif f).tdm = s.tdm := rfl
@[simp] theorem State.setHif_amp : (s.setHif f).amp = s.amp := rfl
@[simp] theorem State.setHif_twn : (s.setHif f).twn = s.twn := rfl
@[simp] theorem State.setHif_eth : (s.setHif f).eth = s.eth := rfl
@[simp] theorem State.setHif_sram : (s.setHif f).sram = s.sram := rfl
@[simp] theorem State.setHif_ddr : (s.setHif f).ddr = s.ddr := rfl
@[simp] theorem State.setHif_tgt : (s.setHif f).tgt = s.tgt := rfl
@[simp] theorem State.setHif_pwr : (s.setHif f).pwr = s.pwr := rfl
@[simp] theorem State.setHif_pending : (s.setHif f).pending = s.pending := rfl
@[simp] theorem State.setHif_outbox : (s.setHif f).outbox = s.outbox := rfl
@[simp] theorem State.setHif_fresh : (s.setHif f).fresh = s.fresh := rfl
@[simp] theorem State.setHif_hif : (s.setHif f).hif = f s.hif := rfl

end

section
variable (s : State) (f : Fab → Fab)

@[simp] theorem State.setFab_regs : (s.setFab f).regs = s.regs := rfl
@[simp] theorem State.setFab_sets : (s.setFab f).sets = s.sets := rfl
@[simp] theorem State.setFab_now : (s.setFab f).now = s.now := rfl
@[simp] theorem State.setFab_hold : (s.setFab f).hold = s.hold := rfl
@[simp] theorem State.setFab_whold : (s.setFab f).whold = s.whold := rfl
@[simp] theorem State.setFab_applied : (s.setFab f).applied = s.applied := rfl
@[simp] theorem State.setFab_lastRead : (s.setFab f).lastRead = s.lastRead := rfl
@[simp] theorem State.setFab_mem : (s.setFab f).mem = s.mem := rfl
@[simp] theorem State.setFab_moduleId : (s.setFab f).moduleId = s.moduleId := rfl
@[simp] theorem State.setFab_pref : (s.setFab f).pref = s.pref := rfl
@[simp] theorem State.setFab_twiAddr : (s.setFab f).twiAddr = s.twiAddr := rfl
@[simp] theorem State.setFab_testMode : (s.setFab f).testMode = s.testMode := rfl
@[simp] theorem State.setFab_bootKeys : (s.setFab f).bootKeys = s.bootKeys := rfl
@[simp] theorem State.setFab_clk : (s.setFab f).clk = s.clk := rfl
@[simp] theorem State.setFab_clkx : (s.setFab f).clkx = s.clkx := rfl
@[simp] theorem State.setFab_run : (s.setFab f).run = s.run := rfl
@[simp] theorem State.setFab_flt : (s.setFab f).flt = s.flt := rfl
@[simp] theorem State.setFab_warmReq : (s.setFab f).warmReq = s.warmReq := rfl
@[simp] theorem State.setFab_hif : (s.setFab f).hif = s.hif := rfl
@[simp] theorem State.setFab_sched : (s.setFab f).sched = s.sched := rfl
@[simp] theorem State.setFab_eng : (s.setFab f).eng = s.eng := rfl
@[simp] theorem State.setFab_mix : (s.setFab f).mix = s.mix := rfl
@[simp] theorem State.setFab_str : (s.setFab f).str = s.str := rfl
@[simp] theorem State.setFab_tdm : (s.setFab f).tdm = s.tdm := rfl
@[simp] theorem State.setFab_amp : (s.setFab f).amp = s.amp := rfl
@[simp] theorem State.setFab_twn : (s.setFab f).twn = s.twn := rfl
@[simp] theorem State.setFab_eth : (s.setFab f).eth = s.eth := rfl
@[simp] theorem State.setFab_sram : (s.setFab f).sram = s.sram := rfl
@[simp] theorem State.setFab_ddr : (s.setFab f).ddr = s.ddr := rfl
@[simp] theorem State.setFab_tgt : (s.setFab f).tgt = s.tgt := rfl
@[simp] theorem State.setFab_pwr : (s.setFab f).pwr = s.pwr := rfl
@[simp] theorem State.setFab_pending : (s.setFab f).pending = s.pending := rfl
@[simp] theorem State.setFab_outbox : (s.setFab f).outbox = s.outbox := rfl
@[simp] theorem State.setFab_fresh : (s.setFab f).fresh = s.fresh := rfl
@[simp] theorem State.setFab_fab : (s.setFab f).fab = f s.fab := rfl

end

section
variable (s : State) (f : Mix → Mix)

@[simp] theorem State.setMix_regs : (s.setMix f).regs = s.regs := rfl
@[simp] theorem State.setMix_sets : (s.setMix f).sets = s.sets := rfl
@[simp] theorem State.setMix_now : (s.setMix f).now = s.now := rfl
@[simp] theorem State.setMix_hold : (s.setMix f).hold = s.hold := rfl
@[simp] theorem State.setMix_whold : (s.setMix f).whold = s.whold := rfl
@[simp] theorem State.setMix_applied : (s.setMix f).applied = s.applied := rfl
@[simp] theorem State.setMix_lastRead : (s.setMix f).lastRead = s.lastRead := rfl
@[simp] theorem State.setMix_mem : (s.setMix f).mem = s.mem := rfl
@[simp] theorem State.setMix_moduleId : (s.setMix f).moduleId = s.moduleId := rfl
@[simp] theorem State.setMix_pref : (s.setMix f).pref = s.pref := rfl
@[simp] theorem State.setMix_twiAddr : (s.setMix f).twiAddr = s.twiAddr := rfl
@[simp] theorem State.setMix_testMode : (s.setMix f).testMode = s.testMode := rfl
@[simp] theorem State.setMix_bootKeys : (s.setMix f).bootKeys = s.bootKeys := rfl
@[simp] theorem State.setMix_clk : (s.setMix f).clk = s.clk := rfl
@[simp] theorem State.setMix_clkx : (s.setMix f).clkx = s.clkx := rfl
@[simp] theorem State.setMix_run : (s.setMix f).run = s.run := rfl
@[simp] theorem State.setMix_flt : (s.setMix f).flt = s.flt := rfl
@[simp] theorem State.setMix_warmReq : (s.setMix f).warmReq = s.warmReq := rfl
@[simp] theorem State.setMix_hif : (s.setMix f).hif = s.hif := rfl
@[simp] theorem State.setMix_sched : (s.setMix f).sched = s.sched := rfl
@[simp] theorem State.setMix_fab : (s.setMix f).fab = s.fab := rfl
@[simp] theorem State.setMix_eng : (s.setMix f).eng = s.eng := rfl
@[simp] theorem State.setMix_str : (s.setMix f).str = s.str := rfl
@[simp] theorem State.setMix_tdm : (s.setMix f).tdm = s.tdm := rfl
@[simp] theorem State.setMix_amp : (s.setMix f).amp = s.amp := rfl
@[simp] theorem State.setMix_twn : (s.setMix f).twn = s.twn := rfl
@[simp] theorem State.setMix_eth : (s.setMix f).eth = s.eth := rfl
@[simp] theorem State.setMix_sram : (s.setMix f).sram = s.sram := rfl
@[simp] theorem State.setMix_ddr : (s.setMix f).ddr = s.ddr := rfl
@[simp] theorem State.setMix_tgt : (s.setMix f).tgt = s.tgt := rfl
@[simp] theorem State.setMix_pwr : (s.setMix f).pwr = s.pwr := rfl
@[simp] theorem State.setMix_pending : (s.setMix f).pending = s.pending := rfl
@[simp] theorem State.setMix_outbox : (s.setMix f).outbox = s.outbox := rfl
@[simp] theorem State.setMix_fresh : (s.setMix f).fresh = s.fresh := rfl
@[simp] theorem State.setMix_mix : (s.setMix f).mix = f s.mix := rfl

end

section
variable (s : State) (f : Str → Str)

@[simp] theorem State.setStr_regs : (s.setStr f).regs = s.regs := rfl
@[simp] theorem State.setStr_sets : (s.setStr f).sets = s.sets := rfl
@[simp] theorem State.setStr_now : (s.setStr f).now = s.now := rfl
@[simp] theorem State.setStr_hold : (s.setStr f).hold = s.hold := rfl
@[simp] theorem State.setStr_whold : (s.setStr f).whold = s.whold := rfl
@[simp] theorem State.setStr_applied : (s.setStr f).applied = s.applied := rfl
@[simp] theorem State.setStr_lastRead : (s.setStr f).lastRead = s.lastRead := rfl
@[simp] theorem State.setStr_mem : (s.setStr f).mem = s.mem := rfl
@[simp] theorem State.setStr_moduleId : (s.setStr f).moduleId = s.moduleId := rfl
@[simp] theorem State.setStr_pref : (s.setStr f).pref = s.pref := rfl
@[simp] theorem State.setStr_twiAddr : (s.setStr f).twiAddr = s.twiAddr := rfl
@[simp] theorem State.setStr_testMode : (s.setStr f).testMode = s.testMode := rfl
@[simp] theorem State.setStr_bootKeys : (s.setStr f).bootKeys = s.bootKeys := rfl
@[simp] theorem State.setStr_clk : (s.setStr f).clk = s.clk := rfl
@[simp] theorem State.setStr_clkx : (s.setStr f).clkx = s.clkx := rfl
@[simp] theorem State.setStr_run : (s.setStr f).run = s.run := rfl
@[simp] theorem State.setStr_flt : (s.setStr f).flt = s.flt := rfl
@[simp] theorem State.setStr_warmReq : (s.setStr f).warmReq = s.warmReq := rfl
@[simp] theorem State.setStr_hif : (s.setStr f).hif = s.hif := rfl
@[simp] theorem State.setStr_sched : (s.setStr f).sched = s.sched := rfl
@[simp] theorem State.setStr_fab : (s.setStr f).fab = s.fab := rfl
@[simp] theorem State.setStr_eng : (s.setStr f).eng = s.eng := rfl
@[simp] theorem State.setStr_mix : (s.setStr f).mix = s.mix := rfl
@[simp] theorem State.setStr_tdm : (s.setStr f).tdm = s.tdm := rfl
@[simp] theorem State.setStr_amp : (s.setStr f).amp = s.amp := rfl
@[simp] theorem State.setStr_twn : (s.setStr f).twn = s.twn := rfl
@[simp] theorem State.setStr_eth : (s.setStr f).eth = s.eth := rfl
@[simp] theorem State.setStr_sram : (s.setStr f).sram = s.sram := rfl
@[simp] theorem State.setStr_ddr : (s.setStr f).ddr = s.ddr := rfl
@[simp] theorem State.setStr_tgt : (s.setStr f).tgt = s.tgt := rfl
@[simp] theorem State.setStr_pwr : (s.setStr f).pwr = s.pwr := rfl
@[simp] theorem State.setStr_pending : (s.setStr f).pending = s.pending := rfl
@[simp] theorem State.setStr_outbox : (s.setStr f).outbox = s.outbox := rfl
@[simp] theorem State.setStr_fresh : (s.setStr f).fresh = s.fresh := rfl
@[simp] theorem State.setStr_str : (s.setStr f).str = f s.str := rfl

end

section
variable (s : State) (f : Tdm → Tdm)

@[simp] theorem State.setTdm_regs : (s.setTdm f).regs = s.regs := rfl
@[simp] theorem State.setTdm_sets : (s.setTdm f).sets = s.sets := rfl
@[simp] theorem State.setTdm_now : (s.setTdm f).now = s.now := rfl
@[simp] theorem State.setTdm_hold : (s.setTdm f).hold = s.hold := rfl
@[simp] theorem State.setTdm_whold : (s.setTdm f).whold = s.whold := rfl
@[simp] theorem State.setTdm_applied : (s.setTdm f).applied = s.applied := rfl
@[simp] theorem State.setTdm_lastRead : (s.setTdm f).lastRead = s.lastRead := rfl
@[simp] theorem State.setTdm_mem : (s.setTdm f).mem = s.mem := rfl
@[simp] theorem State.setTdm_moduleId : (s.setTdm f).moduleId = s.moduleId := rfl
@[simp] theorem State.setTdm_pref : (s.setTdm f).pref = s.pref := rfl
@[simp] theorem State.setTdm_twiAddr : (s.setTdm f).twiAddr = s.twiAddr := rfl
@[simp] theorem State.setTdm_testMode : (s.setTdm f).testMode = s.testMode := rfl
@[simp] theorem State.setTdm_bootKeys : (s.setTdm f).bootKeys = s.bootKeys := rfl
@[simp] theorem State.setTdm_clk : (s.setTdm f).clk = s.clk := rfl
@[simp] theorem State.setTdm_clkx : (s.setTdm f).clkx = s.clkx := rfl
@[simp] theorem State.setTdm_run : (s.setTdm f).run = s.run := rfl
@[simp] theorem State.setTdm_flt : (s.setTdm f).flt = s.flt := rfl
@[simp] theorem State.setTdm_warmReq : (s.setTdm f).warmReq = s.warmReq := rfl
@[simp] theorem State.setTdm_hif : (s.setTdm f).hif = s.hif := rfl
@[simp] theorem State.setTdm_sched : (s.setTdm f).sched = s.sched := rfl
@[simp] theorem State.setTdm_fab : (s.setTdm f).fab = s.fab := rfl
@[simp] theorem State.setTdm_eng : (s.setTdm f).eng = s.eng := rfl
@[simp] theorem State.setTdm_mix : (s.setTdm f).mix = s.mix := rfl
@[simp] theorem State.setTdm_str : (s.setTdm f).str = s.str := rfl
@[simp] theorem State.setTdm_amp : (s.setTdm f).amp = s.amp := rfl
@[simp] theorem State.setTdm_twn : (s.setTdm f).twn = s.twn := rfl
@[simp] theorem State.setTdm_eth : (s.setTdm f).eth = s.eth := rfl
@[simp] theorem State.setTdm_sram : (s.setTdm f).sram = s.sram := rfl
@[simp] theorem State.setTdm_ddr : (s.setTdm f).ddr = s.ddr := rfl
@[simp] theorem State.setTdm_tgt : (s.setTdm f).tgt = s.tgt := rfl
@[simp] theorem State.setTdm_pwr : (s.setTdm f).pwr = s.pwr := rfl
@[simp] theorem State.setTdm_pending : (s.setTdm f).pending = s.pending := rfl
@[simp] theorem State.setTdm_outbox : (s.setTdm f).outbox = s.outbox := rfl
@[simp] theorem State.setTdm_fresh : (s.setTdm f).fresh = s.fresh := rfl
@[simp] theorem State.setTdm_tdm : (s.setTdm f).tdm = f s.tdm := rfl

end

section
variable (s : State) (f : Amp → Amp)

@[simp] theorem State.setAmp_regs : (s.setAmp f).regs = s.regs := rfl
@[simp] theorem State.setAmp_sets : (s.setAmp f).sets = s.sets := rfl
@[simp] theorem State.setAmp_now : (s.setAmp f).now = s.now := rfl
@[simp] theorem State.setAmp_hold : (s.setAmp f).hold = s.hold := rfl
@[simp] theorem State.setAmp_whold : (s.setAmp f).whold = s.whold := rfl
@[simp] theorem State.setAmp_applied : (s.setAmp f).applied = s.applied := rfl
@[simp] theorem State.setAmp_lastRead : (s.setAmp f).lastRead = s.lastRead := rfl
@[simp] theorem State.setAmp_mem : (s.setAmp f).mem = s.mem := rfl
@[simp] theorem State.setAmp_moduleId : (s.setAmp f).moduleId = s.moduleId := rfl
@[simp] theorem State.setAmp_pref : (s.setAmp f).pref = s.pref := rfl
@[simp] theorem State.setAmp_twiAddr : (s.setAmp f).twiAddr = s.twiAddr := rfl
@[simp] theorem State.setAmp_testMode : (s.setAmp f).testMode = s.testMode := rfl
@[simp] theorem State.setAmp_bootKeys : (s.setAmp f).bootKeys = s.bootKeys := rfl
@[simp] theorem State.setAmp_clk : (s.setAmp f).clk = s.clk := rfl
@[simp] theorem State.setAmp_clkx : (s.setAmp f).clkx = s.clkx := rfl
@[simp] theorem State.setAmp_run : (s.setAmp f).run = s.run := rfl
@[simp] theorem State.setAmp_flt : (s.setAmp f).flt = s.flt := rfl
@[simp] theorem State.setAmp_warmReq : (s.setAmp f).warmReq = s.warmReq := rfl
@[simp] theorem State.setAmp_hif : (s.setAmp f).hif = s.hif := rfl
@[simp] theorem State.setAmp_sched : (s.setAmp f).sched = s.sched := rfl
@[simp] theorem State.setAmp_fab : (s.setAmp f).fab = s.fab := rfl
@[simp] theorem State.setAmp_eng : (s.setAmp f).eng = s.eng := rfl
@[simp] theorem State.setAmp_mix : (s.setAmp f).mix = s.mix := rfl
@[simp] theorem State.setAmp_str : (s.setAmp f).str = s.str := rfl
@[simp] theorem State.setAmp_tdm : (s.setAmp f).tdm = s.tdm := rfl
@[simp] theorem State.setAmp_twn : (s.setAmp f).twn = s.twn := rfl
@[simp] theorem State.setAmp_eth : (s.setAmp f).eth = s.eth := rfl
@[simp] theorem State.setAmp_sram : (s.setAmp f).sram = s.sram := rfl
@[simp] theorem State.setAmp_ddr : (s.setAmp f).ddr = s.ddr := rfl
@[simp] theorem State.setAmp_tgt : (s.setAmp f).tgt = s.tgt := rfl
@[simp] theorem State.setAmp_pwr : (s.setAmp f).pwr = s.pwr := rfl
@[simp] theorem State.setAmp_pending : (s.setAmp f).pending = s.pending := rfl
@[simp] theorem State.setAmp_outbox : (s.setAmp f).outbox = s.outbox := rfl
@[simp] theorem State.setAmp_fresh : (s.setAmp f).fresh = s.fresh := rfl
@[simp] theorem State.setAmp_amp : (s.setAmp f).amp = f s.amp := rfl

end

section
variable (s : State) (f : Twin → Twin)

@[simp] theorem State.setTwn_regs : (s.setTwn f).regs = s.regs := rfl
@[simp] theorem State.setTwn_sets : (s.setTwn f).sets = s.sets := rfl
@[simp] theorem State.setTwn_now : (s.setTwn f).now = s.now := rfl
@[simp] theorem State.setTwn_hold : (s.setTwn f).hold = s.hold := rfl
@[simp] theorem State.setTwn_whold : (s.setTwn f).whold = s.whold := rfl
@[simp] theorem State.setTwn_applied : (s.setTwn f).applied = s.applied := rfl
@[simp] theorem State.setTwn_lastRead : (s.setTwn f).lastRead = s.lastRead := rfl
@[simp] theorem State.setTwn_mem : (s.setTwn f).mem = s.mem := rfl
@[simp] theorem State.setTwn_moduleId : (s.setTwn f).moduleId = s.moduleId := rfl
@[simp] theorem State.setTwn_pref : (s.setTwn f).pref = s.pref := rfl
@[simp] theorem State.setTwn_twiAddr : (s.setTwn f).twiAddr = s.twiAddr := rfl
@[simp] theorem State.setTwn_testMode : (s.setTwn f).testMode = s.testMode := rfl
@[simp] theorem State.setTwn_bootKeys : (s.setTwn f).bootKeys = s.bootKeys := rfl
@[simp] theorem State.setTwn_clk : (s.setTwn f).clk = s.clk := rfl
@[simp] theorem State.setTwn_clkx : (s.setTwn f).clkx = s.clkx := rfl
@[simp] theorem State.setTwn_run : (s.setTwn f).run = s.run := rfl
@[simp] theorem State.setTwn_flt : (s.setTwn f).flt = s.flt := rfl
@[simp] theorem State.setTwn_warmReq : (s.setTwn f).warmReq = s.warmReq := rfl
@[simp] theorem State.setTwn_hif : (s.setTwn f).hif = s.hif := rfl
@[simp] theorem State.setTwn_sched : (s.setTwn f).sched = s.sched := rfl
@[simp] theorem State.setTwn_fab : (s.setTwn f).fab = s.fab := rfl
@[simp] theorem State.setTwn_eng : (s.setTwn f).eng = s.eng := rfl
@[simp] theorem State.setTwn_mix : (s.setTwn f).mix = s.mix := rfl
@[simp] theorem State.setTwn_str : (s.setTwn f).str = s.str := rfl
@[simp] theorem State.setTwn_tdm : (s.setTwn f).tdm = s.tdm := rfl
@[simp] theorem State.setTwn_amp : (s.setTwn f).amp = s.amp := rfl
@[simp] theorem State.setTwn_eth : (s.setTwn f).eth = s.eth := rfl
@[simp] theorem State.setTwn_sram : (s.setTwn f).sram = s.sram := rfl
@[simp] theorem State.setTwn_ddr : (s.setTwn f).ddr = s.ddr := rfl
@[simp] theorem State.setTwn_tgt : (s.setTwn f).tgt = s.tgt := rfl
@[simp] theorem State.setTwn_pwr : (s.setTwn f).pwr = s.pwr := rfl
@[simp] theorem State.setTwn_pending : (s.setTwn f).pending = s.pending := rfl
@[simp] theorem State.setTwn_outbox : (s.setTwn f).outbox = s.outbox := rfl
@[simp] theorem State.setTwn_fresh : (s.setTwn f).fresh = s.fresh := rfl
@[simp] theorem State.setTwn_twn : (s.setTwn f).twn = f s.twn := rfl

end

section
variable (s : State) (f : Eth → Eth)

@[simp] theorem State.setEth_regs : (s.setEth f).regs = s.regs := rfl
@[simp] theorem State.setEth_sets : (s.setEth f).sets = s.sets := rfl
@[simp] theorem State.setEth_now : (s.setEth f).now = s.now := rfl
@[simp] theorem State.setEth_hold : (s.setEth f).hold = s.hold := rfl
@[simp] theorem State.setEth_whold : (s.setEth f).whold = s.whold := rfl
@[simp] theorem State.setEth_applied : (s.setEth f).applied = s.applied := rfl
@[simp] theorem State.setEth_lastRead : (s.setEth f).lastRead = s.lastRead := rfl
@[simp] theorem State.setEth_mem : (s.setEth f).mem = s.mem := rfl
@[simp] theorem State.setEth_moduleId : (s.setEth f).moduleId = s.moduleId := rfl
@[simp] theorem State.setEth_pref : (s.setEth f).pref = s.pref := rfl
@[simp] theorem State.setEth_twiAddr : (s.setEth f).twiAddr = s.twiAddr := rfl
@[simp] theorem State.setEth_testMode : (s.setEth f).testMode = s.testMode := rfl
@[simp] theorem State.setEth_bootKeys : (s.setEth f).bootKeys = s.bootKeys := rfl
@[simp] theorem State.setEth_clk : (s.setEth f).clk = s.clk := rfl
@[simp] theorem State.setEth_clkx : (s.setEth f).clkx = s.clkx := rfl
@[simp] theorem State.setEth_run : (s.setEth f).run = s.run := rfl
@[simp] theorem State.setEth_flt : (s.setEth f).flt = s.flt := rfl
@[simp] theorem State.setEth_warmReq : (s.setEth f).warmReq = s.warmReq := rfl
@[simp] theorem State.setEth_hif : (s.setEth f).hif = s.hif := rfl
@[simp] theorem State.setEth_sched : (s.setEth f).sched = s.sched := rfl
@[simp] theorem State.setEth_fab : (s.setEth f).fab = s.fab := rfl
@[simp] theorem State.setEth_eng : (s.setEth f).eng = s.eng := rfl
@[simp] theorem State.setEth_mix : (s.setEth f).mix = s.mix := rfl
@[simp] theorem State.setEth_str : (s.setEth f).str = s.str := rfl
@[simp] theorem State.setEth_tdm : (s.setEth f).tdm = s.tdm := rfl
@[simp] theorem State.setEth_amp : (s.setEth f).amp = s.amp := rfl
@[simp] theorem State.setEth_twn : (s.setEth f).twn = s.twn := rfl
@[simp] theorem State.setEth_sram : (s.setEth f).sram = s.sram := rfl
@[simp] theorem State.setEth_ddr : (s.setEth f).ddr = s.ddr := rfl
@[simp] theorem State.setEth_tgt : (s.setEth f).tgt = s.tgt := rfl
@[simp] theorem State.setEth_pwr : (s.setEth f).pwr = s.pwr := rfl
@[simp] theorem State.setEth_pending : (s.setEth f).pending = s.pending := rfl
@[simp] theorem State.setEth_outbox : (s.setEth f).outbox = s.outbox := rfl
@[simp] theorem State.setEth_fresh : (s.setEth f).fresh = s.fresh := rfl
@[simp] theorem State.setEth_eth : (s.setEth f).eth = f s.eth := rfl

end

section
variable (s : State) (f : Sram → Sram)

@[simp] theorem State.setSram_regs : (s.setSram f).regs = s.regs := rfl
@[simp] theorem State.setSram_sets : (s.setSram f).sets = s.sets := rfl
@[simp] theorem State.setSram_now : (s.setSram f).now = s.now := rfl
@[simp] theorem State.setSram_hold : (s.setSram f).hold = s.hold := rfl
@[simp] theorem State.setSram_whold : (s.setSram f).whold = s.whold := rfl
@[simp] theorem State.setSram_applied : (s.setSram f).applied = s.applied := rfl
@[simp] theorem State.setSram_lastRead : (s.setSram f).lastRead = s.lastRead := rfl
@[simp] theorem State.setSram_mem : (s.setSram f).mem = s.mem := rfl
@[simp] theorem State.setSram_moduleId : (s.setSram f).moduleId = s.moduleId := rfl
@[simp] theorem State.setSram_pref : (s.setSram f).pref = s.pref := rfl
@[simp] theorem State.setSram_twiAddr : (s.setSram f).twiAddr = s.twiAddr := rfl
@[simp] theorem State.setSram_testMode : (s.setSram f).testMode = s.testMode := rfl
@[simp] theorem State.setSram_bootKeys : (s.setSram f).bootKeys = s.bootKeys := rfl
@[simp] theorem State.setSram_clk : (s.setSram f).clk = s.clk := rfl
@[simp] theorem State.setSram_clkx : (s.setSram f).clkx = s.clkx := rfl
@[simp] theorem State.setSram_run : (s.setSram f).run = s.run := rfl
@[simp] theorem State.setSram_flt : (s.setSram f).flt = s.flt := rfl
@[simp] theorem State.setSram_warmReq : (s.setSram f).warmReq = s.warmReq := rfl
@[simp] theorem State.setSram_hif : (s.setSram f).hif = s.hif := rfl
@[simp] theorem State.setSram_sched : (s.setSram f).sched = s.sched := rfl
@[simp] theorem State.setSram_fab : (s.setSram f).fab = s.fab := rfl
@[simp] theorem State.setSram_eng : (s.setSram f).eng = s.eng := rfl
@[simp] theorem State.setSram_mix : (s.setSram f).mix = s.mix := rfl
@[simp] theorem State.setSram_str : (s.setSram f).str = s.str := rfl
@[simp] theorem State.setSram_tdm : (s.setSram f).tdm = s.tdm := rfl
@[simp] theorem State.setSram_amp : (s.setSram f).amp = s.amp := rfl
@[simp] theorem State.setSram_twn : (s.setSram f).twn = s.twn := rfl
@[simp] theorem State.setSram_eth : (s.setSram f).eth = s.eth := rfl
@[simp] theorem State.setSram_ddr : (s.setSram f).ddr = s.ddr := rfl
@[simp] theorem State.setSram_tgt : (s.setSram f).tgt = s.tgt := rfl
@[simp] theorem State.setSram_pwr : (s.setSram f).pwr = s.pwr := rfl
@[simp] theorem State.setSram_pending : (s.setSram f).pending = s.pending := rfl
@[simp] theorem State.setSram_outbox : (s.setSram f).outbox = s.outbox := rfl
@[simp] theorem State.setSram_fresh : (s.setSram f).fresh = s.fresh := rfl
@[simp] theorem State.setSram_sram : (s.setSram f).sram = f s.sram := rfl

end

section
variable (s : State) (f : Ddr → Ddr)

@[simp] theorem State.setDdr_regs : (s.setDdr f).regs = s.regs := rfl
@[simp] theorem State.setDdr_sets : (s.setDdr f).sets = s.sets := rfl
@[simp] theorem State.setDdr_now : (s.setDdr f).now = s.now := rfl
@[simp] theorem State.setDdr_hold : (s.setDdr f).hold = s.hold := rfl
@[simp] theorem State.setDdr_whold : (s.setDdr f).whold = s.whold := rfl
@[simp] theorem State.setDdr_applied : (s.setDdr f).applied = s.applied := rfl
@[simp] theorem State.setDdr_lastRead : (s.setDdr f).lastRead = s.lastRead := rfl
@[simp] theorem State.setDdr_mem : (s.setDdr f).mem = s.mem := rfl
@[simp] theorem State.setDdr_moduleId : (s.setDdr f).moduleId = s.moduleId := rfl
@[simp] theorem State.setDdr_pref : (s.setDdr f).pref = s.pref := rfl
@[simp] theorem State.setDdr_twiAddr : (s.setDdr f).twiAddr = s.twiAddr := rfl
@[simp] theorem State.setDdr_testMode : (s.setDdr f).testMode = s.testMode := rfl
@[simp] theorem State.setDdr_bootKeys : (s.setDdr f).bootKeys = s.bootKeys := rfl
@[simp] theorem State.setDdr_clk : (s.setDdr f).clk = s.clk := rfl
@[simp] theorem State.setDdr_clkx : (s.setDdr f).clkx = s.clkx := rfl
@[simp] theorem State.setDdr_run : (s.setDdr f).run = s.run := rfl
@[simp] theorem State.setDdr_flt : (s.setDdr f).flt = s.flt := rfl
@[simp] theorem State.setDdr_warmReq : (s.setDdr f).warmReq = s.warmReq := rfl
@[simp] theorem State.setDdr_hif : (s.setDdr f).hif = s.hif := rfl
@[simp] theorem State.setDdr_sched : (s.setDdr f).sched = s.sched := rfl
@[simp] theorem State.setDdr_fab : (s.setDdr f).fab = s.fab := rfl
@[simp] theorem State.setDdr_eng : (s.setDdr f).eng = s.eng := rfl
@[simp] theorem State.setDdr_mix : (s.setDdr f).mix = s.mix := rfl
@[simp] theorem State.setDdr_str : (s.setDdr f).str = s.str := rfl
@[simp] theorem State.setDdr_tdm : (s.setDdr f).tdm = s.tdm := rfl
@[simp] theorem State.setDdr_amp : (s.setDdr f).amp = s.amp := rfl
@[simp] theorem State.setDdr_twn : (s.setDdr f).twn = s.twn := rfl
@[simp] theorem State.setDdr_eth : (s.setDdr f).eth = s.eth := rfl
@[simp] theorem State.setDdr_sram : (s.setDdr f).sram = s.sram := rfl
@[simp] theorem State.setDdr_tgt : (s.setDdr f).tgt = s.tgt := rfl
@[simp] theorem State.setDdr_pwr : (s.setDdr f).pwr = s.pwr := rfl
@[simp] theorem State.setDdr_pending : (s.setDdr f).pending = s.pending := rfl
@[simp] theorem State.setDdr_outbox : (s.setDdr f).outbox = s.outbox := rfl
@[simp] theorem State.setDdr_fresh : (s.setDdr f).fresh = s.fresh := rfl
@[simp] theorem State.setDdr_ddr : (s.setDdr f).ddr = f s.ddr := rfl

end

section
variable (s : State) (f : TwiTgt → TwiTgt)

@[simp] theorem State.setTgt_regs : (s.setTgt f).regs = s.regs := rfl
@[simp] theorem State.setTgt_sets : (s.setTgt f).sets = s.sets := rfl
@[simp] theorem State.setTgt_now : (s.setTgt f).now = s.now := rfl
@[simp] theorem State.setTgt_hold : (s.setTgt f).hold = s.hold := rfl
@[simp] theorem State.setTgt_whold : (s.setTgt f).whold = s.whold := rfl
@[simp] theorem State.setTgt_applied : (s.setTgt f).applied = s.applied := rfl
@[simp] theorem State.setTgt_lastRead : (s.setTgt f).lastRead = s.lastRead := rfl
@[simp] theorem State.setTgt_mem : (s.setTgt f).mem = s.mem := rfl
@[simp] theorem State.setTgt_moduleId : (s.setTgt f).moduleId = s.moduleId := rfl
@[simp] theorem State.setTgt_pref : (s.setTgt f).pref = s.pref := rfl
@[simp] theorem State.setTgt_twiAddr : (s.setTgt f).twiAddr = s.twiAddr := rfl
@[simp] theorem State.setTgt_testMode : (s.setTgt f).testMode = s.testMode := rfl
@[simp] theorem State.setTgt_bootKeys : (s.setTgt f).bootKeys = s.bootKeys := rfl
@[simp] theorem State.setTgt_clk : (s.setTgt f).clk = s.clk := rfl
@[simp] theorem State.setTgt_clkx : (s.setTgt f).clkx = s.clkx := rfl
@[simp] theorem State.setTgt_run : (s.setTgt f).run = s.run := rfl
@[simp] theorem State.setTgt_flt : (s.setTgt f).flt = s.flt := rfl
@[simp] theorem State.setTgt_warmReq : (s.setTgt f).warmReq = s.warmReq := rfl
@[simp] theorem State.setTgt_hif : (s.setTgt f).hif = s.hif := rfl
@[simp] theorem State.setTgt_sched : (s.setTgt f).sched = s.sched := rfl
@[simp] theorem State.setTgt_fab : (s.setTgt f).fab = s.fab := rfl
@[simp] theorem State.setTgt_eng : (s.setTgt f).eng = s.eng := rfl
@[simp] theorem State.setTgt_mix : (s.setTgt f).mix = s.mix := rfl
@[simp] theorem State.setTgt_str : (s.setTgt f).str = s.str := rfl
@[simp] theorem State.setTgt_tdm : (s.setTgt f).tdm = s.tdm := rfl
@[simp] theorem State.setTgt_amp : (s.setTgt f).amp = s.amp := rfl
@[simp] theorem State.setTgt_twn : (s.setTgt f).twn = s.twn := rfl
@[simp] theorem State.setTgt_eth : (s.setTgt f).eth = s.eth := rfl
@[simp] theorem State.setTgt_sram : (s.setTgt f).sram = s.sram := rfl
@[simp] theorem State.setTgt_ddr : (s.setTgt f).ddr = s.ddr := rfl
@[simp] theorem State.setTgt_pwr : (s.setTgt f).pwr = s.pwr := rfl
@[simp] theorem State.setTgt_pending : (s.setTgt f).pending = s.pending := rfl
@[simp] theorem State.setTgt_outbox : (s.setTgt f).outbox = s.outbox := rfl
@[simp] theorem State.setTgt_fresh : (s.setTgt f).fresh = s.fresh := rfl
@[simp] theorem State.setTgt_tgt : (s.setTgt f).tgt = f s.tgt := rfl

end

section
variable (s : State) (f : Pwr → Pwr)

@[simp] theorem State.setPwr_regs : (s.setPwr f).regs = s.regs := rfl
@[simp] theorem State.setPwr_sets : (s.setPwr f).sets = s.sets := rfl
@[simp] theorem State.setPwr_now : (s.setPwr f).now = s.now := rfl
@[simp] theorem State.setPwr_hold : (s.setPwr f).hold = s.hold := rfl
@[simp] theorem State.setPwr_whold : (s.setPwr f).whold = s.whold := rfl
@[simp] theorem State.setPwr_applied : (s.setPwr f).applied = s.applied := rfl
@[simp] theorem State.setPwr_lastRead : (s.setPwr f).lastRead = s.lastRead := rfl
@[simp] theorem State.setPwr_mem : (s.setPwr f).mem = s.mem := rfl
@[simp] theorem State.setPwr_moduleId : (s.setPwr f).moduleId = s.moduleId := rfl
@[simp] theorem State.setPwr_pref : (s.setPwr f).pref = s.pref := rfl
@[simp] theorem State.setPwr_twiAddr : (s.setPwr f).twiAddr = s.twiAddr := rfl
@[simp] theorem State.setPwr_testMode : (s.setPwr f).testMode = s.testMode := rfl
@[simp] theorem State.setPwr_bootKeys : (s.setPwr f).bootKeys = s.bootKeys := rfl
@[simp] theorem State.setPwr_clk : (s.setPwr f).clk = s.clk := rfl
@[simp] theorem State.setPwr_clkx : (s.setPwr f).clkx = s.clkx := rfl
@[simp] theorem State.setPwr_run : (s.setPwr f).run = s.run := rfl
@[simp] theorem State.setPwr_flt : (s.setPwr f).flt = s.flt := rfl
@[simp] theorem State.setPwr_warmReq : (s.setPwr f).warmReq = s.warmReq := rfl
@[simp] theorem State.setPwr_hif : (s.setPwr f).hif = s.hif := rfl
@[simp] theorem State.setPwr_sched : (s.setPwr f).sched = s.sched := rfl
@[simp] theorem State.setPwr_fab : (s.setPwr f).fab = s.fab := rfl
@[simp] theorem State.setPwr_eng : (s.setPwr f).eng = s.eng := rfl
@[simp] theorem State.setPwr_mix : (s.setPwr f).mix = s.mix := rfl
@[simp] theorem State.setPwr_str : (s.setPwr f).str = s.str := rfl
@[simp] theorem State.setPwr_tdm : (s.setPwr f).tdm = s.tdm := rfl
@[simp] theorem State.setPwr_amp : (s.setPwr f).amp = s.amp := rfl
@[simp] theorem State.setPwr_twn : (s.setPwr f).twn = s.twn := rfl
@[simp] theorem State.setPwr_eth : (s.setPwr f).eth = s.eth := rfl
@[simp] theorem State.setPwr_sram : (s.setPwr f).sram = s.sram := rfl
@[simp] theorem State.setPwr_ddr : (s.setPwr f).ddr = s.ddr := rfl
@[simp] theorem State.setPwr_tgt : (s.setPwr f).tgt = s.tgt := rfl
@[simp] theorem State.setPwr_pending : (s.setPwr f).pending = s.pending := rfl
@[simp] theorem State.setPwr_outbox : (s.setPwr f).outbox = s.outbox := rfl
@[simp] theorem State.setPwr_fresh : (s.setPwr f).fresh = s.fresh := rfl
@[simp] theorem State.setPwr_pwr : (s.setPwr f).pwr = f s.pwr := rfl

end

/-! ## What the plain updates write -/

@[simp] theorem State.emit_outbox (s : State) (o : Out) : (s.emit o).outbox = s.outbox ++ [o] := rfl

@[simp] theorem State.tick1_fresh (s : State) : s.tick1.fresh = s.fresh + 1 := rfl

end Sys2Proof.Machine
end

