-- ==== Sys2Proof/Laws/Tbl.lean ====
section
/-!
SUPPORT. The laws of sparse tables: a read after a write, and that a write keeps the canonical form.
-/

namespace Sys2Proof.Tbl

variable {α : Type}

@[simp] theorem get_nil (d : Nat → α) (a : Nat) : get d [] a = d a := rfl

theorem get_put (d : Nat → α) (t : List (Nat × α)) (a b : Nat) (v : α) :
    get d (put a v t) b = if a = b then v else get d t b := by
  induction t with
  | nil => simp [put, get]
  | cons e r ih =>
    obtain ⟨k, w⟩ := e
    simp only [put]
    split_ifs with h1 h2 <;> simp_all [get]

theorem get_drop (d : Nat → α) (t : List (Nat × α)) (a b : Nat) :
    get d (drop a t) b = if a = b then d b else get d t b := by
  induction t with
  | nil => simp [drop, get]
  | cons e r ih =>
    obtain ⟨k, w⟩ := e
    simp only [drop, List.filter_cons] at ih ⊢
    by_cases hk : k = a
    · subst hk
      simp only [ne_eq, not_true_eq_false, decide_false, Bool.false_eq_true, ↓reduceIte, ih, get]
      split_ifs <;> rfl
    · by_cases hb : k = b
      · subst hb; simp [hk, get, Ne.symm hk]
      · simp only [ne_eq, hk, not_false_eq_true, decide_true, ↓reduceIte, get, hb]; exact ih

/-- A read after a write of the same key gives the value written; of any other key, what it gave before. -/
theorem get_set [DecidableEq α] (d : Nat → α) (t : List (Nat × α)) (a b : Nat) (v : α) :
    get d (set d t a v) b = if a = b then v else get d t b := by
  unfold set
  by_cases h1 : v = d a
  · rw [if_pos h1, get_drop]
    by_cases h2 : a = b
    · subst h2; simp [h1]
    · simp [h2]
  · rw [if_neg h1, get_put]

@[simp] theorem get_set_self [DecidableEq α] (d : Nat → α) (t : List (Nat × α)) (a : Nat) (v : α) :
    get d (set d t a v) a = v := by simp [get_set]

theorem get_set_of_ne [DecidableEq α] (d : Nat → α) (t : List (Nat × α)) {a b : Nat} (v : α) (h : a ≠ b) :
    get d (set d t a v) b = get d t b := by simp [get_set, h]

theorem mem_put {t : List (Nat × α)} {a : Nat} {v : α} {e : Nat × α} (h : e ∈ put a v t) :
    e = (a, v) ∨ e ∈ t := by
  induction t with
  | nil => simpa [put] using h
  | cons x r ih =>
    obtain ⟨k, w⟩ := x
    simp only [put] at h
    split_ifs at h <;> simp at h ⊢ <;> tauto

theorem put_rising {t : List (Nat × α)} (a : Nat) (v : α)
    (h : t.Pairwise fun x y => x.1 < y.1) : (put a v t).Pairwise fun x y => x.1 < y.1 := by
  induction t with
  | nil => simp [put]
  | cons x r ih =>
    obtain ⟨k, w⟩ := x
    simp only [List.pairwise_cons] at h
    simp only [put]
    split_ifs with h1 h2
    · subst h1; exact List.pairwise_cons.mpr ⟨h.1, h.2⟩
    · refine List.pairwise_cons.mpr ⟨?_, List.pairwise_cons.mpr h⟩
      intro y hy
      rcases List.mem_cons.mp hy with rfl | hy
      · exact h2
      · exact lt_trans h2 (h.1 y hy)
    · refine List.pairwise_cons.mpr ⟨?_, ih h.2⟩
      intro y hy
      rcases mem_put hy with rfl | hy
      · simp; omega
      · exact h.1 y hy

/-- Every write keeps the canonical form. -/
theorem set_wf [DecidableEq α] {d : Nat → α} {t : List (Nat × α)} (a : Nat) (v : α) (h : wf d t) :
    wf d (set d t a v) := by
  unfold set
  split_ifs with h1
  · exact ⟨List.Pairwise.filter _ h.1, fun e he => h.2 e (List.mem_filter.mp he).1⟩
  · refine ⟨put_rising a v h.1, fun e he => ?_⟩
    rcases mem_put he with rfl | he
    · exact h1
    · exact h.2 e he

@[simp] theorem wf_nil (d : Nat → α) : wf d [] := by simp [wf]

end Sys2Proof.Tbl
end

