-- ==== Sys2Proof/Laws/Ops.lean ====
section
/-!
SUPPORT. What the shared operations do: registers and fields read back what was written, bytes likewise, every write keeps the
canonical form; and for the longer operations which parts of the state they can change.
-/

namespace Sys2Proof.Machine

/-! ## Registers -/

theorem State.reg_put (s : State) (o : Nat) (w : Word) (a : Nat) : (s.put o w).reg a = if o = a then w else s.reg a :=
  Tbl.get_set _ _ _ _ _

@[simp] theorem State.reg_put_self (s : State) (o : Nat) (w : Word) : (s.put o w).reg o = w := by simp [State.reg_put]

theorem State.reg_put_of_ne (s : State) {o a : Nat} (w : Word) (h : o ≠ a) : (s.put o w).reg a = s.reg a := by
  simp [State.reg_put, h]

theorem State.reg_setFld (s : State) (f : Fld) (v a : Nat) :
    (s.setFld f v).reg a = if f.reg = a then setBits (s.reg a) f.hi f.lo v else s.reg a := by
  unfold State.setFld
  rw [State.reg_put]
  split_ifs with h
  · rw [h]
  · rfl

theorem State.reg_setFld_of_ne (s : State) {f : Fld} (v : Nat) {a : Nat} (h : f.reg ≠ a) :
    (s.setFld f v).reg a = s.reg a := by simp [State.reg_setFld, h]

/-- A field reads back what was set in it. -/
theorem State.fld_setFld_self (s : State) (f : Fld) (v : Nat) (h : f.hi < 32) :
    (s.setFld f v).fld f = v % 2 ^ (f.hi + 1 - f.lo) := by
  simp [State.fld, State.reg_setFld, bitsOf_setBits _ _ _ _ h]

/-- Setting a field leaves a field of another register, or one above or below it, alone. -/
theorem State.fld_setFld_of_apart (s : State) (f g : Fld) (v : Nat) (hg : g.hi < 32)
    (h : f.reg ≠ g.reg ∨ f.hi < g.lo ∨ g.hi < f.lo) : (s.setFld f v).fld g = s.fld g := by
  simp only [State.fld, State.reg_setFld]
  split_ifs with he
  · exact bitsOf_setBits_of_apart _ _ _ _ _ _ hg (by tauto)
  · rfl

theorem State.fld_put_of_ne (s : State) {o : Nat} (w : Word) {f : Fld} (h : o ≠ f.reg) : (s.put o w).fld f = s.fld f := by
  simp [State.fld, State.reg_put, h]

/-- Setting a flag sets its field; beside the registers it notes the bit for the present clock cycle (R11). -/
theorem State.reg_setFlag (s : State) (f : Fld) (b : Bool) (a : Nat) : (s.setFlag f b).reg a = (s.setFld f (bit b)).reg a := rfl

theorem State.fld_setFlag (s : State) (f g : Fld) (b : Bool) : (s.setFlag f b).fld g = (s.setFld f (bit b)).fld g := rfl

/-- A flag reads back what was set in it. -/
theorem State.flag_setFlag_self (s : State) (f : Fld) (b : Bool) (h : f.hi < 32) (h1 : f.hi = f.lo) :
    (s.setFlag f b).flag f = b := by
  have h2 : f.lo + 1 - f.lo = 1 := by omega
  cases b <;> simp [State.flag, State.fld_setFlag, State.fld_setFld_self _ _ _ h, h1, bit]

/-- A write of 1 does not clear a bit that the hardware set in the present clock cycle (R11). -/
theorem State.clearFlag_of_now (s : State) (f : Fld) (h : bitsOf (s.setNow f.reg) f.hi f.lo = 1) : s.clearFlag f = s := if_pos h

/-- Any other bit clears (R9). -/
theorem State.clearFlag_of_not_now (s : State) (f : Fld) (h : bitsOf (s.setNow f.reg) f.hi f.lo ≠ 1) :
    s.clearFlag f = s.setFlag f false := if_neg h

/-- A flag that is set counts as set in the present clock cycle (R11). -/
theorem State.setNow_setFlag_self (s : State) (f : Fld) (h : f.hi < 32) (h1 : f.hi = f.lo) :
    bitsOf ((s.setFlag f true).setNow f.reg) f.hi f.lo = 1 := by
  have h2 : f.lo + 1 - f.lo = 1 := by omega
  have h3 : f.lo < 32 := h1 ▸ h
  simp [State.setFlag, State.noteSet, State.setNow, h1, bitsOf_setBits _ _ _ _ h3, h2]

theorem State.reg_countBy (s : State) (o n a : Nat) :
    (s.countBy o n).reg a = if o = a then word (min ((s.reg o).toNat + n) 0xFFFFFFFF) else s.reg a := State.reg_put _ _ _ _

/-- A counter counts up and stays at 0xFFFF_FFFF (R37). -/
theorem State.reg_count_toNat (s : State) (o : Nat) :
    ((s.count o).reg o).toNat = min ((s.reg o).toNat + 1) 0xFFFFFFFF := by
  simp only [State.count, State.reg_countBy, if_pos]
  exact Nat.mod_eq_of_lt (by omega)

@[simp] theorem State.reg_emit (s : State) (o : Out) (a : Nat) : (s.emit o).reg a = s.reg a := rfl

@[simp] theorem State.reg_tick1 (s : State) (a : Nat) : s.tick1.reg a = s.reg a := rfl

@[simp] theorem State.reg_putByte (s : State) (x : Nat) (b : Byte) (a : Nat) : (s.putByte x b).reg a = s.reg a := rfl

/-! ## Memory -/

theorem State.byte_putByte (s : State) (a x : Nat) (b : Byte) : (s.putByte a b).byte x = if a = x then b else s.byte x :=
  Tbl.get_set _ _ _ _ _

/-- Every write of a byte keeps memory canonical. -/
theorem State.putByte_wf {s : State} (a : Nat) (b : Byte) (h : memWf s.mem) : memWf (s.putByte a b).mem := Tbl.set_wf a b h

theorem State.putBytes_wf {s : State} (a : Nat) (bs : List Byte) (h : memWf s.mem) : memWf (s.putBytes a bs).mem := by
  induction bs generalizing s a with
  | nil => exact h
  | cons b bs ih => exact ih (a + 1) (State.putByte_wf a b h)

/-- Bytes outside those stored read as before. -/
theorem State.byte_putBytes_of_out (s : State) (a x : Nat) (bs : List Byte) (h : x < a ∨ a + bs.length ≤ x) :
    (s.putBytes a bs).byte x = s.byte x := by
  induction bs generalizing s a with
  | nil => rfl
  | cons b bs ih =>
    simp only [List.length_cons] at h
    rw [State.putBytes, ih _ _ (by omega), State.byte_putByte, if_neg (by omega)]

/-- A byte stored reads back. -/
theorem State.byte_putBytes_of_in (s : State) (a i : Nat) (bs : List Byte) (h : i < bs.length) :
    (s.putBytes a bs).byte (a + i) = bs[i] := by
  induction bs generalizing s a i with
  | nil => simp at h
  | cons b bs ih =>
    cases i with
    | zero => rw [State.putBytes, State.byte_putBytes_of_out _ _ _ _ (by omega), State.byte_putByte]; simp
    | succ i =>
      have h' : i < bs.length := by simpa using h
      have e : a + (i + 1) = a + 1 + i := by omega
      rw [State.putBytes, e, ih _ _ _ h']
      simp

/-- Storing bytes changes memory alone. -/
theorem State.putBytes_changes (s : State) (a : Nat) (bs : List Byte) :
    s.putBytes a bs = { s with mem := (s.putBytes a bs).mem } := by
  induction bs generalizing s a with
  | nil => rfl
  | cons b bs ih => rw [State.putBytes, ih]; rfl

/-! ## The canonical form of registers -/

/-- Every write of a register keeps the registers canonical. -/
theorem State.put_wf {s : State} (o : Nat) (w : Word) (h : Tbl.wf resetWord s.regs) : Tbl.wf resetWord (s.put o w).regs :=
  Tbl.set_wf o w h

theorem State.resetRegs_wf {s : State} (p : Nat → Bool) (h : Tbl.wf resetWord s.regs) :
    Tbl.wf resetWord (s.resetRegs p).regs :=
  ⟨List.Pairwise.filter _ h.1, fun e he => h.2 e (List.mem_filter.mp he).1⟩

/-- Memory less some of its entries is canonical. -/
theorem memWf_filter {m : List Host.Cell} (p : Host.Cell → Bool) (h : memWf m) : memWf (m.filter p) :=
  ⟨List.Pairwise.filter _ h.1, fun e he => h.2 e (List.mem_filter.mp he).1⟩

/-! ## Time -/

/-- Sending on the partner link changes what waits there and what was sent. -/
theorem State.linkRun_changes (t0 n : Nat) (s : State) :
    ∃ w o, State.linkRun t0 n s = { s with twn := w, outbox := o } := by
  induction n generalizing s with
  | zero => exact ⟨s.twn, s.outbox, rfl⟩
  | succ n ih =>
    simp only [State.linkRun]
    split
    · rename_i l c _
      obtain ⟨w, o, h⟩ := ih (s.startMsg t0 l c)
      simp only [State.startMsg] at h ⊢
      split at h
      · exact ⟨w, o, h⟩
      · exact ⟨w, o, h⟩
    · exact ⟨s.twn, s.outbox, rfl⟩

/-! ## Rings and events -/

/-- The state differs from `s` at most in the host interface's data and in what was sent. -/
def State.SameButHost (s t : State) : Prop := ∃ h o, t = { s with hif := h, outbox := o }

theorem State.SameButHost.refl (s : State) : s.SameButHost s := ⟨_, _, rfl⟩

theorem State.SameButHost.trans {s t u : State} (h : s.SameButHost t) (k : t.SameButHost u) : s.SameButHost u := by
  obtain ⟨_, _, rfl⟩ := h; obtain ⟨_, _, rfl⟩ := k; exact ⟨_, _, rfl⟩

theorem State.setHif_sameButHost (s : State) (f : Hif → Hif) : s.SameButHost (s.setHif f) := ⟨_, _, rfl⟩

theorem State.emit_sameButHost (s : State) (o : Out) : s.SameButHost (s.emit o) := ⟨_, _, rfl⟩

/-- Steps that each change the host interface's data and what was sent change nothing else together. -/
theorem State.foldl_sameButHost {α : Type} (l : List α) (f : State → α → State) (hf : ∀ (t : State) (a : α), t.SameButHost (f t a)) (s : State) :
    s.SameButHost (l.foldl f s) := by
  induction l generalizing s with
  | nil => exact .refl s
  | cons a l ih => exact (hf s a).trans (ih (f s a))

/-- A write to host memory changes what was sent (R339). -/
theorem State.writeHost_sameButHost (s : State) (a : Nat) (b : List Byte) : s.SameButHost (s.writeHost a b) :=
  State.foldl_sameButHost _ _ (fun t _ => t.emit_sameButHost _) s

/-- A read of host memory changes what was sent (R339). -/
theorem State.readHost_sameButHost (s : State) (a n : Nat) : s.SameButHost (s.readHost a n) :=
  State.foldl_sameButHost _ _ (fun t _ => t.emit_sameButHost _) s

/-- An entry of a ring goes out, and the ring's producer index moves on; nothing else changes. -/
theorem State.pushRing_sameButHost (s : State) (r size : Nat) (b : List Byte) : s.SameButHost (s.pushRing r size b) :=
  ⟨_, _, rfl⟩

/-- An overflow event changes the host interface's data and what was sent (R360). -/
theorem State.overflow_sameButHost (s : State) : s.SameButHost s.overflow := by
  unfold State.overflow
  split
  · exact .refl s
  · exact (State.pushRing_sameButHost _ _ _ _).trans (State.setHif_sameButHost _ _)

/-- An event changes the host interface's data, what was sent, and one counter where it is dropped: HIF_EVT_DROP_CNT (R360). -/
theorem State.postEvent_changes (s : State) (ty sub : Nat) (d : List Byte) :
    s.SameButHost (s.postEvent ty sub d) ∨ (s.count R.HIF_EVT_DROP_CNT).SameButHost (s.postEvent ty sub d) := by
  simp only [State.postEvent]
  generalize (!(s.hostUp && (s.ring 8).en) || decide (s.ringRoom 8 = 0)) = c
  cases c
  · refine .inl ?_
    rw [if_neg (by simp)]
    have h := s.overflow_sameButHost.trans (State.pushRing_sameButHost s.overflow 8 32
      (eventEntry ty sub s.overflow.stamp s.overflow.tickNum d))
    by_cases ht : ty = 2
    · rw [if_pos ht]; exact h.trans (State.setHif_sameButHost _ _)
    · rw [if_neg ht]; exact h
  · rw [if_pos rfl]; exact .inr (State.setHif_sameButHost _ _)

@[simp] theorem State.postEvent_mem (s : State) (ty sub : Nat) (d : List Byte) : (s.postEvent ty sub d).mem = s.mem := by
  rcases s.postEvent_changes ty sub d with ⟨_, _, e⟩ | ⟨_, _, e⟩ <;> rw [e]
  rfl

@[simp] theorem State.postEvent_flt (s : State) (ty sub : Nat) (d : List Byte) : (s.postEvent ty sub d).flt = s.flt := by
  rcases s.postEvent_changes ty sub d with ⟨_, _, e⟩ | ⟨_, _, e⟩ <;> rw [e]
  rfl

/-- An event changes no register but HIF_EVT_DROP_CNT. -/
theorem State.reg_postEvent (s : State) (ty sub : Nat) (d : List Byte) (a : Nat) (ha : R.HIF_EVT_DROP_CNT ≠ a) :
    (s.postEvent ty sub d).reg a = s.reg a := by
  rcases s.postEvent_changes ty sub d with ⟨_, _, e⟩ | ⟨_, _, e⟩ <;> rw [e]
  · rfl
  · exact State.reg_put_of_ne _ _ ha

theorem State.postEvent_wf {s : State} (ty sub : Nat) (d : List Byte) (h : Tbl.wf resetWord s.regs) :
    Tbl.wf resetWord (s.postEvent ty sub d).regs := by
  rcases s.postEvent_changes ty sub d with ⟨_, _, e⟩ | ⟨_, _, e⟩ <;> rw [e]
  · exact h
  · exact State.put_wf _ _ h

end Sys2Proof.Machine
end

