-- ==== Sys2Proof/Laws/Commands.lean ====
section
/-!
SUPPORT. What the operations that every host command and every engine slot goes through do, once their conditions hold: cited in
place of unfolding them.
-/

namespace Sys2Proof.Machine

variable {s : State} {c : HostCmd} {op : Nat}

/-! ## Host commands (R350 to R354) -/

/-- An untimed command that its ring may parse, sound and with target 0, does its effect and ends. -/
theorem State.untimed_of_takes {f : State → State × Nat × Nat} (h : s.Takes c op) (ht : cmdTarget c = 0) :
    s.untimed c op f =
      (f (s.takeCmd c.ring)).1.endCmd c (f (s.takeCmd c.ring)).2.1 (f (s.takeCmd c.ring)).2.2 := by
  simp [State.untimed, h.opcode, h.parse, h.sound, ht]

/-- With a target that is not 0 it is refused (R351). -/
theorem State.untimed_of_target {f : State → State × Nat × Nat} (h : s.Takes c op) (ht : cmdTarget c ≠ 0) :
    s.untimed c op f = (s.takeCmd c.ring).endCmd c stBadArg 8 := by
  simp [State.untimed, h.opcode, h.parse, h.sound, ht]

/-- A command that its ring may not parse yet waits (R352). -/
theorem State.untimed_of_waits {f : State → State × Nat × Nat} (h : s.mayParse c.ring = false) : s.untimed c op f = s := by
  simp [State.untimed, h]

theorem State.timedOr_of_waits {b : Bool} {ref : State → State} {f : State → Nat → Bool → State × Option (Nat × Nat)}
    (h : s.mayParse c.ring = false) : s.timedOr c op b ref f = s := by
  simp [State.timedOr, h]

/-- A timed command with target 0 takes the earliest tick (R354). -/
theorem State.timedOr_of_target_zero {b : Bool} {ref : State → State}
    {f : State → Nat → Bool → State × Option (Nat × Nat)} (h : s.Takes c op) (ht : cmdTarget c = 0) :
    s.timedOr c op b ref f =
      (match (f (s.takeCmd c.ring) ((s.takeCmd c.ring).earliest (s.issueTick c.ring) b) false).2 with
        | none => (f (s.takeCmd c.ring) ((s.takeCmd c.ring).earliest (s.issueTick c.ring) b) false).1
        | some d =>
          (ref (f (s.takeCmd c.ring) ((s.takeCmd c.ring).earliest (s.issueTick c.ring) b) false).1).endCmd c d.1 d.2) := by
  simp only [State.timedOr, h.opcode, h.parse, h.sound, ht]
  simp <;> rfl

/-! ## Engine slots (R105, R116, R118) -/

/-- A legal slot of a running engine changes its engine, and closes the bundle where it is the last. -/
theorem State.issue_of_issues {e : Nat} {last : Bool} {names : List Nat} {f : Engine → Engine} (h : s.Issues e names) :
    s.issue e last true names f =
      (s.setEngine e (f { s.engine e with named := (s.engine e).named ++ names, partway := true })).close e last := by
  simp [State.issue, h.runs, h.single, h.clean]

/-- The slot of an engine that does not run has no effect. -/
theorem State.issue_of_not_running {e : Nat} {last ok : Bool} {names : List Nat} {f : Engine → Engine}
    (h : (s.engine e).st ≠ .running) : s.issue e last ok names f = s := by
  simp [State.issue, h]

/-- A destination named twice in the bundle is a task fault (R117, R118). -/
theorem State.issue_of_dup {e : Nat} {last ok : Bool} {names : List Nat} {f : Engine → Engine}
    (hr : (s.engine e).st = .running) (hc : (s.engine e).faulted = none)
    (hd : hasDup ((s.engine e).named ++ names) = true) :
    s.issue e last ok names f = s.taskFault e 1 := by
  simp [State.issue, hr, hc, hd]

/-- A slot whose whole effect is results on their way. -/
theorem State.issueFly_of_issues {e : Nat} {last : Bool} {names : List Nat} {f : Engine → List Flight}
    (h : s.Issues e names) :
    s.issueFly e last names f = s.slot e names (f { s.engine e with named := (s.engine e).named ++ names, partway := true }) last := by
  rw [State.issueFly, State.issue_of_issues h]
  rfl

end Sys2Proof.Machine
end

