-- ==== Sys2Proof/Laws/Steady.lean ====
section
/-!
SUPPORT. What every meaning must keep (the canonical form, the queue, the straps), said once for the plain updates and then for
each shared operation over them, so that a proof about a meaning cites its operations and unfolds none of them.
-/

namespace Sys2Proof.Machine

/-- From `s` to `t` the canonical form, the queue and the straps are kept. -/
structure State.Steady (s t : State) : Prop where
  canonical : s.Canonical → t.Canonical
  pending : t.pending = s.pending
  straps : s.SameStraps t

namespace State.Steady

variable {s t u : State}

theorem refl (s : State) : s.Steady s := ⟨id, rfl, rfl, rfl, rfl, rfl⟩

theorem trans (h : s.Steady t) (k : t.Steady u) : s.Steady u :=
  ⟨fun c => k.canonical (h.canonical c), k.pending.trans h.pending, k.straps.1.trans h.straps.1,
    k.straps.2.1.trans h.straps.2.1, k.straps.2.2.1.trans h.straps.2.2.1, k.straps.2.2.2.trans h.straps.2.2.2⟩

/-- An update of any other part of the state keeps them. -/
theorem of_same (hr : t.regs = s.regs) (hm : t.mem = s.mem) (hp : t.pending = s.pending) (hs : s.SameStraps t) :
    s.Steady t :=
  ⟨fun c => ⟨hm ▸ c.mem, hr ▸ c.regs⟩, hp, hs⟩

theorem ite {c : Prop} [Decidable c] (h : c → s.Steady t) (k : ¬c → s.Steady u) : s.Steady (if c then t else u) := by
  split_ifs with hc
  · exact h hc
  · exact k hc

theorem foldl {α : Type} {f : State → α → State} (h : ∀ (s : State) a, s.Steady (f s a)) (l : List α) (s : State) :
    s.Steady (l.foldl f s) := by
  induction l generalizing s with
  | nil => exact refl s
  | cons a l ih => exact (h s a).trans (ih _)

/-! ## The plain updates -/

theorem put (s : State) (o : Nat) (w : Word) : s.Steady (s.put o w) :=
  ⟨fun c => ⟨c.mem, State.put_wf o w c.regs⟩, rfl, rfl, rfl, rfl, rfl⟩

theorem setFld (s : State) (f : Fld) (v : Nat) : s.Steady (s.setFld f v) := put _ _ _

theorem setFlag (s : State) (f : Fld) (b : Bool) : s.Steady (s.setFlag f b) :=
  (setFld s f (bit b)).trans (of_same rfl rfl rfl ⟨rfl, rfl, rfl, rfl⟩)

theorem countBy (s : State) (o n : Nat) : s.Steady (s.countBy o n) := put _ _ _

theorem count (s : State) (o : Nat) : s.Steady (s.count o) := put _ _ _

theorem putPair (s : State) (lo hi v : Nat) : s.Steady (s.putPair lo hi v) := (put _ _ _).trans (put _ _ _)

theorem holdHi (s : State) (hi : Nat) (w : Word) : s.Steady (s.holdHi hi w) := of_same rfl rfl rfl ⟨rfl, rfl, rfl, rfl⟩

theorem putLo (s : State) (lo hi : Nat) (w : Word) : s.Steady (s.putLo lo hi w) :=
  ((put s lo w).trans (put _ hi _)).trans (of_same rfl rfl rfl ⟨rfl, rfl, rfl, rfl⟩)

theorem putApp (s : State) (o : Nat) (w : Word) : s.Steady (s.putApp o w) := of_same rfl rfl rfl ⟨rfl, rfl, rfl, rfl⟩

theorem putByte (s : State) (a : Nat) (b : Byte) : s.Steady (s.putByte a b) :=
  ⟨fun c => ⟨State.putByte_wf a b c.mem, c.regs⟩, rfl, rfl, rfl, rfl, rfl⟩

theorem putBytes (s : State) (a : Nat) (bs : List Byte) : s.Steady (s.putBytes a bs) := by
  induction bs generalizing s a with
  | nil => exact refl s
  | cons b bs ih => exact (putByte s a b).trans (ih _ _)

theorem putMemWord (s : State) (a : Nat) (w : Word) : s.Steady (s.putMemWord a w) := putBytes _ _ _

theorem emit (s : State) (o : Out) : s.Steady (s.emit o) := of_same rfl rfl rfl ⟨rfl, rfl, rfl, rfl⟩

theorem tick1 (s : State) : s.Steady s.tick1 := of_same rfl rfl rfl ⟨rfl, rfl, rfl, rfl⟩

theorem linkRun (t0 n : Nat) (s : State) : s.Steady (State.linkRun t0 n s) := by
  obtain ⟨w, o, h⟩ := State.linkRun_changes t0 n s
  exact h ▸ of_same rfl rfl rfl ⟨rfl, rfl, rfl, rfl⟩

theorem ppsFall (s : State) : s.Steady s.ppsFall := by
  unfold State.ppsFall
  split
  · exact ite (fun _ => of_same rfl rfl rfl ⟨rfl, rfl, rfl, rfl⟩) (fun _ => refl s)
  · exact refl s

theorem clusterStart (s : State) : s.Steady s.clusterStart := by
  unfold State.clusterStart
  split
  · exact ite (fun _ => (setFlag s _ _).trans (of_same rfl rfl rfl ⟨rfl, rfl, rfl, rfl⟩)) (fun _ => refl s)
  · exact refl s

theorem elapse (s : State) (n : Nat) : s.Steady (s.elapse n) := by
  have h : s.Steady (s.passTime n) := of_same rfl rfl rfl ⟨rfl, rfl, rfl, rfl⟩
  exact ((h.trans (ppsFall _)).trans (linkRun _ _ _)).trans (clusterStart _)

theorem setRing (s : State) (r : Nat) (x : Ring) : s.Steady (s.setRing r x) := of_same rfl rfl rfl ⟨rfl, rfl, rfl, rfl⟩

theorem setEngine (s : State) (e : Nat) (g : Engine) : s.Steady (s.setEngine e g) := of_same rfl rfl rfl ⟨rfl, rfl, rfl, rfl⟩

theorem resetRegs (s : State) (p : Nat → Bool) : s.Steady (s.resetRegs p) :=
  ⟨fun c => ⟨c.mem, State.resetRegs_wf p c.regs⟩, rfl, rfl, rfl, rfl, rfl⟩

theorem setClk (s : State) (f : Clock → Clock) : s.Steady (s.setClk f) := of_same rfl rfl rfl ⟨rfl, rfl, rfl, rfl⟩

theorem setClkx (s : State) (f : ClkX → ClkX) : s.Steady (s.setClkx f) := of_same rfl rfl rfl ⟨rfl, rfl, rfl, rfl⟩

theorem setFlt (s : State) (f : Flt → Flt) : s.Steady (s.setFlt f) := of_same rfl rfl rfl ⟨rfl, rfl, rfl, rfl⟩

theorem setHif (s : State) (f : Hif → Hif) : s.Steady (s.setHif f) := of_same rfl rfl rfl ⟨rfl, rfl, rfl, rfl⟩

theorem setFab (s : State) (f : Fab → Fab) : s.Steady (s.setFab f) := of_same rfl rfl rfl ⟨rfl, rfl, rfl, rfl⟩

theorem setMix (s : State) (f : Mix → Mix) : s.Steady (s.setMix f) := of_same rfl rfl rfl ⟨rfl, rfl, rfl, rfl⟩

theorem setStr (s : State) (f : Str → Str) : s.Steady (s.setStr f) := of_same rfl rfl rfl ⟨rfl, rfl, rfl, rfl⟩

theorem setTdm (s : State) (f : Tdm → Tdm) : s.Steady (s.setTdm f) := of_same rfl rfl rfl ⟨rfl, rfl, rfl, rfl⟩

theorem setAmp (s : State) (f : Amp → Amp) : s.Steady (s.setAmp f) := of_same rfl rfl rfl ⟨rfl, rfl, rfl, rfl⟩

theorem setTwn (s : State) (f : Twin → Twin) : s.Steady (s.setTwn f) := of_same rfl rfl rfl ⟨rfl, rfl, rfl, rfl⟩

theorem setEth (s : State) (f : Eth → Eth) : s.Steady (s.setEth f) := of_same rfl rfl rfl ⟨rfl, rfl, rfl, rfl⟩

theorem setSram (s : State) (f : Sram → Sram) : s.Steady (s.setSram f) := of_same rfl rfl rfl ⟨rfl, rfl, rfl, rfl⟩

theorem setDdr (s : State) (f : Ddr → Ddr) : s.Steady (s.setDdr f) := of_same rfl rfl rfl ⟨rfl, rfl, rfl, rfl⟩

theorem setTgt (s : State) (f : TwiTgt → TwiTgt) : s.Steady (s.setTgt f) := of_same rfl rfl rfl ⟨rfl, rfl, rfl, rfl⟩

theorem setPwr (s : State) (f : Pwr → Pwr) : s.Steady (s.setPwr f) := of_same rfl rfl rfl ⟨rfl, rfl, rfl, rfl⟩

/-! ## Events and faults -/

theorem pushRing (s : State) (r size : Nat) (b : List Byte) : s.Steady (s.pushRing r size b) :=
  (emit s _).trans (setRing _ _ _)

theorem postEvent (s : State) (ty sub : Nat) (d : List Byte) : s.Steady (s.postEvent ty sub d) := by
  rcases s.postEvent_changes ty sub d with ⟨_, _, e⟩ | ⟨_, _, e⟩ <;> rw [e]
  · exact of_same rfl rfl rfl ⟨rfl, rfl, rfl, rfl⟩
  · exact (count s _).trans (of_same rfl rfl rfl ⟨rfl, rfl, rfl, rfl⟩)

theorem ringErr (s : State) (r : Nat) : s.Steady (s.ringErr r) := (setFlag _ _ _).trans (setFld _ _ _)

theorem setFsrc (s : State) (i : Nat) (x : FltSrc) : s.Steady (s.setFsrc i x) := setFlt _ _

theorem setBit64 (s : State) (lo hi i : Nat) (b : Bool) : s.Steady (s.setBit64 lo hi i b) := by
  unfold State.setBit64
  exact ite (fun _ => setFlag _ _ _) (fun _ => setFlag _ _ _)

theorem setWorst (s : State) : s.Steady s.setWorst := by
  unfold State.setWorst
  exact (setFld _ _ _).trans (setFlag _ _ _)

theorem logFault (s : State) (o : Occ) (lvl : Nat) (esc : Bool) (seq : Nat) : s.Steady (s.logFault o lvl esc seq) := by
  unfold State.logFault
  extract_lets wp net e s1 s2 s3
  have h1 : s.Steady s1 := ite (fun _ => count _ _) (fun _ => refl s)
  have h3 : s.Steady s3 := (h1.trans (setFlt _ _)).trans (setFld _ _ _)
  exact ite (fun _ => h3.trans (setFlag _ _ _)) (fun _ => h3)

theorem sendMsg (s : State) (c : Nat) (b : List Byte) : s.Steady (s.sendMsg c b) := of_same rfl rfl rfl ⟨rfl, rfl, rfl, rfl⟩

theorem finish (s : State) (r tag op st d : Nat) : s.Steady (s.finish r tag op st d) :=
  have h : s.Steady (s.setHif fun h => { h with cpls := h.cpls ++ [⟨r, tag, op, st, d, s.tickNum⟩] }) := setHif _ _
  ite (fun _ => h) fun _ => ite (fun _ => h.trans (count _ _)) fun _ => h.trans (count _ _)

theorem twiFinish (s : State) (t : TwiCmd) (st d : Nat) : s.Steady (s.twiFinish t st d) := by
  unfold State.twiFinish
  extract_lets s1 s2
  have h : s.Steady s1 := setHif _ _
  exact ite (fun _ => h.trans (emit _ _)) fun _ => ite (fun _ => h) fun _ =>
    ite (fun _ => h.trans (setRing _ _ _)) fun _ => (h.trans (setRing _ _ _)).trans (finish _ _ _ _ _ _)

theorem relayTwi (s : State) (p : TwiCmd → Bool) : s.Steady (s.relayTwi p) :=
  ite (fun _ => foldl (fun _ _ => sendMsg _ _ _) _ _) (fun _ => refl s)

theorem twiLose (s : State) : s.Steady s.twiLose :=
  (ite (fun _ => relayTwi _ _) fun _ => refl s : s.Steady _).trans (foldl (fun _ _ => twiFinish _ _ _ _) _ _)

theorem twiPins (s : State) (on : Bool) : s.Steady (s.twiPins on) := by
  unfold State.twiPins
  refine (ite (fun _ => refl s) fun _ => (twiLose s).trans ?_ : s.Steady _).trans (foldl (fun s n => ?_) _ _)
  · exact of_same rfl rfl rfl ⟨rfl, rfl, rfl, rfl⟩
  · exact ite (fun _ => setFld _ _ _) fun _ => ite (fun _ => setFld _ _ _) fun _ =>
      ite (fun _ => (setFld _ _ _).trans (of_same rfl rfl rfl ⟨rfl, rfl, rfl, rfl⟩)) fun _ => refl s

theorem setPins (s : State) (on : Bool) : s.Steady (s.setPins on) :=
  ite (fun _ => refl s) (fun _ => ((setTwn _ _).trans (twiPins _ _)).trans (emit _ _))

theorem setOwnOut (s : State) (on : Bool) : s.Steady (s.setOwnOut on) :=
  ite (fun _ => refl s) (fun _ => (setTwn _ _).trans (emit _ _))

theorem endHandover (s : State) (r : Nat) : s.Steady (s.endHandover r) :=
  ((setTwn _ _).trans (setFlag _ _ _)).trans (setFld _ _ _)

theorem pinsFollow (s : State) : s.Steady s.pinsFollow := ite (fun _ => refl s) (fun _ => setPins _ _)

theorem cancelHandover (s : State) (r : Nat) : s.Steady (s.cancelHandover r) :=
  ite (fun _ => refl s) fun _ => ite (fun _ => endHandover _ _) fun _ => (endHandover _ _).trans (pinsFollow _)

theorem releaseOwn (s : State) : s.Steady s.releaseOwn := by
  unfold State.releaseOwn
  extract_lets s1 s2 s3
  have h : s.Steady s3 := ((setPins _ _).trans (setOwnOut _ _)).trans (setTwn _ _)
  generalize s3.twn.ho = o
  cases o
  · exact h
  · exact ite (fun _ => h) (fun _ => h.trans (cancelHandover _ _))

theorem sendCmd (s : State) (c : Nat) (b : List Byte) : s.Steady (s.sendCmd c b) := (tick1 s).trans (sendMsg _ _ _)

theorem proposeHandover (s : State) (h : Nat) (l y : Bool) : s.Steady (s.proposeHandover h l y) :=
  ((setTwn _ _).trans (setFlag _ _ _)).trans (sendCmd _ _ _)

theorem yieldOwn (s : State) : s.Steady s.yieldOwn := by
  unfold State.yieldOwn
  refine ite (fun _ => releaseOwn s) fun _ => ite (fun _ => ite (fun _ => ?_) fun _ => releaseOwn s) fun _ =>
    ite (fun _ => releaseOwn s) fun _ => refl s
  generalize s.twn.ho = o
  cases o
  · generalize s.twn.hoReq = q
    cases q
    · exact proposeHandover _ _ _ _
    · exact ite (fun _ => setTwn _ _) (fun _ => proposeHandover _ _ _ _)
  · exact ite (fun _ => refl s) (fun _ => releaseOwn s)

theorem react (s : State) (o : Occ) (lvl : Nat) : s.Steady (s.react o lvl) := by
  unfold State.react
  extract_lets l s1 s0 s2
  have h1 : s.Steady s1 := ite (fun _ => setFlt _ _) (fun _ => refl s)
  have h2 : s.Steady s2 := ite (fun _ => (h1.trans (setFlt _ _)).trans
    (ite (fun _ => releaseOwn _) (fun _ => yieldOwn _))) (fun _ => h1)
  exact ite (fun _ => h2.trans (of_same rfl rfl rfl ⟨rfl, rfl, rfl, rfl⟩)) (fun _ => h2)

theorem breakRevert (s : State) (b : Bool) : s.Steady (s.breakRevert b) :=
  ite (fun _ => of_same rfl rfl rfl ⟨rfl, rfl, rfl, rfl⟩) (fun _ => refl s)

theorem raiseOcc (s : State) (o : Occ) : s.Steady (s.raiseOcc o) := by
  unfold State.raiseOcc
  extract_lets c esc lvl was r tagged s1 s2 seq s3 s4 s5 s6 s7 add r1 first logged s8 r2 posts s9
  have h1 : s.Steady s1 := ite (fun _ => setBit64 _ _ _ _ _) (fun _ => refl s)
  have h2 : s.Steady s2 := ite (fun _ => h1.trans (setBit64 _ _ _ _ _)) (fun _ => h1)
  have h4 : s.Steady s4 := (h2.trans (setFlt _ _)).trans (count _ _)
  have h5 : s.Steady s5 := ite (fun _ => h4.trans (count _ _)) (fun _ => h4)
  have h7 : s.Steady s7 := (h5.trans (setBit64 _ _ _ _ _)).trans (setBit64 _ _ _ _ _)
  have h8 : s.Steady s8 := ite (fun _ => h7.trans (logFault _ _ _ _ _)) (fun _ => h7)
  have h9 : s.Steady s9 :=
    ite (fun _ => (h8.trans (postEvent _ _ _ _)).trans (setFsrc _ _ _)) (fun _ => h8.trans (setFsrc _ _ _))
  exact ((h9.trans (react _ _ _)).trans (setWorst _)).trans (breakRevert _ _)

theorem raise (s : State) (i : Nat) (d : Word) : s.Steady (s.raise i d) := raiseOcc _ _

theorem raiseAs (s : State) (i : Nat) (d : Word) (c : Nat) : s.Steady (s.raiseAs i d c) := raiseOcc _ _

theorem settleLatch (s : State) (i : Nat) : s.Steady (s.settleLatch i) :=
  ite (fun _ => refl s) fun _ =>
    (((setBit64 _ _ _ _ _).trans (setFsrc _ _ _)).trans (setFlt _ _)).trans (setWorst _)

theorem condStays (s : State) (i : Nat) (r : FltSrc) (l y : Bool) : s.Steady (s.condStays i r l y) :=
  (((setBit64 _ _ _ _ _).trans (setFsrc _ _ _)).trans (setFlt _ _)).trans (setWorst _)

theorem condBegin (s : State) (i : Nat) (d : Word) : s.Steady (s.condBegin i d) := by
  unfold State.condBegin
  refine ite (fun _ => refl s) fun _ => ?_
  extract_lets old s1
  have h : s.Steady s1 := setBit64 s _ _ _ _
  generalize old = o
  cases o
  · exact h.trans (raise _ _ _)
  · exact h.trans (condStays _ _ _ _ _)

theorem condEnd (s : State) (i : Nat) : s.Steady (s.condEnd i) := by
  unfold State.condEnd
  refine ite (fun _ => ?_) (fun _ => refl s)
  exact ((setFlt s _).trans (setBit64 _ _ _ _ _)).trans (settleLatch _ _)

theorem ack1 (s : State) (i : Nat) : s.Steady (s.ack1 i) :=
  ite (fun _ => ((setBit64 _ _ _ _ _).trans (setFsrc _ _ _)).trans (settleLatch _ _)) (fun _ => refl s)

theorem ackMask (s : State) (m : Nat) : s.Steady (s.ackMask m) :=
  foldl (fun s _ => ite (fun _ => ack1 s _) (fun _ => refl s)) _ _

/-! ## Commands of the host -/

theorem takeCmd (s : State) (r : Nat) : s.Steady (s.takeCmd r) := ((emit _ _).trans (setRing _ _ _)).trans (count _ _)

theorem endCmd (s : State) (c : HostCmd) (st d : Nat) : s.Steady (s.endCmd c st d) := finish _ _ _ _ _ _

theorem untimed (s : State) (c : HostCmd) (op : Nat) (f : State → State × Nat × Nat) (hf : ∀ s : State, s.Steady (f s).1) :
    s.Steady (s.untimed c op f) := by
  unfold State.untimed
  refine ite (fun _ => refl s) fun _ => (takeCmd s c.ring).trans ?_
  generalize badDesc c = b
  cases b
  · exact ite (fun _ => endCmd _ _ _ _) (fun _ => (hf _).trans (endCmd _ _ _ _))
  · exact endCmd _ _ _ _

theorem timedOr (s : State) (c : HostCmd) (op : Nat) (commit : Bool) (ref : State → State)
    (f : State → Nat → Bool → State × Option (Nat × Nat)) (hr : ∀ s : State, s.Steady (ref s))
    (hf : ∀ (s : State) n l, s.Steady (f s n l).1) : s.Steady (s.timedOr c op commit ref f) := by
  unfold State.timedOr
  extract_lets i s1 e t r
  have h1 : s.Steady s1 := takeCmd s c.ring
  have hr' : s.Steady (ref s1) := h1.trans (hr _)
  have hx : s.Steady r.1 := by
    have : s1.Steady r.1 := by simp only [r]; split_ifs <;> exact hf _ _ _
    exact h1.trans this
  refine ite (fun _ => refl s) fun _ => ?_
  generalize badDesc c = b
  cases b
  · refine ite (fun _ => hr'.trans (endCmd _ _ _ _)) fun _ => ite (fun _ => hr'.trans (endCmd _ _ _ _)) fun _ => ?_
    generalize r.2 = d
    cases d
    · exact hx
    · exact (hx.trans (hr _)).trans (endCmd _ _ _ _)
  · exact hr'.trans (endCmd _ _ _ _)

/-! ## Tasks and engines -/

theorem setStat (s : State) (k : Nat) (x : TStat) : s.Steady (s.setStat k x) := setFab _ _

theorem fillOuts (s : State) (k : Nat) : s.Steady (s.fillOuts k) := by
  unfold State.fillOuts
  split
  · exact refl s
  · exact foldl (fun _ _ => setFab _ _) _ _

theorem failTask (s : State) (e k r : Nat) : s.Steady (s.failTask e k r) :=
  ((put _ _ _).trans (count _ _)).trans ((setStat _ _ _).trans (fillOuts _ _))

theorem stopEngine (s : State) (e : Nat) : s.Steady (s.stopEngine e) := setEngine _ _ _

theorem checkDone (s : State) : s.Steady s.checkDone :=
  ite (fun _ => refl s) fun _ => ((setFld _ _ _).trans (setFld _ _ _)).trans (setFab _ _)

theorem taskFault (s : State) (e r : Nat) : s.Steady (s.taskFault e r) := by
  unfold State.taskFault
  generalize (s.engine e).task = k
  cases k
  · exact refl s
  · exact (((failTask _ _ _ _).trans (stopEngine _ _)).trans (raise _ _ _)).trans (checkDone _)

theorem putLocal (s : State) (e a : Nat) (w : Word) : s.Steady (s.putLocal e a w) := putMemWord _ _ _

theorem storeVal (s : State) (e a : Nat) (w : Word) : s.Steady (s.storeVal e a w) :=
  ite (fun _ => ((putLocal _ _ _ _).trans (tick1 _)).trans (setEngine _ _ _)) (fun _ => putLocal _ _ _ _)

theorem eccFixed (s : State) (e mem a : Nat) : s.Steady (s.eccFixed e mem a) := by
  unfold State.eccFixed
  extract_lets s1 s2 g
  have h : s.Steady s2 := (put _ _ _).trans (count _ _)
  exact ite (fun _ => put _ _ _) fun _ => ite (fun _ => h.trans (setEngine _ _ _)) (fun _ => h)

theorem commitLate (s : State) (e : Nat) : s.Steady (s.commitLate e) := by
  refine (setEngine s e _).trans (foldl (fun s x => ?_) _ _)
  cases x
  · exact storeVal _ _ _ _
  · exact eccFixed _ _ _ _
  · exact refl _

theorem closeBundle (s : State) (e : Nat) : s.Steady (s.closeBundle e) := by
  unfold State.closeBundle
  extract_lets s1 g0 g1 g2 g3 r h s2
  have h1 : s.Steady s1 := (commitLate _ _).trans (count _ _)
  have h2 : s.Steady s2 := h1.trans (setEngine _ _ _)
  exact ite (fun _ => h1.trans (setEngine _ _ _)) fun _ => ite (fun _ => h2.trans (taskFault _ _ _)) fun _ => h2

theorem close (s : State) (e : Nat) (last : Bool) : s.Steady (s.close e last) :=
  ite (fun _ => closeBundle _ _) (fun _ => refl s)

theorem faultSlot (s : State) (e : Nat) (last : Bool) (names : List Nat) (r : Nat) : s.Steady (s.faultSlot e last names r) :=
  ite (fun _ => taskFault _ _ _) (fun _ => setEngine _ _ _)

theorem issueS (s : State) (e : Nat) (last ok : Bool) (names : List Nat) (bad : Option Nat) (f : State → State)
    (hf : ∀ s : State, s.Steady (f s)) : s.Steady (s.issueS e last ok names bad f) := by
  unfold State.issueS
  extract_lets g
  refine ite (fun _ => refl s) fun _ => ite (fun _ => taskFault _ _ _) fun _ => ?_
  generalize g.faulted.or bad = o
  cases o
  · exact ((setEngine _ _ _).trans (hf _)).trans (close _ _ _)
  · exact faultSlot _ _ _ _ _

theorem issue (s : State) (e : Nat) (last ok : Bool) (names : List Nat) (f : Engine → Engine) :
    s.Steady (s.issue e last ok names f) := by
  unfold State.issue
  extract_lets g
  refine ite (fun _ => refl s) fun _ => ite (fun _ => taskFault _ _ _) fun _ => ?_
  generalize g.faulted = o
  cases o
  · exact (setEngine _ _ _).trans (close _ _ _)
  · exact faultSlot _ _ _ _ _

theorem issueFly (s : State) (e : Nat) (last : Bool) (names : List Nat) (f : Engine → List Flight) :
    s.Steady (s.issueFly e last names f) := issue _ _ _ _ _ _

theorem alu (s : State) (e d : Nat) (last : Bool) (r : Engine → Alu) : s.Steady (s.alu e d last r) := issueFly _ _ _ _ _

theorem aluCmp (s : State) (e : Nat) (last : Bool) (r : Engine → Alu) : s.Steady (s.aluCmp e last r) := issueFly _ _ _ _ _

end State.Steady

end Sys2Proof.Machine
end

