-- ==== Sys2Proof/Machine/Lands.lean ====
section
/-!
DEFINITION. The lands (R217, R380, R492 to R496, R503): their names and counts, the type of each land, and the state that it takes, as a
function of the state. The commands record the changes of pins; this is the level at any instant.
-/

namespace Sys2Proof.Machine

/-! ## The land grid (R492, R493) -/

/-- The letters of single-letter rows, top to bottom: I, O, Q, R, S, X and Z are left out. -/
def rowLetters : List Char := ['A', 'B', 'C', 'D', 'E', 'F', 'G', 'H', 'J', 'K', 'L', 'M', 'N', 'P', 'T', 'U', 'V', 'W', 'Y']

/-- The names of the 43 rows. -/
def landRows : List String :=
  rowLetters.map (fun c => String.ofList [c]) ++ rowLetters.map (fun c => String.ofList ['A', c])
    ++ (rowLetters.take 5).map fun c => String.ofList ['B', c]

/-- The groups of R493 with the number of their lands. -/
def landGroups : List (String × Nat) :=
  [("VIN", 120), ("GND", 1220), ("VIO33_OUT", 4), ("VBAT", 1), ("DRAM", 133), ("Serial", 34), ("PCI Express", 12),
   ("Converter ports", 68), ("Amplifier", 128), ("Sense", 68), ("Two-wire", 8), ("Straps", 4), ("Flash", 7), ("JTAG", 5),
   ("Clocks", 9), ("Twin", 2), ("System", 2), ("DNC", 24)]

/-! ## Land types (R494) and the lands whose state R496 gives -/

/-- The land types of R494. -/
inductive LandType where
  | lvc33 | in33 | od33 | pod12 | cml | pcie
deriving DecidableEq, Repr

/-- The lands of R496, by kind and number. -/
inductive Land where
  | pwmA (c : Fin 32) | pwmB (c : Fin 32) | stageEn (c : Fin 32)
  | tdmDout (p : Fin 16) | tdmDin (p : Fin 16) | bclk (p : Fin 16) | fsync (p : Fin 16)
  | mclk (m : Fin 4) | sclk (g : Fin 4)
  | twiScl (n : Fin 3) | twiSda (n : Fin 3)
  | snsV (c : Fin 32) | snsI (c : Fin 32) | faultN (c : Fin 32)
  | refIn (k : Fin 4) | ppsIn | ppsOut
  | ownOutN | alertN
  | tgtScl | tgtSda
  | qspiRstN | qspi
  | tdo
  | ddrResetN | cke (r : Fin 2) | ddr
  | laneTx (l : Fin 8) | peTx (l : Fin 2)
deriving DecidableEq, Repr

/-- The type of a land (R493). -/
def Land.type : Land → LandType
  | .twiScl _ | .twiSda _ | .tgtScl | .tgtSda | .ownOutN | .alertN => .od33
  | .ddrResetN | .cke _ | .ddr => .pod12
  | .laneTx _ => .cml
  | .peTx _ => .pcie
  | .pwmA _ | .pwmB _ | .stageEn _ | .tdmDout _ | .tdmDin _ | .bclk _ | .fsync _ | .mclk _ | .sclk _ | .snsV _ | .snsI _
  | .faultN _ | .refIn _ | .ppsIn | .ppsOut | .qspiRstN | .qspi | .tdo => .lvc33

/-- The power domain of a land (R493). -/
def Land.domain : Land → Nat
  | .alertN => 0
  | .twiScl _ | .twiSda _ | .tgtScl | .tgtSda | .refIn _ | .ppsIn | .ppsOut | .ownOutN | .qspiRstN | .qspi | .tdo => 1
  | .laneTx _ => 15
  | .ddrResetN | .cke _ | .ddr => 16
  | .peTx _ => 18
  | .pwmA _ | .pwmB _ | .stageEn _ | .tdmDout _ | .tdmDin _ | .bclk _ | .fsync _ | .mclk _ | .sclk _ | .snsV _ | .snsI _
  | .faultN _ => 17

/-- The state of a land: high-impedance, an input (with the pull-up of R496), held at a level, at common mode, or driven by its
unit. -/
inductive LandState where
  | highZ | input (pullUp : Bool) | low | high | commonMode | driven
deriving DecidableEq, Repr

/-! ## The state of a land (R496) -/

/-- The state of a land in reset: until its domain is released, and while the domain is off or in FAULT. DDR_RESET_N and CKE are low,
held by the latches of R431. -/
def landReset : Land → LandState
  | .tdmDin _ | .snsV _ | .snsI _ | .refIn _ | .ppsIn => .input false
  | .faultN _ => .input true
  | .ppsOut | .qspiRstN | .ddrResetN | .cke _ => .low
  | .laneTx _ | .peTx _ => .commonMode
  | .pwmA _ | .pwmB _ | .stageEn _ | .tdmDout _ | .bclk _ | .fsync _ | .mclk _ | .sclk _ | .twiScl _ | .twiSda _ | .ownOutN
  | .alertN | .tgtScl | .tgtSda | .qspi | .tdo | .ddr => .highZ

/-- An owned land: driven where the module drives its group, else high-impedance (R217, R219). -/
def State.ownedLand (s : State) (g : PinGroup) (st : LandState) : LandState := if s.drives g then st else .highZ

/-- BCLK and FSYNC of a port: an owned land in master mode and in FALLBACK (R384), an input in follow mode. -/
def State.portClock (s : State) (p : Fin 16) : LandState :=
  if s.appFlag (F.TDM_CFG_mode p) && s.portSt p ≠ 4 then .input false else s.ownedLand (.tdm p) .driven

/-- An open-drain land: low where it is asserted, else released. -/
def openDrain (asserted : Bool) : LandState := if asserted then .low else .highZ

/-- The transmitter of a lane is held at common mode: disabled, or quiet during a loop (R318, R335). -/
def State.laneQuiet (s : State) (l : Nat) : Bool := s.lst l = lDisabled || s.testOut l = some 0

/-- The state of a land after the release of its domain. -/
def State.landReleased (s : State) : Land → LandState
  | .pwmA c | .pwmB c => if s.drivesLegs c then .driven else .highZ
  | .stageEn c => s.ownedLand (.pwm c) .driven
  | .tdmDout p => s.ownedLand (.tdm p) (if s.appFlag (F.TDM_CFG_out_en p) then .driven else .highZ)
  | .bclk p | .fsync p => s.portClock p
  | .mclk m => s.ownedLand (.mclk m) (if s.appFlag (F.TDM_MCLK_CFG_en m) then .driven else .low)
  | .sclk g => s.ownedLand (.sclk g) .driven
  | .twiScl _ | .twiSda _ => s.ownedLand .twi .driven
  | .tdmDin _ | .snsV _ | .snsI _ | .faultN _ | .refIn _ | .ppsIn => .input false
  | .ownOutN => openDrain s.twn.ownOut
  | .alertN => openDrain (3 ≤ (s.reg R.SYS_BOOT_FAIL_CNT).toNat)
  | .tgtScl => openDrain s.tgtHolds
  | .ppsOut => if s.clkx.ppsEnd.isSome then .high else .low
  | .laneTx l => if s.laneQuiet l then .commonMode else .driven
  | .tgtSda | .qspiRstN | .qspi | .tdo | .ddrResetN | .cke _ | .ddr | .peTx _ => .driven

/-- The state of a land (R496). -/
def State.landState (s : State) (x : Land) : LandState :=
  if s.domOn x.domain && !s.domFault x.domain then s.landReleased x else landReset x

/-! ## The transmitter of a lane (R503) -/

/-- The differential amplitude that SDS_TX_EQ sets, in uV peak to peak. -/
def State.txAmplitude (s : State) (l : Nat) : Nat := 400000 + 12500 * s.fld (F.SDS_TX_EQ_swing l)

/-- The pre-, main and post-cursor coefficients that SDS_TX_EQ sets, in 64ths; a pre-cursor and a post-cursor are negative. -/
def State.txCursors (s : State) (l : Nat) : Int × Int × Int :=
  let pre : Int := s.fld (F.SDS_TX_EQ_pre l)
  let post : Int := s.fld (F.SDS_TX_EQ_post l)
  (-pre, 64 - (pre + post), -post)

/-- In reset no owned land is driven (R217, R249). -/
theorem landReset_owned (c : Fin 32) :
    landReset (.pwmA c) = .highZ ∧ landReset (.pwmB c) = .highZ ∧ landReset (.stageEn c) = .highZ := ⟨rfl, rfl, rfl⟩

end Sys2Proof.Machine
end

