-- ==== Sys2Proof/WellFormed.lean ====
section
/-!
DEFINITION. Which commands are well formed: descriptors of 64 bytes (R350), a doorbell block of 256 bytes (R346),
32-bit-aligned register offsets (R340), blocks of at most 32 samples (R13), lists within the spec's bounds.
-/

namespace Sys2Proof

/-- A descriptor has 64 bytes (R350). -/
def HostCmd.wellFormed (c : HostCmd) : Bool := c.desc.length = 64

/-- The command's operands have the lengths and alignments that the spec gives them. -/
def Instr.wellFormed : Instr → Bool
  | .tckCfgWrite _ => true
  | .tickRunSet => true
  | .tickRunClear => true
  | .tickStart => true
  | .tickStop => true
  | .tickBoundary _ => true
  | .captureWindowClose tdm sns lb =>
    tdm.all (fun f => f.din.length ≤ 2048) && sns.all (fun x => x.bits.length ≤ 16384) && lb.all (fun f => f.dout.length ≤ 2048)
  | .tickOverrunWarning => true
  | .tickDeadline => true
  | .doorbellFetchComplete db => db.length = 256
  | .doorbellFetchLate => true
  | .shadowBlockWrite => true
  | .tckNumLoRead => true
  | .tckStartLoWrite _ => true
  | .captureRegisterRead off => off.toNat % 4 = 0
  | .counterReadClear off => off.toNat % 4 = 0
  | .registerWrite off _ => off.toNat % 4 = 0
  | .graphLoad c => c.wellFormed
  | .unload => true
  | .phaseRelease => true
  | .backlogAppend _ => true
  | .depthBroadcast _ => true
  | .taskAcquire _ => true
  | .stealComplete _ => true
  | .taskTake _ => true
  | .prefetchComplete _ => true
  | .taskComplete _ => true
  | .taskBudgetExceeded _ => true
  | .engineFault _ _ => true
  | .engineHang _ => true
  | .fabFenceWrite _ _ => true
  | .plannedFence _ => true
  | .fabUnfenceWrite _ _ => true
  | .engineActivate _ _ => true
  | .unfenceRepair _ => true
  | .bundleIllegal _ _ => true
  | .bundleNop _ => true
  | .add _ _ _ _ _ => true
  | .sub _ _ _ _ _ => true
  | .and _ _ _ _ _ => true
  | .or _ _ _ _ _ => true
  | .xor _ _ _ _ _ => true
  | .min _ _ _ _ _ => true
  | .max _ _ _ _ _ => true
  | .asr _ _ _ _ _ => true
  | .lsr _ _ _ _ _ => true
  | .lsl _ _ _ _ _ => true
  | .cmp _ _ _ _ => true
  | .mov _ _ _ _ => true
  | .neg _ _ _ _ => true
  | .abs _ _ _ _ => true
  | .not _ _ _ _ => true
  | .addi _ _ _ _ _ => true
  | .cmpi _ _ _ _ => true
  | .movi _ _ _ _ => true
  | .asri _ _ _ _ _ => true
  | .lsri _ _ _ _ _ => true
  | .lsli _ _ _ _ _ => true
  | .bexp _ _ _ => true
  | .mac1 _ _ _ _ _ => true
  | .msu1 _ _ _ _ _ => true
  | .mpy1 _ _ _ _ _ => true
  | .mpn1 _ _ _ _ _ => true
  | .mac2 _ _ _ _ _ _ => true
  | .msu2 _ _ _ _ _ _ => true
  | .mpy2 _ _ _ _ _ _ => true
  | .mpn2 _ _ _ _ _ _ => true
  | .mac4o _ _ _ _ => true
  | .msu4o _ _ _ _ => true
  | .mpy4o _ _ _ _ => true
  | .mpn4o _ _ _ _ => true
  | .mac4c _ _ _ _ _ => true
  | .msu4c _ _ _ _ _ => true
  | .mpy4c _ _ _ _ _ => true
  | .mpn4c _ _ _ _ _ => true
  | .mac4j _ _ _ _ _ => true
  | .msu4j _ _ _ _ _ => true
  | .mpy4j _ _ _ _ _ => true
  | .mpn4j _ _ _ _ _ => true
  | .cnv _ _ _ _ _ => true
  | .cnv2 _ _ _ _ _ => true
  | .ald _ _ _ _ => true
  | .alds _ _ _ _ => true
  | .ald2 _ _ _ _ => true
  | .alds2 _ _ _ _ => true
  | .aldq _ _ _ => true
  | .aadd _ _ _ _ => true
  | .asub _ _ _ _ => true
  | .amov _ _ _ _ => true
  | .aclr _ _ _ => true
  | .mvfh _ _ _ _ => true
  | .mvfl _ _ _ _ => true
  | .mvfg _ _ _ _ => true
  | .mvth _ _ _ _ => true
  | .mvtl _ _ _ _ => true
  | .mvtg _ _ _ _ => true
  | .ld _ _ _ _ _ _ => true
  | .ldp _ _ _ _ _ _ => true
  | .st _ _ _ _ _ => true
  | .stp _ _ _ _ _ => true
  | .ldd _ _ _ _ _ _ _ _ => true
  | .lddp _ _ _ _ _ _ _ _ _ _ => true
  | .modp _ _ _ _ => true
  | .b _ _ _ => true
  | .bcc _ _ _ _ => true
  | .lbr _ _ _ => true
  | .br _ _ _ => true
  | .rte _ _ => true
  | .rpt _ _ _ => true
  | .rptr _ _ _ => true
  | .tend _ _ => true
  | .movr _ _ _ _ => true
  | .moviz _ _ _ _ => true
  | .adda _ _ _ _ => true
  | .dmaq _ _ _ _ _ _ => true
  | .dmaw _ _ _ => true
  | .dmaTransferComplete _ => true
  | .dmas _ _ _ => true
  | .mbr _ _ _ => true
  | .mbw _ _ _ => true
  | .ldi _ _ _ _ => true
  | .eventEntry _ => true
  | .engMboxInWrite _ _ => true
  | .routeStage => true
  | .delayTapWait _ => true
  | .mixStage => true
  | .dynamicsStage => true
  | .psetDefine c => c.wellFormed
  | .psetUndefine c => c.wellFormed
  | .psetLoad c => c.wellFormed
  | .psetWrite c => c.wellFormed
  | .psetCommit c => c.wellFormed
  | .psetCommitApply => true
  | .shadowRefresh _ => true
  | .deferredChangeApply => true
  | .fadeEnd => true
  | .meterRecordPost => true
  | .propose p _ => p.items.length ≠ 0 && p.items.length ≤ 4096
  | .agree _ _ => true
  | .refuse _ _ _ => true
  | .withdraw _ _ => true
  | .commitAgreeTimeout _ => true
  | .streamStage c => c.wellFormed
  | .streamCommit c => c.wellFormed
  | .streamCommitApply => true
  | .transmitLaunch => true
  | .transmitLateDrop _ => true
  | .mediaFrameReceive _ frame _ _ _ => frame.length ≤ 16384
  | .streamRunningTimeout _ => true
  | .partnerOwnAssert => true
  | .ownGuardExpire => true
  | .ownAssert => true
  | .ownSettleEnd => true
  | .ownRetryExpire => true
  | .ownRelease => true
  | .ownReqClear => true
  | .takeoverPwmEntry _ => true
  | .pairingAttempt => true
  | .hello _ _ => true
  | .helloTimeout => true
  | .heartbeat _ => true
  | .heartbeatLoss => true
  | .digestSend => true
  | .digest _ _ _ _ _ => true
  | .digestCompare => true
  | .tickBoundaryMarker _ => true
  | .laneset _ _ _ => true
  | .rsStep n _ _ => n.val ≠ 0
  | .resyncStepStart _ => true
  | .mirror _ _ block _ => block.length ≤ 32
  | .stateTransfer _ _ _ _ _ => true
  | .resyncFinal => true
  | .handoverRequest => true
  | .hoPropose _ _ _ => true
  | .hoAgree _ _ => true
  | .hoRefuse _ _ _ => true
  | .handoverAgreeTimeout => true
  | .handoverPinSwitch _ => true
  | .handoverOwnChange => true
  | .handoverComplete => true
  | .handoverCancel => true
  | .revertRequest => true
  | .tdmSlip _ _ _ _ _ => true
  | .pwmPeriodStart _ _ _ _ _ _ => true
  | .channelTrip _ bits => bits.length ≤ 64
  | .faultNAssert _ => true
  | .channelTimerExpire _ => true
  | .channelStart _ => true
  | .channelStop _ => true
  | .checkStart _ => true
  | .checkEnd _ => true
  | .channelMute _ => true
  | .modChCtrlClr _ => true
  | .impedanceWindowEnd _ => true
  | .impedanceLearn _ => true
  | .powerSubblockEnd _ => true
  | .timebaseLoss => true
  | .timebaseRelock => true
  | .modFswWrite _ => true
  | .modDitherWrite _ => true
  | .modApplyLoWrite _ => true
  | .modStagedApply => true
  | .modIfirDataRead => true
  | .snsClkCfgWrite _ => true
  | .oscillatorFault => true
  | .refWindowEnd _ _ _ _ => true
  | .refQualify _ => true
  | .refMissingEdges _ => true
  | .refRateChange _ => true
  | .ptpSyncMissing _ => true
  | .phaseDetectorUpdate _ _ => true
  | .dpllLock => true
  | .dpllUnlock => true
  | .holdoverUpdate _ => true
  | .tickSlew _ => true
  | .networkTimeStep _ => true
  | .realign => true
  | .holdoverLoad => true
  | .timSet => true
  | .timAdjCommit => true
  | .timerArm _ _ => true
  | .timerFire _ => true
  | .ppsOutEdge => true
  | .ppsInEdge => true
  | .rtcSet => true
  | .rtcSvcWrite _ _ => true
  | .serviceHour => true
  | .mgmtFrameLaunch _ _ _ _ => true
  | .serialReferenceLoss => true
  | .signalDetectAssert _ => true
  | .signalDetectDeassert _ => true
  | .cdrLock _ => true
  | .cdrTimeout _ => true
  | .blockLock _ headers _ => headers.length ≤ 4096
  | .huntTimeout _ => true
  | .lockLoss _ invalid _ => invalid ≤ 64
  | .polarityCheck _ _ _ => true
  | .trainingBlock _ _ payload => payload.length = 8
  | .trainTimeout _ => true
  | .sdsRestart _ => true
  | .laneTestEntry _ _ _ => true
  | .prbsInject _ => true
  | .prbsClear _ => true
  | .prbsLockLoss _ _ _ last => last.length ≤ 64
  | .sdsPrbsBitsLoRead _ _ _ => true
  | .linkChange _ _ _ _ => true
  | .macFrameReceive _ frame _ _ _ _ _ => frame.length ≤ 16384
  | .pauseFrame _ _ => true
  | .pauseEnd _ => true
  | .lpiEntry _ => true
  | .lpiExit _ => true
  | .anRestart => true
  | .macCfgWrite _ _ => true
  | .macCtrlWrite _ _ => true
  | .mgmtFrameComplete _ _ => true
  | .nop c => c.wellFormed
  | .copyIn c => c.wellFormed
  | .copyOut c => c.wellFormed
  | .regWrite c => c.wellFormed
  | .fltAck c => c.wellFormed
  | .twiXfer c _ => c.wellFormed
  | .badOpcode c => c.wellFormed
  | .timedCommandEffect => true
  | .completionWrite => true
  | .hifRingCtrlWrite _ _ => true
  | .hifRingBaseSizeWrite _ _ _ => true
  | .hifCtrlWrite _ => true
  | .pcieReset => true
  | .hostDmaFail _ _ => true
  | .bar0BadAccess _ => true
  | .followFrame _ _ _ din others => din.length ≤ 2048 && others.all (fun o => o.2.length ≤ 2048)
  | .tdmSlipSend _ => true
  | .tdmLoss _ => true
  | .tdmApplyLoWrite _ => true
  | .tdmStagedApply => true
  | .decodeError _ _ _ => true
  | .sramUncorrectable _ _ hit => match hit with
    | .partWrite old => old.length = 8
    | _ => true
  | .masterDrain _ => true
  | .drainComplete _ _ _ => true
  | .marchRequest _ => true
  | .marchComplete _ => true
  | .refreshIntervalExpire _ _ _ => true
  | .refIssue _ _ => true
  | .forcedRefreshBatch _ => true
  | .ddrTempWrite _ => true
  | .ddrTempStale => true
  | .dramUncorrectable _ _ hit => match hit with
    | .copyOut c => c.wellFormed
    | .partWrite old => old.length = 8
    | .other => true
  | .dramCorrectionRate _ => true
  | .ddrCfgWrite _ => true
  | .trainingStep _ => true
  | .trainingStepDone _ _ _ => true
  | .dramInit => true
  | .dramInitDone => true
  | .selfRefreshRequest => true
  | .selfRefreshExit => true
  | .localRepair _ => true
  | .conditionEnd _ => true
  | .fltAckLoWrite _ => true
  | .faultInject _ => true
  | .fltLogDataRead => true
  | .mwUnlock _ _ _ => true
  | .debugAttach => true
  | .twiTargetWrite bytes _ => bytes.length ≠ 0
  | .twiTargetReadFetch _ _ _ => true
  | .twiTargetBusyNack _ => true
  | .twiTargetStretchTimeout => true
  | .twiTargetProtocolError _ _ _ => true
  | .twiTransferComplete _ _ _ _ => true
  | .twiStretchTimeout _ _ _ => true
  | .twiArbitrationLost _ => true
  | .twiBusClear _ _ _ => true
  | .twiBusClearRetry _ _ => true
  | .twiCfgWrite _ _ => true
  | .vinOutOfRange _ => true
  | .vinLoss _ _ => true
  | .powerOnReset _ => true
  | .temperatureSample _ => true
  | .vinSample _ => true
  | .pwrDomReqWrite _ _ => true
  | .domainRelease _ _ => true
  | .regulatorFault _ => true
  | .resetNAssert => true
  | .warmResetWrite _ => true
  | .warmReset => true
  | .coldReset => true
  | .resetConditionScan _ => true
  | .bootAttempt _ => true
  | .bootWaitExpire => true
  | .bootOk => true
  | .bootFailReport => true
  | .bootWatchdogExpire => true
  | .reload => true
  | .reloadTimeout => true
  | .coreWatchdogExpire _ => true
  | .sysWdtKick _ => true
  | .ptpPortLeavesSlave _ => true
  | .senseBitstreamOverload _ _ bits => bits.length = 64
  | .prbsCheckerLock _ bits => bits.length ≤ 95
  | .busMasterEnableChange _ => true
  | .vinReturn _ => true
  | .resetNRelease => true
  | .controllerProtocolError _ _ => true

end Sys2Proof
end

