-- ==== Sys2Proof/Tests/Slice0.lean ====
section
/-!
SUPPORT. Tests and witnesses: well-formedness refuses what the spec refuses, single steps on small states with results from the spec,
and for each statement with hypotheses a state and operands that meet them.
-/

open Sys2Proof Sys2Proof.Machine

namespace Sys2Proof.Tests

theorem witness_StepRunsTheFrontCommand :
    ({ State.reset with pending := [Instr.tickBoundary] } : State).pending = Instr.tickBoundary :: [] := rfl

/-- Every domain is on, and firmware runs. -/
def allOn : State := { State.reset.put R.PWR_DOM_ON 0x7FFFF#32 with pwr := { boot := .ok } }

theorem witness_EmptyQueueLetsOneCyclePass :
    (allOn.pending = [] ∧ allOn.domOn 1 = true ∧ allOn.pwr.levels = [] ∧ (∀ p : Fin 16, allOn.portMaster p = false) ∧ allOn.clk.frac = 0 ∧ allOn.gridRate = allOn.gridDen ∧ allOn.fld F.RTC_CAL_corr = 0 ∧
      allOn.clk.tickPos + ((allOn.clk.frac + 5 * allOn.gridRate) / allOn.gridDen).toNat < allOn.tickLen ∧ allOn.twn.msgs = [] ∧
      allOn.clkx.ppsEnd = none ∧ allOn.pwr.seq = [] ∧ ({ allOn with pwr := { aon := true } } : State).pwr.aon = true) ∧
    ¬ ({ allOn with clk := { tickPos := 500000 } } : State).clk.tickPos + ((0 + 5 * allOn.gridRate) / allOn.gridDen).toNat < allOn.tickLen := by
  decide

theorem witness_CommandsLeaveQueueAndStraps : exec .resetNRelease State.reset = .next State.reset := rfl

theorem witness_CanonicalFormIsKept : memWf State.reset.mem ∧ Tbl.wf resetWord State.reset.regs ∧ step State.reset = .next State.reset.rest :=
  ⟨by decide, by simp [State.reset, Tbl.wf], rfl⟩

theorem witness_TickConfigurationWrite :
    allOn.domOn 1 = true ∧ allOn.ticking = false ∧
    ¬ (bitsOf 0x400106#32 1 0 = 3 ∨ bitsOf 0x400106#32 12 8 = 0 ∨ 16 < bitsOf 0x400106#32 12 8 ∨
      8 * tSamples (bitsOf 0x400106#32 3 2) < bitsOf 0x400106#32 24 16) ∧
    8 * tSamples (bitsOf 0x410105#32 3 2) < bitsOf 0x410105#32 24 16 ∧
    (allOn.setFlag F.TCK_STATUS_running true).ticking = true := by decide

theorem witness_TickRunIsSetAndCleared :
    allOn.domOn 1 = true ∧ allOn.run = .stopped ∧ ({ allOn with run := .armed 3 false } : State).run = .armed 3 false ∧
    ({ allOn with run := .running } : State).run = .running := by decide

theorem witness_TickStartsAndStops :
    allOn.domOn 1 = true ∧ ({ allOn with run := .armed 0 true } : State).run = .armed 0 true ∧ 0 ≤ allOn.tickNum ∧
    allOn.clk.tickPos = 0 ∧ allOn.sram.noAudio = false ∧ ({ allOn with run := .ending } : State).run = .ending ∧
    allOn.flag F.TCK_CTRL_run = false := by decide

theorem witness_BoundaryOpensTheNextTick : allOn.domOn 1 = true ∧ allOn.sched = [] ∧ allOn.twn.marker = false ∧ allOn.run = .stopped ∧
    (allOn.put R.TCK_CTRL 0).flag F.TCK_CTRL_run = false := by decide

/-- A task without blocks and without state. -/
def oneTask : Task :=
  { phase := 0, qos := 0, restart := true, repeatPrev := false, affinity := 0xFF, code := 0, stateIn := 0, stateOut := 0,
    ins := [], outs := [], budget := 100, stateLen := 0 }

/-- A running tick with a graph of one task. -/
def graphOn : State :=
  let g : Graph := { id := 7, phases := [{ first := 0, count := 1, stages := 0 }], fsSel := 0, tSel := 0, reserve := 0, code := [], stateBase := 0, stateSize := 0, tasks := [oneTask] }
  { allOn with run := .running, fab := { allOn.fab with graph := some g } }

theorem witness_WatermarkAndDeadline : graphOn.domOn 1 = true ∧ graphOn.graphLate = true ∧ graphOn.fab.warned = false := by decide

/-- Every domain on, the host interface enabled, bus mastering on, ring 0 and its completion ring enabled, a fetch under way. -/
def hostOn : State :=
  let s := ((allOn.setFlag F.HIF_CTRL_en true).setFlag F.HIF_STATUS_bme true).setFld (F.HIF_RING_SIZE_log2 0) 4
  let s := (s.setFld (F.HIF_RING_SIZE_log2 4) 4).setRing 0 { en := true, prod := 1 }
  { s.setRing 4 { en := true } with hif := { (s.setRing 4 { en := true }).hif with active := true, fetching := true, late := true } }

theorem witness_DoorbellFetchAndShadow : hostOn.hif.fetching = true ∧ (hostOn.ring 0).en = true ∧
    leAt [2, 0, 0, 0] 0 4 ≠ (hostOn.ring 0).prod ∧ Sys2Proof.Machine.dist (leAt [2, 0, 0, 0] 0 4) (hostOn.ring 0).cons ≤ hostOn.ringSize 0 ∧
    hostOn.traffic = true ∧ hostOn.hif.shadowed = false := by decide

theorem witness_RegisterReadsCaptureAndClear :
    allOn.answers R.TCK_SKIP_CNT = true ∧ (findReg R.TCK_SKIP_CNT).isSome = true ∧ R.TCK_SKIP_CNT ≠ R.FLT_LOG_DATA ∧
    R.TCK_SKIP_CNT ≠ R.MOD_IFIR_DATA ∧ R.TCK_SKIP_CNT < 0xD00000 ∧ arr (R.SDS_PRBS_BITS_LO 0) 0x1000 8 R.TCK_SKIP_CNT = none ∧
    pinField R.TCK_SKIP_CNT = none ∧ (BitVec.ofNat 24 R.TCK_SKIP_CNT).toNat = R.TCK_SKIP_CNT ∧ allOn.domOn 1 = true ∧
    allOn.domBusy 1 = false := by decide

theorem witness_RegisterWriteByFieldTypes :
    State.reset.answers R.TCK_CFG = false ∧ allOn.answers R.STR_CTRL = true ∧ (findReg R.STR_CTRL).isSome = true ∧
    0x400000 ≤ R.STR_CTRL ∧ R.STR_CTRL < 0x480000 ∧ (BitVec.ofNat 24 R.STR_CTRL).toNat = R.STR_CTRL := by decide

/-- A GRAPH_LOAD descriptor for an image at the start of DRAM. -/
def loadCmd : HostCmd := { ring := 0, desc := [0x10, 0] ++ List.replicate 18 0 ++ [4] ++ List.replicate 43 0, data := [] }

theorem witness_GraphLoadAndUnload :
    hostOn.Takes loadCmd 0x0010 ∧ cmdTarget loadCmd = 0 ∧ hostOn.ticking = false ∧
    (hostOn.setFlag F.TCK_STATUS_running true).Takes loadCmd 0x0010 ∧
    (hostOn.setFlag F.TCK_STATUS_running true).ticking = true := by
  refine ⟨⟨?_, ?_, ?_⟩, ?_, ?_, ⟨?_, ?_, ?_⟩, ?_⟩ <;> decide

/-- The graph of one task that prefers engine 9. -/
def graphAt9 : State :=
  { graphOn with fab := { graphOn.fab with graph := graphOn.fab.graph.map fun g => { g with tasks := [{ oneTask with affinity := 9 }] } } }

theorem witness_PhaseReleaseDealsByAffinity :
    graphAt9.releasable = some 0 ∧ (graphAt9.phases[0]?).map (·.count) = some 1 ∧
    graphAt9.task? 0 = some { oneTask with affinity := 9 } ∧ graphAt9.active 9 = true ∧ (graphAt9.deque 9).length < 32 ∧
    graphAt9.backlog 9 = [] ∧ State.reset.releasable = none := by decide

/-- The graph of one task that is queued at engine 9. -/
def queuedAt9 : State := graphAt9.setDeque 9 [0]

/-- The same, in view of a thief, engine 8. -/
def stealAt8 : State :=
  let s := queuedAt9.setFab fun f => { f with stealEn := true, depth := [(9, 1)] }
  s

theorem witness_QueuesOfTasks :
    queuedAt9.active 9 = true ∧ queuedAt9.isIdle 9 = true ∧ queuedAt9.deque 9 = 0 :: [] ∧
    queuedAt9.task? 0 = some { oneTask with affinity := 9 } ∧ frameState oneTask queuedAt9.T ≤ 0x4000 ∧
    stealAt8.active 8 = true ∧ stealAt8.isIdle 8 = true ∧ stealAt8.deque 8 = [] ∧ stealAt8.findVictim 8 = some (9, false) ∧
    stealAt8.deque 9 = [] ++ [0] ∧
    (stealAt8.setFab fun f => { f with steal := [(8, 0, false)] }).fab.steal.find? (fun x => x.1 = 8) = some (8, 0, false) := by
  decide

/-- Engine 9 has the task, in a given state. -/
def takenAt9 (st : EState) : State := graphAt9.setEngine 9 { graphAt9.engine 9 with task := some 0, st := st }

theorem witness_TaskRunsFromPrefetchToWriteback :
    ((takenAt9 .prefetch).engine 9).task = some 0 ∧ (takenAt9 .prefetch).task? 0 = some { oneTask with affinity := 9 } ∧
    ((takenAt9 .prefetch).engine 9).st = .prefetch ∧ (takenAt9 .prefetch).taskReady 0 { oneTask with affinity := 9 } = true ∧
    ((takenAt9 .writeback).engine 9).st = .writeback ∧ ((takenAt9 .writeback).engine 9).dma = [] ∧
    (takenAt9 .writeback).runsBack 0 = false ∧ (takenAt9 .prefetch).engIssues 9 = true ∧ (takenAt9 .prefetch).sram.bad = [] ∧
    ((takenAt9 .prefetch).setSram fun x => { x with drain := [41] }).engIssues 9 = false ∧
    ((takenAt9 .running).engine 9).tbud = false ∧
    100 < ({ takenAt9 .running with clk := { tickPos := 1000 } } : State).cycle - ((takenAt9 .running).engine 9).began_at := by decide

/-- Engine 9 is fenced, and its repair is asked for. -/
def fenced9 : State :=
  let s := (takenAt9 .prefetch).setFlag ⟨R.FAB_ACTIVE 0, 9, 9⟩ false
  { s with flt := { s.flt with repair := [(3, 0x109#32)] }, fab := { s.fab with unfence := [] } }

theorem witness_EnginesAreFencedAndReturn :
    fenced9.domOn 2 = true ∧ (takenAt9 .prefetch).active 9 = true ∧ ((takenAt9 .prefetch).current 9).isSome = true ∧ (0x200#32).getLsbD 9 = true ∧
    9 ∈ ((takenAt9 .prefetch).setFab fun f => { f with fence := [9] }).fab.fence ∧ fenced9.active 9 = false ∧
    fenced9.domOn (3 + 9 / 8) = true ∧ 9 ∈ (fenced9.setFab fun f => { f with unfence := [9] }).fab.unfence ∧
    fenced9.fwStopped = false ∧ fenced9.repairDue 9 = true ∧ fenced9.flt.repair = [(3, 0x109#32)] ∧ bitsOf 0x109#32 6 0 = 9 ∧ bitsOf 0x109#32 11 8 ≠ 6 ∧
    (fenced9.flt.fenced.filter fun x => x.1 = 9).length ≤ 1 := by decide

/-- Engine 9 runs. -/
def run9 : State := (takenAt9 .running).setFab fun f => { f with graph := f.graph.map fun g => { g with code := List.replicate 104 0 } }

theorem witness_AluSumsAndCompares : run9.Issues 9 [3] ∧ run9.Issues 9 [] := by
  refine ⟨⟨?_, ?_, ?_⟩, ?_, ?_, ?_⟩ <;> decide

theorem witness_AluLogicAndConstants : run9.Issues 9 [15] := ⟨by decide, by decide, by decide⟩

theorem witness_AluShiftsAndSignCount : run9.Issues 9 [7] ∧ run9.Issues 9 [] ∧ 31 ≤ 31 :=
  ⟨⟨by decide, by decide, by decide⟩, ⟨by decide, by decide, by decide⟩, by decide⟩

theorem witness_MultiplyFamilies : run9.Issues 9 [aName 3] ∧ run9.Issues 9 [aName 2, aName 3] ∧
    run9.Issues 9 [aName 0, aName 1, aName 2, aName 3] :=
  ⟨⟨by decide, by decide, by decide⟩, ⟨by decide, by decide, by decide⟩, ⟨by decide, by decide, by decide⟩⟩

theorem witness_AccumulatorMoves : run9.Issues 9 [aName 1] ∧ run9.Issues 9 [aName 0, aName 1] ∧
    run9.Issues 9 [aName 0, aName 1, aName 2, aName 3] ∧ run9.Issues 9 [12] :=
  ⟨⟨by decide, by decide, by decide⟩, ⟨by decide, by decide, by decide⟩, ⟨by decide, by decide, by decide⟩, ⟨by decide, by decide, by decide⟩⟩

theorem witness_ConversionRoundsAndSaturates : run9.Issues 9 [5] ∧ run9.Issues 9 [2 * 7, 2 * 7 + 1] :=
  ⟨⟨by decide, by decide, by decide⟩, ⟨by decide, by decide, by decide⟩⟩

/-- Engine 9 with P1 in Y. -/
def ptr9 : State := run9.setEngine 9 { run9.engine 9 with p := [(1, 0x4000#16)] }

theorem witness_LocalLoadsAndStores :
    ptr9.Issues 9 (2 :: pName 0 .postInc) ∧ ptr9.Issues 9 (2 :: (2 + 1) :: pName 0 .postInc) ∧ ptr9.Issues 9 (pName 0 .postInc) ∧
    ptr9.Issues 9 [2, 3, 0x10 + 0, 0x10 + 1] ∧ ptr9.Issues 9 [2 * 1, 2 * 1 + 1, 2 * 2, 2 * 2 + 1, 0x10 + 0, 0x10 + 1] ∧
    ((ptr9.engine 9).pv 0).toNat < 0x4000 ∧ ((ptr9.engine 9).pv 0).toNat % 2 = 0 ∧ 0x4000 ≤ ((ptr9.engine 9).pv 1).toNat ∧
    ((ptr9.engine 9).pv 1).toNat < 0x6000 ∧ (ptr9.engine 9).late = [] ∧ (ptr9.engine 9).st = .running ∧
    ∀ x, (ptr9.engine 9).inDma x = false := by
  refine ⟨⟨?_, ?_, ?_⟩, ⟨?_, ?_, ?_⟩, ⟨?_, ?_, ?_⟩, ⟨?_, ?_, ?_⟩, ⟨?_, ?_, ?_⟩, ?_, ?_, ?_, ?_, ?_, ?_, fun x => rfl⟩ <;> decide

/-- Engine 9 with P0 just above Y, and P1 odd. -/
def wild9 : State := run9.setEngine 9 { run9.engine 9 with p := [(0, 0x6000#16), (1, 0x4001#16)] }

theorem witness_LocalLoadsAndStores_wild :
    wild9.Issues 9 (2 :: pName 0 .postInc) ∧ wild9.Issues 9 [2, 3, 0x10 + 0, 0x10 + 1] ∧ (wild9.engine 9).task = some 0 ∧
    0x6000 ≤ ((wild9.engine 9).pv 0).toNat ∧ ((wild9.engine 9).pv 1).toNat % 2 = 1 ∧
    ({ wild9.engine 9 with late := [.fault 2] } : Engine).faulted = some 2 := by
  refine ⟨⟨?_, ?_, ?_⟩, ⟨?_, ?_, ?_⟩, ?_, ?_, ?_, ?_⟩ <;> decide

theorem witness_PointerModes :
    let g : Engine := { p := [(3, 0x17#16)], m := [(3, 4#16)], l := [(3, 8#16)], b := [(3, 0x10#16)] }
    AddrMode.bitRev ≠ .plain ∧ 0 < (g.lv 3).toNat ∧ (g.bv 3).toNat + (g.lv 3).toNat ≤ 65536 ∧ (g.bv 3).toNat ≤ (g.pv 3).toNat ∧
    (g.pv 3).toNat < (g.bv 3).toNat + (g.lv 3).toNat ∧ (g.mv 3).toInt.natAbs ≤ (g.lv 3).toNat ∧
    (g.lv 3).toNat = 2 ^ 3 ∧ (g.bv 3).toNat % 2 ^ 3 = 0 ∧ (g.mv 3).toNat = 2 ^ (3 - 1) ∧ 7 < 2 ^ 3 ∧
    g.pv 3 = g.bv 3 + BitVec.ofNat 16 ((List.range 3).map fun i => if (7 : Nat).testBit i then 2 ^ (3 - 1 - i) else 0).sum ∧
    (∀ j, 1 ≤ j → j ≤ 14 → (({ g with l := [(3, 6#16)] } : Engine).lv 3).toNat = 2 ^ j →
      (({ g with l := [(3, 6#16)] } : Engine).bv 3).toNat % 2 ^ j ≠ 0) := by
  refine ⟨?_, ?_, ?_, ?_, ?_, ?_, ?_, ?_, ?_, ?_, ?_, ?_⟩ <;> decide

theorem witness_BranchesAndRepeats :
    let s := run9.setEngine 9 { run9.engine 9 with dBr := [(2, 5#32)] }
    s.Issues 9 [] ∧ (s.engine 9).Free ∧ (3 : Cond) ≠ 0xF ∧ 1 ≤ ((s.engine 9).dBrv 2).toNat % 8192 ∧
    ((s.engine 9).dBrv 2).toNat % 8192 ≤ 4096 ∧ (s.engine 9).task = some 0 ∧
    (s.setEngine 9 { s.engine 9 with slots := 2 }).Issues 9 [] ∧ ({ s.engine 9 with slots := 2 } : Engine).inDelay = true := by
  refine ⟨⟨?_, ?_, ?_⟩, ⟨?_, ?_⟩, ?_, ?_, ?_, ?_, ⟨?_, ?_, ?_⟩, ?_⟩ <;> decide

theorem witness_MovesTransfersAndMailboxes :
    let s := run9.setEngine 9 { run9.engine 9 with d := [(0, 0x1000000#32), (2, 16#32)], dma := [⟨true, 0, 0, 1, []⟩] }
    s.Issues 9 [0x30] ∧ 0x30 ≤ 0x35 ∧ (s.engine 9).openRead 0x32 = false ∧ s.Issues 9 [0x10 + 4] ∧ s.Issues 9 [6] ∧ s.Issues 9 [] ∧
    (s.engine 9).Free ∧ (s.engine 9).dma.length < 4 ∧ (s.engine 9).dma.length ≤ 3 ∧
    (s.engine 9).task.bind s.task? = some { oneTask with affinity := 9 } ∧
    s.dmaBad { oneTask with affinity := 9 } false ((s.engine 9).dv 0).toNat (((s.engine 9).dv 1).toNat % 2 ^ 16)
      (((s.engine 9).dv 2).toNat % 2 ^ 13) = none ∧ s.domOn (3 + 9 / 8) = true ∧
    s.engIssues 9 = true ∧ s.sram.bad = [] := by
  refine ⟨⟨?_, ?_, ?_⟩, ?_, ?_, ⟨?_, ?_, ?_⟩, ⟨?_, ?_, ?_⟩, ⟨?_, ?_, ?_⟩, ⟨?_, ?_⟩, ?_, ?_, ?_, ?_, ?_, ?_, ?_⟩ <;> decide

theorem witness_BundlesCloseAndEventsEnter :
    let s := run9.setEngine 9 { run9.engine 9 with flights := toD 3 7#32 1 }
    let u := run9.setEngine 9 { run9.engine 9 with es := 0x227C0#32 }
    (s.engine 9).st = .running ∧ (s.engine 9).tend = false ∧ (s.engine 9).Free ∧ (s.engine 9).rpt = none ∧
    (s.engine 9).branched = false ∧ (s.engine 9).late = [] ∧ (s.engine 9).flights = toD 3 7#32 1 ∧ (s.engine 9).pc + 1 < s.codeBundles ∧
    (u.engine 9).mayEnter = true ∧ (u.engine 9).entering = some 1 ∧ (u.engine 9).flights = [] ∧ 12 ≤ u.codeBundles ∧
    (u.engine 9).task = some 0 ∧ bundleLegal 0xFFFFFFFFFFFFFFFF#64 = false ∧ (s.engine 9).faulted = none ∧
    hasDup (({ s.engine 9 with named := [3] } : Engine).named ++ [(3#4).toNat]) = true := by
  refine ⟨?_, ?_, ⟨?_, ?_⟩, ?_, ?_, ?_, ?_, ?_, ?_, ?_, ?_, ?_, ?_, ?_, ?_, ?_⟩ <;> decide

/-- A phase whose stages run, with one route entry, one bus with one crosspoint, and one dynamics unit. -/
def stagesOn (n : Nat) : State :=
  let ph : Phase := { first := 0, count := 0, stages := 7 }
  let s := graphOn.setFab fun f => { f with phase := some 0, stages := n, graph := f.graph.map fun g => { g with phases := [ph] } }
  s.setMix fun m => { m with
    route := [(5, { e := { dst := 1, src := 2, gain := 0x20000000#32, enable := true } })]
    bus := [(0, { out := 3, enable := true })]
    xp := [(9, { e := { src := 2, bus := 0, enable := true } })]
    dyn := [(4, { e := { inp := 2, out := 6, sc := 0xFFFF, enable := true } })] }

theorem witness_FixedBlockStages :
    (stagesOn 7).stageTurn 0 = some 0 ∧ (stagesOn 6).stageTurn 1 = some 0 ∧ (stagesOn 4).stageTurn 2 = some 0 ∧
    (stagesOn 7).mix.route = [(5, (stagesOn 7).rte 5)] ∧ ((stagesOn 7).rte 5).e.enable = true ∧
    (stagesOn 7).mix.bus.length = 1 ∧ (stagesOn 7).mix.xp.length = 1 ∧ (stagesOn 7).mix.dyn.length = 1 ∧
    (stagesOn 7).runsBack (16384 + 4) = false ∧
    (let s := (stagesOn 7).setRte 5 { (stagesOn 7).rte 5 with e := { ((stagesOn 7).rte 5).e with dlyEn := true } }
     (s.setFlag F.DDR_STATUS_init_done true).stageTurn 0 = some ((s.rte 5).e.phase)) := by decide

/-- A route entry whose fade is over and whose next contents wait. -/
def deferOn : State :=
  let s := (stagesOn 7).setRte 5 { (stagesOn 7).rte 5 with cross := some (none, ⟨0, 0, 0⟩), defer := some { enable := true, src := 9 } }
  (s.setFld F.MIX_METER_CFG_interval 1).setMix fun m => { m with meterTicks := 1 }

theorem witness_FadesEndAndDeferredChangesApply :
    Tbl.wf (fun _ => ({} : RouteSt)) deferOn.mix.route ∧ Tbl.wf (fun _ => ({} : XpSt)) deferOn.mix.xp ∧
    Tbl.wf (fun _ => ({} : DynSt)) deferOn.mix.dyn ∧ (deferOn.rte 5).defer = some { enable := true, src := 9 } ∧
    (((deferOn.rte 5).cross.all fun f => decide (deferOn.tickNum < f.2.n0 ∨ f.2.len ≤ (deferOn.tickNum - f.2.n0) * deferOn.T)) = true) ∧
    (deferOn.rte 5).tap = none ∧ deferOn.fld F.MIX_METER_CFG_interval ≠ 0 ∧
    deferOn.tickNum % deferOn.fld F.MIX_METER_CFG_interval = 0 ∧ deferOn.mix.meterTicks ≠ 0 ∧ deferOn.hostUp = false ∧
    (let u := ((hostOn.setFld F.MIX_METER_CFG_interval 1).setMix fun m => { m with meterTicks := 1 }).setRing 9 { en := true }
     u.hostUp = true ∧ (u.ring 9).en = true ∧ (u.setFld (F.HIF_RING_SIZE_log2 9) 4).ringRoom 9 = 16) := by decide

/-- A descriptor: opcode, and the bytes from offset 16 on. -/
def cmd (op : Byte) (args : List Byte) : HostCmd :=
  { ring := 0, desc := padTo 64 ([op, 0] ++ List.replicate 14 0 ++ args), data := [] }

/-- The host interface with host set 1 defined. -/
def setOn : State := hostOn.setPset 1 { off := 64, size := 64 }

theorem witness_ParameterSetCommands :
    let d := cmd 0x20 [1, 0, 0, 0, 1, 0, 0, 0, 1, 0]
    let u := cmd 0x21 [1, 0]
    let l := cmd 0x22 [1, 0, 0, 0, 0, 0, 0, 0, 4, 0]
    let w := cmd 0x23 [1, 0, 4, 0]
    (cmdOp d = 0x20 ∧ badDesc d = none ∧ cmdTarget d = 0 ∧ hostOn.mayParse d.ring = true ∧ (hostOn.takeCmd 0).pset? 1 = none ∧
      (hostOn.takeCmd 0).psetPending 1 = false ∧ cmdArg d 8 2 = 1) ∧
    (cmdOp u = 0x21 ∧ badDesc u = none ∧ cmdTarget u = 0 ∧ setOn.mayParse u.ring = true ∧ setOn.ticking = false ∧
      (setOn.takeCmd 0).pset? (cmdArg u 0 2) = some { off := 64, size := 64 } ∧ isBlockSet (cmdArg u 0 2) = false) ∧
    (cmdOp l = 0x22 ∧ badDesc l = none ∧ cmdTarget l = 0 ∧ cmdArg l 8 4 = 4 ∧ cmdArg l 4 4 = 0) ∧
    (cmdOp w = 0x23 ∧ badDesc w = none ∧ cmdTarget w = 0 ∧ cmdArg w 2 2 = 4 ∧ cmdArg w 4 4 = 0) := by decide

/-- A commit of host set 1 for tick 3. -/
def commitCmd : HostCmd := { cmd 0x24 [1, 0] with desc := padTo 64 ([0x24, 0, 0, 0, 0, 0, 0, 0, 3] ++ List.replicate 7 0 ++ [1, 0]), data := [1, 0] }

/-- Its commit, due. -/
def dueCommit : Timed := { target := 0, kind := .psetCommit [1] true, ring := some 0, tag := 0, late := false }

theorem witness_validPset : (setOn.takeCmd 0).psetBad [1] 3 = none := by
  simp [State.psetBad, List.range, List.range.loop]

set_option maxRecDepth 8000 in
theorem witness_ParameterSetCommitAndSwitch :
    (cmdOp commitCmd = 0x24 ∧ badDesc commitCmd = none ∧ setOn.mayParse commitCmd.ring = true ∧
      (setOn.takeCmd 0).earliest (setOn.issueTick 0) true ≤ cmdTarget commitCmd ∧ cmdTarget commitCmd = 3 ∧
      commitList commitCmd = [1] ∧ ((setOn.takeCmd 0).pset? 1).isSome = true ∧ (setOn.takeCmd 0).psetPending 1 = false ∧
      (setOn.takeCmd 0).psetCommits < 64 ∧ (setOn.takeCmd 0).paired = false) ∧
    dueCommit.target ≤ setOn.tickNum ∧ setOn.pset? 1 = some { off := 64, size := 64 } ∧
    (setOn.setPset 1 { off := 64, size := 64, copying := true }).pset? 1 = some { off := 64, size := 64, copying := true } := by decide

/-- A pair, host set 1 defined, and an own commit of it that waits for agreement. -/
def pairOn : State :=
  let s := setOn.setFlag F.TWN_STATUS_paired true
  { s with sched := [{ dueCommit with kind := .psetCommit [1] false, propId := some 77 }] }

/-- A proposal for the same set with another checksum. -/
def badProp : Proposal := { id := 5#32, tick := 9#64, streams := false, items := [(2, 1#32)] }

theorem witness_CommitsAreAgreedInAPair :
    pairOn.paired = true ∧ (setOn.setFlag F.TWN_STATUS_paired true).propBad badProp = some 0 ∧
    (setOn.setFlag F.TWN_STATUS_paired true).propBad { badProp with items := [] } = none ∧
    pairOn.sched = [{ dueCommit with kind := .psetCommit [1] false, propId := some 77 }] ∧
    ({ dueCommit with kind := .psetCommit [1] false, propId := some 77 } : Timed).agreed = false ∧
    ({ dueCommit with ring := none, propId := some 77 } : Timed).ring = none := by decide

/-- A staged receive context 1 of one channel, mapped to slot 7, and its commit for tick 3. -/
def stageOn : State :=
  hostOn.setStr fun t => { t with rxStage := [(1, [0x21, 0, 1, 0] ++ List.replicate 60 0 ++ [7, 0] ++ List.replicate 126 0xFF)] }

set_option maxRecDepth 8000 in
theorem witness_StreamsAreStagedAndCommitted :
    (let c := cmd 0x30 [0, 0, 1, 0]
     cmdOp c = 0x30 ∧ badDesc c = none ∧ cmdTarget c = 0 ∧ hostOn.mayParse c.ring = true ∧ cmdArg c 2 2 = 1 ∧ cmdArg c 0 1 = 0 ∧
       (hostOn.takeCmd 0).ctxPending 1 = false) ∧
    (let c := cmd 0x30 [1, 0, 1, 0]
     cmdOp c = 0x30 ∧ badDesc c = none ∧ cmdArg c 0 1 = 1 ∧ (hostOn.takeCmd 0).ctxPending 0x8001 = false) ∧
    ({ dueCommit with kind := .streamCommit [1] true } : Timed).target ≤ stageOn.tickNum ∧
    ctxOn (stageOn.stagedCtx 1) = true ∧ ctxOn (stageOn.rx 1).ctx = false ∧ ctxOn (hostOn.stagedCtx 1) = false := by decide

/-- One enabled transmit stream on port A, and a committed tick. -/
def txOn1 : State :=
  let s := (((allOn.setFlag F.TCK_STATUS_running true).setFlag F.TCK_STATUS_grid_valid true).setFlag (F.MAC_STATUS_link 0) true).setFlag
    (F.MAC_CTRL_tx_en 0) true
  { s with fab := { s.fab with comTick := some 4 }, str := { s.str with txServe := [(1, [0x21, 0, 1, 0])] } }

/-- An AAF context of one INT_32BIT channel on port A, RUNNING or WAITING, and a frame of its identity. -/
def rxOn1 (st : Nat) : State :=
  let s := (allOn.setFlag F.TCK_STATUS_grid_valid true).setFld (F.STR_RX_STATUS_state 1) st
  s.setRx 1 { ctx := [0x21, 0, 1, 0] ++ List.replicate 60 0 ++ [7, 0], quiet := 64 }

/-- Its frame: header of R193 with stamp 166667 ns, 32 bytes of samples. -/
def aafFrame : List Byte :=
  List.replicate 12 0 ++ [0x22, 0xF0, 2, 0x81, 0, 0] ++ List.replicate 8 0 ++ [0, 2, 0x8B, 0x0B, 2, 0x70, 1, 32, 0, 32, 0, 0]
    ++ List.replicate 32 0

set_option maxRecDepth 8000 in
theorem witness_PacketsAreSentAndReceived :
    (txOn1.fab.comTick = some 4 ∧ txOn1.tickNum < 4 + 2 ∧ txOn1.str.launched = false ∧ txOn1.ticking = true ∧ txOn1.withhold = false ∧
      ctxOn [0x21, 0, 1, 0] = true ∧ ctxPort [0x21, 0, 1, 0] 0 = true ∧ ctxPort [0x21, 0, 1, 0] 1 = false ∧
      txOn1.flag (F.MAC_STATUS_link 0) = true ∧ txOn1.portSends 0 = true ∧ txOn1.mayIssue 15 = true ∧
      (txOn1.setSram fun x => { x with drain := [15] }).mayIssue 15 = false) ∧
    (allOn.mayIssue 15 = true ∧ allOn.rxPins (macLane 0) = true ∧ (rxOn1 1).rxPins (macLane 0) = true ∧ (rxOn1 1).now.media = []) ∧
    (allOn.matchRx aafFrame 0 = none ∧ (frameType aafFrame).2 = 0x22F0 ∧ (frameType []).2 ≠ 0x22F0 ∧ allOn.matchRx [] 0 = none) ∧
    ((rxOn1 1).matchRx aafFrame 0 = some 1 ∧ (rxOn1 1).flag F.TCK_STATUS_grid_valid = true ∧
      ((rxOn1 1).setFlag F.TCK_STATUS_grid_valid false).matchRx aafFrame 0 = some 1) ∧
    (ctxRtp ((rxOn1 1).rx 1).ctx = false ∧ ctxFlag ((rxOn1 1).rx 1).ctx 8 = false ∧ ((rxOn1 1).rx 1).win = none ∧
      ((rxOn1 1).rx 1).fill = [] ∧ (rxOn1 1).rxState 1 = 1) ∧
    ((rxOn1 2).rxState 1 = 2 ∧ 64 ≤ ((rxOn1 2).rx 1).quiet ∧ ((rxOn1 2).rx 1).got = false) := by decide

set_option maxRecDepth 8000 in
theorem witness_acceptedFrame :
    (rxOn1 1).aafBad ((rxOn1 1).rx 1).ctx aafFrame 14 = none ∧ (frameType aafFrame).1 = 14 ∧
    (rxOn1 1).presentation ((rxOn1 1).rx 1).ctx aafFrame 14 ((rxOn1 1).stampTime 0) = .inl 16 ∧ (rxOn1 1).T = 8 ∧
    ((rxOn1 1).tickNum : Int) < 16 / (8 : Int) ∧ (16 : Int) / 8 ≤ ((rxOn1 1).tickNum : Int) + (rxOn1 1).L + 1 := by decide

/-- A running tick with the guard met and OWN requested. -/
def ownReady : State :=
  let s := allOn.setFlag F.TCK_STATUS_running true
  { s with pref := true, twn := { s.twn with guardOk := true } }

/-- The same module as the owner. -/
def ownerOn : State := ownReady.setTwn fun t => { t with ownOut := true, pins := true, enter := [3] }

theorem witness_OwnershipFollowsTheInterlock :
    (ownReady.isOwner = false ∧ ownReady.twn.ownOut = false ∧ ownReady.flag F.TWN_CTRL_own_req = true ∧ ownReady.twn.guardOk = true ∧
      ownReady.twn.settling = false ∧ ownReady.twn.retryAt = none ∧ ownReady.domOn 1 = true ∧ ownReady.twn.ownNow = false ∧ ownReady.twn.ho = none ∧ ownReady.flt.yield = [] ∧
      ownReady.twn.takeover = false ∧ ownReady.ticking = true ∧ ownReady.pref = true ∧ ownReady.unhealthy = false ∧
      ownReady.twn.barred = false) ∧
    (({ ownReady with flt := { yield := [5] } } : State).flt.yield ≠ []) ∧
    (let s := ((ownReady.setFld F.TWN_STATUS_state 4).setFlag F.TWN_CTRL_take_unsync false).setTwn fun t => { t with barred := true }
     s.twn.barred = true ∧ s.pairState = 4 ∧ s.flag F.TWN_CTRL_take_unsync = false) ∧
    (ownerOn.domOn 15 = true ∧ ownerOn.isOwner = true ∧ ownerOn.twn.ho = none ∧ ownerOn.twn.ownOut = true ∧ ownerOn.twn.settling = false ∧ ownerOn.hif.twi = [] ∧
      (3 : Fin 32).val ∈ ownerOn.twn.enter) ∧
    ((ownReady.setTwn fun t => { t with ownOut := true, settling := true, takeover := true }).twn.collided = false) ∧
    ((ownReady.setTwn fun t => { t with ownOut := true, settling := true, collided := true }).equalStraps = false) ∧
    ((ownReady.setTwn fun t => { t with ownOut := true, settling := true, collided := true, theirPref := some true }).equalStraps = true) ∧
    (({ ownReady with pref := false } : State).setTwn fun t => { t with ownOut := true, settling := true, collided := true }).twn.ownOut = true
    := by decide

/-- A pair in EQUINOX: the owner; the shadow, locked to it, eligible for a return. -/
def equinoxOwner : State := ownerOn.setFld F.TWN_STATUS_state 5
def equinoxShadow : State :=
  let s := ((ownReady.setFld F.TWN_STATUS_state 5).setFld F.CLK_STATUS_dpll_state 2).setFld F.CLK_STATUS_sel_ref 6
  { s.setTwn fun t => { t with revU := some 0, lbOk := true } with clk := { s.clk with freeU := 61 * secU } }

/-- The same with a handover armed, or a request on its way. -/
def armedAs (x : Handover) : State := equinoxShadow.setTwn fun t => { t with ho := some x }
def askedAs : State := equinoxShadow.setTwn fun t => { t with hoReq := some { h := 9, late := true } }

set_option maxRecDepth 8000 in
theorem witness_HandoversAreProposedAgreedAndCarriedOut :
    (ownerOn.domOn 15 = true ∧ equinoxOwner.domOn 15 = true ∧ ownerOn.twn.ho = none ∧ ownerOn.twn.hoReq = none ∧ ownerOn.equinox = false) ∧
    ((equinoxShadow.setFld F.CLK_STATUS_sel_ref 0).equinox = true ∧ (equinoxShadow.setFld F.CLK_STATUS_sel_ref 0).isOwner = false ∧
      (equinoxShadow.setFld F.CLK_STATUS_sel_ref 0).unhealthy = false ∧ (equinoxShadow.setFld F.CLK_STATUS_sel_ref 0).sel ≠ 6) ∧
    (equinoxOwner.equinox = true ∧ equinoxOwner.isOwner = true ∧ equinoxOwner.partnerUnhealthy = false) ∧
    (equinoxShadow.equinox = true ∧ equinoxShadow.isOwner = false ∧ equinoxShadow.unhealthy = false ∧ equinoxShadow.dpll = 2 ∧
      equinoxShadow.sel = 6 ∧ equinoxShadow.twn.ho = none ∧ equinoxShadow.twn.hoReq = none) ∧
    (askedAs.twn.hoReq = some { h := 9, late := true } ∧ (9#64).toNat = 9) ∧
    ((armedAs { h := 0, outgoing := false }).tickNum = 0 ∧ PinGroup.twi ∉ ({ h := 0, outgoing := false } : Handover).switched ∧
      (armedAs { h := 0, outgoing := false }).twiIdle = true) ∧
    (∀ p ∈ pinGroups, p ∈ ({ h := 0, outgoing := true, switched := pinGroups } : Handover).switched) ∧
    ((armedAs { h := 0, outgoing := false, owned := true }).twn.guardOk = true) ∧
    ((armedAs { h := 0, outgoing := false }).twn.ownIn = false) ∧
    (equinoxShadow.twn.revU = some 0 ∧ equinoxShadow.flag F.TWN_CTRL_revert_en = true ∧ equinoxShadow.pref = true ∧
      equinoxShadow.twn.lbOk = true ∧ 0 + equinoxShadow.revertHold ≤ equinoxShadow.clk.freeU) := by decide

/-- A HELLO of the PREF-low module 5 with the reset TCK_CFG, and a heartbeat of an owner. -/
def aHello : HelloMsg :=
  { pref := false, running := false, moduleId := 5, graphId := 0, tckCfg := allOn.reg R.TCK_CFG, tick := 3, fwVersion := 0 }
def aBeat : HeartbeatMsg :=
  { tick := 0, owner := true, state := 5, worst := 0, ownOut := true, ownIn := false, ownReq := true, revertEligible := false
    markerOffset := 400, crcOk := true }

/-- A module that is linking; a solo one with two lanes. -/
def linkingOn : State := { allOn.setFld F.TWN_STATUS_state 1 with pref := true }
def soloOn : State := allOn.setTwn fun t => { t with working := 3, partner := some aHello, hb := some aBeat }

set_option maxRecDepth 8000 in
theorem witness_ModulesPairAndKeepTheLink :
    (soloOn.solo = true ∧ soloOn.flag F.TWN_CTRL_pair_en = true ∧ soloOn.twn.working ≠ 0 ∧ soloOn.fwStopped = false ∧ allOn.twn.working = 0 ∧
      soloOn.twn.hbNow = false) ∧
    (linkingOn.pairState = 1 ∧ linkingOn.solo = false ∧ linkingOn.fwStopped = false ∧ aHello.pref ≠ linkingOn.pref ∧ aHello.graphId = linkingOn.reg R.FAB_GRAPH_ID ∧
      aHello.tckCfg = linkingOn.reg R.TCK_CFG ∧ aHello.running = false ∧ linkingOn.ticking = false ∧
      max linkingOn.tickNum aHello.tick.toNat + linkingOn.fs / linkingOn.T + 256 < 2 ^ 64) ∧
    ({ aHello with pref := true } : HelloMsg).pref = linkingOn.pref ∧ aBeat.crcOk = true ∧ (400 - aBeat.markerOffset) % 2 = 0 ∧
    (aHello.moduleId.toNat ≤ ({ soloOn with moduleId := 9 } : State).moduleId.toNat ∧ soloOn.moduleId.toNat < aHello.moduleId.toNat ∧
      laneSet (soloOn.twn.working &&& (15#4).toNat) ≠ 0) := by decide

/-- A pair state with one own digest due, the partner's beside it, and a run. -/
def comparing (st run : Nat) (theirs : List Dig) : State :=
  let s := (equinoxOwner.setFld F.TWN_STATUS_state st).setTwn fun t => { t with
    own := [⟨0, 1, 2⟩], theirs := theirs, run := run, agree := 7 }
  { s with clk := { s.clk with tickNum := 2 }, fab := { s.fab with comTick := some 0 } }

/-- A resynchronisation whose step n is due. -/
def stepping (st n : Nat) (src : Bool) : State :=
  (equinoxOwner.setFld F.TWN_STATUS_state st).setTwn fun t => { t with rsNext := some (n, 0), rsSource := src }

set_option maxRecDepth 8000 in
theorem witness_DigestsAreComparedAndPairsResynchronise :
    ((comparing 5 0 []).twn.own = [⟨0, 1, 2⟩] ∧ (comparing 5 0 []).fab.comTick = some 0 ∧ 0 + 2 ≤ (comparing 5 0 []).tickNum ∧
      4 ≤ (comparing 5 0 []).pairState) ∧
    ((comparing 5 2 [⟨0, 2, 0⟩]).twn.theirs = [⟨0, 2, 0⟩] ∧ (comparing 5 2 [⟨0, 2, 0⟩]).pairState = 5 ∧
      (comparing 5 2 [⟨0, 2, 0⟩]).twn.run = 2 ∧ (comparing 5 1 [⟨0, 2, 0⟩]).twn.run < 2 ∧ (comparing 5 2 [⟨0, 2, 0⟩]).isOwner = true ∧
      (1 : BitVec 64) ≠ 2) ∧
    ((comparing 4 0 [⟨0, 1, 2⟩]).pairState = 4 ∧ (comparing 4 0 [⟨0, 1, 2⟩]).twn.agree = 7) ∧
    ((stepping 2 1 true).pairState = 2 ∧ (stepping 2 1 true).twn.rsSource = true ∧ (stepping 2 1 true).twn.rsNext = some (1, 0)) ∧
    ((stepping 3 2 false).pairState = 3 ∧ (stepping 3 2 false).twn.rsSource = false ∧ (stepping 3 5 false).twn.rsNext = some (5, 0) ∧ (stepping 3 4 false).twn.rsNext = some (4, 0) ∧
      0 ≤ (stepping 3 5 false).tickNum) := by decide

/-- Port 0, in follow mode on its own lands, in a state, capturing, with two channels, that has seen an edge at the start of sample 20. -/
def portOn (st : Nat) (x : TdmPort) : State :=
  let s := (allOn.putApp (R.TDM_CFG 0) 0x1054#32).setFld (F.TDM_STATUS_state 0) st
  s.setPort 0 { x with edge := some (20 * s.sampU) }

set_option maxRecDepth 8000 in
theorem witness_ConverterPortsFollowAndApply :
    (allOn.domOn 17 = true ∧ (portOn 1 {}).domOn 1 = true ∧ (portOn 1 {}).portSt 0 = 1 ∧
      (portOn 1 {}).appFlag (F.TDM_CFG_in_en 0) = true ∧ 0 < (portOn 1 {}).T) ∧
    ((portOn 3 {}).followers 0 = [0] ∧ ((portOn 3 {}).putApp (R.TDM_CFG 2) 0x1054#32).followers 0 = [0, 2]) ∧
    ((portOn 3 { next := some 31 }).portSt 0 = 3 ∧ ((portOn 3 { next := some 31 }).port 0).edge = some (20 * 62500) ∧
      (portOn 3 {}).sampU = 62500 ∧ 64 = (portOn 3 {}).tdmCh 0 * 32 ∧ 20 * 62500 < 21 * 62500 ∧
      ((21 * 62500 : Int) - 20 * 62500 - 62500).natAbs * 1000 ≤ 62500) ∧
    ((21 * 62500 : Int) - (31 - 10) * 62500 ≤ 62500 ∧ (21 * 62500 : Int) - (32 - 10) * 62500 ≤ -62500 ∧
      (62500 : Int) < 21 * 62500 - (29 - 10) * 62500 ∧ (portOn 3 {}).T = 8) ∧
    (((portOn 2 { valid := 63 }).port 0).valid = 63 ∧ (portOn 2 {}).portSt 0 = 2 ∧
      ({ portOn 2 {} with clk := { (portOn 2 {}).clk with tickPos := 200000, tickNum := 9 } } : State).edgeNow 0 = false) ∧
    (equinoxOwner.isOwner = true ∧ equinoxOwner.equinox = true ∧ equinoxShadow.isOwner = false ∧ equinoxShadow.equinox = true ∧
      equinoxShadow.tickNum < (1#64).toNat ∧ 0 < equinoxShadow.T ∧ (portOn 3 {}).portIn 0 = true) ∧
    ((allOn.setTdm fun t => { t with armed := some 0, armedIn := 1 }).tdm.armed = some allOn.tickNum ∧ allOn.tickNum = 0) ∧
    (((allOn.setFld (F.TDM_CFG_fmt 0) 3).setTdm fun t => { t with armed := none }).tdmCfgOk 0 = false) := by decide

set_option maxRecDepth 20000 in
theorem witness_stagedPortsAreValid :
    ∀ e ∈ ((allOn.setTdm fun t => { t with armed := none }).setFlag F.TDM_GSTATUS_apply_pend false).tdmChecks, e.2.2.2 = true := by
  decide

/-- Channel 1 enabled with its sense clock on, its timebase locked, in a state. -/
def chanOn (x : AmpCh) : State :=
  let s := (((allOn.setFlag F.MOD_CTRL_run true).setFlag F.SNS_CTRL_run true).setFld F.SNS_CLK_CFG_clk_en 1).setFlag F.MOD_STATUS_tb_lock true
  (s.putApp (R.MOD_CH_CFG 1) 0x1000#32).putAmp1 1 x

/-- A window of 48000 samples with a good load. -/
def aWindow : ZSum := { n := 48000, vc := 2 ^ 62, vs := 0, ic := 2 ^ 62, is := 0 }

set_option maxRecDepth 20000 in
theorem witness_AmplifierChannelsFollowTheirStates :
    (((chanOn {}).amp1 1).st = .off ∧ (chanOn {}).flag F.MOD_CTRL_run = true ∧ (chanOn {}).appFlag (F.MOD_CH_CFG_en 1) = true ∧
      (chanOn {}).flag F.SNS_CTRL_run = true ∧ ((chanOn {}).fld F.SNS_CLK_CFG_clk_en).testBit (1 / 8) = true ∧
      (chanOn {}).flag F.MOD_STATUS_tb_lock = true ∧ (chanOn {}).twn.ho = none ∧ (chanOn {}).domOn 17 = true) ∧
    (((chanOn { st := .play }).setFlag F.MOD_CTRL_run false).flag F.MOD_CTRL_run = false ∧ ((chanOn { st := .play }).amp1 1).st = .play ∧
      ((chanOn { st := .retry }).amp1 1).timer = 0) ∧
    ((chanOn {}).senseOk 1 = true ∧
      trips ((chanOn {}).appFld (F.SNS_CH_TRIP_thr 1)) ((chanOn {}).appFld (F.SNS_CH_TRIP_trip_n 1)) 0
        (fastMags (List.replicate 15 true)) = true) ∧
    (((chanOn {}).setFlag F.CLK_STATUS_osc_ok true).flag F.CLK_STATUS_osc_ok = true ∧ (chanOn {}).clkx.clampAt = none ∧
      ((chanOn { st := .mute }).setFlag F.MOD_STATUS_clk_err true).flag F.MOD_STATUS_clk_err = true) ∧
    (((chanOn { st := .check, since := 6000000 }).amp1 1).since = 6000000 ∧ (chanOn { st := .check }).hasPilot 1 = false ∧
      ((chanOn {}).putApp (R.SNS_CH_PILOT 1) (1#32)).hasPilot 1 = true ∧
      (chanOn { st := .check }).flag F.MOD_STATUS_clk_err = false) ∧
    ((chanOn {}).fs / 2 ≤ aWindow.n ∧ aWindow.invalid = false) := by decide

set_option maxRecDepth 20000 in
theorem witness_AmplifierScheduleMeasurementsAndRegisters :
    (((chanOn { st := .play }).amp1 1).st = .play ∧ (chanOn { st := .play }).equinox = false ∧ (chanOn { st := .play }).twn.enter = [] ∧
      2 * (chanOn {}).appFld (F.MOD_CH_DEAD_dead 1) + 2 * (chanOn {}).appFld F.MOD_MINPULSE_mp
        ≤ (chanOn {}).periodStart 1 1 - (chanOn {}).periodStart 1 0) ∧
    (((chanOn { win := some aWindow }).amp1 1).win = some aWindow ∧ (chanOn {}).zLen 1 ≤ 96000 ∧
      (runOf 64 0 false (List.replicate 64 true)).isSome = true) ∧
    ((chanOn {}).appFlag (F.SNS_CH_PLIM_en 1) = false ∧ ((chanOn {}).putApp (R.SNS_CH_PLIM 1) 0xFFFFFFFF#32).appFlag
      (F.SNS_CH_PLIM_en 1) = true ∧ (chanOn {}).subTicks 1 ≤ 100000) ∧
    ((chanOn { st := .play }).flag F.MOD_STATUS_running = true ∧ allOn.flag F.MOD_STATUS_running = false ∧ allOn.domOn 17 = true ∧
      bitsOf 0x100000#32 21 20 = 1 ∧ bitsOf 0#32 21 20 = 0 ∧ bitsOf 0#32 19 0 < 300000 ∧ (allOn.setFld F.MOD_FSW_mode 0).fld F.MOD_FSW_mode = 0) ∧
    ((chanOn {}).flag F.SNS_CTRL_run = true ∧ allOn.flag F.SNS_CTRL_run = false ∧ bitsOf 0#32 5 0 < 25 ∧ bitsOf 32#32 5 0 = 32 ∧ allOn.fld F.TCK_CFG_fs_sel = 1) ∧
    ((allOn.setAmp fun a => { a with armed := some 0, armedIn := 1 }).amp.armed = some allOn.tickNum ∧
      (allOn.setAmp fun a => { a with armed := some 0, armedIn := 1 }).amp.armedIn ≠ allOn.tickNum ∧
      983 < (allOn.setFld F.MOD_MINPULSE_mp 1000).fld F.MOD_MINPULSE_mp) := by decide

set_option maxRecDepth 20000 in
theorem witness_deadTimesAreValid : allOn.deadsOk 0 111538278 = true ∧ allOn.deadsOk (min 51 (bitsOf 0#32 5 0)) allOn.pq = true := by decide

/-- Reference 2 in a state of its own, the DPLL in a state with a selection. -/
def refOn (x : Ref) (dpll sel : Nat) : State :=
  let s := ((allOn.setFld (F.CLK_REF_CFG_prio 2) 1).setFld F.CLK_STATUS_dpll_state dpll).setFld F.CLK_STATUS_sel_ref sel
  s.setClkx fun c => { c with refs := [(2, x)], locked := true }

set_option maxRecDepth 8000 in
theorem witness_ReferencesQualifyAndFail :
    (allOn.condActive 12 = false ∧ allOn.flt.ended = [] ∧ ((refOn { rough := true } 0 7).ref 2).rough = true) ∧
    ((refOn {} 0 7).prio 2 ≠ 0 ∧ ((refOn {} 0 7).regI R.CLK_DCO_NOW + 3 * 1000).natAbs ≤ 50000000 ∧ ((refOn {} 0 7).ref 2).q = false ∧
      ((refOn {} 0 7).ref 2).wait = none ∧ ((refOn { wait := some 5 } 0 7).ref 2).wait = some (4 + 1)) ∧
    (((refOn { act := true, wait := some 0 } 0 7).ref 2).act = true ∧ (refOn { act := true, wait := some 0 } 0 7).sel = 7 ∧
      (refOn { act := true, wait := some 0 } 0 7).clkx.disputes = [] ∧
      ∀ m < 7, m ≠ 2 → ((refOn { act := true, wait := some 0 } 0 7).ref m).q = false) ∧
    (((refOn { q := true } 2 2).ref 2).q = true ∧ (refOn { q := true } 2 2).sel = 2 ∧ (refOn { q := true } 2 2).clkx.locked = true ∧
      ∀ m < 7, m ≠ 2 → ((refOn { q := true } 2 2).ref m).q = false) ∧
    ((refOn {} 2 7).setFld (F.CLK_REF_CFG_prio 5) 1).prio 5 ≠ 0 ∧
    (((refOn {} 2 7).setClkx fun c => { c with refs := [(4, { q := true }), (5, { q := true })] }).ref 5).q = true := by decide

set_option maxRecDepth 8000 in
theorem witness_TheDpllSlewsStepsAndHoldsOver :
    ((refOn { q := true } 1 2).sel = 2 ∧ (refOn { q := true } 1 2).dpll = 1 ∧ (refOn { q := true } 1 2).flag F.CLK_CTRL_manual = false ∧
      ((refOn { q := true } 1 2).setFld F.CLK_DPLL_CFG_lock_time 0).lasted (some 0)
        (((refOn { q := true } 1 2).setFld F.CLK_DPLL_CFG_lock_time 0).fld F.CLK_DPLL_CFG_lock_time * (secU / 10)) = true ∧
      (refOn { q := true } 1 2).prio 2 ≠ 0 ∧ ((refOn { q := true } 1 2).ref 2).q = true) ∧
    (∀ m < 7, m ≠ 2 → ((refOn { q := true } 1 2).ref m).q = false) ∧
    (let s := (refOn {} 2 2).setClk fun c => { c with freeU := secU }
     s.dpll = 2 ∧ s.lasted (some 0) secU = true) ∧
    (let s := (refOn {} 3 7).setFlag F.CLK_HO_CTRL_u0_valid true
     s.flag F.CLK_HO_CTRL_u0_valid = true ∧ s.flag F.CLK_HO_CTRL_t_valid = false ∧ s.flag F.CLK_HO_CTRL_a_valid = false ∧ s.dpll = 3) ∧
    (let s := ((allOn.setFlag F.CLK_CTRL_mode true).setFld F.CLK_STATUS_sel_ref 4)
     s.network = true ∧ isTimeRef s.sel = true ∧ s.clk.tickPos = 0 ∧ s.boundaryOffset 400000 = 400000 ∧
      s.boundaryOffset 2000000 = 2000000 ∧ s.clk.commitAs = none) ∧
    ((allOn.setFlag F.CLK_CTRL_mode false).network = false ∧ allOn.clkx.realign = false ∧ allOn.clkx.offs = 0 ∧ allOn.clkx.offAny = false ∧
      0 ≤ ((allOn.tickNum * allOn.tickU : Nat) : Int) + 2000000 * 6 / 1000) := by decide

/-- Timer 1 armed for the time 5 ns, at network time 10 ns; periodic with period 3 or not. -/
def timerOn (periodic : Bool) : State :=
  let s := ((allOn.setFlag (F.TIM_TMR_CTRL_periodic 1) periodic).put (R.TIM_TMR_PER 1) 3).setTimer 1 { target := 5, armed := true }
  { s with clk := { s.clk with tickPos := 60 } }

set_option maxRecDepth 8000 in
theorem witness_TimeIsSetTimersFireAndTheCalendarCounts :
    (allOn.domOn 1 = true ∧ isTimeRef allOn.sel = false ∧ isTimeRef (allOn.setFld F.CLK_STATUS_sel_ref 4).sel = true ∧
      allOn.ticking = false ∧ allOn.isFree = false ∧ allOn.wholeSec = true ∧
      allOn.flag F.CLK_CTRL_manual = false ∧ (allOn.setFlag F.CLK_CTRL_manual true).flag F.CLK_CTRL_manual = true) ∧
    ((timerOn true).netNs = 10 ∧ ((timerOn true).timer 1).armed = true ∧ ((timerOn true).timer 1).target ≤ (timerOn true).netNs ∧
      (timerOn true).flag (F.TIM_TMR_CTRL_periodic 1) = true ∧ (timerOn true).reg (R.TIM_TMR_PER 1) ≠ 0 ∧
      (timerOn false).flag (F.TIM_TMR_CTRL_periodic 1) = false ∧ bitsOf 1#32 0 0 = 1 ∧ bitsOf 1#32 1 1 = 0 ∧
      (timerOn false).pair (R.TIM_TMR_S_LO 1) (R.TIM_TMR_S_HI 1) * 1000000000 + (timerOn false).fld (F.TIM_TMR_NS_ns 1) < (timerOn false).netNs) ∧
    ((allOn.setFlag F.TIM_CFG_pps_en true).flag F.TIM_CFG_pps_en = true ∧
      (allOn.setFlag F.TCK_STATUS_grid_valid true).flag F.TCK_STATUS_grid_valid = true) ∧
    (bitsOf 0x5E7A0000#32 31 16 = 0x5E7A ∧ (0x5E7A0000#32).getLsbD 0 = false ∧ bitsOf 0#32 31 16 ≠ 0x5E7A ∧ allOn.clk.svcKey = false) := by
  decide

/-- Lane 3 (a partner lane) or lane 0 in a state. -/
def laneOn (l : Fin 8) (st : Nat) : State :=
  let s := ((allOn.setFlag (F.SDS_CTRL_en l) true).setFld (F.SDS_STATUS_state l) st).setFlag (F.SDS_STATUS_pll_lock l) true
  let s := (s.setFld (F.SDS_PRBS_CTRL_gen_sel l) 1).setFld (F.SDS_PRBS_CTRL_chk_sel l) 1
  ((s.setFlag (F.SDS_PRBS_STATUS_chk_lock l) true).setFlag (F.MAC_STATUS_link 0) true).setLane l { sent := 2, far2 := 15 }

set_option maxRecDepth 8000 in
theorem witness_SerialLanesComeUpAndFail :
    ((laneOn 3 2).lst 3 = 2 ∧ (laneOn 3 3).lst 3 = 3 ∧ (laneOn 3 5).lst 3 = 5 ∧ (laneOn 0 4).lst 0 = 4 ∧ (laneOn 0 1).lst 0 = 1 ∧
      (laneOn 0 7).lst 0 = 7 ∧ (laneOn 0 4).domOn 15 = true ∧ (laneOn 0 4).flag (F.MAC_STATUS_link (laneMac 0)) = true ∧
      (laneOn 0 1).flag (F.SDS_STATUS_pll_lock 0) = true ∧ (laneOn 0 1).condActive 14 = false ∧
      (laneOn 0 1).flt.ended = [] ∧ huntLocks 0 (List.replicate 64 1) false = true ∧ huntLocks 0 [0] false = false) ∧
    ((laneOn 0 2).flag (F.SDS_CTRL_en 0) = true ∧ bitsOf 1#32 2 0 = 1 ∧ (laneOn 0 7).fld (F.SDS_PRBS_CTRL_gen_sel 0) = 1 ∧
      (laneOn 0 7).fld (F.SDS_PRBS_CTRL_chk_sel 0) = 1 ∧ (laneOn 0 7).flag (F.SDS_PRBS_STATUS_chk_lock 0) = true ∧
      ((laneOn 0 7).lane 0).bits + 5 < 2 ^ 48 ∧ (laneOn 0 7).looped 0 = false ∧ (laneOn 3 2).now.lanes = [] ∧
      ((laneOn 0 7).setFld (F.SDS_CTRL_loop 0) 2).fld (F.SDS_CTRL_loop 0) = 2) ∧
    ((laneOn 0 4).flag (F.SDS_CTRL_pol_auto 0) = true ∧ ((laneOn 3 5).lane 3).sent = 2 ∧ ((laneOn 3 5).lane 3).far2 = 15 ∧
      (laneOn 3 5).laneIdBad 3 1 = false ∧ (beAt [0x4B, 1, 0x5A, 2, 1, 0, 0, 0] 4 4 ≠ (laneOn 3 5).moduleId.toNat % 2 ^ 32 ∨
        beAt [0x4B, 1, 0x5A, 2, 2, 0, 0, 0] 4 4 ≠ (laneOn 3 5).moduleId.toNat % 2 ^ 32)) := by decide

/-- Port 3 up and enabled, rings 10 and 11 with one descriptor. -/
def macOn : State :=
  let s := ((hostOn.setFlag (F.MAC_STATUS_link 3) true).setFlag (F.MAC_CTRL_rx_en 3) true).setFlag (F.MAC_CTRL_tx_en 3) true
  let s := (s.setFlag (F.MAC_CFG_pause_rx 3) true).setFlag (F.MAC_EEE_en 3) true
  (s.setRing 10 { en := true, prod := 1 }).setRing 11 { en := true, prod := 1 }

/-- A transmit descriptor of port 3 for 60 bytes. -/
def aTxDesc : List Byte := List.replicate 8 0 ++ [60, 0, 3, 0] ++ List.replicate 20 0

set_option maxRecDepth 20000 in
theorem witness_MacsCarryManagementTraffic :
    (macOn.domOn 15 = true ∧ macOn.flag (F.MAC_STATUS_link 3) = true ∧ macOn.flag (F.MAC_CTRL_rx_en 3) = true ∧
      macOn.flag (F.MAC_CFG_pause_rx 3) = true ∧ (5#16) ≠ 0 ∧ (laneOn 0 4).lst (macLane 0) = 4 ∧
      ((laneOn 0 4).setFlag (F.MAC_STATUS_link 0) false).flag (F.MAC_STATUS_link 0) = false) ∧
    (leAt ([] ++ leBytes 4 (crc32 []).toNat) 0 4 = (crc32 []).toNat) ∧
    (bitsOf 0#32 29 16 < 1518 ∧ 1518 ≤ bitsOf 0x5EE0000#32 29 16 ∧ allOn.reg (R.MAC_CTRL 2) &&& 0x3C#32 = 4#32 ∧
      (macOn.setFlag (F.MAC_CTRL_an_en 3) true).flag (F.MAC_CTRL_an_en 3) = true) ∧
    (macOn.flag (F.MAC_EEE_en 3) = true ∧ macOn.flag (F.MAC_STATUS_lpi_tx 3) = false ∧ macOn.eth.mtx = [] ∧
      (macOn.setFlag (F.MAC_STATUS_lpi_tx 3) true).flag (F.MAC_STATUS_lpi_tx 3) = true) ∧
    (macOn.traffic = true ∧ (macOn.ring 10).en = true ∧ 0 < Sys2Proof.Machine.dist (macOn.ring 10).prod (macOn.ring 10).cons ∧
      mtxBad aTxDesc = false ∧ leAt aTxDesc 10 1 = 3 ∧ leAt aTxDesc 11 1 = 0 ∧ leAt aTxDesc 8 2 + 4 ≤ macOn.fld (F.MAC_CFG_max_len 3) ∧
      macOn.portSends 3 = true ∧ macOn.mediaWaits 3 = false ∧ macOn.rxPins 6 = true ∧ macOn.mayIssue 15 = true ∧
      macOn.pauseLeft 3 = 0 ∧ ({ macOn with eth := { pause := [(3, ⟨0, 5⟩)] } } : State).pauseLeft 3 = 5) := by decide

/-- A received broadcast frame of 60 bytes, with its FCS. -/
def broadFrame : List Byte := withFcs (List.replicate 6 0xFF ++ List.replicate 6 1 ++ [0x08, 0x06] ++ List.replicate 46 0)

set_option maxRecDepth 20000 in
theorem witness_receivedFrames :
    macOn.rxBad 3 broadFrame false true = none ∧ (frameType (broadFrame.take 60)).2 ≠ 0x8808 ∧
    macOn.addrPass 3 (broadFrame.take 60) = true ∧ macOn.addrPass 3 (List.replicate 60 2) = false ∧ broadFrame.length - 4 = 60 := by decide

/-- The host interface up, DRAM ready with a limit, the module the owner with controller 0 idle. -/
def hostReady : State :=
  let s := ((hostOn.setFlag F.DDR_STATUS_init_done true).put R.HIF_DRAM_LIMIT 0x48000000#32).setFld (F.TWI_C_STATUS_state 0) 1
  s.setTwn fun t => { t with pins := true }

/-- A copy of 64 bytes from host address 0 to the start of DRAM, or past its limit. -/
def copyCmd (op : Nat) (b : Byte) : HostCmd := cmd op ([0, 0, 0, 0, 0, 0, 0, 0] ++ [0, 0, 0, 0, b, 0, 0, 0] ++ [64, 0, 0, 0])

/-- A NOP for a target. -/
def nopAt (n : Byte) (flags : Byte) : HostCmd :=
  { cmd 1 [] with desc := ([1, 0, flags, 0, 0, 0, 0, 0, n] ++ List.replicate 55 0) }

set_option maxRecDepth 20000 in
theorem witness_HostCommandsAreCarriedOut :
    (let c := nopAt 9 0
     cmdOp c = 1 ∧ badDesc c = none ∧ hostReady.mayParse c.ring = true ∧ cmdTarget c = 9 ∧
       (hostReady.takeCmd 0).earliest (hostReady.issueTick 0) false ≤ 9 ∧ (hostReady.takeCmd 0).pendingTimed < 256) ∧
    (cmdFlags (nopAt 9 1) % 2 = 1 ∧ badDesc (nopAt 9 1) = none ∧ 0 < (hostReady.takeCmd 0).earliest (hostReady.issueTick 0) false) ∧
    (let c := copyCmd 2 4
     cmdOp c = 2 ∧ badDesc c = none ∧ cmdTarget c = 0 ∧ cmdArg c 8 8 = 0x400000000 ∧ cmdArg c 16 4 = 64 ∧
       cmdArg c 8 8 + 64 ≤ hostReady.dramLimit ∧ hostReady.dramReady = true ∧ copyLenOk (cmdArg c 16 4) = true ∧
       (hostReady.setFlag F.DDR_STATUS_init_done false).dramReady = false ∧ hostReady.copyRange (cmdArg c 8 8) (cmdArg c 16 4) = true) ∧
    (hostReady.dramLimit < cmdArg (copyCmd 3 5) 8 8 + 64 ∧ cmdOp (copyCmd 3 5) = 3 ∧ badDesc (copyCmd 3 5) = none) ∧
    (let c := cmd 0x60 [0, 0x48, 1, 0]
     twiArgBad c = none ∧ badDesc c = none ∧ hostReady.isOwner = true ∧ hostReady.twiSt (cmdArg c 0 1) = 1 ∧ hostReady.hif.twi = [] ∧
       hostReady.twiUnread (cmdArg c 0 1) = false) ∧
    (cmdOp (cmd 0x99 []) ∉ knownOps ∧ badDesc (cmd 0x50 [1]) = none ∧ badDesc (cmd 0x40 [4]) = none) ∧
    (({ target := 0, kind := .nop, ring := some 0, tag := 5, late := false } : Timed).target ≤ hostReady.tickNum) ∧
    (hostReady.traffic = true ∧ (hostReady.ring (4 + 0)).en = true) := by decide

set_option maxRecDepth 20000 in
theorem witness_TheHostInterfaceIsConfiguredAndFails :
    (hostOn.domOn 18 = true ∧ (hostOn.ring 5).en = false ∧ (hostOn.ring 5).enPend = none ∧ (1#32).getLsbD 0 = true ∧
      (hostOn.ring (4 + 1)).enNext = false ∧ (hostOn.ring 0).en = true ∧ bitsOf 6#32 3 0 = 6 ∧ bitsOf 1#32 3 0 < 4 ∧ hostOn.hif.twi = []) ∧
    ((hostOn.setFlag F.HIF_STATUS_link_up true).flag F.HIF_STATUS_link_up = true ∧ hostOn.hif.cpls = [] ∧ hostOn.eth.mtx = [] ∧ hostOn.hif.msixPba = 0) ∧
    (hostOn.traffic = true ∧ hostOn.hif.fetching = true ∧ isHif 0 = false) ∧
    (let s := hostOn.setFld F.TWN_STATUS_state 1
     s.mayParse (copyCmd 2 4).ring = true ∧ cmdOp (copyCmd 2 4) = 2 ∧ s.isOwner = false ∧ s.solo = false ∧ (s.ring 8).en = false) := by
  decide

/-- A march of the control SRAM runs; master 3 is being drained. -/
def marching : State := allOn.setSram fun x => { x with march := some 16, drain := [3, 32], landing := [(0, 0x20000000, [7])] }

theorem witness_BadAddressesDrainsAndFailingWordsAreRecorded :
    (State.reset.decodes 0x10000000 = false ∧ allOn.decodes 0x10000000 = true ∧ allOn.decodes 0x400000000 = false ∧
      allOn.decodes 0x30000000 = true ∧ within 0x30000000 0x30000000 0x1800000 = true ∧
      allOn.flag F.XBR_STATUS_derr = false ∧ (allOn.setFlag F.XBR_STATUS_derr true).flag F.XBR_STATUS_derr = true) ∧
    (allOn.unitOf 0x12000000 = some 17 ∧ allOn.unitOf 0x20000040 = some 1 ∧ allOn.unitOf 0x30000000 = none ∧
      allOn.flag F.MEM_STATUS_uncorr = false ∧ (allOn.setFlag F.MEM_STATUS_uncorr true).flag F.MEM_STATUS_uncorr = true) ∧
    (allOn.rom 0x10000000 = some 0 ∧ allOn.rom 0x11000000 = none ∧ allOn.sram.bad = [] ∧
      (allOn.setFlag F.SYS_REMAP_remap true).flag F.SYS_REMAP_remap = true ∧ allOn.flag F.SYS_REMAP_remap = false) ∧
    (3 ∉ allOn.sram.drain ∧ 3 ∈ marching.sram.drain ∧ marching.sram.drain.any (drainOf 0) = true ∧ drainOf 4 3 = false) ∧
    (allOn.domOn 2 = true ∧ (0x110#32).getLsbD 8 = true ∧ allOn.sram.march = none ∧ bitsOf 0x110#32 7 0 = 16 ∧ bitsOf 0x114#32 7 0 = 20 ∧
      bitsOf 0x120#32 7 0 = 32 ∧ allOn.active 0 = true ∧ bitsOf 0x17F#32 7 0 = 127 ∧ (fenced9.active 9 = false)) ∧
    (marching.domOn 2 = true ∧ marching.sram.march = some 16 ∧ (marching.spares (subBank 16 600).1).replace (subBank 16 600).2 ≠ none ∧
      ((marching.setSpares 513 { bad0 := true, bad1 := true }).spares (subBank 16 600).1).replace (subBank 16 600).2 = none) := by decide

/-- Trained DRAM of one rank, cleared, with a refresh debt. -/
def dramOn (debt : Nat) : State :=
  (((allOn.setFld F.DDR_CAP_cap 8).setFlag F.DDR_STATUS_init_done true).setFld F.DDR_REF_STATUS_debt0 debt).setDdr fun d =>
    { d with live := true }

theorem witness_RefreshDebtsAndHeatAreKept :
    ((dramOn 8).refreshes 0 = true ∧ (dramOn 8).debt 0 = 8 ∧ (dramOn 0).refreshes 0 = true ∧ (dramOn 0).debt 0 = 0 ∧ (dramOn 6).debt 0 < 7 ∧
      (dramOn 0).now.hot = none ∧ (dramOn 0).batchEnd 0 = 0 ∧ (dramOn 0).refreshes 1 = false ∧
      ((dramOn 3).setFlag F.DDR_STATUS_panic true).flag F.DDR_STATUS_panic = true ∧
      (((dramOn 0).setBatchEnd 0 99999).refT 0 + ((dramOn 0).setBatchEnd 0 99999).trefi < ((dramOn 0).setBatchEnd 0 99999).batchEnd 0)) ∧
    ((dramOn 4).domOn 16 = true ∧ (85 : Int) < signExt 8 (bitsOf 86#32 7 0) ∧ signExt 8 (bitsOf 83#32 7 0) ≤ (83 : Int) ∧
      signExt 8 (bitsOf 0xF6#32 7 0) = -10 ∧ (dramOn 4).flag F.DDR_STATUS_hot = false ∧ (dramOn 4).ranks = 1 ∧ (dramOn 4).debt 0 = 4 ∧
      (dramOn 4).clk.freeU - (dramOn 4).refT 0 < 23400 ∧ 2 * (dramOn 3).debt 0 < 8) ∧
    (23400 ≤ ({ dramOn 3 with clk := { (dramOn 3).clk with freeU := 23400 } } : State).clk.freeU - (dramOn 3).refT 0 ∧
      2 * (dramOn 3).debt 0 + 1 < 8) ∧
    (((dramOn 14).setFlag F.DDR_STATUS_hot true).flag F.DDR_STATUS_hot = true ∧ (dramOn 14).debt 0 ≤ 14) ∧
    ((dramOn 0).flag F.DDR_STATUS_init_done = true ∧ (dramOn 0).condActive 10 = false ∧ (dramOn 0).flt.ended = [] ∧
      (let s := { dramOn 0 with clk := { (dramOn 0).clk with freeU := 6000000000 } }
       (s.ddr.tempU + 6000000000 ≤ s.clk.freeU ∧ s.refDue 0 = true ∧ (dramOn 0).refDue 0 = false : Prop))) := by decide

theorem witness_DramIsTrainedClearedAndPutToSleep :
    (cmdOp (copyCmd 3 4) = 3 ∧ cmdOp (copyCmd 2 4) ≠ 3 ∧ hostReady.mayParse 0 = true ∧ allOn.mayParse 0 = false) ∧
    (allOn.domOn 16 = true ∧ allOn.flag F.DDR_STATUS_init_done = false ∧ (dramOn 2).flag F.DDR_STATUS_init_done = true ∧
      (dramOn 2).fld F.DDR_CAP_cap ≠ 0 ∧ (dramOn 2).flag F.DDR_STATUS_sr = false ∧ (dramOn 2).ranks = 1 ∧ (dramOn 2).ticking = false) ∧
    ((dramOn 2).setFlag F.TCK_STATUS_running true).ticking = true ∧
    (let s := ((dramOn 0).setFlag F.DDR_STATUS_sr true).setDdr fun d => { d with saved := [(R.DDR_VREF, 3)] }
     s.flag F.DDR_STATUS_sr = true ∧ s.ddr.saved = [(R.DDR_VREF, 3)]) ∧
    (((dramOn 0).setFlag F.DDR_STATUS_sr true).ddr.saved = []) ∧
    ((31#5).toNat = 31 ∧ (3#5).toNat ≠ 31 ∧ allOn.flag F.DDR_STATUS_uncorr = false ∧ 1000 ≤ allOn.fld F.DDR_ECC_CFG_corr_thr ∧
      allOn.fld F.DDR_ECC_CFG_corr_thr < 1001) ∧
    (let s := (allOn.setFlag F.DDR_TRN_STATUS_busy true).setFld F.DDR_TRN_CTRL_step 6
     s.flag F.DDR_TRN_STATUS_busy = true ∧ s.fld F.DDR_TRN_CTRL_step = 6 ∧ s.fld F.DDR_TRN_CTRL_rank + 1 = s.ranks ∧ 0 < s.ddrSize ∧
     s.ddr.failed = false ∧ (s.setDdr fun d => { d with failed := true }).ddr.failed = true) ∧
    (allOn.setDdr fun d => { d with clearing := true }).ddr.clearing = true := by decide

/-- Midwinter mode; source 22 active, latched and unacknowledged; its acknowledgement held back. -/
def midwinterOn : State := allOn.setFlag F.FLT_MODE_midwinter true
def faulty (i : Nat) : State :=
  (((allOn.setPwr fun p => { p with vin := 1200 }).setBit64 R.FLT_STATUS_LO R.FLT_STATUS_HI i true).setBit64
    R.FLT_UNACK_LO R.FLT_UNACK_HI i true).setBit64 R.FLT_ACTIVE_LO R.FLT_ACTIVE_HI i true
def repairing (i : Nat) (d : Word) : State := allOn.setFlt fun f => { f with repair := [(i, d)] }

theorem witness_FaultsAreLatchedEscalatedRepairedAndAcknowledged :
    (allOn.domOn 1 = true ∧ allOn.flag F.FLT_MODE_midwinter = false ∧ midwinterOn.flag F.FLT_MODE_midwinter = true ∧
      (0x3105#32).getLsbD 8 = true ∧ bitsOf 0x3105#32 5 0 = 5 ∧ bitsOf 0x3105#32 13 12 = 3 ∧ (0x3105#32).getLsbD 9 = false ∧
      (0x311C#32).getLsbD 8 = true ∧ bitsOf 0x311C#32 5 0 = 28 ∧ bitsOf 0x313F#32 5 0 = 63 ∧ (0x3305#32).getLsbD 9 = true ∧
      midwinterOn.latched 5 = false ∧ midwinterOn.lvlOf 3 = 3 ∧ midwinterOn.lvlOf 1 = 1 ∧ midwinterOn.solo = true) ∧
    ((faulty 22).condActive 22 = true ∧ (faulty 22).condStands 22 = false ∧ (faulty 40).condActive 40 = true ∧
      ((faulty 10).setFlag F.DDR_STATUS_temp_stale true).condStands 10 = true ∧ (faulty 10).condActive 10 = true) ∧
    ((repairing 6 17).flt.repair = [(6, 17)] ∧ (repairing 6 17).sram.march = none ∧ (17#32).toNat < 18 ∧ 18 ≤ (18#32).toNat ∧
      (repairing 26 0).fwStopped = false ∧ ((repairing 26 0).setPwr fun p => { p with boot := .ready }).fwStopped = true ∧
      (marching.setFlt fun f => { f with repair := [(6, 3)] }).sram.march ≠ none ∧
      (3#32).toNat < 4) ∧
    (let s : State := { allOn with testMode := true }
     s.testMode = true ∧ s.clk.ranTick = false ∧ allOn.testMode = false) := by decide

/-- PD_NET is switching; a word for its DRAM port register waits. -/
def netSwitching : State := (allOn.setFlag (domF R.PWR_DOM_ON 15) false).setFlag (domF R.PWR_DOM_BUSY 15) true
def waitingWord (legacy : Bool) : State :=
  (netSwitching.setFlag F.TWI_TGT_CFG_legacy legacy).setTgt fun t => { t with writes := [(R.TWN_HO_CTRL, 1)] }

set_option maxRecDepth 10000 in
theorem witness_TheTwoWireTargetReadsAndWritesRegisters :
    (allOn.domOn 1 = true ∧ allOn.tgt = {} ∧ allOn.tgtMap 0x14 = some 0x14 ∧ allOn.tgtWaits 0x14 = false ∧ allOn.tgtMap 0x5000 = none ∧
      allOn.answers 0x0 = true ∧ allOn.tgtMap (allOn.tgtPtr / 4 * 4) = some 0x0) ∧
    ((allOn.setTgt fun t => { t with more := true }).tgt = { more := true } ∧ (1#7).toNat ≠ 0x3A + allOn.twiAddr.toNat) ∧
    (domainOf R.TWN_HO_CTRL = some 15 ∧ netSwitching.tgtWaits R.TWN_HO_CTRL = true ∧ netSwitching.tgt = {} ∧
      (allOn.setFlag (domF R.PWR_DOM_ON 15) false).tgtWaits R.TWN_HO_CTRL = false ∧
      (allOn.setFlag (domF R.PWR_DOM_ON 15) false).answers R.TWN_HO_CTRL = false) ∧
    ((((allOn.put R.TWI_TGT_WIN (word R.TWN_HO_CTRL)).setTgtPtr 0x8000).tgtMap 0x8000 = some R.TWN_HO_CTRL) ∧
      ((allOn.setTgtPtr 0x5000).tgtMap ((allOn.setTgtPtr 0x5000).tgtPtr / 4 * 4) = none)) ∧
    (∀ l : Bool, (waitingWord l).domOn 1 = true ∧ (waitingWord l).tgt.writes = (R.TWN_HO_CTRL, 1) :: [] ∧
      (waitingWord l).tgtWaits R.TWN_HO_CTRL = true ∧ (waitingWord l).tgt.read = none ∧ (waitingWord l).tgt.held = none ∧ (waitingWord l).flag F.TWI_TGT_CFG_legacy = l) ∧
    (let s := { (waitingWord true).setTgt fun t => { t with held := some (.fetch 4) } with clk := { allOn.clk with freeU := 60000000 } }
     s.tgt.held = some (.fetch 4) ∧ s.tgt.since + 60000000 ≤ s.clk.freeU ∧ s.tgt.writes = (R.TWN_HO_CTRL, 1) :: [] ∧ s.tgt.read = none) := by
  decide

/-- Controller 0 in a state, with a request of ring 0 for two bytes. -/
def aRequest : TwiCmd := { ctl := 0, ring := 0, tag := 5, addr := 0x48, wr := [], rd := 2, host := 0x2000 }
def busyCtl (st : Nat) : State := (hostReady.setFld (F.TWI_C_STATUS_state 0) st).setHif fun h => { h with twi := [aRequest] }

theorem witness_TwoWireControllersTransferAndRecover :
    ((busyCtl 2).hif.twi = [aRequest] ∧ aRequest.ctl = 0 ∧ aRequest.lost = false ∧ aRequest.gone = false ∧ aRequest.fw = false ∧ aRequest.back = none ∧
      (busyCtl 2).traffic = true ∧ ((busyCtl 2).setFlag F.HIF_STATUS_bme false).traffic = false ∧ (busyCtl 2).twiSt 0 = 2) ∧
    (∀ k : Fin 8, (hostReady.setFld (F.TWI_C_STATUS_state 0) k).twiSt 0 = k) ∧
    (hostReady.stretchNs 0 ≤ 300000000 ∧ (hostReady.setTwiUnread 0 true).twiUnread 0 = true ∧ hostReady.clearDue 0 = false ∧
      ({ hostReady with clk := { hostReady.clk with freeU := 60000000 } } : State).clearDue 0 = true) ∧
    (hostReady.hif.twi = [] ∧ hostReady.drives .twi = true ∧ hostReady.domOn 1 = true) ∧
    (bitsOf 7#32 2 1 = 3 ∧ bitsOf 3#32 2 1 = 1 ∧ (3#32).getLsbD 0 = true) := by decide

/-- A cold and a warm reset are asked for; the power-on reset's bit stands. -/
def resetting (cold warm : Nat) : State :=
  { (allOn.put R.SYS_RESET_REASON 1).setPwr fun p => { p with aon := true, coldReq := cold } with warmReq := warm }

set_option maxRecDepth 10000 in
theorem witness_ResetRequestsAreOrderedAndRemembered :
    (marching.sram.drain ≠ [] ∧ (allOn.setSram fun x => { x with drain := [3] }).sram.drain = [3]) ∧
    ((resetting 4 32).sram.drain = [] ∧ (resetting 4 32).pwr.coldReq ≠ 0 ∧ (resetting 4 32).pwr.pin = false ∧
      (resetting 4 32).pwr.hot = false ∧ (resetting 4 32).pwr.cut = false) ∧
    (((resetting 4 0).setPwr fun p => { p with pin := true, cut := true }).pwr.pin = true) ∧
    (State.reset.pwr.aon = false ∧ ((resetting 2 0).setPwr fun p => { p with cut := true }).pwr.cut = true ∧
      (resetting 2 0).pwr.ovp = false ∧ ((resetting 2 0).setPwr fun p => { p with cut := true, ovp := true }).pwr.ovp = true ∧
      marching.pwr.offs = []) ∧
    ((resetting 0 32).pwr.coldReq = 0 ∧ (resetting 0 32).warmReq ≠ 0 ∧ (resetting 0 32).pwr.draining = false ∧
      ((resetting 0 32).setPwr fun p => { p with draining := true }).pwr.draining = true) ∧ allOn.answers R.SYS_RESET_REASON = true ∧ allOn.setNow R.SYS_RESET_REASON = 0 ∧
    keptReg R.TCK_CTRL = false ∧ isHif R.TCK_CTRL = false := by decide

/-- Powered, every domain on; PD_NET off and asked off; a domain that switches. -/
def powered : State := (allOn.setPwr fun p => { p with aon := true }).put R.PWR_DOM_REQ 0x7FFFF#32
def netOff : State := ((powered.put R.PWR_DOM_ON 0x77FFF#32).put R.PWR_DOM_REQ 0x77FFF#32)
def switching (d : Nat) : State := (powered.setFlag (domF R.PWR_DOM_ON d) false).domStart d
def heldReset : State := powered.setPwr fun p => { p with held := true, pin := true }

set_option maxRecDepth 20000 in
theorem witness_SuppliesDomainsAndResetSources :
    (powered.pwr.aon = true ∧ powered.domOn 1 = true ∧ powered.pwr.held = false ∧ powered.tempHi = 110 ∧ heldReset.pwr.held = true ∧
      heldReset.pwr.hot = false ∧ heldReset.pwr.cut = false ∧ State.reset.pwr.aon = false ∧ powered.pwr.cut = false) ∧
    ((400#12).toNat < 410 ∧ 410 ≤ (1200#12).toNat ∧ vinIn (1200#12).toNat = true ∧ vinIn (420#12).toNat = false ∧
      powered.condActive 22 = false ∧ powered.flt.ended = []) ∧
    (((powered.setPwr fun p => { p with cut := true, ovp := true }).pwr.ovp = true) ∧ powered.pwr.ovp = false ∧ powered.pwr.offs = [] ∧
      domMaster 15 = some 15 ∧ domMaster 16 = none ∧
      ((powered.setPwr fun p => { p with offs := [15] }).setSram fun x => { x with drain := [15] }).pwr.offs = [15] ∧ (0xA5C30001#32).getLsbD 0 = true ∧ bitsOf 0xA5C30001#32 31 16 = 0xA5C3) ∧
    (powered.reg R.PWR_DOM_FAULT = 0 ∧ powered.reg R.PWR_DOM_BUSY = 0 ∧ powered.pwr.seq = [] ∧ powered.offOk 3 = false ∧ powered.offOk 15 = true ∧
      powered.offOk 18 = true ∧ netOff.domOn 15 = false ∧ (0x7FFFF#32).getLsbD 15 = !netOff.flag (domF R.PWR_DOM_REQ 15) ∧
      (0x77FFF#32).getLsbD 15 = !powered.flag (domF R.PWR_DOM_REQ 15) ∧ (0x3FFFF#32).getLsbD 18 = false) := by
  decide

set_option maxRecDepth 20000 in
theorem witness_releasedDomains :
    ((switching 3).domBusy 3 = true ∧ (switching 3).tgt = {} ∧ 3 ∉ (switching 3).pwr.seq.tail ∧
      (switching 3).flag (domF R.PWR_DOM_REQ 3) = true ∧ subDomain 608 = 3 ∧ (switching 3).unfenced ((608 - 608) / 3) = true) ∧
    (let s := (switching 1).setPwr fun p => { p with seq := 1 :: 2 :: [18] }
     s.domBusy 1 = true ∧ s.pwr.seq = 1 :: 2 :: [18] ∧ isClusterDom 2 = false) ∧
    ((powered.domOn 15 = true) ∧ powered.tgt = {} ∧ powered.domFault 15 = false ∧ powered.domOn 2 = true ∧ powered.domFault 2 = false) ∧
    ((powered.setPwr fun p => { p with scan := true }).pwr.scan = true ∧ (22 ∈ condSources)) := by decide

/-- The boot in a state, after some failures. -/
def bootAt (b : BootSt) (fails : Nat) : State := (allOn.put R.SYS_BOOT_FAIL_CNT (word fails)).setPwr fun p => { p with boot := b }

/-- A sound image of one 64-byte primary, signed with the key 1 (whose public key is the generator), and one of a wrong magic. -/
def soundImage : BootImage :=
  { answering := true, primary := List.replicate 64 7,
    hdr := padTo 64 (leBytes 4 0x4B584657 ++ leBytes 4 1 ++ leBytes 4 3 ++ leBytes 4 256 ++ leBytes 4 192 ++ leBytes 4 64)
      ++ padTo 64 (beBytes 32 0x6cfeeb3aa25d3f411dae5eec17d7369ca7153e72dcf54bcf4c3daec0f5b21fc7)
      ++ beBytes 32 0x6b17d1f2e12c4247f8bce6e563a440f277037d812deb33a0f4a13945d898c296
      ++ beBytes 32 0x3c775d834352106930a7f2f5e1750b0f6fba5beb66f0e7687b075548f967f751 }
def badMagic : BootImage := { soundImage with hdr := padTo 192 [1] }

set_option maxRecDepth 20000 in
theorem witness_BootAttemptsWaitAndReloadsAreBounded :
    (allOn.domOn 1 = true ∧ (bootAt .ready 2).pwr.boot = .ready ∧ (bootAt .ready 2).fails = 2 ∧
      (bootAt .ready 2).imageBad badMagic = some 2 ∧
      (bootAt .ready 2).mayIssue 12 = true ∧ (bootAt .ready 2).mayIssue 13 = true ∧ (bootAt .ready 2).sram.bad = [] ∧
      ((bootAt .ready 2).drainMaster 12).mayIssue 12 = false) ∧
    ((bootAt (.waiting true) 1).pwr.boot = .waiting true ∧ (bootAt (.waiting false) 1).pwr.boot = .waiting false ∧
      (bootAt .started 3).pwr.boot = .started ∧ 3 ≤ (bootAt .started 3).fails ∧ (bootAt .ok 0).pwr.boot = .ok ∧
      (bootAt .started 3).pwr.reload = none) ∧
    (((bootAt .ready 0).setPwr fun p => { p with reload := some 5 }).pwr.reload = some 5) ∧
    (let late := fun (b : BootSt) => ({ bootAt b 0 with clk := { allOn.clk with freeU := 400 * 6000000000 } } : State)
     (late .started).bootWdtDue = true ∧ (late .ok).wdtDue 0 = true ∧ (bootAt .ok 0).wdtDue 0 = false ∧ (bootAt .started 0).bootWdtDue = false ∧
      ((late .ready).setPwr fun p => { p with reload := some 5 }).reloadDue = true ∧ (bootAt .ready 0).reloadDue = false ∧
      (late (.waiting true)).pwr.waitU ≤ (late (.waiting true)).clk.freeU) ∧
    2 ≤ (bootAt .ok 0).occLevel { src := 26, data := word 1 } := by decide

/-- The image is signed: the signature and the hash are computed from R479. -/
theorem witness_soundImageIsSigned : (bootAt .ready 0).imageBad soundImage = none ∧ primaryHashOk soundImage = true := by decide +kernel

/-- One whose primary differs from its hash. -/
theorem witness_wrongHash : primaryHashOk { soundImage with primary := List.replicate 64 8 } = false := by decide +kernel

/-! ## Well-formedness refuses what the spec refuses -/

theorem test_wf_window_too_long :
    (Instr.captureWindowClose [{ port := 0, pos := 0, din := List.replicate 2049 true }] [] []).wellFormed = false ∧
    (Instr.captureWindowClose [{ port := 0, pos := 0, din := List.replicate 2048 true }] [] []).wellFormed = true := by
  simp only [Instr.wellFormed, List.length_replicate, List.all_cons, List.all_nil]; decide

theorem test_wf_doorbell_length :
    (Instr.doorbellFetchComplete (List.replicate 255 0)).wellFormed = false ∧
    (Instr.doorbellFetchComplete (List.replicate 256 0)).wellFormed = true := by
  simp only [Instr.wellFormed, List.length_replicate]; decide

theorem test_wf_unaligned_offset :
    (Instr.captureRegisterRead 0x000002).wellFormed = false ∧ (Instr.counterReadClear 0x000001).wellFormed = false ∧
    (Instr.registerWrite 0x000003 0).wellFormed = false ∧ (Instr.registerWrite 0x000004 0).wellFormed = true := by decide

/-- A descriptor of 63 bytes. -/
def shortCmd : HostCmd := { ring := 0, desc := List.replicate 63 0, data := [] }

theorem test_wf_descriptor_length :
    [Instr.graphLoad shortCmd, .psetDefine shortCmd, .psetUndefine shortCmd, .psetLoad shortCmd, .psetWrite shortCmd,
      .psetCommit shortCmd, .streamStage shortCmd, .streamCommit shortCmd, .nop shortCmd, .copyIn shortCmd, .copyOut shortCmd,
      .regWrite shortCmd, .fltAck shortCmd, .twiXfer shortCmd, .badOpcode shortCmd,
      .dramUncorrectable 0 0 (.copyOut shortCmd)].all (fun i => !i.wellFormed) = true ∧
    (Instr.nop { shortCmd with desc := List.replicate 64 0 }).wellFormed = true := by decide

theorem test_wf_empty_proposal :
    (Instr.propose { badProp with items := [] } true).wellFormed = false ∧ (Instr.propose badProp true).wellFormed = true := by decide

theorem test_wf_step_and_blocks : (Instr.rsStep 0 0 true).wellFormed = false ∧
    (Instr.trainingBlock 2 false (List.replicate 7 0)).wellFormed = false ∧
    (Instr.mirror 0 0 (List.replicate 33 0) true).wellFormed = false ∧ (Instr.twiTargetWrite []).wellFormed = false := by decide

theorem test_wf_streams_of_bits : (Instr.channelTrip 0 (List.replicate 65 true)).wellFormed = false ∧
    (Instr.senseBitstreamOverload 0 true (List.replicate 63 true)).wellFormed = false ∧
    (Instr.prbsCheckerLock 0 (List.replicate 96 true)).wellFormed = false ∧
    (Instr.prbsLockLoss 0 0 0 (List.replicate 65 true)).wellFormed = false ∧ (Instr.lockLoss 0 65 true).wellFormed = false := by decide

theorem test_wf_partial_writes : (Instr.sramUncorrectable 0 0 (.partWrite [])).wellFormed = false ∧
    (Instr.dramUncorrectable 0 0 (.partWrite [])).wellFormed = false ∧
    (Instr.dramUncorrectable 0 0 (.partWrite (List.replicate 8 0))).wellFormed = true := by decide

theorem test_wf_long_lists : (Instr.captureWindowClose [] [{ ch := 0, cur := true, bits := List.replicate 16385 true }] []).wellFormed = false ∧
    (Instr.mediaFrameReceive 0 (List.replicate 16385 0) 0 [] true).wellFormed = false ∧
    (Instr.macFrameReceive 0 (List.replicate 16385 0) false true 0 []).wellFormed = false ∧
    (Instr.blockLock 0 (List.replicate 4097 1) true).wellFormed = false := by
  simp only [Instr.wellFormed, List.length_replicate, List.all_cons, List.all_nil]; decide

/-! ## The spec's encoded bundles (04_engine_isa.md) -/

theorem test_decode_mac4o_lddp : decodeBundle 9 0x3882800642440000#64 =
    some [.mac4o 9 2 4 false, .lddp 9 2 0 4 4 false true true] := by decide

theorem test_decode_cnv2 : decodeBundle 9 0x1A5BE00000000000#64 = some [.cnv2 9 3 false 31 true] := by decide

/-! ## The spec's worked examples -/

/-- R63 at the defaults: B = 100,000 and W = 90,000 (02_engine_fabric.md, the capacity example). -/
theorem test_budget_at_the_defaults : allOn.budget = 100000 ∧ allOn.watermark = 90000 := by decide

/-- R101 (03_engine_datapath.md, the example of a circular length shortened under a live pointer). -/
theorem test_circular_length_shortened :
    postModify 0x0138 4 0x0100 0x0010 = 0x012C ∧ postModify 0x012C 4 0x0100 0x0010 = 0x0120 ∧
    postModify 0x0120 4 0x0100 0x0010 = 0x0114 ∧ postModify 0x0114 4 0x0100 0x0010 = 0x0108 ∧
    postModify 0x0108 4 0x0100 0x0010 = 0x010C := by decide

/-- R96: an accumulator of -0.5 LSB converts to 0; +0.5 LSB to 1; the greatest sum saturates. -/
theorem test_convert_rounds_half_up :
    convert (-(2 ^ 31)) 0 = 0 ∧ convert (2 ^ 31) 0 = 1 ∧ convert (2 ^ 63) 0 = 0x7FFFFFFF#32 ∧ convSat (2 ^ 63) 0 = true := by
  decide

/-- R97. -/
theorem test_leading_signs : lsc 0 = 31 ∧ lsc 0xFFFFFFFF#32 = 31 ∧ lsc 0x40000000#32 = 0 ∧ lsc 0xFFFF0000#32 = 15 := by decide

/-- R93: 0x7FFFFFFF + 1 wraps, sets n and v and clears c. -/
theorem test_add_wraps : aluAdd 0x7FFFFFFF#32 1#32 = { val := 0x80000000#32, c := false, v := true } ∧
    (aluAdd 0x7FFFFFFF#32 1#32).n = true ∧ (aluAdd 0xFFFFFFFF#32 1#32).c = true := by decide

/-- The register that a command leaves. -/
def regAfter (o : Host.Outcome State Fault Refusal) (r : Nat) : Option Word :=
  match o with
  | .next t => some (t.reg r)
  | _ => none

/-- R424 (14_dram.md, the example of a temperature crossing): 86 °C with a debt of 4 makes it 8, which 8 REF commands after a
precharge pay at once. -/
theorem test_hot_doubles_the_debt :
    (match execDdrTempWrite 86 (dramOn 4) with
      | .next t => some (t.debt 0, t.outbox.length, t.reg R.DDR_REF_HOT_CNT)
      | _ => none) = some (0, 9, 1#32) := by decide

/-- R481 (17_startup_power.md, the example of two damaged images): waits in seconds. -/
theorem test_boot_waits : (List.range 8).map (fun k => bootWait (k + 1)) = [1, 2, 4, 8, 16, 32, 60, 60] := by decide

/-- SHA-256 of "abc" (R479; FIPS 180-4). -/
theorem test_sha256 : sha256 [0x61, 0x62, 0x63] = 0xba7816bf8f01cfea414140de5dae2223b00361a396177a9cb410ff61f20015ad := by decide +kernel

/-- ECDSA on P-256 (R479): the sample "sample" with SHA-256 of RFC 6979, A.2.5. -/
theorem test_ecdsa_sample :
    ecdsaOk (0x60FED4BA255A9D31C961EB74C6356D68C049B8923B61FA6CE669622E60F29FB6,
        0x7903FE1008B8BC99A41AE9E95628BC64F2F1B20C2D7E9F5177A3C294D4462299)
      (sha256 [0x73, 0x61, 0x6D, 0x70, 0x6C, 0x65])
      0xEFD48B2AACB6A8FD1140DD9CD45E81D69D2C877B56AAF991C34D0EA84EAF3716
      0xF7CB1C942D657C41D436C7A1B6E29F65F3E900DBB9AFF4064DC4AB2F843ACDA8 = true := by decide +kernel

/-- R374: MSB first; 24-bit words keep their upper bits (R376). -/
theorem test_line_bits : lineWord (lineBits [0x80000001#32]) = 0x80000001#32 ∧ (lineBits [0x80000001#32]).head? = some true ∧
    captured 1 0x123456FF#32 = 0x12345600#32 := by decide

/-- R455 (19_register_index.md, the example of one register by three paths). -/
theorem test_target_window_reaches_zmag :
    R.SNS_CH_ZMAG 12 = 0x510724 ∧ (allOn.put R.TWI_TGT_WIN 0x00510000#32).tgtMap 0x8724 = some 0x510724 := by decide

/-- R437, R455, R457 (16_two_wire.md, the example of an acknowledgement by the BMC). -/
theorem test_bmc_pointers : allOn.tgtMap 0x3024 = some R.FLT_ACK_HI ∧ allOn.tgtMap 0x3020 = some R.FLT_ACK_LO ∧
    allOn.tgtMap 0x3008 = some R.FLT_STATUS_LO ∧ allOn.tgtMap 0x4008 = some R.TWI_TGT_WIN := by decide

/-- R141, R143: a ramp from 0 to 1.0 over 64 samples passes one half at sample 32 and holds 1.0 from sample 64. -/
theorem test_ramp : rampAt 0 (2 ^ 29) 64 32 = 2 ^ 28 ∧ rampAt 0 (2 ^ 29) 64 64 = 2 ^ 29 ∧ effGain 0x20000000#32 true = 2 ^ 31 := by
  decide

/-- R271 (08_amplifier_drive.md, the example of a low-frequency line): 1.75 × 200 / 50 is 7.000 ohms. -/
theorem test_impedance : ((State.reset.putApp (R.SNS_CH_VFS 12) 200000#32).putApp (R.SNS_CH_IFS 12) 50000#32).zMag 12
    { n := 96000, vc := 7, vs := 0, ic := 4, is := 0 } = 7000 := by decide

/-! ## Single steps -/

/-- A write of TCK_CFG is taken from the queue and stored (R15). -/
theorem test_step_takes_the_front :
    regAfter (step { allOn with pending := [.tckCfgWrite 0x400106#32, .tickStop] }) R.TCK_CFG = some 0x400106#32 ∧
    (match step { allOn with pending := [.tckCfgWrite 0x400106#32, .tickStop] } with
      | .next t => t.pending == [.tickStop]
      | _ => false) = true := by decide

/-- T = 32 at fs = 96 kHz with a tx_lead beyond 8T is refused and changes nothing (R15). -/
theorem test_bad_configuration_changes_nothing :
    regAfter (execTckCfgWrite 0x410105#32 allOn) R.TCK_CFG = some (allOn.reg R.TCK_CFG) := by decide

/-- MPY1 of -1.0 by -1.0 is 2^63 in units of 2^-63: +1.0, exact in the accumulator (R95, R98). -/
theorem test_mpy1_minus_one_squared :
    (match execMpy1 9 0 1 1 false (run9.setEngine 9 { run9.engine 9 with d := [(1, 0x80000000#32)] }) with
      | .next t => (t.engine 9).flights
      | _ => []) = [⟨1, .a 0 0x8000000000000000#80⟩, ⟨3, .aSrc 0 0x8000000000000000#80⟩] := by decide

/-- Five bytes from 0x3020 make one word; the fifth belongs to a word that was not received whole (R457). -/
theorem test_target_page_makes_a_word :
    (let t := (pageFill [1, 0, 0, 0, 2] 0x3020 0 []).1
     (pageWhole t).length = 1 ∧ pageRest t = 1) := by decide

/-- R492 and R493: 43 rows; the groups account for 1849 lands. -/
theorem test_land_grid : landRows.length = 43 ∧ (landGroups.map (·.2)).sum = 43 * 43 ∧ landRows.getLast? = some "BE" := by decide

/-- R496: at reset the power lands float and FAULTc_N is pulled up; R503: the reset amplitude is 1000 mV, post-cursor 4/64. -/
theorem test_lands_at_reset :
    State.reset.landState (.pwmA 3) = .highZ ∧ State.reset.landState (.faultN 3) = .input true ∧ State.reset.landState .ddrResetN = .low ∧
    State.reset.txAmplitude 2 = 1000000 ∧ State.reset.txCursors 2 = (0, 60, -4) := by decide



end Sys2Proof.Tests
end

section
/-!
SUPPORT. Two frames that shared operations keep: only listed registers change, and only the host interface and what was sent change.
-/

namespace Sys2Proof.Machine

/-- From `s` to `t` nothing changes but the registers listed, and the note of the bits set in the present clock cycle (R11). -/
structure State.OnlyRegs (l : List Nat) (s t : State) : Prop where
  frame : ∃ r z, t = { s with regs := r, sets := z }
  keeps : s.KeepsRegs t l

namespace State.OnlyRegs

variable {l m : List Nat} {s t u : State}

theorem refl (s : State) : OnlyRegs l s s := ⟨⟨_, _, rfl⟩, fun _ _ => rfl⟩

theorem trans (h : OnlyRegs l s t) (k : OnlyRegs l t u) : OnlyRegs l s u := by
  refine ⟨?_, fun o ho => (k.keeps o ho).trans (h.keeps o ho)⟩
  obtain ⟨_, _, rfl⟩ := h.frame
  obtain ⟨_, _, rfl⟩ := k.frame
  exact ⟨_, _, rfl⟩

theorem mono (h : OnlyRegs l s t) (hm : l ⊆ m) : OnlyRegs m s t := ⟨h.frame, fun o ho => h.keeps o fun hl => ho (hm hl)⟩

theorem put {o : Nat} (ho : o ∈ l) (s : State) (w : Word) : OnlyRegs l s (s.put o w) :=
  ⟨⟨_, _, rfl⟩, fun _ ha => s.reg_put_of_ne w fun e => ha (e ▸ ho)⟩

theorem setFld {f : Fld} (hf : f.reg ∈ l) (s : State) (v : Nat) : OnlyRegs l s (s.setFld f v) := put hf s _

theorem setFlag {f : Fld} (hf : f.reg ∈ l) (s : State) (b : Bool) : OnlyRegs l s (s.setFlag f b) :=
  ⟨⟨_, _, rfl⟩, (setFld hf s (bit b)).keeps⟩

theorem count {o : Nat} (ho : o ∈ l) (s : State) : OnlyRegs l s (s.count o) := put ho s _

theorem putPair {lo hi : Nat} (hl : lo ∈ l) (hh : hi ∈ l) (s : State) (v : Nat) : OnlyRegs l s (s.putPair lo hi v) :=
  (put hl s _).trans (put hh _ _)

theorem foldl {α : Type} {f : State → α → State} (as : List α) (hf : ∀ s, ∀ a ∈ as, OnlyRegs l s (f s a)) (s : State) :
    OnlyRegs l s (as.foldl f s) := by
  induction as generalizing s with
  | nil => exact refl s
  | cons a as ih => exact (hf s a (by simp)).trans (ih (fun s b hb => hf s b (by simp [hb])) _)

section
variable (h : OnlyRegs l s t)
include h

theorem mem : t.mem = s.mem := by obtain ⟨_, _, rfl⟩ := h.frame; rfl
theorem clk : t.clk = s.clk := by obtain ⟨_, _, rfl⟩ := h.frame; rfl
theorem run : t.run = s.run := by obtain ⟨_, _, rfl⟩ := h.frame; rfl
theorem sched : t.sched = s.sched := by obtain ⟨_, _, rfl⟩ := h.frame; rfl
theorem outbox : t.outbox = s.outbox := by obtain ⟨_, _, rfl⟩ := h.frame; rfl
theorem hif : t.hif = s.hif := by obtain ⟨_, _, rfl⟩ := h.frame; rfl
theorem mix : t.mix = s.mix := by obtain ⟨_, _, rfl⟩ := h.frame; rfl
theorem pset? (id : Nat) : t.pset? id = s.pset? id := by simp only [State.pset?, State.blockSet, h.mix]

end

end State.OnlyRegs

/-! ## The host interface and what was sent -/

section

variable {s t : State}

theorem State.bytes_of_mem (h : t.mem = s.mem) (a n : Nat) : t.bytes a n = s.bytes a n := by
  induction n generalizing a with
  | zero => rfl
  | succ n ih => simp only [State.bytes, State.byte, h, ih]

theorem State.SameButHost.mem (h : s.SameButHost t) : t.mem = s.mem := by obtain ⟨_, _, rfl⟩ := h; rfl

theorem State.SameButHost.sched (h : s.SameButHost t) : t.sched = s.sched := by obtain ⟨_, _, rfl⟩ := h; rfl

theorem State.SameButHost.pset? (h : s.SameButHost t) (id : Nat) : t.pset? id = s.pset? id := by obtain ⟨_, _, rfl⟩ := h; rfl

theorem State.SameButHost.psetPending (h : s.SameButHost t) : t.psetPending = s.psetPending := by
  funext id
  simp only [State.psetPending, h.sched]

theorem State.SameButHost.psetCommits (h : s.SameButHost t) : t.psetCommits = s.psetCommits := by
  simp only [State.psetCommits, h.sched]

theorem State.SameButHost.reg (h : s.SameButHost t) (o : Nat) : t.reg o = s.reg o := by obtain ⟨_, _, rfl⟩ := h; rfl

theorem State.SameButHost.paired (h : s.SameButHost t) : t.paired = s.paired := by obtain ⟨_, _, rfl⟩ := h; rfl

theorem State.SameButHost.twn (h : s.SameButHost t) : t.twn = s.twn := by obtain ⟨_, _, rfl⟩ := h; rfl

theorem State.setRing_sameButHost (s : State) (r : Nat) (x : Ring) : s.SameButHost (s.setRing r x) := ⟨_, _, rfl⟩

theorem State.ring_setRing (s : State) (r q : Nat) (x : Ring) : (s.setRing r x).ring q = if r = q then x else s.ring q :=
  Tbl.get_set _ _ _ _ _

end

end Sys2Proof.Machine
end

section
/-!
PROOFS. TCK_CFG (R15, R517).
-/

namespace Sys2Proof.Machine

/-- The registers that report what the active streams sum to (R213). -/
def strSumRegs : List Nat := [R.STR_ACTIVE, R.STR_CH_USED, R.STR_BW 0, R.STR_BW 1, R.STR_BW 2]

/-- Summing up the active streams writes the registers that report the sums (R213). -/
theorem State.strCounts_onlyRegs (s : State) : State.OnlyRegs strSumRegs s s.strCounts := by
  have hp : ∀ p ∈ List.range 3, (F.STR_BW_bytes p).reg ∈ strSumRegs := by decide
  unfold State.strCounts
  dsimp only
  refine .trans (.trans (.trans (.trans (.setFld ?_ _ _) (.setFld ?_ _ _)) (.setFld ?_ _ _)) (.setFld ?_ _ _))
    (.foldl _ (fun s p h => .setFld (hp p h) s _) _)
  all_goals simp [strSumRegs]

/-- The loop bandwidth is no register (R291). -/
theorem State.followBw_changes (s : State) : ∃ x, s.followBw = { s with clkx := x } := by
  by_cases h : s.sel = 7
  · exact ⟨s.clkx, if_pos h⟩
  · exact ⟨_, if_neg h⟩

/-- The tick's length in units is a matter of TCK_CFG alone (R13). -/
theorem State.tickU_of_reg_TCK_CFG {s t : State} (h : t.reg R.TCK_CFG = s.reg R.TCK_CFG) : t.tickU = s.tickU := by
  simp [State.tickU, State.T, State.sampU, State.fld, h]

/-- The ranges of R15. -/
theorem tckOk_eq_false_iff (w : Word) :
    tckOk w = false ↔ bitsOf w 1 0 = 3 ∨ bitsOf w 12 8 = 0 ∨ 16 < bitsOf w 12 8 ∨ 8 * tSamples (bitsOf w 3 2) < bitsOf w 24 16 := by
  simp only [tckOk, Bool.and_eq_false_iff, decide_eq_false_iff_not, ne_eq, not_not]
  omega

theorem State.tckCfg_of_bad {s : State} {w : Word} (h : s.ticking = true ∨ tckOk w = false) :
    s.tckCfg w = s.setFlag F.TCK_STATUS_cfg_err true := by
  rcases h with h | h <;> simp [State.tckCfg, h]

theorem State.tckCfg_of_same_length {s : State} {w : Word} (ht : s.ticking = false) (hw : tckOk w = true)
    (h : bitsOf w 3 0 = bitsOf (s.reg R.TCK_CFG) 3 0) : s.tckCfg w = s.put R.TCK_CFG (w &&& 0x1FF1F0F#32) := by
  simp [State.tckCfg, ht, hw, h]

/-- A new length puts the grid at the present time (R517); the sums over the streams follow it (R213). -/
theorem State.tckCfg_of_new_length {s : State} {w : Word} (ht : s.ticking = false) (hw : tckOk w = true)
    (h : bitsOf w 3 0 ≠ bitsOf (s.reg R.TCK_CFG) 3 0) :
    s.tckCfg w = (((s.put R.TCK_CFG (w &&& 0x1FF1F0F#32)).setGridU s.timeU).followBw).strCounts := by
  simp [State.tckCfg, ht, hw, Ne.symm h]

/-- Settles O7: a write of TCK_CFG is ignored as a whole or taken; the same length is one register's write, a new one puts the grid at
the present time. -/
theorem tickConfigurationWrite : Obligations.TickConfigurationWrite := by
  unfold Obligations.TickConfigurationWrite
  intro w s hon bad
  have hx : exec (.tckCfgWrite w) s = .next (s.tckCfg w) := congrArg Host.Outcome.next (if_pos hon)
  rw [hx]
  refine ⟨fun h => ?_, fun ht hb => ⟨_, rfl, ?_⟩⟩
  · rw [State.tckCfg_of_bad (h.imp_right (tckOk_eq_false_iff w).2)]
  have hw : tckOk w = true := Bool.eq_true_of_not_eq_false fun h => hb ((tckOk_eq_false_iff w).1 h)
  by_cases hl : bitsOf w 3 0 = bitsOf (s.reg R.TCK_CFG) 3 0
  · rw [State.tckCfg_of_same_length ht hw hl]
    exact ⟨s.reg_put_self _ _, rfl, rfl, rfl, rfl, fun _ => ⟨rfl, (State.OnlyRegs.put (by simp) s _).keeps⟩, fun h => absurd hl h⟩
  · rw [State.tckCfg_of_new_length ht hw hl]
    obtain ⟨x, hbw⟩ := ((s.put R.TCK_CFG (w &&& 0x1FF1F0F#32)).setGridU s.timeU).followBw_changes
    rw [hbw]
    have hs := State.strCounts_onlyRegs { (s.put R.TCK_CFG (w &&& 0x1FF1F0F#32)).setGridU s.timeU with clkx := x }
    have hcfg := hs.keeps R.TCK_CFG (by decide)
    refine ⟨hcfg.trans (s.reg_put_self _ _), hs.mem, hs.run, hs.sched, hs.outbox, fun h => absurd h hl, fun _ => ?_⟩
    refine ⟨?_, ?_, fun o ho => ?_⟩
    · rw [State.tickNum, hs.clk, State.tickU_of_reg_TCK_CFG hcfg]; rfl
    · rw [hs.clk, State.tickU_of_reg_TCK_CFG hcfg]; rfl
    · simp only [List.mem_cons, not_or] at ho
      exact (hs.keeps o (by simpa [strSumRegs] using ho.2)).trans (s.reg_put_of_ne _ (Ne.symm ho.1))

end Sys2Proof.Machine
end

section
/-!
SUPPORT. Commands of the host rings that their rings may parse, scheduled actions that fall due, and the completion that ends them
(R19, R351 to R355).
-/

namespace Sys2Proof.Machine

variable {s t : State} {c : HostCmd} {op : Nat}

/-! ## Timed commands (R354) -/

section
variable {b : Bool} {ref : State → State} {f : State → Nat → Bool → State × Option (Nat × Nat)}

/-- A target within the bounds is the one that the command is accepted for. -/
theorem State.timedOr_of_in_time (h : s.Takes c op) (h0 : cmdTarget c ≠ 0)
    (he : (s.takeCmd c.ring).earliest (s.issueTick c.ring) b ≤ cmdTarget c) (hm : cmdTarget c ≤ s.issueTick c.ring + 2 ^ 31)
    (hf : f (s.takeCmd c.ring) (cmdTarget c) false = (t, none)) : s.timedOr c op b ref f = t := by
  simp [-Nat.reducePow, State.timedOr, h.opcode, h.parse, h.sound, h0, Nat.not_lt.2 he, Nat.not_lt.2 hm, hf]

/-- Of a target that has become too early, the command is accepted for the earliest tick, as late. -/
theorem State.timedOr_of_late (h : s.Takes c op) (h0 : cmdTarget c ≠ 0)
    (he : cmdTarget c < (s.takeCmd c.ring).earliest (s.issueTick c.ring) b) (hm : cmdTarget c ≤ s.issueTick c.ring + 2 ^ 31)
    (hl : cmdFlags c % 2 ≠ 1) (hf : f (s.takeCmd c.ring) ((s.takeCmd c.ring).earliest (s.issueTick c.ring) b) true = (t, none)) :
    s.timedOr c op b ref f = t := by
  simp [-Nat.reducePow, State.timedOr, h.opcode, h.parse, h.sound, h0, he, Nat.not_lt.2 hm, hl, hf]

/-- With its flag such a command is refused. -/
theorem State.timedOr_of_late_rejected (h : s.Takes c op) (h0 : cmdTarget c ≠ 0)
    (he : cmdTarget c < (s.takeCmd c.ring).earliest (s.issueTick c.ring) b) (hm : cmdTarget c ≤ s.issueTick c.ring + 2 ^ 31)
    (hl : cmdFlags c % 2 = 1) : s.timedOr c op b ref f = (ref (s.takeCmd c.ring)).endCmd c stLateRejected 0 := by
  simp [-Nat.reducePow, State.timedOr, h.opcode, h.parse, h.sound, h0, he, Nat.not_lt.2 hm, hl]

/-- A target too far ahead is refused. -/
theorem State.timedOr_of_far (h : s.Takes c op) (hm : s.issueTick c.ring + 2 ^ 31 < cmdTarget c) :
    s.timedOr c op b ref f = (ref (s.takeCmd c.ring)).endCmd c stBadTick 0 := by
  simp [-Nat.reducePow, State.timedOr, h.opcode, h.parse, h.sound, hm]

end

/-! ## Scheduled actions that fall due (R19) -/

/-- The one scheduled action, due and of a kind that is run, leaves the schedule and takes effect. -/
theorem State.runDue_of_single {a : Timed} {sel : TimedKind → Bool} {f : State → Timed → State} (hs : s.sched = [a])
    (hd : a.target ≤ s.tickNum) (hk : sel a.kind = true) : s.runDue sel f = f { s with sched := [] } a := by
  simp [State.runDue, State.due, hs, hd, hk, sortTimed, insertTimed]

/-! ## Ends of commands (R353) -/

/-- The end of a command hands over its completion; of the registers only counts change (R354, R358). -/
theorem State.finish_onlyRegs (s : State) (r tag op st d : Nat) : State.OnlyRegs [R.HIF_LATE_CNT, R.HIF_REJECT_CNT]
    (s.setHif fun h => { h with cpls := h.cpls ++ [⟨r, tag, op, st, d, s.tickNum⟩] }) (s.finish r tag op st d) := by
  unfold State.finish
  dsimp only
  split
  · exact .refl _
  · split
    · exact .count (by simp) _
    · exact .count (by simp) _

/-- The completion of an action whose ring still waits for it stands with the others. -/
theorem State.endTimed_of_ring {a : Timed} {r : Nat} (hr : a.ring = some r) (hl : a.lost = false) (s : State) (st d : Nat) :
    s.endTimed a st d = s.finish r a.tag a.opcode st d := by
  simp [State.endTimed, hr, hl]

/-- Where an action ends, of the registers only counts change, and beside them the host interface. -/
theorem State.endTimed_onlyRegs (s : State) (a : Timed) (st d : Nat) :
    ∃ h, State.OnlyRegs [R.HIF_LATE_CNT, R.HIF_REJECT_CNT, R.HIF_CPL_DROP_CNT] { s with hif := h } (s.endTimed a st d) := by
  cases hr : a.ring with
  | none => exact ⟨s.hif, by simpa [State.endTimed, hr] using .refl _⟩
  | some r =>
    cases hl : a.lost with
    | true => exact ⟨s.hif, by simpa [State.endTimed, hr, hl] using .count (by simp) _⟩
    | false =>
      rw [State.endTimed_of_ring hr hl]
      exact ⟨_, (s.finish_onlyRegs r a.tag a.opcode st d).mono (by simp)⟩

section
variable (s : State) (a : Timed) (st d : Nat)

@[simp] theorem State.endTimed_mem : (s.endTimed a st d).mem = s.mem := let ⟨_, k⟩ := s.endTimed_onlyRegs a st d; k.mem
@[simp] theorem State.endTimed_clk : (s.endTimed a st d).clk = s.clk := let ⟨_, k⟩ := s.endTimed_onlyRegs a st d; k.clk
@[simp] theorem State.endTimed_sched : (s.endTimed a st d).sched = s.sched := let ⟨_, k⟩ := s.endTimed_onlyRegs a st d; k.sched
@[simp] theorem State.endTimed_pset? (id : Nat) : (s.endTimed a st d).pset? id = s.pset? id :=
  let ⟨_, k⟩ := s.endTimed_onlyRegs a st d; k.pset? id

theorem State.reg_endTimed {o : Nat} (h : o ∉ [R.HIF_LATE_CNT, R.HIF_REJECT_CNT, R.HIF_CPL_DROP_CNT]) :
    (s.endTimed a st d).reg o = s.reg o := let ⟨_, k⟩ := s.endTimed_onlyRegs a st d; k.keeps o h

end

/-- Forgetting a proposal touches no set and nothing outside the mix block (R178). -/
@[simp] theorem State.dropProp_mem (s : State) (i : Option Nat) : (s.dropProp i).mem = s.mem := rfl
@[simp] theorem State.dropProp_clk (s : State) (i : Option Nat) : (s.dropProp i).clk = s.clk := rfl
@[simp] theorem State.dropProp_sched (s : State) (i : Option Nat) : (s.dropProp i).sched = s.sched := rfl
@[simp] theorem State.dropProp_pset? (s : State) (i : Option Nat) (id : Nat) : (s.dropProp i).pset? id = s.pset? id := rfl

end Sys2Proof.Machine
end

section
/-!
PROOFS. Parameter sets: validation, the switch of a bank, and the commit's way from its command to its effect (R173 to R177).
-/

namespace Sys2Proof.Tbl

/-- The first entry of a key after it is put is the one put. -/
theorem find?_put {α : Type} (a : Nat) (v : α) (t : List (Nat × α)) : (put a v t).find? (fun e => e.1 = a) = some (a, v) := by
  induction t with
  | nil => simp [put]
  | cons e r ih =>
    obtain ⟨k, w⟩ := e
    by_cases hk : k = a
    · simp [put, hk]
    · by_cases hl : a < k
      · simp [put, hk, hl]
      · simp [put, hk, hl, ih]

end Sys2Proof.Tbl

namespace Sys2Proof.Machine

/-! ## Validation depends on no ring (R177) -/

section

variable {s t : State}

theorem State.SameButHost.setAt (h : s.SameButHost t) (named : List Nat) (n id : Nat) : t.setAt named n id = s.setAt named n id := by
  simp only [State.setAt, State.shadowBytes, State.active?, State.bytes_of_mem h.mem, h.sched, h.pset?]

theorem State.SameButHost.tables (h : s.SameButHost t) (named : List Nat) (n : Nat) : t.tables named n = s.tables named n := by
  simp only [State.tables, h.setAt]

theorem State.SameButHost.busesAt (h : s.SameButHost t) (x : Tables) (k : Nat) : t.busesAt x k = s.busesAt x k := h.setAt _ _ _

theorem State.SameButHost.xpGo (h : s.SameButHost t) (x : Tables) (w : XpWay) (c : Nat × Xp) : t.xpGo x w c = s.xpGo x w c := by
  unfold State.xpGo
  simp only [h.busesAt]
  obtain ⟨_, _, rfl⟩ := h
  rfl

theorem State.SameButHost.xpFadesAt (h : s.SameButHost t) (x : Tables) (b : Bool) (k g : Nat) :
    t.xpFadesAt x b k g = s.xpFadesAt x b k g := by
  have hg : t.xpGo x = s.xpGo x := funext₂ (h.xpGo x)
  unfold State.xpFadesAt
  simp only [hg, h.setAt]
  obtain ⟨_, _, rfl⟩ := h
  rfl

theorem State.SameButHost.xpTooMany (h : s.SameButHost t) (x : Tables) (g : Nat) : t.xpTooMany x g = s.xpTooMany x g := by
  unfold State.xpTooMany State.xpFadesOver
  simp only [h.xpFadesAt]
  obtain ⟨_, _, rfl⟩ := h
  rfl

theorem State.SameButHost.xpBad (h : s.SameButHost t) (x : Tables) (b : List Byte) (i g : Nat) :
    t.xpBad x b i g = s.xpBad x b i g := by
  unfold State.xpBad
  simp only [h.xpTooMany]
  obtain ⟨_, _, rfl⟩ := h
  rfl

theorem State.SameButHost.setBad (h : s.SameButHost t) (x : Tables) (id : Nat) : t.setBad x id = s.setBad x id := by
  have hr : t.routeBad = s.routeBad := by obtain ⟨_, _, rfl⟩ := h; rfl
  have hb : t.busBad = s.busBad := by obtain ⟨_, _, rfl⟩ := h; rfl
  have hd : t.dynBad = s.dynBad := by obtain ⟨_, _, rfl⟩ := h; rfl
  have hm : t.meterBad = s.meterBad := by obtain ⟨_, _, rfl⟩ := h; rfl
  simp only [State.setBad, h.setAt, h.xpBad, hr, hb, hd, hm]

theorem State.SameButHost.psetBad (h : s.SameButHost t) (ids : List Nat) (n : Nat) : t.psetBad ids n = s.psetBad ids n := by
  simp only [State.psetBad, h.tables, h.setBad]

end

variable {s : State} {id : Nat} {p : PSet}

/-! ## Set commits that fall due (R173, R174) -/

theorem State.pset?_setPset_self (s : State) (x : PSet) (h : id < 4084) : (s.setPset id x).pset? id = some x := by
  by_cases hb : isBlockSet id = true
  · simp [State.pset?, State.setPset, State.blockSet, hb]
  · have hh : isHostSet id = true := by
      simp only [isBlockSet, Bool.and_eq_true, decide_eq_true_eq, not_and] at hb
      simp only [isHostSet, decide_eq_true_eq]
      omega
    simp [State.pset?, State.setPset, hb, hh, Tbl.find?_put]

/-- A set's record lies in the mix block. -/
theorem State.setPset_changes (s : State) (id : Nat) (x : PSet) : ∃ m, s.setPset id x = { s with mix := m } := by
  by_cases hb : isBlockSet id = true
  · exact ⟨_, if_pos hb⟩
  · exact ⟨_, if_neg hb⟩

@[simp] theorem State.setPset_mem (s : State) (id : Nat) (x : PSet) : (s.setPset id x).mem = s.mem := by
  obtain ⟨_, h⟩ := s.setPset_changes id x; rw [h]
@[simp] theorem State.setPset_clk (s : State) (id : Nat) (x : PSet) : (s.setPset id x).clk = s.clk := by
  obtain ⟨_, h⟩ := s.setPset_changes id x; rw [h]
@[simp] theorem State.setPset_sched (s : State) (id : Nat) (x : PSet) : (s.setPset id x).sched = s.sched := by
  obtain ⟨_, h⟩ := s.setPset_changes id x; rw [h]

/-- Where no copy runs, a switch changes the set's record alone. -/
theorem State.flipSet_of_not_copying (hp : s.pset? id = some p) (hc : p.copying = false) :
    s.flipSet id = s.setPset id { p with bank := 1 - p.bank, copying := true } := by
  have hr : s.refresh id = s := by simp [State.refresh, hp, hc]
  simp [State.flipSet, hr, hp]

/-- Host sets have no readers among the fixed blocks. -/
theorem State.enterSet_of_host (s : State) (h : id < 4064) : s.enterSet id = s := if_pos h

/-- The registers that report on the fixed blocks' objects and on pending commits. -/
def mixCountRegs : List Nat :=
  [R.RTE_ACTIVE, R.RTE_FADING, R.MIX_XP_ACTIVE, R.MIX_XP_FADING, R.DYN_ACTIVE, R.MIX_PSET_STATUS, R.STR_STATUS, R.MIX_PSET_COMMIT_CNT]

theorem State.pendCounts_onlyRegs (s : State) : State.OnlyRegs mixCountRegs s s.pendCounts := by
  unfold State.pendCounts
  dsimp only
  refine .trans (.trans (.setFld ?_ _ _) (.setFlag ?_ _ _)) (.setFld ?_ _ _)
  all_goals simp [mixCountRegs]

theorem State.mixCounts_onlyRegs (s : State) : State.OnlyRegs mixCountRegs s s.mixCounts := by
  unfold State.mixCounts
  dsimp only
  refine .trans (.trans (.trans (.trans (.put ?_ _ _) (.put ?_ _ _)) (.put ?_ _ _)) (.put ?_ _ _)) (.put ?_ _ _)
  all_goals simp [mixCountRegs]

/-- The commit of one host set switches it, records the tick and counts. -/
theorem State.applyPsets_of_host (h : id < 4064) (hp : s.pset? id = some p) (hc : p.copying = false) :
    State.OnlyRegs mixCountRegs ((s.setPset id { p with bank := 1 - p.bank, copying := true }).putPair
      R.MIX_PSET_LAST_LO R.MIX_PSET_LAST_HI s.tickNum) (s.applyPsets [id]) := by
  have hne : id ≠ 4081 := by omega
  simp only [State.applyPsets, List.foldl_cons, List.foldl_nil, State.flipSet_of_not_copying hp hc, State.enterSet_of_host _ h,
    List.contains_cons, List.contains_nil, beq_iff_eq, Ne.symm hne, hne, if_false, Bool.or_false, State.tickNum, State.setPset_clk]
  exact ((State.OnlyRegs.count (by simp [mixCountRegs]) _).trans (State.mixCounts_onlyRegs _)).trans (State.pendCounts_onlyRegs _)

/-- A pair reads back what was stored in it, modulo 2^64. -/
theorem State.pair_putPair (s : State) {lo hi : Nat} (h : lo ≠ hi) (v : Nat) : (s.putPair lo hi v).pair lo hi = v % 2 ^ 64 := by
  simp only [State.pair, State.putPair, State.reg_put_self, State.reg_put_of_ne _ _ (Ne.symm h), BitVec.toNat_ofNat]
  omega

/-! ## The commit -/

/-- A commit of sets that may be scheduled is scheduled, in a module without a partner, for its target (R175, R177). -/
theorem State.psetCommit_of_sound {q : State} {c : HostCmd} {n : Nat} (hk : 1 ≤ cmdArg c 0 2) (hm : cmdArg c 0 2 ≤ 4096)
    (h2 : twice (commitList c) = false) (hid : ∀ id ∈ commitList c, (q.pset? id).isSome = true ∧ q.psetPending id = false)
    (hf : q.psetCommits < 64) (hb : q.psetBad (commitList c) n = none) (hp : q.paired = false) (late : Bool) :
    q.psetCommit c n late = (((q.readHost (cmdArg c 8 8) (2 * cmdArg c 0 2)).schedule c n late
      (.psetCommit (commitList c) false) none).pendCounts, none) := by
  have hs := q.readHost_sameButHost (cmdArg c 8 8) (2 * cmdArg c 0 2)
  have hdef : ((commitList c).any fun id => (q.pset? id).isNone) = false := by
    simpa [List.any_eq_false, Option.isNone_iff_eq_none, ← Option.isSome_iff_ne_none] using fun id h => (hid id h).1
  have hfree : (commitList c).any q.psetPending = false := by simpa [List.any_eq_false] using fun id h => (hid id h).2
  simp [State.psetCommit, State.acceptCommit, show ¬ cmdArg c 0 2 = 0 by omega, Nat.not_lt.2 hm, h2, hs.pset?, hdef,
    hs.psetPending, hfree, hs.psetCommits, Nat.not_le.2 hf, hs.psetBad, hb, hs.paired, hp]

/-- The commit of one host set that falls due switches it, and its command completes (R173). -/
theorem State.applyCommit_of_host {s : State} {a : Timed} {id : Nat} {p : PSet} (hk : a.kind = .psetCommit [id] true) (h : id < 4064)
    (hp : s.pset? id = some p) (hc : p.copying = false) :
    (s.applyCommit a).pset? id = some { p with bank := 1 - p.bank, copying := true } ∧
    (s.applyCommit a).pair R.MIX_PSET_LAST_LO R.MIX_PSET_LAST_HI = s.tickNum % 2 ^ 64 ∧
    (s.applyCommit a).sched = s.sched ∧ (s.applyCommit a).mem = s.mem ∧ (s.applyCommit a).clk = s.clk ∧
    ∀ r, a.ring = some r → a.lost = false → (⟨r, a.tag, a.opcode, a.okStatus, 0, s.tickNum⟩ : Cpl) ∈ (s.applyCommit a).hif.cpls := by
  have happ : s.applyCommit a = ((s.dropProp a.propId).applyPsets [id]).endTimed a a.okStatus 0 := by
    simp [State.applyCommit, Timed.agreed, hk]
  have hreg := State.applyPsets_of_host h ((s.dropProp_pset? a.propId id).trans hp) hc
  have hclk : ((s.dropProp a.propId).applyPsets [id]).clk = s.clk := by simp [hreg.clk]
  rw [happ]
  refine ⟨?_, ?_, by simp [hreg.sched], by simp [hreg.mem], by simp [hclk], fun r hr hl => ?_⟩
  · rw [State.endTimed_pset?, hreg.pset?]
    exact State.pset?_setPset_self _ _ (by omega)
  · rw [State.pair, State.reg_endTimed _ _ _ _ (by decide), State.reg_endTimed _ _ _ _ (by decide), hreg.keeps _ (by decide),
      hreg.keeps _ (by decide)]
    exact State.pair_putPair _ (by decide) _
  · rw [State.endTimed_of_ring hr hl, (State.finish_onlyRegs _ _ _ _ _ _).hif]
    simp [State.setHif, State.tickNum, hclk]

/-- Settles O34: an accepted commit waits in the schedule, its effect switches the bank of its set, and the copy that this starts
ends with equal banks. -/
theorem parameterSetCommitAndSwitch : Obligations.ParameterSetCommitAndSwitch := by
  unfold Obligations.ParameterSetCommitAndSwitch
  refine ⟨fun c s ht he hm h0 hk hk' h2 hid hf hb hp => ?_, fun s a id p hs ha hd h hp hc => ?_, fun s id p hp hc => ?_⟩
  · exact congrArg Host.Outcome.next (State.timedOr_of_in_time ht h0 he hm (State.psetCommit_of_sound hk hk' h2 hid hf hb hp false))
  · have hbus : s.busFirst = s := if_neg (by simp [State.busDue, hs, ha, show 4081 ≠ id by omega])
    have hx : exec .psetCommitApply s = .next (({ s with sched := [] } : State).applyCommit a) := by
      refine congrArg Host.Outcome.next ?_
      rw [hbus, State.runDue_of_single hs hd (by rw [ha]; rfl)]
    exact ⟨_, hx, State.applyCommit_of_host ha h hp hc⟩
  · refine congrArg Host.Outcome.next ?_
    simp [State.refresh, hp, hc, PSet.shadow, State.active?]

end Sys2Proof.Machine
end

section
/-!
PROOFS. The commands of the host rings that belong to no block (R356): their acceptance, effect and end.
-/

namespace Sys2Proof.Machine

variable {s q : State} {c : HostCmd}

/-! ## Parsing -/

theorem State.canParse_of_mayParse {r : Nat} (h : s.mayParse r = true) : s.canParse r = true := (Bool.and_eq_true_iff.1 h).1

/-- Taking a command counts it; beside that it moves its ring on and reads its descriptor (R350, R352). -/
theorem State.takeCmd_sameButHost (s : State) (r : Nat) : (s.count R.HIF_CMD_CNT).SameButHost (s.takeCmd r) := ⟨_, _, rfl⟩

@[simp] theorem State.takeCmd_sram (s : State) (r : Nat) : (s.takeCmd r).sram = s.sram := rfl

@[simp] theorem State.takeCmd_dramLimit (s : State) (r : Nat) : (s.takeCmd r).dramLimit = s.dramLimit := by
  have hd : (s.takeCmd r).reg R.HIF_DRAM_LIMIT = s.reg R.HIF_DRAM_LIMIT :=
    ((s.takeCmd_sameButHost r).reg _).trans (s.reg_put_of_ne _ (by decide))
  rw [State.dramLimit, hd, State.dramLimit]

@[simp] theorem State.takeCmd_copyRange (s : State) (r a n : Nat) : (s.takeCmd r).copyRange a n = s.copyRange a n := by
  simp [State.copyRange]

/-! ## NOP and REG_WRITE (R354, R355) -/

theorem State.scheduleOr_of_room (h : q.pendingTimed < 256) (c : HostCmd) (n : Nat) (late : Bool) (k : TimedKind) :
    q.scheduleOr c n late k = (q.schedule c n late k none, none) := if_neg (Nat.not_le.2 h)

theorem exec_nop (c : HostCmd) (s : State) :
    exec (.nop c) s = .next (s.timedOr c 1 false id fun s n late => s.scheduleOr c n late .nop) := rfl

theorem exec_regWrite (ho : cmdArg c 0 4 < 0x1000000) (ha : cmdArg c 0 4 % 4 = 0) (s : State) :
    exec (.regWrite c) s = .next (s.timedOr c 0x40 false id fun s n late =>
      s.scheduleOr c n late (.regWrite (cmdArg c 0 4) (word (cmdArg c 4 4)) (word (cmdArg c 8 4)))) := by
  have hok : regArgOk (cmdArg c 0 4) = true := by simp [regArgOk, ho, ha]
  refine congrArg Host.Outcome.next ?_
  simp only [State.timed, hok, if_true]

/-! ## COPY_IN and COPY_OUT (R356, R413, R430) -/

theorem copyLenOk_iff (n : Nat) : copyLenOk n = true ↔ 4 ≤ n ∧ n ≤ 0x4000000 ∧ n % 4 = 0 := by simp [copyLenOk, and_assoc]

theorem State.copyRange_iff (s : State) (a n : Nat) : s.copyRange a n = true ↔ 0x400000000 ≤ a ∧ a + n ≤ s.dramLimit := by
  simp [State.copyRange]

/-- Without uncorrectable words a store is a plain write. -/
theorem State.store_of_no_bad (h : s.sram.bad = []) (m a : Nat) (bs : List Byte) : s.store m a bs = s.putBytes a bs :=
  if_pos (by simp [h])

@[simp] theorem State.readHost_sram (s : State) (a n : Nat) : (s.readHost a n).sram = s.sram := by
  obtain ⟨_, _, e⟩ := s.readHost_sameButHost a n
  rw [e]

section
variable (hn : copyLenOk (cmdArg c 16 4) = true)
include hn

theorem State.copyIn_of_range (hr : q.copyRange (cmdArg c 8 8) (cmdArg c 16 4) = true) :
    q.copyIn c = ((q.readHost (cmdArg c 0 8) (cmdArg c 16 4)).store 14 (cmdArg c 8 8) (padTo (cmdArg c 16 4) c.data), stOk, 0) := by
  simp [State.copyIn, hn, hr]

theorem State.copyIn_of_bad_range (hr : q.copyRange (cmdArg c 8 8) (cmdArg c 16 4) = false) : q.copyIn c = (q, stBadAddr, 0) := by
  simp [State.copyIn, hn, hr]

theorem State.copyOut_of_range (hr : q.copyRange (cmdArg c 8 8) (cmdArg c 16 4) = true)
    (hb : q.badWord (cmdArg c 8 8) (cmdArg c 16 4) = none) :
    q.copyOut c = (q.writeHost (cmdArg c 0 8) (q.bytes (cmdArg c 8 8) (cmdArg c 16 4)), stOk, 0) := by
  simp [State.copyOut, hn, hr, hb]

theorem State.copyOut_of_bad_word {w : Nat} (hr : q.copyRange (cmdArg c 8 8) (cmdArg c 16 4) = true)
    (hb : q.badWord (cmdArg c 8 8) (cmdArg c 16 4) = some w) :
    q.copyOut c = (q.dramSeen w 14, stDmaErr, cmdArg c 0 8 % 2 ^ 32) := by
  simp [State.copyOut, hn, hr, hb]

theorem State.copyOut_of_bad_range (hr : q.copyRange (cmdArg c 8 8) (cmdArg c 16 4) = false) : q.copyOut c = (q, stBadAddr, 0) := by
  simp [State.copyOut, hn, hr]

end

section
variable {op : Nat} (ht : s.Takes c op) (h0 : cmdTarget c = 0)
include ht h0

/-- With the DRAM target ready a copy runs when it is parsed. -/
theorem State.copy_of_ready (hd : s.dramReady = true) (f : State → State × Nat × Nat) :
    (if s.copyWaits c op then s.holdCopy c else s.untimed c op f) =
      (f (s.takeCmd c.ring)).1.endCmd c (f (s.takeCmd c.ring)).2.1 (f (s.takeCmd c.ring)).2.2 := by
  rw [if_neg (by simp [State.copyWaits, hd]), State.untimed_of_takes ht h0]

/-- A copy that could run but for the DRAM target waits in front of its ring, and its request starts the exit from self-refresh. -/
theorem State.copy_of_not_ready (hd : s.dramReady = false) (hn : copyLenOk (cmdArg c 16 4) = true)
    (hr : s.copyRange (cmdArg c 8 8) (cmdArg c 16 4) = true) (f : State → State × Nat × Nat) :
    (if s.copyWaits c op then s.holdCopy c else s.untimed c op f) =
      if s.domOn 16 then (s.setRing c.ring { s.ring c.ring with wait := true }).leaveSelfRefresh
      else s.setRing c.ring { s.ring c.ring with wait := true } := by
  rw [if_pos (by simp [State.copyWaits, untimedOk, ht.opcode, ht.sound, h0, hd, hn, hr]), State.holdCopy,
    if_pos (State.canParse_of_mayParse ht.parse)]
  rfl

end

theorem exec_copyIn (c : HostCmd) (s : State) : exec (.copyIn c) s =
    .next (if s.copyWaits c 2 then s.holdCopy c else s.untimed c 2 fun s => s.copyIn c) := rfl

theorem exec_copyOut (c : HostCmd) (s : State) : exec (.copyOut c) s =
    .next (if s.copyWaits c 3 then s.holdCopy c else s.untimed c 3 fun s => s.copyOut c) := rfl

/-! ## TWI_XFER (R352, R463) -/

/-- A request joins its controller's queue: its ring waits for the transfer's end, and the bytes to write are read (R352, R463). -/
def State.twiQueue (s : State) (c : HostCmd) : State :=
  let s := s.setRing c.ring { s.ring c.ring with busy := true }
  let s := if (twiRequest c).wr.isEmpty then s else s.emit (.hostRead (twiRequest c).host (twiRequest c).wr.length)
  s.setHif fun h => { h with twi := h.twi ++ [twiRequest c] }

/-- A sound request joins the queue, which its controller serves. -/
theorem State.twiXfer_of_sound (h : s.Takes c 0x60) (h0 : cmdTarget c = 0) (ha : twiArgBad c = none) :
    s.twiXfer c = ((s.takeCmd c.ring).twiQueue c).twiServe (cmdArg c 0 1) := by
  have hn : ¬ (cmdOp c ≠ 0x0060 || !s.mayParse c.ring) = true := by simp [h.opcode, h.parse]
  simp only [State.twiXfer, if_neg hn, h.sound, h0, ha, ne_eq, not_true_eq_false, if_false]
  rfl

theorem State.twiQueue_sameButHost (s : State) (c : HostCmd) : s.SameButHost (s.twiQueue c) := by
  unfold State.twiQueue
  dsimp only
  split
  · exact (State.setRing_sameButHost _ _ _).trans (State.setHif_sameButHost _ _)
  · exact ((State.setRing_sameButHost _ _ _).trans (State.emit_sameButHost _ _)).trans (State.setHif_sameButHost _ _)

theorem State.twiQueue_hif (s : State) (c : HostCmd) : (s.twiQueue c).hif =
    { (s.setRing c.ring { s.ring c.ring with busy := true }).hif with twi := s.hif.twi ++ [twiRequest c] } := by
  unfold State.twiQueue
  dsimp only
  split <;> rfl

/-- An idle controller that has read SDA, of a module that drives its pins, starts the request in front (R463, R468). -/
theorem State.twiServe_of_idle {n : Nat} (ho : s.isOwner = true) (hh : s.twn.ho = none) (hs : s.twiSt n = 1)
    (hu : s.twiUnread n = false) (hf : (s.twiFront n).isSome = true) : s.twiServe n = s.setTwiSt n 2 := by
  simp [State.twiServe, State.drives, State.twiHeld, ho, hh, hs, hu, hf]

/-- On such a controller with nothing queued, the request of a command starts at once. -/
theorem State.twiXfer_of_idle (h : s.Takes c 0x60) (h0 : cmdTarget c = 0) (ha : twiArgBad c = none) (ho : s.isOwner = true)
    (hh : s.twn.ho = none) (hq : s.hif.twi = []) (hs : s.twiSt (cmdArg c 0 1) = 1) (hu : s.twiUnread (cmdArg c 0 1) = false) :
    s.twiXfer c = ((s.takeCmd c.ring).twiQueue c).setTwiSt (cmdArg c 0 1) 2 := by
  have hk := (s.takeCmd_sameButHost c.ring).trans ((s.takeCmd c.ring).twiQueue_sameButHost c)
  have hst : ((s.takeCmd c.ring).twiQueue c).twiSt (cmdArg c 0 1) = 1 := by
    have hne : R.HIF_CMD_CNT ≠ R.TWI_C_STATUS (cmdArg c 0 1) := by simp only [R.HIF_CMD_CNT, R.TWI_C_STATUS]; omega
    refine Eq.trans ?_ hs
    rw [State.twiSt, State.fld, hk.reg]
    exact State.fld_put_of_ne s _ (f := F.TWI_C_STATUS_state (cmdArg c 0 1)) hne
  have hfr : (((s.takeCmd c.ring).twiQueue c).twiFront (cmdArg c 0 1)).isSome = true := by
    have htwi : (s.takeCmd c.ring).hif.twi = [] := hq
    simp [State.twiFront, State.twiQueue_hif, htwi, twiRequest]
  rw [State.twiXfer_of_sound h h0 ha]
  refine State.twiServe_of_idle ?_ ?_ hst ?_ hfr
  · rw [State.isOwner, hk.twn]; exact ho
  · rw [hk.twn]; exact hh
  · rw [State.twiUnread, State.twiQueue_hif]; exact hu

/-- What a request that starts at once leaves: its controller busy with it, its ring waiting, and no other register changed. -/
theorem State.twiXfer_started (hq : s.hif.twi = []) :
    let t := ((s.takeCmd c.ring).twiQueue c).setTwiSt (cmdArg c 0 1) 2
    t.twiSt (cmdArg c 0 1) = 2 ∧ t.hif.twi = [twiRequest c] ∧ (t.ring c.ring).busy = true ∧
      s.KeepsRegs t [R.HIF_CMD_CNT, R.TWI_C_STATUS (cmdArg c 0 1)] ∧ t.mem = s.mem := by
  have hk := (s.takeCmd_sameButHost c.ring).trans ((s.takeCmd c.ring).twiQueue_sameButHost c)
  have htwi : (s.takeCmd c.ring).hif.twi = [] := hq
  refine ⟨State.fld_setFld_self _ _ _ (by simp), ?_, ?_, fun o ho => ?_, hk.mem⟩
  · simp [State.setTwiSt, State.twiQueue_hif, htwi]
  · rw [State.ring, State.setTwiSt, State.setFld_hif, State.twiQueue_hif]
    exact congrArg Ring.busy (Tbl.get_set_self _ _ _ _)
  · simp only [List.mem_cons, List.not_mem_nil, or_false, not_or] at ho
    rw [State.setTwiSt, State.reg_setFld_of_ne _ _ (Ne.symm ho.2), hk.reg]
    exact s.reg_put_of_ne _ (Ne.symm ho.1)

/-! ## Timed commands that fall due (R354) -/

/-- The one scheduled action, due and no commit, takes effect. -/
theorem exec_timedCommandEffect_of_single {a : Timed} (hs : s.sched = [a]) (hd : a.target ≤ s.tickNum)
    (hk : a.kind.isCommit = false) : exec .timedCommandEffect s = .next (({ s with sched := [] } : State).applyTimed a) :=
  congrArg Host.Outcome.next (State.runDue_of_single hs hd (by simp [hk]))

section
variable {a : Timed} {r : Nat} (hr : a.ring = some r) (hl : a.lost = false)
include hr hl

theorem State.applyTimed_of_nop (hk : a.kind = .nop) (s : State) :
    s.applyTimed a = s.finish r a.tag a.opcode a.okStatus 0 := by
  simp [State.applyTimed, hk, State.endTimed_of_ring hr hl]

theorem State.applyTimed_of_regWrite {o : Nat} {v m : Word} (hk : a.kind = .regWrite o v m) (s : State) :
    s.applyTimed a = (s.writeReg .bar0 o (s.maskedWord o v m)).finish r a.tag a.opcode a.okStatus 0 := by
  simp [State.applyTimed, hk, State.endTimed_of_ring hr hl]

end

/-! ## Completions (R353, R357) -/

/-- A completion whose ring is enabled is written there, and the completion ring moves on. -/
theorem State.writeCpl_of_enabled {k : Cpl} (he : (s.ring (4 + k.ring)).en = true) :
    s.writeCpl k = (s.landed k.ring).pushRing (4 + k.ring) 16
      (cplEntry k (s.ring (4 + k.ring)).prod (s.ringSize (4 + k.ring))) := by
  have hr : (s.landed k.ring).ring (4 + k.ring) = s.ring (4 + k.ring) := by
    rw [State.landed, State.ring_setRing, if_neg (by omega)]
  simp only [State.writeCpl, hr, he, if_true]
  rfl

/-- The completion that waits alone goes to its ring, which moves on; no register and no memory changes. -/
theorem State.writeCpls_of_single {k : Cpl} (ht : s.traffic = true) (hc : s.hif.cpls = [k])
    (he : (s.ring (4 + k.ring)).en = true) :
    s.writeCpls.hif.cpls = [] ∧ (s.writeCpls.ring (4 + k.ring)).prod = ((s.ring (4 + k.ring)).prod + 1) % 2 ^ 32 ∧
    s.writeCpls.outbox = s.outbox ++ [.hostWrite
      (s.ringBase (4 + k.ring) + (s.ring (4 + k.ring)).prod % s.ringSize (4 + k.ring) * 16)
      (cplEntry k (s.ring (4 + k.ring)).prod (s.ringSize (4 + k.ring)))] ∧
    s.SameButHost s.writeCpls := by
  have hw : s.writeCpls = (s.setHif fun h => { h with cpls := [] }).writeCpl k := by simp [State.writeCpls, ht, hc]
  have hr : ((s.setHif fun h => { h with cpls := [] }).landed k.ring).ring (4 + k.ring) = s.ring (4 + k.ring) := by
    rw [State.landed, State.ring_setRing, if_neg (by omega)]
    rfl
  rw [hw, State.writeCpl_of_enabled (s := s.setHif fun h => { h with cpls := [] }) he]
  refine ⟨rfl, ?_, ?_, ?_⟩
  · rw [State.pushRing, State.ring_setRing, if_pos rfl, hr]
  · rw [State.pushRing, hr]; rfl
  · exact ((State.setHif_sameButHost _ _).trans (State.setRing_sameButHost _ _ _)).trans (State.pushRing_sameButHost _ _ _ _)

/-! ## The statement -/

/-- Settles O50: in each clause the operation's own law above says what the command does, once its ring may parse it or its tick has
come. -/
theorem hostCommandsAreCarriedOut : Obligations.HostCommandsAreCarriedOut := by
  unfold Obligations.HostCommandsAreCarriedOut
  intro c s a k off v m
  have len {n : Nat} (h4 : 4 ≤ n) (hm : n ≤ 0x4000000) (hmod : n % 4 = 0) : copyLenOk n = true :=
    (copyLenOk_iff n).2 ⟨h4, hm, hmod⟩
  have range {x n : Nat} (hlo : 0x400000000 ≤ x) (hhi : x + n ≤ s.dramLimit) : (s.takeCmd c.ring).copyRange x n = true :=
    (s.takeCmd_copyRange _ _ _).trans ((s.copyRange_iff x n).2 ⟨hlo, hhi⟩)
  have out {x n : Nat} (h : s.dramLimit < x + n) : (s.takeCmd c.ring).copyRange x n = false :=
    (s.takeCmd_copyRange _ _ _).trans (Bool.eq_false_iff.2 fun hr => Nat.not_le.2 h ((s.copyRange_iff x n).1 hr).2)
  refine ⟨⟨fun ht h0 he hm hp => ?_, fun ht h0 he hm hp => ?_, fun ht hm => ?_, fun ht h0 he hm hp ho ha => ?_,
    fun h0 hd h4 hm hmod => ⟨fun hlo hhi => ⟨fun hb ht => ?_, fun ht => ?_, fun hb ht => ?_, fun hb ht => ?_⟩,
      fun hhi => ⟨fun ht => ?_, fun ht => ?_⟩⟩,
    fun h0 hd hn hr => ⟨fun ht => ?_, fun ht => ?_⟩, fun ht h0 => ?_, fun ht h0 ha ho hh hq hs hu => ?_, fun ho hp => ?_⟩,
    fun hs hd hr hl => ⟨fun hk => ?_, fun hk => ?_⟩, fun ht hc hk he => ?_⟩
  -- NOP: in time, too late, too far ahead
  · rw [exec_nop, State.timedOr_of_in_time ht h0 he hm (State.scheduleOr_of_room hp _ _ _ _)]
  · rw [exec_nop]
    split
    · next hl => rw [State.timedOr_of_late_rejected ht h0 he hm hl]; rfl
    · next hl => rw [State.timedOr_of_late ht h0 he hm hl (State.scheduleOr_of_room hp _ _ _ _)]
  · rw [exec_nop, State.timedOr_of_far ht hm]; rfl
  -- REG_WRITE
  · rw [exec_regWrite ho ha, State.timedOr_of_in_time ht h0 he hm (State.scheduleOr_of_room hp _ _ _ _)]
  -- copies with the DRAM target ready: within the range, and beyond it
  · rw [exec_copyIn, State.copy_of_ready ht h0 hd, State.copyIn_of_range (len h4 hm hmod) (range hlo hhi),
      State.store_of_no_bad (by simpa using hb)]
  · rw [exec_copyIn, State.copy_of_ready ht h0 hd, State.copyIn_of_range (len h4 hm hmod) (range hlo hhi)]
  · rw [exec_copyOut, State.copy_of_ready ht h0 hd, State.copyOut_of_range (len h4 hm hmod) (range hlo hhi) hb]
  · rw [exec_copyOut, State.copy_of_ready ht h0 hd, State.copyOut_of_bad_word (len h4 hm hmod) (range hlo hhi) hb]
  · rw [exec_copyIn, State.copy_of_ready ht h0 hd, State.copyIn_of_bad_range (len h4 hm hmod) (out hhi)]
  · rw [exec_copyOut, State.copy_of_ready ht h0 hd, State.copyOut_of_bad_range (len h4 hm hmod) (out hhi)]
  -- copies that wait
  · rw [exec_copyIn, State.copy_of_not_ready ht h0 hd hn hr]
  · rw [exec_copyOut, State.copy_of_not_ready ht h0 hd hn hr]
  -- FLT_ACK, TWI_XFER, BAD_OPCODE
  · exact congrArg Host.Outcome.next (State.untimed_of_takes ht h0)
  · exact ⟨_, congrArg Host.Outcome.next (State.twiXfer_of_idle ht h0 ha ho hh hq hs hu), State.twiXfer_started hq⟩
  · exact congrArg Host.Outcome.next (if_neg (by simp [ho, hp]))
  -- the timed commands that fall due
  · rw [exec_timedCommandEffect_of_single hs hd (by rw [hk]; rfl), State.applyTimed_of_nop hr hl hk]; rfl
  · rw [exec_timedCommandEffect_of_single hs hd (by rw [hk]; rfl), State.applyTimed_of_regWrite hr hl hk]; rfl
  -- the completion that waits
  · obtain ⟨hcpl, hprod, hout, hh⟩ := State.writeCpls_of_single ht hc he
    exact ⟨_, rfl, hcpl, hprod, hout, fun o _ => hh.reg o, hh.mem⟩

end Sys2Proof.Machine
end

section
/-!
PROOFS. Slot X: sums, logic, shifts and the sign count (R97, R99, R123).
-/

namespace Sys2Proof.Machine

/-! ## The ALU's commands -/

section
variable (s : State) (e : Eng) (d a b : BitVec 4) (imm : BitVec 10) (sh : BitVec 5) (last : Bool)

theorem exec_add : exec (.add e d a b last) s = .next (s.alu e d.toNat last fun g => aluAdd (g.dv a.toNat) (g.dv b.toNat)) := rfl
theorem exec_sub : exec (.sub e d a b last) s = .next (s.alu e d.toNat last fun g => aluSub (g.dv a.toNat) (g.dv b.toNat)) := rfl
theorem exec_neg : exec (.neg e d a last) s = .next (s.alu e d.toNat last fun g => aluNeg (g.dv a.toNat)) := rfl
theorem exec_abs : exec (.abs e d a last) s = .next (s.alu e d.toNat last fun g => aluAbs (g.dv a.toNat)) := rfl
theorem exec_addi : exec (.addi e d a imm last) s =
    .next (s.alu e d.toNat last fun g => aluAdd (g.dv a.toNat) (imm.signExtend 32)) := rfl
theorem exec_cmp : exec (.cmp e a b last) s = .next (s.aluCmp e last fun g => aluSub (g.dv a.toNat) (g.dv b.toNat)) := rfl
theorem exec_cmpi : exec (.cmpi e a imm last) s =
    .next (s.aluCmp e last fun g => aluSub (g.dv a.toNat) (imm.signExtend 32)) := rfl
theorem exec_asr : exec (.asr e d a b last) s =
    .next (s.alu e d.toNat last fun g => aluAsr (g.dv a.toNat) (shAmt (g.dv b.toNat))) := rfl
theorem exec_lsr : exec (.lsr e d a b last) s =
    .next (s.alu e d.toNat last fun g => aluLsr (g.dv a.toNat) (shAmt (g.dv b.toNat))) := rfl
theorem exec_lsl : exec (.lsl e d a b last) s =
    .next (s.alu e d.toNat last fun g => aluLsl (g.dv a.toNat) (shAmt (g.dv b.toNat))) := rfl
theorem exec_asri : exec (.asri e d a sh last) s = .next (s.alu e d.toNat last fun g => aluAsr (g.dv a.toNat) sh.toNat) := rfl
theorem exec_lsri : exec (.lsri e d a sh last) s = .next (s.alu e d.toNat last fun g => aluLsr (g.dv a.toNat) sh.toNat) := rfl
theorem exec_lsli : exec (.lsli e d a sh last) s = .next (s.alu e d.toNat last fun g => aluLsl (g.dv a.toNat) sh.toNat) := rfl

end

section
variable {s : State} {e d : Nat} {last : Bool} {r : Engine → Alu} {q : Alu}

/-! ## Results of ALU operations on their way (R93, R105) -/

theorem toFlags_eq_flagsOut (q : Alu) : toFlags q = flagsOut q.val q.c q.v := by
  simp only [toFlags, flagsOut, Alu.z, Alu.n, BitVec.msb_eq_toInt]

theorem toAlu_eq_aluOut (d : Nat) (q : Alu) : toAlu d q = aluOut d q.val q.c q.v := by
  rw [toAlu, aluOut, toFlags_eq_flagsOut]

/-- An ALU slot sends the value and the flags of the result that its operation computes. -/
theorem State.alu_of_issues (h : s.Issues e [d])
    (hr : r { s.engine e with named := (s.engine e).named ++ [d], partway := true } = q) :
    s.alu e d last r = s.slot e [d] (aluOut d q.val q.c q.v) last := by
  rw [State.alu, State.issueFly_of_issues h, toAlu_eq_aluOut, hr]

/-- A compare sends flags alone. -/
theorem State.aluCmp_of_issues (h : s.Issues e [])
    (hr : r { s.engine e with named := (s.engine e).named ++ [], partway := true } = q) :
    s.aluCmp e last r = s.slot e [] (flagsOut q.val q.c q.v) last := by
  rw [State.aluCmp, State.issueFly_of_issues h, toFlags_eq_flagsOut, hr]

end

/-! ## Sums (R99) -/

/-- A sum differs from its 32-bit reading just where it does not fit. -/
theorem ne_bmod_eq_not_fits (i : Int) :
    decide (i ≠ i.bmod (2 ^ 32)) = !decide (-2147483648 ≤ i ∧ i ≤ 2147483647) := by
  rw [← decide_not]
  exact decide_eq_decide.2 (by rw [Int.bmod_def]; omega)

theorem aluAdd_eq (x y : Word) : aluAdd x y = ⟨x + y, decide (2 ^ 32 ≤ x.toNat + y.toNat),
    !decide (-2147483648 ≤ x.toInt + y.toInt ∧ x.toInt + y.toInt ≤ 2147483647)⟩ := by
  rw [aluAdd, BitVec.toInt_add, ne_bmod_eq_not_fits]

theorem aluSub_eq (x y : Word) : aluSub x y = ⟨x - y, decide (x.toNat < y.toNat),
    !decide (-2147483648 ≤ x.toInt - y.toInt ∧ x.toInt - y.toInt ≤ 2147483647)⟩ := by
  rw [aluSub, BitVec.toInt_sub, ne_bmod_eq_not_fits]

/-- Negation borrows but for 0, and does not fit for the least value alone. -/
theorem aluNeg_eq (x : Word) : aluNeg x = ⟨-x, decide (x ≠ 0), decide (x = 0x80000000#32)⟩ := by
  have hc : decide ((0 : Word).toNat < x.toNat) = decide (x ≠ 0) := decide_eq_decide.2 (by bv_omega)
  have h0 : (0 : Word).toInt = 0 := rfl
  have hv : (!decide (-2147483648 ≤ (0 : Word).toInt - x.toInt ∧ (0 : Word).toInt - x.toInt ≤ 2147483647)) =
      decide (x = 0x80000000#32) := by
    rw [← decide_not]
    exact decide_eq_decide.2 (by rw [h0, BitVec.toInt_eq_toNat_cond]; bv_omega)
  rw [aluNeg, aluSub_eq, hc, hv, BitVec.ofNat_eq_ofNat, BitVec.zero_sub]

/-- Settles O20: each operation is the ALU function of its operands, whose flags are those of the exact result. -/
theorem aluSumsAndCompares : Obligations.AluSumsAndCompares := by
  unfold Obligations.AluSumsAndCompares
  intro e d a b imm last s x y k fits
  have himm : k.toInt = imm.toInt := BitVec.toInt_signExtend_of_le (by omega)
  refine ⟨fun h => ⟨?_, ?_, ?_, ?_⟩, fun h => ⟨?_, ?_⟩⟩
  · rw [exec_add, State.alu_of_issues h (aluAdd_eq x y)]
  · rw [exec_sub, State.alu_of_issues h (aluSub_eq x y)]
  · rw [exec_neg, State.alu_of_issues h (aluNeg_eq x)]
  · rw [exec_addi, State.alu_of_issues h (aluAdd_eq x k), himm]
  · rw [exec_cmp, State.aluCmp_of_issues h (aluSub_eq x y)]
  · rw [exec_cmpi, State.aluCmp_of_issues h (aluSub_eq x k), himm]

/-! ## Logic and constants (R99, R136) -/

/-- The absolute value of 0x8000_0000 is itself, and v is set for it alone. -/
theorem aluAbs_eq (x : Word) : aluAbs x = ⟨if x.toInt < 0 then -x else x, false, decide (x = 0x80000000#32)⟩ := by
  simp only [aluAbs, BitVec.msb_eq_toInt, decide_eq_true_eq]
  rfl

/-- Settles O21: a logical result carries neither c nor v; ABS alone gives v, for the value that has no absolute value. -/
theorem aluLogicAndConstants : Obligations.AluLogicAndConstants := by
  unfold Obligations.AluLogicAndConstants
  intro e d a b imm w last s h x y out
  have logic (r : Engine → Alu) (v : Word)
      (hr : r { s.engine e with named := (s.engine e).named ++ [d.toNat], partway := true } = aluLogic v) :
      Host.Outcome.next (s.alu e d.toNat last r) = out v := by rw [State.alu_of_issues h hr]; rfl
  refine ⟨?_, ?_, ?_, ?_, ?_, ?_, ?_, ?_, ?_, ?_⟩
  · exact logic (fun g => aluLogic (g.dv a.toNat &&& g.dv b.toNat)) _ rfl
  · exact logic (fun g => aluLogic (g.dv a.toNat ||| g.dv b.toNat)) _ rfl
  · exact logic (fun g => aluLogic (g.dv a.toNat ^^^ g.dv b.toNat)) _ rfl
  · exact logic (fun g => aluLogic (~~~g.dv a.toNat)) _ rfl
  · exact logic (fun g => aluLogic (g.dv a.toNat)) _ rfl
  · exact logic (fun g => aluMin (g.dv a.toNat) (g.dv b.toNat)) _ rfl
  · exact logic (fun g => aluMax (g.dv a.toNat) (g.dv b.toNat)) _ rfl
  · exact logic (fun _ => aluLogic (imm.signExtend 32)) _ rfl
  · rw [exec_abs, State.alu_of_issues h (aluAbs_eq x)]
  · exact congrArg Host.Outcome.next (State.issueFly_of_issues h)

/-! ## Shifts (R123) -/

/-- A bit of a word in numbers: of a shift by n to the right, bit n - 1 is the last one shifted out. -/
theorem getLsbD_eq_div_mod (x : Word) (i : Nat) : x.getLsbD i = decide (x.toNat / 2 ^ i % 2 = 1) :=
  Nat.testBit_eq_decide_div_mod_eq

/-- An arithmetic shift to the right floors. -/
theorem aluAsr_eq (x : Word) (n : Nat) :
    aluAsr x n = ⟨wordI (x.toInt / 2 ^ n), decide (n ≠ 0) && decide (x.toNat / 2 ^ (n - 1) % 2 = 1), false⟩ := by
  have hv : x.sshiftRight n = wordI (x.toInt / 2 ^ n) := by
    rw [BitVec.sshiftRight_eq, Int.shiftRight_eq_div_pow, Nat.cast_pow, Nat.cast_ofNat]
  rw [aluAsr, hv, getLsbD_eq_div_mod]

theorem aluLsr_eq (x : Word) (n : Nat) :
    aluLsr x n = ⟨word (x.toNat / 2 ^ n), decide (n ≠ 0) && decide (x.toNat / 2 ^ (n - 1) % 2 = 1), false⟩ := by
  have hv : x >>> n = word (x.toNat / 2 ^ n) := by
    rw [← Nat.shiftRight_eq_div_pow, ← BitVec.toNat_ushiftRight, word, BitVec.ofNat_toNat, BitVec.setWidth_eq]
  rw [aluLsr, hv, getLsbD_eq_div_mod]

theorem aluLsl_eq (x : Word) (n : Nat) :
    aluLsl x n = ⟨word (x.toNat * 2 ^ n), decide (n ≠ 0) && decide (x.toNat / 2 ^ (32 - n) % 2 = 1), false⟩ := by
  have hv : x <<< n = word (x.toNat * 2 ^ n) := by
    rw [← Nat.shiftLeft_eq]
    exact BitVec.eq_of_toNat_eq (by simp)
  rw [aluLsl, hv, getLsbD_eq_div_mod]

/-! ## The leading-sign count (R97) -/

/-- The count reaches k just where the list's first k bits are there and equal the sign. -/
theorem le_countSign_iff (b : Bool) (l : List Bool) (k : Nat) :
    k ≤ countSign b l ↔ k ≤ l.length ∧ ∀ j < k, l[j]? = some b := by
  induction l generalizing k with
  | nil => cases k <;> simp [countSign]
  | cons a l ih =>
    cases k with
    | zero => simp
    | succ k =>
      by_cases hab : a = b
      · rw [countSign, if_pos hab, Nat.succ_le_succ_iff, ih, List.length_cons, Nat.succ_le_succ_iff, Nat.forall_lt_succ_left]
        simp [hab]
      · rw [countSign, if_neg hab, Nat.forall_lt_succ_left]
        simp [hab]

/-- The leading-sign count is the largest k of which the k bits below the sign bit equal it. -/
theorem le_lsc_iff (w : Word) {k : Nat} (hk : k ≤ 31) : k ≤ lsc w ↔ ∀ j, j < k → w.getLsbD (30 - j) = w.msb := by
  rw [lsc, le_countSign_iff]
  simp only [List.length_map, List.length_range, hk, true_and]
  refine forall₂_congr fun j hj => ?_
  rw [List.getElem?_map, List.getElem?_range (by omega), Option.map_some, Option.some_inj]

/-- Settles O22: the shifts in numbers, and the count as the longest run of sign bits. -/
theorem aluShiftsAndSignCount : Obligations.AluShiftsAndSignCount := by
  unfold Obligations.AluShiftsAndSignCount
  refine ⟨fun e d a b sh last s => ?_, fun w k hk => le_lsc_iff w hk⟩
  intro x n k asr lsr lsl
  refine ⟨fun h => ⟨?_, ?_, ?_, ?_, ?_, ?_⟩, fun h => congrArg Host.Outcome.next (State.issueFly_of_issues h)⟩
  · rw [exec_asr, State.alu_of_issues h (aluAsr_eq x n)]
  · rw [exec_lsr, State.alu_of_issues h (aluLsr_eq x n)]
  · rw [exec_lsl, State.alu_of_issues h (aluLsl_eq x n)]
  · rw [exec_asri, State.alu_of_issues h (aluAsr_eq x k)]
  · rw [exec_lsri, State.alu_of_issues h (aluLsr_eq x k)]
  · rw [exec_lsli, State.alu_of_issues h (aluLsl_eq x k)]

end Sys2Proof.Machine
end

section
/-!
PROOFS. Slot X: multiplies, accumulator moves and conversions (R92, R94 to R98, R123, R124).
-/

namespace Sys2Proof.Machine

/-! ## Products (R94, R98) -/

theorem prod_eq (x y : Word) : prod x y = 2 * (x.toInt * y.toInt) := mul_assoc _ _ _

theorem prod_add_prod (x y z w : Word) : prod x y + prod z w = 2 * (x.toInt * y.toInt + z.toInt * w.toInt) := by
  rw [prod_eq, prod_eq, mul_add]

theorem prod_sub_prod (x y z w : Word) : prod x y - prod z w = 2 * (x.toInt * y.toInt - z.toInt * w.toInt) := by
  rw [prod_eq, prod_eq, mul_sub]

/-- In place of the accumulator: the sum starts from 0. -/
theorem macTo_clear (g : Engine) (sub : Bool) (i : Nat) (p : Int) :
    macTo g sub true i p = toA i (accI (if sub then -p else p)) := by
  rw [macTo, if_pos rfl, zero_add]

/-! ## The five families (R98): `f i m` is what a form sends to accumulator i for an exact product sum m -/

section
variable {s : State} {e : Nat} {last sub clr : Bool} {f : Nat → Int → List Flight}
variable (hf : ∀ i m, macTo (s.engine e) sub clr i (2 * m) = f i m)
include hf

theorem State.mac1_of_issues {a x c : Nat} (h : s.Issues e [aName a]) :
    s.mac1 e sub clr a x c last = s.slot e [aName a]
      (f a (((s.engine e).dv x).toInt * ((s.engine e).dv c).toInt)) last := by
  rw [State.mac1, State.issueFly_of_issues h, prod_eq, ← hf]
  rfl

theorem State.mac2_of_issues {a x0 x1 c : Nat} (h : s.Issues e [aName a, aName (a + 1)]) :
    s.mac2 e sub clr a x0 x1 c last = s.slot e [aName a, aName (a + 1)]
      (f a (((s.engine e).dv x0).toInt * ((s.engine e).dv c).toInt) ++
        f (a + 1) (((s.engine e).dv x1).toInt * ((s.engine e).dv c).toInt)) last := by
  rw [State.mac2, State.issueFly_of_issues h, prod_eq, prod_eq, ← hf, ← hf]
  rfl

theorem State.mac4o_of_issues {x c : Nat} (h : s.Issues e [aName 0, aName 1, aName 2, aName 3]) :
    s.mac4o e sub clr x c last = s.slot e [aName 0, aName 1, aName 2, aName 3]
      (f 0 (((s.engine e).dv x).toInt * ((s.engine e).dv c).toInt) ++
        f 1 (((s.engine e).dv (x + 1)).toInt * ((s.engine e).dv c).toInt) ++
        f 2 (((s.engine e).dv x).toInt * ((s.engine e).dv (c + 1)).toInt) ++
        f 3 (((s.engine e).dv (x + 1)).toInt * ((s.engine e).dv (c + 1)).toInt)) last := by
  rw [State.mac4o, State.issueFly_of_issues h]
  simp only [prod_eq, ← hf]
  rfl

theorem State.mac4c_of_issues {a x c : Nat} (h : s.Issues e [aName a, aName (a + 1)]) :
    s.mac4c e sub clr a x c last = s.slot e [aName a, aName (a + 1)]
      (f a (((s.engine e).dv x).toInt * ((s.engine e).dv c).toInt - ((s.engine e).dv (x + 1)).toInt * ((s.engine e).dv (c + 1)).toInt) ++
        f (a + 1) (((s.engine e).dv x).toInt * ((s.engine e).dv (c + 1)).toInt +
          ((s.engine e).dv (x + 1)).toInt * ((s.engine e).dv c).toInt)) last := by
  rw [State.mac4c, State.issueFly_of_issues h, prod_sub_prod, prod_add_prod, ← hf, ← hf]
  rfl

theorem State.mac4j_of_issues {a x c : Nat} (h : s.Issues e [aName a, aName (a + 1)]) :
    s.mac4j e sub clr a x c last = s.slot e [aName a, aName (a + 1)]
      (f a (((s.engine e).dv x).toInt * ((s.engine e).dv c).toInt + ((s.engine e).dv (x + 1)).toInt * ((s.engine e).dv (c + 1)).toInt) ++
        f (a + 1) (((s.engine e).dv (x + 1)).toInt * ((s.engine e).dv c).toInt -
          ((s.engine e).dv x).toInt * ((s.engine e).dv (c + 1)).toInt)) last := by
  rw [State.mac4j, State.issueFly_of_issues h, prod_add_prod, prod_sub_prod, ← hf, ← hf]
  rfl

end

/-- Settles O23: one law per family, whatever the form sends to an accumulator; and what each of the four forms sends. -/
theorem multiplyFamilies : Obligations.MultiplyFamilies := by
  unfold Obligations.MultiplyFamilies
  intro e a ap x0 x1 c dp cp last s g r p d k add sub mpy mpn one two outer cplx conj out
  have hadd (i : Nat) (m : Int) : macTo g false false i (2 * m) = add i m := rfl
  have hsub (i : Nat) (m : Int) : macTo g true false i (2 * m) = sub i m := rfl
  have hmpy (i : Nat) (m : Int) : macTo g false true i (2 * m) = mpy i m := macTo_clear _ _ _ _
  have hmpn (i : Nat) (m : Int) : macTo g true true i (2 * m) = mpn i m := macTo_clear _ _ _ _
  refine ⟨fun h => ⟨?_, ?_, ?_, ?_⟩, fun h => ⟨?_, ?_, ?_, ?_, ?_, ?_, ?_, ?_, ?_, ?_, ?_, ?_⟩, fun h => ⟨?_, ?_, ?_, ?_⟩⟩
  · exact congrArg Host.Outcome.next (State.mac1_of_issues hadd h)
  · exact congrArg Host.Outcome.next (State.mac1_of_issues hsub h)
  · exact congrArg Host.Outcome.next (State.mac1_of_issues hmpy h)
  · exact congrArg Host.Outcome.next (State.mac1_of_issues hmpn h)
  · exact congrArg Host.Outcome.next (State.mac2_of_issues hadd h)
  · exact congrArg Host.Outcome.next (State.mac2_of_issues hsub h)
  · exact congrArg Host.Outcome.next (State.mac2_of_issues hmpy h)
  · exact congrArg Host.Outcome.next (State.mac2_of_issues hmpn h)
  · exact congrArg Host.Outcome.next (State.mac4c_of_issues hadd h)
  · exact congrArg Host.Outcome.next (State.mac4c_of_issues hsub h)
  · exact congrArg Host.Outcome.next (State.mac4c_of_issues hmpy h)
  · exact congrArg Host.Outcome.next (State.mac4c_of_issues hmpn h)
  · exact congrArg Host.Outcome.next (State.mac4j_of_issues hadd h)
  · exact congrArg Host.Outcome.next (State.mac4j_of_issues hsub h)
  · exact congrArg Host.Outcome.next (State.mac4j_of_issues hmpy h)
  · exact congrArg Host.Outcome.next (State.mac4j_of_issues hmpn h)
  · exact congrArg Host.Outcome.next (State.mac4o_of_issues hadd h)
  · exact congrArg Host.Outcome.next (State.mac4o_of_issues hsub h)
  · exact congrArg Host.Outcome.next (State.mac4o_of_issues hmpy h)
  · exact congrArg Host.Outcome.next (State.mac4o_of_issues hmpn h)

/-! ## Parts of accumulators (R92) -/

/-- A part takes the word's low bits; every other bit stays. -/
theorem getLsbD_accPart (x : Acc) (v : Word) {lo width i : Nat} (hi : i < 80) :
    (accPart x lo width v).getLsbD i = if lo ≤ i ∧ i < lo + width then v.getLsbD (i - lo) else x.getLsbD i := by
  simp only [accPart, BitVec.getLsbD_or, BitVec.getLsbD_and, BitVec.getLsbD_not, BitVec.getLsbD_ofNat, BitVec.getLsbD_shiftLeft,
    BitVec.getLsbD_setWidth, Nat.testBit_shiftLeft, Nat.testBit_two_pow_sub_one, hi, decide_true, Bool.true_and]
  by_cases hlo : lo ≤ i
  · by_cases hw : i < lo + width
    · simp [hlo, hw, show i - lo < width by omega, show i - lo < 80 by omega, show ¬ i < lo by omega]
    · simp [hlo, hw, show ¬ i - lo < width by omega]
  · simp [hlo]

/-- The accumulator in its parts: g bits 79:64, h bits 63:32, l bits 31:0. -/
theorem getLsbD_parts (g : BitVec 16) (h l : Word) {i : Nat} (hi : i < 80) : (g ++ h ++ l).getLsbD i =
    if i < 32 then l.getLsbD i else if i < 64 then h.getLsbD (i - 32) else g.getLsbD (i - 64) := by
  rw [BitVec.getLsbD_append, BitVec.getLsbD_append]
  by_cases hl : i < 32
  · simp [hl]
  · by_cases hh : i < 64
    · simp [hl, hh, show i - 32 < 32 by omega]
    · simp [hl, hh, show ¬ i - 32 < 32 by omega, show i - 32 - 32 = i - 64 by omega]

theorem accPart_h (x : Acc) (v : Word) : accPart x 32 32 v = x.extractLsb' 64 16 ++ v ++ x.extractLsb' 0 32 := by
  refine BitVec.eq_of_getLsbD_eq fun i hi => ?_
  rw [getLsbD_accPart _ _ hi, getLsbD_parts _ _ _ hi, BitVec.getLsbD_extractLsb', BitVec.getLsbD_extractLsb']
  grind

theorem accPart_l (x : Acc) (v : Word) : accPart x 0 32 v = x.extractLsb' 64 16 ++ x.extractLsb' 32 32 ++ v := by
  refine BitVec.eq_of_getLsbD_eq fun i hi => ?_
  rw [getLsbD_accPart _ _ hi, getLsbD_parts _ _ _ hi, BitVec.getLsbD_extractLsb', BitVec.getLsbD_extractLsb']
  grind

theorem accPart_g (x : Acc) (v : Word) :
    accPart x 64 16 v = v.extractLsb' 0 16 ++ x.extractLsb' 32 32 ++ x.extractLsb' 0 32 := by
  refine BitVec.eq_of_getLsbD_eq fun i hi => ?_
  rw [getLsbD_accPart _ _ hi, getLsbD_parts _ _ _ hi, BitVec.getLsbD_extractLsb', BitVec.getLsbD_extractLsb',
    BitVec.getLsbD_extractLsb']
  grind

/-- Settles O24: each move is one sending of results; a part replaced leaves the two others. -/
theorem accumulatorMoves : Obligations.AccumulatorMoves := by
  unfold Obligations.AccumulatorMoves
  intro e a b d dp ap last s g p up out
  have fly {names : List Nat} {f : Engine → List Flight} (h : s.Issues e names) :=
    congrArg (Host.Outcome.next (φ := Fault) (ρ := Refusal)) (State.issueFly_of_issues (last := last) (f := f) h)
  refine ⟨fun h => ?_, fun h => ⟨fly h, fly h⟩, fun h => fly h, fun h => ⟨fly h, fly h, fly h⟩⟩
  intro set old w
  refine ⟨fly h, fly h, fly h, fly h, fly h, fly h, ?_, ?_, ?_⟩
  · rw [← accPart_h]
    exact fly h
  · rw [← accPart_l]
    exact fly h
  · rw [← accPart_g]
    exact fly h

/-! ## Conversions (R96) -/

theorem sat32_eq (i : Int) : sat32 i = max (-2147483648) (min 2147483647 i) := by
  rw [sat32]
  split_ifs <;> omega

theorem sat32_ne_iff (i : Int) : sat32 i ≠ i ↔ i < -2147483648 ∨ 2147483647 < i := by
  rw [sat32_eq]
  omega

/-- What a conversion sends: the limited value, sat where the limit took effect, and with bx_en the sign count. -/
theorem toConv_eq (g : Engine) (d : Nat) (a : Acc) (sc : Int) :
    toConv g d a sc = toD d (wordI (max (-2147483648) (min 2147483647 (convRaw a.toInt sc)))) 2
      ++ (if convRaw a.toInt sc < -2147483648 ∨ 2147483647 < convRaw a.toInt sc then [⟨2, Dst.sat⟩] else [])
      ++ (if g.es.getLsbD 5 then
        [⟨2, Dst.bexp (lsc (wordI (max (-2147483648) (min 2147483647 (convRaw a.toInt sc)))))⟩] else []) := by
  simp only [toConv, convert, convSat, sat32_eq, ← sat32_ne_iff, decide_eq_true_eq, Engine.esBit]

/-- Settles O25: the conversion's raw value is the floor of R96, and its saturation the limit. -/
theorem conversionRoundsAndSaturates : Obligations.ConversionRoundsAndSaturates := by
  unfold Obligations.ConversionRoundsAndSaturates
  intro e d a dp ap sc last s g p raw conv
  have hconv (d i : Nat) : toConv g d (g.asv i) sc.toInt = conv d i := toConv_eq _ _ _ _
  refine ⟨fun h => ?_, fun h => ?_⟩
  · rw [← hconv]
    exact congrArg Host.Outcome.next (State.issueFly_of_issues h)
  · rw [← hconv, ← hconv]
    exact congrArg Host.Outcome.next (State.issueFly_of_issues h)

end Sys2Proof.Machine
end

section
/-!
PROOFS. Addressing: circular and bit-reversed pointers (R100, R101, R103).
-/

namespace Sys2Proof.Machine

/-! ## Circular pointers (R101) -/

/-- The pointer's sum before it is taken modulo 2^16: one correction by the length (R101). -/
def circular (p m b len : Int) : Int :=
  if len = 0 then p + m else if b + len ≤ p + m then p + m - len else if p + m < b then p + m + len else p + m

theorem postModify_eq (p m b len : BitVec 16) :
    postModify p m b len = BitVec.ofInt 16 (circular p.toNat m.toInt b.toNat len.toNat) := by
  have h0 : len = 0 ↔ (len.toNat : Int) = 0 := by rw [← BitVec.toNat_inj]; simp
  simp only [postModify, circular, h0]

section
variable {p m b len : Int} (hlen : 0 < len) (hlo : b ≤ p) (hhi : p < b + len) (hm : m.natAbs ≤ len)
include hlen hlo hhi hm

/-- With the pointer inside the buffer and a step of at most its length, one correction leads back inside. -/
theorem circular_inside : b ≤ circular p m b len ∧ circular p m b len < b + len := by
  unfold circular
  split_ifs <;> omega

end

/-- The correction is by the length, so the offset is the sum modulo the length. -/
theorem circular_sub_emod (p m b len : Int) : (circular p m b len - b) % len = (p + m - b) % len := by
  unfold circular
  split_ifs
  · rfl
  · rw [sub_right_comm, Int.sub_emod_right]
  · rw [add_sub_right_comm, Int.add_emod_right]
  · rfl

/-- A circular pointer stays in a buffer that lies below 2^16, at the sum modulo its length. -/
theorem postModify_inside {p m b len : BitVec 16} (hlen : 0 < len.toNat) (htop : b.toNat + len.toNat ≤ 65536) (hlo : b.toNat ≤ p.toNat)
    (hhi : p.toNat < b.toNat + len.toNat) (hm : m.toInt.natAbs ≤ len.toNat) :
    b.toNat ≤ (postModify p m b len).toNat ∧ (postModify p m b len).toNat < b.toNat + len.toNat ∧
      (((postModify p m b len).toNat : Int) - b.toNat) % (len.toNat : Int) = ((p.toNat : Int) + m.toInt - b.toNat) % (len.toNat : Int) := by
  obtain ⟨hb, ht⟩ := circular_inside (p := p.toNat) (m := m.toInt) (b := b.toNat) (len := len.toNat) (by omega) (by omega) (by omega)
    (by omega)
  have hq : ((postModify p m b len).toNat : Int) = circular p.toNat m.toInt b.toNat len.toNat := by
    rw [postModify_eq, BitVec.toNat_ofInt]
    omega
  rw [← circular_sub_emod, ← hq]
  exact ⟨by omega, by omega, rfl⟩

/-! ## Bit-reversed pointers (R103) -/

/-- Reversing the low j bits is a sum over the bits set. -/
theorem revBits_eq_sum (j v : Nat) :
    revBits j v = ((List.range j).map fun i => if v.testBit i then 2 ^ (j - 1 - i) else 0).sum := by
  induction j generalizing v with
  | zero => rfl
  | succ j ih =>
    rw [revBits, ih, List.range_succ_eq_map, List.map_cons, List.sum_cons, List.map_map]
    congr 1
    · rcases Nat.mod_two_eq_zero_or_one v with h | h <;> simp [h]
    · refine congrArg List.sum (List.map_congr_left fun i _ => ?_)
      simp only [Function.comp, Nat.testBit_succ]
      congr 2
      omega

theorem revBits_lt (j v : Nat) : revBits j v < 2 ^ j := by
  induction j generalizing v with
  | zero => simp [revBits]
  | succ j ih =>
    have := ih (v / 2)
    have : v % 2 * 2 ^ j ≤ 1 * 2 ^ j := Nat.mul_le_mul_right _ (by omega)
    rw [revBits]
    omega

theorem testBit_revBits (j v i : Nat) (hi : i < j) : (revBits j v).testBit i = v.testBit (j - 1 - i) := by
  induction j generalizing v with
  | zero => omega
  | succ j ih =>
    rw [revBits, Nat.mul_comm, Nat.testBit_two_pow_mul_add _ (revBits_lt _ _)]
    split_ifs with h
    · rw [ih _ h, ← Nat.testBit_succ]
      congr 1
      omega
    · have : i = j := by omega
      subst this
      simp

/-- Reversed twice, the low bits stand again. -/
theorem revBits_revBits {j v : Nat} (hv : v < 2 ^ j) : revBits j (revBits j v) = v := by
  refine Nat.eq_of_testBit_eq fun i => ?_
  by_cases hi : i < j
  · rw [testBit_revBits _ _ _ hi, testBit_revBits _ _ _ (by omega)]
    congr 1
    omega
  · have hle : 2 ^ j ≤ 2 ^ i := Nat.pow_le_pow_right (by omega) (by omega)
    rw [Nat.testBit_lt_two_pow (lt_of_lt_of_le (revBits_lt _ _) hle), Nat.testBit_lt_two_pow (lt_of_lt_of_le hv hle)]

/-- Half the length, reversed, is 1: the carry moves by one place of the reversed index. -/
theorem revBits_half (j : Nat) : revBits (j + 1) (2 ^ j) = 1 := by
  have h : revBits (j + 1) 1 = 2 ^ j := by
    have h0 (k : Nat) : revBits k 0 = 0 := by
      induction k with
      | zero => rfl
      | succ k ih => simp [revBits, ih]
    simp [revBits, h0]
  rw [← h, revBits_revBits (Nat.one_lt_two_pow (by omega))]

theorem bitrevOk_of_pow {b len : BitVec 16} {j : Nat} (h1 : 1 ≤ j) (h14 : j ≤ 14) (hl : len.toNat = 2 ^ j) (hb : b.toNat % 2 ^ j = 0) :
    bitrevOk b len = true := by
  have h2 : 2 ^ 1 ≤ 2 ^ j := Nat.pow_le_pow_right (by omega) h1
  have hm : 2 ^ j ≤ 2 ^ 14 := Nat.pow_le_pow_right (by omega) h14
  simp only [bitrevOk, hl, Nat.log2_two_pow, hb, Bool.and_eq_true, decide_eq_true_eq, and_true]
  exact ⟨h2, hm⟩

/-- The requirement of R103 says that the length is 2^j, j from 1 to 14, and the base a multiple of it. -/
theorem exists_pow_of_bitrevOk {b len : BitVec 16} (h : bitrevOk b len = true) :
    ∃ j, 1 ≤ j ∧ j ≤ 14 ∧ len.toNat = 2 ^ j ∧ b.toNat % 2 ^ j = 0 := by
  simp only [bitrevOk, Bool.and_eq_true, decide_eq_true_eq] at h
  obtain ⟨⟨⟨h2, hm⟩, hp⟩, hb⟩ := h
  refine ⟨len.toNat.log2, ?_, ?_, hp.symm, by rwa [hp]⟩
  · exact (Nat.le_log2 (by omega)).2 h2
  · exact (Nat.pow_le_pow_iff_right (by omega)).1 (hp.trans_le hm : 2 ^ len.toNat.log2 ≤ 2 ^ 14)

theorem bitrevModify_of_pow {p m b len : BitVec 16} {j : Nat} (hl : len.toNat = 2 ^ j) : bitrevModify p m b len =
    b + BitVec.ofNat 16 (revBits j ((revBits j ((p - b).toNat % 2 ^ j) + revBits j (m.toNat % 2 ^ j)) % 2 ^ j)) := by
  simp only [bitrevModify, hl, Nat.log2_two_pow]

/-- With half the length as the modifier, the pointer at reversed index i goes on to the reversed index i + 1. -/
theorem bitrevModify_half {p m b len : BitVec 16} {i j : Nat} (h1 : 1 ≤ j) (h14 : j ≤ 14) (hl : len.toNat = 2 ^ j) (hi : i < 2 ^ j)
    (hm : m.toNat = 2 ^ (j - 1)) (hp : p = b + BitVec.ofNat 16 (revBits j i)) :
    bitrevModify p m b len = b + BitVec.ofNat 16 (revBits j ((i + 1) % 2 ^ j)) := by
  obtain ⟨k, rfl⟩ : ∃ k, j = k + 1 := ⟨j - 1, by omega⟩
  have h16 : 2 ^ (k + 1) ≤ 2 ^ 14 := Nat.pow_le_pow_right (by omega) h14
  have hlt := revBits_lt (k + 1) i
  have hoff : (p - b).toNat = revBits (k + 1) i := by
    rw [hp, add_sub_cancel_left, BitVec.toNat_ofNat, Nat.mod_eq_of_lt (by omega)]
  have hhalf : m.toNat % 2 ^ (k + 1) = 2 ^ k := by
    rw [hm, Nat.add_sub_cancel, Nat.mod_eq_of_lt (Nat.pow_lt_pow_right (by omega) (by omega))]
  rw [bitrevModify_of_pow hl, hoff, Nat.mod_eq_of_lt hlt, revBits_revBits hi, hhalf, revBits_half]

/-- Settles O27: the circular correction on integers, and bit reversal as an involution that takes half the length to 1. -/
theorem pointerModes : Obligations.PointerModes := by
  unfold Obligations.PointerModes
  intro g n k p b len modify rev
  have hmod (m len : BitVec 16) : postModify p m b len = modify m len := by
    rw [postModify_eq]
    simp only [circular, modify, Nat.cast_eq_zero]
  have hrev (j v : Nat) : rev j v = revBits j v := (revBits_eq_sum j v).symm
  simp only [hrev]
  refine ⟨rfl, rfl, fun mode hm => if_neg hm, hmod _ _, hmod _ _, ?_, fun j h1 h14 hl hb => ?_, fun hno => ?_⟩
  · rintro mode m (⟨rfl, rfl⟩ | ⟨rfl, rfl⟩) h0 ht hlo hhi hm
    · exact postModify_inside h0 ht hlo hhi hm
    · exact postModify_inside h0 ht hlo hhi hm
  · have hp : g.pAfter n .bitRev k = bitrevModify p (g.mv n) b len := if_pos (bitrevOk_of_pow h1 h14 hl hb)
    rw [hp]
    exact ⟨bitrevModify_of_pow hl, fun i hi hm hp => bitrevModify_half h1 h14 hl hi hm hp⟩
  · have hk : ¬ bitrevOk b len = true := fun h =>
      let ⟨j, h1, h14, hl, hb⟩ := exists_pow_of_bitrevOk h
      hno j h1 h14 hl hb
    exact (if_neg hk).trans (hmod _ _)

end Sys2Proof.Machine
end

section
/-!
SUPPORT. Raising a fault (R436 to R448): what it may touch, what stays, and that its source is then latched and unacknowledged.
-/

namespace Sys2Proof.Machine

/-- From `s` to `t` changes only what the fault collector and its reactions touch: the registers listed, the collector, the host
interface, the twin block, requests for a reset; and what was sent stays sent. -/
structure State.Reacts (l : List Nat) (s t : State) : Prop where
  frame : ∃ r z f h o w q n,
    t = { s with regs := r, sets := z, flt := f, hif := h, outbox := o, twn := w, warmReq := q, fresh := n }
  keeps : s.KeepsRegs t l
  sent : s.outbox ⊆ t.outbox

/-- The registers that the reaction to a fault may write: the log's, the worst class, the handover's, the two-wire controllers'
states, the counts of events and commands (R221, R242, R358, R360, R436, R443, R447, R463). -/
def reactRegs : List Nat :=
  [R.FLT_WORST, R.FLT_LOG_WP, R.FLT_LOG_OVW_CNT, R.TWN_HO_CTRL, R.TWI_C_STATUS 0, R.TWI_C_STATUS 1, R.TWI_C_STATUS 2,
    R.HIF_EVT_DROP_CNT, R.HIF_LATE_CNT, R.HIF_REJECT_CNT]

/-- The registers that raising a fault may write: beside those of the reaction the source's own bits and the counts (R436, R452). -/
def raiseRegs : List Nat :=
  reactRegs ++ [R.FLT_STATUS_LO, R.FLT_STATUS_HI, R.FLT_UNACK_LO, R.FLT_UNACK_HI, R.FLT_INJ_TAG_LO, R.FLT_INJ_TAG_HI,
    R.FLT_REAL_LO, R.FLT_REAL_HI, R.FLT_OCC_CNT, R.FLT_ESC_CNT]

namespace State.Reacts

variable {l m : List Nat} {s t u : State}

theorem refl (s : State) : Reacts l s s := ⟨⟨_, _, _, _, _, _, _, _, rfl⟩, fun _ _ => rfl, fun _ h => h⟩

theorem trans (h : Reacts l s t) (k : Reacts l t u) : Reacts l s u := by
  refine ⟨?_, fun o ho => (k.keeps o ho).trans (h.keeps o ho), fun _ hx => k.sent (h.sent hx)⟩
  obtain ⟨_, _, _, _, _, _, _, _, rfl⟩ := h.frame
  obtain ⟨_, _, _, _, _, _, _, _, rfl⟩ := k.frame
  exact ⟨_, _, _, _, _, _, _, _, rfl⟩

theorem mono (h : Reacts l s t) (hm : l ⊆ m) : Reacts m s t := ⟨h.frame, fun o ho => h.keeps o fun hl => ho (hm hl), h.sent⟩

theorem ite {c : Prop} [Decidable c] (h : c → Reacts l s t) (k : ¬c → Reacts l s u) : Reacts l s (if c then t else u) := by
  split_ifs with hc
  · exact h hc
  · exact k hc

theorem foldl {α : Type} {f : State → α → State} (as : List α) (hf : ∀ s, ∀ a ∈ as, Reacts l s (f s a)) (s : State) :
    Reacts l s (as.foldl f s) := by
  induction as generalizing s with
  | nil => exact refl s
  | cons a as ih => exact (hf s a (by simp)).trans (ih (fun s b hb => hf s b (by simp [hb])) _)

section
variable (h : Reacts l s t)
include h

theorem mem : t.mem = s.mem := by obtain ⟨_, _, _, _, _, _, _, _, rfl⟩ := h.frame; rfl
theorem clk : t.clk = s.clk := by obtain ⟨_, _, _, _, _, _, _, _, rfl⟩ := h.frame; rfl
theorem fab : t.fab = s.fab := by obtain ⟨_, _, _, _, _, _, _, _, rfl⟩ := h.frame; rfl
theorem eng : t.eng = s.eng := by obtain ⟨_, _, _, _, _, _, _, _, rfl⟩ := h.frame; rfl
theorem sram : t.sram = s.sram := by obtain ⟨_, _, _, _, _, _, _, _, rfl⟩ := h.frame; rfl
theorem engine (e : Nat) : t.engine e = s.engine e := by rw [State.engine, h.eng, State.engine]

end

/-! ## The plain updates -/

theorem of_onlyRegs (h : State.OnlyRegs l s t) : Reacts l s t := by
  refine ⟨?_, h.keeps, fun x hx => h.outbox ▸ hx⟩
  obtain ⟨_, _, rfl⟩ := h.frame
  exact ⟨_, _, _, _, _, _, _, _, rfl⟩

theorem setFlag {f : Fld} (hf : f.reg ∈ l) (s : State) (b : Bool) : Reacts l s (s.setFlag f b) := of_onlyRegs (.setFlag hf s b)
theorem setFld {f : Fld} (hf : f.reg ∈ l) (s : State) (v : Nat) : Reacts l s (s.setFld f v) := of_onlyRegs (.setFld hf s v)
theorem count {o : Nat} (ho : o ∈ l) (s : State) : Reacts l s (s.count o) := of_onlyRegs (.count ho s)

/-- Parts of the state that the reactions own may take any value, as long as what was sent stays sent. -/
theorem update {o : List Out} (f : Flt) (h : Hif) (w : Twin) (q n : Nat) (ho : s.outbox ⊆ o) :
    Reacts l s { s with flt := f, hif := h, outbox := o, twn := w, warmReq := q, fresh := n } :=
  ⟨⟨_, _, _, _, _, _, _, _, rfl⟩, fun _ _ => rfl, ho⟩

theorem setFlt (s : State) (f : Flt → Flt) : Reacts l s (s.setFlt f) := update _ _ _ _ _ (List.Subset.refl _)
theorem setHif (s : State) (f : Hif → Hif) : Reacts l s (s.setHif f) := update _ _ _ _ _ (List.Subset.refl _)
theorem setTwn (s : State) (f : Twin → Twin) : Reacts l s (s.setTwn f) := update _ _ _ _ _ (List.Subset.refl _)
theorem tick1 (s : State) : Reacts l s s.tick1 := update _ _ _ _ _ (List.Subset.refl _)
theorem emit (s : State) (x : Out) : Reacts l s (s.emit x) := update _ _ _ _ _ (List.subset_append_left _ _)
theorem setRing (s : State) (r : Nat) (x : Ring) : Reacts l s (s.setRing r x) := update _ _ _ _ _ (List.Subset.refl _)
theorem sendMsg (s : State) (c : Nat) (b : List Byte) : Reacts l s (s.sendMsg c b) := update _ _ _ _ _ (List.Subset.refl _)
theorem sendCmd (s : State) (c : Nat) (b : List Byte) : Reacts l s (s.sendCmd c b) := (tick1 s).trans (sendMsg _ _ _)
theorem pushRing (s : State) (r n : Nat) (b : List Byte) : Reacts l s (s.pushRing r n b) := (emit s _).trans (setRing _ _ _)

theorem setBit64 {lo hi : Nat} (hl : lo ∈ l) (hh : hi ∈ l) (s : State) (i : Nat) (b : Bool) : Reacts l s (s.setBit64 lo hi i b) :=
  ite (fun _ => setFlag hl _ _) (fun _ => setFlag hh _ _)

/-! ## Events and the log -/

theorem overflow (s : State) : Reacts l s s.overflow := ite (fun _ => refl s) fun _ => (pushRing _ _ _ _).trans (setHif _ _)

theorem postEvent (s : State) (ty sub : Nat) (d : List Byte) : Reacts reactRegs s (s.postEvent ty sub d) := by
  unfold State.postEvent
  refine ite (fun _ => (count (by simp [reactRegs]) s).trans (setHif _ _)) fun _ => ?_
  have h := (overflow (l := reactRegs) s).trans (pushRing _ 8 32 (eventEntry ty sub s.overflow.stamp s.overflow.tickNum d))
  exact ite (fun _ => h.trans (setHif _ _)) fun _ => h

theorem setWorst (s : State) : Reacts reactRegs s s.setWorst :=
  (setFld (by simp [reactRegs]) _ _).trans (setFlag (by simp [reactRegs]) _ _)

theorem logFault (s : State) (o : Occ) (lvl : Nat) (esc : Bool) (seq : Nat) : Reacts reactRegs s (s.logFault o lvl esc seq) := by
  unfold State.logFault
  extract_lets wp net e s1 s2 s3
  have h1 : Reacts reactRegs s s1 := ite (fun _ => count (by simp [reactRegs]) _) fun _ => refl s
  have h3 : Reacts reactRegs s s3 := (h1.trans (setFlt _ _)).trans (setFld (by simp [reactRegs]) _ _)
  exact ite (fun _ => h3.trans (setFlag (by simp [reactRegs]) _ _)) fun _ => h3

/-! ## Ownership given away -/

theorem finish (s : State) (r tag op st d : Nat) : Reacts reactRegs s (s.finish r tag op st d) :=
  (setHif s _).trans (of_onlyRegs ((s.finish_onlyRegs r tag op st d).mono (by simp [reactRegs])))

theorem twiFinish (s : State) (t : TwiCmd) (st d : Nat) : Reacts reactRegs s (s.twiFinish t st d) := by
  unfold State.twiFinish
  extract_lets s1 s2
  have h : Reacts reactRegs s s1 := setHif _ _
  exact ite (fun _ => h.trans (emit _ _)) fun _ => ite (fun _ => h) fun _ =>
    ite (fun _ => h.trans (setRing _ _ _)) fun _ => (h.trans (setRing _ _ _)).trans (finish _ _ _ _ _ _)

theorem relayTwi (s : State) (p : TwiCmd → Bool) : Reacts l s (s.relayTwi p) :=
  ite (fun _ => foldl _ (fun _ _ _ => sendMsg _ _ _) _) fun _ => refl s

theorem twiLose (s : State) : Reacts reactRegs s s.twiLose :=
  (ite (fun _ => relayTwi _ _) fun _ => refl s : Reacts reactRegs s _).trans (foldl _ (fun _ _ _ => twiFinish _ _ _ _) _)

theorem twiPins (s : State) (on : Bool) : Reacts reactRegs s (s.twiPins on) := by
  have hreg : ∀ n ∈ List.range 3, (F.TWI_C_STATUS_state n).reg ∈ reactRegs := by decide
  unfold State.twiPins
  refine (ite (fun _ => refl s) fun _ => (twiLose s).trans ?_ : Reacts reactRegs s _).trans (foldl _ (fun s n hn => ?_) _)
  · exact update _ _ _ _ _ (List.Subset.refl _)
  · exact ite (fun _ => setFld (hreg n hn) _ _) fun _ => ite (fun _ => setFld (hreg n hn) _ _) fun _ =>
      ite (fun _ => (setFld (hreg n hn) s 1).trans (update _ _ _ _ _ (List.Subset.refl _))) fun _ => refl s

theorem setPins (s : State) (on : Bool) : Reacts reactRegs s (s.setPins on) :=
  ite (fun _ => refl s) fun _ => ((setTwn _ _).trans (twiPins _ _)).trans (emit _ _)

theorem setOwnOut (s : State) (on : Bool) : Reacts l s (s.setOwnOut on) := ite (fun _ => refl s) fun _ => (setTwn _ _).trans (emit _ _)

theorem endHandover (s : State) (r : Nat) : Reacts reactRegs s (s.endHandover r) :=
  ((setTwn _ _).trans (setFlag (by simp [reactRegs]) _ _)).trans (setFld (by simp [reactRegs]) _ _)

theorem cancelHandover (s : State) (r : Nat) : Reacts reactRegs s (s.cancelHandover r) :=
  ite (fun _ => refl s) fun _ => ite (fun _ => endHandover _ _) fun _ =>
    (endHandover _ _).trans (ite (fun _ => refl _) fun _ => setPins _ _)

theorem releaseOwn (s : State) : Reacts reactRegs s s.releaseOwn := by
  unfold State.releaseOwn
  extract_lets s1 s2 s3
  have h : Reacts reactRegs s s3 := ((setPins _ _).trans (setOwnOut _ _)).trans (setTwn _ _)
  split
  · exact ite (fun _ => h) fun _ => h.trans (cancelHandover _ _)
  · exact h

theorem proposeHandover (s : State) (h : Nat) (late y : Bool) : Reacts reactRegs s (s.proposeHandover h late y) :=
  ((setTwn _ _).trans (setFlag (by simp [reactRegs]) _ _)).trans (sendCmd _ _ _)

theorem yieldOwn (s : State) : Reacts reactRegs s s.yieldOwn := by
  unfold State.yieldOwn
  refine ite (fun _ => releaseOwn s) fun _ => ite (fun _ => ite (fun _ => ?_) fun _ => releaseOwn s) fun _ =>
    ite (fun _ => releaseOwn s) fun _ => refl s
  split
  · exact ite (fun _ => refl s) fun _ => releaseOwn s
  · split
    · exact ite (fun _ => setTwn _ _) fun _ => proposeHandover _ _ _ _
    · exact proposeHandover _ _ _ _

/-! ## Raising -/

theorem react (s : State) (o : Occ) (lvl : Nat) : Reacts reactRegs s (s.react o lvl) := by
  unfold State.react
  extract_lets k s1 s0 s2
  have h1 : Reacts reactRegs s s1 := ite (fun _ => setFlt _ _) fun _ => refl s
  have h2 : Reacts reactRegs s s2 := ite (fun _ => (h1.trans (setFlt _ _)).trans
    (ite (fun _ => releaseOwn _) fun _ => yieldOwn _)) fun _ => h1
  exact ite (fun _ => h2.trans (update _ _ _ _ _ (List.Subset.refl _))) fun _ => h2

theorem breakRevert (s : State) (b : Bool) : Reacts l s (s.breakRevert b) := 
  ite (fun _ => update _ _ _ _ _ (List.Subset.refl _)) fun _ => refl s

end State.Reacts

/-- A bit set in a LO/HI pair reads back as set. -/
theorem State.bit64_setBit64_true (s : State) {lo hi i : Nat} (hi64 : i < 64) :
    (s.setBit64 lo hi i true).bit64 lo hi i = true := by
  have hb (w : Word) (k : Nat) (hk : k < 32) : (setBits w k k (bit true)).getLsbD k = true := by
    rw [getLsbD_setBits _ _ _ _ _ hk, if_pos ⟨le_rfl, le_rfl⟩, Nat.sub_self]
    rfl
  have hlow (x y : Word) (k : Nat) (hk : k < 32) : (x.toNat + y.toNat * 2 ^ 32).testBit k = x.getLsbD k := by
    rw [Nat.add_comm, Nat.mul_comm, Nat.testBit_two_pow_mul_add _ x.isLt, if_pos hk]; rfl
  have hhigh (x y : Word) (k : Nat) (hk : ¬ k < 32) : (x.toNat + y.toNat * 2 ^ 32).testBit k = y.getLsbD (k - 32) := by
    rw [Nat.add_comm, Nat.mul_comm, Nat.testBit_two_pow_mul_add _ x.isLt, if_neg hk]; rfl
  unfold State.setBit64 State.bit64 State.pair
  by_cases h : i < 32
  · rw [if_pos h, hlow _ _ _ h, State.reg_setFlag, State.reg_setFld, if_pos rfl]
    exact hb _ _ h
  · rw [if_neg h, hhigh _ _ _ h, State.reg_setFlag, State.reg_setFld, if_pos rfl]
    exact hb _ (i - 32) (by omega)

/-- A bit of a pair whose registers are kept reads as before. -/
theorem State.bit64_of_keeps {l : List Nat} {s t : State} (h : s.KeepsRegs t l) {lo hi : Nat} (hl : lo ∉ l) (hh : hi ∉ l) (i : Nat) :
    t.bit64 lo hi i = s.bit64 lo hi i := by
  simp only [State.bit64, State.pair, h lo hl, h hi hh]

/-- An occurrence is first noted, latched and unacknowledged; what follows leaves the sources' bits. -/
theorem State.raiseOcc_latches (s : State) (o : Occ) (ho : o.src < 64) :
    ∃ u : State, s.Reacts raiseRegs u ∧ u.latched o.src = true ∧ u.unacked o.src = true ∧ u.Reacts reactRegs (s.raiseOcc o) := by
  unfold State.raiseOcc
  extract_lets c esc lvl was r tagged s1 s2 seq s3 s4 s5 s6 s7 add r1 first logged s8 r2 posts s9
  have h1 : s.Reacts raiseRegs s1 := .ite (fun _ => .setBit64 (by decide) (by decide) _ _ _) fun _ => .refl s
  have h2 : s.Reacts raiseRegs s2 := .ite (fun _ => h1.trans (.setBit64 (by decide) (by decide) _ _ _)) fun _ => h1
  have h4 : s.Reacts raiseRegs s4 := (h2.trans (.setFlt _ _)).trans (.count (by decide) _)
  have h5 : s.Reacts raiseRegs s5 := .ite (fun _ => h4.trans (.count (by decide) _)) fun _ => h4
  have h6 : s.Reacts raiseRegs s6 := h5.trans (.setBit64 (by decide) (by decide) _ _ _)
  have h67 : s6.Reacts [R.FLT_UNACK_LO, R.FLT_UNACK_HI] s7 := .setBit64 (by decide) (by decide) _ _ _
  have h8 : s7.Reacts reactRegs s8 := .ite (fun _ => .logFault _ _ _ _ _) fun _ => .refl _
  have h9 : s7.Reacts reactRegs s9 := .ite (fun _ => (h8.trans (.postEvent _ _ _ _)).trans (.setFlt _ _)) fun _ => h8.trans (.setFlt _ _)
  refine ⟨s7, h6.trans (h67.mono (by decide)), ?_, ?_, ((h9.trans (.react _ _ _)).trans (.setWorst _)).trans (.breakRevert _ _)⟩
  · exact (State.bit64_of_keeps h67.keeps (by decide) (by decide) _).trans (s5.bit64_setBit64_true ho)
  · exact s6.bit64_setBit64_true ho

theorem State.reacts_raiseOcc (s : State) (o : Occ) (ho : o.src < 64) : s.Reacts raiseRegs (s.raiseOcc o) :=
  let ⟨_, h, _, _, k⟩ := s.raiseOcc_latches o ho
  h.trans (k.mono (List.subset_append_left _ _))

section
variable (s : State) (o : Occ) (ho : o.src < 64)
include ho

theorem State.latched_raiseOcc : (s.raiseOcc o).latched o.src = true :=
  let ⟨_, _, h, _, k⟩ := s.raiseOcc_latches o ho
  (State.bit64_of_keeps k.keeps (by decide) (by decide) _).trans h

theorem State.unacked_raiseOcc : (s.raiseOcc o).unacked o.src = true :=
  let ⟨_, _, _, h, k⟩ := s.raiseOcc_latches o ho
  (State.bit64_of_keeps k.keeps (by decide) (by decide) _).trans h

end

section
variable (s : State) {i : Nat} (d : Word) (hi : i < 64)
include hi

theorem State.reacts_raise : s.Reacts raiseRegs (s.raise i d) := s.reacts_raiseOcc _ hi

theorem State.latched_raise : (s.raise i d).latched i = true := s.latched_raiseOcc _ hi

theorem State.unacked_raise : (s.raise i d).unacked i = true := s.unacked_raiseOcc _ hi

end

end Sys2Proof.Machine
end

section
/-!
PROOFS. Slot Z: branches, repeats and the end of the task; and the task fault of a slot that has no place there (R71, R107, R108,
R127 to R130, R133).
-/

namespace Sys2Proof.Machine

/-! ## Engines -/

section
variable (s : State) (e : Nat) (g : Engine)

@[simp] theorem State.engine_setEngine_self : (s.setEngine e g).engine e = g := Tbl.get_set_self _ _ _ _

theorem State.engine_setEngine_of_ne {x : Nat} (h : e ≠ x) : (s.setEngine e g).engine x = s.engine x := Tbl.get_set_of_ne _ _ _ h

@[simp] theorem State.reg_setEngine (o : Nat) : (s.setEngine e g).reg o = s.reg o := rfl

end

section
variable {l : List Nat} {s t : State} (h : State.OnlyRegs l s t)
include h

theorem State.OnlyRegs.fab : t.fab = s.fab := by obtain ⟨_, _, rfl⟩ := h.frame; rfl
theorem State.OnlyRegs.eng : t.eng = s.eng := by obtain ⟨_, _, rfl⟩ := h.frame; rfl
theorem State.OnlyRegs.sram : t.sram = s.sram := by obtain ⟨_, _, rfl⟩ := h.frame; rfl
theorem State.OnlyRegs.engine (e : Nat) : t.engine e = s.engine e := by rw [State.engine, h.eng, State.engine]

end

/-! ## Task faults (R71) -/

/-- The late fill of a task's outputs touches the present tick's blocks alone (R66). -/
theorem State.fillOuts_changes (s : State) (i : Nat) : ∃ c, s.fillOuts i = { s with fab := { s.fab with cur := c } } := by
  unfold State.fillOuts
  split
  · exact ⟨_, rfl⟩
  next k hk =>
    clear hk
    generalize k.outs = l
    induction l generalizing s with
    | nil => exact ⟨_, rfl⟩
    | cons x l ih =>
      obtain ⟨c, h⟩ := ih (s.setFab fun f => { f with cur := Tbl.set (fun _ => []) f.cur x (s.lateBlock x k.repeatPrev) })
      exact ⟨c, h⟩

/-- The end of the graph is noted in the fabric and in two registers (R63). -/
theorem State.checkDone_changes (s : State) :
    ∃ b, State.OnlyRegs [R.FAB_LAST_CYC, R.FAB_PEAK_CYC] { s with fab := { s.fab with done := b } } s.checkDone := by
  unfold State.checkDone
  split
  · exact ⟨s.fab.done, .refl _⟩
  · exact ⟨true, .trans (.setFld (by simp) _ _) (.setFld (by simp) _ _)⟩

theorem State.reg_count_self (s : State) (o : Nat) : (s.count o).reg o = counted (s.reg o) := State.reg_put_self _ _ _

/-- A task's end as failed concerns the fabric alone: its status and its outputs' late fill. -/
theorem State.setStat_fillOuts_changes (s : State) (i : Nat) :
    ∃ f : Fab, (s.setStat i .failed).fillOuts i = (s.setFab fun _ => f) ∧ Tbl.get (fun _ => .waiting) f.stat i = .failed := by
  obtain ⟨c, h⟩ := (s.setStat i .failed).fillOuts_changes i
  exact ⟨_, h, Tbl.get_set_self (fun _ => TStat.waiting) s.fab.stat i .failed⟩

/-- An engine's task has ended as failed, with the word recorded and the fabric `f` (R71): counted, the engine free. -/
def State.failed (s : State) (e : Nat) (w : Word) (f : Fab) : State :=
  (((s.put R.FAB_FAIL_INFO w).count R.FAB_TASK_FAIL_CNT).setFab fun _ => f).stopEngine e

/-- A task fault: the task has ended as failed, source 2 is raised, and the end of the graph is noted. -/
theorem State.taskFault_eq {s : State} {e i : Nat} (h : (s.engine e).task = some i) (r : Nat) :
    ∃ (w d : Word) (f : Fab), w = word (i % 2 ^ 14 + r * 2 ^ 16 + e * 2 ^ 24) ∧ Tbl.get (fun _ => .waiting) f.stat i = .failed ∧
      s.taskFault e r = ((s.failed e w f).raise 2 d).checkDone := by
  obtain ⟨w, hw⟩ : ∃ w, w = word (i % 2 ^ 14 + r * 2 ^ 16 + e * 2 ^ 24) := ⟨_, rfl⟩
  obtain ⟨f, hf, hstat⟩ := ((s.put R.FAB_FAIL_INFO w).count R.FAB_TASK_FAIL_CNT).setStat_fillOuts_changes i
  refine ⟨w, (s.failed e w f).reg R.FAB_FAIL_INFO, f, hw, hstat, ?_⟩
  simp only [State.taskFault, h]
  rw [State.failTask, ← hw, hf]
  rfl

section
variable (s : State) (e : Nat) (w : Word) (f : Fab)

theorem State.failed_engine : ((s.failed e w f).engine e).task = none ∧ ((s.failed e w f).engine e).st = .idle :=
  ⟨congrArg Engine.task (State.engine_setEngine_self _ _ _), congrArg Engine.st (State.engine_setEngine_self _ _ _)⟩

theorem State.failed_info : (s.failed e w f).reg R.FAB_FAIL_INFO = w := (State.reg_put_of_ne _ _ (by decide)).trans (s.reg_put_self _ _)

theorem State.failed_cnt : (s.failed e w f).reg R.FAB_TASK_FAIL_CNT = counted (s.reg R.FAB_TASK_FAIL_CNT) :=
  (State.reg_count_self _ _).trans (congrArg counted (s.reg_put_of_ne _ (by decide)))

@[simp] theorem State.failed_fab : (s.failed e w f).fab = f := rfl
@[simp] theorem State.failed_mem : (s.failed e w f).mem = s.mem := rfl
@[simp] theorem State.failed_clk : (s.failed e w f).clk = s.clk := rfl

end

/-- A task fault ends the engine's task as failed, records and counts it, raises source 2, and frees the engine; raising a source and
noting the end of the graph leave the failed task as it is. -/
theorem State.taskFault_fails {s : State} {e i : Nat} (h : (s.engine e).task = some i) (r : Nat) : s.Fails (s.taskFault e r) e i r := by
  obtain ⟨w, d, f, hw, hstat, hx⟩ := State.taskFault_eq h r
  have hr := (s.failed e w f).reacts_raise d (i := 2) (by decide)
  obtain ⟨b, hd⟩ := ((s.failed e w f).raise 2 d).checkDone_changes
  have hl := (s.failed e w f).latched_raise d (i := 2) (by decide)
  have he : (s.taskFault e r).engine e = (s.failed e w f).engine e := hx ▸ (hd.engine e).trans (hr.engine e)
  rw [← hx] at hd
  exact {
    stat := by
      rw [State.stat, hd.fab]
      exact (congrArg (fun f : Fab => Tbl.get (fun _ => TStat.waiting) f.stat i) (hr.fab.trans (s.failed_fab e w f))).trans hstat
    free := he ▸ s.failed_engine e w f
    info := (hd.keeps _ (by decide)).trans ((hr.keeps _ (by decide)).trans ((s.failed_info e w f).trans hw))
    count := (hd.keeps _ (by decide)).trans ((hr.keeps _ (by decide)).trans (s.failed_cnt e w f))
    raised := (State.bit64_of_keeps hd.keeps (by decide) (by decide) 2).trans hl
    mem := hd.mem.trans (hr.mem.trans (s.failed_mem e w f))
    clk := hd.clk.trans (hr.clk.trans (s.failed_clk e w f)) }

/-! ## Slots that neither a delay slot nor a repetition may hold (R107, R108) -/

section
variable {s : State} {e : Nat} {last ok : Bool} {f : Engine → Engine}

/-- In a bundle that is neither, such a slot changes its engine, and closes the bundle where it is the last. -/
theorem State.issueCtl_of_free (h : s.Issues e []) (hf : (s.engine e).Free) :
    s.issueCtl e last true f = (s.setEngine e (f { s.engine e with partway := true })).close e last := by
  have hn : (s.engine e).named ++ [] = (s.engine e).named := List.append_nil _
  simp only [State.issueCtl, hf.delay, hf.repeats, Bool.not_false, Bool.and_self, State.issue_of_issues h, hn]

/-- In one of the two it is illegal: a task fault with reason 0x1. -/
theorem State.issueCtl_of_forbidden (h : s.Issues e []) (hf : (s.engine e).inDelay = true ∨ (s.engine e).repeating = true) :
    s.issueCtl e last ok f = s.taskFault e 1 := by
  have hbad : (ok && !(s.engine e).inDelay && !(s.engine e).repeating) = false := by
    rcases hf with hf | hf <;> simp [hf]
  simp [State.issueCtl, hbad, State.issue, h.runs, h.clean]

end

section
variable (s : State) (e : Eng) (target n1 : BitVec 12) (cond : Cond) (off : BitVec 9) (r : BitVec 4) (last : Bool)

theorem exec_b : exec (.b e target last) s = .next (s.issueCtl e last true fun g => g.branch (some target.toNat)) := rfl
theorem exec_bcc : exec (.bcc e cond off last) s = .next (s.issueCtl e last (cond ≠ 0xF) fun g =>
    g.branch (if condHolds g.esBr cond then some ((g.pc : Int) + off.toInt) else none)) := rfl
theorem exec_lbr : exec (.lbr e target last) s = .next (s.issueCtl e last true fun g =>
    (g.fly [⟨3, .lcDec (g.lc - 1)⟩]).branch (if g.lc - 1 ≠ 0 then some target.toNat else none)) := rfl
theorem exec_br : exec (.br e r last) s = .next (s.issueCtl e last true fun g =>
    g.branch (some ((g.dBrv r.toNat).toNat % 4096 : Nat))) := rfl
theorem exec_rte : exec (.rte e last) s = .next (s.issueCtl e last true fun g =>
    { g.fly [⟨1, .es g.ees⟩] with es := setBits g.es 19 19 (bit (g.ees.getLsbD 19)), branched := true, taken := some g.epc.toNat }) := rfl
theorem exec_rpt : exec (.rpt e n1 last) s = .next (s.issueCtl e last true fun g => { g with rpt := some (n1.toNat + 1) }) := rfl
theorem exec_rptr : exec (.rptr e r last) s =
    .next (s.issueCtl e last (((s.engine e).dBrv r.toNat).toNat % 2 ^ 13 ≠ 0 && ((s.engine e).dBrv r.toNat).toNat % 2 ^ 13 ≤ 4096)
      fun g => { g with rpt := some (((s.engine e).dBrv r.toNat).toNat % 2 ^ 13) }) := rfl
theorem exec_tend : exec (.tend e last) s = .next (s.issueCtl e last true fun g => { g with tend := true }) := rfl

end

/-! ## DMAQ and DMAW -/

/-- The transfer that DMAQ asks for with its operands (R131). -/
def Engine.asked (g : Engine) (dir : Bool) (a b u : BitVec 4) : Xfer :=
  { out := dir, off := (g.dv a.toNat).toNat, loc := (g.dv b.toNat).toNat % 2 ^ 16, count := (g.dv u.toNat).toNat % 2 ^ 13 }

/-- The reason for which the transfer asked for fails (R131). -/
def State.askedBad (s : State) (g : Engine) (x : Xfer) : Option Nat :=
  match g.task.bind s.task? with
  | some k => s.dmaBad k x.out x.off x.loc x.count
  | none => none

section
variable {s : State} {e : Eng} {k : BitVec 2} {dir last : Bool} {a b u : BitVec 4}

/-- DMAQ that need not wait: the transfer joins the queue, unless it is bad or the bundle may not hold it (R131). -/
theorem exec_dmaq_of_not_stalled (h : (s.engine e).inDelay = true ∨ (s.engine e).dma.length < 4) :
    exec (.dmaq e dir a b u last) s = .next (s.issueS e last (!(s.engine e).inDelay && !(s.engine e).repeating) []
      (s.askedBad (s.engine e) ((s.engine e).asked dir a b u))
      fun t => t.setEngine e { t.engine e with dma := (t.engine e).dma ++ [(s.engine e).asked dir a b u] }) := by
  refine congrArg Host.Outcome.next (if_neg ?_)
  rcases h with h | h <;> simp [h]

/-- DMAW goes on, or may not stand where it does. -/
theorem exec_dmaw_of_not_stalled
    (h : (s.engine e).inDelay = true ∨ (s.engine e).repeating = true ∨ (s.engine e).dma.length ≤ k.toNat) :
    exec (.dmaw e k last) s = .next (s.issueCtl e last true id) := by
  refine congrArg Host.Outcome.next (if_neg ?_)
  rcases h with h | h | h <;> simp [h]

/-- An illegal slot of a bundle without an earlier fault is a task fault with reason 0x1 (R117). -/
theorem State.issueS_of_illegal {names : List Nat} {bad : Option Nat} {f : State → State} (h : s.Issues e names) :
    s.issueS e last false names bad f = s.taskFault e 1 := by
  simp [State.issueS, h.runs, h.clean]

end

/-- LBR's decrement is 0 just where LC is 1. -/
theorem sub_one_ne_zero_iff (x : BitVec 16) : x - 1 ≠ 0 ↔ x ≠ 1 := by rw [ne_eq, sub_eq_zero]

/-- Settles O28: in a delay slot or a repetition each is a task fault; elsewhere each is its change of the engine. -/
theorem branchesAndRepeats : Obligations.BranchesAndRepeats := by
  unfold Obligations.BranchesAndRepeats
  intro e target cond off r n1 last s h g
  refine ⟨fun i hi => ⟨fun hf => ?_, fun hd => ?_⟩, fun hf => ?_⟩
  · have bad (ok : Bool) (f : Engine → Engine) : s.Fails (s.issueCtl e last ok f) e i 1 := by
      rw [State.issueCtl_of_forbidden h hf]
      exact State.taskFault_fails hi 1
    simp only [List.forall_mem_cons]
    refine ⟨⟨_, exec_b .., bad _ _⟩, ⟨_, exec_bcc .., bad _ _⟩, ⟨_, exec_lbr .., bad _ _⟩, ⟨_, exec_br .., bad _ _⟩,
      ⟨_, exec_rte .., bad _ _⟩, ⟨_, exec_rpt .., bad _ _⟩, ⟨_, exec_rptr .., bad _ _⟩, ⟨_, exec_tend .., bad _ _⟩,
      ⟨_, exec_dmaw_of_not_stalled (hf.imp_right .inl), bad _ _⟩,
      fun _ hc => absurd hc List.not_mem_nil⟩
  · refine ⟨_, (exec_dmaq_of_not_stalled (.inl hd)).trans ?_, State.taskFault_fails hi 1⟩
    have hok : (!(s.engine e).inDelay && !(s.engine e).repeating) = false := by rw [hd]; rfl
    rw [hok, State.issueS_of_illegal h]
  · intro out
    refine ⟨?_, fun hc => ?_, ?_, ?_, ?_, ?_, fun h1 h2 => ?_, ?_⟩
    · exact (exec_b ..).trans (congrArg Host.Outcome.next (State.issueCtl_of_free h hf))
    · rw [exec_bcc, decide_eq_true hc]
      exact congrArg Host.Outcome.next (State.issueCtl_of_free h hf)
    · rw [exec_lbr]
      simp only [sub_one_ne_zero_iff, ite_not]
      exact congrArg Host.Outcome.next (State.issueCtl_of_free h hf)
    · exact (exec_br ..).trans (congrArg Host.Outcome.next (State.issueCtl_of_free h hf))
    · exact (exec_rte ..).trans (congrArg Host.Outcome.next (State.issueCtl_of_free h hf))
    · exact (exec_rpt ..).trans (congrArg Host.Outcome.next (State.issueCtl_of_free h hf))
    · have hok : (((s.engine e).dBrv r.toNat).toNat % 2 ^ 13 ≠ 0 && ((s.engine e).dBrv r.toNat).toNat % 2 ^ 13 ≤ 4096) = true := by
        rw [Bool.and_eq_true, decide_eq_true_eq, decide_eq_true_eq]
        exact ⟨Nat.pos_iff_ne_zero.1 h1, h2⟩
      rw [exec_rptr, hok]
      exact congrArg Host.Outcome.next (State.issueCtl_of_free h hf)
    · exact (exec_tend ..).trans (congrArg Host.Outcome.next (State.issueCtl_of_free h hf))

end Sys2Proof.Machine
end

section
/-!
PROOFS. Slot Z: moves, task DMA and mailboxes (R88, R89, R109, R113, R127, R131, R132, R134, R135).
-/

namespace Sys2Proof.Machine

/-! ## Moves (R127, R135) -/

section
variable (s : State) (e : Eng) (dst src : BitVec 6) (d : BitVec 4) (n : BitVec 3) (i7 : BitVec 7) (i10 : BitVec 10) (last : Bool)

theorem exec_movr : exec (.movr e dst src last) s =
    .next (State.issue (if (s.engine e).openRead src.toNat then s.tick1 else s) e last (destOk dst.toNat && codeOk src.toNat) [dst.toNat]
      fun g => g.fly (moveTo dst.toNat (g.moveRead src.toNat (Config.freeWord s.fresh)))) := rfl
theorem exec_moviz : exec (.moviz e dst i7 last) s =
    .next (s.issue e last (destOk dst.toNat) [dst.toNat] fun g => g.fly (moveTo dst.toNat (i7.signExtend 32))) := rfl
theorem exec_adda : exec (.adda e n i10 last) s =
    .next (s.issueFly e last [0x10 + n.toNat] fun g => [⟨3, .p n.toNat (g.pv n.toNat + i10.signExtend 16)⟩]) := rfl
theorem exec_dmas : exec (.dmas e d last) s = .next (s.issueFly e last [d.toNat] fun g => toD d.toNat (word g.dma.length) 1) := rfl

end

theorem destOk_of_le {c : Nat} (h : c ≤ 0x35) (h1 : c ≠ 0x31) (h3 : c ≠ 0x33) : destOk c = true := by
  simp [destOk, codeOk, h, h1, h3]

section
variable {s : State} {e : Eng} {dst src : BitVec 6} {last : Bool}
variable (h : s.Issues e [dst.toNat]) (hd : destOk dst.toNat = true) (hs : src.toNat ≤ 0x35)
include h hd hs

/-- A move sends what its source reads as. -/
theorem exec_movr_of_fixed (ho : (s.engine e).openRead src.toNat = false) :
    exec (.movr e dst src last) s = .next (s.slot e [dst.toNat] (moveTo dst.toNat ((s.engine e).readCode src.toNat)) last) := by
  have hr : (s.engine e).moveRead src.toNat (Config.freeWord s.fresh) = (s.engine e).readCode src.toNat := by simp [Engine.moveRead, ho]
  rw [exec_movr, ho, hd, codeOk, decide_eq_true hs, ← hr]
  exact congrArg Host.Outcome.next (State.issueFly_of_issues h)

/-- Of what R105 leaves open it sends a free value. -/
theorem exec_movr_of_open (ho : (s.engine e).openRead src.toNat = true) :
    exec (.movr e dst src last) s = .next (s.tick1.slot e [dst.toNat]
      (moveTo dst.toNat ((s.engine e).moveRead src.toNat (Config.freeWord s.fresh))) last) := by
  have ht : s.tick1.Issues e [dst.toNat] := ⟨h.runs, h.clean, h.single⟩
  rw [exec_movr, ho, hd, codeOk, decide_eq_true hs]
  exact congrArg Host.Outcome.next (State.issueFly_of_issues ht)

end

/-! ## Task DMA (R88, R89, R131, R132) -/

section
variable {s : State} {e : Nat} {x : Xfer} {xs : List Xfer}

/-- A slot that changes the state, in a bundle without an earlier fault and without a bad operand. -/
theorem State.issueS_of_issues {last : Bool} {names : List Nat} {f : State → State} (h : s.Issues e names) :
    s.issueS e last true names none f =
      (f (s.setEngine e { s.engine e with named := (s.engine e).named ++ names, partway := true })).close e last := by
  simp [State.issueS, h.runs, h.single, h.clean]

/-- Such a slot without destinations leaves the bundle's names as they are. -/
theorem State.issueS_of_issues_nil {last : Bool} {f : State → State} (h : s.Issues e []) :
    s.issueS e last true [] none f = (f (s.setEngine e { s.engine e with partway := true })).close e last := by
  rw [State.issueS_of_issues h, List.append_nil]

/-- A sound transfer joins the queue. -/
theorem exec_dmaq_of_sound {e : Eng} {k : Task} {dir last : Bool} {a b u : BitVec 4} (h : s.Issues e []) (hf : (s.engine e).Free)
    (hn : (s.engine e).dma.length < 4) (hk : (s.engine e).task.bind s.task? = some k)
    (hb : s.dmaBad k dir ((s.engine e).dv a.toNat).toNat (((s.engine e).dv b.toNat).toNat % 2 ^ 16)
      (((s.engine e).dv u.toNat).toNat % 2 ^ 13) = none) :
    exec (.dmaq e dir a b u last) s = .next (((s.setEngine e { s.engine e with partway := true }).setEngine e
      { s.engine e with partway := true, dma := (s.engine e).dma ++ [(s.engine e).asked dir a b u] }).close e last) := by
  have hbad : s.askedBad (s.engine e) ((s.engine e).asked dir a b u) = none := by
    rw [State.askedBad, hk]
    exact hb
  rw [exec_dmaq_of_not_stalled (.inr hn), hf.delay, hf.repeats, hbad, Bool.not_false, Bool.and_self, State.issueS_of_issues_nil h,
    State.engine_setEngine_self]

/-- A bundle that stalls has had no effect but the counts of its cycle (R132). -/
theorem exec_dmaw_of_stalled {e : Eng} {k : BitVec 2} {last : Bool} (h : s.Issues e []) (hf : (s.engine e).Free)
    (hk : k.toNat < (s.engine e).dma.length) : exec (.dmaw e k last) s = .next (s.stall e) :=
  congrArg Host.Outcome.next (if_pos (by simp [h.runs, hf.delay, hf.repeats, hk]))

/-- From `s` to `t` only memory and the count of free values change. -/
def State.OnlyMem (s t : State) : Prop := ∃ m n, t = { s with mem := m, fresh := n }

theorem State.OnlyMem.refl (s : State) : s.OnlyMem s := ⟨_, _, rfl⟩

theorem State.OnlyMem.trans {s t u : State} (h : s.OnlyMem t) (k : t.OnlyMem u) : s.OnlyMem u := by
  obtain ⟨_, _, rfl⟩ := h; obtain ⟨_, _, rfl⟩ := k; exact ⟨_, _, rfl⟩

theorem State.OnlyMem.foldl {f : State → Nat → State} (l : List Nat) (hf : ∀ (s : State) (a : Nat), s.OnlyMem (f s a)) (s : State) :
    s.OnlyMem (l.foldl f s) := by
  induction l generalizing s with
  | nil => exact .refl s
  | cons a l ih => exact (hf s a).trans (ih _)

theorem State.OnlyMem.regs {s t : State} (h : s.OnlyMem t) : t.regs = s.regs := by obtain ⟨_, _, rfl⟩ := h; rfl

theorem State.OnlyMem.engine {s t : State} (h : s.OnlyMem t) (e : Nat) : t.engine e = s.engine e := by obtain ⟨_, _, rfl⟩ := h; rfl

theorem State.tick1_onlyMem (s : State) : s.OnlyMem s.tick1 := ⟨_, _, rfl⟩

theorem State.putMemWord_onlyMem (s : State) (a : Nat) (w : Word) : s.OnlyMem (s.putMemWord a w) :=
  ⟨_, _, s.putBytes_changes a _⟩

theorem State.putLocal_onlyMem (s : State) (e a : Nat) (w : Word) : s.OnlyMem (s.putLocal e a w) := s.putMemWord_onlyMem _ _

/-! The equations of the two stores over lists: the definition is unfolded first, as comparing the two states is dear. -/

theorem State.putMemWords_cons (s : State) (a : Nat) (w : Word) (ws : List Word) :
    s.putMemWords a (w :: ws) = (s.putMemWord a w).putMemWords (a + 4) ws := by
  delta State.putMemWords; rfl

theorem State.dmaIn_succ (s : State) (e off loc n : Nat) :
    s.dmaIn e off loc (n + 1) = (s.putLocal e loc (s.dmaWord off)).dmaIn e (off + 4) (loc + 1) n := by
  delta State.dmaIn; rfl

theorem State.putMemWords_onlyMem (s : State) (a : Nat) (ws : List Word) : s.OnlyMem (s.putMemWords a ws) := by
  induction ws generalizing s a with
  | nil => exact .refl s
  | cons w ws ih =>
    rw [State.putMemWords_cons]
    exact (s.putMemWord_onlyMem a w).trans (ih _ _)

theorem State.dmaIn_onlyMem (s : State) (e off loc n : Nat) : s.OnlyMem (s.dmaIn e off loc n) := by
  induction n generalizing s off loc with
  | zero => exact .refl s
  | succ n ih =>
    rw [State.dmaIn_succ]
    exact (s.putLocal_onlyMem e loc (s.dmaWord off)).trans (ih _ _ _)

/-- Words stored under a transfer stay undefined (R89): each takes a free value. -/
theorem State.spoil_onlyMem (s : State) (e : Nat) (l : List Nat) :
    s.OnlyMem (l.foldl (fun s a => (s.putLocal e a (Config.freeWord s.fresh)).tick1) s) := by
  refine .foldl l (fun s a => ?_) s
  exact (s.putLocal_onlyMem e a _).trans (State.tick1_onlyMem _)

theorem State.storeWords_of_no_bad (h : s.sram.bad = []) (m a : Nat) (ws : List Word) : s.storeWords m a ws = s.putMemWords a ws :=
  if_pos (by simp [h])

variable (hd : (s.engine e).dma = x :: xs) (hi : s.engIssues e = true) (hb : s.sram.bad = [])
include hd hi hb

/-- The oldest transfer leaves the queue and moves its words; those stored under it stay open. -/
theorem State.dmaDone_of_no_bad : s.dmaDone e =
    if x.out then (s.setEngine e { s.engine e with dma := xs }).dmaOut e x.off x.loc x.count
    else x.spoilt.foldl (fun s a => (s.putLocal e a (Config.freeWord s.fresh)).tick1)
      ((s.setEngine e { s.engine e with dma := xs }).dmaIn e x.off x.loc x.count) := by
  have hw : (if x.out then none else s.badWord (tickStore + x.off) (4 * x.count)) = none := by simp [State.badWord, hb]
  simp only [State.dmaDone, hd, hi, hw, Bool.not_true, Bool.false_eq_true, if_false]

theorem State.dmaDone_onlyMem : (s.setEngine e { s.engine e with dma := xs }).OnlyMem (s.dmaDone e) := by
  rw [State.dmaDone_of_no_bad hd hi hb]
  split
  · rw [State.dmaOut, State.storeWords_of_no_bad (s := s.setEngine e { s.engine e with dma := xs }) hb]
    exact State.putMemWords_onlyMem _ _ _
  · exact (State.dmaIn_onlyMem _ _ _ _ _).trans (State.spoil_onlyMem _ _ _)

end

/-! ## Mailboxes (R109, R113, R134) -/

/-- MBR's effect beside its destination: the mailbox is empty and its event no longer pending. -/
def State.mailboxRead (s : State) (e d : Nat) (w : Word) (full : Bool) : State :=
  let s := s.setFlag (F.ENG_MBOX_STATUS_in_full e) false
  let g := s.engine e
  s.setEngine e (({ g with es := setBits g.es 18 18 0 }).fly (toD d w 1 ++ toZ (!full)))

theorem State.engine_mailboxRead (s : State) (e d : Nat) (w : Word) (full : Bool) : (s.mailboxRead e d w full).engine e =
    { s.engine e with es := setBits (s.engine e).es 18 18 0, flights := (s.engine e).flights ++ (toD d w 1 ++ toZ (!full)) } :=
  State.engine_setEngine_self _ _ _

/-- What a host's word leaves in the mailbox registers (R109). -/
def State.mailboxFill (s : State) (e : Nat) (w : Word) : State :=
  ((if s.flag (F.ENG_MBOX_STATUS_in_full e) then s.setFlag (F.ENG_MBOX_STATUS_in_ovr e) true else s).put (R.ENG_MBOX_IN e) w).setFlag
    (F.ENG_MBOX_STATUS_in_full e) true

section
variable {s : State}

section
variable {e : Eng}

theorem exec_mbr_of_issues {d : BitVec 4} {last : Bool} (h : s.Issues e [d.toNat]) : exec (.mbr e d last) s =
    .next (((s.setEngine e { s.engine e with named := (s.engine e).named ++ [d.toNat], partway := true }).mailboxRead e d.toNat
      (s.reg (R.ENG_MBOX_IN e)) (s.flag (F.ENG_MBOX_STATUS_in_full e))).close e last) :=
  congrArg Host.Outcome.next (State.issueS_of_issues h)

theorem exec_mbw_of_issues {a : BitVec 4} {last : Bool} (h : s.Issues e []) : exec (.mbw e a last) s =
    .next ((((s.setEngine e { s.engine e with partway := true }).put (R.ENG_MBOX_OUT e) ((s.engine e).dv a.toNat)).setFlag
      (F.ENG_MBOX_STATUS_out_valid e) true).close e last) :=
  congrArg Host.Outcome.next (State.issueS_of_issues_nil h)

end

theorem State.mailboxFill_onlyRegs (s : State) (e : Nat) (w : Word) :
    State.OnlyRegs [R.ENG_MBOX_IN e, R.ENG_MBOX_STATUS e] s (s.mailboxFill e w) := by
  unfold State.mailboxFill
  refine .trans (.trans ?_ (.put (by simp) _ _)) (.setFlag (by simp) _ _)
  split
  · exact .setFlag (by simp) _ _
  · exact .refl s

theorem State.reg_mailboxFill (s : State) (e : Nat) (w : Word) : (s.mailboxFill e w).reg (R.ENG_MBOX_IN e) = w :=
  (State.reg_setFld_of_ne _ _ (f := F.ENG_MBOX_STATUS_in_full e) (by simp)).trans (State.reg_put_self _ _ _)

theorem State.flag_mailboxFill (s : State) (e : Nat) (w : Word) : (s.mailboxFill e w).flag (F.ENG_MBOX_STATUS_in_full e) = true :=
  State.flag_setFlag_self _ (F.ENG_MBOX_STATUS_in_full e) true (by simp) rfl

/-- Filling the registers touches no engine and nothing that is noted of the clock cycle. -/
theorem State.mailboxFill_now (s : State) (e : Nat) (w : Word) : (s.mailboxFill e w).now = s.now := by
  obtain ⟨_, _, h⟩ := (s.mailboxFill_onlyRegs e w).frame
  rw [h]

/-- In the cycle in which the engine is stopped, a host's word rings nothing (R113). -/
theorem State.mboxIn_of_stopped {e : Nat} (h : e ∈ s.now.stopped) (w : Word) : s.mboxIn e w = s.mailboxFill e w :=
  if_pos (by rw [List.contains_iff_mem]; exact (s.mailboxFill_now e w).symm ▸ h)

/-- Else it makes the engine's event pending (R109). -/
theorem State.mboxIn_of_not_stopped {e : Nat} (h : e ∉ s.now.stopped) (w : Word) :
    ∃ n, s.mboxIn e w = { (s.mailboxFill e w).setEngine e { s.engine e with es := setBits (s.engine e).es 18 18 1 } with now := n } := by
  have hn : ¬ (s.mailboxFill e w).now.stopped.contains e = true := by
    rw [List.contains_iff_mem, s.mailboxFill_now e w]
    exact h
  have hg : (s.mailboxFill e w).engine e = s.engine e := (s.mailboxFill_onlyRegs e w).engine e
  have hx : s.mboxIn e w =
      let t := (s.mailboxFill e w).setEngine e { s.engine e with es := setBits (s.engine e).es 18 18 1 }
      if !(s.engine e).es.getLsbD 18 then { t with now := { t.now with rung := e :: t.now.rung } } else t := by
    rw [← hg]
    exact if_neg hn
  rw [hx]
  dsimp only
  split
  · exact ⟨_, rfl⟩
  · exact ⟨_, rfl⟩

end

/-- Settles O29: moves are results on their way, a transfer joins the queue or leaves it with its words, and a mailbox is one register
and its status. -/
theorem movesTransfersAndMailboxes : Obligations.MovesTransfersAndMailboxes := by
  unfold Obligations.MovesTransfersAndMailboxes
  intro e d a b u dst src n k i7 i10 dir last w k' x xs s g
  refine ⟨fun h hle h1 h3 => ⟨fun hs ho => ?_, fun hs ho => ?_, ?_⟩, fun h => ?_, fun h => ?_, fun h hf hn hk hb => ?_, fun h hf hn => ?_,
    fun h hf hn => ?_, fun hd hi hb => ?_, fun hd hi hb hx => ?_, fun h => ?_, fun h => ?_, fun hon => ?_⟩
  · exact exec_movr_of_fixed h (destOk_of_le hle h1 h3) hs ho
  · exact exec_movr_of_open h (destOk_of_le hle h1 h3) hs ho
  · rw [exec_moviz, destOk_of_le hle h1 h3]
    exact congrArg Host.Outcome.next (State.issueFly_of_issues h)
  · exact (exec_adda ..).trans (congrArg Host.Outcome.next (State.issueFly_of_issues h))
  · exact (exec_dmas ..).trans (congrArg Host.Outcome.next (State.issueFly_of_issues h))
  · exact ⟨_, exec_dmaq_of_sound h hf hn hk hb, State.engine_setEngine_self _ _ _, rfl, rfl, rfl⟩
  · exact (exec_dmaw_of_not_stalled (.inr (.inr hn))).trans (congrArg Host.Outcome.next (State.issueCtl_of_free h hf))
  · have hg : (s.stall e).engine e = (s.engine e).unissue.older := State.engine_setEngine_self _ _ _
    refine ⟨_, exec_dmaw_of_stalled h hf hn, ?_, ?_, ?_, ?_, ?_, rfl⟩
    · rw [hg]; rfl
    · rw [hg]; rfl
    · rw [hg]; rfl
    · rw [hg]; rfl
    · exact ((State.OnlyRegs.count (by simp) s).trans (.count (by simp) _)).keeps
  · have hm := State.dmaDone_onlyMem hd hi hb
    exact ⟨_, rfl, by rw [hm.engine, State.engine_setEngine_self], hm.regs⟩
  · refine congrArg Host.Outcome.next ?_
    rw [State.dmaDone_of_no_bad hd hi hb]
    rcases hx with hx | hx
    · rw [if_pos hx, if_pos hx]
    · rw [hx]; rfl
  · refine ⟨_, exec_mbr_of_issues h, ?_, ?_, ?_, ?_, rfl⟩
    · rw [State.engine_mailboxRead, State.engine_setEngine_self, ← List.append_assoc]
      rfl
    · rw [State.engine_mailboxRead, State.engine_setEngine_self]
    · exact State.flag_setFlag_self _ (F.ENG_MBOX_STATUS_in_full e) false (by simp) rfl
    · exact (State.OnlyRegs.setFlag (by simp) (s.setEngine e _) false).keeps
  · refine ⟨_, exec_mbw_of_issues h, ?_, ?_, ?_, rfl⟩
    · exact (State.reg_setFld_of_ne _ _ (f := F.ENG_MBOX_STATUS_out_valid e) (by simp)).trans (State.reg_put_self _ _ _)
    · exact State.flag_setFlag_self _ (F.ENG_MBOX_STATUS_out_valid e) true (by simp) rfl
    · exact ((State.OnlyRegs.put (by simp) (s.setEngine e _) _).trans (.setFlag (by simp) _ _)).keeps
  · have hr := s.mailboxFill_onlyRegs e w
    have hin := s.reg_mailboxFill e w
    have hfull := s.flag_mailboxFill e w
    refine ⟨_, congrArg Host.Outcome.next (if_pos hon), ?_⟩
    by_cases hs : e.val ∈ s.now.stopped
    · rw [State.mboxIn_of_stopped hs, if_pos hs]
      exact ⟨hin, hfull, congrArg Engine.es (hr.engine e), hr.keeps, hr.mem, hr.fab⟩
    · obtain ⟨n, hx⟩ := State.mboxIn_of_not_stopped hs w
      rw [hx, if_neg hs]
      exact ⟨hin, hfull, congrArg Engine.es (State.engine_setEngine_self _ _ _), hr.keeps, hr.mem, hr.fab⟩

end Sys2Proof.Machine
end

section
/-!
PROOFS. Drains that end the transition of a domain (R399, R473, R474): the refuted obligation about them.
-/

namespace Sys2Proof.Machine

/-- PD_MOD, on, is asked to go off: its master 16 is being drained, and the domain is busy until that ends (R473, R474). -/
def modGoingOff : State := (State.reset.setFlag (domF R.PWR_DOM_ON 17) true).domReq 17 false

theorem modGoingOff_drains : modGoingOff.sram.drain.any (drainOf 16) = true := by decide

theorem modGoingOff_landing : modGoingOff.sram.landing = [] := rfl

theorem modGoingOff_busy : modGoingOff.domBusy 17 = true := by decide

/-- The end of the drain ends the transition, with a write of PWR_DOM_BUSY. -/
theorem not_domBusy_offEnds : ((modGoingOff.drainEnds 16 0 []).offEnds 16).domBusy 17 = false := by decide

/-- Refutes O52: its clause about the end of a drain without a write in flight holds every register but XBR_DRAIN_MAX, for every
state; but where the drain is that of a domain being switched off, its end also clears the domain's bit of PWR_DOM_BUSY (R474). -/
theorem not_badAddressesDrainsAndFailingWordsAreRecorded : ¬ Obligations.BadAddressesDrainsAndFailingWordsAreRecorded := by
  unfold Obligations.BadAddressesDrainsAndFailingWordsAreRecorded
  intro h
  obtain ⟨-, -, -, -, -, -, -, -, hdrain, -⟩ := h modGoingOff 0 16 none 0 .other 0 0 0 0 0 {} 0 0 0 []
  obtain ⟨t, hx, -, -, hk, -⟩ := (hdrain modGoingOff_drains).1 modGoingOff_landing
  have ht : exec (.drainComplete 16 0) modGoingOff = .next ((modGoingOff.drainEnds 16 0 []).offEnds 16) :=
    congrArg Host.Outcome.next (if_pos modGoingOff_drains)
  have he : t = (modGoingOff.drainEnds 16 0 []).offEnds 16 := Host.Outcome.next.inj (hx.symm.trans ht)
  have hbusy : t.domBusy 17 = modGoingOff.domBusy 17 := by
    rw [State.domBusy, State.flag, State.fld, hk _ (by decide)]
    rfl
  rw [he, not_domBusy_offEnds, modGoingOff_busy] at hbusy
  exact absurd hbusy (by decide)

end Sys2Proof.Machine
end

section
/-!
PROOFS. The commands that define, undefine, load and write parameter sets (R172, R173, R356).
-/

namespace Sys2Proof.Machine

variable {s q : State} {c : HostCmd} {p : PSet}

/-- The sets that can be defined are the host sets and the block sets (R171). -/
theorem State.lt_of_pset?_eq_some {id : Nat} (h : q.pset? id = some p) : id < 4084 := by
  simp only [State.pset?, isBlockSet, isHostSet, Bool.and_eq_true, decide_eq_true_eq] at h
  split_ifs at h <;> omega

theorem State.flag_of_reg {s t : State} {f : Fld} (h : t.reg f.reg = s.reg f.reg) : t.flag f = s.flag f := by
  rw [State.flag, State.fld, h, State.flag, State.fld]

theorem State.takeCmd_ticking (s : State) (r : Nat) : (s.takeCmd r).ticking = s.ticking :=
  State.flag_of_reg (((s.takeCmd_sameButHost r).reg _).trans (s.reg_put_of_ne _ (by decide)))

/-- Where no copy runs, bytes put into a set's shadow are stored in its inactive bank (R173). -/
theorem State.putShadow_of_not_copying {id : Nat} (hp : s.pset? id = some p) (hc : p.copying = false) (off : Nat) (b : List Byte) :
    s.putShadow id off b = s.putBytes (paramBase + (1 - p.bank) * bankSize + p.off + off) b := by
  have hr : s.refresh id = s := by simp [State.refresh, hp, hc]
  simp only [State.putShadow, hr, hp]
  rfl

/-- A free host set in a free range of the area is defined, both its banks zero (R172). -/
theorem State.psetDefine_of_free (hid : cmdArg c 0 2 < 4064) (hn : q.psetPending (cmdArg c 0 2) = false)
    (hp : q.pset? (cmdArg c 0 2) = none) (h1 : 1 ≤ cmdArg c 8 2) (hm : cmdArg c 8 2 ≤ 1024)
    (hr : cmdArg c 4 4 * 64 + cmdArg c 8 2 * 64 ≤ 0x600000)
    (hf : ∀ e ∈ q.mix.sets, e.2.off + e.2.size ≤ cmdArg c 4 4 * 64 ∨ cmdArg c 4 4 * 64 + cmdArg c 8 2 * 64 ≤ e.2.off) :
    q.psetDefine c = ((((q.putBytes (paramBase + cmdArg c 4 4 * 64) (List.replicate (cmdArg c 8 2 * 64) 0)).putBytes
      (paramBase + bankSize + cmdArg c 4 4 * 64) (List.replicate (cmdArg c 8 2 * 64) 0)).setPset (cmdArg c 0 2)
        { off := cmdArg c 4 4 * 64, size := cmdArg c 8 2 * 64 }).psetUsed, stOk, 0) := by
  have hfree : (q.mix.sets.any fun e => e.2.off < cmdArg c 4 4 * 64 + cmdArg c 8 2 * 64 && cmdArg c 4 4 * 64 < e.2.off + e.2.size)
      = false := by
    simp only [List.any_eq_false, Bool.and_eq_true, decide_eq_true_eq]
    intro e he
    have := hf e he
    omega
  have hlen : ¬ 0x600000 < cmdArg c 4 4 * 64 + cmdArg c 8 2 * 64 := by omega
  simp [State.psetDefine, show ¬ 4096 ≤ cmdArg c 0 2 by omega, show ¬ 4084 ≤ cmdArg c 0 2 by omega, hn, hp,
    show ¬ cmdArg c 8 2 = 0 by omega, Nat.not_lt.2 hm, hfree, hlen, PSet.addr]

/-- A host set that is not pending ceases to be defined while the tick is stopped (R172). -/
theorem State.psetUndefine_of_stopped (ht : q.ticking = false) (hb : isBlockSet (cmdArg c 0 2) = false)
    (hp : q.pset? (cmdArg c 0 2) = some p) (hn : q.psetPending (cmdArg c 0 2) = false) :
    q.psetUndefine c = ((q.setMix fun m => { m with sets := Tbl.drop (cmdArg c 0 2) m.sets }).psetUsed.pendCounts, stOk, 0) := by
  have hid := State.lt_of_pset?_eq_some hp
  simp [State.psetUndefine, show ¬ 4096 ≤ cmdArg c 0 2 by omega, ht, hb, hp, hn]

section
variable (hp : q.pset? (cmdArg c 0 2) = some p) (hc : p.copying = false) (hn : q.psetPending (cmdArg c 0 2) = false)
include hp hc hn

/-- A load of whole words within the set puts the bytes read into its shadow (R173, R356). -/
theorem State.psetLoad_of_range (h4 : 4 ≤ cmdArg c 8 4) (hm : cmdArg c 8 4 ≤ 65536) (hmod : cmdArg c 8 4 % 4 = 0)
    (hr : cmdArg c 4 4 + cmdArg c 8 4 ≤ p.size) :
    q.psetLoad c = ((q.readHost (cmdArg c 16 8) (cmdArg c 8 4)).putBytes
      (paramBase + (1 - p.bank) * bankSize + p.off + cmdArg c 4 4) (padTo (cmdArg c 8 4) c.data), stOk, 0) := by
  have hq := ((q.readHost_sameButHost (cmdArg c 16 8) (cmdArg c 8 4)).pset? _).trans hp
  simp [State.psetLoad, hp, hn, Nat.not_lt.2 h4, Nat.not_lt.2 hm, hmod, Nat.not_lt.2 hr, State.putShadow_of_not_copying hq hc]

/-- A write of up to 32 bytes within the set puts the descriptor's bytes into its shadow (R173, R356). -/
theorem State.psetWrite_of_range (h1 : 1 ≤ cmdArg c 2 2) (hm : cmdArg c 2 2 ≤ 32) (hr : cmdArg c 4 4 + cmdArg c 2 2 ≤ p.size) :
    q.psetWrite c = (q.putBytes (paramBase + (1 - p.bank) * bankSize + p.off + cmdArg c 4 4)
      (slice c.desc 24 (cmdArg c 2 2)), stOk, 0) := by
  simp [State.psetWrite, hp, hn, show ¬ cmdArg c 2 2 = 0 by omega, Nat.not_lt.2 hm, Nat.not_lt.2 hr,
    State.putShadow_of_not_copying hp hc]

end

theorem exec_psetDefine (c : HostCmd) (s : State) : exec (.psetDefine c) s = .next (s.untimed c 0x0020 fun s => s.psetDefine c) := rfl

theorem exec_psetUndefine (c : HostCmd) (s : State) :
    exec (.psetUndefine c) s = .next (s.untimed c 0x0021 fun s => s.psetUndefine c) := rfl

theorem exec_psetLoad (c : HostCmd) (s : State) : exec (.psetLoad c) s = .next (s.untimed c 0x0022 fun s => s.psetLoad c) := rfl

theorem exec_psetWrite (c : HostCmd) (s : State) : exec (.psetWrite c) s = .next (s.untimed c 0x0023 fun s => s.psetWrite c) := rfl

/-- Settles O33: each command that passes its checks is parsed, has the effect that its own law above states, and ends OK. -/
theorem parameterSetCommands : Obligations.ParameterSetCommands := by
  unfold Obligations.ParameterSetCommands
  intro c s p h0
  refine ⟨fun ht hid hn hp h1 hm hr hf => ?_, fun ht hs hb hp hn => ?_, fun ht hp hc hn h4 hm hmod hr => ?_,
    fun ht hp hc hn h1 hm hr => ?_⟩
  · rw [exec_psetDefine, State.untimed_of_takes ht h0, State.psetDefine_of_free hid hn hp h1 hm hr hf]
  · rw [exec_psetUndefine, State.untimed_of_takes ht h0,
      State.psetUndefine_of_stopped ((s.takeCmd_ticking c.ring).trans hs) hb hp hn]
  · rw [exec_psetLoad, State.untimed_of_takes ht h0, State.psetLoad_of_range hp hc hn h4 hm hmod hr]
  · rw [exec_psetWrite, State.untimed_of_takes ht h0, State.psetWrite_of_range hp hc hn h1 hm hr]

end Sys2Proof.Machine
end

section
/-!
PROOFS. The agreement of commits within a pair (R178, R228).
-/

namespace Sys2Proof.Machine

variable {s : State} {a : Timed} {id : Nat}

/-! ## Registers -/

/-- The pending counts and the copy flag stand in two registers. -/
theorem State.pendCounts_onlyStatus (s : State) : State.OnlyRegs [R.MIX_PSET_STATUS, R.STR_STATUS] s s.pendCounts := by
  unfold State.pendCounts
  dsimp only
  refine .trans (.trans (.setFld ?_ _ _) (.setFlag ?_ _ _)) (.setFld ?_ _ _)
  all_goals simp

/-- A refused commit shows in the status of its block; one of sets is counted too (R177, R189). -/
theorem State.commitFailed_onlyRegs (s : State) (k : TimedKind) :
    State.OnlyRegs [R.MIX_PSET_REFUSE_CNT, R.MIX_PSET_STATUS, R.STR_STATUS] s (s.commitFailed k) := by
  cases k with
  | psetCommit _ _ => exact .trans (.count (by simp) _) (.setFlag (by simp) _ _)
  | streamCommit _ _ => exact .setFlag (by simp) _ _
  | nop => exact .refl s
  | regWrite _ _ _ => exact .refl s

/-! ## A proposal of the partner (R178) -/

/-- The action that a received proposal becomes: agreed, and of no ring. -/
def receivedCommit (p : Proposal) : Timed :=
  { target := p.tick.toNat, ring := none, tag := 0, late := false, propId := some p.id.toNat
    kind := if p.streams then .streamCommit (p.items.map (·.1)) true else .psetCommit (p.items.map (·.1)) true }

section
variable {p : Proposal} (hs : s.paired = true)
include hs

/-- A proposal with a fault is answered by REFUSE. -/
theorem State.takeProposal_of_bad {k : Nat} (hb : s.propBad p = some k) :
    s.takeProposal p = s.sendCmd 4 (beBytes 4 p.id.toNat ++ [Config.refuseCode k]) := by
  simp [State.takeProposal, hs, hb]

/-- One without fault is scheduled, kept, and answered by AGREE. -/
theorem State.takeProposal_of_sound (hb : s.propBad p = none) : ∃ m w n, State.OnlyRegs [R.MIX_PSET_STATUS, R.STR_STATUS]
    { s with sched := s.sched ++ [receivedCommit p], mix := m, twn := w, fresh := n } (s.takeProposal p) := by
  simp only [State.takeProposal, hs, hb]
  exact ⟨_, _, _, State.pendCounts_onlyStatus _⟩

end

/-! ## The end of an own proposal (R178) -/

theorem Timed.isOwn_of_ring {r : Nat} (hi : a.propId = some id) (hr : a.ring = some r) : a.isOwn id = true := by
  simp [Timed.isOwn, hi, hr]

theorem State.ownProposal_of_single (hs : s.sched = [a]) (ha : a.isOwn id = true) : s.ownProposal id = some a := by
  rw [State.ownProposal, hs]
  exact List.find?_cons_of_pos ha

/-- The one scheduled action, proposed under the identifier, leaves the schedule and is withdrawn. -/
theorem State.failProposal_of_single (hs : s.sched = [a]) (ha : a.isOwn id = true) (st : Nat) :
    s.failProposal id st = ({ s with sched := [] } : State).withdraw a st := by
  simp only [State.failProposal, State.ownProposal_of_single hs ha]
  simp [hs, ha]

/-- A proposal forgotten, withdrawn from the partner and counted; its command has not ended yet. -/
def State.withdrawn (s : State) (a : Timed) : State :=
  (((s.dropProp a.propId).sendCmd 5 (beBytes 4 (a.propId.getD 0))).count R.MIX_PSET_WITHDRAW_CNT).commitFailed a.kind

theorem State.withdraw_eq (s : State) (a : Timed) (st : Nat) :
    s.withdraw a st = ((s.withdrawn a).endTimed a st 0).pendCounts := rfl

theorem State.withdrawn_onlyRegs (s : State) (a : Timed) : ∃ m w n,
    State.OnlyRegs [R.MIX_PSET_WITHDRAW_CNT, R.MIX_PSET_REFUSE_CNT, R.MIX_PSET_STATUS, R.STR_STATUS]
      { s with mix := m, twn := w, fresh := n } (s.withdrawn a) :=
  ⟨_, _, _, .trans (.count (by simp) _) ((State.commitFailed_onlyRegs _ a.kind).mono (by simp))⟩

theorem State.withdrawn_counted (s : State) (a : Timed) :
    (s.withdrawn a).reg R.MIX_PSET_WITHDRAW_CNT = counted (s.reg R.MIX_PSET_WITHDRAW_CNT) :=
  ((State.commitFailed_onlyRegs _ a.kind).keeps _ (by decide)).trans (State.reg_count_self _ _)

/-- A withdrawal leaves the schedule, memory and time alone and is counted. -/
theorem State.withdraw_keeps (s : State) (a : Timed) (st : Nat) :
    (s.withdraw a st).sched = s.sched ∧ (s.withdraw a st).mem = s.mem ∧ (s.withdraw a st).clk = s.clk ∧
    (s.withdraw a st).reg R.MIX_PSET_WITHDRAW_CNT = counted (s.reg R.MIX_PSET_WITHDRAW_CNT) := by
  obtain ⟨_, _, _, hw⟩ := s.withdrawn_onlyRegs a
  have hp := ((s.withdrawn a).endTimed a st 0).pendCounts_onlyStatus
  rw [State.withdraw_eq]
  refine ⟨?_, ?_, ?_, ?_⟩
  · rw [hp.sched, State.endTimed_sched, hw.sched]
  · rw [hp.mem, State.endTimed_mem, hw.mem]
  · rw [hp.clk, State.endTimed_clk, hw.clk]
  · rw [hp.keeps _ (by decide), State.reg_endTimed _ _ _ _ (by decide), State.withdrawn_counted]

/-- The command of a withdrawn proposal ends with the status, where its ring waits for it. -/
theorem State.mem_cpls_withdraw {r : Nat} (hr : a.ring = some r) (hl : a.lost = false) (s : State) (st : Nat) :
    (⟨r, a.tag, a.opcode, st, 0, s.tickNum⟩ : Cpl) ∈ (s.withdraw a st).hif.cpls := by
  obtain ⟨_, _, _, hw⟩ := s.withdrawn_onlyRegs a
  have hn : (s.withdrawn a).tickNum = s.tickNum := by rw [State.tickNum, hw.clk, State.tickNum]
  rw [State.withdraw_eq, (State.pendCounts_onlyStatus _).hif, State.endTimed_of_ring hr hl, (State.finish_onlyRegs _ _ _ _ _ _).hif]
  simp [State.setHif, hn]

/-! ## The partner's WITHDRAW (R178) -/

/-- The one scheduled action, the partner's under the identifier, leaves the schedule with its proposal. -/
theorem State.dropReceived_of_single (hs : s.sched = [a]) (hi : a.propId = some id) (hr : a.ring = none) : ∃ m,
    State.OnlyRegs [R.MIX_PSET_STATUS, R.STR_STATUS] { s.count R.MIX_PSET_WITHDRAW_CNT with sched := [], mix := m }
      (s.dropReceived id) := by
  have hd : s.dropReceived id =
      (({ s.count R.MIX_PSET_WITHDRAW_CNT with sched := [] } : State).dropProp (some id)).pendCounts := by
    simp [State.dropReceived, hs, hi, hr]
  rw [hd]
  exact ⟨_, State.pendCounts_onlyStatus _⟩

/-! ## The commands -/

theorem exec_propose (p : Proposal) (s : State) : exec (.propose p true) s = .next (s.takeProposal p) := rfl

theorem exec_agree (i : Word) (s : State) : exec (.agree i true) s = .next (s.agreeTo i.toNat) := rfl

theorem exec_refuse (i : Word) (x : Byte) (s : State) : exec (.refuse i x true) s =
    .next (s.failProposal i.toNat (if x = Config.refuseCode 0 then stPsetMismatch else stPairFail)) := rfl

/-- The timeout of an own proposal that is not agreed fails it. -/
theorem exec_commitAgreeTimeout_of_single {i : Word} (hs : s.sched = [a]) (ha : a.isOwn i.toNat = true) (hg : a.agreed = false) :
    exec (.commitAgreeTimeout i) s = .next (s.failProposal i.toNat stPairFail) := by
  refine congrArg Host.Outcome.next ?_
  simp [State.ownProposal_of_single hs ha, hg]

theorem exec_withdraw (i : Word) (s : State) : exec (.withdraw i true) s = .next (s.dropReceived i.toNat) := rfl

/-- Settles O35: a proposal is answered by its fault or joins the schedule; an own one ends by withdrawal, the partner's by leaving
the schedule; and a message that fails its CRC is one count. -/
theorem commitsAreAgreedInAPair : Obligations.CommitsAreAgreedInAPair := by
  unfold Obligations.CommitsAreAgreedInAPair
  intro p id reason a r s
  refine ⟨fun hs => ⟨fun k hb => ?_, fun hb => ?_⟩, exec_agree id s, fun hs hi hr hl => ?_, fun hs hi hr => ?_, rfl, rfl, rfl, rfl⟩
  -- PROPOSE
  · rw [exec_propose, State.takeProposal_of_bad hs hb]
  · obtain ⟨_, _, _, hp⟩ := State.takeProposal_of_sound hs hb
    exact ⟨_, exec_propose p s, hp.mem, hp.clk, hp.sched⟩
  -- REFUSE and the timeout
  · have ha := Timed.isOwn_of_ring hi hr
    have hw := State.withdraw_keeps { s with sched := [] } a
    have hcpl := State.mem_cpls_withdraw hr hl { s with sched := [] }
    refine ⟨?_, fun hg => ?_⟩
    · rw [exec_refuse, State.failProposal_of_single hs ha]
      obtain ⟨hsched, hmem, hclk, hcnt⟩ := hw (if reason = Config.refuseCode 0 then stPsetMismatch else stPairFail)
      exact ⟨_, rfl, hsched, hmem, hclk, hcnt, _, by split_ifs <;> decide, hcpl _⟩
    · rw [exec_commitAgreeTimeout_of_single hs ha hg, State.failProposal_of_single hs ha]
      obtain ⟨hsched, hmem, hclk, -⟩ := hw stPairFail
      exact ⟨_, rfl, hsched, hmem, hclk, hcpl _⟩
  -- WITHDRAW
  · obtain ⟨_, hp⟩ := State.dropReceived_of_single hs hi hr
    refine ⟨_, exec_withdraw id s, hp.sched, (hp.keeps _ (by decide)).trans (s.reg_count_self _), fun o ho => ?_, hp.mem, hp.outbox⟩
    simp only [List.mem_cons, List.not_mem_nil, or_false, not_or] at ho
    exact (hp.keeps o (by simp [ho])).trans (s.reg_put_of_ne _ (Ne.symm ho.1))

end Sys2Proof.Machine
end

section
/-!
PROOFS. The stages of the fixed blocks: the block that one object puts into its slot, and the end of its stage (R137, R142, R146,
R152, R154, R159 to R161).
-/

namespace Sys2Proof.Machine

variable {s t : State} {p i : Nat}

/-! ## Blocks and the end of a stage (R137) -/

/-- From `s` to `t` a slot's block of the present tick is written; the stages that run, memory, engines and time are as before. -/
structure State.Puts (s t : State) (slot : Nat) (b : List Word) : Prop where
  cur : Tbl.get (fun _ => []) t.fab.cur slot = b
  stages : t.fab.stages = s.fab.stages
  mem : t.mem = s.mem
  eng : t.eng = s.eng
  clk : t.clk = s.clk

/-- Counting saturations writes the counter and the flag. -/
theorem State.countSat_onlyRegs (s : State) (cnt : Nat) (f : Fld) (n : Nat) : State.OnlyRegs [cnt, f.reg] s (s.countSat cnt f n) := by
  unfold State.countSat
  split
  · exact .refl s
  · exact .trans (.put (by simp) _ _) (.setFlag (by simp) _ _)

/-- A block put after its saturations are counted. -/
theorem State.puts_countSat (s : State) (cnt : Nat) (f : Fld) (n slot : Nat) (b : List Word) :
    s.Puts ((s.countSat cnt f n).putCur slot b) slot b := by
  have h := s.countSat_onlyRegs cnt f n
  exact ⟨Tbl.get_set_self _ _ _ _, (congrArg Fab.stages h.fab :), h.mem, h.eng, h.clk⟩

theorem State.Puts.setMix {slot : Nat} {b : List Word} (h : s.Puts t slot b) (f : Mix → Mix) : s.Puts (t.setMix f) slot b :=
  ⟨h.cur, h.stages, h.mem, h.eng, h.clk⟩

theorem State.Puts.of_caughtUp {n slot : Nat} {b : List Word} (h : (s.caughtUp n).Puts t slot b) : s.Puts t slot b :=
  ⟨h.cur, h.stages, h.mem, h.eng, h.clk⟩

/-- The end of a stage keeps the blocks written in it, and the stage counts as finished. -/
theorem State.Puts.endStage {slot : Nat} {b : List Word} (h : s.Puts t slot b) (k : Nat) :
    Tbl.get (fun _ => []) (t.endStage k).fab.cur slot = b ∧ (t.endStage k).fab.stages = s.fab.stages - 2 ^ k ∧
      (t.endStage k).mem = s.mem ∧ (t.endStage k).eng = s.eng ∧ (t.endStage k).clk = s.clk := by
  obtain ⟨_, hd⟩ := (t.setFab fun f => { f with stages := f.stages - 2 ^ k }).checkDone_changes
  rw [State.endStage, hd.fab, hd.mem, hd.eng, hd.clk]
  exact ⟨h.cur, congrArg (· - 2 ^ k) h.stages, h.mem, h.eng, h.clk⟩

/-- The block of a sample rule reads back each of its samples. -/
theorem map_range_getD_map_range (n : Nat) (f : Nat → Word) :
    (List.range n).map (fun i => ((List.range n).map f).getD i 0) = (List.range n).map f := by
  refine List.map_congr_left fun i hi => ?_
  simp [List.mem_range.1 hi]

/-! ## The route stage (R142, R146) -/

section
variable {r : RouteSt}

/-- Without a fade an entry's signal is its source times its gain, converted. -/
theorem State.rteSignal_of_steady (hc : r.cross = none) (hr : r.ramp = none) :
    s.rteSignal p r = (List.range s.T).map fun k => mixOut (8 * smp (s.rteSource p r.e.source) k * r.e.g) := by
  simp [State.rteSignal, hc, hr, State.rampGain]

/-- Without a delay line and a tap's crossfade an entry sends its signal on. -/
theorem State.rteOut_of_direct (hd : r.e.dlyEn = false) (ht : r.tap = none) (sig : List Word) :
    (s.rteOut r sig).map (·.1) = (List.range s.T).map fun k => sig.getD k 0 := by
  simp [State.rteOut, hd, ht, Function.comp_def]

theorem State.rteLines_of_direct (hd : r.e.dlyEn = false) (ht : r.tap = none) (b : List Word) : s.rteLines r b = s := by
  simp [State.rteLines, RouteSt.oldLine, hd, ht]

/-- An enabled steady entry puts its signal into its destination. -/
theorem State.routeEntry_puts (hi : s.rte i = r) (he : r.e.enable = true) (hs : r.e.src ≠ 0xFFFF) (hp : r.e.phase = p)
    (hd : r.e.dlyEn = false) (hc : r.cross = none) (hr : r.ramp = none) (ht : r.tap = none) :
    s.Puts (s.routeEntry p i) r.e.dst
      ((List.range s.T).map fun k => (mixOut (8 * smp (s.stageReads p 0 r.e.src) k * r.e.g)).1) := by
  have hsrc : s.rteSource p r.e.source = s.stageReads p 0 r.e.src := by simp [State.rteSource, Route.source, he, hs]
  have hcl : (!r.claims || r.e.phase ≠ p) = false := by simp [RouteSt.claims, he, hp]
  have hsig : (s.rteSignal p r).map (·.1) =
      (List.range s.T).map fun k => (mixOut (8 * smp (s.stageReads p 0 r.e.src) k * r.e.g)).1 := by
    rw [State.rteSignal_of_steady hc hr, hsrc, List.map_map]
    rfl
  simp only [State.routeEntry, hi, hcl, State.rteLines_of_direct hd ht, State.rteOut_of_direct hd ht, hsig,
    map_range_getD_map_range, Bool.false_eq_true, if_false]
  exact (s.puts_countSat _ _ _ _ _).setMix _

end

/-! ## The mix stage (R154) -/

/-- The one crosspoint, steady and into the bus, is the whole sum. -/
theorem State.busOut_of_single {j : Nat} {x : XpSt} (hx : s.mix.xp = [(j, x)]) (he : x.e.enable = true) (hb : x.e.bus = i)
    (hr : x.ramp = none) (ho : x.out = []) :
    s.busOut p i = (List.range s.T).map fun k => mixOut (8 * smp (s.stageReads p 1 x.e.src) k * x.e.g) := by
  simp [State.busOut, State.xpTerm, hx, he, hb, hr, ho, State.rampGain]

/-- An enabled bus puts its converted sums into its slot. -/
theorem State.busEntry_puts {b : Bus} (hi : Tbl.get (fun _ => {}) s.mix.bus i = b) (he : b.enable = true) (hp : b.phase = p) :
    s.Puts (s.busEntry p i) b.out ((s.busOut p i).map (·.1)) := by
  have hb : (!b.enable || b.phase ≠ p) = false := by simp [he, hp]
  simp only [State.busEntry, hi, hb, Bool.false_eq_true, if_false]
  exact s.puts_countSat _ _ _ _ _

/-! ## The dynamics stage (R159 to R161) -/

/-- Without slope the static curve reduces nothing. -/
theorem gainComp_of_no_slope (x th : Int) (w : Nat) : gainComp x th w 0 = 0 := by simp [gainComp]

theorem smoothGr_zero (aA aR : Nat) : smoothGr 0 0 aA aR = 0 := by simp [smoothGr]

/-- No reduction is unity gain. -/
theorem e2_zero : (e2 0 : Int) = unity := by decide

/-- Rounding to whole samples (R96). -/
theorem convRaw_zero (a : Int) : convRaw a 0 = (a + 2147483648) / 4294967296 := rfl

/-- A sample times unity gain converts to itself. -/
theorem mixOut_unity (w : Word) : (mixOut (8 * w.toInt * unity)).1 = w := by
  have hlo := BitVec.le_toInt w
  have hhi := BitVec.toInt_lt (x := w)
  have hacc : (accI (8 * w.toInt * unity)).toInt = w.toInt * 4294967296 := by
    rw [BitVec.toInt_ofInt, Int.bmod_def, unity]
    omega
  have hraw : convRaw (w.toInt * 4294967296) 0 = w.toInt := by
    rw [convRaw_zero]
    omega
  rw [mixOut, hacc, convert, hraw, sat32_eq, min_eq_right (by omega), max_eq_right (by omega)]
  exact BitVec.ofInt_toInt

section
variable {e : Dyn} (hs : e.slope = 0) (hm : e.makeup = 0) (hl : e.look = 0)
include hs hm hl

/-- A sample passes a unit without slope, makeup and lookahead, whose gain stays at unity. -/
theorem dynSample_passes {r : DynRun} (hg : r.m.gr = 0) (b : List Word) (k : Nat) (sc : Int) :
    (dynSample e r (smp b k) sc none).m.gr = 0 ∧ (dynSample e r (smp b k) sc none).out = b.getD k 0 :: r.out := by
  simp [dynSample, smp, hs, hm, hl, hg, gainComp_of_no_slope, smoothGr_zero, e2_zero, mixOut_unity]

/-- So does every sample of a run, the last in front. -/
theorem foldl_dynSample_out (inb scb : List Word) (ks : List Nat) {r : DynRun} (hg : r.m.gr = 0) :
    (ks.foldl (fun r k => dynSample e r (smp inb k) (smp scb k) none) r).out = (ks.map fun k => inb.getD k 0).reverse ++ r.out := by
  induction ks generalizing r with
  | nil => rfl
  | cons k ks ih =>
    obtain ⟨hgr, hout⟩ := dynSample_passes hs hm hl hg inb k (smp scb k)
    rw [List.foldl_cons, ih hgr, hout]
    simp

end

/-- The run over a tick from a gain at unity sends the input's samples. -/
theorem State.dynRun_out {u : DynSt} (hs : u.e.slope = 0) (hm : u.e.makeup = 0) (hl : u.e.look = 0) (hf : u.look = none)
    (hg : u.m.gr = 0) (n : Nat) (inb scb : List Word) :
    (s.dynRun n u inb scb).out.reverse = (List.range s.T).map fun k => inb.getD k 0 := by
  simp only [State.dynRun, hf]
  rw [foldl_dynSample_out hs hm hl inb scb _ hg]
  simp

theorem State.dynBack_of_caught_up (h : s.runsBack (16384 + i) = false) (u : DynSt) : s.dynBack p i u = u := by
  simp [State.dynBack, h]

/-- An enabled unit without slope, makeup and lookahead puts its input into its slot. -/
theorem State.dynEntry_puts {u : DynSt} (hi : s.dynU i = u) (he : u.e.enable = true) (hp : u.e.phase = p) (hs : u.e.slope = 0)
    (hm : u.e.makeup = 0) (hl : u.e.look = 0) (hf : u.look = none) (hg : u.m.gr = 0) (hb : s.runsBack (16384 + i) = false) :
    s.Puts (s.dynEntry p i) u.e.out ((List.range s.T).map fun k => (s.stageReads p 2 u.e.inp).getD k 0) := by
  have hon : (!u.e.enable || u.e.phase ≠ p) = false := by simp [he, hp]
  simp only [State.dynEntry, hi, hon, State.dynBack_of_caught_up hb, State.dynRun_out hs hm hl hf hg,
    Bool.false_eq_true, if_false]
  exact .of_caughtUp ((State.puts_countSat _ _ _ _ _ _).setMix _)

/-! ## The commands -/

/-- A stage whose turn it is and that has one object runs that object. -/
theorem exec_routeStage_of_single {r : RouteSt} (ht : s.stageTurn 0 = some p) (hr : s.mix.route = [(i, r)]) :
    exec .routeStage s = .next ((s.routeEntry p i).endStage 0) := by
  refine congrArg Host.Outcome.next ?_
  simp [State.routeStage, ht, hr]

theorem exec_mixStage_of_single {b : Bus} (ht : s.stageTurn 1 = some p) (hb : s.mix.bus = [(i, b)]) :
    exec .mixStage s = .next ((s.busEntry p i).endStage 1) := by
  refine congrArg Host.Outcome.next ?_
  simp [State.mixStage, ht, hb]

theorem exec_dynamicsStage_of_single {u : DynSt} (ht : s.stageTurn 2 = some p) (hu : s.mix.dyn = [(i, u)]) :
    exec .dynamicsStage s = .next ((s.dynEntry p i).endStage 2) := by
  refine congrArg Host.Outcome.next ?_
  simp [State.dynStage, ht, hu]

/-- DELAY_TAP_WAIT of an enabled entry of the running stage that reads a line is counted (R152). -/
theorem exec_delayTapWait {w : Fin 4096} (he : (s.rte w).e.enable = true) (ht : (s.rte w).taps = true)
    (hs : s.stageTurn 0 = some (s.rte w).e.phase) : exec (.delayTapWait w) s = .next (s.count R.RTE_DLY_WAIT_CNT) := by
  refine congrArg Host.Outcome.next (if_pos ?_)
  simp [RouteSt.claims, he, ht, hs]

theorem RouteSt.taps_iff (r : RouteSt) : r.taps = true ↔ r.e.dlyEn = true ∨ ∃ o x, r.tap = some (some o, x) := by
  rcases h : r.tap with _ | ⟨_ | o, x⟩ <;> simp [RouteSt.taps, h]

/-- Settles O31: the one object of each stage puts the block of its own law into its slot, and the stage ends. -/
theorem fixedBlockStages : Obligations.FixedBlockStages := by
  unfold Obligations.FixedBlockStages
  intro s p i j r b x u w
  refine ⟨fun ht hr he hs hp hd hc hramp htap => ?_, fun ht hb hx hbe hbp hxe hxb hr ho => ?_,
    fun ht hu he hp hs hm hl hf hg hback => ?_, fun he htap ht => ?_⟩
  · have hi : s.rte i = r := by simp [State.rte, hr, Tbl.get]
    exact ⟨_, exec_routeStage_of_single ht hr, (State.routeEntry_puts hi he hs hp hd hc hramp htap).endStage 0⟩
  · have hi : Tbl.get (fun _ => ({} : Bus)) s.mix.bus i = b := by simp [hb, Tbl.get]
    have h := State.busEntry_puts hi hbe hbp
    rw [State.busOut_of_single hx hxe hxb hr ho, List.map_map] at h
    exact ⟨_, exec_mixStage_of_single ht hb, h.endStage 1⟩
  · have hi : s.dynU i = u := by simp [State.dynU, hu, Tbl.get]
    exact ⟨_, exec_dynamicsStage_of_single ht hu, (State.dynEntry_puts hi he hp hs hm hl hf hg hback).endStage 2⟩
  · exact exec_delayTapWait he ((s.rte w).taps_iff.2 htap) ht

end Sys2Proof.Machine
end

section
/-!
PROOFS. Stream commits (R186, R189, R339): what an accepted one does, and the refuted obligation that leaves out its read of the list.
-/

namespace Sys2Proof.Machine

variable {s t q : State} {c : HostCmd} {xs : List Nat} {n x : Nat}

/-! ## Validation depends on no ring (R189) -/

theorem State.SameButHost.stagedCtx (h : s.SameButHost t) : t.stagedCtx = s.stagedCtx := by obtain ⟨_, _, rfl⟩ := h; rfl

theorem State.SameButHost.ctxPending (h : s.SameButHost t) : t.ctxPending = s.ctxPending := by
  funext x
  simp only [State.ctxPending, h.sched]

theorem State.SameButHost.streamCommits (h : s.SameButHost t) : t.streamCommits = s.streamCommits := by
  simp only [State.streamCommits, h.sched]

theorem State.SameButHost.ctxAt (h : s.SameButHost t) : t.ctxAt = s.ctxAt := by
  obtain ⟨_, _, rfl⟩ := h
  rfl

theorem State.SameButHost.slotTaken (h : s.SameButHost t) : t.slotTaken = s.slotTaken := by
  have ht := h.tables []
  funext n slot
  simp only [State.slotTaken, ht]
  obtain ⟨_, _, rfl⟩ := h
  rfl

theorem State.SameButHost.ctxBad (h : s.SameButHost t) (before : List Nat) : t.ctxBad xs before n x = s.ctxBad xs before n x := by
  unfold State.ctxBad
  simp only [h.slotTaken]
  obtain ⟨_, _, rfl⟩ := h
  rfl

theorem State.SameButHost.ctxsBad (h : s.SameButHost t) (ys : List Nat) :
    ∀ before, t.ctxsBad xs n before ys = s.ctxsBad xs n before ys := by
  induction ys with
  | nil => exact fun _ => rfl
  | cons y ys ih => exact fun before => by simp only [State.ctxsBad, h.ctxBad, ih]

theorem State.SameButHost.totalsBad (h : s.SameButHost t) : t.totalsBad xs n = s.totalsBad xs n := by
  simp only [State.totalsBad, h.ctxAt, h.stagedCtx]
  obtain ⟨_, _, rfl⟩ := h
  rfl

theorem State.SameButHost.streamBad (h : s.SameButHost t) : t.streamBad xs n = s.streamBad xs n := by
  simp only [State.streamBad, h.ctxsBad, h.totalsBad]

/-- Where no context is enabled at N, no total is exceeded. -/
theorem State.totalsBad_of_off (h : ∀ x, ctxOn (s.ctxAt xs n x) = false) : s.totalsBad xs n = none := by
  have hoff (b : Bool) (p : List Byte → Bool) : (((allCtx b).map fun x => s.ctxAt xs n x).filter fun c => ctxOn c && p c) = [] := by
    simp [List.filter_eq_nil_iff, h]
  have hsum (b : Bool) : chSum ((allCtx b).map fun x => s.ctxAt xs n x) = 0 := by
    simpa [chSum] using congrArg (fun l => (l.map ctxCh).sum) (hoff b fun _ => true)
  have hfit (p : Nat) : s.portFits p (s.portBytes p ((allCtx true).map fun x => s.ctxAt xs n x)) = true := by
    simp [State.portFits, State.portBytes, hoff]
  have hfind : ((List.range 3).find? fun p => !s.portFits p (s.portBytes p ((allCtx true).map fun x => s.ctxAt xs n x))) = none := by
    simp [hfit]
  simp [State.totalsBad, hsum, hfind]

/-- The commit of one context that is not enabled passes, where its fields are sound and no other context is enabled. -/
theorem State.streamBad_of_off (h : ∀ y, ctxOn (s.ctxAt [x] n y) = false) (hx : ctxBadField (isTx x) (s.stagedCtx x) = false) :
    s.streamBad [x] n = none := by
  have hon : ctxOn (s.stagedCtx x) = false := by simpa [State.ctxAt] using h x
  simp [State.streamBad, State.ctxsBad, State.ctxBad, hon, hx, State.totalsBad_of_off h]

/-! ## The commit (R186, R339) -/

/-- A commit of staged contexts that passes, in a module without a partner, reads its list and is scheduled for its target. -/
theorem State.streamCommit_of_sound (hk : 1 ≤ cmdArg c 0 2) (hm : cmdArg c 0 2 ≤ 64) (h2 : twice (commitList c) = false)
    (hx : ∀ x ∈ commitList c, x / 512 % 64 = 0 ∧ q.stagedCtx x ≠ [] ∧ q.ctxPending x = false) (hf : q.streamCommits < 64)
    (hb : q.streamBad (commitList c) n = none) (hp : q.paired = false) (late : Bool) :
    q.streamCommit c n late = (((q.readHost (cmdArg c 8 8) (2 * cmdArg c 0 2)).schedule c n late
      (.streamCommit (commitList c) false) none).pendCounts, none) := by
  have hs := q.readHost_sameButHost (cmdArg c 8 8) (2 * cmdArg c 0 2)
  have hnum : ((commitList c).any fun x => x / 512 % 64 ≠ 0) = false := by
    simpa [List.any_eq_false] using fun x h => (hx x h).1
  have hstaged : ((commitList c).any fun x => (q.stagedCtx x).isEmpty) = false := by
    simpa [List.any_eq_false] using fun x h => (hx x h).2.1
  have hfree : (commitList c).any q.ctxPending = false := by simpa [List.any_eq_false] using fun x h => (hx x h).2.2
  simp only [State.streamCommit, State.acceptCommit, hs.stagedCtx, hs.ctxPending, hs.streamCommits, hs.streamBad, hs.paired, hnum, h2,
    hstaged, hfree, hb, hp]
  simp [show ¬ cmdArg c 0 2 = 0 by omega, Nat.not_lt.2 hm, Nat.not_le.2 hf]

theorem exec_streamCommit_of_sound (ht : s.Takes c 0x0031)
    (he : (s.takeCmd c.ring).earliest (s.issueTick c.ring) true ≤ cmdTarget c) (hn : cmdTarget c ≤ s.issueTick c.ring + 2 ^ 31)
    (h0 : cmdTarget c ≠ 0) (hs : (s.takeCmd c.ring).streamCommit c (cmdTarget c) false = (t, none)) :
    exec (.streamCommit c) s = .next t :=
  congrArg Host.Outcome.next (State.timedOr_of_in_time ht h0 he hn hs)

/-- A read of host memory sends its requests (R339). -/
theorem State.readHost_outbox (s : State) (a n : Nat) :
    (s.readHost a n).outbox = s.outbox ++ (pieces 512 (n / 512 + 1) a n).map fun p => .hostRead p.1 p.2 := by
  have h (ps : List (Nat × Nat)) (s : State) :
      (ps.foldl (fun s p => s.emit (.hostRead p.1 p.2)) s).outbox = s.outbox ++ ps.map fun p => .hostRead p.1 p.2 := by
    induction ps generalizing s with
    | nil => simp
    | cons p ps ih => simp [ih]
  exact h _ s

/-- A read of at least one byte sends at least one request. -/
theorem State.readHost_outbox_ne (s : State) (a : Nat) (hn : n ≠ 0) : (s.readHost a n).outbox ≠ s.outbox := by
  simp [State.readHost_outbox, pieces, hn]

theorem State.schedule_pendCounts_outbox (s : State) (c : HostCmd) (n : Nat) (late : Bool) (k : TimedKind) (p : Option Nat) :
    (s.schedule c n late k p).pendCounts.outbox = s.outbox := (State.pendCounts_onlyStatus _).outbox

/-! ## A command that the obligation is wrong about -/

/-- A receive context of one channel, not enabled. -/
def offCtx : List Byte := [0, 0, 1, 0] ++ List.replicate 62 0 ++ List.replicate 126 0xFF

/-- Ring 0 holds one command, and receive context 1 is staged, not enabled. -/
def offStaged : State :=
  let s := (State.reset.setFlag F.HIF_STATUS_bme true).setHif fun h => { h with active := true, late := true }
  (s.setRing 0 { en := true, prod := 1 }).setStr fun t => { t with rxStage := [(1, offCtx)] }

/-- STREAM_COMMIT of receive context 1 for tick 3. -/
def offCommit : HostCmd :=
  { ring := 0, desc := padTo 64 ([0x31, 0, 0, 0, 0, 0, 0, 0, 3] ++ List.replicate 7 0 ++ [1, 0]), data := [1, 0] }

theorem offStaged_takes : offStaged.Takes offCommit 0x0031 := ⟨by decide, by decide, by decide⟩

/-- No context is enabled when it has taken effect. -/
theorem offStaged_ctxAt_off (x : Nat) : ctxOn ((offStaged.takeCmd 0).ctxAt [1] 3 x) = false := by
  by_cases hx : x = 1
  · subst hx
    decide
  · have hnil : (offStaged.takeCmd 0).ctxAt [1] 3 x = (offStaged.takeCmd 0).activeCtx x := by
      simp [State.ctxAt, hx, show (offStaged.takeCmd 0).sched = [] from rfl]
    have hempty : (offStaged.takeCmd 0).activeCtx x = [] := by
      unfold State.activeCtx
      split <;> rfl
    rw [hnil, hempty]
    decide

theorem offStaged_streamBad : (offStaged.takeCmd 0).streamBad [1] 3 = none :=
  State.streamBad_of_off offStaged_ctxAt_off (by decide)

/-- Refutes O36: its clause about STREAM_COMMIT gives the whole next state and leaves out the read of the commit's list from host memory
(R339, R356), which goes out before the commit is scheduled. STREAM_COMMIT of a staged context that is not enabled meets every
premise of the clause, and sends one request more than it says. -/
theorem not_streamsAreStagedAndCommitted : ¬ Obligations.StreamsAreStagedAndCommitted := by
  unfold Obligations.StreamsAreStagedAndCommitted
  intro h
  obtain ⟨-, hcommit, -⟩ := h
  have he : (offStaged.takeCmd 0).earliest (offStaged.issueTick 0) true ≤ cmdTarget offCommit := by decide
  have hm : cmdTarget offCommit ≤ offStaged.issueTick 0 + 2 ^ 31 := by decide
  have h0 : cmdTarget offCommit ≠ 0 := by decide
  have hk : cmdArg offCommit 0 2 = 1 := by decide
  have h2 : twice (commitList offCommit) = false := by decide
  have hx : ∀ x ∈ commitList offCommit,
      x / 512 % 64 = 0 ∧ (offStaged.takeCmd 0).stagedCtx x ≠ [] ∧ (offStaged.takeCmd 0).ctxPending x = false := by
    decide
  have hf : (offStaged.takeCmd 0).streamCommits < 64 := by decide
  have hp : (offStaged.takeCmd 0).paired = false := by decide
  have hstated := hcommit offCommit offStaged offStaged_takes he hm h0 hk.ge (by omega) h2 hx hf offStaged_streamBad hp
  have hdone := exec_streamCommit_of_sound offStaged_takes he hm h0
    (State.streamCommit_of_sound hk.ge (by omega) h2 hx hf offStaged_streamBad hp false)
  have hout := congrArg State.outbox (Host.Outcome.next.inj (hdone.symm.trans hstated))
  rw [State.schedule_pendCounts_outbox, State.schedule_pendCounts_outbox] at hout
  exact State.readHost_outbox_ne _ _ (by omega) hout

end Sys2Proof.Machine
end

section
/-!
PROOFS. The launch of media packets (R192, R195, R198): what the one enabled stream of port A sends, and the refuted obligation that
lets a stream number be any number.
-/

namespace Sys2Proof.Machine

variable {s : State} {i n p : Nat} {c : List Byte} {k : TxPkt}

/-! ## The queue of a port (R198) -/

theorem State.txQueue_setTxQueue (s : State) (p r : Nat) (q : List TxPkt) :
    (s.setTxQueue p q).txQueue r = if p = r then q else s.txQueue r := Tbl.get_set _ _ _ _ _

/-- A queue without a packet that is late is left as it is. -/
theorem State.lateDrop_of_fresh (h : ∀ k ∈ s.txQueue p, ¬ k.tick + 2 ≤ s.tickNum) :
    s.lateDrop p = s.setTxQueue p (s.txQueue p) := by
  have hlate : (s.txQueue p).filter (fun k => k.tick + 2 ≤ s.tickNum) = [] := by simpa [List.filter_eq_nil_iff] using h
  have hkeep : (s.txQueue p).filter (fun k => !(k.tick + 2 ≤ s.tickNum)) = s.txQueue p := by simpa [List.filter_eq_self] using h
  simp only [State.lateDrop, hlate, hkeep, List.foldl_nil]

/-- A port with nothing queued sends nothing, and its queue and the others stay. -/
theorem State.drainPort_of_empty (h : s.txQueue p = []) :
    (s.drainPort p).outbox = s.outbox ∧ ∀ r, (s.drainPort p).txQueue r = s.txQueue r := by
  have hset (t : State) (ht : ∀ r, t.txQueue r = s.txQueue r) (r : Nat) : (t.setTxQueue p []).txQueue r = s.txQueue r := by
    rw [State.txQueue_setTxQueue, ht]
    split_ifs with hr
    · rw [← hr, h]
    · rfl
  have hd : s.lateDrop p = s.setTxQueue p [] := by rw [State.lateDrop_of_fresh (by simp [h]), h]
  have hq := hset s fun _ => rfl
  unfold State.drainPort
  simp only [hd, hq, h]
  split_ifs
  · exact ⟨rfl, hset _ hq⟩
  · exact ⟨rfl, hset _ hq⟩
  · exact ⟨rfl, hq⟩

/-- A port whose link is up and whose transmitter sends starts the one packet queued, where it is not late. -/
theorem State.drainPort_of_single (h : s.txQueue p = [k]) (hk : ¬ k.tick + 2 ≤ s.tickNum) (hl : s.flag (F.MAC_STATUS_link p) = true)
    (hs : s.portSends p = true) : s.drainPort p = ((s.setTxQueue p [k]).setTxQueue p []).startPkt p k := by
  have hd : s.lateDrop p = s.setTxQueue p [k] := by rw [State.lateDrop_of_fresh (by simpa [h] using hk), h]
  have hq : (s.setTxQueue p [k]).txQueue p = [k] := by simp [State.txQueue_setTxQueue]
  have hl' : (s.setTxQueue p [k]).flag (F.MAC_STATUS_link p) = true := hl
  have hs' : (s.setTxQueue p [k]).portSends p = true := hs
  simp [State.drainPort, hd, hq, hl', hs']

/-! ## The launch (R192, R195) -/

/-- A stream's packet is made once the launch and the stream's mr bit are noted and its sequence number stands in its status register
(R193, R195). -/
def State.numbered (s : State) (i n : Nat) (c : List Byte) : State :=
  (s.setStr fun t => { t with launched := true, mr := Tbl.set (fun _ => (false, 0)) t.mr i (s.nextMr i, t.steps) }).setFld
    (F.STR_TX_STATUS_seq i) (seqOf c n)

/-- The packet of stream i for tick n on port A. -/
def State.txPkt (s : State) (i n : Nat) (c : List Byte) : TxPkt :=
  { stream := i, tick := n, bytes := (s.numbered i n c).mediaFrame c 0 n (s.nextMr i) }

/-- A stream of port A alone queues one packet there. -/
theorem State.queueTx_of_portA (hc : Tbl.get (fun _ => []) s.str.txServe i = c) (h0 : ctxPort c 0 = true) (h1 : ctxPort c 1 = false)
    (h2 : ctxPort c 2 = false) : (s.setStr fun t => { t with launched := true }).queueTx i n =
      (s.numbered i n c).setTxQueue 0 (s.txQueue 0 ++ [s.txPkt i n c]) := by
  simp [State.queueTx, hc, List.range_succ, h0, h1, h2]
  rfl

/-- The launch of one enabled stream queues its packets and lets the ports send. -/
theorem State.launch_of_single (hi : s.mayIssue 15 = true) (hn : s.fab.comTick = some n) (hl : s.str.launched = false)
    (hr : s.ticking = true) (hw : s.withhold = false) (hs : s.str.txServe = [(i, c)]) (hc : ctxOn c = true) :
    s.launch = (List.range 3).foldl State.drainPort ((s.setStr fun t => { t with launched := true }).queueTx i n) := by
  have hw' : (s.setStr fun t => { t with launched := true }).withhold = false := hw
  have hon : (s.setStr fun t => { t with launched := true }).txOn = [i] := by simp [State.txOn, State.setStr, hs, hc]
  simp only [State.launch, hn, hl, hr, hi, hw', hon, Bool.not_true, Bool.or_false, Bool.false_eq_true, if_false, List.foldl_cons,
    List.foldl_nil]

/-- Numbering a packet leaves every field below bit 16 as it is. -/
theorem State.flag_numbered (s : State) (i n : Nat) (c : List Byte) {f : Fld} (h : f.hi < 16) :
    (s.numbered i n c).flag f = s.flag f := by
  rw [State.flag, State.numbered, State.fld_setFld_of_apart _ _ _ _ (by omega) (.inr (.inr h))]
  rfl

/-- Where only port A has a packet, the ports send that one. -/
theorem State.drainPorts_outbox (h0 : s.txQueue 0 = [k]) (hr : ∀ r, r ≠ 0 → s.txQueue r = []) (hk : ¬ k.tick + 2 ≤ s.tickNum)
    (hl : s.flag (F.MAC_STATUS_link 0) = true) (hs : s.portSends 0 = true) :
    ((List.range 3).foldl State.drainPort s).outbox = s.outbox ++ [.frame 0 k.bytes] := by
  have hA := State.drainPort_of_single h0 hk hl hs
  have hempty (r : Nat) : (s.drainPort 0).txQueue r = [] := by
    rw [hA]
    change (((s.setTxQueue 0 [k]).setTxQueue 0 []).txQueue r) = []
    simp only [State.txQueue_setTxQueue]
    split_ifs with h
    · rfl
    · exact hr r (Ne.symm h)
  obtain ⟨hB, hqB⟩ := State.drainPort_of_empty (hempty 1)
  obtain ⟨hC, -⟩ := State.drainPort_of_empty ((hqB 2).trans (hempty 2))
  have hports : (List.range 3).foldl State.drainPort s = ((s.drainPort 0).drainPort 1).drainPort 2 := by
    simp only [List.range_succ, List.range_zero, List.nil_append, List.cons_append, List.foldl_cons, List.foldl_nil]
  rw [hports, hC, hB, hA]
  rfl

/-- What TRANSMIT_LAUNCH sends of the one enabled stream, where it uses port A alone and nothing else is queued: its packet. -/
theorem exec_transmitLaunch_outbox (hi : s.mayIssue 15 = true) (hn : s.fab.comTick = some n) (ht : s.tickNum < n + 2)
    (hl : s.str.launched = false) (hr : s.ticking = true) (hw : s.withhold = false) (hs : s.str.txServe = [(i, c)])
    (hc : ctxOn c = true) (h0 : ctxPort c 0 = true) (h1 : ctxPort c 1 = false) (h2 : ctxPort c 2 = false)
    (hq : ∀ r, s.txQueue r = []) (hlink : s.flag (F.MAC_STATUS_link 0) = true) (hsend : s.portSends 0 = true) :
    ∃ t, exec .transmitLaunch s = .next t ∧ t.outbox = s.outbox ++ [.frame 0 (s.txPkt i n c).bytes] := by
  have hget : Tbl.get (fun _ => []) s.str.txServe i = c := by simp [hs, Tbl.get]
  refine ⟨_, congrArg Host.Outcome.next (State.launch_of_single hi hn hl hr hw hs hc), ?_⟩
  rw [State.queueTx_of_portA hget h0 h1 h2, hq 0, List.nil_append,
    State.drainPorts_outbox (k := s.txPkt i n c) (by simp [State.txQueue_setTxQueue])]
  · rfl
  · intro r hr0
    rw [State.txQueue_setTxQueue, if_neg (Ne.symm hr0)]
    exact hq r
  · exact Nat.not_le.2 ht
  · exact (State.flag_numbered s i n c (by decide)).trans hlink
  · have hsame : (s.numbered i n c).portSends 0 = s.portSends 0 := by
      simp [State.portSends, State.flag_numbered]
    exact hsame.trans hsend

/-! ## The source address of a frame (R192) -/

theorem State.length_macAddr (s : State) (p : Nat) : (s.macAddr p).length = 6 := by simp [State.macAddr, beBytes, leBytes]

/-- Bytes 6 to 11 of a media frame are the address of the port that sends it. -/
theorem State.slice_mediaFrame_source (hc : 12 ≤ c.length) (s : State) (p n : Nat) (mr : Bool) :
    slice (s.mediaFrame c p n mr) 6 6 = s.macAddr p := by
  have hdest : (slice c 6 6).length = 6 := by
    simp only [slice, List.length_take, List.length_drop]
    omega
  simp only [State.mediaFrame, withFcs, slice, List.append_assoc] at hdest ⊢
  rw [List.drop_left' hdest, List.take_left' (s.length_macAddr p)]

/-! ## A state that the obligation is wrong about -/

/-- An AAF context, enabled on port A. -/
def portACtx : List Byte := [0x21, 0, 1, 0] ++ List.replicate 188 0

/-- A number beyond the 512 transmit streams, for which R.STR_TX_STATUS gives the offset of R.MAC_ADDR_LO of port A. -/
def macStream : Nat := 0x2E001

/-- Tick 4 is committed, and port A is up; the one enabled transmit stream has that number. -/
def macLaunch : State :=
  let s := ((State.reset.setFlag F.TCK_STATUS_running true).setFlag F.TCK_STATUS_grid_valid true).setFlag (F.MAC_STATUS_link 0) true
  ((s.setFlag (F.MAC_CTRL_tx_en 0) true).setFab fun f => { f with comTick := some 4 }).setStr
    fun t => { t with txServe := [(macStream, portACtx)] }

/-- Its sequence number goes into the address before the packet is made. -/
theorem macLaunch_macAddr_ne : (macLaunch.numbered macStream 4 portACtx).macAddr 0 ≠ macLaunch.macAddr 0 := by decide

theorem macLaunch_txPkt_ne : (macLaunch.txPkt macStream 4 portACtx).bytes ≠
    macLaunch.mediaFrame portACtx 0 4 (macLaunch.nextMr macStream) := by
  intro h
  have hc : 12 ≤ portACtx.length := by
    rw [portACtx, List.length_append, List.length_replicate]
    decide
  have hsrc := congrArg (slice · 6 6) h
  simp only [State.txPkt, State.slice_mediaFrame_source hc] at hsrc
  exact macLaunch_macAddr_ne hsrc

/-- Refutes O37: its clause about the launch ranges over every number i of a transmit stream, where the module has 512 (chapter 06,
before R186). At i = 0x2E001 the offset of STR_TX_STATUS i is that of MAC_ADDR_LO of port A: the packet's sequence number (R195), which
the launch puts there first, changes the source address of the frame, and what is sent is not the frame that the clause gives. -/
theorem not_packetsAreSentAndReceived : ¬ Obligations.PacketsAreSentAndReceived := by
  unfold Obligations.PacketsAreSentAndReceived
  intro h
  obtain ⟨-, hlaunch, -⟩ := h macLaunch macStream 4 portACtx [] ⟨0, 0, []⟩ 0 0 0 [] true 0 0
  have hi : macLaunch.mayIssue 15 = true := by decide
  have ht : macLaunch.tickNum < 4 + 2 := by decide
  have hr : macLaunch.ticking = true := by decide
  have hw : macLaunch.withhold = false := by decide
  have hc : ctxOn portACtx = true := by decide
  have h0 : ctxPort portACtx 0 = true := by decide
  have h1 : ctxPort portACtx 1 = false := by decide
  have h2 : ctxPort portACtx 2 = false := by decide
  have hq : ∀ r, macLaunch.txQueue r = [] := fun _ => rfl
  have hlink : macLaunch.flag (F.MAC_STATUS_link 0) = true := by decide
  have hsend : macLaunch.portSends 0 = true := by decide
  obtain ⟨t, hx, hout, -⟩ := hlaunch hi rfl ht rfl hr hw rfl hc h0 h1 h2 hq hlink hsend
  obtain ⟨u, hu, hsent⟩ := exec_transmitLaunch_outbox hi rfl ht rfl hr hw rfl hc h0 h1 h2 hq hlink hsend
  have htu : t = u := Host.Outcome.next.inj (hx.symm.trans hu)
  rw [htu, hsent] at hout
  simp only [List.append_cancel_left_eq, List.cons.injEq, Out.frame.injEq, true_and, and_true] at hout
  exact macLaunch_txPkt_ne hout

end Sys2Proof.Machine
end

section
/-!
SUPPORT. The twin block (R216 to R246): what reads after an update of another part, and what each operation that gives ownership away
leaves of the twin block.
-/

namespace Sys2Proof.Machine

/-! ## Updates of other parts -/

section
variable (s : State) (f : Twin → Twin) (o : Nat) (g : Fld)

@[simp] theorem State.reg_setTwn : (s.setTwn f).reg o = s.reg o := rfl
@[simp] theorem State.fld_setTwn : (s.setTwn f).fld g = s.fld g := rfl
@[simp] theorem State.flag_setTwn : (s.setTwn f).flag g = s.flag g := rfl
@[simp] theorem State.pairState_setTwn : (s.setTwn f).pairState = s.pairState := rfl

end

section
variable {s t : State}

theorem State.fld_of_reg {f : Fld} (h : t.reg f.reg = s.reg f.reg) : t.fld f = s.fld f := by rw [State.fld, h, State.fld]

/-- A flag of another register, or of another bit, is left alone. -/
theorem State.flag_setFld_of_apart (s : State) (f g : Fld) (v : Nat) (hg : g.hi < 32)
    (h : f.reg ≠ g.reg ∨ f.hi < g.lo ∨ g.hi < f.lo) : (s.setFld f v).flag g = s.flag g := by
  rw [State.flag, State.fld_setFld_of_apart s f g v hg h, State.flag]

theorem State.flag_setFlag_of_apart (s : State) (f g : Fld) (b : Bool) (hg : g.hi < 32)
    (h : f.reg ≠ g.reg ∨ f.hi < g.lo ∨ g.hi < f.lo) : (s.setFlag f b).flag g = s.flag g :=
  s.flag_setFld_of_apart f g (bit b) hg h

/-- A fold keeps what each of its steps keeps. -/
theorem foldl_keeps {α β γ : Type} {f : β → α → β} (p : β → γ) (hf : ∀ b a, p (f b a) = p b) (l : List α) (b : β) :
    p (l.foldl f b) = p b := by
  induction l generalizing b with
  | nil => rfl
  | cons a l ih => exact (ih _).trans (hf b a)

@[simp] theorem State.postEvent_twn (s : State) (ty sub : Nat) (d : List Byte) : (s.postEvent ty sub d).twn = s.twn := by
  rcases s.postEvent_changes ty sub d with ⟨_, _, e⟩ | ⟨_, _, e⟩ <;> rw [e]
  rfl

end

/-! ## Messages (R228, R229) -/

/-- From `s` to `t` of the twin block change at most the messages that wait. -/
def State.OnlyMsgs (s t : State) : Prop := ∃ m n, t.twn = { s.twn with msgs := m, msgSeq := n }

namespace State.OnlyMsgs

variable {s t u : State}

theorem of_twn (h : t.twn = s.twn) : OnlyMsgs s t := ⟨_, _, h⟩

theorem refl (s : State) : OnlyMsgs s s := of_twn rfl

theorem trans (h : OnlyMsgs s t) (k : OnlyMsgs t u) : OnlyMsgs s u := by
  obtain ⟨_, _, e⟩ := h
  obtain ⟨_, _, e'⟩ := k
  rw [e] at e'
  exact ⟨_, _, e'⟩

theorem foldl {α : Type} {f : State → α → State} (hf : ∀ s a, OnlyMsgs s (f s a)) (l : List α) (s : State) : OnlyMsgs s (l.foldl f s) := by
  induction l generalizing s with
  | nil => exact refl s
  | cons a l ih => exact (hf s a).trans (ih _)

theorem sendMsg (s : State) (c : Nat) (b : List Byte) : OnlyMsgs s (s.sendMsg c b) := ⟨_, _, rfl⟩

theorem relayTwi (s : State) (p : TwiCmd → Bool) : OnlyMsgs s (s.relayTwi p) := by
  unfold State.relayTwi
  split_ifs
  · exact foldl (fun _ _ => sendMsg _ _ _) _ _
  · exact refl s

end State.OnlyMsgs

theorem State.finish_twn (s : State) (r tag op st d : Nat) : (s.finish r tag op st d).twn = s.twn := by
  unfold State.finish
  dsimp only
  split_ifs <;> rfl

theorem State.twiFinish_twn (s : State) (t : TwiCmd) (st d : Nat) : (s.twiFinish t st d).twn = s.twn := by
  unfold State.twiFinish
  dsimp only
  split_ifs
  · rfl
  · rfl
  · rfl
  · exact State.finish_twn _ _ _ _ _ _

/-- What one controller does when the owned pins are enabled or disabled (R463, R468). -/
def State.twiFollow (on : Bool) (s : State) (n : Nat) : State :=
  if !s.flag (F.TWI_C_CFG_en n) then s.setFld (F.TWI_C_STATUS_state n) 0
  else if !on then s.setFld (F.TWI_C_STATUS_state n) 5
  else if s.fld (F.TWI_C_STATUS_state n) = 0 || s.fld (F.TWI_C_STATUS_state n) = 5 then
    (s.setFld (F.TWI_C_STATUS_state n) 1).setHif fun h => { h with twiNew := h.twiNew ++ [n] }
  else s

theorem State.twiPins_eq (s : State) (on : Bool) : s.twiPins on =
    (List.range 3).foldl (State.twiFollow on) (if on then s else s.twiLose.setHif fun h => { h with twiNew := [] }) := rfl

theorem State.twiFollow_twn (on : Bool) (s : State) (n : Nat) : (State.twiFollow on s n).twn = s.twn := by
  unfold State.twiFollow
  split_ifs <;> rfl

theorem State.twiFollow_outbox (on : Bool) (s : State) (n : Nat) : (State.twiFollow on s n).outbox = s.outbox := by
  unfold State.twiFollow
  split_ifs <;> rfl

/-- Enabling the owned pins changes the controllers' states alone, no part of the twin block (R468). -/
theorem State.twiPins_true_twn (s : State) : (s.twiPins true).twn = s.twn :=
  foldl_keeps State.twn (State.twiFollow_twn true) _ _

theorem State.twiLose_onlyMsgs (s : State) : s.OnlyMsgs s.twiLose := by
  unfold State.twiLose
  refine .trans ?_ (.of_twn (foldl_keeps State.twn (fun s t => s.twiFinish_twn t _ _) _ _))
  split_ifs
  · exact .relayTwi _ _
  · exact .refl s

theorem State.twiPins_onlyMsgs (s : State) (on : Bool) : s.OnlyMsgs (s.twiPins on) := by
  rw [State.twiPins_eq]
  refine .trans ?_ (.of_twn (foldl_keeps State.twn (State.twiFollow_twn on) _ _))
  split_ifs
  · exact .refl s
  · exact s.twiLose_onlyMsgs.trans (.of_twn rfl)

/-! ## The pins and the OWN line (R216, R218, R219) -/

theorem State.setPins_of_eq {s : State} {on : Bool} (h : s.isOwner = on) : s.setPins on = s := if_pos h

theorem State.setPins_of_ne {s : State} {on : Bool} (h : s.isOwner ≠ on) :
    s.setPins on = ((s.setTwn fun t => { t with pins := on }).twiPins on).emit (.pin "OWNED" 0 on) := if_neg h

theorem State.setPins_twn (s : State) (on : Bool) :
    ∃ m n, (s.setPins on).twn = { s.twn with pins := on, msgs := m, msgSeq := n } := by
  by_cases h : s.isOwner = on
  · rw [State.setPins_of_eq h, ← h]
    exact ⟨_, _, rfl⟩
  · obtain ⟨m, n, e⟩ := (s.setTwn fun t => { t with pins := on }).twiPins_onlyMsgs on
    rw [State.setPins_of_ne h, State.emit_twn, e]
    exact ⟨m, n, rfl⟩

theorem State.setPins_true_twn (s : State) : (s.setPins true).twn = { s.twn with pins := true } := by
  by_cases h : s.isOwner = true
  · rw [State.setPins_of_eq h, ← h]
    rfl
  · rw [State.setPins_of_ne h, State.emit_twn, State.twiPins_true_twn]
    rfl

@[simp] theorem State.isOwner_setPins (s : State) (on : Bool) : (s.setPins on).isOwner = on := by
  obtain ⟨_, _, e⟩ := s.setPins_twn on
  rw [State.isOwner, e]

@[simp] theorem State.setOwnOut_twn (s : State) (on : Bool) : (s.setOwnOut on).twn = { s.twn with ownOut := on } := by
  by_cases h : s.twn.ownOut = on
  · rw [State.setOwnOut, if_pos h, ← h]
  · exact congrArg State.twn (if_neg h)

/-! ## What giving ownership away leaves (R217, R222, R242, R443) -/

/-- From `s` to `t` of the twin block change at most the pins, the own OWN line with its times, the handover, the revert hold and the
messages that wait; and pins that were disabled stay so. -/
structure State.GivesUp (s t : State) : Prop where
  frame : ∃ p o c d e h q r m n, t.twn = { s.twn with
    pins := p, ownOut := o, settling := c, collided := d, enter := e, ho := h, hoReq := q, revU := r, msgs := m, msgSeq := n }
  pins : s.isOwner = false → t.isOwner = false

namespace State.GivesUp

variable {s t u : State}

theorem of_twn (h : t.twn = s.twn) : GivesUp s t := ⟨⟨_, _, _, _, _, _, _, _, _, _, h⟩, fun k => by rw [State.isOwner, h]; exact k⟩

theorem refl (s : State) : GivesUp s s := of_twn rfl

theorem trans (h : GivesUp s t) (k : GivesUp t u) : GivesUp s u := by
  refine ⟨?_, fun hp => k.pins (h.pins hp)⟩
  obtain ⟨_, _, _, _, _, _, _, _, _, _, e⟩ := h.frame
  obtain ⟨_, _, _, _, _, _, _, _, _, _, e'⟩ := k.frame
  rw [e] at e'
  exact ⟨_, _, _, _, _, _, _, _, _, _, e'⟩

theorem ite {c : Prop} [Decidable c] (h : c → GivesUp s t) (k : ¬c → GivesUp s u) : GivesUp s (if c then t else u) := by
  split_ifs with hc
  · exact h hc
  · exact k hc

theorem foldl {α : Type} {f : State → α → State} (hf : ∀ s a, GivesUp s (f s a)) (l : List α) (s : State) : GivesUp s (l.foldl f s) := by
  induction l generalizing s with
  | nil => exact refl s
  | cons a l ih => exact (hf s a).trans (ih _)

section
variable (h : GivesUp s t)
include h

theorem ownIn : t.twn.ownIn = s.twn.ownIn := by obtain ⟨_, _, _, _, _, _, _, _, _, _, e⟩ := h.frame; rw [e]
theorem partner : t.twn.partner = s.twn.partner := by obtain ⟨_, _, _, _, _, _, _, _, _, _, e⟩ := h.frame; rw [e]

end

/-! ### The operations -/

theorem setFlt (s : State) (f : Flt → Flt) : GivesUp s (s.setFlt f) := of_twn rfl

theorem setPins_false (s : State) : GivesUp s (s.setPins false) := by
  obtain ⟨_, _, e⟩ := s.setPins_twn false
  exact ⟨⟨_, _, _, _, _, _, _, _, _, _, e⟩, fun _ => s.isOwner_setPins false⟩

theorem setOwnOut (s : State) (on : Bool) : GivesUp s (s.setOwnOut on) :=
  ite (fun _ => refl s) fun _ => ⟨⟨_, _, _, _, _, _, _, _, _, _, rfl⟩, id⟩

theorem endHandover (s : State) (r : Nat) : GivesUp s (s.endHandover r) := ⟨⟨_, _, _, _, _, _, _, _, _, _, rfl⟩, id⟩

theorem cancelHandover (s : State) (r : Nat) : GivesUp s (s.cancelHandover r) :=
  ite (fun _ => refl s) fun _ => ite (fun _ => endHandover _ _) fun _ =>
    (endHandover _ _).trans (ite (fun _ => refl _) fun _ => setPins_false _)

theorem releaseOwn (s : State) : GivesUp s s.releaseOwn := by
  unfold State.releaseOwn
  extract_lets s1 s2 s3
  have h : GivesUp s s3 := ((setPins_false _).trans (setOwnOut _ _)).trans ⟨⟨_, _, _, _, _, _, _, _, _, _, rfl⟩, id⟩
  split
  · exact ite (fun _ => h) fun _ => h.trans (cancelHandover _ _)
  · exact h

theorem proposeHandover (s : State) (h : Nat) (late y : Bool) : GivesUp s (s.proposeHandover h late y) :=
  ⟨⟨_, _, _, _, _, _, _, _, _, _, rfl⟩, id⟩

theorem ask (s : State) (q : HoReq) : GivesUp s (s.setTwn fun t => { t with hoReq := some q }) :=
  ⟨⟨_, _, _, _, _, _, _, _, _, _, rfl⟩, id⟩

theorem yieldOwn (s : State) : GivesUp s s.yieldOwn := by
  unfold State.yieldOwn
  refine ite (fun _ => releaseOwn s) fun _ => ite (fun _ => ite (fun _ => ?_) fun _ => releaseOwn s) fun _ =>
    ite (fun _ => releaseOwn s) fun _ => refl s
  split
  · exact ite (fun _ => refl s) fun _ => releaseOwn s
  · split
    · exact ite (fun _ => ask _ _) fun _ => proposeHandover _ _ _ _
    · exact proposeHandover _ _ _ _

theorem react (s : State) (o : Occ) (lvl : Nat) : GivesUp s (s.react o lvl) := by
  unfold State.react
  extract_lets k s1 s0 s2
  have h1 : GivesUp s s1 := ite (fun _ => setFlt _ _) fun _ => refl s
  have h2 : GivesUp s s2 := ite (fun _ => (h1.trans (setFlt _ _)).trans
    (ite (fun _ => releaseOwn _) fun _ => yieldOwn _)) fun _ => h1
  exact ite (fun _ => h2.trans (of_twn rfl)) fun _ => h2

theorem setBit64 (s : State) (lo hi i : Nat) (b : Bool) : GivesUp s (s.setBit64 lo hi i b) :=
  ite (fun _ => of_twn rfl) fun _ => of_twn rfl

theorem logFault (s : State) (o : Occ) (lvl : Nat) (esc : Bool) (seq : Nat) : GivesUp s (s.logFault o lvl esc seq) := by
  unfold State.logFault
  extract_lets wp net e s1 s2 s3
  have h1 : GivesUp s s1 := ite (fun _ => of_twn rfl) fun _ => refl s
  have h3 : GivesUp s s3 := h1.trans (of_twn rfl)
  exact ite (fun _ => h3.trans (of_twn rfl)) fun _ => h3

theorem setWorst (s : State) : GivesUp s s.setWorst := of_twn rfl

theorem breakRevert (s : State) (b : Bool) : GivesUp s (s.breakRevert b) :=
  ite (fun _ => ⟨⟨_, _, _, _, _, _, _, _, _, _, rfl⟩, id⟩) fun _ => refl s

/-- A fault's reaction may take ownership away, and breaks the revert hold (R245, R443, R444). -/
theorem raiseOcc (s : State) (o : Occ) : GivesUp s (s.raiseOcc o) := by
  unfold State.raiseOcc
  extract_lets c esc lvl was r tagged s1 s2 seq s3 s4 s5 s6 s7 add r1 first logged s8 r2 posts s9
  have h1 : GivesUp s s1 := ite (fun _ => setBit64 _ _ _ _ _) fun _ => refl s
  have h2 : GivesUp s s2 := ite (fun _ => h1.trans (setBit64 _ _ _ _ _)) fun _ => h1
  have h4 : GivesUp s s4 := h2.trans (of_twn rfl)
  have h5 : GivesUp s s5 := ite (fun _ => h4.trans (of_twn rfl)) fun _ => h4
  have h7 : GivesUp s s7 := (h5.trans (setBit64 _ _ _ _ _)).trans (setBit64 _ _ _ _ _)
  have h8 : GivesUp s s8 := ite (fun _ => h7.trans (logFault _ _ _ _ _)) fun _ => h7
  have h9 : GivesUp s s9 := ite (fun _ => (h8.trans (of_twn (State.postEvent_twn _ _ _ _))).trans (of_twn rfl)) fun _ => h8.trans (of_twn rfl)
  exact ((h9.trans (react _ _ _)).trans (setWorst _)).trans (breakRevert _ _)

end State.GivesUp

end Sys2Proof.Machine
end

section
/-!
SUPPORT. The end of a handover and the release of OWN (R219, R222, R242): what they leave of the twin block, and what they drive.
-/

namespace Sys2Proof.Machine

variable {s : State}

/-! ## The end of a handover (R242) -/

@[simp] theorem State.endHandover_twn (s : State) (r : Nat) : (s.endHandover r).twn = { s.twn with ho := none, hoReq := none } := rfl
@[simp] theorem State.endHandover_outbox (s : State) (r : Nat) : (s.endHandover r).outbox = s.outbox := rfl

theorem State.fld_endHandover_result (s : State) (r : Nat) : (s.endHandover r).fld F.TWN_HO_CTRL_result = r % 16 :=
  State.fld_setFld_self _ _ _ (by decide)

theorem State.flag_endHandover_busy (s : State) (r : Nat) : (s.endHandover r).flag F.TWN_HO_CTRL_busy = false :=
  (State.flag_setFld_of_apart _ _ _ _ (by decide) (by decide)).trans (State.flag_setFlag_self _ _ _ (by decide) rfl)

theorem State.endHandover_reacts (s : State) (r : Nat) : s.Reacts [R.TWN_HO_CTRL] (s.endHandover r) :=
  ((State.Reacts.setTwn _ _).trans (.setFlag (by decide) _ _)).trans (.setFld (by decide) _ _)

theorem State.cancelHandover_of_none (h : s.twn.ho = none) (hq : s.twn.hoReq = none) (r : Nat) : s.cancelHandover r = s := by
  simp [State.cancelHandover, h, hq]

theorem State.cancelHandover_of_asked {q : HoReq} (h : s.twn.ho = none) (hq : s.twn.hoReq = some q) (r : Nat) :
    s.cancelHandover r = s.endHandover r := by
  simp [State.cancelHandover, h, hq]

theorem State.cancelHandover_of_armed {x : Handover} (h : s.twn.ho = some x) (r : Nat) :
    s.cancelHandover r = (s.endHandover r).pinsFollow := by
  simp [State.cancelHandover, h]

/-- Where the pins are disabled already, R219 has nothing to disable. -/
theorem State.pinsFollow_of_not_owner (h : s.isOwner = false) : s.pinsFollow = s := by
  unfold State.pinsFollow
  split_ifs
  · rfl
  · exact State.setPins_of_eq h

theorem State.ownOut_cancelHandover (s : State) (r : Nat) : (s.cancelHandover r).twn.ownOut = s.twn.ownOut := by
  unfold State.cancelHandover State.pinsFollow
  split_ifs
  · rfl
  · rfl
  · rfl
  · obtain ⟨_, _, e⟩ := (s.endHandover r).setPins_twn false
    rw [e]
    rfl

theorem State.cancelHandover_outbox_of_not_owner (h : s.isOwner = false) (r : Nat) : (s.cancelHandover r).outbox = s.outbox := by
  unfold State.cancelHandover
  split_ifs
  · rfl
  · rfl
  · have hp : (s.endHandover r).isOwner = false := h
    rw [State.pinsFollow_of_not_owner hp]
    rfl

/-! ## The release of OWN (R222) -/

/-- The pins disabled, then OWN_OUT_N released: what R222 does before it looks at a handover. -/
def State.ownReleased (s : State) : State :=
  ((s.setPins false).setOwnOut false).setTwn fun t => { t with settling := false, collided := false, enter := [] }

theorem State.releaseOwn_eq (s : State) : s.releaseOwn = s.ownReleased ∨ s.releaseOwn = s.ownReleased.cancelHandover 6 := by
  have e : s.releaseOwn = match s.ownReleased.twn.ho with
    | some h => if h.outgoing && h.owned then s.ownReleased else s.ownReleased.cancelHandover 6
    | none => s.ownReleased := rfl
  rw [e]
  split
  · split_ifs
    · exact .inl rfl
    · exact .inr rfl
  · exact .inl rfl

theorem State.isOwner_ownReleased (s : State) : s.ownReleased.isOwner = false := by
  change (s.setPins false |>.setOwnOut false).isOwner = false
  rw [State.isOwner, State.setOwnOut_twn]
  exact s.isOwner_setPins false

theorem State.ownOut_ownReleased (s : State) : s.ownReleased.twn.ownOut = false := by
  simp [State.ownReleased]

theorem State.isOwner_releaseOwn (s : State) : s.releaseOwn.isOwner = false := by
  rcases s.releaseOwn_eq with e | e <;> rw [e]
  · exact s.isOwner_ownReleased
  · exact (State.GivesUp.cancelHandover _ _).pins s.isOwner_ownReleased

theorem State.ownOut_releaseOwn (s : State) : s.releaseOwn.twn.ownOut = false := by
  rcases s.releaseOwn_eq with e | e <;> rw [e]
  · exact s.ownOut_ownReleased
  · exact (State.ownOut_cancelHandover _ _).trans s.ownOut_ownReleased

/-- With no request to a two-wire controller, disabling the pins ends none. -/
theorem State.twiLose_of_idle (h : s.hif.twi = []) : s.twiLose = s := by simp [State.twiLose, State.relayTwi, h]

theorem State.setPins_false_outbox (ho : s.isOwner = true) (ht : s.hif.twi = []) :
    (s.setPins false).outbox = s.outbox ++ [.pin "OWNED" 0 false] := by
  have hne : s.isOwner ≠ false := by simp [ho]
  have ht' : (s.setTwn fun t => { t with pins := false }).hif.twi = [] := ht
  rw [State.setPins_of_ne hne, State.emit_outbox, State.twiPins_eq, foldl_keeps State.outbox (State.twiFollow_outbox false),
    State.twiLose_of_idle ht']
  rfl

/-- An owner with no request to a two-wire controller drives the two lines, and nothing else. -/
theorem State.releaseOwn_outbox (ho : s.isOwner = true) (h : s.twn.ownOut = true) (ht : s.hif.twi = []) :
    s.releaseOwn.outbox = s.outbox ++ [.pin "OWNED" 0 false, .pin "OWN_OUT_N" 0 true] := by
  have hr : s.ownReleased.outbox = s.outbox ++ [.pin "OWNED" 0 false, .pin "OWN_OUT_N" 0 true] := by
    obtain ⟨_, _, e⟩ := s.setPins_twn false
    have hne : (s.setPins false).twn.ownOut ≠ false := by simp [e, h]
    change ((s.setPins false).setOwnOut false).outbox = _
    rw [State.setOwnOut, if_neg hne, State.emit_outbox, State.setTwn_outbox, State.setPins_false_outbox ho ht]
    simp
  rcases s.releaseOwn_eq with e | e <;> rw [e]
  · exact hr
  · exact (State.cancelHandover_outbox_of_not_owner s.isOwner_ownReleased _).trans hr

end Sys2Proof.Machine
end

section
/-!
SUPPORT. What reference 6 following its conditions may change (R282 to R297): a change of the reference, or of the DPLL's state,
leaves memory, the twin block, the fault collector, the FREE count and the twin block's registers.
-/

namespace Sys2Proof.Machine

/-- The offset of a register of the twin block (R516). -/
abbrev isTwnReg (o : Nat) : Prop := 0x480000 ≤ o ∧ o < 0x490000

/-- From `s` to `t` change at most what the clock block, the mute of its channels and its events touch: no register of the twin block
does, and the FREE count goes on. -/
structure State.Reclocks (s t : State) : Prop where
  frame : ∃ r z a c x h o m n,
    t = { s with regs := r, sets := z, applied := a, clk := c, clkx := x, hif := h, outbox := o, amp := m, fresh := n }
  freeU : t.clk.freeU = s.clk.freeU
  keeps : ∀ o, isTwnReg o → t.reg o = s.reg o

namespace State.Reclocks

variable {s t u : State}

theorem refl (s : State) : Reclocks s s := ⟨⟨_, _, _, _, _, _, _, _, _, rfl⟩, rfl, fun _ _ => rfl⟩

theorem trans (h : Reclocks s t) (k : Reclocks t u) : Reclocks s u := by
  refine ⟨?_, k.freeU.trans h.freeU, fun o ho => (k.keeps o ho).trans (h.keeps o ho)⟩
  obtain ⟨_, _, _, _, _, _, _, _, _, rfl⟩ := h.frame
  obtain ⟨_, _, _, _, _, _, _, _, _, rfl⟩ := k.frame
  exact ⟨_, _, _, _, _, _, _, _, _, rfl⟩

theorem ite {c : Prop} [Decidable c] (h : c → Reclocks s t) (k : ¬c → Reclocks s u) : Reclocks s (if c then t else u) := by
  split_ifs with hc
  · exact h hc
  · exact k hc

theorem foldl {α : Type} {f : State → α → State} (hf : ∀ s a, Reclocks s (f s a)) (l : List α) (s : State) : Reclocks s (l.foldl f s) := by
  induction l generalizing s with
  | nil => exact refl s
  | cons a l ih => exact (hf s a).trans (ih _)

section
variable (h : Reclocks s t)
include h

theorem mem : t.mem = s.mem := by obtain ⟨_, _, _, _, _, _, _, _, _, rfl⟩ := h.frame; rfl
theorem twn : t.twn = s.twn := by obtain ⟨_, _, _, _, _, _, _, _, _, rfl⟩ := h.frame; rfl
theorem flt : t.flt = s.flt := by obtain ⟨_, _, _, _, _, _, _, _, _, rfl⟩ := h.frame; rfl
theorem isOwner : t.isOwner = s.isOwner := by rw [State.isOwner, h.twn, State.isOwner]
theorem fld {f : Fld} (hf : isTwnReg f.reg) : t.fld f = s.fld f := State.fld_of_reg (h.keeps _ hf)
theorem flag {f : Fld} (hf : isTwnReg f.reg) : t.flag f = s.flag f := State.flag_of_reg (h.keeps _ hf)
theorem pairState : t.pairState = s.pairState := h.fld (by decide)

end

/-! ## The plain updates -/

theorem put {o : Nat} (ho : ¬ isTwnReg o) (s : State) (w : Word) : Reclocks s (s.put o w) :=
  ⟨⟨_, _, _, _, _, _, _, _, _, rfl⟩, rfl, fun _ ha => s.reg_put_of_ne w fun e => ho (e ▸ ha)⟩

theorem setFld {f : Fld} (hf : ¬ isTwnReg f.reg) (s : State) (v : Nat) : Reclocks s (s.setFld f v) := put hf s _

theorem setFlag {f : Fld} (hf : ¬ isTwnReg f.reg) (s : State) (b : Bool) : Reclocks s (s.setFlag f b) :=
  ⟨⟨_, _, _, _, _, _, _, _, _, rfl⟩, rfl, (setFld hf s (bit b)).keeps⟩

theorem count {o : Nat} (ho : ¬ isTwnReg o) (s : State) : Reclocks s (s.count o) := put ho s _

theorem putPair {lo hi : Nat} (hl : ¬ isTwnReg lo) (hh : ¬ isTwnReg hi) (s : State) (v : Nat) : Reclocks s (s.putPair lo hi v) :=
  (put hl s _).trans (put hh _ _)

theorem putApp (s : State) (o : Nat) (w : Word) : Reclocks s (s.putApp o w) := ⟨⟨_, _, _, _, _, _, _, _, _, rfl⟩, rfl, fun _ _ => rfl⟩
theorem setClkx (s : State) (f : ClkX → ClkX) : Reclocks s (s.setClkx f) := ⟨⟨_, _, _, _, _, _, _, _, _, rfl⟩, rfl, fun _ _ => rfl⟩
theorem setAmp (s : State) (f : Amp → Amp) : Reclocks s (s.setAmp f) := ⟨⟨_, _, _, _, _, _, _, _, _, rfl⟩, rfl, fun _ _ => rfl⟩
theorem tick1 (s : State) : Reclocks s s.tick1 := ⟨⟨_, _, _, _, _, _, _, _, _, rfl⟩, rfl, fun _ _ => rfl⟩
theorem setGridU (s : State) (n : Nat) : Reclocks s (s.setGridU n) := ⟨⟨_, _, _, _, _, _, _, _, _, rfl⟩, rfl, fun _ _ => rfl⟩

theorem of_sameButHost (h : s.SameButHost t) : Reclocks s t := by
  obtain ⟨_, _, rfl⟩ := h
  exact ⟨⟨_, _, _, _, _, _, _, _, _, rfl⟩, rfl, fun _ _ => rfl⟩

theorem postEvent (s : State) (ty sub : Nat) (d : List Byte) : Reclocks s (s.postEvent ty sub d) := by
  rcases s.postEvent_changes ty sub d with h | h
  · exact of_sameButHost h
  · exact (count (by decide) s).trans (of_sameButHost h)

/-! ## The DCO and the channels that its error mutes (R275, R280, R281) -/

theorem putAmp1 (s : State) (c : Nat) (x : AmpCh) : Reclocks s (s.putAmp1 c x) := by
  refine ((setAmp s _).trans (setFld ?_ _ _)).trans (setFlag (by decide) _ _)
  simp only [isTwnReg, R.MOD_CH_STATUS]
  omega

theorem muteCh (s : State) (err : Bool) (c : Nat) : Reclocks s (s.muteCh err c) := by
  unfold State.muteCh
  dsimp only
  split
  · exact putAmp1 _ _ _
  · exact putAmp1 _ _ _
  · exact ite (fun _ => refl s) fun _ => putAmp1 _ _ _
  · exact refl s

theorem mclkCheck (s : State) : Reclocks s s.mclkCheck := by
  unfold State.mclkCheck
  extract_lets long err s1
  have h1 : Reclocks s s1 := setFlag (by decide) _ _
  exact ite (fun _ => h1.trans ((setFlag (by decide) _ _).trans (foldl (fun _ _ => muteCh _ _ _) _ _))) fun _ => h1

theorem noteDco (s : State) : Reclocks s s.noteDco := by
  unfold State.noteDco
  exact setClkx _ _

theorem setRate (s : State) (r : Int) : Reclocks s (s.setRate r) :=
  ((((putApp _ _ _).trans (putApp _ _ _)).trans (putApp _ _ _)).trans (putApp _ _ _)).trans (putApp _ _ _)

theorem setDco (s : State) (ppt : Int) : Reclocks s (s.setDco ppt) := by
  unfold State.setDco
  extract_lets s1 v s2 at0 s3 s4
  have h3 : Reclocks s s3 := (((noteDco s).trans (put (by decide) _ _)).trans (setFlag (by decide) _ _)).trans (setClkx _ _)
  have h4 : Reclocks s s4 := ite (fun _ => h3.trans (setRate _ _)) fun _ => h3
  exact h4.trans (mclkCheck _)

theorem setDpll (s : State) (v : Nat) : Reclocks s (s.setDpll v) :=
  ((noteDco s).trans (setFld (by decide) _ _)).trans (setClkx _ _)

theorem predict (s : State) : Reclocks s s.predict := ((noteDco s).trans (put (by decide) _ _)).trans (tick1 _)

theorem toHoldover (s : State) : Reclocks s s.toHoldover := by
  unfold State.toHoldover
  extract_lets s1 s2
  have h1 : Reclocks s s1 := (setFld (by decide) s _).trans (setFlag (by decide) _ _)
  have h2 : Reclocks s s2 := ((h1.trans (setDpll _ _)).trans ((setFld (by decide) _ _).trans (setFlag (by decide) _ _))).trans (predict _)
  exact ite (fun _ => ite (fun _ => h2) fun _ => h2.trans (setDco _ _)) fun _ => h1.trans (setDpll _ _)

/-! ## Selection of a reference (R287 to R293) -/

theorem moveTime (s : State) (ps : Int) : Reclocks s (s.moveTime ps) := by
  unfold State.moveTime
  extract_lets o s1
  have h1 : Reclocks s s1 := ite (fun _ => ((putApp _ _ _).trans (putApp _ _ _)).trans (putApp _ _ _)) fun _ => refl s
  exact h1.trans (setGridU _ _)

theorem setBuildout (s : State) (i : Int) : Reclocks s (s.setBuildout i) := putPair (by decide) (by decide) _ _

theorem switchOffset (s : State) (old new : Nat) : Reclocks s (s.switchOffset old new) :=
  ite (fun _ => moveTime _ _) fun _ =>
    ite (fun _ => ite (fun _ => setClkx _ _) fun _ => setBuildout _ _) fun _ =>
      ite (fun _ => setClkx _ _) fun _ => setBuildout _ _

theorem switchTo (s : State) (old new : Nat) : Reclocks s (s.switchTo old new) :=
  ((((((switchOffset s old new).trans (setFld (by decide) _ _)).trans (setFlag (by decide) _ _)).trans
    (setFlag (by decide) _ _)).trans ((setDpll _ _).trans (setClkx _ _))).trans (count (by decide) _)).trans (postEvent _ _ _ _)

theorem reselect (s : State) : Reclocks s s.reselect := by
  unfold State.reselect
  dsimp only
  split
  · exact ite (fun _ => refl s) fun _ => toHoldover s
  · refine ite (fun _ => switchTo _ _ _) fun _ => ite (fun _ => refl s) fun _ =>
      ite (fun _ => ite (fun _ => refl s) fun _ => switchTo _ _ _) fun _ => ite (fun _ => switchTo _ _ _) fun _ => refl s

/-! ## A reference's state (R283 to R286) -/

theorem refStatus (s : State) (n : Nat) : Reclocks s (s.refStatus n) := by
  have h : ¬ isTwnReg (R.CLK_REF_STATUS n) := by simp only [isTwnReg, R.CLK_REF_STATUS]; omega
  exact ((setFld h _ _).trans (setFld h _ _)).trans (setFld h _ _)

theorem setRef (s : State) (n : Nat) (r : Ref) : Reclocks s (s.setRef n r) := (setClkx _ _).trans (refStatus _ _)

theorem pruneDisputes (s : State) : Reclocks s s.pruneDisputes :=
  (setClkx _ _).trans (foldl (fun _ _ => (refStatus _ _).trans (refStatus _ _)) _ _)

theorem refBreak (s : State) (n : Nat) (act : Bool) : Reclocks s (s.refBreak n act) := by
  unfold State.refBreak
  extract_lets r s1 s2 after
  have h1 : Reclocks s s1 := setRef _ _ _
  have h2 : Reclocks s s2 := ((h1.trans (pruneDisputes _)).trans (count (by decide) _)).trans (setFlag (by decide) _ _)
  exact ite (fun _ => h1) fun _ => (h2.trans (postEvent _ _ _ _)).trans (reselect _)

/-- Reference 6 follows its conditions without a change of the twin block (R286). -/
theorem ref6 (s : State) : Reclocks s s.ref6 :=
  ite (fun _ => refl s) fun _ => ite (fun _ => refBreak _ _ _) fun _ => (setRef _ _ _).trans (reselect _)

end State.Reclocks

end Sys2Proof.Machine
end

section
/-!
PROOFS. The OWN interlock (R218 to R223, R243).
-/

namespace Sys2Proof.Machine

variable {s : State}

theorem State.ifOn_of_on {d : Nat} (h : s.domOn d = true) (f : State → State) : s.ifOn d f = f s := if_pos h

theorem State.ifOn_of_off {d : Nat} (h : s.domOn d = false) (f : State → State) : s.ifOn d f = s := if_neg (by simp [h])

theorem State.yielding_of_nil (h : s.flt.yield = []) : s.yielding = false := by simp [State.yielding, h]

theorem State.yielding_of_ne (h : s.flt.yield ≠ []) : s.yielding = true := by simp [State.yielding, h]

/-! ## The partner's OWN (R218, R219, R223, R243) -/

theorem exec_partnerOwnAssert_of_on (h : s.domOn 1 = true) : exec .partnerOwnAssert s = .next s.partnerAsserts :=
  congrArg Host.Outcome.next (State.ifOn_of_on h _)

theorem exec_ownGuardExpire_of_on (h : s.domOn 1 = true) : exec .ownGuardExpire s = .next s.guardExpires :=
  congrArg Host.Outcome.next (State.ifOn_of_on h _)

/-- What the twin block notes of the partner's assertion (R218, R220). -/
def State.partnerNoted (s : State) : State := s.setTwn fun t => { t with
  ownIn := true, ownNow := true, guardOk := false, relAt := none, takeover := false, barred := false, collided := t.collided || t.settling
  collisions := if s.longReleased then 0 else t.collisions }

theorem State.partnerAsserts_eq (s : State) : s.partnerAsserts =
    if s.partnerNoted.isOwner && s.partnerNoted.twn.ho.isNone then
      ((s.partnerNoted.setPins false).setFlag F.TWN_STATUS_own_conflict true).raise 20 0
    else s.partnerNoted := rfl

theorem State.partnerAsserts_of_not_owner (h : s.isOwner = false) : s.partnerAsserts = s.partnerNoted := by
  have hn : s.partnerNoted.isOwner = false := h
  simp [State.partnerAsserts_eq, hn]

theorem State.partnerAsserts_of_owner (h : s.isOwner = true) (hh : s.twn.ho = none) :
    s.partnerAsserts = ((s.partnerNoted.setPins false).setFlag F.TWN_STATUS_own_conflict true).raise 20 0 := by
  have hn : s.partnerNoted.isOwner = true := h
  have ho : s.partnerNoted.twn.ho = none := hh
  simp [State.partnerAsserts_eq, hn, ho]

/-- An owner that sees the partner's OWN loses its pins, and the conflict is raised (R223). -/
theorem State.partnerAsserts_conflict (h : s.isOwner = true) (hh : s.twn.ho = none) :
    s.partnerAsserts.isOwner = false ∧ s.partnerAsserts.twn.ownIn = true ∧ s.partnerAsserts.flag F.TWN_STATUS_own_conflict = true ∧
      s.partnerAsserts.latched 20 = true ∧ s.partnerAsserts.mem = s.mem := by
  rw [State.partnerAsserts_of_owner h hh]
  obtain ⟨u, hu⟩ : ∃ u, u = (s.partnerNoted.setPins false).setFlag F.TWN_STATUS_own_conflict true := ⟨_, rfl⟩
  have htwn : u.twn = (s.partnerNoted.setPins false).twn := hu ▸ rfl
  have hown : u.isOwner = false := by rw [State.isOwner, htwn]; exact State.isOwner_setPins _ _
  have hflag : u.flag F.TWN_STATUS_own_conflict = true := hu ▸ State.flag_setFlag_self _ _ _ (by decide) rfl
  have hin : u.twn.ownIn = true := by rw [htwn, (State.GivesUp.setPins_false _).ownIn]; rfl
  have hmem : u.mem = s.mem := hu ▸ (State.Reacts.setPins s.partnerNoted false).mem
  have hg := State.GivesUp.raiseOcc u { src := 20, data := 0 }
  have hr := u.reacts_raise (i := 20) 0 (by decide)
  rw [← hu]
  exact ⟨hg.pins hown, hg.ownIn.trans hin, (State.flag_of_reg (hr.keeps _ (by decide))).trans hflag, u.latched_raise 0 (by decide),
    hr.mem.trans hmem⟩

theorem exec_ownGuardExpire_of_now (h : s.twn.ownNow = true) : exec .ownGuardExpire s = .next s := by
  have hg : s.guardExpires = s := if_pos h
  refine congrArg Host.Outcome.next ?_
  unfold State.ifOn
  split_ifs
  · exact hg
  · rfl

/-- The release of the partner's OWN makes the next assertion a takeover (R243), in a module that has not asserted its own and outside
a handover. -/
def State.releaseTakes (s : State) : Bool := s.twn.takeover || (s.twn.ownIn && (decide (2 ≤ s.pairState) || s.twn.wasShadow.isSome)
  && (s.equinox || decide (s.twn.wasShadow = some true) || s.flag F.TWN_CTRL_take_unsync))

theorem State.guardExpires_of_released (hn : s.twn.ownNow = false) (ho : s.twn.ownOut = false) (hh : s.twn.ho = none) :
    s.guardExpires = s.setTwn fun t => { t with
      ownIn := false, guardOk := true, relAt := some (t.relAt.getD (s.clk.freeU - 12000)), wasShadow := none, takeover := s.releaseTakes
      barred := t.barred || (!s.releaseTakes && t.ownIn && decide (s.pairState = 3 ∨ s.pairState = 4)) } := by
  have ht : s.takesOver = s.releaseTakes := by simp [State.takesOver, State.releaseTakes, ho, hh]
  simp [State.guardExpires, hn, ho, hh, ht, Bool.decide_or]
  rfl

/-! ## The pins are granted (R219, R243, R443) -/

/-- The state in which R219 has granted the pins, before reference 6 follows: an unplanned takeover is counted and reported. -/
def State.granted (s : State) : State :=
  let u := (s.setPins true).setTwn fun t => { t with takeover := false }
  if s.twn.takeover then
    (((u.setTwn fun t => { t with enter := List.range 32 }).count R.TWN_TAKEOVER_CNT).setFlag F.TWN_STATUS_takeover true).postEvent 4 4 []
  else u

theorem State.grantPins_of_yielding (hy : s.flt.yield ≠ []) : s.grantPins = s.releaseOwn :=
  if_pos (State.yielding_of_ne hy)

theorem State.grantPins_of_free (hy : s.flt.yield = []) : s.grantPins = s.granted.ref6 :=
  if_neg (by simp [State.yielding_of_nil hy])

theorem State.granted_twn (s : State) : ∃ e, s.granted.twn = { s.twn with pins := true, takeover := false, enter := e } := by
  have hu : ((s.setPins true).setTwn fun t => { t with takeover := false }).twn = { s.twn with pins := true, takeover := false } := by
    rw [State.setTwn_twn, State.setPins_true_twn]
  unfold State.granted
  dsimp only
  split_ifs
  · rw [State.postEvent_twn, State.setFlag_twn, State.count_twn, State.setTwn_twn, hu]
    exact ⟨_, rfl⟩
  · exact ⟨_, hu⟩

theorem State.granted_mem (s : State) : s.granted.mem = s.mem := by
  unfold State.granted
  dsimp only
  split_ifs
  · exact (State.postEvent_mem _ _ _ _).trans (State.Reacts.setPins s true).mem
  · exact (State.Reacts.setPins s true).mem

/-- An unplanned takeover is counted and reported (R243). -/
theorem State.granted_takeover (h : s.twn.takeover = true) : s.granted.flag F.TWN_STATUS_takeover = true ∧
    s.granted.reg R.TWN_TAKEOVER_CNT = counted (s.reg R.TWN_TAKEOVER_CNT) := by
  unfold State.granted
  rw [if_pos h]
  constructor
  · exact (State.flag_of_reg (State.reg_postEvent _ _ _ _ _ (by decide))).trans (State.flag_setFlag_self _ _ _ (by decide) rfl)
  · rw [State.reg_postEvent _ _ _ _ _ (by decide), State.reg_setFlag, State.reg_setFld_of_ne _ _ (by decide), State.reg_count_self,
      State.reg_setTwn, State.reg_setTwn, (State.Reacts.setPins s true).keeps _ (by decide)]

/-- The pins granted: what the twin block and memory then hold (R219, R243). -/
theorem State.grantPins_grants (hy : s.flt.yield = []) :
    (∃ e, s.grantPins.twn = { s.twn with pins := true, takeover := false, enter := e }) ∧ s.grantPins.mem = s.mem ∧
      (s.twn.takeover = true → s.grantPins.flag F.TWN_STATUS_takeover = true ∧
        s.grantPins.reg R.TWN_TAKEOVER_CNT = counted (s.reg R.TWN_TAKEOVER_CNT)) := by
  have hr := State.Reclocks.ref6 s.granted
  rw [State.grantPins_of_free hy]
  refine ⟨?_, hr.mem.trans s.granted_mem, fun ht => ?_⟩
  · rw [hr.twn]
    exact s.granted_twn
  · obtain ⟨hf, hc⟩ := State.granted_takeover ht
    exact ⟨(hr.flag (by decide)).trans hf, (hr.keeps _ (by decide)).trans hc⟩

/-- What the twin block notes when the guard has run, in a module that has asserted OWN (R218). -/
def State.guardNoted (s : State) : State := s.setTwn fun t => { t with
  ownIn := false, guardOk := true, takeover := s.takesOver, relAt := some (t.relAt.getD (s.clk.freeU - 12000)), wasShadow := none }

/-- A module that has asserted OWN, and waited for the settle time, is granted its pins when the guard has run (R219). -/
theorem State.guardExpires_of_settled (hn : s.twn.ownNow = false) (ho : s.twn.ownOut = true) (hs : s.twn.settling = false)
    (hh : s.twn.ho = none) : s.guardExpires = if s.isOwner then s.guardNoted else s.guardNoted.grantPins := by
  have hb : (s.setTwn fun t => { t with
      ownIn := false, guardOk := true, takeover := s.takesOver, barred := t.barred || false
      relAt := some (t.relAt.getD (s.clk.freeU - 12000)), wasShadow := none }) = s.guardNoted := by
    simp [State.guardNoted]
  have ho' : s.guardNoted.twn.ownOut = true := ho
  have hs' : s.guardNoted.twn.settling = false := hs
  have hh' : s.guardNoted.twn.ho = none := hh
  have hp' : s.guardNoted.twn.pins = s.isOwner := rfl
  simp only [State.guardExpires, hn, ho, hh, Bool.not_true, Bool.and_false, Bool.false_and, Option.any_none, Bool.false_eq_true, if_false, hb,
    ho', hs', hh', hp']
  cases s.isOwner <;> rfl

theorem State.guardExpires_grants (hn : s.twn.ownNow = false) (ho : s.twn.ownOut = true) (hs : s.twn.settling = false)
    (hh : s.twn.ho = none) (hy : s.flt.yield = []) :
    s.guardExpires.isOwner = true ∧ s.guardExpires.twn.ownIn = false ∧ s.guardExpires.twn.guardOk = true ∧ s.guardExpires.mem = s.mem := by
  rw [State.guardExpires_of_settled hn ho hs hh]
  split_ifs with hp
  · exact ⟨hp, rfl, rfl, rfl⟩
  · obtain ⟨⟨_, e⟩, hm, -⟩ := State.grantPins_grants (s := s.guardNoted) hy
    rw [State.isOwner, e]
    exact ⟨rfl, rfl, rfl, hm⟩

/-! ## Asserting OWN (R220, R243) -/

theorem exec_ownAssert_of_may (h : s.mayAssert = true) (ho : s.twn.ownOut = false) :
    exec .ownAssert s = .next ((s.emit (.pin "OWN_OUT_N" 0 false)).setTwn fun t => { t with
      ownOut := true, settling := true, collided := false }) := by
  refine congrArg Host.Outcome.next ?_
  have ho' : s.twn.ownOut ≠ true := by simp [ho]
  rw [State.assertOwn, if_pos h, State.setOwnOut, if_neg ho']
  rfl

theorem exec_ownAssert_of_may_not (h : s.mayAssert = false) : exec .ownAssert s = .next s :=
  congrArg Host.Outcome.next (if_neg (by simp [h]))

theorem State.mayAssert_of_healthy (hr : s.flag F.TWN_CTRL_own_req = true) (hg : s.twn.guardOk = true) (ho : s.twn.ownOut = false)
    (hs : s.twn.settling = false) (hw : s.twn.retryAt = none) (hh : s.twn.ho = none) (hy : s.flt.yield = []) (hb : s.twn.barred = false)
    (ht : s.ticking = true) (hp : s.pref = true) (hu : s.unhealthy = false) : s.mayAssert = true := by
  simp [State.mayAssert, State.barsTakeover, hr, hg, ho, hs, hw, hh, State.yielding_of_nil hy, hb, ht, hp, hu]

theorem State.mayAssert_of_barred (hb : s.twn.barred = true) (hst : s.pairState = 3 ∨ s.pairState = 4)
    (hu : s.flag F.TWN_CTRL_take_unsync = false) : s.mayAssert = false := by
  have hst' : (s.pairState = 3 || s.pairState = 4) = true := by simpa using hst
  simp only [State.mayAssert, State.barsTakeover, hb, hu, hst', Bool.not_false, Bool.and_self, Bool.not_true, Bool.false_and]

/-! ## The end of the settle time and of the wait (R220) -/

/-- The settle time is over. -/
def State.settled (s : State) : State := s.setTwn fun t => { t with settling := false, collided := false }

theorem exec_ownSettleEnd_of_free (hs : s.twn.settling = true) (hc : s.twn.collided = false) (hg : s.twn.guardOk = true) :
    exec .ownSettleEnd s = .next s.settled.grantPins := by
  refine congrArg Host.Outcome.next ?_
  simp [State.settleEnds, State.settled, hs, hc, hg]

theorem exec_ownSettleEnd_of_collision (hs : s.twn.settling = true) (hc : s.twn.collided = true) : exec .ownSettleEnd s =
    .next (if s.equalStraps then s.settled.retryOwn else if s.pref then s.settled else s.settled.setOwnOut false) := by
  refine congrArg Host.Outcome.next ?_
  simp only [State.settleEnds, hs, hc, Bool.not_true, Bool.false_eq_true, if_false, if_true]
  rfl

/-- Equal straps release OWN, for the wait of the next nibble of the module ID (R220). -/
theorem State.retryOwn_settled (ho : s.twn.ownOut = true) :
    s.settled.retryOwn.twn.ownOut = false ∧ s.settled.retryOwn.twn.settling = false ∧
      s.settled.retryOwn.twn.collisions = s.twn.collisions + 1 ∧
      s.settled.retryOwn.twn.retryAt =
        some (s.clk.freeU + 60000 * (1 + s.moduleId.toNat / 16 ^ ((s.twn.collisions + 1) % 16) % 16)) ∧
      s.settled.retryOwn.regs = s.regs ∧ s.settled.retryOwn.mem = s.mem := by
  have ho' : s.settled.twn.ownOut ≠ false := by simp [State.settled, ho]
  have e : s.settled.setOwnOut false = (s.settled.setTwn fun t => { t with ownOut := false }).emit (.pin "OWN_OUT_N" 0 true) := if_neg ho'
  simp only [State.retryOwn, e]
  simp [State.retryU, State.settled]

theorem exec_ownRetryExpire_of_waiting {u : Nat} (h : s.twn.retryAt = some u) : exec .ownRetryExpire s =
    .next (if u ≤ s.clk.freeU then s.setTwn fun t => { t with retryAt := none } else s) := by
  refine congrArg Host.Outcome.next ?_
  simp only [State.retryEnds, h]

/-! ## Releasing OWN, and the entry of a channel (R222, R243) -/

theorem exec_ownReqClear_of_on (h : s.domOn 15 = true) (hh : s.twn.ho = none) :
    exec .ownReqClear s = .next (s.setFlag F.TWN_CTRL_own_req false).releaseOwn := by
  refine congrArg Host.Outcome.next ?_
  rw [State.ifOn_of_on h, State.clearOwnReq]
  simp [hh]

theorem exec_takeoverPwmEntry_of_owner {c : Fin 32} (hc : c.val ∈ s.twn.enter) (ho : s.isOwner = true) (hh : s.twn.ho = none) :
    exec (.takeoverPwmEntry c) s = .next ((s.setTwn fun t => { t with enter := t.enter.filter (· ≠ c.val) }).emit
      (.pwm c ((s.amp1 c).edges.map fun e => e.time.toNat))) := by
  refine congrArg Host.Outcome.next ?_
  have hd : (s.setTwn fun t => { t with enter := t.enter.filter (· ≠ c.val) }).drives (.pwm c) = true := by
    simp only [State.drives, State.setTwn_twn, hh]
    exact ho
  rw [State.pwmEnter, if_pos (by simpa using hc)]
  exact if_pos hd

/-- Settles O38: each command of the OWN interlock, by the state it meets. -/
theorem ownershipFollowsTheInterlock : Obligations.OwnershipFollowsTheInterlock := by
  unfold Obligations.OwnershipFollowsTheInterlock
  intro s c u
  refine ⟨fun h => ⟨congrArg _ (State.ifOn_of_off h _), congrArg _ (State.ifOn_of_off h _)⟩,
    fun hd ho => (exec_partnerOwnAssert_of_on hd).trans (congrArg _ (State.partnerAsserts_of_not_owner ho)),
    fun hd ho hh => ⟨_, exec_partnerOwnAssert_of_on hd, State.partnerAsserts_conflict ho hh⟩,
    exec_ownGuardExpire_of_now,
    fun hd hn ho hh => (exec_ownGuardExpire_of_on hd).trans (congrArg _ (State.guardExpires_of_released hn ho hh)),
    fun hd hn ho hs hh _ hy => ⟨_, exec_ownGuardExpire_of_on hd, State.guardExpires_grants hn ho hs hh hy⟩,
    fun hr hg ho hs hw hh hy _ hb ht hp hu => exec_ownAssert_of_may (State.mayAssert_of_healthy hr hg ho hs hw hh hy hb ht hp hu) ho,
    fun hb hst hu => exec_ownAssert_of_may_not (State.mayAssert_of_barred hb hst hu), fun hs hc hg hy => ?_, fun hs hc hg hy => ?_,
    fun hs hc he hp => ?_, fun hs hc he hp ho => ?_, fun hs hc he ho => ?_, exec_ownRetryExpire_of_waiting, ?_, fun hd hh => ?_,
    exec_takeoverPwmEntry_of_owner⟩
  · have hr := State.Reacts.releaseOwn s.settled
    refine ⟨_, (exec_ownSettleEnd_of_free hs hc hg).trans (congrArg _ (State.grantPins_of_yielding hy)), ?_⟩
    exact ⟨State.isOwner_releaseOwn _, State.ownOut_releaseOwn _, hr.mem⟩
  · obtain ⟨⟨_, e⟩, hm, ht⟩ := State.grantPins_grants (s := s.settled) hy
    refine ⟨_, exec_ownSettleEnd_of_free hs hc hg, ?_⟩
    rw [State.isOwner, e]
    exact ⟨rfl, rfl, rfl, hm, ht⟩
  · rw [exec_ownSettleEnd_of_collision hs hc, he, hp]
    rfl
  · have ho' : s.settled.twn.ownOut ≠ false := by simp [State.settled, ho]
    rw [exec_ownSettleEnd_of_collision hs hc, he, hp, State.setOwnOut, if_neg ho']
    rfl
  · refine ⟨_, (exec_ownSettleEnd_of_collision hs hc).trans (congrArg _ (if_pos he)), State.retryOwn_settled ho⟩
  · have hr := State.Reacts.releaseOwn s
    exact ⟨_, rfl, s.isOwner_releaseOwn, s.ownOut_releaseOwn, hr.mem, hr.clk, State.releaseOwn_outbox⟩
  · have hr := State.Reacts.releaseOwn (s.setFlag F.TWN_CTRL_own_req false)
    refine ⟨_, exec_ownReqClear_of_on hd hh, ?_, State.isOwner_releaseOwn _, State.ownOut_releaseOwn _, hr.mem, hr.clk⟩
    exact (State.flag_of_reg (hr.keeps _ (by decide))).trans (State.flag_setFlag_self _ _ _ (by decide) rfl)

end Sys2Proof.Machine
end

section
/-!
PROOFS. Handovers (R239 to R245).
-/

namespace Sys2Proof.Machine

variable {s : State} {q : HoReq} {x : Handover}

/-! ## Messages of the handover (R228, R239) -/

/-- A command message joins those that wait; nothing else was sent (R228, R229). -/
theorem State.sendCmd_sends (s : State) (sub : Nat) (args : List Byte) :
    s.SendsCmd (s.sendCmd sub args) (BitVec.ofNat 8 sub) args := ⟨rfl, Config.freeNat s.fresh, rfl⟩

/-- What was sent before a message from the same messages, and what leaves them and the outbox after it. -/
theorem State.SendsCmd.congr {s t u v : State} {sub : Byte} {args : List Byte} (h : t.SendsCmd u sub args)
    (hs : t.twn.msgs = s.twn.msgs ∧ t.twn.msgSeq = s.twn.msgSeq ∧ t.outbox = s.outbox) (hv : v.twn.msgs = u.twn.msgs ∧ v.outbox = u.outbox) :
    s.SendsCmd v sub args := by
  obtain ⟨hm, hn, ho⟩ := hs
  obtain ⟨hb, tag, ha⟩ := h
  exact ⟨hv.2.trans (hb.trans ho), tag, by rw [hv.1, ha, hm, hn]⟩

/-- The role is a matter of the pins and of the pair state (R229). -/
theorem State.role_congr {t : State} (hp : t.isOwner = s.isOwner) (hst : t.pairState = s.pairState) : t.role = s.role := by
  rw [State.role, hp, State.solo, hst, State.role, State.solo]

/-! ## Proposing (R239) -/

/-- The incoming module that is not locked to the owner, and could take over otherwise. -/
theorem State.handoverBad_eq_five_iff (s : State) : s.handoverBad = some 5 ↔
    s.equinox = true ∧ s.isOwner = false ∧ s.unhealthy = false ∧ ¬ (s.dpll = 2 ∧ s.sel = 6) := by
  unfold State.handoverBad State.lockedToOwner
  cases s.equinox <;> cases s.isOwner <;> cases s.unhealthy <;> cases s.partnerUnhealthy <;> simp

theorem State.handoverBad_of_ready (he : s.equinox = true) (ho : s.isOwner = true → s.partnerUnhealthy = false)
    (hn : s.isOwner = false → s.unhealthy = false ∧ s.dpll = 2 ∧ s.sel = 6) : s.handoverBad = none := by
  cases h : s.isOwner with
  | true => simp [State.handoverBad, he, h, ho h]
  | false =>
    obtain ⟨hu, hd, hs⟩ := hn h
    simp [State.handoverBad, State.lockedToOwner, he, h, hu, hd, hs]

theorem State.askHandover_of_open (h : s.twn.ho = none) (hq : s.twn.hoReq = none) (h5 : s.handoverBad ≠ some 5) (target : Nat) :
    s.askHandover target =
      s.proposeHandover (max (s.tickNum + 4) target) (target ≠ 0 && target < s.tickNum + 4) false := by
  simp [State.askHandover, h, hq, h5]

/-- A proposal is on its way: the request, the busy flag, the message; of the registers TWN_HO_CTRL alone changes. -/
theorem State.proposeHandover_proposes (s : State) (h : Nat) (late : Bool) :
    (s.proposeHandover h late false).twn.hoReq = some { h := h, late := late } ∧
      (s.proposeHandover h late false).flag F.TWN_HO_CTRL_busy = true ∧
      s.SendsCmd (s.proposeHandover h late false) 6 (beBytes 8 h ++ beBytes 1 s.role) ∧
      s.KeepsRegs (s.proposeHandover h late false) [R.TWN_HO_CTRL] ∧ (s.proposeHandover h late false).mem = s.mem := by
  have hr : s.Reacts [R.TWN_HO_CTRL] (s.proposeHandover h late false) :=
    ((State.Reacts.setTwn _ _).trans (.setFlag (by decide) _ _)).trans (.sendCmd _ _ _)
  obtain ⟨u, hu⟩ : ∃ u, u = (s.setTwn fun t => { t with hoReq := some { h := h, late := late } }).setFlag F.TWN_HO_CTRL_busy true := ⟨_, rfl⟩
  have hx : s.proposeHandover h late false = u.sendCmd 6 (beBytes 8 h ++ beBytes 1 u.role) := by rw [hu]; rfl
  have hreq : u.twn.hoReq = some { h := h, late := late } := hu ▸ rfl
  have hmsgs : u.twn.msgs = s.twn.msgs ∧ u.twn.msgSeq = s.twn.msgSeq := hu ▸ ⟨rfl, rfl⟩
  have hrole : u.role = s.role :=
    State.role_congr (hu ▸ rfl) (hu ▸ State.fld_of_reg (State.reg_setFld_of_ne _ _ (by decide)))
  have hbusy : u.flag F.TWN_HO_CTRL_busy = true := hu ▸ State.flag_setFlag_self _ _ _ (by decide) rfl
  have hout : u.outbox = s.outbox := hu ▸ rfl
  refine ⟨?_, ?_, ?_, hr.keeps, hr.mem⟩ <;> rw [hx]
  · exact hreq
  · exact hbusy
  · rw [hrole]
    exact (u.sendCmd_sends _ _).congr ⟨hmsgs.1, hmsgs.2, hout⟩ ⟨rfl, rfl⟩

theorem exec_handoverRequest_of_on (h : s.domOn 15 = true) :
    exec .handoverRequest s = .next (s.askHandover (s.pair R.TWN_HO_TICK_LO R.TWN_HO_TICK_HI)) :=
  congrArg Host.Outcome.next (State.ifOn_of_on h _)

/-! ## Arming (R239) -/

/-- A handover is armed at tick H: TWN_HO_TICK reads it. -/
theorem State.armHandover_arms (s : State) (h : BitVec 64) (o : Bool) :
    (s.armHandover h.toNat o).twn = { s.twn with ho := some { h := h.toNat, outgoing := o }, hoReq := none } ∧
      (s.armHandover h.toNat o).pair R.TWN_HO_TICK_LO R.TWN_HO_TICK_HI = h.toNat ∧
      (s.armHandover h.toNat o).flag F.TWN_HO_CTRL_busy = true ∧ (s.armHandover h.toNat o).outbox = s.outbox ∧
      s.Reacts [R.TWN_HO_CTRL, R.TWN_HO_TICK_LO, R.TWN_HO_TICK_HI] (s.armHandover h.toNat o) := by
  refine ⟨rfl, ?_, State.flag_setFlag_self _ _ _ (by decide) rfl, rfl, ?_⟩
  · refine Eq.trans ?_ ((State.pair_putPair (s.setTwn fun t => { t with ho := some { h := h.toNat, outgoing := o }, hoReq := none })
      (lo := R.TWN_HO_TICK_LO) (hi := R.TWN_HO_TICK_HI) (by decide) h.toNat).trans (Nat.mod_eq_of_lt h.isLt))
    simp only [State.pair, State.armHandover, State.reg_setFlag]
    rw [State.reg_setFld_of_ne _ _ (by decide), State.reg_setFld_of_ne _ _ (by decide)]
  · exact ((State.Reacts.setTwn _ _).trans (.of_onlyRegs (.putPair (by decide) (by decide) _ _))).trans (.setFlag (by decide) _ _)

theorem exec_hoPropose (h : BitVec 64) (o : Bool) (s : State) : exec (.hoPropose h o true) s = .next (s.takeHoPropose h.toNat) := rfl

theorem State.takeHoPropose_of_bad {r : Nat} (hb : s.handoverBad = some r) (h : Nat) :
    s.takeHoPropose h = s.sendCmd 8 (beBytes 8 h ++ beBytes 1 r) := by
  simp [State.takeHoPropose, hb]

theorem State.takeHoPropose_of_ready (hb : s.handoverBad = none) (hh : s.twn.ho = none) (h : Nat) :
    s.takeHoPropose h = (s.sendCmd 7 (beBytes 8 h)).armHandover h s.isOwner := by
  simp [State.takeHoPropose, hb, hh]

theorem exec_hoAgree_of_asked {h : BitVec 64} (hq : s.twn.hoReq = some q) (hh : q.h = h.toNat) : exec (.hoAgree h true) s =
    .next ((s.armHandover h.toNat s.isOwner).setTwn fun t => { t with ho := t.ho.map fun x => { x with late := q.late } }) := by
  refine congrArg Host.Outcome.next ?_
  simp only [State.ifCrc, if_true, State.takeHoAgree, hq, hh]

/-! ## The request fails (R239) -/

/-- The request on its way ends with a result; nothing else changes but the revert hold, which starts anew (R245). -/
theorem State.failRequest_fails (hq : s.twn.hoReq = some q) (hh : s.twn.ho = none) (hy : q.yield = false) (r : Nat) :
    (s.failRequest r).twn.hoReq = none ∧ (s.failRequest r).fld F.TWN_HO_CTRL_result = r % 16 ∧
      (s.failRequest r).flag F.TWN_HO_CTRL_busy = false ∧ s.KeepsRegs (s.failRequest r) [R.TWN_HO_CTRL] ∧
      (s.failRequest r).outbox = s.outbox ∧ (s.failRequest r).mem = s.mem := by
  have hx : s.failRequest r = (s.endHandover r).setTwn fun t => { t with revU := t.revU.map fun _ => (s.endHandover r).clk.freeU } := by
    simp only [State.failRequest, hq, State.cancelHandover_of_asked hh hq, hy, Bool.false_eq_true, if_false]
  have hr := (s.endHandover_reacts r)
  rw [hx]
  exact ⟨rfl, s.fld_endHandover_result r, s.flag_endHandover_busy r, hr.keeps, rfl, hr.mem⟩

theorem exec_hoRefuse_of_asked {h : BitVec 64} (hq : s.twn.hoReq = some q) (hh : q.h = h.toNat) (r : Byte) :
    exec (.hoRefuse h r true) s = .next (s.failRequest (r.toNat % 16)) := by
  refine congrArg Host.Outcome.next ?_
  simp only [State.ifCrc, if_true, State.takeHoRefuse, hq, hh]

theorem exec_handoverAgreeTimeout (s : State) : exec .handoverAgreeTimeout s = .next (s.failRequest 4) := rfl

/-! ## Switching, the OWN lines, completion (R241, R242) -/

theorem exec_handoverPinSwitch_of_due {g : PinGroup} (h : s.twn.ho = some x) (ht : x.h ≤ s.tickNum) (hg : g ∉ x.switched)
    (hi : g = .twi → s.twiIdle = true) : exec (.handoverPinSwitch g) s =
      .next (s.setTwn fun t => { t with ho := some { x with switched := x.switched ++ [g] } }) := by
  have hw : (decide (g = .twi) && !s.twiIdle) = false := by
    by_cases e : g = .twi
    · simp [hi e]
    · simp [e]
  refine congrArg Host.Outcome.next ?_
  simp only [State.switchPins, h]
  exact if_neg (by simp [Nat.not_lt.2 ht, hg, hw])

/-- Every pin group has switched: the OWN lines are about to change. -/
def State.ownChanging (s : State) (x : Handover) : State := s.setTwn fun t => { t with ho := some { x with owned := true } }

theorem State.changeOwn_of_switched (h : s.twn.ho = some x) (hn : x.owned = false) (hp : ∀ p ∈ pinGroups, p ∈ x.switched)
    (hy : x.outgoing = false → s.flt.yield = []) : s.changeOwn =
      if x.outgoing then ((s.ownChanging x).setPins false).setOwnOut false else ((s.ownChanging x).setOwnOut true).twiPins true := by
  have hall : (pinGroups.all fun g => x.switched.contains g) = true := by simpa using hp
  have hyield : (!x.outgoing && s.yielding) = false := by
    cases e : x.outgoing with
    | true => rfl
    | false => simp [State.yielding_of_nil (hy e)]
  simp only [State.changeOwn, h, hn, hall, hyield, Bool.not_true, Bool.or_self, Bool.false_eq_true, if_false]
  rfl

theorem State.changeOwn_changes (h : s.twn.ho = some x) (hn : x.owned = false) (hp : ∀ p ∈ pinGroups, p ∈ x.switched)
    (hy : x.outgoing = false → s.flt.yield = []) : s.changeOwn.twn.ho = some { x with owned := true } ∧
      s.changeOwn.twn.ownOut = !x.outgoing ∧ (x.outgoing = true → s.changeOwn.isOwner = false) ∧ s.changeOwn.mem = s.mem := by
  rw [State.changeOwn_of_switched h hn hp hy]
  rcases Bool.eq_false_or_eq_true x.outgoing with e | e
  · obtain ⟨_, _, ht⟩ := (s.ownChanging x).setPins_twn false
    have hr := (State.Reacts.setPins (s.ownChanging x) false).trans (.setOwnOut _ false)
    rw [if_pos e, State.isOwner, State.setOwnOut_twn, ht]
    refine ⟨rfl, ?_, fun _ => rfl, hr.mem⟩
    rw [e]
    rfl
  · have hr := (State.Reacts.setOwnOut (s.ownChanging x) true).trans (.twiPins _ true)
    rw [if_neg (by simp [e]), State.twiPins_true_twn, State.setOwnOut_twn]
    refine ⟨rfl, ?_, fun k => absurd k (by simp [e]), hr.mem⟩
    rw [e]
    rfl

/-- The handover is over, before the result is reported: R219 grants the incoming owner's pins. -/
def State.handedOver (s : State) (x : Handover) : State :=
  let s := s.setTwn fun t => { t with ho := none, revU := none, hoPost := some (x.h + 1) }
  if x.outgoing then s else s.setPins true

/-- The completion reported (R242). -/
def State.handoverReported (s : State) (late : Bool) : State :=
  (((s.setFlag F.TWN_HO_CTRL_busy false).setFld F.TWN_HO_CTRL_result (bit late)).count R.TWN_HANDOVER_CNT).setFlag F.TWN_STATUS_handover true

theorem State.handoverDone_of_owned (h : s.twn.ho = some x) (hn : x.owned = true) (hg : x.outgoing = false → s.twn.guardOk = true) :
    s.handoverDone = ((s.handedOver x).handoverReported x.late).ref6 := by
  have hw : (!x.owned || (!x.outgoing && !s.twn.guardOk)) = false := by
    cases e : x.outgoing with
    | true => simp [hn]
    | false => simp [hn, hg e]
  simp only [State.handoverDone, h, hw, Bool.false_eq_true, if_false]
  rfl

theorem State.handoverReported_reports (s : State) (late : Bool) :
    (s.handoverReported late).flag F.TWN_HO_CTRL_busy = false ∧
      (s.handoverReported late).fld F.TWN_HO_CTRL_result = (if late then 1 else 0) ∧
      (s.handoverReported late).reg R.TWN_HANDOVER_CNT = counted (s.reg R.TWN_HANDOVER_CNT) ∧
      (s.handoverReported late).flag F.TWN_STATUS_handover = true := by
  obtain ⟨u, hu⟩ : ∃ u, u = (s.setFlag F.TWN_HO_CTRL_busy false).setFld F.TWN_HO_CTRL_result (bit late) := ⟨_, rfl⟩
  have hx : s.handoverReported late = (u.count R.TWN_HANDOVER_CNT).setFlag F.TWN_STATUS_handover true := hu ▸ rfl
  have hk (o : Nat) (h1 : R.TWN_HANDOVER_CNT ≠ o) (h2 : R.TWN_STATUS ≠ o) : (s.handoverReported late).reg o = u.reg o := by
    rw [hx, State.reg_setFlag, State.reg_setFld_of_ne _ _ h2]
    exact State.reg_put_of_ne _ _ h1
  have hc : u.reg R.TWN_HANDOVER_CNT = s.reg R.TWN_HANDOVER_CNT := by
    rw [hu, State.reg_setFld_of_ne _ _ (by decide), State.reg_setFlag, State.reg_setFld_of_ne _ _ (by decide)]
  refine ⟨(State.flag_of_reg (hk _ (by decide) (by decide))).trans ?_, (State.fld_of_reg (hk _ (by decide) (by decide))).trans ?_, ?_, ?_⟩
  · rw [hu, State.flag_setFld_of_apart _ _ _ _ (by decide) (by decide)]
    exact State.flag_setFlag_self _ _ _ (by decide) rfl
  · rw [hu, State.fld_setFld_self _ _ _ (by decide)]
    cases late <;> rfl
  · rw [hx, State.reg_setFlag, State.reg_setFld_of_ne _ _ (by decide), State.reg_count_self, hc]
  · rw [hx]
    exact State.flag_setFlag_self _ _ _ (by decide) rfl

theorem State.handedOver_hands (s : State) (x : Handover) : (s.handedOver x).twn.ho = none ∧
    (x.outgoing = false → (s.handedOver x).isOwner = true) ∧ s.Reacts reactRegs (s.handedOver x) := by
  unfold State.handedOver
  dsimp only
  rcases Bool.eq_false_or_eq_true x.outgoing with e | e
  · rw [if_pos e]
    exact ⟨rfl, fun k => absurd k (by simp [e]), .setTwn _ _⟩
  · rw [if_neg (by simp [e]), State.setPins_true_twn]
    exact ⟨rfl, fun _ => State.isOwner_setPins _ _, (State.Reacts.setTwn _ _).trans (.setPins _ _)⟩

theorem State.handoverDone_completes (h : s.twn.ho = some x) (hn : x.owned = true) (hg : x.outgoing = false → s.twn.guardOk = true) :
    s.handoverDone.twn.ho = none ∧ s.handoverDone.flag F.TWN_HO_CTRL_busy = false ∧
      s.handoverDone.fld F.TWN_HO_CTRL_result = (if x.late then 1 else 0) ∧ (x.outgoing = false → s.handoverDone.isOwner = true) ∧
      s.handoverDone.reg R.TWN_HANDOVER_CNT = counted (s.reg R.TWN_HANDOVER_CNT) ∧ s.handoverDone.flag F.TWN_STATUS_handover = true ∧
      s.handoverDone.mem = s.mem := by
  obtain ⟨ho, hown, hr⟩ := s.handedOver_hands x
  obtain ⟨hb, hres, hc, hf⟩ := (s.handedOver x).handoverReported_reports x.late
  have hk := State.Reclocks.ref6 ((s.handedOver x).handoverReported x.late)
  rw [State.handoverDone_of_owned h hn hg]
  refine ⟨?_, (hk.flag (by decide)).trans hb, (hk.fld (by decide)).trans hres, fun k => hk.isOwner.trans (hown k),
    ((hk.keeps _ (by decide)).trans hc).trans (congrArg counted (hr.keeps _ (by decide))), (hk.flag (by decide)).trans hf,
    hk.mem.trans hr.mem⟩
  rw [hk.twn]
  exact ho

/-! ## Cancelling (R242) -/

theorem State.handoverCancelled_of_armed (h : s.twn.ho = some x) (hn : x.owned = false) (ho : x.outgoing = true → s.twn.ownOut = false) :
    s.handoverCancelled = if x.outgoing then (s.endHandover 6).pinsFollow
      else (s.endHandover 6).pinsFollow.setTwn fun t => { t with takeover := true, ownIn := false } := by
  have hw : (x.owned || (x.outgoing && s.twn.ownOut)) = false := by
    cases e : x.outgoing with
    | true => simp [hn, ho e]
    | false => simp [hn]
  simp only [State.handoverCancelled, h, hw, State.cancelHandover_of_armed h, Bool.false_eq_true, if_false]

theorem State.pinsFollow_ho (s : State) : s.pinsFollow.twn.ho = s.twn.ho := by
  unfold State.pinsFollow
  split_ifs
  · rfl
  · obtain ⟨_, _, e⟩ := s.setPins_twn false
    rw [e]

/-- The registers that enabling or disabling the owned pins may write: those of the two-wire controllers, and of the commands that end
with them (R354, R358, R463, R468). -/
def pinRegs : List Nat := [R.HIF_LATE_CNT, R.HIF_REJECT_CNT, R.TWI_C_STATUS 0, R.TWI_C_STATUS 1, R.TWI_C_STATUS 2]

theorem State.twiFinish_reacts (s : State) (t : TwiCmd) (st d : Nat) : s.Reacts pinRegs (s.twiFinish t st d) := by
  unfold State.twiFinish
  extract_lets s1 s2
  have h : s.Reacts pinRegs s1 := .setHif _ _
  exact .ite (fun _ => h.trans (.emit _ _)) fun _ => .ite (fun _ => h) fun _ => .ite (fun _ => h.trans (.setRing _ _ _)) fun _ =>
    ((h.trans (.setRing _ _ _)).trans (.setHif _ _)).trans (.of_onlyRegs ((State.finish_onlyRegs _ _ _ _ _ _).mono (by simp [pinRegs])))

theorem State.twiFollow_reacts (on : Bool) (s : State) (n : Nat) (hn : n ∈ List.range 3) : s.Reacts pinRegs (State.twiFollow on s n) := by
  have hreg : ∀ n ∈ List.range 3, (F.TWI_C_STATUS_state n).reg ∈ pinRegs := by decide
  exact .ite (fun _ => .setFld (hreg n hn) _ _) fun _ => .ite (fun _ => .setFld (hreg n hn) _ _) fun _ =>
    .ite (fun _ => (State.Reacts.setFld (hreg n hn) s 1).trans (.setHif _ _)) fun _ => .refl s

theorem State.twiPins_reacts (s : State) (on : Bool) : s.Reacts pinRegs (s.twiPins on) := by
  have hl : s.Reacts pinRegs s.twiLose := (State.Reacts.ite (fun _ => .relayTwi s _) fun _ => .refl s).trans
    (.foldl _ (fun _ _ _ => State.twiFinish_reacts _ _ _ _) _)
  rw [State.twiPins_eq]
  exact (State.Reacts.ite (fun _ => .refl s) fun _ => hl.trans (.setHif _ _)).trans (.foldl _ (State.twiFollow_reacts on) _)

theorem State.setPins_reacts (s : State) (on : Bool) : s.Reacts pinRegs (s.setPins on) :=
  .ite (fun _ => .refl s) fun _ => ((State.Reacts.setTwn _ _).trans (State.twiPins_reacts _ _)).trans (.emit _ _)

theorem State.pinsFollow_reacts (s : State) : s.Reacts pinRegs s.pinsFollow := .ite (fun _ => .refl s) fun _ => s.setPins_reacts false

/-- A module that has not given OWN away, or not yet asserted it, cancels: the result is 6, and R219 governs the pins (R242). -/
theorem State.handoverCancelled_cancels (h : s.twn.ho = some x) (hn : x.owned = false) (ho : x.outgoing = true → s.twn.ownOut = false) :
    s.handoverCancelled.twn.ho = none ∧ s.handoverCancelled.fld F.TWN_HO_CTRL_result = 6 ∧
      s.handoverCancelled.flag F.TWN_HO_CTRL_busy = false ∧ (x.outgoing = false → s.handoverCancelled.twn.takeover = true) ∧
      (s.isOwner = false → s.KeepsRegs s.handoverCancelled [R.TWN_HO_CTRL]) ∧ s.handoverCancelled.mem = s.mem := by
  obtain ⟨u, hu⟩ : ∃ u, u = (s.endHandover 6).pinsFollow := ⟨_, rfl⟩
  have he := s.endHandover_reacts 6
  have hp : (s.endHandover 6).Reacts pinRegs u := hu ▸ (s.endHandover 6).pinsFollow_reacts
  have hho : u.twn.ho = none := hu ▸ (s.endHandover 6).pinsFollow_ho
  have hres : u.fld F.TWN_HO_CTRL_result = 6 := (State.fld_of_reg (hp.keeps _ (by decide))).trans (s.fld_endHandover_result 6)
  have hbusy : u.flag F.TWN_HO_CTRL_busy = false := (State.flag_of_reg (hp.keeps _ (by decide))).trans (s.flag_endHandover_busy 6)
  have hmem : u.mem = s.mem := hp.mem.trans he.mem
  have hk : s.isOwner = false → s.KeepsRegs u [R.TWN_HO_CTRL] := fun k => by
    have hno : (s.endHandover 6).isOwner = false := k
    rw [hu, State.pinsFollow_of_not_owner hno]
    exact he.keeps
  rw [State.handoverCancelled_of_armed h hn ho, ← hu]
  rcases Bool.eq_false_or_eq_true x.outgoing with e | e
  · rw [if_pos e]
    exact ⟨hho, hres, hbusy, fun k => absurd k (by simp [e]), hk, hmem⟩
  · rw [if_neg (by simp [e])]
    exact ⟨hho, hres, hbusy, fun _ => rfl, hk, hmem⟩

/-! ## The revertive return (R245) -/

theorem State.revert_of_eligible {u : Nat} (hu : s.twn.revU = some u) (hen : s.flag F.TWN_CTRL_revert_en = true)
    (he : s.revertEligible = true) (ht : u + s.revertHold ≤ s.clk.freeU) :
    s.revert = (s.setTwn fun t => { t with revU := some s.clk.freeU }).askHandover 0 := by
  simp only [State.revert, hu]
  exact if_pos (by simp [hen, he, ht])

/-- An eligible module whose hold has run asks for H = TICK_NUM + 4 (R239, R245). -/
theorem State.revert_proposes {u : Nat} (hu : s.twn.revU = some u) (hen : s.flag F.TWN_CTRL_revert_en = true)
    (he : s.revertEligible = true) (hl : s.dpll = 2 ∧ s.sel = 6) (ht : u + s.revertHold ≤ s.clk.freeU) (hh : s.twn.ho = none)
    (hq : s.twn.hoReq = none) : s.revert.twn.hoReq = some { h := s.tickNum + 4, late := false } ∧
      s.SendsCmd s.revert 6 (beBytes 8 (s.tickNum + 4) ++ [0]) ∧ s.KeepsRegs s.revert [R.TWN_HO_CTRL] ∧ s.revert.mem = s.mem := by
  obtain ⟨v, hv⟩ : ∃ v, v = s.setTwn fun t => { t with revU := some s.clk.freeU } := ⟨_, rfl⟩
  obtain ⟨⟨⟨⟨_, hno⟩, heq⟩, hun⟩, _⟩ : (((s.pref = true ∧ s.isOwner = false) ∧ s.equinox = true) ∧ s.unhealthy = false) ∧
      s.twn.lbOk = true := by simpa [State.revertEligible] using he
  have hp : v.isOwner = false ∧ v.pairState = 5 := hv ▸ ⟨hno, by simpa [State.equinox] using heq⟩
  have hbad : v.handoverBad = none := State.handoverBad_of_ready (hv ▸ heq) (fun k => absurd k (by simp [hp.1])) fun _ =>
    hv ▸ ⟨hun, hl⟩
  have hho : v.twn.ho = none ∧ v.twn.hoReq = none := hv ▸ ⟨hh, hq⟩
  have hrole : v.role = 0 := by simp [State.role, State.solo, hp]
  have htick : v.tickNum = s.tickNum := hv ▸ rfl
  have hx : s.revert = v.proposeHandover (s.tickNum + 4) false false := by
    rw [State.revert_of_eligible hu hen he ht, ← hv, State.askHandover_of_open hho.1 hho.2 (by simp [hbad]), htick]
    rfl
  obtain ⟨hr, _, hs, hk, hm⟩ := v.proposeHandover_proposes (s.tickNum + 4) false
  rw [hrole] at hs
  rw [hx]
  exact ⟨hr, hs.congr (hv ▸ ⟨rfl, rfl, rfl⟩) ⟨rfl, rfl⟩, hv ▸ hk, hv ▸ hm⟩

/-- Settles O39: each clause is the lemma of its command. -/
theorem handoversAreProposedAgreedAndCarriedOut : Obligations.HandoversAreProposedAgreedAndCarriedOut := by
  unfold Obligations.HandoversAreProposedAgreedAndCarriedOut
  intro s h o r g x q u
  refine ⟨fun hd => ⟨fun hb => ?_, fun hh hq => ⟨fun h5 => ?_, fun h5 => ?_⟩⟩, fun he => ?_, fun he ho hn hh => ?_, ⟨rfl, rfl, rfl⟩,
    fun hq hqh => ?_, fun hq hh hqh hy => ?_, fun hq hh hy => ?_, fun hh ht hg hi => exec_handoverPinSwitch_of_due hh ht hg hi,
    fun hh hn hp hy => ⟨_, rfl, State.changeOwn_changes hh hn hp hy⟩, fun hh hn hg => ⟨_, rfl, State.handoverDone_completes hh hn hg⟩,
    fun hh hn ho => ⟨_, rfl, State.handoverCancelled_cancels hh hn ho⟩, fun hu hen hpr hno heq hun hd hs hlb ht hh hq => ?_⟩
  case refine_1 =>
    have hb' : (s.twn.ho.isSome || s.twn.hoReq.isSome) = true := by simpa [Option.isSome_iff_ne_none] using hb
    rw [exec_handoverRequest_of_on hd, State.askHandover, if_pos hb']
  case refine_2 =>
    have hb' : ¬ (s.twn.ho.isSome || s.twn.hoReq.isSome) = true := by simp [hh, hq]
    rw [exec_handoverRequest_of_on hd, State.askHandover, if_neg hb', if_pos (s.handoverBad_eq_five_iff.2 h5)]
  case refine_3 =>
    have hx := State.askHandover_of_open hh hq (h5 ∘ s.handoverBad_eq_five_iff.1) (s.pair R.TWN_HO_TICK_LO R.TWN_HO_TICK_HI)
    have hl : (decide (s.pair R.TWN_HO_TICK_LO R.TWN_HO_TICK_HI ≠ 0) && decide (s.pair R.TWN_HO_TICK_LO R.TWN_HO_TICK_HI < s.tickNum + 4))
        = decide (s.pair R.TWN_HO_TICK_LO R.TWN_HO_TICK_HI ≠ 0 ∧ s.pair R.TWN_HO_TICK_LO R.TWN_HO_TICK_HI < s.tickNum + 4) :=
      (Bool.decide_and _ _).symm
    rw [hl] at hx
    exact ⟨_, (exec_handoverRequest_of_on hd).trans (congrArg _ hx), s.proposeHandover_proposes _ _⟩
  case refine_4 =>
    have hb : s.handoverBad = some 2 := by simp [State.handoverBad, he]
    rw [exec_hoPropose, State.takeHoPropose_of_bad hb]
    exact ⟨_, rfl, s.sendCmd_sends _ _, (State.Reacts.sendCmd (l := []) s _ _).keeps, rfl, rfl⟩
  case refine_5 =>
    obtain ⟨ht, hp, hb, hout, hr⟩ := (s.sendCmd 7 (beBytes 8 h.toNat)).armHandover_arms h s.isOwner
    rw [exec_hoPropose, State.takeHoPropose_of_ready (State.handoverBad_of_ready he ho hn) hh]
    have hk := (State.Reacts.sendCmd (l := [R.TWN_HO_CTRL, R.TWN_HO_TICK_LO, R.TWN_HO_TICK_HI]) s 7 (beBytes 8 h.toNat)).trans hr
    refine ⟨_, rfl, (s.sendCmd_sends _ _).congr ⟨rfl, rfl, rfl⟩ ⟨?_, hout⟩, ?_, hp, hb, hk.keeps, hk.mem⟩ <;> rw [ht]
  case refine_6 =>
    obtain ⟨ht, hp, _, hout, hr⟩ := s.armHandover_arms h s.isOwner
    rw [exec_hoAgree_of_asked hq hqh]
    refine ⟨_, rfl, ?_, ?_, hp, hr.keeps, hout, hr.mem⟩ <;> rw [State.setTwn_twn, ht]
    rfl
  case refine_7 =>
    have hr16 := State.failRequest_fails hq hh hy (r.toNat % 16)
    rw [Nat.mod_mod] at hr16
    exact ⟨_, exec_hoRefuse_of_asked hq hqh r, hr16⟩
  case refine_8 => exact ⟨_, exec_handoverAgreeTimeout s, State.failRequest_fails hq hh hy 4⟩
  case refine_9 =>
    exact ⟨_, rfl, State.revert_proposes hu hen (by simp [State.revertEligible, hpr, hno, heq, hun, hlb]) ⟨hd, hs⟩ ht hh hq⟩

end Sys2Proof.Machine
end

section
/-!
SUPPORT. The pair's state and the steps of resynchronisation (R227, R235): what entering a state, announcing a step and going to SOLO
do, and what they leave.
-/

namespace Sys2Proof.Machine

variable {s : State} {st : Nat}

/-! ## Entering a state (R227) -/

theorem State.setPair_eq (s : State) (st : Nat) : s.setPair st = (s.setFld F.TWN_STATUS_state st).setPaired ∨
    s.setPair st = (s.setFld F.TWN_STATUS_state st).setPaired.setTwn fun t => { t with revU := none } := by
  unfold State.setPair
  dsimp only
  split_ifs
  · exact .inl rfl
  · exact .inr rfl

/-- Of the twin block, entering a state stops the revert hold at most (R245). -/
theorem State.setPair_twn (s : State) (st : Nat) : ∃ r, (s.setPair st).twn = { s.twn with revU := r } := by
  rcases s.setPair_eq st with e | e <;> rw [e] <;> exact ⟨_, rfl⟩

theorem State.setPair_outbox (s : State) (st : Nat) : (s.setPair st).outbox = s.outbox := by
  rcases s.setPair_eq st with e | e <;> rw [e] <;> rfl

@[simp] theorem State.isOwner_setPair (s : State) (st : Nat) : (s.setPair st).isOwner = s.isOwner := by
  obtain ⟨_, e⟩ := s.setPair_twn st
  rw [State.isOwner, e, State.isOwner]

theorem State.setPair_reacts (s : State) (st : Nat) : s.Reacts [R.TWN_STATUS, R.MIX_PSET_STATUS] (s.setPair st) := by
  have h : s.Reacts [R.TWN_STATUS, R.MIX_PSET_STATUS] (s.setFld F.TWN_STATUS_state st).setPaired :=
    ((State.Reacts.setFld (by decide) s st).trans (.setFlag (by decide) _ _)).trans (.setFlag (by decide) _ _)
  rcases s.setPair_eq st with e | e <;> rw [e]
  · exact h
  · exact h.trans (.setTwn _ _)

/-- The status word follows from that of the new state and the paired flag. -/
theorem State.reg_setPair (s : State) (st : Nat) : ∃ p, (s.setPair st).reg R.TWN_STATUS =
    ((s.setFld F.TWN_STATUS_state st).setFlag F.TWN_STATUS_paired p).reg R.TWN_STATUS := by
  have h (u : State) : ∃ p, u.setPaired.reg R.TWN_STATUS = (u.setFlag F.TWN_STATUS_paired p).reg R.TWN_STATUS :=
    ⟨_, State.reg_setFld_of_ne _ _ (by decide)⟩
  rcases s.setPair_eq st with e | e <;> rw [e]
  · exact h _
  · exact h _

theorem State.pairState_setPair (h : st < 8) : (s.setPair st).pairState = st := by
  obtain ⟨p, e⟩ := s.reg_setPair st
  calc (s.setPair st).pairState = (s.setFld F.TWN_STATUS_state st).pairState :=
        (State.fld_of_reg e).trans (State.fld_setFld_of_apart _ F.TWN_STATUS_paired _ _ (by decide) (by decide))
    _ = st := (State.fld_setFld_self _ _ _ (by decide)).trans (Nat.mod_eq_of_lt h)

/-- A flag of the status word above the state and the paired flag stays. -/
theorem State.flag_setPair {f : Fld} (hr : f.reg = R.TWN_STATUS) (h3 : 3 < f.lo) (hi : f.hi < 32) : (s.setPair st).flag f = s.flag f := by
  obtain ⟨p, e⟩ := s.reg_setPair st
  rw [← hr] at e
  refine (State.flag_of_reg e).trans ((State.flag_setFlag_of_apart _ _ _ _ hi ?_).trans (State.flag_setFld_of_apart _ _ _ _ hi ?_))
  · exact .inr (.inl h3)
  · exact .inr (.inl (by change 2 < f.lo; omega))

theorem State.paired_setPaired (s : State) : s.setPaired.paired = (4 ≤ s.pairState || (2 ≤ s.pairState && s.twn.rsFirst)) :=
  (State.flag_of_reg (State.reg_setFld_of_ne _ _ (by decide))).trans (State.flag_setFlag_self _ _ _ (by decide) rfl)

theorem State.paired_setPair (h : st < 8) : (s.setPair st).paired = (4 ≤ st || (2 ≤ st && s.twn.rsFirst)) := by
  have hst : (s.setFld F.TWN_STATUS_state st).pairState = st :=
    (State.fld_setFld_self _ _ _ (by decide)).trans (Nat.mod_eq_of_lt h)
  have hp := (s.setFld F.TWN_STATUS_state st).paired_setPaired
  rw [hst] at hp
  rcases s.setPair_eq st with e | e <;> rw [e]
  · exact hp
  · exact hp

/-! ## Resynchronisation begins (R227, R235) -/

theorem State.rsAnnounce_reacts (l : List Nat) (s : State) (n : Nat) : s.Reacts l (s.rsAnnounce n) :=
  ((State.Reacts.tick1 s).trans (.setTwn _ _)).trans (.sendCmd _ _ _)

theorem State.rsDrop_reacts (s : State) : s.Reacts [R.TWN_RS_STATUS] s.rsDrop :=
  (State.Reacts.setTwn s _).trans (.of_onlyRegs (.put (by decide) _ _))

/-- The registers that show a resynchronisation. -/
abbrev rsRegs : List Nat := [R.TWN_RS_STATUS, R.TWN_STATUS, R.MIX_PSET_STATUS]

theorem State.startResync_reacts (s : State) (src : Bool) : s.Reacts rsRegs (s.startResync src) := by
  unfold State.startResync
  extract_lets s1 s2
  have h : s.Reacts rsRegs s2 := ((s.rsDrop_reacts.mono (by decide)).trans (.setTwn _ _)).trans ((State.setPair_reacts _ _).mono (by decide))
  exact .ite (fun _ => h.trans (State.rsAnnounce_reacts _ _ _)) fun _ => h

/-- The source is in state 2, the destination in state 3. -/
theorem State.pairState_startResync (s : State) (src : Bool) : (s.startResync src).pairState = if src then 2 else 3 := by
  cases src with
  | true => exact (State.fld_of_reg ((State.rsAnnounce_reacts [] _ 1).keeps _ (by decide))).trans (State.pairState_setPair (by decide))
  | false => exact State.pairState_setPair (st := 3) (by decide)

/-! ## SOLO (R227, R234) -/

/-- Going to SOLO, a module whose faults wait for its OWN lets go of it (R443). -/
def State.soloYields (s : State) : Bool :=
  s.twn.hoReq.elim false (·.yield) || (s.isOwner && s.twn.ho.elim false (fun h => h.outgoing && s.tickNum < h.h) && s.yielding)

/-- What the pair had under way, without a handover, has ended. -/
def State.pairForgotten (s : State) : State := s.rsDrop.setTwn fun t => { t with
  quiet := false, partner := none, own := [], theirs := [], cold := true, revU := none, theirLanes := 15
  wasShadow := if 2 ≤ s.pairState && s.twn.ownIn && !s.isOwner then some s.equinox else s.twn.wasShadow }

/-- A handover that has not begun, or a request for one, ends with the pair. -/
def State.handoverDropped (s : State) : State :=
  match s.twn.ho with
  | some h => if s.tickNum < h.h then s.cancelHandover 6 else s
  | none => s.cancelHandover 6

/-- The module is SOLO, before it lets go of OWN. -/
def State.soloed (s : State) : State := (s.pairForgotten.handoverDropped.setPair 0).setFlag F.TWN_STATUS_hb_ok false

theorem State.goSolo_eq (s : State) : s.goSolo = (if s.soloYields then s.soloed.releaseOwn else s.soloed).ref6 := rfl

theorem State.handoverDropped_keeps (s : State) : s.GivesUp s.handoverDropped ∧ s.Reacts reactRegs s.handoverDropped := by
  unfold State.handoverDropped
  split
  · split_ifs
    · exact ⟨.cancelHandover _ _, .cancelHandover _ _⟩
    · exact ⟨.refl s, .refl s⟩
  · exact ⟨.cancelHandover _ _, .cancelHandover _ _⟩

theorem State.handoverDropped_of_none (h : s.twn.ho = none) (hq : s.twn.hoReq = none) : s.handoverDropped = s := by
  unfold State.handoverDropped
  rw [h]
  exact State.cancelHandover_of_none h hq 6

/-- The registers that going to SOLO writes, but for those of the clock block. -/
def soloRegs : List Nat := reactRegs ++ rsRegs

theorem State.soloed_solo (s : State) : s.soloed.pairState = 0 ∧ s.soloed.paired = false ∧ s.soloed.flag F.TWN_STATUS_hb_ok = false ∧
    s.soloed.flag F.TWN_STATUS_pair_refused = s.flag F.TWN_STATUS_pair_refused ∧ s.soloed.twn.partner = none ∧
    s.Reacts soloRegs s.soloed := by
  obtain ⟨u, hu⟩ : ∃ u, u = s.pairForgotten.handoverDropped := ⟨_, rfl⟩
  have hx : s.soloed = (u.setPair 0).setFlag F.TWN_STATUS_hb_ok false := hu ▸ rfl
  obtain ⟨hg, hr⟩ := s.pairForgotten.handoverDropped_keeps
  rw [← hu] at hg hr
  have hu' : s.Reacts (R.TWN_RS_STATUS :: reactRegs) u :=
    ((s.rsDrop_reacts.mono (by decide)).trans (.setTwn _ _)).trans (hr.mono (List.subset_cons_self _ _))
  have href : u.flag F.TWN_STATUS_pair_refused = s.flag F.TWN_STATUS_pair_refused := State.flag_of_reg (hu'.keeps _ (by decide))
  have hpart : u.twn.partner = none := hg.partner
  obtain ⟨_, htwn⟩ := u.setPair_twn 0
  rw [hx]
  refine ⟨?_, ?_, State.flag_setFlag_self _ _ _ (by decide) rfl, ?_, ?_, ?_⟩
  · exact (State.fld_setFld_of_apart _ F.TWN_STATUS_hb_ok _ _ (by decide) (by decide)).trans (State.pairState_setPair (by decide))
  · exact (State.flag_setFlag_of_apart _ F.TWN_STATUS_hb_ok _ _ (by decide) (by decide)).trans (State.paired_setPair (by decide))
  · exact ((State.flag_setFlag_of_apart _ F.TWN_STATUS_hb_ok _ _ (by decide) (by decide)).trans
      (State.flag_setPair rfl (by decide) (by decide))).trans href
  · rw [State.setFlag_twn, htwn]
    exact hpart
  · exact ((hu'.mono (by decide)).trans ((u.setPair_reacts 0).mono (by decide))).trans (.setFlag (by decide) _ _)

/-- SOLO: no partner, no pair, no heartbeat; memory and the registers that only count stay. -/
theorem State.goSolo_solo (s : State) : s.goSolo.pairState = 0 ∧ s.goSolo.paired = false ∧ s.goSolo.flag F.TWN_STATUS_hb_ok = false ∧
    s.goSolo.flag F.TWN_STATUS_pair_refused = s.flag F.TWN_STATUS_pair_refused ∧ s.goSolo.twn.partner = none ∧
    s.goSolo.reg R.TWN_HB_LOSS_CNT = s.reg R.TWN_HB_LOSS_CNT ∧ s.goSolo.mem = s.mem := by
  obtain ⟨hst, hp, hb, hf, hpart, hr⟩ := s.soloed_solo
  obtain ⟨v, hv⟩ : ∃ v, v = if s.soloYields then s.soloed.releaseOwn else s.soloed := ⟨_, rfl⟩
  have hg : s.soloed.GivesUp v := hv ▸ .ite (fun _ => .releaseOwn _) fun _ => .refl _
  have hk : s.soloed.Reacts reactRegs v := hv ▸ .ite (fun _ => .releaseOwn _) fun _ => .refl _
  have h6 := State.Reclocks.ref6 v
  have hs : v.ref6.reg R.TWN_STATUS = s.soloed.reg R.TWN_STATUS := (h6.keeps _ (by decide)).trans (hk.keeps _ (by decide))
  rw [State.goSolo_eq, ← hv]
  refine ⟨(State.fld_of_reg hs).trans hst, (State.flag_of_reg hs).trans hp, (State.flag_of_reg hs).trans hb,
    (State.flag_of_reg hs).trans hf, ?_, ?_, (h6.mem.trans hk.mem).trans hr.mem⟩
  · rw [h6.twn]
    exact hg.partner.trans hpart
  · exact ((h6.keeps _ (by decide)).trans (hk.keeps _ (by decide))).trans (hr.keeps _ (by decide))

/-- An owner outside a handover stays the owner (R234). -/
theorem State.isOwner_goSolo (h : s.twn.ho = none) (hq : s.twn.hoReq = none) : s.goSolo.isOwner = s.isOwner := by
  have hy : s.soloYields = false := by simp [State.soloYields, h, hq]
  have hd : s.pairForgotten.handoverDropped = s.pairForgotten := State.handoverDropped_of_none h hq
  rw [State.goSolo_eq, if_neg (by simp [hy]), (State.Reclocks.ref6 _).isOwner, State.soloed, hd]
  exact s.pairForgotten.isOwner_setPair 0

end Sys2Proof.Machine
end

section
/-!
PROOFS. Pairing, heartbeats, markers and lane sets (R224 to R234).
-/

namespace Sys2Proof.Machine

variable {s : State} {m p : HelloMsg}

/-! ## Attempts (R224) -/

theorem exec_pairingAttempt_of_dark (hs : s.solo = true) (he : s.flag F.TWN_CTRL_pair_en = true) (hf : s.fwStopped = false)
    (hw : s.twn.working = 0) : exec .pairingAttempt s = .next (s.count R.TWN_PAIR_TRY_CNT) := by
  have hc : (s.count R.TWN_PAIR_TRY_CNT).twn.working = 0 := hw
  refine congrArg Host.Outcome.next ?_
  simp only [State.pairAttempt, hs, he, hf]
  exact if_pos hc

theorem State.pairAttempt_of_lit (hs : s.solo = true) (he : s.flag F.TWN_CTRL_pair_en = true) (hf : s.fwStopped = false)
    (hw : s.twn.working ≠ 0) : s.pairAttempt = (s.count R.TWN_PAIR_TRY_CNT).helloSend := by
  have hc : (s.count R.TWN_PAIR_TRY_CNT).twn.working ≠ 0 := hw
  simp only [State.pairAttempt, hs, he, hf]
  exact if_neg hc

theorem beBytes_bit (b : Bool) : beBytes 1 (bit b) = [if b then 1 else 0] := by cases b <;> rfl

/-- A count of attempts is not among the HELLO's fields. -/
theorem State.helloArgs_count (s : State) : (s.count R.TWN_PAIR_TRY_CNT).helloArgs = s.helloArgs := by
  have hk (o : Nat) (h : R.TWN_PAIR_TRY_CNT ≠ o) : (s.count R.TWN_PAIR_TRY_CNT).reg o = s.reg o := State.reg_put_of_ne _ _ h
  have ht : (s.count R.TWN_PAIR_TRY_CNT).ticking = s.ticking := State.flag_of_reg (hk _ (by decide))
  rw [State.helloArgs, ht, hk R.FAB_GRAPH_ID (by decide), hk R.TCK_CFG (by decide), hk R.SYS_FW_VERSION (by decide), State.helloArgs]
  rfl

theorem State.pairAttempt_sends (hs : s.solo = true) (he : s.flag F.TWN_CTRL_pair_en = true) (hf : s.fwStopped = false)
    (hw : s.twn.working ≠ 0) : s.pairAttempt.pairState = 1 ∧
      s.pairAttempt.reg R.TWN_PAIR_TRY_CNT = counted (s.reg R.TWN_PAIR_TRY_CNT) ∧ s.SendsCmd s.pairAttempt 1 s.helloArgs ∧
      s.KeepsRegs s.pairAttempt [R.TWN_PAIR_TRY_CNT, R.TWN_STATUS, R.MIX_PSET_STATUS] ∧ s.pairAttempt.mem = s.mem := by
  obtain ⟨u, hu⟩ : ∃ u, u = (s.count R.TWN_PAIR_TRY_CNT).sendCmd 1 (s.count R.TWN_PAIR_TRY_CNT).helloArgs := ⟨_, rfl⟩
  have hr : s.Reacts [R.TWN_PAIR_TRY_CNT] u := hu ▸ (State.Reacts.count (by decide) s).trans (.sendCmd _ _ _)
  have hc : u.reg R.TWN_PAIR_TRY_CNT = counted (s.reg R.TWN_PAIR_TRY_CNT) := hu ▸ s.reg_count_self _
  have hsnd : s.SendsCmd u 1 s.helloArgs := by
    rw [hu, State.helloArgs_count]
    exact ((s.count R.TWN_PAIR_TRY_CNT).sendCmd_sends 1 s.helloArgs).congr ⟨rfl, rfl, rfl⟩ ⟨rfl, rfl⟩
  have hp := u.setPair_reacts 1
  obtain ⟨_, htwn⟩ := u.setPair_twn 1
  rw [State.pairAttempt_of_lit hs he hf hw, State.helloSend, ← hu]
  exact ⟨State.pairState_setPair (by decide), (hp.keeps _ (by decide)).trans hc,
    hsnd.congr ⟨rfl, rfl, rfl⟩ ⟨by rw [htwn], u.setPair_outbox 1⟩,
    ((hr.mono (by decide)).trans (hp.mono (by decide))).keeps, hp.mem.trans hr.mem⟩

/-! ## HELLO (R225, R227) -/

/-- Pairing refused: SOLO, and the flag says so. -/
theorem State.refusePair_refuses (s : State) (r : Nat) : (s.refusePair r).pairState = 0 ∧
    (s.refusePair r).flag F.TWN_STATUS_pair_refused = true ∧ (s.refusePair r).paired = false ∧ (s.refusePair r).mem = s.mem := by
  obtain ⟨hst, hp, _, hf, _, _, hm⟩ := ((s.postEvent 4 1 (leBytes 1 r)).setFlag F.TWN_STATUS_pair_refused true).goSolo_solo
  exact ⟨hst, hf.trans (State.flag_setFlag_self _ _ _ (by decide) rfl), hp, hm.trans (s.postEvent_mem _ _ _)⟩

/-- A linking module has noted the partner's PREF, and checks the HELLO. -/
def State.helloNoted (s : State) (m : HelloMsg) : State := s.setTwn fun t => { t with theirPref := some m.pref }

theorem exec_hello_of_linking (hst : s.pairState = 1) (hf : s.fwStopped = false) :
    (∀ r, s.helloBad m = some r → exec (.hello m true) s = .next ((s.helloNoted m).refusePair r)) ∧
      (s.helloBad m = none → exec (.hello m true) s = .next ((s.helloNoted m).pairUp m)) := by
  obtain ⟨u, hu⟩ : ∃ u, u = s.helloNoted m := ⟨_, rfl⟩
  have hst' : u.pairState = 1 := hu ▸ hst
  have hb : u.helloBad m = s.helloBad m := hu ▸ rfl
  have hsolo : ¬ (u.solo && u.flag F.TWN_CTRL_pair_en) = true := by simp [State.solo, hst']
  have hx : exec (.hello m true) s = .next (s.takeHello m) := congrArg Host.Outcome.next (if_neg (Bool.eq_false_iff.1 hf))
  have ht : s.takeHello m = (u.helloBad m).elim (u.pairUp m) u.refusePair := by
    unfold State.takeHello
    rw [← State.helloNoted, ← hu]
    dsimp only
    rw [if_neg hsolo, if_neg (not_not_intro hst')]
    cases u.helloBad m <;> rfl
  rw [hx, ht, hb, ← hu]
  exact ⟨fun r h => by rw [h, Option.elim_some], fun h => by rw [h, Option.elim_none]⟩

theorem State.helloBad_of_same (h : m.pref = s.pref) : s.helloBad m = some 1 := by simp [State.helloBad, h]

theorem State.helloBad_of_match (hp : m.pref ≠ s.pref) (hg : m.graphId = s.reg R.FAB_GRAPH_ID)
    (ht : tckFields m.tckCfg = tckFields (s.reg R.TCK_CFG)) : s.helloBad m = none := by simp [State.helloBad, hp, hg, ht]

/-- The partner is known; nothing was compared yet. -/
def State.partnerKnown (s : State) (m : HelloMsg) : State :=
  (s.setTwn fun t => { t with partner := some m, own := [], theirs := [], run := 0, agree := 0, cold := true }).putPair
    R.TWN_PARTNER_ID_LO R.TWN_PARTNER_ID_HI m.moduleId.toNat

theorem State.partnerKnown_reacts (s : State) (m : HelloMsg) :
    s.Reacts [R.TWN_PARTNER_ID_LO, R.TWN_PARTNER_ID_HI] (s.partnerKnown m) :=
  (State.Reacts.setTwn s _).trans (.of_onlyRegs (.putPair (by decide) (by decide) _ _))

theorem State.pairUp_eq (s : State) (m : HelloMsg) : s.pairUp m =
    if !m.running && !(s.partnerKnown m).ticking then
      ((s.partnerKnown m).putPair R.TCK_START_LO R.TCK_START_HI ((s.partnerKnown m).commonStart m.tick.toNat)).setPair 4
    else (s.partnerKnown m).startResync ((s.partnerKnown m).isOwner || (!(s.partnerKnown m).twn.ownIn && (s.partnerKnown m).pref)) := rfl

theorem State.ticking_partnerKnown (s : State) (m : HelloMsg) : (s.partnerKnown m).ticking = s.ticking :=
  State.flag_of_reg ((s.partnerKnown_reacts m).keeps _ (by decide))

/-- The common first tick is the multiple of 256 next after 1 s from the later clock (R227). -/
theorem State.commonStart_spec (s : State) (n : Nat) : s.commonStart n % 256 = 0 ∧ max s.tickNum n + s.fs / s.T ≤ s.commonStart n ∧
    s.commonStart n < max s.tickNum n + s.fs / s.T + 256 := by
  unfold State.commonStart
  omega

theorem State.commonStart_partnerKnown (s : State) (m : HelloMsg) (n : Nat) : (s.partnerKnown m).commonStart n = s.commonStart n := by
  have hr : (s.partnerKnown m).reg R.TCK_CFG = s.reg R.TCK_CFG := (s.partnerKnown_reacts m).keeps _ (by decide)
  have hT : (s.partnerKnown m).T = s.T := congrArg tSamples (State.fld_of_reg hr)
  have hf : (s.partnerKnown m).fs = s.fs := congrArg fsHz (State.fld_of_reg hr)
  rw [State.commonStart, hT, hf, State.commonStart]
  rfl

/-- Where neither tick runs, VERIFY begins with the common first tick. -/
theorem State.pairUp_verifies (hm : m.running = false) (ht : s.ticking = false) (hn : s.commonStart m.tick.toNat < 2 ^ 64) :
    (s.pairUp m).pairState = 4 ∧ (s.pairUp m).paired = true ∧ (s.pairUp m).twn.partner = some m ∧
      (s.pairUp m).pair R.TCK_START_LO R.TCK_START_HI = s.commonStart m.tick.toNat ∧
      s.KeepsRegs (s.pairUp m) [R.TWN_PARTNER_ID_LO, R.TWN_PARTNER_ID_HI, R.TCK_START_LO, R.TCK_START_HI, R.TWN_STATUS, R.MIX_PSET_STATUS] := by
  obtain ⟨u, hu⟩ : ∃ u, u = (s.partnerKnown m).putPair R.TCK_START_LO R.TCK_START_HI (s.commonStart m.tick.toNat) := ⟨_, rfl⟩
  have hx : s.pairUp m = u.setPair 4 := by
    have hc : (!m.running && !(s.partnerKnown m).ticking) = true := by simp [hm, State.ticking_partnerKnown, ht]
    rw [State.pairUp_eq, if_pos hc, State.commonStart_partnerKnown, ← hu]
  have hr : s.Reacts [R.TWN_PARTNER_ID_LO, R.TWN_PARTNER_ID_HI, R.TCK_START_LO, R.TCK_START_HI] u :=
    hu ▸ ((s.partnerKnown_reacts m).mono (by decide)).trans (.of_onlyRegs (.putPair (by decide) (by decide) _ _))
  have hp := u.setPair_reacts 4
  have hpair : u.pair R.TCK_START_LO R.TCK_START_HI = s.commonStart m.tick.toNat :=
    hu ▸ (State.pair_putPair _ (by decide) _).trans (Nat.mod_eq_of_lt hn)
  have hpart : u.twn.partner = some m := hu ▸ rfl
  obtain ⟨_, htwn⟩ := u.setPair_twn 4
  rw [hx]
  refine ⟨State.pairState_setPair (by decide), State.paired_setPair (by decide), ?_, ?_,
    ((hr.mono (by decide)).trans (hp.mono (by decide))).keeps⟩
  · rw [htwn]
    exact hpart
  · rw [State.pair, hp.keeps R.TCK_START_LO (by decide), hp.keeps R.TCK_START_HI (by decide), ← State.pair]
    exact hpair

/-- Where a tick runs, the pair resynchronises: the owner, or with none the PREF module, is the source. -/
theorem State.pairUp_resyncs (h : m.running = true ∨ s.ticking = true) :
    (s.pairUp m).pairState = (if s.isOwner ∨ (s.twn.ownIn = false ∧ s.pref = true) then 2 else 3) ∧ (s.pairUp m).mem = s.mem := by
  have hx : s.pairUp m = (s.partnerKnown m).startResync (s.isOwner || (!s.twn.ownIn && s.pref)) := by
    have hc : ¬ (!m.running && !(s.partnerKnown m).ticking) = true := by
      simp only [State.ticking_partnerKnown]
      rcases h with h | h <;> simp [h]
    rw [State.pairUp_eq, if_neg hc]
    rfl
  have hr := ((s.partnerKnown_reacts m).mono (List.subset_append_left _ rsRegs)).trans
    (((s.partnerKnown m).startResync_reacts (s.isOwner || (!s.twn.ownIn && s.pref))).mono (List.subset_append_right _ _))
  rw [hx]
  refine ⟨(State.pairState_startResync _ _).trans ?_, hr.mem⟩
  simp

/-! ## Heartbeats (R228, R234) -/

theorem State.takeHeartbeat_keeps (s : State) (b : HeartbeatMsg) : (s.takeHeartbeat b).twn.hb = some b ∧
    (s.takeHeartbeat b).flag F.TWN_STATUS_hb_ok = true ∧ (s.takeHeartbeat b).mem = s.mem ∧ (s.takeHeartbeat b).clk.freeU = s.clk.freeU := by
  obtain ⟨u, hu⟩ : ∃ u, u = (s.setTwn fun t => { t with hb := some b, hbNow := true }).setFlag F.TWN_STATUS_hb_ok true := ⟨_, rfl⟩
  have h6 := State.Reclocks.ref6 u
  have hhb : u.twn.hb = some b := hu ▸ rfl
  have hok : u.flag F.TWN_STATUS_hb_ok = true := hu ▸ State.flag_setFlag_self _ _ _ (by decide) rfl
  rw [State.takeHeartbeat, ← hu]
  exact ⟨(congrArg Twin.hb h6.twn).trans hhb, (h6.flag (by decide)).trans hok, h6.mem.trans (hu ▸ rfl), h6.freeU.trans (hu ▸ rfl)⟩

/-- What the loss of the heartbeat does before the module goes to SOLO: the event, the count (R234). -/
def State.lossNoted (s : State) : State :=
  ((s.setTwn fun t => { t with marker := false }).postEvent 4 3 []).count R.TWN_HB_LOSS_CNT

theorem State.heartbeatLost_of_paired (h : s.solo = false) : s.heartbeatLost = s.lossNoted.goSolo :=
  if_neg (Bool.eq_false_iff.1 h)

theorem State.lossNoted_twn (s : State) : s.lossNoted.twn = { s.twn with marker := false } := State.postEvent_twn _ _ _ _

theorem State.heartbeatLost_loses (h : s.solo = false) : s.heartbeatLost.pairState = 0 ∧ s.heartbeatLost.flag F.TWN_STATUS_hb_ok = false ∧
    s.heartbeatLost.reg R.TWN_HB_LOSS_CNT = counted (s.reg R.TWN_HB_LOSS_CNT) ∧ s.heartbeatLost.twn.partner = none ∧
    s.heartbeatLost.mem = s.mem ∧ (s.twn.ho = none → s.twn.hoReq = none → s.heartbeatLost.isOwner = s.isOwner) := by
  obtain ⟨hst, _, hb, _, hp, hc, hm⟩ := s.lossNoted.goSolo_solo
  have hcnt : s.lossNoted.reg R.TWN_HB_LOSS_CNT = counted (s.reg R.TWN_HB_LOSS_CNT) :=
    (State.reg_count_self _ _).trans (congrArg counted ((State.Reacts.postEvent _ _ _ _).keeps _ (by decide)))
  have hmem : s.lossNoted.mem = s.mem := State.postEvent_mem _ _ _ _
  rw [State.heartbeatLost_of_paired h]
  refine ⟨hst, hb, hc.trans hcnt, hp, hm.trans hmem, fun ho hq => ?_⟩
  refine (State.isOwner_goSolo ?_ ?_).trans ?_
  · rw [State.lossNoted_twn]
    exact ho
  · rw [State.lossNoted_twn]
    exact hq
  · rw [State.isOwner, State.lossNoted_twn, State.isOwner]

/-! ## Markers (R232) -/

/-- An even numerator is halved exactly, whichever way a quotient is rounded. -/
theorem openDivI_two (site : Nat) {a : Int} (h : a % 2 = 0) : openDivI site a 2 = a / 2 := by
  unfold openDivI
  split_ifs <;> omega

/-- The marker's arrival and what it says of the phase and of the link's delay. -/
def State.markerNoted (s : State) (o : Int) (b : HeartbeatMsg) : State :=
  ((s.setTwn fun w => { w with marker := true, noMark := 0, rxOff := o }).put R.TWN_PHASE (wordI (openDivI 4 (o - b.markerOffset) 2))).put
    R.TWN_LINK_DELAY (wordI (openDivI 4 (o + b.markerOffset) 2))

theorem State.takeMarker_of_heartbeat {b : HeartbeatMsg} (h : s.twn.hb = some b) (o : Int) : s.takeMarker o = (s.markerNoted o b).ref6 := by
  obtain ⟨u, hu⟩ : ∃ u, u = s.setTwn fun w => { w with marker := true, noMark := 0, rxOff := o } := ⟨_, rfl⟩
  have hb : u.twn.hb = some b := hu ▸ h
  unfold State.takeMarker State.markerNoted
  simp only [← hu, hb]

theorem State.takeMarker_measures {b : HeartbeatMsg} (h : s.twn.hb = some b) {o : Int} (he : (o - b.markerOffset) % 2 = 0) :
    (s.takeMarker o).twn.marker = true ∧ (s.takeMarker o).twn.rxOff = o ∧
      (s.takeMarker o).reg R.TWN_PHASE = wordI ((o - b.markerOffset) / 2) ∧
      (s.takeMarker o).reg R.TWN_LINK_DELAY = wordI ((o + b.markerOffset) / 2) ∧ (s.takeMarker o).mem = s.mem := by
  have h6 := State.Reclocks.ref6 (s.markerNoted o b)
  have hs : (o + b.markerOffset) % 2 = 0 := by omega
  rw [State.takeMarker_of_heartbeat h o]
  refine ⟨congrArg Twin.marker h6.twn, congrArg Twin.rxOff h6.twn, (h6.keeps _ (by decide)).trans ?_, (h6.keeps _ (by decide)).trans ?_, h6.mem⟩
  · rw [State.markerNoted, State.reg_put_of_ne _ _ (by decide), State.reg_put_self, openDivI_two 4 he]
  · rw [State.markerNoted, State.reg_put_self, openDivI_two 4 hs]

/-! ## Lane sets (R233) -/

theorem exec_laneset (mask : BitVec 4) (n : BitVec 64) (s : State) :
    exec (.laneset mask n true) s = .next (s.takeLaneset mask.toNat n.toNat) := rfl

theorem State.takeLaneset_of_higher (hp : s.twn.partner = some p) (h : p.moduleId.toNat ≤ s.moduleId.toNat) (k n : Nat) :
    s.takeLaneset k n = s.setTwn fun t => { t with laneNext := some (k, n) } := by
  simp [State.takeLaneset, State.lowerId, hp, Nat.not_lt.2 h]

/-- The lower ID answers with the largest common set, for the next tick. -/
theorem State.takeLaneset_of_lower (hp : s.twn.partner = some p) (h : s.moduleId.toNat < p.moduleId.toNat) {k : Nat}
    (hk : laneSet (s.twn.working &&& k) ≠ 0) (n : Nat) : s.takeLaneset k n =
      ((s.setTwn fun t => { t with theirLanes := k }).sendLaneset (laneSet (s.twn.working &&& k))).setTwn fun t =>
        { t with laneNext := some (laneSet (s.twn.working &&& k), s.tickNum + 1) } := by
  simp [State.takeLaneset, State.lowerId, hp, h, hk]
  rfl

/-- Settles O40: each clause is the lemma of its event. -/
theorem modulesPairAndKeepTheLink : Obligations.ModulesPairAndKeepTheLink := by
  unfold Obligations.ModulesPairAndKeepTheLink
  intro s m b o mask n p
  refine ⟨exec_pairingAttempt_of_dark, fun hs he hf hw => ⟨_, rfl, ?_⟩, ⟨rfl, rfl⟩, fun hst hf hp => ?_, fun hst hf hp hg ht => ⟨?_, ?_⟩,
    fun hst hf => ?_, fun hc => ?_, fun hc => ?_, fun hn => ?_, fun hn hs => ?_, fun hb he => ⟨_, rfl, State.takeMarker_measures hb he⟩,
    fun hp h => ?_, fun hp h hk => ?_⟩
  case refine_1 =>
    have hx := State.pairAttempt_sends hs he hf hw
    rw [State.helloArgs, beBytes_bit, beBytes_bit] at hx
    exact hx
  case refine_2 =>
    obtain ⟨hs0, hfl, hpd, hm⟩ := (s.helloNoted m).refusePair_refuses 1
    exact ⟨_, (exec_hello_of_linking hst hf).1 1 (State.helloBad_of_same hp), hs0, hfl, hpd, hm⟩
  case refine_3 =>
    intro hm hti hlt
    obtain ⟨hmul, hle, hub⟩ := s.commonStart_spec m.tick.toNat
    obtain ⟨u, hu⟩ : ∃ u, u = s.helloNoted m := ⟨_, rfl⟩
    have hcs : u.commonStart m.tick.toNat = s.commonStart m.tick.toNat := hu ▸ rfl
    have hut : u.ticking = false := hu ▸ hti
    obtain ⟨h4, hpd, hpart, hpair, hk⟩ := State.pairUp_verifies (s := u) hm hut (by rw [hcs]; omega)
    rw [hcs] at hpair
    refine ⟨_, ((exec_hello_of_linking hst hf).2 (State.helloBad_of_match hp hg ht)).trans (congrArg (fun v => Host.Outcome.next (State.pairUp v m)) hu.symm),
      h4, hpd, hpart, hpair ▸ hmul, hpair ▸ hle, hpair ▸ hub, fun a ha => (hk a ha).trans (hu ▸ rfl)⟩
  case refine_4 =>
    intro hr
    obtain ⟨h2, hm⟩ := State.pairUp_resyncs (s := s.helloNoted m) (m := m) hr
    exact ⟨_, (exec_hello_of_linking hst hf).2 (State.helloBad_of_match hp hg ht), h2, hm⟩
  case refine_5 =>
    obtain ⟨hs0, hfl, _, hm⟩ := s.refusePair_refuses 4
    exact ⟨_, congrArg Host.Outcome.next (if_pos (by simp [hst, hf])), hs0, hfl, hm⟩
  case refine_6 => exact congrArg Host.Outcome.next (if_neg (by simp [hc]))
  case refine_7 => exact ⟨_, congrArg Host.Outcome.next (if_pos hc), s.takeHeartbeat_keeps b⟩
  case refine_8 => exact congrArg Host.Outcome.next (if_pos hn)
  case refine_9 => exact ⟨_, congrArg Host.Outcome.next (if_neg (by simp [hn])), State.heartbeatLost_loses hs⟩
  case refine_10 => rw [exec_laneset, State.takeLaneset_of_higher hp h]
  case refine_11 =>
    have hr : s.Reacts [] ((s.setTwn fun t => { t with theirLanes := mask.toNat }).sendLaneset (laneSet (s.twn.working &&& mask.toNat))) :=
      (State.Reacts.setTwn s _).trans (.sendCmd _ _ _)
    rw [exec_laneset, State.takeLaneset_of_lower hp h hk]
    exact ⟨_, rfl, rfl, (State.sendCmd_sends _ 10 _).congr ⟨rfl, rfl, rfl⟩ ⟨rfl, rfl⟩, hr.keeps, hr.mem⟩

end Sys2Proof.Machine
end

section
/-!
SUPPORT. What installing the configuration of step 1 leaves alone (R235): the twin block, the registers that show the pair's state and
the step, what was sent.
-/

namespace Sys2Proof.Machine

/-- From `s` to `t` neither the twin block, nor the registers of its state and step, nor what was sent changed. -/
structure State.Installs (s t : State) : Prop where
  twn : t.twn = s.twn
  outbox : t.outbox = s.outbox
  status : t.reg R.TWN_STATUS = s.reg R.TWN_STATUS
  step : t.reg R.TWN_RS_STATUS = s.reg R.TWN_RS_STATUS

namespace State.Installs

variable {s t u : State}

theorem refl (s : State) : Installs s s := ⟨rfl, rfl, rfl, rfl⟩

theorem trans (h : Installs s t) (k : Installs t u) : Installs s u :=
  ⟨k.twn.trans h.twn, k.outbox.trans h.outbox, k.status.trans h.status, k.step.trans h.step⟩

theorem foldl {α : Type} {f : State → α → State} (hf : ∀ s a, Installs s (f s a)) (l : List α) (s : State) : Installs s (l.foldl f s) := by
  induction l generalizing s with
  | nil => exact refl s
  | cons a l ih => exact (hf s a).trans (ih _)

theorem of_onlyRegs {l : List Nat} (h : State.OnlyRegs l s t) (hs : R.TWN_STATUS ∉ l) (hr : R.TWN_RS_STATUS ∉ l) : Installs s t := by
  refine ⟨?_, h.outbox, h.keeps _ hs, h.keeps _ hr⟩
  obtain ⟨_, _, rfl⟩ := h.frame
  rfl

theorem setFld {f : Fld} (hf : f.reg ≠ R.TWN_STATUS ∧ f.reg ≠ R.TWN_RS_STATUS) (s : State) (v : Nat) : Installs s (s.setFld f v) :=
  ⟨rfl, rfl, State.reg_setFld_of_ne _ _ hf.1, State.reg_setFld_of_ne _ _ hf.2⟩

theorem setFlag {f : Fld} (hf : f.reg ≠ R.TWN_STATUS ∧ f.reg ≠ R.TWN_RS_STATUS) (s : State) (b : Bool) : Installs s (s.setFlag f b) :=
  ⟨rfl, rfl, State.reg_setFld_of_ne _ _ hf.1, State.reg_setFld_of_ne _ _ hf.2⟩

theorem setMix (s : State) (f : Mix → Mix) : Installs s (s.setMix f) := ⟨rfl, rfl, rfl, rfl⟩
theorem setStr (s : State) (f : Str → Str) : Installs s (s.setStr f) := ⟨rfl, rfl, rfl, rfl⟩
theorem setRx (s : State) (i : Nat) (x : RxSt) : Installs s (s.setRx i x) := ⟨rfl, rfl, rfl, rfl⟩
theorem setSched (s : State) (l : List Timed) : Installs s { s with sched := l } := ⟨rfl, rfl, rfl, rfl⟩
theorem setDyn (s : State) (i : Nat) (x : DynSt) : Installs s (s.setDyn i x) := setMix s _

theorem installTables (s : State) (looks : List LookMove) : Installs s (s.installTables looks) :=
  (foldl (fun _ _ => setMix _ _) _ _).trans (foldl (fun _ _ => setDyn _ _ _) _ _)

/-- The status registers of the receive contexts, whatever the number, are none of the twin block's two. -/
theorem installRx (s : State) (i : Nat) (c : List Byte) : Installs s (s.installRx i c) := by
  have hne : R.STR_RX_STATUS i ≠ R.TWN_STATUS ∧ R.STR_RX_STATUS i ≠ R.TWN_RS_STATUS := by
    simp only [R.STR_RX_STATUS, R.TWN_STATUS, R.TWN_RS_STATUS]
    omega
  unfold State.installRx
  split_ifs
  · exact refl s
  · exact (setRx s _ _).trans (setFld hne _ _)

theorem installTx (s : State) (i : Nat) (c : List Byte) : Installs s (s.installTx i c) := by
  have hne : R.STR_TX_STATUS i ≠ R.TWN_STATUS ∧ R.STR_TX_STATUS i ≠ R.TWN_RS_STATUS := by
    simp only [R.STR_TX_STATUS, R.TWN_STATUS, R.TWN_RS_STATUS]
    omega
  exact ((setStr s _).trans (setFlag hne _ _)).trans (setFld hne _ _)

end State.Installs

theorem State.OnlyRegs.str {l : List Nat} {s t : State} (h : State.OnlyRegs l s t) : t.str = s.str := by
  obtain ⟨_, _, rfl⟩ := h.frame
  rfl

theorem State.sets_installTables (s : State) (looks : List LookMove) : (s.installTables looks).mix.sets = s.mix.sets := by
  unfold State.installTables
  generalize List.range 512 = l
  extract_lets b d s1
  refine (foldl_keeps (fun t : State => t.mix.sets) ?_ l s1).trans (foldl_keeps (fun t : State => t.mix.sets) ?_ l s)
  · exact fun _ _ => rfl
  · exact fun _ _ => rfl

theorem State.mix_installRx (s : State) (i : Nat) (c : List Byte) : (s.installRx i c).mix = s.mix := by
  unfold State.installRx
  split_ifs <;> rfl

theorem State.mix_installTx (s : State) (i : Nat) (c : List Byte) : (s.installTx i c).mix = s.mix := rfl

theorem State.tx_installTx (s : State) (i : Nat) (c : List Byte) : (s.installTx i c).str.tx = Tbl.set (fun _ => []) s.str.tx i c := rfl

/-- The last act of an installation: what is summed up anew (R189, R213). -/
def State.summedUp (s : State) : State := ((s.mixCounts).strCounts).pendCounts

theorem State.summedUp_onlyRegs (s : State) : State.OnlyRegs (mixCountRegs ++ strSumRegs) s s.summedUp :=
  ((s.mixCounts_onlyRegs.mono (List.subset_append_left _ _)).trans
    ((State.strCounts_onlyRegs _).mono (List.subset_append_right _ _))).trans
    ((State.pendCounts_onlyRegs _).mono (List.subset_append_left _ _))

/-- A configuration of one transmit context: the parameter sets go, the context is installed. -/
theorem State.install_tx (s : State) (i : Nat) (bs : List Byte) : s.Installs (s.install { step := 1, tx := [(i, bs)] }) ∧
    (s.install { step := 1, tx := [(i, bs)] }).mix.sets = [] ∧
    Tbl.get (fun _ => []) (s.install { step := 1, tx := [(i, bs)] }).str.tx i = bs := by
  unfold State.install
  extract_lets ids s1 s2 s3 gone s4 s5 s6 s7 s8
  have h1 : s.Installs s1 := .setMix s _
  have m1 : s1.mix.sets = [] := List.filter_eq_nil_iff.2 fun _ _ => by simp [ids]
  have e2 : s2 = s1 := rfl
  clear_value s1 s2
  have e3 : s3 = s2.installTables [] := rfl
  clear_value s3
  have h4 : s3.Installs s4 := .foldl (fun _ _ => .installRx _ _ _) _ _
  have m4 : s4.mix = s3.mix := foldl_keeps State.mix (fun s _ => s.mix_installRx _ _) _ _
  clear_value s4
  have e5 : s5 = ((gone (s4.str.tx.map (·.1)) [(i, bs)]).foldl (fun s e => s.installTx e.1 e.2) s4).installTx i bs := List.foldl_append
  clear_value s5
  obtain ⟨v, hv⟩ : ∃ v, v = (gone (s4.str.tx.map (·.1)) [(i, bs)]).foldl (fun s e => s.installTx e.1 e.2) s4 := ⟨_, rfl⟩
  have h5 : s4.Installs v := hv ▸ .foldl (fun _ _ => .installTx _ _ _) _ _
  have m5 : v.mix = s4.mix := hv ▸ foldl_keeps State.mix (fun s _ => s.mix_installTx _ _) _ _
  have h6 : s5.Installs s6 := .setSched s5 _
  have m6 : s6.mix = s5.mix ∧ s6.str = s5.str := ⟨rfl, rfl⟩
  clear_value s6
  have h7 : s6.Installs s7 := .setMix _ _
  have m7 : s7.mix.sets = s6.mix.sets ∧ s7.str = s6.str := ⟨rfl, rfl⟩
  have e8 : s8 = s7 := rfl
  clear_value s7 s8
  rw [← hv] at e5
  rw [e2] at e3
  rw [e3] at h4 m4
  rw [e5] at h6 m6
  rw [e8]
  have hsum := s7.summedUp_onlyRegs
  refine ⟨(((((h1.trans (.installTables _ _)).trans h4).trans h5).trans (.installTx _ _ _)).trans (h6.trans h7)).trans
    (.of_onlyRegs hsum (by decide) (by decide)), ?_, ?_⟩
  · refine (congrArg Mix.sets hsum.mix).trans ?_
    rw [m7.1, m6.1, State.mix_installTx, m5, m4, State.sets_installTables, m1]
  · refine (congrArg (fun x : Str => Tbl.get (fun _ => []) x.tx i) hsum.str).trans ?_
    rw [m7.2, m6.2, State.tx_installTx]
    exact Tbl.get_set_self _ _ _ _

end Sys2Proof.Machine
end

section
/-!
PROOFS. Digests and resynchronisation (R227, R230, R231, R235, R236).
-/

namespace Sys2Proof.Machine

variable {s : State} {d e : Dig}

/-! ## Digests sent, kept and compared (R230) -/

theorem exec_digestSend_of_one (ho : s.twn.own = [d]) (hc : s.fab.comTick = some d.tick) : exec .digestSend s =
    .next (s.sendMsg 2 (beBytes 8 d.tick ++ beBytes 8 d.value.toNat ++ beBytes 1 d.worst ++ beBytes 1 s.role ++ [0, 0])) := by
  refine congrArg Host.Outcome.next ?_
  simp [State.sendDigest, ho, hc]

/-- One digest is due: it is compared, and no digest of its tick waits any longer. -/
theorem State.compareDigests_of_one (ho : s.twn.own = [d]) (hd : d.tick + 2 ≤ s.tickNum) : s.compareDigests =
    (s.compareOne d).setTwn fun t => { t with
      own := t.own.filter fun x => !([d].contains x), theirs := t.theirs.filter fun x => !([d].any fun y => y.tick = x.tick) } := by
  have hdue : (s.twn.own.filter fun x => x.tick + 2 ≤ s.tickNum) = [d] := by simp [ho, hd]
  unfold State.compareDigests
  rw [hdue]
  rfl

theorem State.compareOne_of_missing (hst : 4 ≤ s.pairState) (ht : s.twn.theirs = []) :
    s.compareOne d = (s.count R.TWN_DIG_MISS_CNT).setTwn fun t => { t with agree := 0 } := by
  simp [State.compareOne, Nat.not_lt.2 hst, ht]

/-- The registers that show the digests compared last. -/
abbrev digRegs : List Nat := [R.TWN_DIG_LO, R.TWN_DIG_HI, R.TWN_PDIG_LO, R.TWN_PDIG_HI, R.TWN_DIG_TICK_LO, R.TWN_DIG_TICK_HI]

/-- The two digests and their tick are shown. -/
def State.digestsShown (s : State) (d e : Dig) : State :=
  ((s.putPair R.TWN_DIG_LO R.TWN_DIG_HI d.value.toNat).putPair R.TWN_PDIG_LO R.TWN_PDIG_HI e.value.toNat).putPair
    R.TWN_DIG_TICK_LO R.TWN_DIG_TICK_HI d.tick

theorem State.digestsShown_onlyRegs (s : State) (d e : Dig) : State.OnlyRegs digRegs s (s.digestsShown d e) :=
  ((State.OnlyRegs.putPair (by decide) (by decide) s _).trans (.putPair (by decide) (by decide) _ _)).trans
    (.putPair (by decide) (by decide) _ _)

theorem State.pairState_digestsShown (s : State) (d e : Dig) : (s.digestsShown d e).pairState = s.pairState :=
  State.fld_of_reg ((s.digestsShown_onlyRegs d e).keeps _ (by decide))

/-- A pair written before two words apart from it reads back. -/
theorem State.pair_putPair_of_ne (s : State) {lo hi a b : Nat} (v : Nat) (h : lo ≠ a ∧ lo ≠ b ∧ hi ≠ a ∧ hi ≠ b) :
    (s.putPair lo hi v).pair a b = s.pair a b := by
  obtain ⟨hla, hlb, hha, hhb⟩ := h
  simp only [State.pair, State.putPair, State.reg_put_of_ne _ _ hla, State.reg_put_of_ne _ _ hlb, State.reg_put_of_ne _ _ hha,
    State.reg_put_of_ne _ _ hhb]

theorem State.digestsShown_shows (s : State) (d e : Dig) :
    (s.digestsShown d e).pair R.TWN_DIG_LO R.TWN_DIG_HI = d.value.toNat ∧
      (s.digestsShown d e).pair R.TWN_PDIG_LO R.TWN_PDIG_HI = e.value.toNat := by
  unfold State.digestsShown
  constructor
  · rw [State.pair_putPair_of_ne _ _ (by decide), State.pair_putPair_of_ne _ _ (by decide), State.pair_putPair _ (by decide)]
    exact Nat.mod_eq_of_lt d.value.isLt
  · rw [State.pair_putPair_of_ne _ _ (by decide), State.pair_putPair _ (by decide)]
    exact Nat.mod_eq_of_lt e.value.isLt

/-- A mismatch is counted, and lengthens the run. -/
def State.mismatchNoted (s : State) (d e : Dig) : State :=
  ((s.digestsShown d e).count R.TWN_MISMATCH_CNT).setTwn fun t => { t with run := t.run + 1, agree := 0 }

theorem State.mismatchNoted_reacts (s : State) (d e : Dig) : s.Reacts (R.TWN_MISMATCH_CNT :: digRegs) (s.mismatchNoted d e) :=
  ((State.Reacts.of_onlyRegs ((s.digestsShown_onlyRegs d e).mono (List.subset_cons_self _ _))).trans (.count (by decide) _)).trans
    (.setTwn _ _)

theorem State.compareOne_of_found (hst : 4 ≤ s.pairState) (ht : s.twn.theirs = [e]) (he : e.tick = d.tick) : s.compareOne d =
    if d.value = e.value then (s.digestsShown d e).agreeDigest else (s.mismatchNoted d e).diverge d.tick d.worst e.worst := by
  unfold State.compareOne
  rw [if_neg (Nat.not_lt.2 hst), ht, List.find?_cons_of_pos (by simpa using he)]
  rfl

/-- What the comparison of the one digest due leads to. -/
theorem exec_digestCompare_of_found (ho : s.twn.own = [d]) (hd : d.tick + 2 ≤ s.tickNum) (hst : 4 ≤ s.pairState)
    (ht : s.twn.theirs = [e]) (he : e.tick = d.tick) : ∃ f, exec .digestCompare s = .next
      ((if d.value = e.value then (s.digestsShown d e).agreeDigest else (s.mismatchNoted d e).diverge d.tick d.worst e.worst).setTwn f) ∧
      ∀ t : Twin, (f t).run = t.run ∧ (t.own = [d] → (f t).own = []) ∧ (t.theirs = [e] → (f t).theirs = []) := by
  refine ⟨_, congrArg Host.Outcome.next ((State.compareDigests_of_one ho hd).trans
    (congrArg (fun u => State.setTwn u _) (State.compareOne_of_found hst ht he))), fun t => ⟨rfl, fun k => ?_, fun k => ?_⟩⟩
  · simp [k]
  · simp [k, he]

/-! ## Agreement (R227) -/

theorem State.agreeDigest_of_equinox (h : s.pairState = 5) :
    s.agreeDigest = s.setTwn fun t => { t with run := 0, agree := t.agree + 1 } := if_neg (by simp [h])

/-- The eighth match in a row in VERIFY gives EQUINOX. -/
theorem State.agreeDigest_of_eighth (h : s.pairState = 4) (ha : s.twn.agree = 7) : s.agreeDigest.pairState = 5 ∧
    s.agreeDigest.paired = true ∧ s.agreeDigest.mem = s.mem := by
  obtain ⟨u, hu⟩ : ∃ u, u = s.setTwn fun t => { t with run := 0, agree := t.agree + 1 } := ⟨_, rfl⟩
  have hx : s.agreeDigest = ((u.setPair 5).setTwn fun t => { t with quiet := false, cold := false }).postEvent 4 2 [] :=
    hu ▸ if_pos (by simp [h, ha])
  have hp := State.Reacts.postEvent ((u.setPair 5).setTwn fun t => { t with quiet := false, cold := false }) 4 2 []
  rw [hx]
  exact ⟨(State.fld_of_reg (hp.keeps _ (by decide))).trans (State.pairState_setPair (s := u) (st := 5) (by decide)),
    (State.flag_of_reg (hp.keeps _ (by decide))).trans (State.paired_setPair (s := u) (st := 5) (by decide)),
    hp.mem.trans ((u.setPair_reacts 5).mem.trans (hu ▸ rfl))⟩

/-! ## Divergence (R227, R231) -/

/-- The registers that a resynchronisation with a wrong module writes: its own, and those of the handover from a wrong owner. -/
def resyncRegs : List Nat := rsRegs ++ [R.TWN_HO_CTRL, R.TWN_HO_TICK_LO, R.TWN_HO_TICK_HI]

theorem State.armHandover_reacts (s : State) (h : Nat) (o : Bool) :
    s.Reacts [R.TWN_HO_CTRL, R.TWN_HO_TICK_LO, R.TWN_HO_TICK_HI] (s.armHandover h o) :=
  ((State.Reacts.setTwn s _).trans (.of_onlyRegs (.putPair (by decide) (by decide) _ _))).trans (.setFlag (by decide) _ _)

theorem State.resyncWrong_eq (s : State) (n : Nat) (wrong : Bool) : s.resyncWrong n wrong = s.startResync (!wrong) ∨
    s.resyncWrong n wrong = (s.startResync (!wrong)).armHandover (n + 4) (s.startResync (!wrong)).isOwner := by
  unfold State.resyncWrong
  dsimp only
  split_ifs
  · exact .inr rfl
  · exact .inl rfl

/-- The divergence flag stands above the fields that a new pair state writes. -/
theorem State.flag_startResync_div (s : State) (src : Bool) : (s.startResync src).flag F.TWN_STATUS_div = s.flag F.TWN_STATUS_div := by
  obtain ⟨u, hu⟩ : ∃ u, u = (s.rsDrop).setTwn fun t => { t with rsSource := src, quiet := !src, cold := false } := ⟨_, rfl⟩
  have hf : u.flag F.TWN_STATUS_div = s.flag F.TWN_STATUS_div := hu ▸ State.flag_of_reg (s.rsDrop_reacts.keeps _ (by decide))
  have hx : s.startResync src = if src then (u.setPair (if src then 2 else 3)).rsAnnounce 1 else u.setPair (if src then 2 else 3) := hu ▸ rfl
  have hp (st : Nat) : (u.setPair st).flag F.TWN_STATUS_div = s.flag F.TWN_STATUS_div :=
    (State.flag_setPair rfl (by decide) (by decide)).trans hf
  rw [hx]
  split_ifs
  · exact (State.flag_of_reg ((State.rsAnnounce_reacts [] _ 1).keeps _ (by decide))).trans (hp 2)
  · exact hp 3

/-- The wrong module of a tick is the destination, the other one the source. -/
theorem State.resyncWrong_starts (s : State) (n : Nat) (wrong : Bool) :
    (s.resyncWrong n wrong).pairState = (if wrong then 3 else 2) ∧
      (s.resyncWrong n wrong).flag F.TWN_STATUS_div = s.flag F.TWN_STATUS_div ∧ s.Reacts resyncRegs (s.resyncWrong n wrong) := by
  have hst : (s.startResync (!wrong)).pairState = if wrong then 3 else 2 := by
    rw [State.pairState_startResync]
    cases wrong <;> rfl
  have hf := s.flag_startResync_div (!wrong)
  have hr := (s.startResync_reacts (!wrong)).mono (m := resyncRegs) (List.subset_append_left _ _)
  rcases s.resyncWrong_eq n wrong with h | h <;> rw [h]
  · exact ⟨hst, hf, hr⟩
  · have ha := (s.startResync (!wrong)).armHandover_reacts (n + 4) (s.startResync (!wrong)).isOwner
    exact ⟨(State.fld_of_reg (ha.keeps _ (by decide))).trans hst, (State.flag_of_reg (ha.keeps _ (by decide))).trans hf,
      hr.trans (ha.mono (List.subset_append_right _ _))⟩

/-- The divergence is raised, counted, shown and reported. -/
def State.diverged (s : State) (n : Nat) : State :=
  (((s.raise 17 (word n)).count R.TWN_DIV_CNT).setFlag F.TWN_STATUS_div true).postEvent 4 6 []

theorem State.diverged_reports (s : State) (n : Nat) : (s.diverged n).latched 17 = true ∧ (s.diverged n).flag F.TWN_STATUS_div = true ∧
    (s.diverged n).reg R.TWN_DIV_CNT = counted (s.reg R.TWN_DIV_CNT) ∧ (s.diverged n).mem = s.mem := by
  have hr := s.reacts_raise (i := 17) (word n) (by decide)
  obtain ⟨u, hu⟩ : ∃ u, u = s.raise 17 (word n) := ⟨_, rfl⟩
  obtain ⟨v, hv⟩ : ∃ v, v = (u.count R.TWN_DIV_CNT).setFlag F.TWN_STATUS_div true := ⟨_, rfl⟩
  have hx : s.diverged n = v.postEvent 4 6 [] := by rw [hv, hu]; rfl
  have hc : u.Reacts [R.TWN_DIV_CNT, R.TWN_STATUS] v := hv ▸ (State.Reacts.count (by decide) u).trans (.setFlag (by decide) _ _)
  have hp := State.Reacts.postEvent v 4 6 []
  have hl : u.latched 17 = true := hu ▸ s.latched_raise _ (by decide)
  have hdiv : v.flag F.TWN_STATUS_div = true := hv ▸ State.flag_setFlag_self _ _ _ (by decide) rfl
  have hcnt : v.reg R.TWN_DIV_CNT = counted (u.reg R.TWN_DIV_CNT) :=
    hv ▸ (State.reg_setFld_of_ne _ _ (by decide)).trans (u.reg_count_self _)
  rw [← hu] at hr
  rw [hx]
  refine ⟨?_, (State.flag_of_reg (hp.keeps _ (by decide))).trans hdiv, ?_, hp.mem.trans (hc.mem.trans hr.mem)⟩
  · exact (State.bit64_of_keeps hp.keeps (by decide) (by decide) _).trans
      ((State.bit64_of_keeps hc.keeps (by decide) (by decide) _).trans hl)
  · exact (hp.keeps _ (by decide)).trans (hcnt.trans (congrArg counted (hr.keeps _ (by decide))))

theorem State.diverge_of_run (h : s.pairState = 5) (hr : s.twn.run < 3) (n mine theirs : Nat) : s.diverge n mine theirs = s := by
  simp [State.diverge, h, hr]

theorem State.diverge_of_third (h : s.pairState = 5) (hr : ¬ s.twn.run < 3) (n mine theirs : Nat) :
    s.diverge n mine theirs = (s.diverged n).resyncWrong n (s.isWrong mine theirs) := by
  simp only [State.diverge, h, hr, if_false]
  rfl

theorem State.diverge_of_verify (h : s.pairState = 4) (n mine theirs : Nat) :
    s.diverge n mine theirs = (s.count R.TWN_RESYNC_CNT).resyncWrong n (s.isWrong mine theirs) := by
  simp [State.diverge, h]

/-- The third mismatch raises source 17, and the wrong module becomes the destination. -/
theorem State.diverge_resyncs (h : s.pairState = 5) (hr : ¬ s.twn.run < 3) (n mine theirs : Nat) :
    (s.diverge n mine theirs).pairState = (if s.isWrong mine theirs then 3 else 2) ∧ (s.diverge n mine theirs).latched 17 = true ∧
      (s.diverge n mine theirs).flag F.TWN_STATUS_div = true ∧
      (s.diverge n mine theirs).reg R.TWN_DIV_CNT = counted (s.reg R.TWN_DIV_CNT) ∧ (s.diverge n mine theirs).mem = s.mem := by
  obtain ⟨hl, hf, hc, hm⟩ := s.diverged_reports n
  obtain ⟨hst, hk, hrs⟩ := (s.diverged n).resyncWrong_starts n (s.isWrong mine theirs)
  rw [State.diverge_of_third h hr]
  exact ⟨hst, (State.bit64_of_keeps hrs.keeps (by decide) (by decide) _).trans hl, hk.trans hf, (hrs.keeps _ (by decide)).trans hc,
    hrs.mem.trans hm⟩

theorem State.isWrong_of_fault {mine theirs : Nat} (hm : 2 ≤ mine) (ht : theirs < 2) : s.isWrong mine theirs = true :=
  if_pos (by simp [hm, ht])

theorem State.isWrong_of_partner_fault {mine theirs : Nat} (hm : mine < 2) (ht : 2 ≤ theirs) : s.isWrong mine theirs = false := by
  simp [State.isWrong, hm, ht, Nat.not_le.2 hm]

/-- With no fault on either side, in EQUINOX the module that is not the owner is wrong. -/
theorem State.isWrong_of_sound {mine theirs : Nat} (h : s.pairState = 5) (hm : mine < 2) (ht : theirs < 2) :
    s.isWrong mine theirs = !s.isOwner := by
  simp [State.isWrong, Nat.not_le.2 hm, Nat.not_le.2 ht, h]

/-! ## The steps of resynchronisation (R235) -/

theorem exec_rsStep_of_destination (h : s.pairState = 3) (k : Fin 6) (n : BitVec 64) :
    exec (.rsStep k n true) s = .next (s.setTwn fun t => { t with rsNext := some (k.val, n.toNat) }) :=
  congrArg Host.Outcome.next (if_pos h)

theorem State.stepDue_of_reached {k a : Nat} (hn : s.twn.rsNext = some (k, a)) (ha : a ≤ s.tickNum) : s.stepDue = some k := by
  simp [State.stepDue, hn, ha]

/-- The source announces a step for a later tick. -/
theorem State.rsAnnounce_announces (s : State) (n : Nat) : ∃ (tag at2 : Nat), s.tickNum < at2 ∧
    (s.rsAnnounce n).twn.rsNext = some (n, at2) ∧ (s.rsAnnounce n).twn.msgs = s.twn.msgs ++ [⟨3, Tbl.get (fun _ => 0) s.twn.msgSeq 3,
      [9, 0] ++ beBytes 2 tag ++ (beBytes 1 n ++ beBytes 8 at2)⟩] :=
  ⟨Config.freeNat (s.fresh + 1), s.tickNum + 1 + Config.freeNat s.fresh, by omega, rfl, rfl⟩

/-- The configuration that goes to the destination holds nothing of the twin block, nor of its status. -/
theorem State.config_rsStep (s : State) (f : Twin → Twin) (n : Nat) : ((s.setTwn f).rsStep n).config = s.config := by
  have hreg (o : Nat) (h : R.TWN_RS_STATUS ≠ o) : ((s.setTwn f).rsStep n).reg o = s.reg o := State.reg_setFld_of_ne _ _ h
  have hamp : ((s.setTwn f).rsStep n).ampMove = s.ampMove := by
    funext c
    have hz : ((s.setTwn f).rsStep n).fld (F.SNS_CH_ZBASE_z_base c) = s.fld (F.SNS_CH_ZBASE_z_base c) :=
      State.fld_of_reg (hreg _ (by simp only [R.TWN_RS_STATUS, R.SNS_CH_ZBASE]; omega))
    have hf : ((s.setTwn f).rsStep n).fld (F.SNS_CH_ZFLAGS_now c) = s.fld (F.SNS_CH_ZFLAGS_now c) :=
      State.fld_of_reg (hreg _ (by simp only [R.TWN_RS_STATUS, R.SNS_CH_ZFLAGS]; omega))
    have hu : ((s.setTwn f).rsStep n).flag (F.MOD_CH_STATUS_uv c) = s.flag (F.MOD_CH_STATUS_uv c) :=
      State.flag_of_reg (hreg _ (by simp only [R.TWN_RS_STATUS, R.MOD_CH_STATUS]; omega))
    unfold State.ampMove
    rw [hz, hf, hu]
    rfl
  have hset : ((s.setTwn f).rsStep n).setMove = s.setMove := by
    funext id p
    unfold State.setMove State.active?
    rw [State.bytes_of_mem (s := s) (t := (s.setTwn f).rsStep n) rfl]
  unfold State.config
  rw [hamp, hset]
  rfl

/-- Step 1 has begun: whether a pair is paired follows. -/
def State.firstStep (s : State) : State := (s.setTwn fun t => { t with rsNext := none, rsFirst := true }).rsStep 1

theorem State.firstStep_reacts (s : State) : s.Reacts [R.TWN_RS_STATUS] s.firstStep := (State.Reacts.setTwn s _).trans (.setFld (by decide) _ _)

theorem State.fld_firstStep (s : State) : s.firstStep.fld F.TWN_RS_STATUS_step = 1 := State.fld_setFld_self _ _ _ (by decide)

/-- In either role of a resynchronisation whose first step has begun, the pair is paired (R227). -/
theorem State.paired_setPaired_of_first (h : s.pairState = 2 ∨ s.pairState = 3) (hf : s.twn.rsFirst = true) : s.setPaired.paired = true := by
  rw [State.paired_setPaired, hf]
  rcases h with h | h <;> simp [h]

theorem State.setPaired_reacts (s : State) : s.Reacts [R.TWN_STATUS, R.MIX_PSET_STATUS] s.setPaired :=
  (State.Reacts.setFlag (by decide) s _).trans (.setFlag (by decide) _ _)

theorem State.stepStart_first (h : s.pairState = 2 ∨ s.pairState = 3) (hd : s.stepDue = some 1) (c : ResyncCfg) : s.stepStart c =
    let u := (if s.firstStep.twn.rsSource then s.firstStep.emit (.resync s.firstStep.config) else s.firstStep.install c).setPaired
    if u.twn.rsSource then u.rsAnnounce 2 else u := by
  have hp : ¬ (s.pairState ≠ 2 && s.pairState ≠ 3) = true := by rcases h with h | h <;> simp [h]
  unfold State.stepStart
  rw [if_neg hp, hd]
  rfl

/-- At step 1 the source sends its configuration, and announces step 2. -/
theorem State.stepStart_first_of_source {a : Nat} (h : s.pairState = 2) (hs : s.twn.rsSource = true) (hn : s.twn.rsNext = some (1, a))
    (ha : a ≤ s.tickNum) (c : ResyncCfg) : (s.stepStart c).paired = true ∧ (s.stepStart c).fld F.TWN_RS_STATUS_step = 1 ∧
      (∃ (tag : Nat) (at2 : Nat), s.tickNum < at2 ∧ (s.stepStart c).twn.rsNext = some (2, at2) ∧
        (s.stepStart c).outbox = s.outbox ++ [.resync s.config] ∧ (s.stepStart c).twn.msgs = s.twn.msgs ++
          [⟨3, Tbl.get (fun _ => 0) s.twn.msgSeq 3, [9, 0] ++ beBytes 2 tag ++ ([2] ++ beBytes 8 at2)⟩]) ∧
      s.KeepsRegs (s.stepStart c) [R.TWN_RS_STATUS, R.TWN_STATUS, R.MIX_PSET_STATUS] ∧ (s.stepStart c).mem = s.mem := by
  obtain ⟨u, hu⟩ : ∃ u, u = s.firstStep.emit (.resync s.config) := ⟨_, rfl⟩
  have hr : s.Reacts [R.TWN_RS_STATUS] u := hu ▸ s.firstStep_reacts.trans (.emit _ _)
  have hcfg : s.firstStep.config = s.config := s.config_rsStep _ 1
  have hsrc : s.firstStep.twn.rsSource = true := hs
  have husrc : u.setPaired.twn.rsSource = true := hu ▸ hs
  have hfirst : u.twn.rsFirst = true := hu ▸ rfl
  have hmsgs : u.setPaired.twn.msgs = s.twn.msgs ∧ u.setPaired.twn.msgSeq = s.twn.msgSeq := hu ▸ ⟨rfl, rfl⟩
  have htick : u.setPaired.tickNum = s.tickNum := hu ▸ rfl
  have hout : u.setPaired.outbox = s.outbox ++ [.resync s.config] := hu ▸ rfl
  have hstep : u.fld F.TWN_RS_STATUS_step = 1 := hu ▸ s.fld_firstStep
  have hst : u.pairState = 2 := (State.fld_of_reg (hr.keeps _ (by decide))).trans h
  have hx : s.stepStart c = u.setPaired.rsAnnounce 2 := by
    rw [State.stepStart_first (.inl h) (State.stepDue_of_reached hn ha), if_pos hsrc, hcfg, ← hu]
    exact if_pos husrc
  have hp := u.setPaired_reacts
  have hk := State.rsAnnounce_reacts rsRegs u.setPaired 2
  obtain ⟨tag, at2, hlt, hnext, hmsg⟩ := u.setPaired.rsAnnounce_announces 2
  rw [hmsgs.1, hmsgs.2] at hmsg
  rw [hx]
  refine ⟨(State.flag_of_reg ((State.rsAnnounce_reacts [] _ 2).keeps _ (by decide))).trans
      (State.paired_setPaired_of_first (.inl hst) hfirst),
    (State.fld_of_reg ((State.rsAnnounce_reacts [] _ 2).keeps _ (by decide))).trans
      ((State.fld_of_reg (hp.keeps _ (by decide))).trans hstep),
    ⟨tag, at2, htick ▸ hlt, hnext, hout, hmsg⟩, ?_, hk.mem.trans (hp.mem.trans hr.mem)⟩
  exact (((hr.mono (by decide)).trans (hp.mono (by decide))).trans hk).keeps

/-- At step 1 the destination installs the source's configuration. -/
theorem State.stepStart_first_of_destination {a : Nat} (h : s.pairState = 3) (hs : s.twn.rsSource = false) (hn : s.twn.rsNext = some (1, a))
    (ha : a ≤ s.tickNum) (i : Nat) (bs : List Byte) : ∃ t : State, s.stepStart { step := 1, tx := [(i, bs)] } = t ∧ t.paired = true ∧
      t.fld F.TWN_RS_STATUS_step = 1 ∧ Tbl.get (fun _ => []) t.str.tx i = bs ∧ t.mix.sets = [] ∧ t.outbox = s.outbox := by
  obtain ⟨hi, hsets, htx⟩ := s.firstStep.install_tx i bs
  obtain ⟨u, hu⟩ : ∃ u, u = s.firstStep.install { step := 1, tx := [(i, bs)] } := ⟨_, rfl⟩
  have hsrc : ¬ s.firstStep.twn.rsSource = true := Bool.eq_false_iff.1 hs
  rw [← hu] at hi hsets htx
  have hno : ¬ u.setPaired.twn.rsSource = true := by
    change ¬ u.twn.rsSource = true
    rw [hi.twn]
    exact hsrc
  have hst : u.pairState = 3 := (State.fld_of_reg (hi.status.trans (s.firstStep_reacts.keeps _ (by decide)))).trans h
  have hfirst : u.twn.rsFirst = true := by rw [hi.twn]; rfl
  have hx : s.stepStart { step := 1, tx := [(i, bs)] } = u.setPaired := by
    rw [State.stepStart_first (.inr h) (State.stepDue_of_reached hn ha), if_neg hsrc, ← hu]
    exact if_neg hno
  exact ⟨_, hx, State.paired_setPaired_of_first (.inr hst) hfirst,
    (State.fld_of_reg ((u.setPaired_reacts.keeps _ (by decide)).trans hi.step)).trans s.fld_firstStep, htx, hsets, hi.outbox⟩

/-- At step 2 the destination reads the mirror. -/
theorem State.stepStart_second {a : Nat} (h : s.pairState = 3) (hs : s.twn.rsSource = false) (hn : s.twn.rsNext = some (2, a))
    (ha : a ≤ s.tickNum) (c : ResyncCfg) : s.stepStart c =
      ((s.setTwn fun t => { t with rsNext := none, rsMirror := !t.rsSource }).rsStep 2).setFlag F.TWN_RS_STATUS_mirror true := by
  have hp : ¬ (s.pairState ≠ 2 && s.pairState ≠ 3) = true := by simp [h]
  unfold State.stepStart
  rw [if_neg hp, State.stepDue_of_reached hn ha]
  exact if_neg (Bool.eq_false_iff.1 hs)

theorem State.stepStart_fourth {a : Nat} (h : s.pairState = 3) (hn : s.twn.rsNext = some (4, a)) (ha : a ≤ s.tickNum) (c : ResyncCfg) :
    s.stepStart c = (s.setTwn fun t => { t with rsNext := none }).setFld F.TWN_RS_STATUS_step 4 := by
  have hp : ¬ (s.pairState ≠ 2 && s.pairState ≠ 3) = true := by simp [h]
  unfold State.stepStart
  rw [if_neg hp, State.stepDue_of_reached hn ha]
  rfl

/-! ## The final tick (R236) -/

/-- At tick F both modules go to VERIFY. -/
theorem State.resyncFinal_verifies {a : Nat} (h : s.pairState = 2 ∨ s.pairState = 3) (hn : s.twn.rsNext = some (5, a))
    (ha : a ≤ s.tickNum) : s.resyncFinal.pairState = 4 ∧ s.resyncFinal.paired = true ∧ s.resyncFinal.fld F.TWN_RS_STATUS_step = 5 ∧
      s.resyncFinal.twn.rsMirror = false ∧ s.resyncFinal.twn.rsEnd = some (s.tickNum + 8) ∧
      s.KeepsRegs s.resyncFinal [R.TWN_RS_STATUS, R.TWN_STATUS, R.MIX_PSET_STATUS] ∧ s.resyncFinal.mem = s.mem ∧
      s.resyncFinal.outbox = s.outbox := by
  obtain ⟨u, hu⟩ : ∃ u, u = (s.setTwn fun t => { t with
    rsNext := none, rsMirror := false, catchUp := [], rsEnd := some (s.tickNum + 8), agree := 0, run := 0 }).rsStep 5 := ⟨_, rfl⟩
  have hc : (s.stepDue = some 5 && (s.pairState = 2 || s.pairState = 3)) = true := by
    simpa [State.stepDue_of_reached hn ha] using h
  have hx : s.resyncFinal = u.setPair 4 := hu ▸ if_pos hc
  have hr : s.Reacts [R.TWN_RS_STATUS] u := hu ▸ (State.Reacts.setTwn s _).trans (.setFld (by decide) _ _)
  have hp := u.setPair_reacts 4
  have hstep : u.fld F.TWN_RS_STATUS_step = 5 := hu ▸ State.fld_setFld_self _ _ _ (by decide)
  have htwn : u.twn.rsMirror = false ∧ u.twn.rsEnd = some (s.tickNum + 8) := hu ▸ ⟨rfl, rfl⟩
  have hout : u.outbox = s.outbox := hu ▸ rfl
  obtain ⟨_, hw⟩ := u.setPair_twn 4
  rw [hx, hw]
  exact ⟨State.pairState_setPair (by decide), State.paired_setPair (by decide),
    (State.fld_of_reg (hp.keeps _ (by decide))).trans hstep, htwn.1, htwn.2, ((hr.mono (by decide)).trans (hp.mono (by decide))).keeps,
    hp.mem.trans hr.mem, (u.setPair_outbox 4).trans hout⟩

/-! ## The comparison's outcomes -/

/-- A mismatch noted: the run is one longer, the mismatch counted; the pair's state and the owner are as before. -/
theorem State.mismatchNoted_notes (s : State) (d e : Dig) : (s.mismatchNoted d e).pairState = s.pairState ∧
    (s.mismatchNoted d e).isOwner = s.isOwner ∧ (s.mismatchNoted d e).twn.run = s.twn.run + 1 ∧
    (s.mismatchNoted d e).reg R.TWN_MISMATCH_CNT = counted (s.reg R.TWN_MISMATCH_CNT) ∧ (s.mismatchNoted d e).outbox = s.outbox := by
  refine ⟨State.fld_of_reg ((s.mismatchNoted_reacts d e).keeps _ (by decide)), rfl, rfl, ?_, rfl⟩
  exact (State.reg_count_self _ _).trans (congrArg counted ((s.digestsShown_onlyRegs d e).keeps _ (by decide)))

section
variable (ho : s.twn.own = [d]) (hd : d.tick + 2 ≤ s.tickNum) (ht : s.twn.theirs = [e]) (he : e.tick = d.tick)
include ho hd ht he

theorem digestCompare_agrees (hv : d.value = e.value) (h : s.pairState = 5) : ∃ t : State, exec .digestCompare s = .next t ∧
    t.twn.run = 0 ∧ t.twn.own = [] ∧ t.twn.theirs = [] ∧ t.pair R.TWN_DIG_LO R.TWN_DIG_HI = d.value.toNat ∧
    t.pair R.TWN_PDIG_LO R.TWN_PDIG_HI = e.value.toNat ∧ s.KeepsRegs t digRegs ∧ t.mem = s.mem ∧ t.outbox = s.outbox := by
  obtain ⟨f, hx, hf⟩ := exec_digestCompare_of_found ho hd (by omega) ht he
  have hr := s.digestsShown_onlyRegs d e
  have htwn : (s.digestsShown d e).twn = s.twn := rfl
  obtain ⟨hmine, htheirs⟩ := s.digestsShown_shows d e
  rw [if_pos hv, State.agreeDigest_of_equinox ((s.pairState_digestsShown d e).trans h)] at hx
  obtain ⟨u, hu⟩ : ∃ u, u = s.digestsShown d e := ⟨_, rfl⟩
  rw [← hu] at hx hr htwn hmine htheirs
  exact ⟨_, hx, (hf _).1, (hf _).2.1 ((congrArg Twin.own htwn).trans ho), (hf _).2.2 ((congrArg Twin.theirs htwn).trans ht), hmine, htheirs, hr.keeps, hr.mem, hr.outbox⟩

theorem digestCompare_eighth (hv : d.value = e.value) (h : s.pairState = 4) (ha : s.twn.agree = 7) : ∃ t : State,
    exec .digestCompare s = .next t ∧ t.pairState = 5 ∧ t.paired = true ∧ t.mem = s.mem := by
  obtain ⟨f, hx, _⟩ := exec_digestCompare_of_found ho hd (by omega) ht he
  obtain ⟨h5, hp, hm⟩ := State.agreeDigest_of_eighth ((s.pairState_digestsShown d e).trans h) ha
  obtain ⟨u, hu⟩ : ∃ u, u = (s.digestsShown d e).agreeDigest := ⟨_, rfl⟩
  rw [← hu] at h5 hp hm
  rw [if_pos hv, ← hu] at hx
  exact ⟨_, hx, h5, hp, hm.trans (s.digestsShown_onlyRegs d e).mem⟩

theorem digestCompare_runs (hv : d.value ≠ e.value) (h : s.pairState = 5) (hr : s.twn.run < 2) : ∃ t : State,
    exec .digestCompare s = .next t ∧ t.twn.run = s.twn.run + 1 ∧ t.pairState = 5 ∧
      t.reg R.TWN_MISMATCH_CNT = counted (s.reg R.TWN_MISMATCH_CNT) ∧ t.mem = s.mem ∧ t.outbox = s.outbox := by
  obtain ⟨f, hx, hf⟩ := exec_digestCompare_of_found ho hd (by omega) ht he
  obtain ⟨hst, _, hrun, hc, hout⟩ := s.mismatchNoted_notes d e
  have hm := (s.mismatchNoted_reacts d e).mem
  rw [if_neg hv, State.diverge_of_run (hst.trans h) (by omega)] at hx
  obtain ⟨u, hu⟩ : ∃ u, u = s.mismatchNoted d e := ⟨_, rfl⟩
  rw [← hu] at hx hst hrun hc hout hm
  exact ⟨_, hx, (hf _).1.trans hrun, hst.trans h, hc, hm, hout⟩

theorem digestCompare_third (hv : d.value ≠ e.value) (h : s.pairState = 5) (hr : s.twn.run = 2) : ∃ t : State,
    exec .digestCompare s = .next t ∧ t.pairState = (if (s.mismatchNoted d e).isWrong d.worst e.worst then 3 else 2) ∧
      t.latched 17 = true ∧ t.flag F.TWN_STATUS_div = true ∧ t.reg R.TWN_DIV_CNT = counted (s.reg R.TWN_DIV_CNT) ∧ t.mem = s.mem := by
  obtain ⟨f, hx, _⟩ := exec_digestCompare_of_found ho hd (by omega) ht he
  obtain ⟨hst, _, hrun, _, _⟩ := s.mismatchNoted_notes d e
  have hm := s.mismatchNoted_reacts d e
  obtain ⟨h3, hl, hf, hc, hmem⟩ := State.diverge_resyncs (s := s.mismatchNoted d e) (hst.trans h) (by omega) d.tick d.worst e.worst
  obtain ⟨u, hu⟩ : ∃ u, u = (s.mismatchNoted d e).diverge d.tick d.worst e.worst := ⟨_, rfl⟩
  rw [← hu] at h3 hl hf hc hmem
  rw [if_neg hv, ← hu] at hx
  exact ⟨_, hx, h3, hl, hf, hc.trans (congrArg counted (hm.keeps _ (by decide))), hmem.trans hm.mem⟩

theorem digestCompare_restarts (hv : d.value ≠ e.value) (h : s.pairState = 4) (hm : d.worst < 2) (hp : 2 ≤ e.worst) : ∃ t : State,
    exec .digestCompare s = .next t ∧ t.pairState = 2 ∧ t.reg R.TWN_RESYNC_CNT = counted (s.reg R.TWN_RESYNC_CNT) ∧ t.mem = s.mem := by
  obtain ⟨f, hx, _⟩ := exec_digestCompare_of_found ho hd (by omega) ht he
  obtain ⟨hst, _, _, _, _⟩ := s.mismatchNoted_notes d e
  have hn := s.mismatchNoted_reacts d e
  obtain ⟨h2, _, hr⟩ := ((s.mismatchNoted d e).count R.TWN_RESYNC_CNT).resyncWrong_starts d.tick false
  rw [if_neg hv, State.diverge_of_verify (hst.trans h), State.isWrong_of_partner_fault hm hp] at hx
  exact ⟨_, hx, h2, (hr.keeps _ (by decide)).trans ((State.reg_count_self _ _).trans (congrArg counted (hn.keeps _ (by decide)))),
    hr.mem.trans hn.mem⟩

end

/-- Settles O41: each clause is the lemma of its event. -/
theorem digestsAreComparedAndPairsResynchronise : Obligations.DigestsAreComparedAndPairsResynchronise := by
  unfold Obligations.DigestsAreComparedAndPairsResynchronise
  intro s d e n v w o k a i u f c x bl bs
  refine ⟨fun ho hc => ⟨_, exec_digestSend_of_one ho hc, rfl, rfl, fun _ _ => rfl, rfl, rfl⟩, fun hst => ?_, fun ho hd ht hst => ?_,
    fun ho hd ht he => ⟨fun hv h => digestCompare_agrees ho hd ht he hv h, fun hv h ha => digestCompare_eighth ho hd ht he hv h ha,
      fun hv h hr => digestCompare_runs ho hd ht he hv h hr, fun hv h hr hm hp => ?_, fun hv h hr hm hp how => ?_,
      fun hv h hm hp => digestCompare_restarts ho hd ht he hv h hm hp⟩,
    fun h => exec_rsStep_of_destination h k n, fun h hs hn ha => ⟨_, rfl, State.stepStart_first_of_source h hs hn ha c⟩,
    fun h hs hn ha _ => ?_, fun h hs hn ha => ?_, fun h hn ha => ?_, ⟨rfl, rfl, rfl, rfl⟩,
    fun h => congrArg Host.Outcome.next (if_pos h), fun h => congrArg Host.Outcome.next (if_pos h),
    fun h hn ha => ⟨_, rfl, State.resyncFinal_verifies h hn ha⟩⟩
  case refine_1 => exact congrArg Host.Outcome.next (if_pos hst)
  case refine_2 =>
    refine congrArg Host.Outcome.next ((State.compareDigests_of_one ho hd).trans ?_)
    rw [State.compareOne_of_missing hst ht]
    simp only [State.setTwn, State.count_twn, ho, ht]
    simp
  case refine_3 =>
    obtain ⟨t, hx, h3, hrest⟩ := digestCompare_third ho hd ht he hv h hr
    rw [State.isWrong_of_fault hm hp] at h3
    exact ⟨t, hx, h3, hrest⟩
  case refine_4 =>
    obtain ⟨hst, hown, _⟩ := s.mismatchNoted_notes d e
    obtain ⟨t, hx, h2, hl, _, _, hmem⟩ := digestCompare_third ho hd ht he hv h hr
    rw [State.isWrong_of_sound (hst.trans h) hm hp, hown, how] at h2
    exact ⟨t, hx, h2, hl, hmem⟩
  case refine_5 =>
    obtain ⟨t, hx, ht⟩ := State.stepStart_first_of_destination h hs hn ha i bs
    exact ⟨t, congrArg Host.Outcome.next hx, ht⟩
  case refine_6 =>
    have hr : s.Reacts [R.TWN_RS_STATUS] (((s.setTwn fun t => { t with rsNext := none, rsMirror := !t.rsSource }).rsStep 2).setFlag
        F.TWN_RS_STATUS_mirror true) := ((State.Reacts.setTwn s _).trans (.setFld (by decide) _ _)).trans (.setFlag (by decide) _ _)
    refine ⟨_, congrArg Host.Outcome.next (State.stepStart_second h hs hn ha c), ?_, ?_, State.flag_setFlag_self _ _ _ (by decide) rfl,
      hr.keeps, hr.mem, rfl⟩
    · exact congrArg not hs
    · exact (State.fld_setFld_of_apart _ F.TWN_RS_STATUS_mirror _ _ (by decide) (by decide)).trans
        (State.fld_setFld_self _ _ _ (by decide))
  case refine_7 => exact congrArg Host.Outcome.next (State.stepStart_fourth h hn ha c)

end Sys2Proof.Machine
end

section
/-!
PROOFS. The two-wire controllers (R463 to R468): one request and its end, bus clears, the configuration register.
-/

namespace Sys2Proof.Machine

variable {s : State} {r : TwiCmd} {n : Nat}

/-! ## The registers of a controller (R516) -/

/-- Of one controller the status, the configuration, the timing and the counts are different registers. -/
theorem twiStatus_ne (n : Nat) : R.TWI_C_STATUS n ≠ R.TWI_C_CFG n ∧ R.TWI_C_STATUS n ≠ R.TWI_C_XFER_CNT n ∧
    R.TWI_C_STATUS n ≠ R.TWI_C_NACK_CNT n ∧ R.TWI_C_STATUS n ≠ R.TWI_C_PROTO_CNT n ∧ R.TWI_C_STATUS n ≠ R.TWI_C_CLEAR_CNT n ∧
    R.TWI_C_STATUS n ≠ R.HIF_REJECT_CNT := by
  simp only [R.TWI_C_STATUS, R.TWI_C_CFG, R.TWI_C_XFER_CNT, R.TWI_C_NACK_CNT, R.TWI_C_PROTO_CNT, R.TWI_C_CLEAR_CNT, R.HIF_REJECT_CNT]
  omega

theorem twiCnt_ne (n : Nat) : R.TWI_C_NACK_CNT n ≠ R.HIF_REJECT_CNT ∧ R.TWI_C_PROTO_CNT n ≠ R.HIF_REJECT_CNT := by
  simp only [R.TWI_C_NACK_CNT, R.TWI_C_PROTO_CNT, R.HIF_REJECT_CNT]
  omega

theorem State.twiSt_setTwiSt (s : State) {st : Nat} (h : st < 8) : (s.setTwiSt n st).twiSt n = st :=
  (State.fld_setFld_self _ _ _ (by simp)).trans (Nat.mod_eq_of_lt h)

/-- The controller's state is kept by what keeps its status register, and by a flag above it. -/
theorem State.twiSt_of_reg {t : State} (h : t.reg (R.TWI_C_STATUS n) = s.reg (R.TWI_C_STATUS n)) : t.twiSt n = s.twiSt n := State.fld_of_reg h

theorem State.twiSt_count {o : Nat} (s : State) (h : o ≠ R.TWI_C_STATUS n) : (s.count o).twiSt n = s.twiSt n :=
  State.twiSt_of_reg (State.reg_put_of_ne _ _ h)

/-- A flag of the status register above the state stays when the state is set. -/
theorem State.flag_setTwiSt (s : State) {f : Fld} (st : Nat) (h : 2 < f.lo) (hi : f.hi < 32) : (s.setTwiSt n st).flag f = s.flag f :=
  State.flag_setFld_of_apart _ _ _ _ hi (.inr (.inl h))

theorem State.twiSt_setFlag (s : State) {f : Fld} (b : Bool) (h : 2 < f.lo) : (s.setFlag f b).twiSt n = s.twiSt n :=
  State.fld_setFld_of_apart _ _ _ _ (by simp) (.inr (.inr h))

/-! ## The queue (R463) -/

/-- With no request on the bus or queued for it, a controller has nothing to serve. -/
theorem State.twiServe_of_nothing (h : ∀ t ∈ s.hif.twi, t.back.isNone = false) (n : Nat) : s.twiServe n = s := by
  have hn (p : TwiCmd → Bool) : (s.hif.twi.filter fun t => p t && t.back.isNone) = [] :=
    List.filter_eq_nil_iff.2 fun t ht => by simp [h t ht]
  have hr (p : TwiCmd → Bool) : s.relayTwi p = s := by simp only [State.relayTwi, hn, List.foldl_nil, ite_self]
  have he (st : Nat) : s.twiEndAll n st = s := by
    unfold State.twiEndAll
    rw [hn fun t => t.ctl = n]
    rfl
  have hf : (s.twiFront n).isSome = false := by
    rw [State.twiFront, List.find?_eq_none.2 fun t ht => by simp [h t ht]]
    rfl
  simp only [State.twiServe, hr, he, hf, Bool.and_false, Bool.false_and, Bool.false_eq_true, if_false, ite_self]

theorem State.twiServe_of_empty (h : s.hif.twi = []) (n : Nat) : s.twiServe n = s := State.twiServe_of_nothing (by simp [h]) n

/-- The one request, which runs. -/
theorem State.twiFront_of_one (hq : s.hif.twi = [r]) (hc : r.ctl = n) (hb : r.back = none) : s.twiFront n = some r := by
  simp [State.twiFront, hq, hc, hb]

/-! ## The end of a request (R352, R353) -/

/-- From `s` to `t` the one request ended: none is left, its ring goes on, its completion waits to be written. -/
structure State.TwiEnds (s t : State) (r : TwiCmd) (st d : Nat) : Prop where
  twi : t.hif.twi = []
  busy : (t.ring r.ring).busy = false
  cpls : t.hif.cpls = s.hif.cpls ++ [⟨r.ring, r.tag, 0x60, st, d, s.tickNum⟩]

/-- What an end does with the interface. -/
def State.twiEnded (s : State) (r : TwiCmd) (st d : Nat) : State :=
  let s := s.setHif fun h => { h with twi := h.twi.erase r }
  (s.setRing r.ring { s.ring r.ring with busy := false }).setHif fun h => { h with cpls := h.cpls ++ [⟨r.ring, r.tag, 0x60, st, d, s.tickNum⟩] }

theorem State.twiEnded_ends (hq : s.hif.twi = [r]) (st d : Nat) : s.TwiEnds (s.twiEnded r st d) r st d where
  twi := by
    have h : (s.hif.twi.erase r) = [] := by simp [hq]
    exact h
  busy := congrArg Ring.busy ((State.ring_setRing _ _ _ _).trans (if_pos rfl))
  cpls := rfl

/-- An end read from the state before it, and from one after it with the same interface. -/
theorem State.TwiEnds.congr {t u v : State} {st d : Nat} (h : State.TwiEnds t u r st d) (hs : t.hif.cpls = s.hif.cpls ∧ t.tickNum = s.tickNum)
    (hv : v.hif = u.hif) : s.TwiEnds v r st d where
  twi := (congrArg Hif.twi hv).trans h.twi
  busy := by rw [State.ring, hv]; exact h.busy
  cpls := by rw [hv, h.cpls, hs.1, hs.2]

theorem State.twiEnded_reacts (l : List Nat) (s : State) (r : TwiCmd) (st d : Nat) : s.Reacts l (s.twiEnded r st d) := by
  unfold State.twiEnded
  extract_lets u
  have h : s.Reacts l u := .setHif _ _
  exact (h.trans (.setRing _ _ _)).trans (.setHif _ _)

section
variable (hl : r.lost = false) (hg : r.gone = false) (hf : r.fw = false)
include hl hg hf

theorem State.twiFinish_of_command (s : State) (st d : Nat) : s.twiFinish r st d =
    let s := s.setHif fun h => { h with twi := h.twi.erase r }
    (s.setRing r.ring { s.ring r.ring with busy := false }).finish r.ring r.tag 0x60 st d := by
  unfold State.twiFinish
  dsimp only
  rw [if_neg (Bool.eq_false_iff.1 hf), if_neg (Bool.eq_false_iff.1 hl), if_neg (Bool.eq_false_iff.1 hg)]

theorem State.twiFinish_of_ok (s : State) (d : Nat) : s.twiFinish r 0 d = s.twiEnded r 0 d := by
  rw [State.twiFinish_of_command hl hg hf]
  rfl

/-- A status other than OK and LATE is counted as a rejected command (R358). -/
theorem State.twiFinish_of_rejected (s : State) {st : Nat} (h0 : st ≠ stOk) (h1 : st ≠ stLate) (d : Nat) :
    s.twiFinish r st d = (s.twiEnded r st d).count R.HIF_REJECT_CNT := by
  rw [State.twiFinish_of_command hl hg hf]
  unfold State.finish
  dsimp only
  rw [if_neg h0, if_neg h1]
  rfl

end

/-! ## Transfers (R369, R464) -/

/-- The transfer has ended on the bus with STOP. -/
def State.twiSent (s : State) (n : Nat) (bs : List Byte) : State := (s.emit (.twi n bs)).setTwiSt n 1

theorem State.twiSent_reacts (s : State) (n : Nat) (bs : List Byte) : s.Reacts [R.TWI_C_STATUS n] (s.twiSent n bs) :=
  (State.Reacts.emit s _).trans (.setFld (by simp) _ _)

/-- The transfer is counted: OK. -/
def State.twiSentOk (s : State) (n : Nat) (bs : List Byte) : State := (s.twiSent n bs).count (R.TWI_C_XFER_CNT n)

/-- The transfer met a NACK, and that is counted. -/
def State.twiSentNack (s : State) (n : Nat) (bs : List Byte) : State :=
  ((s.twiSent n bs).count (R.TWI_C_NACK_CNT n)).setFlag (F.TWI_C_STATUS_nack n) true

theorem State.twiSentOk_sends (s : State) (n : Nat) (bs : List Byte) : (s.twiSentOk n bs).twiSt n = 1 ∧
    (s.twiSentOk n bs).reg (R.TWI_C_XFER_CNT n) = counted (s.reg (R.TWI_C_XFER_CNT n)) ∧
    (s.twiSentOk n bs).hif = s.hif ∧ (s.twiSentOk n bs).outbox = s.outbox ++ [.twi n bs] ∧
    s.Reacts [R.TWI_C_STATUS n, R.TWI_C_XFER_CNT n] (s.twiSentOk n bs) := by
  obtain ⟨_, hx, _⟩ := twiStatus_ne n
  refine ⟨(State.twiSt_count _ hx.symm).trans (State.twiSt_setTwiSt _ (by decide)), ?_, rfl, rfl, ?_⟩
  · exact (State.reg_count_self _ _).trans (congrArg counted ((s.twiSent_reacts n bs).keeps _ (by simp)))
  · exact ((s.twiSent_reacts n bs).mono (by simp)).trans (.count (by simp) _)

theorem State.twiSentNack_sends (s : State) (n : Nat) (bs : List Byte) : (s.twiSentNack n bs).twiSt n = 1 ∧
    (s.twiSentNack n bs).flag (F.TWI_C_STATUS_nack n) = true ∧
    (s.twiSentNack n bs).reg (R.TWI_C_NACK_CNT n) = counted (s.reg (R.TWI_C_NACK_CNT n)) ∧
    (s.twiSentNack n bs).hif = s.hif ∧ (s.twiSentNack n bs).outbox = s.outbox ++ [.twi n bs] ∧
    s.Reacts [R.TWI_C_STATUS n, R.TWI_C_NACK_CNT n] (s.twiSentNack n bs) := by
  obtain ⟨_, _, hx, _⟩ := twiStatus_ne n
  refine ⟨?_, State.flag_setFlag_self _ _ _ (by simp) rfl, ?_, rfl, rfl, ?_⟩
  · exact (State.twiSt_setFlag _ _ (by simp)).trans ((State.twiSt_count _ hx.symm).trans (State.twiSt_setTwiSt _ (by decide)))
  · exact (State.reg_setFld_of_ne _ _ hx).trans ((State.reg_count_self _ _).trans
      (congrArg counted ((s.twiSent_reacts n bs).keeps _ (by simp))))
  · exact (((s.twiSent_reacts n bs).mono (by simp)).trans (.count (by simp) _)).trans (.setFlag (by simp) _ _)

/-- Whether transfers are made is not a matter of the two-wire controllers. -/
theorem State.traffic_twiSentOk (s : State) (n : Nat) (bs : List Byte) : (s.twiSentOk n bs).traffic = s.traffic := by
  obtain ⟨_, _, hh, _, hr⟩ := s.twiSentOk_sends n bs
  have hne : R.HIF_STATUS ∉ [R.TWI_C_STATUS n, R.TWI_C_XFER_CNT n] := by
    simp only [List.mem_cons, List.not_mem_nil, or_false, R.HIF_STATUS, R.TWI_C_STATUS, R.TWI_C_XFER_CNT]
    omega
  have hb : (s.twiSentOk n bs).flag F.HIF_STATUS_bme = s.flag F.HIF_STATUS_bme := State.flag_of_reg (hr.keeps _ hne)
  rw [State.traffic, hb, hh, State.traffic]
  rfl

/-- The read bytes go to the host, and the command completes. -/
theorem State.twiGood_of_traffic (hq : s.hif.twi = [r]) (hl : r.lost = false) (hg : r.gone = false) (hf : r.fw = false)
    (hrd : r.rd ≠ 0) (ht : s.traffic = true) (rd : List Byte) : s.twiGood r rd =
      ((s.setHif fun h => { h with twi := [{ r with back := some (padTo r.rd rd) }] }).emit
        (.hostWrite (r.host + r.wr.length) (padTo r.rd rd))).twiEnded { r with back := some (padTo r.rd rd) } 0 0 := by
  have hc : ¬ (r.rd = 0 || r.lost || r.fw) = true := by simp [hrd, hl, hf]
  have hw : (s.hif.twi.erase r ++ [{ r with back := some (padTo r.rd rd) }]) = [{ r with back := some (padTo r.rd rd) }] := by simp [hq]
  have ht' : (s.setHif fun h => { h with twi := [{ r with back := some (padTo r.rd rd) }] }).traffic = true := ht
  unfold State.twiGood
  rw [if_neg hc]
  change (s.setHif fun h => { h with twi := s.hif.twi.erase r ++ [{ r with back := some (padTo r.rd rd) }] }).twiResume = _
  rw [hw, State.twiResume, if_pos ht']
  exact State.twiFinish_of_ok (r := { r with back := some (padTo r.rd rd) }) hl hg hf _ 0

/-- While no transfers are made the read bytes wait. -/
theorem State.twiGood_of_no_traffic (hq : s.hif.twi = [r]) (hl : r.lost = false) (hf : r.fw = false) (hrd : r.rd ≠ 0)
    (ht : s.traffic = false) (rd : List Byte) :
    s.twiGood r rd = s.setHif fun h => { h with twi := [{ r with back := some (padTo r.rd rd) }] } := by
  have hc : ¬ (r.rd = 0 || r.lost || r.fw) = true := by simp [hrd, hl, hf]
  have hw : (s.hif.twi.erase r ++ [{ r with back := some (padTo r.rd rd) }]) = [{ r with back := some (padTo r.rd rd) }] := by simp [hq]
  have ht' : ¬ (s.setHif fun h => { h with twi := [{ r with back := some (padTo r.rd rd) }] }).traffic = true := Bool.eq_false_iff.1 ht
  unfold State.twiGood
  rw [if_neg hc]
  change (s.setHif fun h => { h with twi := s.hif.twi.erase r ++ [{ r with back := some (padTo r.rd rd) }] }).twiResume = _
  rw [hw, State.twiResume, if_neg ht']

/-! ## Protocol errors (R467) -/

/-- A protocol error noted: the flag, the count, the STOP that releases a held bus. -/
def State.protoNoted (s : State) (n : Nat) (holds : Bool) : State :=
  let s := (s.setFlag (F.TWI_C_STATUS_proto n) true).count (R.TWI_C_PROTO_CNT n)
  if holds then s.emit (.twiCond n "STOP") else s

/-- A protocol error is noted and counted, with STOP where the controller holds the bus. -/
theorem State.protoNoted_notes (s : State) (n : Nat) (holds : Bool) : (s.protoNoted n holds).hif = s.hif ∧
    (s.protoNoted n holds).tickNum = s.tickNum ∧ (s.protoNoted n holds).twiSt n = s.twiSt n ∧
    (s.protoNoted n holds).flag (F.TWI_C_STATUS_proto n) = true ∧
    (s.protoNoted n holds).reg (R.TWI_C_PROTO_CNT n) = counted (s.reg (R.TWI_C_PROTO_CNT n)) ∧
    (s.protoNoted n holds).outbox = s.outbox ++ (if holds then [.twiCond n "STOP"] else []) ∧
    s.Reacts [R.TWI_C_STATUS n, R.TWI_C_PROTO_CNT n] (s.protoNoted n holds) := by
  obtain ⟨u, hu⟩ : ∃ u, u = (s.setFlag (F.TWI_C_STATUS_proto n) true).count (R.TWI_C_PROTO_CNT n) := ⟨_, rfl⟩
  obtain ⟨_, _, _, hne, _⟩ := twiStatus_ne n
  have hreg : u.reg (R.TWI_C_STATUS n) = (s.setFlag (F.TWI_C_STATUS_proto n) true).reg (R.TWI_C_STATUS n) :=
    hu ▸ State.reg_put_of_ne _ _ hne.symm
  have hst : u.twiSt n = s.twiSt n := (State.twiSt_of_reg hreg).trans (State.twiSt_setFlag _ _ (by simp))
  have hf : u.flag (F.TWI_C_STATUS_proto n) = true := (State.flag_of_reg hreg).trans (State.flag_setFlag_self _ _ _ (by simp) rfl)
  have hc : u.reg (R.TWI_C_PROTO_CNT n) = counted (s.reg (R.TWI_C_PROTO_CNT n)) :=
    hu ▸ (State.reg_count_self _ _).trans (congrArg counted (State.reg_setFld_of_ne _ _ hne))
  have hh : u.hif = s.hif ∧ u.tickNum = s.tickNum ∧ u.outbox = s.outbox := hu ▸ ⟨rfl, rfl, rfl⟩
  have hr : s.Reacts [R.TWI_C_STATUS n, R.TWI_C_PROTO_CNT n] u := hu ▸ (State.Reacts.setFlag (by simp) s _).trans (.count (by simp) _)
  have hx : s.protoNoted n holds = if holds then u.emit (.twiCond n "STOP") else u := hu ▸ rfl
  obtain ⟨hhif, htick, ho⟩ := hh
  rw [hx]
  cases holds with
  | true =>
    refine ⟨hhif, htick, hst, hf, hc, ?_, hr.trans (.emit _ _)⟩
    rw [if_pos rfl, if_pos rfl, State.emit_outbox, ho]
  | false =>
    refine ⟨hhif, htick, hst, hf, hc, ?_, hr⟩
    rw [if_neg (by decide), if_neg (by decide), List.append_nil, ho]

/-! ## A running request -/

/-- The request runs alone on the controller. -/
structure State.TwiRuns (s : State) (n : Nat) (r : TwiCmd) : Prop where
  twi : s.hif.twi = [r]
  ctl : r.ctl = n
  lost : r.lost = false
  gone : r.gone = false
  fw : r.fw = false
  back : r.back = none
  busy : s.twiSt n = 2

section
variable (h : s.TwiRuns n r)
include h

theorem State.twiDone_of_runs (rd : List Byte) (data : Bool) :
    s.twiDone n none rd data = ((s.twiSentOk n (twiBytes r none data)).twiGood r rd).twiServe n := by
  unfold State.twiDone
  rw [State.twiFront_of_one h.twi h.ctl h.back]
  exact if_neg (not_not_intro h.busy)

theorem State.twiDone_of_nack (k : Nat) (rd : List Byte) (data : Bool) :
    s.twiDone n (some k) rd data = ((s.twiSentNack n (twiBytes r (some k) data)).twiFinish r stTwiNack k).twiServe n := by
  unfold State.twiDone
  rw [State.twiFront_of_one h.twi h.ctl h.back]
  exact if_neg (not_not_intro h.busy)

/-- A transfer ends OK: with its read bytes written to the host, where it has some. -/
theorem State.twiDone_ok {rd : List Byte} (ht : r.rd = 0 ∨ s.traffic = true) : (s.twiDone n none rd false).twiSt n = 1 ∧
    s.TwiEnds (s.twiDone n none rd false) r 0 0 ∧
    (s.twiDone n none rd false).reg (R.TWI_C_XFER_CNT n) = counted (s.reg (R.TWI_C_XFER_CNT n)) ∧
    (s.twiDone n none rd false).outbox = s.outbox ++ .twi n (twiBytes r none false) ::
      (if r.rd ≠ 0 then [.hostWrite (r.host + r.wr.length) (padTo r.rd rd)] else []) ∧
    s.Reacts [R.TWI_C_STATUS n, R.TWI_C_XFER_CNT n] (s.twiDone n none rd false) := by
  obtain ⟨u, hu⟩ : ∃ u, u = s.twiSentOk n (twiBytes r none false) := ⟨_, rfl⟩
  obtain ⟨hst, hx, hh, ho, hr⟩ := s.twiSentOk_sends n (twiBytes r none false)
  have htr := s.traffic_twiSentOk n (twiBytes r none false)
  have htick : u.tickNum = s.tickNum := hu ▸ rfl
  rw [State.twiDone_of_runs h, ← hu]
  rw [← hu] at hst hx hh ho hr htr
  have hq : u.hif.twi = [r] := (congrArg Hif.twi hh).trans h.twi
  by_cases h0 : r.rd = 0
  · have he := State.twiEnded_ends hq 0 0
    have hk := u.twiEnded_reacts [] r 0 0
    have hg : u.twiGood r rd = u.twiEnded r 0 0 :=
      (if_pos (by simp [h0])).trans (State.twiFinish_of_ok h.lost h.gone h.fw u 0)
    rw [hg, State.twiServe_of_empty he.twi, if_neg (by simp [h0])]
    exact ⟨(State.twiSt_of_reg (hk.keeps _ (by simp))).trans hst, he.congr ⟨congrArg Hif.cpls hh, htick⟩ rfl,
      (hk.keeps _ (by simp)).trans hx, ho, hr.trans (u.twiEnded_reacts _ r 0 0)⟩
  · have htu : u.traffic = true := htr.trans (ht.resolve_left h0)
    obtain ⟨v, hv⟩ : ∃ v, v = (u.setHif fun h => { h with twi := [{ r with back := some (padTo r.rd rd) }] }).emit
        (.hostWrite (r.host + r.wr.length) (padTo r.rd rd)) := ⟨_, rfl⟩
    obtain ⟨r', hr'⟩ : ∃ r', r' = ({ r with back := some (padTo r.rd rd) } : TwiCmd) := ⟨_, rfl⟩
    have hid : r'.ring = r.ring ∧ r'.tag = r.tag := hr' ▸ ⟨rfl, rfl⟩
    have hg := State.twiGood_of_traffic hq h.lost h.gone h.fw h0 htu rd
    have hvr (l : List Nat) : u.Reacts l v := hv ▸ (State.Reacts.setHif u _).trans (.emit _ _)
    have hvq : v.hif.twi = [r'] := by rw [hv, hr']; rfl
    have hvh : v.hif.cpls = u.hif.cpls ∧ v.tickNum = u.tickNum := hv ▸ ⟨rfl, rfl⟩
    have hvc : v.hif.cpls = s.hif.cpls ∧ v.tickNum = s.tickNum := ⟨hvh.1.trans (congrArg Hif.cpls hh), hvh.2.trans htick⟩
    have hvo : v.outbox = u.outbox ++ [.hostWrite (r.host + r.wr.length) (padTo r.rd rd)] := hv ▸ rfl
    have he := (State.twiEnded_ends hvq 0 0).congr hvc rfl
    have hk (l : List Nat) := (hvr l).trans (v.twiEnded_reacts l r' 0 0)
    rw [hg, ← hv, ← hr', State.twiServe_of_empty he.twi, if_pos h0]
    refine ⟨(State.twiSt_of_reg ((hk []).keeps _ (by simp))).trans hst, ⟨he.twi, hid.1 ▸ he.busy, ?_⟩,
      ((hk []).keeps _ (by simp)).trans hx, ?_, hr.trans (hk _)⟩
    · rw [he.cpls, hid.1, hid.2]
    · change v.outbox = _
      rw [hvo, ho, List.append_assoc]
      rfl

/-- While no transfers are made, the request waits with its read bytes; the controller is idle. -/
theorem State.twiDone_waits {rd : List Byte} (h0 : r.rd ≠ 0) (ht : s.traffic = false) : (s.twiDone n none rd false).twiSt n = 1 ∧
    (s.twiDone n none rd false).hif = { s.hif with twi := [{ r with back := some (padTo r.rd rd) }] } ∧
    (s.twiDone n none rd false).outbox = s.outbox ++ [.twi n (twiBytes r none false)] ∧
    s.Reacts [R.TWI_C_STATUS n, R.TWI_C_XFER_CNT n] (s.twiDone n none rd false) := by
  obtain ⟨u, hu⟩ : ∃ u, u = s.twiSentOk n (twiBytes r none false) := ⟨_, rfl⟩
  obtain ⟨hst, _, hh, ho, hr⟩ := s.twiSentOk_sends n (twiBytes r none false)
  have htr := s.traffic_twiSentOk n (twiBytes r none false)
  rw [State.twiDone_of_runs h, ← hu]
  rw [← hu] at hst hh ho hr htr
  have hq : u.hif.twi = [r] := (congrArg Hif.twi hh).trans h.twi
  rw [State.twiGood_of_no_traffic hq h.lost h.fw h0 (htr.trans ht), State.twiServe_of_nothing (by simp [State.setHif])]
  exact ⟨hst, by rw [← hh]; rfl, ho, hr.trans (.setHif _ _)⟩

/-- A NACK ends the transfer with the number of bytes transferred, counted. -/
theorem State.twiDone_nack (k : Nat) (rd : List Byte) (data : Bool) : (s.twiDone n (some k) rd data).twiSt n = 1 ∧
    s.TwiEnds (s.twiDone n (some k) rd data) r 0x21 k ∧ (s.twiDone n (some k) rd data).flag (F.TWI_C_STATUS_nack n) = true ∧
    (s.twiDone n (some k) rd data).reg (R.TWI_C_NACK_CNT n) = counted (s.reg (R.TWI_C_NACK_CNT n)) ∧
    (s.twiDone n (some k) rd data).outbox = s.outbox ++ [.twi n (twiBytes r (some k) data)] ∧
    s.Reacts [R.TWI_C_STATUS n, R.TWI_C_NACK_CNT n, R.HIF_REJECT_CNT] (s.twiDone n (some k) rd data) := by
  obtain ⟨u, hu⟩ : ∃ u, u = s.twiSentNack n (twiBytes r (some k) data) := ⟨_, rfl⟩
  obtain ⟨hst, hf, hx, hh, ho, hr⟩ := s.twiSentNack_sends n (twiBytes r (some k) data)
  have htick : u.tickNum = s.tickNum := hu ▸ rfl
  obtain ⟨_, _, _, _, _, hs⟩ := twiStatus_ne n
  rw [State.twiDone_of_nack h, ← hu, State.twiFinish_of_rejected h.lost h.gone h.fw u (by decide) (by decide)]
  rw [← hu] at hst hf hx hh ho hr
  have he := (State.twiEnded_ends ((congrArg Hif.twi hh).trans h.twi) stTwiNack k).congr (s := s) ⟨congrArg Hif.cpls hh, htick⟩
    (v := (u.twiEnded r stTwiNack k).count R.HIF_REJECT_CNT) rfl
  have hk : u.Reacts [R.HIF_REJECT_CNT] ((u.twiEnded r stTwiNack k).count R.HIF_REJECT_CNT) :=
    (u.twiEnded_reacts _ r _ k).trans (.count (by simp) _)
  have hreg := hk.keeps (R.TWI_C_STATUS n) (by simpa using hs)
  rw [State.twiServe_of_empty he.twi]
  exact ⟨(State.twiSt_of_reg hreg).trans hst, he, (State.flag_of_reg hreg).trans hf,
    (hk.keeps _ (by simpa using (twiCnt_ne n).1)).trans hx, ho, (hr.mono (by simp)).trans (hk.mono (by simp))⟩

/-- A transfer ends without its STOP. -/
theorem State.twiAbort_ends {st v : Nat} (h0 : st ≠ stOk) (h1 : st ≠ stLate) (hv : v < 8) : (s.twiAbort n st v).twiSt n = v ∧
    s.TwiEnds (s.twiAbort n st v) r st 0 ∧ (s.twiAbort n st v).outbox = s.outbox ∧
    s.Reacts [R.TWI_C_STATUS n, R.HIF_REJECT_CNT] (s.twiAbort n st v) ∧
    (∀ f : Fld, f.reg = R.TWI_C_STATUS n → 2 < f.lo → f.hi < 32 → (s.twiAbort n st v).flag f = s.flag f) := by
  obtain ⟨u, hu⟩ : ∃ u, u = s.setTwiSt n v := ⟨_, rfl⟩
  have hst : u.twiSt n = v := hu ▸ s.twiSt_setTwiSt hv
  have hh : u.hif = s.hif := hu ▸ rfl
  have htick : u.tickNum = s.tickNum := hu ▸ rfl
  have ho : u.outbox = s.outbox := hu ▸ rfl
  have hr : s.Reacts [R.TWI_C_STATUS n, R.HIF_REJECT_CNT] u := hu ▸ .setFld (by simp) s v
  have hf (f : Fld) (hlo : 2 < f.lo) (hhi : f.hi < 32) : u.flag f = s.flag f := hu ▸ s.flag_setTwiSt v hlo hhi
  obtain ⟨_, _, _, _, _, hs⟩ := twiStatus_ne n
  have hx : s.twiAbort n st v = ((u.twiEnded r st 0).count R.HIF_REJECT_CNT).twiServe n := by
    unfold State.twiAbort
    rw [State.twiFront_of_one h.twi h.ctl h.back]
    dsimp only
    rw [← hu, State.twiFinish_of_rejected h.lost h.gone h.fw u h0 h1]
  have he := (State.twiEnded_ends ((congrArg Hif.twi hh).trans h.twi) st 0).congr (s := s) ⟨congrArg Hif.cpls hh, htick⟩
    (v := (u.twiEnded r st 0).count R.HIF_REJECT_CNT) rfl
  have hk : u.Reacts [R.HIF_REJECT_CNT] ((u.twiEnded r st 0).count R.HIF_REJECT_CNT) :=
    (u.twiEnded_reacts _ r _ 0).trans (.count (by simp) _)
  have hreg := hk.keeps (R.TWI_C_STATUS n) (by simpa using hs)
  rw [hx, State.twiServe_of_empty he.twi]
  exact ⟨(State.twiSt_of_reg hreg).trans hst, he, ho, hr.trans (hk.mono (by simp)),
    fun f hfr hlo hhi => (State.flag_of_reg (hfr ▸ hreg)).trans (hf f hlo hhi)⟩

/-- A flag of the status set, the transfer still runs. -/
theorem State.TwiRuns.setFlag {f : Fld} (hlo : 2 < f.lo) (b : Bool) : (s.setFlag f b).TwiRuns n r :=
  ⟨h.twi, h.ctl, h.lost, h.gone, h.fw, h.back, (s.twiSt_setFlag b hlo).trans h.busy⟩

/-- An abort after a flag of the status is set leaves the flag set (R466, R467). -/
theorem State.twiAbort_flagged {f : Fld} (hfr : f.reg = R.TWI_C_STATUS n) (hlo : 2 < f.lo) (hhi : f.hi < 32) (hone : f.hi = f.lo)
    {st v : Nat} (h0 : st ≠ stOk) (h1 : st ≠ stLate) (hv : v < 8) : ((s.setFlag f true).twiAbort n st v).twiSt n = v ∧
      s.TwiEnds ((s.setFlag f true).twiAbort n st v) r st 0 ∧ ((s.setFlag f true).twiAbort n st v).flag f = true ∧
      s.Reacts [R.TWI_C_STATUS n, R.HIF_REJECT_CNT] ((s.setFlag f true).twiAbort n st v) ∧
      ((s.setFlag f true).twiAbort n st v).outbox = s.outbox := by
  obtain ⟨hst, he, ho, hr, hf⟩ := State.twiAbort_ends (h.setFlag hlo true) h0 h1 hv
  exact ⟨hst, he.congr ⟨rfl, rfl⟩ rfl, (hf f hfr hlo hhi).trans (State.flag_setFlag_self _ _ _ hhi hone),
    (State.Reacts.setFlag (by simp [hfr]) s true).trans hr, ho⟩

/-- A protocol error ends the transfer (R467). -/
theorem State.protocolError_ends (holds : Bool) : ((s.protoNoted n holds).twiAbort n stTwiProto 1).twiSt n = 1 ∧
    s.TwiEnds ((s.protoNoted n holds).twiAbort n stTwiProto 1) r 0x23 0 ∧
    ((s.protoNoted n holds).twiAbort n stTwiProto 1).flag (F.TWI_C_STATUS_proto n) = true ∧
    ((s.protoNoted n holds).twiAbort n stTwiProto 1).reg (R.TWI_C_PROTO_CNT n) = counted (s.reg (R.TWI_C_PROTO_CNT n)) ∧
    ((s.protoNoted n holds).twiAbort n stTwiProto 1).outbox = s.outbox ++ (if holds then [.twiCond n "STOP"] else []) ∧
    s.Reacts [R.TWI_C_STATUS n, R.TWI_C_PROTO_CNT n, R.HIF_REJECT_CNT] ((s.protoNoted n holds).twiAbort n stTwiProto 1) := by
  obtain ⟨u, hu⟩ : ∃ u, u = s.protoNoted n holds := ⟨_, rfl⟩
  obtain ⟨hh, htick, hst, hf, hc, ho, hr⟩ := s.protoNoted_notes n holds
  rw [← hu] at hh htick hst hf hc ho hr ⊢
  have hrun : u.TwiRuns n r := ⟨(congrArg Hif.twi hh).trans h.twi, h.ctl, h.lost, h.gone, h.fw, h.back, hst.trans h.busy⟩
  obtain ⟨h1, he, hout, hk, hflag⟩ := State.twiAbort_ends hrun (st := stTwiProto) (v := 1) (by decide) (by decide) (by decide)
  have hne : R.TWI_C_PROTO_CNT n ∉ [R.TWI_C_STATUS n, R.HIF_REJECT_CNT] := by
    simpa using (twiCnt_ne n).2
  exact ⟨h1, he.congr ⟨congrArg Hif.cpls hh, htick⟩ rfl, (hflag _ rfl (by simp) (by simp)).trans hf, (hk.keeps _ hne).trans hc,
    hout.trans ho, (hr.mono (by simp)).trans (hk.mono (by simp))⟩

end

end Sys2Proof.Machine
end

section
/-!
PROOFS. The two-wire controllers (R465, R468): bus clears and the configuration register.
-/

namespace Sys2Proof.Machine

variable {s : State} {n : Nat}

/-! ## Bus clears (R468) -/

/-- The note of the controllers that have still to read SDA, after one of them has read it or was enabled. -/
theorem State.setTwiUnread_hif (s : State) (n : Nat) (on : Bool) : (s.setTwiUnread n on).hif =
    { s.hif with twiNew := s.hif.twiNew.filter (· ≠ n) ++ (if on then [n] else []) } := rfl

/-- The interface after a controller has read SDA. -/
def Hif.sdaRead (h : Hif) (n : Nat) : Hif := { h with twiNew := h.twiNew.filter (· ≠ n) }

/-- The interface after a controller has cleared its bus. -/
def Hif.busCleared (h : Hif) (n u : Nat) : Hif := { h.sdaRead n with twiClearU := Tbl.set (fun _ => 0) h.twiClearU n u }

theorem State.setTwiUnread_false_hif (s : State) (n : Nat) : (s.setTwiUnread n false).hif = s.hif.sdaRead n := by
  rw [State.setTwiUnread_hif, if_neg (by simp), List.append_nil, Hif.sdaRead]

/-- A bus clear begun: counted, its pulses sent, the time noted. -/
def State.clearBegun (s : State) (n : Nat) : State :=
  (((s.count (R.TWI_C_CLEAR_CNT n)).emit (.twiCond n "CLEAR")).setTwiUnread n false).setHif fun h =>
    { h with twiClearU := Tbl.set (fun _ => 0) h.twiClearU n s.clk.freeU }

theorem State.clearBegun_begins (s : State) (n : Nat) : (s.clearBegun n).hif = s.hif.busCleared n s.clk.freeU ∧
    (s.clearBegun n).outbox = s.outbox ++ [.twiCond n "CLEAR"] ∧
    (s.clearBegun n).reg (R.TWI_C_CLEAR_CNT n) = counted (s.reg (R.TWI_C_CLEAR_CNT n)) ∧
    s.Reacts [R.TWI_C_STATUS n, R.TWI_C_CLEAR_CNT n] (s.clearBegun n) := by
  refine ⟨?_, rfl, s.reg_count_self _, ?_⟩
  · have h := ((s.count (R.TWI_C_CLEAR_CNT n)).emit (.twiCond n "CLEAR")).setTwiUnread_false_hif n
    exact congrArg (fun x : Hif => { x with twiClearU := Tbl.set (fun _ => 0) s.hif.twiClearU n s.clk.freeU }) h
  · exact (((State.Reacts.count (by simp) s).trans (.emit _ _)).trans (.setHif _ _)).trans (.setHif _ _)

/-- SDA reads high after some pulses: STOP, and the controller is idle. -/
theorem State.twiClear_frees (hq : s.hif.twi = []) (p : Fin 9) : (s.twiClear n (some p)).twiSt n = 1 ∧
    (s.twiClear n (some p)).reg (R.TWI_C_CLEAR_CNT n) = counted (s.reg (R.TWI_C_CLEAR_CNT n)) ∧
    (s.twiClear n (some p)).outbox = s.outbox ++ [.twiCond n "CLEAR", .twiCond n "STOP"] ∧
    (s.twiClear n (some p)).hif = s.hif.busCleared n s.clk.freeU ∧
    s.Reacts [R.TWI_C_STATUS n, R.TWI_C_CLEAR_CNT n] (s.twiClear n (some p)) := by
  obtain ⟨u, hu⟩ : ∃ u, u = s.clearBegun n := ⟨_, rfl⟩
  obtain ⟨hh, ho, hc, hr⟩ := s.clearBegun_begins n
  obtain ⟨_, _, _, _, hs, _⟩ := twiStatus_ne n
  have hx : s.twiClear n (some p) = ((u.emit (.twiCond n "STOP")).setTwiSt n 1).twiServe n := hu ▸ rfl
  rw [← hu] at hh ho hc hr
  have hq' : ((u.emit (.twiCond n "STOP")).setTwiSt n 1).hif.twi = [] := (congrArg Hif.twi hh).trans hq
  rw [hx, State.twiServe_of_empty hq']
  refine ⟨State.twiSt_setTwiSt _ (by decide), (State.reg_setFld_of_ne _ _ hs).trans hc, ?_, hh,
    (hr.trans (.emit _ _)).trans (.setFld (by simp) _ _)⟩
  change u.outbox ++ [.twiCond n "STOP"] = _
  rw [ho, List.append_assoc]
  rfl

/-- SDA stays low: the bus-error state. -/
theorem State.twiClear_fails (hq : s.hif.twi = []) : (s.twiClear n none).twiSt n = 4 ∧
    (s.twiClear n none).flag (F.TWI_C_STATUS_bus_err n) = true ∧
    (s.twiClear n none).reg (R.TWI_C_CLEAR_CNT n) = counted (s.reg (R.TWI_C_CLEAR_CNT n)) ∧
    (s.twiClear n none).outbox = s.outbox ++ [.twiCond n "CLEAR"] ∧ (s.twiClear n none).hif = s.hif.busCleared n s.clk.freeU ∧
    s.Reacts [R.TWI_C_STATUS n, R.TWI_C_CLEAR_CNT n] (s.twiClear n none) := by
  obtain ⟨u, hu⟩ : ∃ u, u = s.clearBegun n := ⟨_, rfl⟩
  obtain ⟨hh, ho, hc, hr⟩ := s.clearBegun_begins n
  obtain ⟨_, _, _, _, hs, _⟩ := twiStatus_ne n
  have hx : s.twiClear n none = ((u.setFlag (F.TWI_C_STATUS_bus_err n) true).setTwiSt n 4).twiServe n := hu ▸ rfl
  rw [← hu] at hh ho hc hr
  have hq' : ((u.setFlag (F.TWI_C_STATUS_bus_err n) true).setTwiSt n 4).hif.twi = [] := (congrArg Hif.twi hh).trans hq
  rw [hx, State.twiServe_of_empty hq']
  exact ⟨State.twiSt_setTwiSt _ (by decide),
    (State.flag_setTwiSt _ 4 (by simp) (by simp)).trans (State.flag_setFlag_self _ _ _ (by simp) rfl),
    (State.reg_setFld_of_ne _ _ hs).trans ((State.reg_setFld_of_ne _ _ hs).trans hc), ho, hh,
    (hr.trans (.setFlag (by simp) _ _)).trans (.setFld (by simp) _ _)⟩

/-- The controller reads SDA high: it is idle, and nothing was sent. -/
theorem State.sdaHigh_reads (hq : s.hif.twi = []) : ∃ t : State, ((s.setTwiUnread n false).setTwiSt n 1).twiServe n = t ∧ t.twiSt n = 1 ∧
    s.Reacts [R.TWI_C_STATUS n] t ∧ t.outbox = s.outbox ∧ t.hif = s.hif.sdaRead n := by
  have hh : ((s.setTwiUnread n false).setTwiSt n 1).hif = s.hif.sdaRead n := s.setTwiUnread_false_hif n
  have hq' : ((s.setTwiUnread n false).setTwiSt n 1).hif.twi = [] := (congrArg Hif.twi hh).trans hq
  exact ⟨_, State.twiServe_of_empty hq' n, State.twiSt_setTwiSt _ (by decide),
    (State.Reacts.setHif s _).trans (.setFld (by simp) _ _), rfl, hh⟩

/-- A controller that is due to read SDA does so where the module drives the pins. -/
theorem exec_twiBusClear_of_due {n : Fin 3} (hd : s.drives .twi = true)
    (h : (s.twiSt n = 1 ∧ s.twiUnread n = true) ∨ s.twiSt n = 3) (low : Bool) (p : Option (Fin 9)) :
    exec (.twiBusClear n low p) s = .next (if low then s.twiClear n p else ((s.setTwiUnread n false).setTwiSt n 1).twiServe n) := by
  have hc : ((s.twiSt n = 1 && s.twiUnread n || s.twiSt n = 3) && s.drives .twi) = true := by simpa [hd] using h
  exact congrArg Host.Outcome.next (if_pos hc)

theorem exec_twiBusClearRetry_of_due {n : Fin 3} (hd : s.drives .twi = true) (h : s.twiSt n = 4) (hc : s.clearDue n = true)
    (p : Option (Fin 9)) : exec (.twiBusClearRetry n p) s = .next (s.twiClear n p) :=
  congrArg Host.Outcome.next (if_pos (by simp [hd, h, hc]))

/-! ## TWI_Cn_CFG (R465, R468) -/

/-- The word a write leaves in the register: speed 3 keeps the old speed. -/
def State.twiCfgWord (s : State) (n : Nat) (w : Word) : Word :=
  setBits (w &&& 0xFF07#32) 2 1 (if bitsOf w 2 1 = 3 then s.fld (F.TWI_C_CFG_speed n) else bitsOf w 2 1)

/-- The register and, for a speed other than 3, its timing are written. -/
def State.twiTimed (s : State) (n : Nat) (w : Word) : State :=
  let s' := s.put (R.TWI_C_CFG n) (s.twiCfgWord n w)
  if bitsOf w 2 1 = 3 then s'
  else ((s'.put (R.TWI_C_TIMING0 n) (twiTiming (bitsOf w 2 1)).1).put (R.TWI_C_TIMING1 n) (twiTiming (bitsOf w 2 1)).2.1).put
    (R.TWI_C_TIMING2 n) (twiTiming (bitsOf w 2 1)).2.2

theorem State.twiCfg_eq (s : State) (n : Nat) (w : Word) : s.twiCfg n w =
    if w.getLsbD 0 && !s.flag (F.TWI_C_CFG_en n) then
      (((s.twiTimed n w).setTwiUnread n ((s.twiTimed n w).drives .twi)).setTwiSt n (if (s.twiTimed n w).drives .twi then 1 else 5)).twiServe n
    else if !w.getLsbD 0 then ((s.twiTimed n w).setTwiUnread n false).setTwiSt n 0
    else s.twiTimed n w := rfl

/-- The registers of one controller that a write of its configuration may change. -/
def twiCfgRegs (n : Nat) : List Nat := [R.TWI_C_CFG n, R.TWI_C_TIMING0 n, R.TWI_C_TIMING1 n, R.TWI_C_TIMING2 n]

theorem twiCfgRegs_ne (n : Nat) : R.TWI_C_STATUS n ∉ twiCfgRegs n ∧ R.TWI_C_TIMING0 n ≠ R.TWI_C_CFG n ∧ R.TWI_C_TIMING1 n ≠ R.TWI_C_CFG n ∧
    R.TWI_C_TIMING2 n ≠ R.TWI_C_CFG n ∧ R.TWI_C_TIMING1 n ≠ R.TWI_C_TIMING0 n ∧ R.TWI_C_TIMING2 n ≠ R.TWI_C_TIMING0 n ∧
    R.TWI_C_TIMING2 n ≠ R.TWI_C_TIMING1 n := by
  simp only [twiCfgRegs, List.mem_cons, List.not_mem_nil, or_false, R.TWI_C_STATUS, R.TWI_C_CFG, R.TWI_C_TIMING0, R.TWI_C_TIMING1,
    R.TWI_C_TIMING2]
  omega

theorem State.twiTimed_onlyRegs (s : State) (n : Nat) (w : Word) : State.OnlyRegs (twiCfgRegs n) s (s.twiTimed n w) := by
  have h : State.OnlyRegs (twiCfgRegs n) s (s.put (R.TWI_C_CFG n) (s.twiCfgWord n w)) := .put (by simp [twiCfgRegs]) _ _
  unfold State.twiTimed
  dsimp only
  split_ifs
  · exact h
  · exact ((h.trans (.put (by simp [twiCfgRegs]) _ _)).trans (.put (by simp [twiCfgRegs]) _ _)).trans (.put (by simp [twiCfgRegs]) _ _)

theorem State.twiTimed_of_kept {w : Word} (h : bitsOf w 2 1 = 3) : s.twiTimed n w = s.put (R.TWI_C_CFG n) (s.twiCfgWord n w) := if_pos h

theorem State.reg_twiTimed_cfg (s : State) (n : Nat) (w : Word) : (s.twiTimed n w).reg (R.TWI_C_CFG n) = s.twiCfgWord n w := by
  obtain ⟨_, h0, h1, h2, _⟩ := twiCfgRegs_ne n
  unfold State.twiTimed
  dsimp only
  split_ifs
  · exact State.reg_put_self _ _ _
  · rw [State.reg_put_of_ne _ _ h2, State.reg_put_of_ne _ _ h1, State.reg_put_of_ne _ _ h0, State.reg_put_self]

/-- Another speed than 3 loads its timing. -/
theorem State.twiTimed_timing {w : Word} (h : bitsOf w 2 1 ≠ 3) :
    (s.twiTimed n w).reg (R.TWI_C_TIMING0 n) = (twiTiming (bitsOf w 2 1)).1 ∧
      (s.twiTimed n w).reg (R.TWI_C_TIMING1 n) = (twiTiming (bitsOf w 2 1)).2.1 ∧
      (s.twiTimed n w).reg (R.TWI_C_TIMING2 n) = (twiTiming (bitsOf w 2 1)).2.2 := by
  obtain ⟨_, _, _, _, h10, h20, h21⟩ := twiCfgRegs_ne n
  unfold State.twiTimed
  dsimp only
  rw [if_neg h]
  refine ⟨?_, ?_, State.reg_put_self _ _ _⟩
  · rw [State.reg_put_of_ne _ _ h20, State.reg_put_of_ne _ _ h10, State.reg_put_self]
  · rw [State.reg_put_of_ne _ _ h21, State.reg_put_self]

theorem State.bitsOf_twiCfgWord_speed (s : State) (n : Nat) (w : Word) : bitsOf (s.twiCfgWord n w) 2 1 =
    if bitsOf w 2 1 = 3 then s.fld (F.TWI_C_CFG_speed n) else bitsOf w 2 1 := by
  refine (bitsOf_setBits _ _ _ _ (by decide)).trans (Nat.mod_eq_of_lt ?_)
  split_ifs
  · exact bitsOf_lt _ _ _
  · exact bitsOf_lt _ _ _

theorem decide_bitsOf_zero (w : Word) : decide (bitsOf w 0 0 = 1) = w.getLsbD 0 := by
  simp [bitsOf, BitVec.getLsbD, Nat.testBit_zero]

/-- The enable bit goes in as written. -/
theorem State.getLsbD_twiCfgWord (s : State) (n : Nat) (w : Word) : (s.twiCfgWord n w).getLsbD 0 = w.getLsbD 0 := by
  rw [State.twiCfgWord, getLsbD_setBits _ _ _ _ _ (by decide), if_neg (by decide), BitVec.getLsbD_and]
  simp

/-- The register of the speed and the enable bit, as a later state with that register shows it. -/
theorem State.twiCfg_shows {t : State} {w : Word} (h : t.reg (R.TWI_C_CFG n) = (s.twiTimed n w).reg (R.TWI_C_CFG n)) :
    t.fld (F.TWI_C_CFG_speed n) = (if bitsOf w 2 1 = 3 then s.fld (F.TWI_C_CFG_speed n) else bitsOf w 2 1) ∧
      t.flag (F.TWI_C_CFG_en n) = w.getLsbD 0 := by
  rw [State.reg_twiTimed_cfg] at h
  constructor
  · rw [State.fld, h, State.bitsOf_twiCfgWord_speed]
  · rw [State.flag, State.fld, h]
    exact (decide_bitsOf_zero _).trans (s.getLsbD_twiCfgWord n w)

/-- The controller's state and its note of SDA, after the register was written: what a write does last. -/
theorem State.twiCfg_ends (hq : s.hif.twi = []) (w : Word) : State.OnlyRegs [R.TWI_C_STATUS n]
      { s.twiTimed n w with hif := (s.twiCfg n w).hif } (s.twiCfg n w) ∧
    (w.getLsbD 0 = false → (s.twiCfg n w).twiSt n = 0) ∧
    (w.getLsbD 0 = true → (s.twiCfg n w).twiSt n =
      (if s.flag (F.TWI_C_CFG_en n) then s.twiSt n else if s.drives .twi then 1 else 5)) ∧
    (w.getLsbD 0 = true → s.flag (F.TWI_C_CFG_en n) = true → (s.twiCfg n w).hif = s.hif) ∧
    (w.getLsbD 0 = false ∨ s.flag (F.TWI_C_CFG_en n) = false → (s.twiCfg n w).hif = { s.hif with
      twiNew := s.hif.twiNew.filter (· ≠ n) ++ (if w.getLsbD 0 = true ∧ s.drives .twi = true then [n] else []) }) := by
  obtain ⟨u, hu⟩ : ∃ u, u = s.twiTimed n w := ⟨_, rfl⟩
  have hr := s.twiTimed_onlyRegs n w
  have hst : u.twiSt n = s.twiSt n := hu ▸ State.twiSt_of_reg (hr.keeps _ (twiCfgRegs_ne n).1)
  have hh : u.hif = s.hif := hu ▸ hr.hif
  have hd : u.drives .twi = s.drives .twi := by
    rw [hu]
    obtain ⟨_, _, e⟩ := hr.frame
    rw [e]
    rfl
  have hq' : ((u.setTwiUnread n (u.drives .twi)).setTwiSt n (if u.drives .twi then 1 else 5)).hif.twi = [] :=
    (congrArg Hif.twi hh).trans hq
  rw [State.twiCfg_eq, ← hu]
  generalize w.getLsbD 0 = on, s.flag (F.TWI_C_CFG_en n) = was
  match on, was with
  | true, true => exact ⟨.refl u, nofun, fun _ => hst, fun _ _ => hh, by simp⟩
  | true, false =>
    rw [if_pos (by decide), State.twiServe_of_empty hq']
    refine ⟨.setFld (by simp) _ _, nofun, fun _ => ?_, nofun, fun _ => ?_⟩
    · refine (State.twiSt_setTwiSt _ (by split_ifs <;> decide)).trans ?_
      rw [hd]
      rfl
    · change (u.setTwiUnread n (u.drives .twi)).hif = _
      rw [State.setTwiUnread_hif, hh, hd]
      simp
  | false, _ =>
    rw [if_neg (by simp), if_pos (by decide)]
    refine ⟨.setFld (by simp) _ _, fun _ => State.twiSt_setTwiSt _ (by decide), nofun, nofun, fun _ => ?_⟩
    change (u.setTwiUnread n false).hif = _
    rw [State.setTwiUnread_hif, hh]
    simp

theorem exec_twiCfgWrite_of_on {n : Fin 3} (h : s.domOn 1 = true) (w : Word) : exec (.twiCfgWrite n w) s = .next (s.twiCfg n w) :=
  congrArg Host.Outcome.next (if_pos h)

/-- Settles O57: the ends of a transfer, the bus clears and the write of TWI_Cn_CFG, each by its lemma. -/
theorem twoWireControllersTransferAndRecover : Obligations.TwoWireControllersTransferAndRecover := by
  unfold Obligations.TwoWireControllersTransferAndRecover
  intro s n r k rd h dn low p w
  refine ⟨fun hq hc hl hg hf hb hst => ?_, fun hq hd => ⟨fun h1 hu => ?_, fun hdue => ⟨?_, ?_, ?_⟩, fun h4 => ⟨fun hc => ?_, fun hc => ⟨?_, ?_⟩⟩⟩,
    fun hon hq => ?_⟩
  case refine_1 =>
    have hr : s.TwiRuns n r := ⟨hq, hc, hl, hg, hf, hb, hst⟩
    refine ⟨fun ht => ?_, fun h0 ht => ?_, ?_, fun hlow => ?_, fun hlow => ?_, ?_, ?_⟩
    · obtain ⟨h1, he, hx, ho, hk⟩ := State.twiDone_ok hr (rd := rd) ht
      exact ⟨_, rfl, h1, he.twi, he.busy, he.cpls, hx, ho, hk.keeps, hk.mem⟩
    · obtain ⟨h1, hh, ho, hk⟩ := State.twiDone_waits hr (rd := rd) h0 ht
      refine ⟨_, rfl, h1, ?_, ?_, ?_, ho, hk.keeps, hk.mem⟩
      · rw [hh]
      · rw [hh]
      · rw [State.ring, hh, State.ring]
    · obtain ⟨h1, he, hn, hx, ho, hk⟩ := State.twiDone_nack hr k rd dn
      exact ⟨_, rfl, h1, he.twi, he.busy, he.cpls, hn, hx, ho, hk.keeps, hk.mem⟩
    · refine congrArg Host.Outcome.next (if_neg ?_)
      rcases hlow with hlow | hlow
      · simp [Nat.not_le.2 hlow]
      · simp [hlow]
    · obtain ⟨h3, he, hf, hk, ho⟩ := State.twiAbort_flagged hr (f := F.TWI_C_STATUS_stretch_to n) rfl (by simp) (by simp) rfl
        (st := stTwiBusErr) (v := 3) (by decide) (by decide) (by decide)
      exact ⟨_, congrArg Host.Outcome.next (if_pos (by simp [hst, hlow])), h3, he.twi, he.busy, he.cpls, hf, hk.keeps, hk.mem, ho⟩
    · obtain ⟨h1, he, hf, hk, ho⟩ := State.twiAbort_flagged hr (f := F.TWI_C_STATUS_lost n) rfl (by simp) (by simp) rfl
        (st := stTwiBusErr) (v := 1) (by decide) (by decide) (by decide)
      exact ⟨_, congrArg Host.Outcome.next (if_pos hst), h1, he.twi, he.busy, he.cpls, hf, hk.keeps, hk.mem, ho⟩
    · obtain ⟨h1, he, hf, hx, ho, hk⟩ := State.protocolError_ends hr h
      exact ⟨_, congrArg Host.Outcome.next (if_pos hst), h1, he.twi, he.busy, he.cpls, hf, hx, ho, hk.keeps, hk.mem⟩
  case refine_2 =>
    refine congrArg Host.Outcome.next (if_neg ?_)
    simp [h1, hu]
  case refine_3 =>
    obtain ⟨t, ht, h1, hk, ho, hh⟩ := State.sdaHigh_reads (n := n) hq
    exact ⟨t, (exec_twiBusClear_of_due hd hdue false none).trans (congrArg Host.Outcome.next ht), h1, hk.keeps, hk.mem, ho, hh⟩
  case refine_4 =>
    obtain ⟨h1, hc, ho, hh, hk⟩ := State.twiClear_frees (n := n) hq p
    exact ⟨_, exec_twiBusClear_of_due hd hdue true (some p), h1, hc, ho, hh, hk.keeps, hk.mem⟩
  case refine_5 =>
    obtain ⟨h4, hf, _, ho, hh, _⟩ := State.twiClear_fails (n := n) hq
    exact ⟨_, exec_twiBusClear_of_due hd hdue true none, h4, hf, ho, hh⟩
  case refine_6 =>
    refine congrArg Host.Outcome.next (if_neg ?_)
    simp [hc]
  case refine_7 =>
    obtain ⟨h4', hf, hx, ho, hh, hk⟩ := State.twiClear_fails (n := n) hq
    exact ⟨_, exec_twiBusClearRetry_of_due hd h4 hc none, h4', hf, hx, ho, hh, hk.keeps, hk.mem⟩
  case refine_8 =>
    obtain ⟨h1, _, ho, hh, _⟩ := State.twiClear_frees (n := n) hq p
    exact ⟨_, exec_twiBusClearRetry_of_due hd h4 hc (some p), h1, ho, hh⟩
  case refine_9 =>
    obtain ⟨hk, hoff, hst, hsame, hnew⟩ := State.twiCfg_ends (n := n) hq w
    have ht := s.twiTimed_onlyRegs n w
    obtain ⟨hspeed, hen⟩ := State.twiCfg_shows (s := s) (n := n) (w := w) (t := s.twiCfg n w)
      (hk.keeps _ (by simp))
    refine ⟨_, exec_twiCfgWrite_of_on hon w, hspeed, hen, fun h3 => ?_, fun h3 => ?_, hoff, hst, hsame, hnew, hk.mem.trans ht.mem,
      hk.outbox.trans ht.outbox⟩
    · obtain ⟨h0, h1, h2⟩ := State.twiTimed_timing (s := s) (n := n) h3
      exact ⟨(hk.keeps _ (by simp)).trans h0, (hk.keeps _ (by simp)).trans h1,
        (hk.keeps _ (by simp)).trans h2⟩
    · intro a ha
      have hcfg : a ≠ R.TWI_C_CFG n ∧ a ≠ R.TWI_C_STATUS n := by simpa using ha
      refine (hk.keeps a (by simpa using hcfg.2)).trans ?_
      change (s.twiTimed n w).reg a = _
      rw [State.twiTimed_of_kept h3, State.reg_put_of_ne _ _ hcfg.1.symm]

end Sys2Proof.Machine
end

section
/-!
SUPPORT. Amplifier channels (R248 to R278): what storing a channel changes and what it leaves, and the frame that the commands of the
modulator and of the sense paths keep.
-/

namespace Sys2Proof.Machine

/-! ## Storing a channel -/

section
variable (s : State) (c : Nat) (x : AmpCh)

@[simp] theorem State.amp1_putAmp1_self : (s.putAmp1 c x).amp1 c = x := Tbl.get_set_self _ _ _ _

theorem State.amp1_putAmp1_of_ne {d : Nat} (h : c ≠ d) : (s.putAmp1 c x).amp1 d = s.amp1 d := Tbl.get_set_of_ne _ _ _ h

end

/-- The registers that storing channel c writes: its state, and whether any channel is out of OFF. -/
abbrev chRegs (c : Nat) : List Nat := [R.MOD_CH_STATUS c, R.MOD_STATUS]

/-- The status of a channel is not the modulator's. -/
theorem chStatus_ne (c : Nat) : R.MOD_CH_STATUS c ≠ R.MOD_STATUS := by
  simp only [R.MOD_CH_STATUS, R.MOD_STATUS]
  omega

/-- MOD_CH_STATUS.state shows the state of the channel stored (R263). -/
theorem State.fld_state_putAmp1 (s : State) (c : Nat) (x : AmpCh) : (s.putAmp1 c x).fld (F.MOD_CH_STATUS_state c) = x.st.code := by
  have h : x.st.code % 2 ^ 3 = x.st.code := by cases x.st <;> rfl
  unfold State.putAmp1
  rw [State.fld_setFlag, State.fld_setFld_of_apart _ _ _ _ (by simp) (.inl (chStatus_ne c).symm), State.fld_setFld_self _ _ _ (by simp)]
  exact h

/-- The other flags of MOD_STATUS, and those of the registers of other blocks, stay when a channel is stored. -/
theorem State.flag_putAmp1 (s : State) (c : Nat) (x : AmpCh) {f : Fld} (hf : f.hi < 32) (h0 : f.lo ≠ 0)
    (h : f.reg ≠ R.MOD_CH_STATUS c) : (s.putAmp1 c x).flag f = s.flag f := by
  unfold State.putAmp1
  rw [State.flag_setFlag_of_apart _ _ _ _ hf (.inr (.inl (Nat.pos_of_ne_zero h0))), State.flag_setFld_of_apart _ _ _ _ hf (.inl h.symm)]
  rfl

section
variable (s : State) (c o : Nat) (f : Fld) (v : Nat) (b : Bool) (x : Out)

@[simp] theorem State.amp1_setFld : (s.setFld f v).amp1 c = s.amp1 c := rfl
@[simp] theorem State.amp1_setFlag : (s.setFlag f b).amp1 c = s.amp1 c := rfl
@[simp] theorem State.amp1_emit : (s.emit x).amp1 c = s.amp1 c := rfl

@[simp] theorem State.amp1_postEvent (ty sub : Nat) (d : List Byte) : (s.postEvent ty sub d).amp1 c = s.amp1 c := by
  rcases s.postEvent_changes ty sub d with ⟨_, _, e⟩ | ⟨_, _, e⟩ <;> rw [e]
  · rfl
  · rfl

@[simp] theorem State.amp1_drive (g : PinGroup) : (s.drive g x).amp1 c = s.amp1 c := by
  unfold State.drive
  split_ifs <;> rfl

@[simp] theorem State.amp1_setStage (d : Fin 32) : (s.setStage d b).amp1 c = s.amp1 c := s.amp1_drive c _ _

@[simp] theorem State.reg_drive (g : PinGroup) : (s.drive g x).reg o = s.reg o := by
  unfold State.drive
  split_ifs <;> rfl

end

/-- While no handover is under way, what is driven on an owned pin comes out where the module is the owner (R216). -/
theorem State.drive_outbox {s : State} (h : s.twn.ho = none) (g : PinGroup) (o : Out) :
    (s.drive g o).outbox = s.outbox ++ (if s.isOwner then [o] else []) := by
  have hd : s.drives g = s.isOwner := by simp [State.drives, h]
  rw [State.drive, hd]
  split_ifs with hw
  · rfl
  · exact (List.append_nil _).symm

/-! ## Folds over the channels -/

section
variable {α : Type} {f : State → α → State} (k : α → Nat) (hf : ∀ s a c, k a ≠ c → (f s a).amp1 c = s.amp1 c)
include hf

/-- Where each step changes one channel alone, the channels that no step is for stay. -/
theorem State.amp1_foldl_of_not_mem {l : List α} {c : Nat} (hc : c ∉ l.map k) (s : State) : (l.foldl f s).amp1 c = s.amp1 c := by
  induction l generalizing s with
  | nil => rfl
  | cons a l ih =>
    obtain ⟨ha, hl⟩ : c ≠ k a ∧ c ∉ l.map k := by simpa using hc
    exact (ih hl _).trans (hf _ _ _ ha.symm)

/-- Where each step moreover keeps a premise, the whole fold does to a channel what that channel's own step does. -/
theorem State.amp1_foldl (P : State → Prop) (hP : ∀ s a, P s → P (f s a)) {l : List α} (hl : (l.map k).Nodup) {a : α} (ha : a ∈ l)
    {s : State} (hs : P s) : ∃ u, P u ∧ u.amp1 (k a) = s.amp1 (k a) ∧ (l.foldl f s).amp1 (k a) = (f u a).amp1 (k a) := by
  induction l generalizing s with
  | nil => cases ha
  | cons b l ih =>
    obtain ⟨hb, hl⟩ := List.nodup_cons.1 hl
    rcases List.mem_cons.1 ha with rfl | ha
    · exact ⟨s, hs, rfl, State.amp1_foldl_of_not_mem k hf hb _⟩
    · obtain ⟨u, hu, he, hr⟩ := ih hl ha (hP s b hs)
      exact ⟨u, hu, he.trans (hf _ _ _ fun h => hb (h ▸ List.mem_map_of_mem ha)), hr⟩

end

/-! ## The frame -/

/-- From `s` to `t` change at most the registers listed, the modulator's own state, what was sent with the host interface's rings, and
the count of free values. -/
structure State.OnlyDrive (l : List Nat) (s t : State) : Prop where
  frame : ∃ r z m h o n, t = { s with regs := r, sets := z, amp := m, hif := h, outbox := o, fresh := n }
  keeps : s.KeepsRegs t l

namespace State.OnlyDrive

variable {l m : List Nat} {s t u : State}

theorem refl (s : State) : OnlyDrive l s s := ⟨⟨_, _, _, _, _, _, rfl⟩, fun _ _ => rfl⟩

theorem trans (h : OnlyDrive l s t) (k : OnlyDrive l t u) : OnlyDrive l s u := by
  refine ⟨?_, fun o ho => (k.keeps o ho).trans (h.keeps o ho)⟩
  obtain ⟨_, _, _, _, _, _, rfl⟩ := h.frame
  obtain ⟨_, _, _, _, _, _, rfl⟩ := k.frame
  exact ⟨_, _, _, _, _, _, rfl⟩

theorem mono (h : OnlyDrive l s t) (hm : l ⊆ m) : OnlyDrive m s t := ⟨h.frame, fun o ho => h.keeps o fun hl => ho (hm hl)⟩

theorem ite {c : Prop} [Decidable c] (h : c → OnlyDrive l s t) (k : ¬c → OnlyDrive l s u) : OnlyDrive l s (if c then t else u) := by
  split_ifs with hc
  · exact h hc
  · exact k hc

theorem of_onlyRegs (h : State.OnlyRegs l s t) : OnlyDrive l s t := by
  refine ⟨?_, h.keeps⟩
  obtain ⟨_, _, rfl⟩ := h.frame
  exact ⟨_, _, _, _, _, _, rfl⟩

section
variable (h : OnlyDrive l s t)
include h

theorem mem : t.mem = s.mem := by obtain ⟨_, _, _, _, _, _, rfl⟩ := h.frame; rfl
theorem clk : t.clk = s.clk := by obtain ⟨_, _, _, _, _, _, rfl⟩ := h.frame; rfl
theorem twn : t.twn = s.twn := by obtain ⟨_, _, _, _, _, _, rfl⟩ := h.frame; rfl
theorem applied : t.applied = s.applied := by obtain ⟨_, _, _, _, _, _, rfl⟩ := h.frame; rfl
theorem appFlag (f : Fld) : t.appFlag f = s.appFlag f := by obtain ⟨_, _, _, _, _, _, rfl⟩ := h.frame; rfl

end

theorem put {o : Nat} (ho : o ∈ l) (s : State) (w : Word) : OnlyDrive l s (s.put o w) := of_onlyRegs (.put ho s w)
theorem setFld {f : Fld} (hf : f.reg ∈ l) (s : State) (v : Nat) : OnlyDrive l s (s.setFld f v) := of_onlyRegs (.setFld hf s v)
theorem setFlag {f : Fld} (hf : f.reg ∈ l) (s : State) (b : Bool) : OnlyDrive l s (s.setFlag f b) := of_onlyRegs (.setFlag hf s b)
theorem count {o : Nat} (ho : o ∈ l) (s : State) : OnlyDrive l s (s.count o) := of_onlyRegs (.count ho s)
theorem emit (s : State) (x : Out) : OnlyDrive l s (s.emit x) := ⟨⟨_, _, _, _, _, _, rfl⟩, fun _ _ => rfl⟩
theorem tick1 (s : State) : OnlyDrive l s s.tick1 := ⟨⟨_, _, _, _, _, _, rfl⟩, fun _ _ => rfl⟩
theorem setAmp (s : State) (f : Amp → Amp) : OnlyDrive l s (s.setAmp f) := ⟨⟨_, _, _, _, _, _, rfl⟩, fun _ _ => rfl⟩

theorem setSeen {f : Fld} (hf : f.reg ∈ l) (s : State) (v : Nat) : OnlyDrive l s (s.setSeen f v) :=
  ⟨⟨_, _, _, _, _, _, rfl⟩, (setFld hf s (s.fld f ||| v)).keeps⟩

theorem of_sameButHost (h : s.SameButHost t) : OnlyDrive l s t := by
  obtain ⟨_, _, rfl⟩ := h
  exact ⟨⟨_, _, _, _, _, _, rfl⟩, fun _ _ => rfl⟩

theorem postEvent (hl : R.HIF_EVT_DROP_CNT ∈ l) (s : State) (ty sub : Nat) (d : List Byte) : OnlyDrive l s (s.postEvent ty sub d) := by
  rcases s.postEvent_changes ty sub d with h | h
  · exact of_sameButHost h
  · exact (count hl s).trans (of_sameButHost h)

theorem drive (s : State) (g : PinGroup) (o : Out) : OnlyDrive l s (s.drive g o) := ite (fun _ => emit s o) fun _ => refl s

theorem putAmp1 (s : State) (c : Nat) (x : AmpCh) : OnlyDrive (chRegs c) s (s.putAmp1 c x) :=
  ((setAmp s _).trans (setFld (by simp) _ _)).trans (setFlag (by simp) _ _)

end State.OnlyDrive

end Sys2Proof.Machine
end

section
/-!
PROOFS. Amplifier channels (R263 to R268, R274, R275, R281): start, stop, trip, check, mute, and the loss of the timebase.
-/

namespace Sys2Proof.Machine

variable {s : State} {c : Fin 32}

/-! ## Entering CHECK and leaving the switching states (R263, R265) -/

/-- A channel as it enters CHECK. -/
def AmpCh.checking (x : AmpCh) : AmpCh := { x.gZero with
  st := .check, timer := 0, stage := true, since := 0, chk := none, win := none, stopping := false, last := false }

/-- A channel with both legs forced low. -/
def AmpCh.low (x : AmpCh) : AmpCh := { x.gZero with stage := false, per := none, edges := [], chk := none, win := none }

/-- A channel in a state in which it does not switch. -/
def AmpCh.halted (x : AmpCh) (st : ChState) (timer : Nat) : AmpCh := { x with
  st := st, timer := timer, stopping := false, last := false }

section
variable (s c)

theorem State.enterCheck_eq : s.enterCheck c = (s.putAmp1 c (s.amp1 c).checking).setStage c true := rfl

theorem State.amp1_enterCheck_self : (s.enterCheck c).amp1 c = (s.amp1 c).checking := by
  rw [State.enterCheck_eq, State.amp1_setStage, State.amp1_putAmp1_self]

theorem State.amp1_enterCheck_of_ne {d : Nat} (h : c.val ≠ d) : (s.enterCheck c).amp1 d = s.amp1 d := by
  rw [State.enterCheck_eq, State.amp1_setStage, State.amp1_putAmp1_of_ne _ _ _ h]

theorem State.enterCheck_onlyDrive : State.OnlyDrive (chRegs c) s (s.enterCheck c) := (State.OnlyDrive.putAmp1 s c _).trans (.drive _ _ _)

theorem State.fld_state_enterCheck : (s.enterCheck c).fld (F.MOD_CH_STATUS_state c) = 1 :=
  (State.fld_of_reg (State.reg_drive _ _ _ _)).trans (State.fld_state_putAmp1 _ _ _)

theorem State.legsLow_eq : s.legsLow c = ((s.putAmp1 c (s.amp1 c).low).drive (.pwm c) (.pwm c [])).setStage c false := rfl

theorem State.legsLow_onlyDrive : State.OnlyDrive (chRegs c) s (s.legsLow c) :=
  ((State.OnlyDrive.putAmp1 s c _).trans (.drive _ _ _)).trans (.drive _ _ _)

variable (st : ChState) (n : Nat)

theorem State.haltCh_eq : s.haltCh c st n = (s.legsLow c).putAmp1 c ((s.amp1 c).low.halted st n) := by
  have h : (s.legsLow c).amp1 c = (s.amp1 c).low := by
    rw [State.legsLow_eq, State.amp1_setStage, State.amp1_drive, State.amp1_putAmp1_self]
  rw [← h]
  rfl

theorem State.amp1_haltCh_self : (s.haltCh c st n).amp1 c = (s.amp1 c).low.halted st n := by
  rw [State.haltCh_eq, State.amp1_putAmp1_self]

theorem State.amp1_haltCh_of_ne {d : Nat} (h : c.val ≠ d) : (s.haltCh c st n).amp1 d = s.amp1 d := by
  rw [State.haltCh_eq, State.amp1_putAmp1_of_ne _ _ _ h, State.legsLow_eq, State.amp1_setStage, State.amp1_drive,
    State.amp1_putAmp1_of_ne _ _ _ h]

theorem State.haltCh_onlyDrive : State.OnlyDrive (chRegs c) s (s.haltCh c st n) :=
  s.haltCh_eq c st n ▸ (s.legsLow_onlyDrive c).trans (.putAmp1 _ _ _)

theorem State.fld_state_haltCh : (s.haltCh c st n).fld (F.MOD_CH_STATUS_state c) = st.code := by
  rw [State.haltCh_eq, State.fld_state_putAmp1]
  rfl

end

/-! ## Start and stop (R263, R268) -/

/-- A channel is wanted by its enable and the two blocks' run bits, with its sense clock on (R263, R268). -/
theorem State.ampWanted_iff : s.ampWanted c = true ↔ s.flag F.MOD_CTRL_run = true ∧ s.appFlag (F.MOD_CH_CFG_en c) = true ∧
    s.flag F.SNS_CTRL_run = true ∧ (s.fld F.SNS_CLK_CFG_clk_en).testBit (c / 8) = true := by
  simp [State.ampWanted, State.ampEn, State.senseOk, and_assoc]

theorem State.ampWanted_of_stopped (h : s.flag F.MOD_CTRL_run = false) : s.ampWanted c = false := by simp [State.ampWanted, h]

theorem State.startCh_of_wanted (ho : (s.amp1 c).st = .off) (hw : s.ampWanted c = true) (hl : s.flag F.MOD_STATUS_tb_lock = true) :
    s.startCh c = s.enterCheck c := if_pos (by simp [ho, hw, hl])

theorem State.stopCh_of_switching (hw : s.ampWanted c = false) (hp : (s.amp1 c).st = .play) (hn : (s.amp1 c).stopping = false) :
    s.stopCh c = s.putAmp1 c { (s.amp1 c).rampTo 0 32 with stopping := true } := by
  simp [State.stopCh, hw, hp, hn, ChState.switching]

theorem State.stopCh_of_halted (hw : s.ampWanted c = false) (hp : (s.amp1 c).st = .tripped ∨ (s.amp1 c).st = .retry) :
    s.stopCh c = s.haltCh c .off 0 := by
  rcases hp with hp | hp <;> simp [State.stopCh, hw, hp, ChState.switching]

theorem State.timerCh_of_expired (hp : (s.amp1 c).st = .tripped ∨ (s.amp1 c).st = .retry) (ht : (s.amp1 c).timer = 0) :
    s.timerCh c = s.enterCheck c := if_pos (by simp [hp, ht])

theorem State.clrCh_of_halted (hp : (s.amp1 c).st = .tripped ∨ (s.amp1 c).st = .retry) :
    s.clrCh c = s.putAmp1 c { s.amp1 c with timer := 1 } := if_pos (by simp [hp])

/-! ## Trips (R265) -/

/-- A trip of channel c as it is recorded: counted, with its reason, source 21 raised (R265). -/
def State.tripNoted (s : State) (c : Fin 32) (reason : Nat) : State :=
  (((s.count (R.MOD_CH_TRIP_CNT c)).setFld (F.MOD_CH_STATUS_reason c) reason).setFlag F.MOD_STATUS_trip true).raise 21
    (word (c + reason * 256))

theorem State.tripCh_of_play (h : (s.amp1 c).st = .play) (reason wait : Nat) :
    s.tripCh c reason wait = (s.haltCh c .tripped (wait + s.halfSec)).tripNoted c reason := by
  unfold State.tripCh
  rw [h]
  rfl

theorem State.tripCh_of_check (h : (s.amp1 c).st = .check) (reason wait : Nat) :
    s.tripCh c reason wait = (s.haltCh c .retry (wait + 20 * s.halfSec)).tripNoted c reason := by
  unfold State.tripCh
  rw [h]
  rfl

theorem State.Reacts.amp {l : List Nat} {s t : State} (h : State.Reacts l s t) : t.amp = s.amp := by
  obtain ⟨_, _, _, _, _, _, _, _, rfl⟩ := h.frame
  rfl

/-- The registers of the modulator and the sense paths are none of those that raising a fault writes. -/
theorem not_mem_raiseRegs {o : Nat} (h : 0x500000 ≤ o ∧ o < 0x520000) : o ∉ raiseRegs := by
  have hr : ∀ a ∈ raiseRegs, ¬ (0x500000 ≤ a ∧ a < 0x520000) := by decide
  exact fun ho => hr o ho h

/-- What a recorded trip shows, and what it leaves. -/
theorem State.tripNoted_notes (s : State) (c : Fin 32) {reason : Nat} (hr : reason < 4) :
    (s.tripNoted c reason).amp = s.amp ∧ (s.tripNoted c reason).mem = s.mem ∧
    (s.tripNoted c reason).fld (F.MOD_CH_STATUS_reason c) = reason ∧ (s.tripNoted c reason).flag F.MOD_STATUS_trip = true ∧
    (s.tripNoted c reason).latched 21 = true ∧
    (s.tripNoted c reason).reg (R.MOD_CH_TRIP_CNT c) = counted (s.reg (R.MOD_CH_TRIP_CNT c)) ∧
    (s.tripNoted c reason).reg (R.SNS_CH_TRIP_CNT c) = s.reg (R.SNS_CH_TRIP_CNT c) := by
  obtain ⟨u, hu⟩ : ∃ u, u = s.count (R.MOD_CH_TRIP_CNT c) := ⟨_, rfl⟩
  obtain ⟨v, hv⟩ : ∃ v, v = (u.setFld (F.MOD_CH_STATUS_reason c) reason).setFlag F.MOD_STATUS_trip true := ⟨_, rfl⟩
  have ht : s.tripNoted c reason = v.raise 21 (word (c + reason * 256)) := by rw [hv, hu]; rfl
  have hx := v.reacts_raise (i := 21) (word (c + reason * 256)) (by decide)
  have huv : State.OnlyRegs (chRegs c) u v := hv ▸ (State.OnlyRegs.setFld (by simp) u reason).trans (.setFlag (by simp) _ _)
  have hin : ∀ o : Nat, 0x500000 ≤ o ∧ o < 0x520000 → (s.tripNoted c reason).reg o = v.reg o := fun o ho =>
    ht ▸ hx.keeps o (not_mem_raiseRegs ho)
  have hc := c.isLt
  refine ⟨?_, ?_, ?_, ?_, ?_, ?_, ?_⟩
  · rw [ht, hx.amp, hv, hu]
    rfl
  · rw [ht, hx.mem, huv.mem, hu, State.count_mem]
  · rw [State.fld_of_reg (hin _ (by simp only [R.MOD_CH_STATUS]; omega)), hv, State.fld_setFlag,
      State.fld_setFld_of_apart _ _ _ _ (by simp) (.inl (chStatus_ne c).symm), State.fld_setFld_self _ _ _ (by simp)]
    exact Nat.mod_eq_of_lt hr
  · rw [State.flag_of_reg (hin _ (by decide)), hv]
    exact State.flag_setFlag_self _ _ _ (by simp) rfl
  · rw [ht]
    exact v.latched_raise _ (by decide)
  · rw [hin _ (by simp only [R.MOD_CH_TRIP_CNT]; omega), huv.keeps _ (by simp [R.MOD_CH_TRIP_CNT, R.MOD_CH_STATUS, R.MOD_STATUS]; omega), hu]
    exact s.reg_count_self _
  · rw [hin _ (by simp only [R.SNS_CH_TRIP_CNT]; omega), huv.keeps _ (by simp [R.SNS_CH_TRIP_CNT, R.MOD_CH_STATUS, R.MOD_STATUS]; omega), hu]
    exact s.reg_put_of_ne _ (by simp only [R.SNS_CH_TRIP_CNT, R.MOD_CH_TRIP_CNT]; omega)

/-- The registers that count a channel's trips are none of those that show its state. -/
theorem tripCnt_not_mem (c : Fin 32) : R.MOD_CH_TRIP_CNT c ∉ chRegs c ∧ R.SNS_CH_TRIP_CNT c ∉ chRegs c := by
  have hc := c.isLt
  simp [R.MOD_CH_TRIP_CNT, R.SNS_CH_TRIP_CNT, R.MOD_CH_STATUS, R.MOD_STATUS]
  omega

/-- A channel that halts in `st` and whose trip is recorded (R265). -/
theorem State.halted_noted (s : State) (c : Fin 32) (st : ChState) (n : Nat) {reason : Nat} (hr : reason < 4) {t : State}
    (ht : t = (s.haltCh c st n).tripNoted c reason) : t.amp1 c = (s.amp1 c).low.halted st n ∧ t.mem = s.mem ∧
    t.fld (F.MOD_CH_STATUS_reason c) = reason ∧ t.flag F.MOD_STATUS_trip = true ∧ t.latched 21 = true ∧
    t.reg (R.MOD_CH_TRIP_CNT c) = counted (s.reg (R.MOD_CH_TRIP_CNT c)) ∧ t.reg (R.SNS_CH_TRIP_CNT c) = s.reg (R.SNS_CH_TRIP_CNT c) := by
  obtain ⟨ha, hm, hf, hg, hl, hn, hs⟩ := (s.haltCh c st n).tripNoted_notes c hr
  have hk := s.haltCh_onlyDrive c st n
  obtain ⟨h1, h2⟩ := tripCnt_not_mem c
  subst ht
  refine ⟨?_, hm.trans hk.mem, hf, hg, hl, hn.trans (congrArg counted (hk.keeps _ h1)), hs.trans (hk.keeps _ h2)⟩
  rw [State.amp1, ha]
  exact s.amp1_haltCh_self c st n

end Sys2Proof.Machine
end

section
/-!
SUPPORT. Impedance windows (R271, R272): what the end of a window reports, and what it leaves.
-/

namespace Sys2Proof.Machine

variable {s : State} {c : Fin 32} {z : ZSum}

/-- A channel with a pilot keeps its windows and its flags (R268). -/
theorem State.noPilot_of_pilot (h : s.hasPilot c = true) : s.noPilot c = s := if_pos h

theorem ZSum.ovl_of_valid (h : z.invalid = false) : z.ovl = false := (Bool.or_eq_false_iff.1 h).1

/-- |Z| fits its field (R271). -/
theorem State.zMag_lt (s : State) (c : Nat) (z : ZSum) : s.zMag c z < 2 ^ 24 := by
  unfold State.zMag
  dsimp only
  split_ifs
  · exact Nat.mod_lt _ (by decide)
  · decide
  · exact lt_of_le_of_lt (Nat.min_le_left _ _) (by decide)

/-- Setting the bits of a field that is cleared by a write of 1 reads as setting the field. -/
theorem State.fld_setSeen (s : State) (f g : Fld) (v : Nat) : (s.setSeen f v).fld g = (s.setFld f (s.fld f ||| v)).fld g := rfl

theorem bit_le_one (b : Bool) : bit b ≤ 1 := by cases b <;> decide

/-- The four flags of a window fit their field (R272). -/
theorem State.zFlags_lt (s : State) (c : Nat) (z : ZSum) (mag : Nat) : s.zFlags c z mag < 2 ^ 4 := by
  unfold State.zFlags
  extract_lets bad base d
  have h0 := bit_le_one bad
  have h1 := bit_le_one (bad || decide (s.appFld (F.SNS_CH_ZTH_z_open c) * 10 < mag))
  have h2 := bit_le_one (!bad && decide (mag < s.appFld (F.SNS_CH_ZTH_z_short c)))
  have h3 := bit_le_one (!bad && decide (base ≠ 0) && decide (s.appFld (F.SNS_CH_ZCFG_drift c) * base < 100 * d))
  omega

/-- The registers that teaching writes: beside the channel's the base and the learn bit (R272). -/
abbrev learnRegs (c : Nat) : List Nat := chRegs c ++ [R.SNS_CH_ZBASE c, R.SNS_CH_ZCFG c]

/-- A valid window teaches: of the channel changes what it has learnt (R272). -/
theorem State.learnZ_teaches (s : State) (c mag : Nat) : State.OnlyDrive (learnRegs c) s (s.learnZ c mag) ∧
    ∃ v, (s.learnZ c mag).amp1 c = { s.amp1 c with learn := v } := by
  have hp (x : AmpCh) : State.OnlyDrive (learnRegs c) s (s.putAmp1 c x) := (State.OnlyDrive.putAmp1 s c x).mono (by simp)
  unfold State.learnZ
  dsimp only
  split
  · exact ⟨.refl s, _, rfl⟩
  · split_ifs
    · exact ⟨((hp _).trans (.setFld (by simp) _ _)).trans (.setFlag (by simp) _ _), none, by
        rw [State.amp1_setFlag, State.amp1_setFld, State.amp1_putAmp1_self]⟩
    · exact ⟨hp _, _, State.amp1_putAmp1_self _ _ _⟩

/-- The registers in which a window's end is counted and announced (R272, R360). -/
abbrev windowEvents (c : Nat) : List Nat := [R.SNS_CH_OVL_CNT c, R.SNS_STATUS, R.HIF_EVT_DROP_CNT]

/-- The registers that the end of a window writes. -/
abbrev windowRegs (c : Nat) : List Nat :=
  [R.SNS_CH_ZMAG c, R.SNS_CH_ZPH c, R.SNS_CH_ZFLAGS c] ++ (learnRegs c ++ windowEvents c)

/-- Where a window's measures are shown, nothing is counted, announced or learnt. -/
theorem windowRegs_apart (c : Fin 32) :
    ∀ o ∈ [R.SNS_CH_ZMAG c, R.SNS_CH_ZPH c, R.SNS_CH_ZFLAGS c], o ∉ learnRegs c ++ windowEvents c := by
  have hc := c.isLt
  simp [R.SNS_CH_ZMAG, R.SNS_CH_ZPH, R.SNS_CH_ZFLAGS, R.MOD_CH_STATUS, R.MOD_STATUS, R.SNS_CH_ZBASE, R.SNS_CH_ZCFG, R.SNS_CH_OVL_CNT,
    R.SNS_STATUS, R.HIF_EVT_DROP_CNT]
  omega

/-- A window's end reports |Z|, whether it is valid, and its flags; of the channel changes what it has learnt (R271, R272). -/
theorem State.endWindow_reports (s : State) (c : Fin 32) (z : ZSum) : State.OnlyDrive (windowRegs c) s (s.endWindow c z) ∧
    (s.endWindow c z).fld (F.SNS_CH_ZMAG_zmag c) = s.zMag c z ∧ (s.endWindow c z).flag (F.SNS_CH_ZPH_valid c) = !z.invalid ∧
    (s.endWindow c z).fld (F.SNS_CH_ZFLAGS_now c) = s.zFlags c z (s.zMag c z) ∧
    ∃ v, (s.endWindow c z).amp1 c = { s.amp1 c with learn := v } := by
  unfold State.endWindow
  extract_lets mag arg fl old s1 s2 s3 s4 s5 s6 s7 s8
  have h24 : State.OnlyDrive [R.SNS_CH_ZPH c] s2 s4 := (State.OnlyDrive.setFld (by simp) s2 _).trans (.setFlag (by simp) _ _)
  have h46 : State.OnlyDrive [R.SNS_CH_ZFLAGS c] s4 s6 := (State.OnlyDrive.setFld (by simp) s4 _).trans (.setSeen (by simp) _ _)
  have h7 : State.OnlyDrive (windowEvents c) s6 s7 := .ite (fun _ => .count (by simp) _) fun _ => .refl s6
  have h8 : State.OnlyDrive (windowEvents c) s6 s8 :=
    .ite (fun _ => h7) fun _ => (h7.trans (.setFlag (by simp) _ _)).trans (.postEvent (by simp) _ _ _ _)
  have ha : s8.amp1 c = s.amp1 c := by
    have h7 : s7.amp1 c = s.amp1 c := by simp only [s7]; split_ifs <;> rfl
    simp only [s8]
    split_ifs
    · exact h7
    · rw [State.amp1_postEvent, State.amp1_setFlag, h7]
  obtain ⟨hl, v, hv⟩ := s8.learnZ_teaches c mag
  obtain ⟨t, ht⟩ : ∃ t, t = if z.invalid then s8 else s8.learnZ c mag := ⟨_, rfl⟩
  have h6t : State.OnlyDrive (learnRegs c ++ windowEvents c) s6 t := ht ▸
    .ite (fun _ => h8.mono (by simp)) fun _ => (h8.mono (by simp)).trans (hl.mono (by simp))
  have hta : ∃ v, t.amp1 c = { s.amp1 c with learn := v } := by
    rw [ht]
    split_ifs
    · exact ⟨_, ha⟩
    · exact ⟨v, by rw [hv, ha]⟩
  have hap := windowRegs_apart c
  rw [← ht]
  refine ⟨?_, ?_, ?_, ?_, hta⟩
  · exact ((((State.OnlyDrive.tick1 s).trans (.setFld (by simp) _ _)).trans (h24.mono (by simp))).trans (h46.mono (by simp))).trans
      (h6t.mono (by simp))
  · rw [State.fld_of_reg (h6t.keeps _ (hap _ (by simp))), State.fld_of_reg (h46.keeps _ (by simp)), State.fld_of_reg (h24.keeps _ (by simp))]
    simp only [s2]
    exact (State.fld_setFld_self _ _ _ (by simp)).trans (Nat.mod_eq_of_lt (s.zMag_lt c z))
  · rw [State.flag_of_reg (h6t.keeps _ (hap _ (by simp))), State.flag_of_reg (h46.keeps _ (by simp))]
    simp only [s4]
    exact State.flag_setFlag_self _ _ _ (by simp) rfl
  · rw [State.fld_of_reg (h6t.keeps _ (hap _ (by simp)))]
    simp only [s6, s5]
    rw [State.fld_setSeen, State.fld_setFld_of_apart _ _ _ _ (by simp) (.inr (.inr (by simp))), State.fld_setFld_self _ _ _ (by simp)]
    exact Nat.mod_eq_of_lt (s.zFlags_lt c z _)

end Sys2Proof.Machine
end

section
/-!
PROOFS. Amplifier channels (R263 to R268, R274, R275, R281): checks, the media-clock error, the loss of the timebase.
-/

namespace Sys2Proof.Machine

variable {s : State} {c : Fin 32}

/-! ## Checks (R267, R268) -/

/-- A channel whose check has passed: in PLAY, its gain ramping up. -/
def AmpCh.passed (x : AmpCh) : AmpCh := { x.gZero.rampTo unity 4096 with st := .play, chk := none }

theorem State.checkPass_eq (s : State) (c : Nat) : s.checkPass c = s.putAmp1 c (s.amp1 c).passed := rfl

section
variable (hst : (s.amp1 c).st = .check) (hstop : (s.amp1 c).stopping = false)
include hst hstop

theorem State.checkStart_of_due (hk : (s.amp1 c).chk = none) (hs : 6000000 ≤ (s.amp1 c).since) (he : s.flag F.MOD_STATUS_clk_err = false) :
    s.checkStart c = if s.hasPilot c then s.putAmp1 c { s.amp1 c with chk := some {} } else s.checkPass c := by
  have hs' : ¬ (s.amp1 c).since < 6000000 := Nat.not_lt.2 hs
  cases hp : s.hasPilot c <;> simp [State.checkStart, hst, hstop, hk, hs', he, hp]

theorem State.checkEnd_of_measured {z : ZSum} (hz : (s.amp1 c).chk = some z) (hp : s.hasPilot c = true) (hn : s.fs / 2 ≤ z.n)
    (hv : z.invalid = false) : s.checkEnd c = if s.zMag c z < s.appFld (F.SNS_CH_ZTH_z_short c)
      then (s.endWindow c z).haltCh c .retry (20 * (s.endWindow c z).halfSec) else (s.endWindow c z).checkPass c := by
  have hn' : ¬ z.n < s.fs / 2 := Nat.not_lt.2 hn
  unfold State.checkEnd
  rw [State.noPilot_of_pilot hp]
  simp only [hz]
  simp [hst, hstop, hn', hv, ZSum.ovl_of_valid hv]

end

/-- The timers' half second is set by TCK_CFG alone (R263). -/
theorem State.halfSec_of_reg {t : State} (h : t.reg R.TCK_CFG = s.reg R.TCK_CFG) : t.halfSec = s.halfSec := by
  have hf (f : Fld) (e : f.reg = R.TCK_CFG) : t.fld f = s.fld f := State.fld_of_reg (e ▸ h)
  simp only [State.halfSec, State.fs, State.T, hf F.TCK_CFG_fs_sel rfl, hf F.TCK_CFG_t_sel rfl]

theorem State.halfSec_endWindow (s : State) (c : Fin 32) (z : ZSum) : (s.endWindow c z).halfSec = s.halfSec := by
  have hc := c.isLt
  obtain ⟨h, -⟩ := s.endWindow_reports c z
  refine State.halfSec_of_reg (h.keeps _ ?_)
  simp [R.TCK_CFG, R.SNS_CH_ZMAG, R.SNS_CH_ZPH, R.SNS_CH_ZFLAGS, R.MOD_CH_STATUS, R.MOD_STATUS, R.SNS_CH_ZBASE, R.SNS_CH_ZCFG,
    R.SNS_CH_OVL_CNT, R.SNS_STATUS, R.HIF_EVT_DROP_CNT]
  omega

/-! ## The media-clock error (R275, R281) -/

/-- A media-clock error's beginning or end stores a channel at most. -/
theorem State.muteCh_stores (s : State) (err : Bool) (c : Nat) : s.muteCh err c = s ∨ ∃ x, s.muteCh err c = s.putAmp1 c x := by
  unfold State.muteCh
  dsimp only
  split
  · exact .inr ⟨_, rfl⟩
  · exact .inr ⟨_, rfl⟩
  · split_ifs
    · exact .inl rfl
    · exact .inr ⟨_, rfl⟩
  · exact .inl rfl

theorem State.muteCh_of_play {c : Nat} (h : (s.amp1 c).st = .play) :
    s.muteCh true c = s.putAmp1 c { (s.amp1 c).rampTo 0 32 with st := .mute, win := none } := by
  unfold State.muteCh
  simp only [h]

theorem State.muteCh_of_mute {c : Nat} (h : (s.amp1 c).st = .mute) (hn : (s.amp1 c).stopping = false) :
    s.muteCh false c = s.putAmp1 c { (s.amp1 c).rampTo unity 4096 with st := .play } := by
  unfold State.muteCh
  simp [h, hn]

/-- What the beginning or the end of a media-clock error keeps: memory, what was sent, and the flag that shows it. -/
theorem State.muteAll_shows (s : State) (err : Bool) : (s.muteAll err).flag F.MOD_STATUS_clk_err = err ∧
    (s.muteAll err).flag F.CLK_STATUS_mclk_err = s.flag F.CLK_STATUS_mclk_err ∧
    (s.muteAll err).mem = s.mem ∧ (s.muteAll err).outbox = s.outbox := by
  have hflag (f : Fld) (hf : f.hi < 32) (h0 : f.lo ≠ 0) (hr : ∀ c, f.reg ≠ R.MOD_CH_STATUS c) (u : State) (c : Nat) :
      (u.muteCh err c).flag f = u.flag f := by
    rcases u.muteCh_stores err c with h | ⟨x, h⟩ <;> rw [h]
    exact u.flag_putAmp1 c x hf h0 (hr c)
  have hmem (u : State) (c : Nat) : (u.muteCh err c).mem = u.mem := by
    rcases u.muteCh_stores err c with h | ⟨x, h⟩ <;> rw [h]
    rfl
  have hout (u : State) (c : Nat) : (u.muteCh err c).outbox = u.outbox := by
    rcases u.muteCh_stores err c with h | ⟨x, h⟩ <;> rw [h]
    rfl
  have hclk (c : Nat) : R.CLK_STATUS ≠ R.MOD_CH_STATUS c := by
    simp only [R.CLK_STATUS, R.MOD_CH_STATUS]
    omega
  unfold State.muteAll
  refine ⟨?_, ?_, ?_, ?_⟩
  · rw [foldl_keeps (fun u : State => u.flag F.MOD_STATUS_clk_err)
      (hflag F.MOD_STATUS_clk_err (by simp) (by simp) (fun c => (chStatus_ne c).symm))]
    exact State.flag_setFlag_self _ _ _ (by simp) rfl
  · rw [foldl_keeps (fun u : State => u.flag F.CLK_STATUS_mclk_err) (hflag F.CLK_STATUS_mclk_err (by simp) (by simp) hclk)]
    exact State.flag_setFlag_of_apart _ _ _ _ (by simp) (.inl (by simp))
  · rw [foldl_keeps State.mem hmem, State.setFlag_mem]
  · rw [foldl_keeps State.outbox hout, State.setFlag_outbox]

/-- Each channel takes its own part in a media-clock error. -/
theorem State.amp1_muteAll (s : State) (err : Bool) (c : Fin 32) :
    ∃ u : State, u.amp1 c = s.amp1 c ∧ (s.muteAll err).amp1 c = (u.muteCh err c).amp1 c := by
  have hne (u : State) (a d : Nat) (h : a ≠ d) : (u.muteCh err a).amp1 d = u.amp1 d := by
    rcases u.muteCh_stores err a with e | ⟨x, e⟩ <;> rw [e]
    exact State.amp1_putAmp1_of_ne _ _ _ h
  obtain ⟨u, -, hu, hr⟩ := State.amp1_foldl id hne (fun _ => True) (fun _ _ => id)
    (l := List.range 32) (by simpa using List.nodup_range) (List.mem_range.2 c.isLt) (s := s.setFlag F.MOD_STATUS_clk_err err) trivial
  exact ⟨u, hu, hr⟩

theorem State.domOn_of_reg {t : State} (h : t.reg R.PWR_DOM_ON = s.reg R.PWR_DOM_ON) (d : Nat) : t.domOn d = s.domOn d := by
  rw [State.domOn, State.fld_of_reg h, State.domOn]

/-- The media PLL out of lock is a media-clock error, which mutes the channels (R275, R281). -/
theorem State.mclkCheck_of_unlocked (hon : s.domOn 17 = true) (hn : s.flag F.MOD_STATUS_clk_err = false) (hp : s.clkx.pll = false) :
    s.mclkCheck = (s.setFlag F.CLK_STATUS_mclk_err true).muteAll true := by
  have hon' : (s.setFlag F.CLK_STATUS_mclk_err true).domOn 17 = true :=
    (State.domOn_of_reg (s.reg_setFld_of_ne _ (by simp)) 17).trans hon
  have hn' : (s.setFlag F.CLK_STATUS_mclk_err true).flag F.MOD_STATUS_clk_err = false :=
    (s.flag_setFlag_of_apart _ _ _ (by simp) (.inl (by simp))).trans hn
  unfold State.mclkCheck
  simp [hp, hon', hn']

/-- With the oscillator there, the media PLL locked and the DCO not clamped the error ends (R275, R281). -/
theorem State.mclkCheck_of_good (hon : s.domOn 17 = true) (he : s.flag F.MOD_STATUS_clk_err = true)
    (ho : s.flag F.CLK_STATUS_osc_ok = true) (hp : s.clkx.pll = true) (hc : s.clkx.clampAt = none) :
    s.mclkCheck = (s.setFlag F.CLK_STATUS_mclk_err false).muteAll false := by
  have hon' : (s.setFlag F.CLK_STATUS_mclk_err false).domOn 17 = true :=
    (State.domOn_of_reg (s.reg_setFld_of_ne _ (by simp)) 17).trans hon
  have he' : (s.setFlag F.CLK_STATUS_mclk_err false).flag F.MOD_STATUS_clk_err = true :=
    (s.flag_setFlag_of_apart _ _ _ (by simp) (.inl (by simp))).trans he
  unfold State.mclkCheck
  simp [hp, hc, State.oscThere, ho, hon', he']

/-! ## The timebase (R274) -/

theorem State.setBit64_twn (s : State) (lo hi i : Nat) (b : Bool) : (s.setBit64 lo hi i b).twn = s.twn := by
  unfold State.setBit64
  split_ifs <;> rfl

theorem State.logFault_twn (s : State) (o : Occ) (lvl : Nat) (esc : Bool) (seq : Nat) : (s.logFault o lvl esc seq).twn = s.twn := by
  unfold State.logFault
  dsimp only
  split_ifs <;> rfl

section
variable (h : s.twn.ownOut = false)
include h

theorem State.ownOut_yieldOwn : s.yieldOwn.twn.ownOut = false := by
  unfold State.yieldOwn
  have hr := s.ownOut_releaseOwn
  split_ifs
  · exact hr
  · split
    · split_ifs
      · exact h
      · exact hr
    · split
      · split_ifs
        · exact h
        · exact h
      · exact h
  · exact hr
  · exact hr
  · exact h

theorem State.ownOut_react (o : Occ) (lvl : Nat) : (s.react o lvl).twn.ownOut = false := by
  unfold State.react
  extract_lets k s1 s0 s2
  have h1 : s1.twn.ownOut = false := by simp only [s1]; split_ifs <;> exact h
  have h2 : s2.twn.ownOut = false := by
    simp only [s2]
    split_ifs
    · exact State.ownOut_releaseOwn _
    · exact State.ownOut_yieldOwn h1
    · exact h1
  split_ifs <;> exact h2

/-- A released OWN stays released when a fault is raised (R443, R444). -/
theorem State.ownOut_raiseOcc (o : Occ) : (s.raiseOcc o).twn.ownOut = false := by
  unfold State.raiseOcc
  extract_lets c esc lvl was r tagged s1 s2 seq s3 s4 s5 s6 s7 add r1 first logged s8 r2 posts s9
  have h2 : s2.twn = s.twn := by simp only [s2, s1, apply_ite State.twn, State.setBit64_twn, ite_self]
  have h5 : s5.twn = s.twn := by
    simp only [s5, apply_ite State.twn, State.count_twn, ite_self]
    exact h2
  have h8 : s8.twn = s.twn := by
    simp only [s8, s7, s6, apply_ite State.twn, State.logFault_twn, State.setBit64_twn, ite_self]
    exact h5
  have h9 : s9.twn = s.twn := by
    simp only [s9]
    split_ifs
    · exact (State.postEvent_twn _ _ _ _).trans h8
    · exact h8
  have hr := State.ownOut_react (h9 ▸ h) o lvl
  unfold State.breakRevert
  split_ifs <;> exact hr

end

theorem nodup_channels : ((List.finRange 32).map Fin.val).Nodup := (List.nodup_finRange 32).map Fin.val_injective

/-- Every channel OFF, as a loss of the timebase leaves them (R274). -/
def State.channelsOff (s : State) : State := (List.finRange 32).foldl (fun s c => s.haltCh c .off 0) s

theorem State.channelsOff_off (s : State) (c : Fin 32) : (s.channelsOff.amp1 c).st = .off ∧ s.channelsOff.mem = s.mem := by
  obtain ⟨u, -, -, hr⟩ := State.amp1_foldl Fin.val (fun s a d h => s.amp1_haltCh_of_ne a .off 0 h)
    (fun _ => True) (fun _ _ => id) nodup_channels (List.mem_finRange c) (s := s) trivial
  refine ⟨?_, foldl_keeps State.mem (fun s c => (s.haltCh_onlyDrive c .off 0).mem) _ _⟩
  rw [State.channelsOff, hr, State.amp1_haltCh_self]
  rfl

/-- A loss of the timebase before its fault is raised (R274). -/
def State.timebaseLost (s : State) : State :=
  (s.channelsOff.releaseOwn.setFlag F.MOD_STATUS_tb_lock false).setFlag F.MOD_STATUS_tb_loss true

theorem State.timebaseLoss_eq (s : State) : s.timebaseLoss = s.timebaseLost.raise 13 0 := rfl

/-- A start stores the channel at most, as it enters CHECK. -/
theorem State.startCh_starts (s : State) (c : Fin 32) : s.startCh c = s ∨ s.startCh c = s.enterCheck c := by
  unfold State.startCh
  split_ifs
  · exact .inr rfl
  · exact .inl rfl

theorem State.flag_tb_lock_enterCheck (s : State) (c : Fin 32) : (s.enterCheck c).flag F.MOD_STATUS_tb_lock = s.flag F.MOD_STATUS_tb_lock :=
  (State.flag_of_reg (State.reg_drive _ _ _ _)).trans (s.flag_putAmp1 c _ (by simp) (by simp) (chStatus_ne c).symm)

/-- What makes a channel wanted stands outside its status (R263, R268). -/
theorem State.ampWanted_of_onlyDrive {t : State} {d : Nat} (h : State.OnlyDrive (chRegs d) s t) (hd : d < 32) (c : Nat) :
    t.ampWanted c = s.ampWanted c := by
  have hk (o : Nat) (ho : o < 0x500110 ∨ 0x510000 ≤ o) (hs : o ≠ R.MOD_STATUS) : t.reg o = s.reg o := by
    refine h.keeps o ?_
    simp [R.MOD_CH_STATUS, hs]
    omega
  rw [State.ampWanted, State.ampWanted, State.ampEn, State.ampEn, h.appFlag, State.senseOk, State.senseOk,
    State.flag_of_reg (hk _ (by decide) (by decide)), State.flag_of_reg (f := F.SNS_CTRL_run) (hk _ (by decide) (by decide)),
    State.fld_of_reg (hk _ (by decide) (by decide))]

/-- While the timebase is locked, each channel's start is its own affair: a wanted one in OFF enters CHECK (R274). -/
theorem State.startAll_starts (ho : (s.amp1 c).st = .off) (hw : s.ampWanted c = true) (hl : s.flag F.MOD_STATUS_tb_lock = true) :
    (((List.finRange 32).foldl State.startCh s).amp1 c).st = .check ∧
    ((List.finRange 32).foldl State.startCh s).flag F.MOD_STATUS_tb_lock = true ∧
    ((List.finRange 32).foldl State.startCh s).mem = s.mem := by
  have hlock (s : State) (a : Fin 32) : (s.startCh a).flag F.MOD_STATUS_tb_lock = s.flag F.MOD_STATUS_tb_lock := by
    rcases s.startCh_starts a with h | h <;> rw [h]
    exact s.flag_tb_lock_enterCheck a
  have hwant (s : State) (a : Fin 32) : (s.startCh a).ampWanted c = s.ampWanted c := by
    rcases s.startCh_starts a with h | h <;> rw [h]
    exact State.ampWanted_of_onlyDrive (s.enterCheck_onlyDrive a) a.isLt c
  have hne (s : State) (a : Fin 32) (d : Nat) (hd : a.val ≠ d) : (s.startCh a).amp1 d = s.amp1 d := by
    rcases s.startCh_starts a with h | h <;> rw [h]
    exact s.amp1_enterCheck_of_ne a hd
  have hmem (s : State) (a : Fin 32) : (s.startCh a).mem = s.mem := by
    rcases s.startCh_starts a with h | h <;> rw [h]
    exact (s.enterCheck_onlyDrive a).mem
  obtain ⟨u, ⟨huw, hul⟩, hu, hr⟩ := State.amp1_foldl Fin.val hne
    (fun u => u.ampWanted c = true ∧ u.flag F.MOD_STATUS_tb_lock = true)
    (fun s a h => ⟨(hwant s a).trans h.1, (hlock s a).trans h.2⟩) nodup_channels (List.mem_finRange c) ⟨hw, hl⟩
  refine ⟨?_, (foldl_keeps (fun u : State => u.flag F.MOD_STATUS_tb_lock) hlock _ _).trans hl, foldl_keeps State.mem hmem _ _⟩
  rw [hr, State.startCh_of_wanted (hu ▸ ho) huw hul, State.amp1_enterCheck_self]
  rfl

end Sys2Proof.Machine
end

section
/-!
PROOFS. The channel commands against their statement (R263 to R268, R274, R275, R281).
-/

namespace Sys2Proof.Machine

variable {s : State} {c : Fin 32}

/-! ## The commands -/

theorem channelStart_checks (ho : (s.amp1 c).st = .off) (hw : s.ampWanted c = true) (hl : s.flag F.MOD_STATUS_tb_lock = true)
    (hh : s.twn.ho = none) : ∃ t : State, exec (.channelStart c) s = .next t ∧
      (t.amp1 c).st = .check ∧ (t.amp1 c).stage = true ∧ (t.amp1 c).gTo = 0 ∧ t.fld (F.MOD_CH_STATUS_state c) = 1 ∧
      t.outbox = s.outbox ++ (if s.isOwner then [.pin "PSTAGE_EN_N" c false] else []) ∧
      s.KeepsRegs t (chRegs c) ∧ t.mem = s.mem ∧ (∀ d : Fin 32, d ≠ c → t.amp1 d = s.amp1 d) := by
  have hk := s.enterCheck_onlyDrive c
  have hx := s.amp1_enterCheck_self c
  refine ⟨_, congrArg Host.Outcome.next (State.startCh_of_wanted ho hw hl), ?_, ?_, ?_, s.fld_state_enterCheck c, ?_, hk.keeps, hk.mem,
    fun d hd => s.amp1_enterCheck_of_ne c fun h => hd (Fin.ext h.symm)⟩
  · rw [hx]; rfl
  · rw [hx]; rfl
  · rw [hx]; rfl
  · exact State.drive_outbox (s := s.putAmp1 c (s.amp1 c).checking) hh _ _

theorem channelTrip_of_play {bits : List Bool} (hs : s.senseOk c = true) (ht : trips (s.appFld (F.SNS_CH_TRIP_thr c))
    (s.appFld (F.SNS_CH_TRIP_trip_n c)) 0 (fastMags bits) = true) (hp : (s.amp1 c).st = .play) :
    ∃ t : State, exec (.channelTrip c bits) s = .next t ∧ (t.amp1 c).st = .tripped ∧ (t.amp1 c).stage = false ∧ (t.amp1 c).per = none ∧
      (t.amp1 c).timer = s.captureWait + s.fs / (2 * s.T) ∧ t.fld (F.MOD_CH_STATUS_reason c) = 1 ∧ t.latched 21 = true ∧
      t.reg (R.SNS_CH_TRIP_CNT c) = counted (s.reg (R.SNS_CH_TRIP_CNT c)) ∧
      t.reg (R.MOD_CH_TRIP_CNT c) = counted (s.reg (R.MOD_CH_TRIP_CNT c)) ∧ t.mem = s.mem := by
  obtain ⟨u, hu⟩ : ∃ u, u = s.count (R.SNS_CH_TRIP_CNT c) := ⟨_, rfl⟩
  have hup : (u.amp1 c).st = .play := hu ▸ hp
  have hc := c.isLt
  have hsec : u.halfSec = s.halfSec := hu ▸ State.halfSec_of_reg (s.reg_put_of_ne _ (by simp only [R.SNS_CH_TRIP_CNT, R.TCK_CFG]; omega))
  obtain ⟨t, hd⟩ : ∃ t, t = (u.haltCh c .tripped (s.captureWait + u.halfSec)).tripNoted c 1 := ⟨_, rfl⟩
  obtain ⟨hx, hm, hf, _, hl, hn, hsn⟩ := u.halted_noted c .tripped _ (by decide) hd
  have he : exec (.channelTrip c bits) s = .next t := by
    refine (congrArg Host.Outcome.next (if_pos (by simp [hs, ht]))).trans ?_
    rw [hd, ← State.tripCh_of_play hup, hu]
  refine ⟨t, he, ?_, ?_, ?_, ?_, hf, hl, ?_, ?_, ?_⟩
  · rw [hx]; rfl
  · rw [hx]; rfl
  · rw [hx]; rfl
  · rw [hx, hsec]; rfl
  · rw [hsn, hu]
    exact s.reg_count_self _
  · rw [hn, hu]
    exact congrArg counted (s.reg_put_of_ne _ (by simp only [R.SNS_CH_TRIP_CNT, R.MOD_CH_TRIP_CNT]; omega))
  · rw [hm, hu, State.count_mem]

theorem faultN_of_check (hst : (s.amp1 c).st = .check) : ∃ t : State, exec (.faultNAssert c) s = .next t ∧ (t.amp1 c).st = .retry ∧
      (t.amp1 c).stage = false ∧ (t.amp1 c).timer = 1 + 20 * (s.fs / (2 * s.T)) ∧ t.fld (F.MOD_CH_STATUS_reason c) = 2 ∧
      t.flag F.MOD_STATUS_trip = true ∧ t.latched 21 = true ∧
      t.reg (R.MOD_CH_TRIP_CNT c) = counted (s.reg (R.MOD_CH_TRIP_CNT c)) ∧ t.mem = s.mem := by
  obtain ⟨hx, hm, hf, hg, hl, hn, -⟩ := s.halted_noted c .retry (1 + 20 * s.halfSec) (reason := 2) (by decide) rfl
  refine ⟨_, congrArg Host.Outcome.next (State.tripCh_of_check hst 2 1), ?_, ?_, ?_, hf, hg, hl, hn, hm⟩
  · rw [hx]; rfl
  · rw [hx]; rfl
  · rw [hx]; rfl

theorem checkEnd_decides {z : ZSum} (hst : (s.amp1 c).st = .check) (hn : (s.amp1 c).stopping = false) (hz : (s.amp1 c).chk = some z)
    (hp : s.hasPilot c = true) (hm : s.fs / 2 ≤ z.n) (hv : z.invalid = false) :
    (s.appFld (F.SNS_CH_ZTH_z_short c) ≤ s.zMag c z → ∃ t : State, exec (.checkEnd c) s = .next t ∧ (t.amp1 c).st = .play ∧
      (t.amp1 c).chk = none ∧ t.mem = s.mem ∧ t.clk = s.clk) ∧
    (s.zMag c z < s.appFld (F.SNS_CH_ZTH_z_short c) → ∃ t : State, exec (.checkEnd c) s = .next t ∧ (t.amp1 c).st = .retry ∧
      (t.amp1 c).timer = 20 * (s.fs / (2 * s.T)) ∧ t.mem = s.mem ∧ t.clk = s.clk) := by
  have he := State.checkEnd_of_measured hst hn hz hp hm hv
  obtain ⟨hw, -⟩ := s.endWindow_reports c z
  refine ⟨fun hge => ?_, fun hlt => ?_⟩
  · refine ⟨_, congrArg Host.Outcome.next (he.trans (if_neg (Nat.not_lt.2 hge))), ?_, ?_, hw.mem, hw.clk⟩
    · rw [State.checkPass_eq, State.amp1_putAmp1_self]; rfl
    · rw [State.checkPass_eq, State.amp1_putAmp1_self]; rfl
  · have hk := (s.endWindow c z).haltCh_onlyDrive c .retry (20 * (s.endWindow c z).halfSec)
    refine ⟨_, congrArg Host.Outcome.next (he.trans (if_pos hlt)), ?_, ?_, hk.mem.trans hw.mem, hk.clk.trans hw.clk⟩
    · rw [State.amp1_haltCh_self]; rfl
    · rw [State.amp1_haltCh_self, State.halfSec_endWindow]; rfl

theorem channelMute_mutes (hon : s.domOn 17 = true) (he : s.flag F.MOD_STATUS_clk_err = false) (hp : (s.amp1 c).st = .play) :
    ∃ t : State, exec (.channelMute false) s = .next t ∧ (t.amp1 c).st = .mute ∧ (t.amp1 c).gTo = 0 ∧
      t.flag F.MOD_STATUS_clk_err = true ∧ t.flag F.CLK_STATUS_mclk_err = true ∧ t.mem = s.mem ∧ t.outbox = s.outbox := by
  obtain ⟨v, hv⟩ : ∃ v, v = (s.setClkx fun x => { x with pll := false }).setFlag F.CLK_STATUS_mclk_err true := ⟨_, rfl⟩
  obtain ⟨hc, hk, hm, ho⟩ := v.muteAll_shows true
  obtain ⟨u, hu, hr⟩ := v.amp1_muteAll true c
  have hup : (u.amp1 c).st = .play := by rw [hu, hv]; exact hp
  have hx : exec (.channelMute false) s = .next (v.muteAll true) := by
    rw [hv, ← State.mclkCheck_of_unlocked (s := s.setClkx fun x => { x with pll := false }) hon he rfl]
    rfl
  refine ⟨_, hx, ?_, ?_, hc, hk.trans ?_, ?_, ?_⟩
  · rw [hr, State.muteCh_of_play hup, State.amp1_putAmp1_self]
  · rw [hr, State.muteCh_of_play hup, State.amp1_putAmp1_self]; rfl
  · rw [hv]
    exact State.flag_setFlag_self _ _ _ (by simp) rfl
  · rw [hm, hv]; rfl
  · rw [ho, hv]; rfl

theorem channelMute_unmutes (hon : s.domOn 17 = true) (he : s.flag F.MOD_STATUS_clk_err = true) (hosc : s.flag F.CLK_STATUS_osc_ok = true)
    (hcl : s.clkx.clampAt = none) (hp : (s.amp1 c).st = .mute) (hn : (s.amp1 c).stopping = false) :
    ∃ t : State, exec (.channelMute true) s = .next t ∧ (t.amp1 c).st = .play ∧ (t.amp1 c).gTo = unity ∧
      t.flag F.MOD_STATUS_clk_err = false ∧ t.flag F.CLK_STATUS_mclk_err = false ∧ t.mem = s.mem ∧ t.outbox = s.outbox := by
  obtain ⟨v, hv⟩ : ∃ v, v = (s.setClkx fun x => { x with pll := true }).setFlag F.CLK_STATUS_mclk_err false := ⟨_, rfl⟩
  obtain ⟨hc, hk, hm, ho⟩ := v.muteAll_shows false
  obtain ⟨u, hu, hr⟩ := v.amp1_muteAll false c
  have hux : u.amp1 c = s.amp1 c := by rw [hu, hv]; rfl
  have hx : exec (.channelMute true) s = .next (v.muteAll false) := by
    rw [hv, ← State.mclkCheck_of_good (s := s.setClkx fun x => { x with pll := true }) hon he hosc rfl hcl]
    rfl
  have hself := State.muteCh_of_mute (s := u) (c := c) (hux ▸ hp) (hux ▸ hn)
  refine ⟨_, hx, ?_, ?_, hc, hk.trans ?_, ?_, ?_⟩
  · rw [hr, hself, State.amp1_putAmp1_self]
  · rw [hr, hself, State.amp1_putAmp1_self]; rfl
  · rw [hv]
    exact State.flag_setFlag_self _ _ _ (by simp) rfl
  · rw [hm, hv]; rfl
  · rw [ho, hv]; rfl

theorem timebaseLoss_ends (s : State) (c : Fin 32) : ∃ t : State, exec .timebaseLoss s = .next t ∧ (t.amp1 c).st = .off ∧
    t.isOwner = false ∧ t.twn.ownOut = false ∧ t.flag F.MOD_STATUS_tb_lock = false ∧ t.flag F.MOD_STATUS_tb_loss = true ∧
    t.latched 13 = true ∧ t.mem = s.mem := by
  obtain ⟨hoff, hm⟩ := s.channelsOff_off c
  obtain ⟨u, hu⟩ : ∃ u, u = s.channelsOff.releaseOwn := ⟨_, rfl⟩
  have hrel : s.channelsOff.Reacts reactRegs u := hu ▸ State.Reacts.releaseOwn s.channelsOff
  have hl : s.timebaseLost = (u.setFlag F.MOD_STATUS_tb_lock false).setFlag F.MOD_STATUS_tb_loss true := hu ▸ rfl
  have hr := s.timebaseLost.reacts_raise (i := 13) 0 (by decide)
  have hreg := hr.keeps R.MOD_STATUS (not_mem_raiseRegs (by decide))
  have htwn : s.timebaseLost.twn = u.twn := by rw [hl]; rfl
  have hown : s.timebaseLost.isOwner = false := by
    rw [State.isOwner, htwn, hu]
    exact s.channelsOff.isOwner_releaseOwn
  have hout : s.timebaseLost.twn.ownOut = false := by
    rw [htwn, hu]
    exact s.channelsOff.ownOut_releaseOwn
  refine ⟨_, congrArg Host.Outcome.next s.timebaseLoss_eq, ?_, (State.GivesUp.raiseOcc _ _).pins hown, State.ownOut_raiseOcc hout _, ?_, ?_,
    State.latched_raise _ _ (by decide), ?_⟩
  · have ha : s.timebaseLost.amp = u.amp := by rw [hl]; rfl
    rw [State.amp1, hr.amp, ha, hrel.amp]
    exact hoff
  · rw [State.flag_of_reg hreg, hl, State.flag_setFlag_of_apart _ _ _ _ (by simp) (.inr (by simp))]
    exact State.flag_setFlag_self _ _ _ (by simp) rfl
  · rw [State.flag_of_reg hreg, hl]
    exact State.flag_setFlag_self _ _ _ (by simp) rfl
  · rw [hr.mem, hl, State.setFlag_mem, State.setFlag_mem, hrel.mem, hm]

theorem timebaseRelock_checks (ho : (s.amp1 c).st = .off) (hw : s.ampWanted c = true) :
    ∃ t : State, exec .timebaseRelock s = .next t ∧ (t.amp1 c).st = .check ∧ t.flag F.MOD_STATUS_tb_lock = true ∧ t.mem = s.mem := by
  have hk : State.OnlyDrive (chRegs c) s (s.setFlag F.MOD_STATUS_tb_lock true) := .setFlag (by simp) _ _
  have hw' := (State.ampWanted_of_onlyDrive hk c.isLt c).trans hw
  obtain ⟨h1, h2, h3⟩ := State.startAll_starts (s := s.setFlag F.MOD_STATUS_tb_lock true) (c := c) ho hw'
    (State.flag_setFlag_self _ _ _ (by simp) rfl)
  exact ⟨_, rfl, h1, h2, h3.trans hk.mem⟩

/-! ## The statement -/

/-- Settles O43: each clause is the lemma of its command, or the equation of its channel's step. -/
theorem amplifierChannelsFollowTheirStates : Obligations.AmplifierChannelsFollowTheirStates := by
  intro s c bits z x wanted
  refine ⟨fun ho hw => channelStart_checks ho (State.ampWanted_iff.2 hw), ?stop, ?stopHalted, ?timer, ?clr,
    fun hs ht hp => channelTrip_of_play hs ht hp, faultN_of_check, ?noTrip, ?checkStart, checkEnd_decides, channelMute_mutes,
    channelMute_unmutes, timebaseLoss_ends s c, fun ho hw => timebaseRelock_checks ho (State.ampWanted_iff.2 hw)⟩
  case stop =>
    intro hr hp hn
    exact ⟨_, congrArg Host.Outcome.next (State.stopCh_of_switching (State.ampWanted_of_stopped hr) hp hn),
      State.amp1_putAmp1_self _ _ _, (State.OnlyDrive.putAmp1 s c _).keeps, rfl, rfl⟩
  case stopHalted =>
    intro hr hp
    have hk := s.haltCh_onlyDrive c .off 0
    refine ⟨_, congrArg Host.Outcome.next (State.stopCh_of_halted (State.ampWanted_of_stopped hr) hp), ?_,
      s.fld_state_haltCh c .off 0, hk.keeps, hk.mem⟩
    rw [State.amp1_haltCh_self]
    rfl
  case timer =>
    intro hp ht
    have hk := s.enterCheck_onlyDrive c
    refine ⟨_, congrArg Host.Outcome.next (State.timerCh_of_expired hp ht), ?_, hk.keeps, hk.mem⟩
    rw [State.amp1_enterCheck_self]
    rfl
  case clr =>
    intro hon hp
    exact ⟨_, congrArg Host.Outcome.next ((State.ifOn_of_on hon _).trans (State.clrCh_of_halted hp)), State.amp1_putAmp1_self _ _ _,
      (State.OnlyDrive.putAmp1 s c _).keeps, rfl, rfl⟩
  case noTrip =>
    intro h
    refine congrArg Host.Outcome.next (if_neg ?_)
    rcases h with h | h <;> simp [h]
  case checkStart =>
    intro hst hn hk hs he
    have hd := State.checkStart_of_due hst hn hk hs he
    have hkeep (y : AmpCh) := State.OnlyDrive.putAmp1 s c y
    refine ⟨fun hp => ?_, fun hp => ?_⟩
    · have hpass : s.checkStart c = s.putAmp1 c x.passed := hd.trans (if_neg (by simp [hp]))
      have hx : (s.putAmp1 c x.passed).amp1 c = x.passed := State.amp1_putAmp1_self _ _ _
      refine ⟨_, congrArg Host.Outcome.next hpass, ?_, ?_, ?_, ?_, (hkeep _).keeps, rfl⟩
      · rw [hx]; rfl
      · rw [hx]; rfl
      · rw [hx]; rfl
      · rw [hx]; rfl
    · exact ⟨_, congrArg Host.Outcome.next (hd.trans (if_pos hp)), State.amp1_putAmp1_self _ _ _, (hkeep _).keeps, rfl⟩

end Sys2Proof.Machine
end

section
/-!
PROOFS. The switching schedule and the measurements of an amplifier channel (R255, R261, R268, R271 to R273).
-/

namespace Sys2Proof.Machine

variable {s : State} {c : Fin 32}

/-! ## One period (R255, R258) -/

/-- Where the period holds two dead times and two minimum pulses, both pulses keep the minimum (R255). -/
theorem tAClamp_keeps_minimum (m : Word) {l d mp : Nat} (h : 2 * d + 2 * mp ≤ l) :
    ∃ a : Nat, (tAClamp m l d mp).1 = a ∧ mp ≤ a ∧ a + 2 * d + mp ≤ l := by
  have hb : (mp : Int) ≤ (tAClamp m l d mp).1 ∧ (tAClamp m l d mp).1 ≤ l - 2 * d - mp := by
    unfold tAClamp
    dsimp only
    split_ifs <;> dsimp only <;> omega
  exact ⟨(tAClamp m l d mp).1.toNat, by omega, by omega, by omega⟩

/-- The edges of a period with a pulse of `a` fine counts on leg A (R255). -/
def periodPins (l d a : Nat) : List PinEdge :=
  [⟨false, d, true⟩, ⟨false, d + a, false⟩, ⟨true, 2 * d + a, true⟩, ⟨true, l, false⟩]

theorem periodEdges_eq (l d a : Nat) : periodEdges d a ++ [⟨true, l, false⟩] = periodPins l d a := rfl

theorem times_periodPins (l d a : Nat) : (periodPins l d a).map (fun e => e.time.toNat) = [d, d + a, 2 * d + a, l] := rfl

/-- With no handover and no takeover under way the owner drives the legs (R216, R243). -/
theorem State.drivesLegs_of_settled (hh : s.twn.ho = none) (he : s.twn.enter = []) : s.drivesLegs c = s.isOwner := by
  simp [State.drivesLegs, State.drives, hh, he]

/-- A period is placed in its channel, with a pulse that keeps the minimum, and driven by the owner (R216, R255). -/
theorem State.placePeriod_places (s : State) (c : Fin 32) (t0 l : Nat) (m : Word) (hh : s.twn.ho = none) (he : s.twn.enter = [])
    (hl : 2 * s.appFld (F.MOD_CH_DEAD_dead c) + 2 * s.appFld F.MOD_MINPULSE_mp ≤ l) :
    ∃ a : Nat, s.appFld F.MOD_MINPULSE_mp ≤ a ∧ a + 2 * s.appFld (F.MOD_CH_DEAD_dead c) + s.appFld F.MOD_MINPULSE_mp ≤ l ∧
      ((s.placePeriod c t0 l m).amp1 c).per = some ⟨t0, m⟩ ∧
      ((s.placePeriod c t0 l m).amp1 c).edges = periodPins l (s.appFld (F.MOD_CH_DEAD_dead c)) a ∧
      (s.placePeriod c t0 l m).outbox = s.outbox ++ (if s.isOwner then [.pwm c [s.appFld (F.MOD_CH_DEAD_dead c),
        s.appFld (F.MOD_CH_DEAD_dead c) + a, 2 * s.appFld (F.MOD_CH_DEAD_dead c) + a, l]] else []) ∧
      State.OnlyDrive (R.MOD_CH_CLIP_CNT c :: chRegs c) s (s.placePeriod c t0 l m) := by
  obtain ⟨a, ha, hmin, hmax⟩ := tAClamp_keeps_minimum m hl
  refine ⟨a, hmin, hmax, ?_⟩
  unfold State.placePeriod
  extract_lets d k s1 es x s2
  have hes : es = periodPins l d a := by
    simp only [es, k]
    rw [ha]
    exact periodEdges_eq l d a
  have h1 : State.OnlyDrive (R.MOD_CH_CLIP_CNT c :: chRegs c) s s1 ∧ s1.outbox = s.outbox := by
    simp only [s1]
    split_ifs
    · exact ⟨.count (by simp) _, rfl⟩
    · exact ⟨.refl s, rfl⟩
  have h2 : State.OnlyDrive (R.MOD_CH_CLIP_CNT c :: chRegs c) s s2 := h1.1.trans ((State.OnlyDrive.putAmp1 s1 c _).mono (by simp))
  have hd : s2.drivesLegs c = s.isOwner := by
    rw [State.drivesLegs_of_settled (h2.twn ▸ hh) (h2.twn ▸ he), State.isOwner, h2.twn, State.isOwner]
  have hx : s2.amp1 c = { s1.amp1 c with per := some ⟨t0, m⟩, edges := es } := State.amp1_putAmp1_self _ _ _
  have hpins : es.map (fun e => e.time.toNat) = [d, d + a, 2 * d + a, l] := hes ▸ times_periodPins l d a
  obtain ⟨t, ht⟩ : ∃ t, t = if s2.drivesLegs c then s2.emit (.pwm c (es.map fun e => e.time.toNat)) else s2 := ⟨_, rfl⟩
  have hta : t.amp1 c = s2.amp1 c := by
    rw [ht]
    split_ifs
    · exact State.amp1_emit _ _ _
    · rfl
  rw [← ht]
  refine ⟨by rw [hta, hx], by rw [hta, hx, hes], ?_, ht ▸ .ite (fun _ => h2.trans (.emit _ _)) fun _ => h2⟩
  rw [ht, hd, hpins]
  split_ifs
  · exact congrArg (· ++ _) h1.2
  · exact h1.2.trans (List.append_nil _).symm

theorem State.setTwn_of_eq {f : Twin → Twin} (h : f s.twn = s.twn) : s.setTwn f = s := by rw [State.setTwn, h]

/-- The period that starts for a channel in PLAY (R255, R258). -/
theorem State.periodStartCh_places (s : State) (c : Fin 32) (j : Nat) (hp : (s.amp1 c).st = .play) (hlast : (s.amp1 c).last = false)
    (hstop : (s.amp1 c).stopping = false) (he : s.twn.enter = []) : ∃ (u : State) (m : Word),
      State.OnlyRegs [R.MOD_CH_UV_CNT c, R.MOD_CH_STATUS c] s u ∧
      s.periodStartCh c j = u.placePeriod c (s.periodStart c j) (s.periodStart c (j + 1) - s.periodStart c j) m := by
  unfold State.periodStartCh
  extract_lets x s1 t0 l mv u v z y
  have hs1 : s1 = s := State.setTwn_of_eq (congrArg (fun e => { s.twn with enter := e }) (by simp [he]))
  clear_value s1
  subst hs1
  rw [if_neg (by simp [x, hlast]), if_pos (by rw [hp]; rfl)]
  refine ⟨u, mv.1, ?_, if_neg (by simp [x, hstop])⟩
  simp only [u]
  split_ifs
  · exact (State.OnlyRegs.count (by simp) _).trans (.setFlag (by simp) _ _)
  · exact .refl _

theorem pwmPeriodStart_places (s : State) (c : Fin 32) (j : Nat) (cap : List PinEdge) (lvl : Bool) (sclk : List ClkEdge) (b : Bool)
    (hp : (s.amp1 c).st = .play) (hlast : (s.amp1 c).last = false) (hstop : (s.amp1 c).stopping = false) (hq : s.equinox = false)
    (hh : s.twn.ho = none) (he : s.twn.enter = []) (hl : 2 * s.appFld (F.MOD_CH_DEAD_dead c) + 2 * s.appFld F.MOD_MINPULSE_mp ≤
      s.periodStart c (j + 1) - s.periodStart c j) :
    ∃ (t : State) (m : Word) (a : Nat), exec (.pwmPeriodStart c j cap lvl sclk b) s = .next t ∧ s.appFld F.MOD_MINPULSE_mp ≤ a ∧
      a + 2 * s.appFld (F.MOD_CH_DEAD_dead c) + s.appFld F.MOD_MINPULSE_mp ≤ s.periodStart c (j + 1) - s.periodStart c j ∧
      (t.amp1 c).per = some ⟨s.periodStart c j, m⟩ ∧
      (t.amp1 c).edges = periodPins (s.periodStart c (j + 1) - s.periodStart c j) (s.appFld (F.MOD_CH_DEAD_dead c)) a ∧
      t.outbox = s.outbox ++ (if s.isOwner then [.pwm c [s.appFld (F.MOD_CH_DEAD_dead c), s.appFld (F.MOD_CH_DEAD_dead c) + a,
        2 * s.appFld (F.MOD_CH_DEAD_dead c) + a, s.periodStart c (j + 1) - s.periodStart c j]] else []) ∧
      s.KeepsRegs t [R.MOD_CH_CLIP_CNT c, R.MOD_CH_STATUS c, R.MOD_STATUS, R.MOD_CH_UV_CNT c] ∧ t.mem = s.mem := by
  obtain ⟨u, m, hu, hplace⟩ := s.periodStartCh_places c j hp hlast hstop he
  have hd := State.OnlyDrive.of_onlyRegs hu
  have happ (f : Fld) : u.appFld f = s.appFld f := by rw [State.appFld, State.app, hd.applied, State.appFld, State.app]
  have hlb : s.lbPeriod c j cap lvl sclk b = s := if_neg (by simp [State.lbOn, hq])
  obtain ⟨a, hmin, hmax, hper, hedges, hout, hk⟩ := u.placePeriod_places c (s.periodStart c j)
    (s.periodStart c (j + 1) - s.periodStart c j) m (hd.twn ▸ hh) (hd.twn ▸ he) (by rw [happ, happ]; exact hl)
  have hx : exec (.pwmPeriodStart c j cap lvl sclk b) s = .next (s.periodStartCh c j) :=
    congrArg (fun v : State => Host.Outcome.next (v.periodStartCh c j)) hlb
  have howner : u.isOwner = s.isOwner := by rw [State.isOwner, hd.twn, State.isOwner]
  rw [happ] at hmin hmax hedges hout
  rw [happ] at hmax
  refine ⟨_, m, a, hx.trans (congrArg Host.Outcome.next hplace), hmin, hmax, hper, hedges, ?_, ?_, hk.mem.trans hd.mem⟩
  · rw [hout, hu.outbox, howner]
  · exact ((hd.mono (by simp)).trans (hk.mono (by simp))).keeps

/-! ## Impedance windows (R268, R271, R272) -/

theorem impedanceWindowEnd_reports {z : ZSum} (hp : s.hasPilot c = true) (hw : (s.amp1 c).win = some z) (hn : s.zLen c ≤ z.n) :
    ∃ t : State, exec (.impedanceWindowEnd c) s = .next t ∧ (t.amp1 c).win = none ∧ t.fld (F.SNS_CH_ZMAG_zmag c) = s.zMag c z ∧
      t.flag (F.SNS_CH_ZPH_valid c) = !z.invalid ∧ t.fld (F.SNS_CH_ZFLAGS_now c) = s.zFlags c z (s.zMag c z) ∧ t.mem = s.mem ∧
      t.clk = s.clk := by
  obtain ⟨u, hu⟩ : ∃ u, u = s.putAmp1 c { s.amp1 c with win := none } := ⟨_, rfl⟩
  have hk : State.OnlyDrive (chRegs c) s u := hu ▸ .putAmp1 s c _
  have he : s.zWindowEnd c = u.endWindow c z := by
    unfold State.zWindowEnd
    rw [State.noPilot_of_pilot hp]
    simp only [hw]
    rw [if_neg (Nat.not_lt.2 hn), hu]
  have hmag : u.zMag c z = s.zMag c z := by rw [hu]; rfl
  have hbase : u.fld (F.SNS_CH_ZBASE_z_base c) = s.fld (F.SNS_CH_ZBASE_z_base c) := State.fld_of_reg (hk.keeps _ (by
    simp [R.SNS_CH_ZBASE, R.MOD_CH_STATUS, R.MOD_STATUS]
    omega))
  have hflags (mag : Nat) : u.zFlags c z mag = s.zFlags c z mag := by
    unfold State.zFlags
    rw [hbase, hu]
    rfl
  obtain ⟨hwk, hm, hv, hf, v, hx⟩ := u.endWindow_reports c z
  refine ⟨_, congrArg Host.Outcome.next he, ?_, hm.trans hmag, hv, ?_, hwk.mem.trans hk.mem, hwk.clk.trans hk.clk⟩
  · rw [hx, hu, State.amp1_putAmp1_self]
  · rw [hf, hmag, hflags]

theorem impedanceWindowEnd_of_no_pilot (hp : s.hasPilot c = false) : ∃ t : State, exec (.impedanceWindowEnd c) s = .next t ∧
    (t.amp1 c).win = none ∧ t.fld (F.SNS_CH_ZFLAGS_now c) = 0 ∧ t.flag (F.SNS_CH_ZPH_valid c) = false ∧ t.mem = s.mem ∧ t.clk = s.clk := by
  obtain ⟨u, hu⟩ : ∃ u, u = ((s.putAmp1 c { s.amp1 c with chk := none, win := none }).setFld (F.SNS_CH_ZFLAGS_now c) 0).setFlag
    (F.SNS_CH_ZPH_valid c) false := ⟨_, rfl⟩
  have hn : s.noPilot c = u := (if_neg (by simp [hp])).trans hu.symm
  have hw : (u.amp1 c).win = none := by
    rw [hu, State.amp1_setFlag, State.amp1_setFld, State.amp1_putAmp1_self]
  have he : s.zWindowEnd c = u := by
    unfold State.zWindowEnd
    rw [hn]
    simp only [hw]
  refine ⟨u, congrArg Host.Outcome.next he, hw, ?_, ?_, ?_, ?_⟩
  · rw [hu, State.fld_setFlag, State.fld_setFld_of_apart _ _ _ _ (by simp) (.inl (by simp [R.SNS_CH_ZPH, R.SNS_CH_ZFLAGS])),
      State.fld_setFld_self _ _ _ (by simp)]
    exact Nat.zero_mod _
  · rw [hu]
    exact State.flag_setFlag_self _ _ _ (by simp) rfl
  · rw [hu]; rfl
  · rw [hu]; rfl

/-! ## The power limit (R273) -/

theorem powerSubblockEnd_joins (he : s.appFlag (F.SNS_CH_PLIM_en c) = true) (hn : s.subTicks c ≤ (s.amp1 c).subT) :
    ∃ t : State, exec (.powerSubblockEnd c) s = .next t ∧ (t.amp1 c).sub = 0 ∧ (t.amp1 c).subT = 0 ∧ (t.amp1 c).gt ≤ 0 ∧
      (t.amp1 c).sums = ((s.amp1 c).sums ++ [(s.amp1 c).sub]).drop ((s.amp1 c).sums.length + 1 - 64) ∧
      s.KeepsRegs t [R.SNS_CH_PNOW c, R.MOD_CH_STATUS c, R.MOD_STATUS] ∧ t.mem = s.mem ∧ t.outbox = s.outbox := by
  obtain ⟨g, p, hg, hs⟩ : ∃ (g : Int) (p : Nat), g ≤ 0 ∧ s.subEnd c = (s.putAmp1 c { s.amp1 c with
      sums := ((s.amp1 c).sums ++ [(s.amp1 c).sub]).drop ((s.amp1 c).sums.length + 1 - 64), sub := 0, subT := 0, gt := g }).setFld
        (F.SNS_CH_PNOW_mean c) p := by
    unfold State.subEnd
    extract_lets x n sums mean gt now
    exact ⟨gt, _, Int.min_le_left _ _, if_neg (by simp [he, n, x, hn])⟩
  have hk (y : AmpCh) : State.OnlyDrive [R.SNS_CH_PNOW c, R.MOD_CH_STATUS c, R.MOD_STATUS] s
      ((s.putAmp1 c y).setFld (F.SNS_CH_PNOW_mean c) p) :=
    ((State.OnlyDrive.putAmp1 s c y).mono (by simp)).trans (.setFld (by simp) _ _)
  refine ⟨_, congrArg Host.Outcome.next hs, ?_, ?_, ?_, ?_, (hk _).keeps, rfl, rfl⟩
  · rw [State.amp1_setFld, State.amp1_putAmp1_self]
  · rw [State.amp1_setFld, State.amp1_putAmp1_self]
  · rw [State.amp1_setFld, State.amp1_putAmp1_self]
    exact hg
  · rw [State.amp1_setFld, State.amp1_putAmp1_self]

end Sys2Proof.Machine
end

section
/-!
PROOFS. The direct and the staged registers of the modulator and of the sense paths (R254, R258, R260, R277).
-/

namespace Sys2Proof.Machine

variable {s : State} {c : Fin 32} {w : Word}

/-! ## Direct registers (R254, R260) -/

theorem State.writeFsw_of_refused (h : s.flag F.MOD_STATUS_running = true ∨
    (bitsOf w 21 20 = 0 ∧ (bitsOf w 19 0 < 300000 ∨ 800000 < bitsOf w 19 0))) : s.writeFsw w = s.modErr R.MOD_FSW := by
  refine if_pos ?_
  rcases h with h | ⟨hm, hf⟩
  · simp [h]
  · simp [hm, hf]

theorem State.writeFsw_of_taken (hr : s.flag F.MOD_STATUS_running = false) (hm : bitsOf w 21 20 = 1) (hd : s.deadsOk 0 111538278 = true) :
    s.writeFsw w = (s.put R.MOD_FSW (w &&& 0x3FFFFF#32)).put R.MOD_PERIOD 111538278#32 := by
  unfold State.writeFsw
  simp [hm, hr, hd, pqMode, word]

theorem State.writeDither_of_running (hr : s.flag F.MOD_STATUS_running = true) : s.writeDither w = s.modErr R.MOD_DITHER :=
  if_pos (by simp [hr])

theorem State.writeDither_of_taken (hr : s.flag F.MOD_STATUS_running = false) (hm : s.fld F.MOD_FSW_mode = 0)
    (hd : s.deadsOk (min 51 (bitsOf w 5 0)) s.pq = true) : s.writeDither w = s.put R.MOD_DITHER (w &&& 0x3F#32) := by
  unfold State.writeDither
  simp [hr, hm, hd]

/-- A register of the modulator is named by its offset in the modulator's block (R254, R277). -/
theorem State.modErr_of_mod {o : Nat} (h : o < 0x510000) : s.modErr o =
    ((s.setFlag F.MOD_STATUS_cfg_err true).setFld F.MOD_CFG_ERR_offset (o - 0x500000)).setFlag F.MOD_CFG_ERR_block false := by
  unfold State.modErr
  simp [Nat.not_le.2 h]

theorem State.writeSnsClk_of_low (h : bitsOf w 5 0 < 25) : s.writeSnsClk w =
    (s.setFld F.SNS_CLK_CFG_clk_en (bitsOf w 11 8)).setFlag F.SNS_STATUS_cfg_err true := by
  unfold State.writeSnsClk
  simp [Nat.not_le.2 h]

/-- At 96 kHz a divider of 32 gives the ratio 200: it is taken while sensing does not run (R260). -/
theorem State.writeSnsClk_of_whole (hd : bitsOf w 5 0 = 32) (hf : s.fld F.TCK_CFG_fs_sel = 1) : s.writeSnsClk w =
    if s.flag F.SNS_CTRL_run then s.setFld F.SNS_CLK_CFG_clk_en (bitsOf w 11 8)
    else (s.setFld F.SNS_CLK_CFG_clk_en (bitsOf w 11 8)).setFld F.SNS_CLK_CFG_div 32 := by
  have hfs : (s.setFld F.SNS_CLK_CFG_clk_en (bitsOf w 11 8)).fs = 96000 := by
    rw [State.fs, State.fld_setFld_of_apart _ _ _ _ (by simp) (.inl (by simp)), hf]
    rfl
  have hrun : (s.setFld F.SNS_CLK_CFG_clk_en (bitsOf w 11 8)).flag F.SNS_CTRL_run = s.flag F.SNS_CTRL_run :=
    State.flag_setFld_of_apart _ _ _ _ (by simp) (.inl (by simp))
  unfold State.writeSnsClk
  simp [hd, hfs, hrun]

/-! ## The staged registers (R277) -/

/-- MOD_CH_CFG of each channel is among the staged registers that an apply checks (R277). -/
theorem State.mem_ampChecks_chCfg (s : State) (c : Fin 32) : ∃ e ∈ s.ampChecks, e.1 = R.MOD_CH_CFG c := by
  obtain ⟨b, l, hl⟩ : ∃ b l, s.modChecks c = (R.MOD_CH_CFG c, b) :: l := ⟨_, _, rfl⟩
  have hmem : (R.MOD_CH_CFG c, b) ∈ s.modChecks c := hl ▸ List.mem_cons_self
  exact ⟨_, List.mem_append_left _ (List.mem_cons_of_mem _ (List.mem_flatMap.2 ⟨c, List.mem_range.2 c.isLt, hmem⟩)), rfl⟩

/-- The registers that a list names, put into effect. -/
def State.putApps (s : State) (l : List (Nat × Bool)) : State := l.foldl (fun s e => s.putApp e.1 (s.reg e.1)) s

/-- Registers put into effect one after another: each stands as it is stored. -/
theorem State.app_putApps (l : List (Nat × Bool)) (s : State) {o : Nat} (h : (∃ e ∈ l, e.1 = o) ∨ s.app o = s.reg o) :
    (s.putApps l).app o = s.reg o := by
  induction l generalizing s with
  | nil => exact h.resolve_left (by simp)
  | cons e l ih =>
    have happ : (s.putApp e.1 (s.reg e.1)).app o = if e.1 = o then s.reg e.1 else s.app o := Tbl.get_set _ _ _ _ _
    refine ih _ ?_
    by_cases he : e.1 = o
    · exact .inr (by rw [happ, if_pos he, he]; rfl)
    · rcases h with ⟨x, hx, ho⟩ | h
      · rcases List.mem_cons.1 hx with rfl | hx
        · exact absurd ho he
        · exact .inl ⟨x, hx, ho⟩
      · exact .inr (by rw [happ, if_neg he, h]; rfl)

theorem State.putApps_keeps (s : State) (l : List (Nat × Bool)) : (s.putApps l).mem = s.mem ∧ (s.putApps l).clk = s.clk ∧
    (s.putApps l).amp = s.amp := by
  refine ⟨foldl_keeps State.mem ?_ l s, foldl_keeps State.clk ?_ l s, foldl_keeps State.amp ?_ l s⟩ <;> exact fun _ _ => rfl

/-- What an apply concerns beside the channels: the registers in effect, memory, the clock, and whether an apply is armed. -/
def State.applyView (s : State) : List (Nat × Word) × List Host.Cell × Clock × Option Nat := (s.applied, s.mem, s.clk, s.amp.armed)

theorem State.applyView_noPilot (s : State) (c : Nat) : (s.noPilot c).applyView = s.applyView := by
  unfold State.noPilot
  split_ifs <;> rfl

theorem State.applyView_startLimit (s : State) (was : Bool) (c : Nat) : (s.startLimit was c).applyView = s.applyView := by
  unfold State.startLimit
  split_ifs <;> rfl

/-- Every check holds: every staged register is put into effect (R277). -/
theorem State.applyAmp_of_sound (h : ∀ e ∈ s.ampChecks, e.2 = true) (c : Fin 32) :
    s.applyAmp.app (R.MOD_CH_CFG c) = s.reg (R.MOD_CH_CFG c) ∧ s.applyAmp.amp.armed = s.amp.armed ∧ s.applyAmp.mem = s.mem ∧
    s.applyAmp.clk = s.clk := by
  have hf : s.ampChecks.find? (fun e => !e.2) = none := List.find?_eq_none.2 fun e he => by simp [h e he]
  obtain ⟨u, hu⟩ : ∃ u, u = s.putApps s.ampChecks := ⟨_, rfl⟩
  have hview : s.applyAmp.applyView = u.applyView := by
    unfold State.applyAmp
    simp only [hf]
    rw [hu]
    exact foldl_keeps State.applyView (fun s c => (State.applyView_noPilot _ c).trans (s.applyView_startLimit _ c)) _ _
  have happ : u.app (R.MOD_CH_CFG c) = s.reg (R.MOD_CH_CFG c) := hu ▸ State.app_putApps _ s (.inl (s.mem_ampChecks_chCfg c))
  obtain ⟨hm, hc, ha⟩ : u.mem = s.mem ∧ u.clk = s.clk ∧ u.amp = s.amp := hu ▸ s.putApps_keeps s.ampChecks
  obtain ⟨vapp, vmem, vclk, varm⟩ : s.applyAmp.applied = u.applied ∧ s.applyAmp.mem = u.mem ∧ s.applyAmp.clk = u.clk ∧
    s.applyAmp.amp.armed = u.amp.armed := by simpa only [State.applyView, Prod.mk.injEq] using hview
  refine ⟨?_, varm.trans (congrArg Amp.armed ha), vmem.trans hm, vclk.trans hc⟩
  rw [State.app, vapp]
  exact happ

/-- The minimum pulse stands first by address: where it is out of range the apply is refused and names it (R277). -/
theorem State.applyAmp_of_bad_minpulse (h : 983 < s.fld F.MOD_MINPULSE_mp) : s.applyAmp = s.modErr R.MOD_MINPULSE := by
  have hf : s.ampChecks.find? (fun e => !e.2) = some (R.MOD_MINPULSE, s.fldIn F.MOD_MINPULSE_mp 0 983) :=
    List.find?_cons_of_pos (by simp [State.fldIn, h])
  unfold State.applyAmp
  simp only [hf]

/-- An armed apply whose tick is the present one is disarmed before its registers are checked. -/
def State.disarmed (s : State) : State := (s.setAmp fun a => { a with armed := none }).setFlag F.MOD_STATUS_apply_pend false

section
variable (ha : s.amp.armed = some s.tickNum)
include ha

theorem State.modStagedApply_of_due (hi : s.amp.armedIn ≠ s.tickNum) : s.modStagedApply = s.disarmed.applyAmp := by
  unfold State.modStagedApply
  simp only [ha]
  rw [if_neg (by simp [hi.symm])]
  exact congrArg State.applyAmp (if_neg (Nat.lt_irrefl s.tickNum))

/-- An apply armed in its own tick waits for the next boundary (R277). -/
theorem State.modStagedApply_of_own_tick (hi : s.amp.armedIn = s.tickNum) : s.modStagedApply = s := by
  unfold State.modStagedApply
  simp only [ha]
  exact if_pos (by simp [hi])

end

/-- A write of MOD_APPLY_LO with the word held for HI arms the apply (R36, R277). -/
theorem State.armMod_arms (s : State) (w : Word) : (s.armMod w).reg R.MOD_APPLY_LO = w ∧
    (s.armMod w).reg R.MOD_APPLY_HI = Tbl.get (fun _ => s.reg R.MOD_APPLY_HI) s.whold R.MOD_APPLY_HI ∧
    (s.armMod w).amp.armed = some ((s.armMod w).pair R.MOD_APPLY_LO R.MOD_APPLY_HI) ∧ (s.armMod w).amp.armedIn = s.tickNum ∧
    (s.armMod w).flag F.MOD_STATUS_apply_pend = true ∧ s.KeepsRegs (s.armMod w) [R.MOD_APPLY_LO, R.MOD_APPLY_HI, R.MOD_STATUS] := by
  unfold State.armMod
  extract_lets hi s1 s2 s3
  have hk : ∀ o, o ≠ R.MOD_STATUS → (s3.setFlag F.MOD_STATUS_apply_pend true).reg o = s2.reg o := fun o ho =>
    s3.reg_setFld_of_ne _ ho.symm
  have hlo : s2.reg R.MOD_APPLY_LO = w := (State.reg_put_of_ne _ _ (by simp)).trans (s1.reg_put_self _ _)
  have hhi : s2.reg R.MOD_APPLY_HI = hi := State.reg_put_self _ _ _
  refine ⟨(hk _ (by simp)).trans hlo, (hk _ (by simp)).trans hhi, ?_, rfl, State.flag_setFlag_self _ _ _ (by simp) rfl, fun o ho => ?_⟩
  · rw [State.pair, hk _ (by simp), hk _ (by simp)]
    rfl
  · obtain ⟨h1, h2, h3⟩ : o ≠ R.MOD_APPLY_LO ∧ o ≠ R.MOD_APPLY_HI ∧ o ≠ R.MOD_STATUS := by simpa using ho
    exact (hk o h3).trans ((State.reg_put_of_ne _ _ h2.symm).trans (State.reg_put_of_ne _ _ h1.symm))

/-- A read of MOD_IFIR_DATA moves its index on (R258). -/
theorem State.readIfir_advances (s : State) : s.readIfir.fld F.MOD_IFIR_IDX_idx = (s.fld F.MOD_IFIR_IDX_idx + 1) % 1024 ∧
    s.KeepsRegs s.readIfir [R.MOD_IFIR_IDX] ∧ s.readIfir.mem = s.mem := by
  refine ⟨?_, fun o ho => s.reg_setFld_of_ne _ fun h => ho (by simp [← h]), rfl⟩
  exact (s.fld_setFld_self F.MOD_IFIR_IDX_idx _ (by simp)).trans (Nat.mod_mod _ _)

/-! ## The statement -/

/-- Settles O44: a period, a window and a sub-block by their own lemmas above; each register by the branch its value takes. -/
theorem amplifierScheduleMeasurementsAndRegisters : Obligations.AmplifierScheduleMeasurementsAndRegisters := by
  intro s c j cap lvl b sclk bits z w
  refine ⟨fun hp hlast hstop hq hh he hl => pwmPeriodStart_places s c j cap lvl sclk b hp hlast hstop hq hh he hl,
    impedanceWindowEnd_reports, impedanceWindowEnd_of_no_pilot, ?learn, ?overload, ?noOverload, powerSubblockEnd_joins,
    fun hon => ⟨fun h => ?fswRefused, fun hr hm hd => ?fswTaken, fun hr => ?ditherRefused, fun hr hm hd => ?ditherTaken, fun h => ?divRefused,
      fun hr hd hf => ?divStands, fun hr hd hf => ?divTaken, ?arm, ?ifir⟩,
    fun ha hi => congrArg Host.Outcome.next (State.modStagedApply_of_own_tick ha hi),
    fun ha hi => ⟨fun hm => ?applyRefused, fun hall => ?applyTaken⟩⟩
  case learn =>
    intro hon
    have hk (y : AmpCh) : State.OnlyDrive [R.SNS_CH_ZCFG c, R.MOD_CH_STATUS c, R.MOD_STATUS] s
        ((s.putAmp1 c y).setFlag (F.SNS_CH_ZCFG_learn c) true) :=
      ((State.OnlyDrive.putAmp1 s c y).mono (by simp)).trans (.setFlag (by simp) _ _)
    refine ⟨_, congrArg Host.Outcome.next (State.ifOn_of_on hon _), ?_, State.flag_setFlag_self _ _ _ (by simp) rfl, (hk _).keeps, rfl⟩
    exact (State.amp1_setFlag _ _ _ _).trans (State.amp1_putAmp1_self _ _ _)
  case overload =>
    intro hs hr
    have hk (y : AmpCh) : State.OnlyDrive [R.SNS_STATUS, R.MOD_CH_STATUS c, R.MOD_STATUS] s ((s.putAmp1 c y).setFlag F.SNS_STATUS_ovl true) :=
      ((State.OnlyDrive.putAmp1 s c y).mono (by simp)).trans (.setFlag (by simp) _ _)
    refine ⟨_, congrArg Host.Outcome.next (if_pos (by simp [hs, hr])), State.flag_setFlag_self _ _ _ (by simp) rfl, fun hz => ?_,
      (hk _).keeps, rfl⟩
    rw [State.overload, State.amp1_setFlag, State.amp1_putAmp1_self, hz]
    rfl
  case noOverload =>
    intro h
    refine congrArg Host.Outcome.next (if_neg ?_)
    rcases h with h | h <;> simp [h]
  case fswRefused =>
    exact congrArg Host.Outcome.next ((State.ifOn_of_on hon _).trans ((State.writeFsw_of_refused h).trans (State.modErr_of_mod (by decide))))
  case fswTaken =>
    have hk : State.OnlyDrive [R.MOD_FSW, R.MOD_PERIOD] s ((s.put R.MOD_FSW (w &&& 0x3FFFFF#32)).put R.MOD_PERIOD 111538278#32) :=
      (State.OnlyDrive.put (by simp) s _).trans (.put (by simp) _ _)
    exact ⟨_, congrArg Host.Outcome.next ((State.ifOn_of_on hon _).trans (State.writeFsw_of_taken hr hm hd)),
      (State.reg_put_of_ne _ _ (by simp)).trans (State.reg_put_self _ _ _), State.reg_put_self _ _ _, hk.keeps, hk.mem⟩
  case ditherRefused =>
    exact congrArg Host.Outcome.next ((State.ifOn_of_on hon _).trans ((State.writeDither_of_running hr).trans (State.modErr_of_mod (by decide))))
  case ditherTaken =>
    exact congrArg Host.Outcome.next ((State.ifOn_of_on hon _).trans (State.writeDither_of_taken hr hm hd))
  case divRefused =>
    exact congrArg Host.Outcome.next ((State.ifOn_of_on hon _).trans (State.writeSnsClk_of_low h))
  case divStands =>
    exact congrArg Host.Outcome.next ((State.ifOn_of_on hon _).trans ((State.writeSnsClk_of_whole hd hf).trans (if_pos hr)))
  case divTaken =>
    have hk : State.OnlyDrive [R.SNS_CLK_CFG] s ((s.setFld F.SNS_CLK_CFG_clk_en (bitsOf w 11 8)).setFld F.SNS_CLK_CFG_div 32) :=
      (State.OnlyDrive.setFld (by simp) s _).trans (.setFld (by simp) _ _)
    exact ⟨_, congrArg Host.Outcome.next ((State.ifOn_of_on hon _).trans ((State.writeSnsClk_of_whole hd hf).trans (if_neg (by simp [hr])))),
      State.fld_setFld_self _ _ _ (by simp), hk.keeps, hk.mem⟩
  case arm =>
    obtain ⟨hlo, hhi, ha, hi, hp, hk⟩ := s.armMod_arms w
    exact ⟨_, congrArg Host.Outcome.next (State.ifOn_of_on hon _), hlo, hhi, ha, hi, hp, hk, rfl, rfl⟩
  case ifir =>
    exact ⟨_, congrArg Host.Outcome.next (if_pos hon), s.readIfir_advances⟩
  case applyRefused =>
    exact congrArg Host.Outcome.next ((State.modStagedApply_of_due ha hi).trans ((State.applyAmp_of_bad_minpulse hm).trans
      (State.modErr_of_mod (by decide))))
  case applyTaken =>
    obtain ⟨happ, harm, hmem, hclk⟩ := State.applyAmp_of_sound hall c
    refine ⟨_, congrArg Host.Outcome.next (State.modStagedApply_of_due ha hi), happ.trans ?_, harm, hmem, hclk⟩
    exact State.reg_setFld_of_ne _ _ (by simp [R.MOD_CH_CFG, R.MOD_STATUS]; omega)

end Sys2Proof.Machine
end

section
/-!
PROOFS. Network time (R304, R306), timers and PPS (R308, R309), the calendar and the service hours (R310, R311).
-/

namespace Sys2Proof.Machine

variable {s t u : State}

/-! ## The frame of timers and PPS -/

/-- From `s` to `t` change at most the registers listed, the clock block beside its registers, and what an event touches. -/
structure State.OnlyTimers (l : List Nat) (s t : State) : Prop where
  frame : ∃ r z x h o, t = { s with regs := r, sets := z, clkx := x, hif := h, outbox := o }
  keeps : s.KeepsRegs t l

namespace State.OnlyTimers

variable {l m : List Nat}

theorem trans (h : OnlyTimers l s t) (k : OnlyTimers l t u) : OnlyTimers l s u := by
  refine ⟨?_, fun o ho => (k.keeps o ho).trans (h.keeps o ho)⟩
  obtain ⟨_, _, _, _, _, rfl⟩ := h.frame
  obtain ⟨_, _, _, _, _, rfl⟩ := k.frame
  exact ⟨_, _, _, _, _, rfl⟩

theorem of_onlyRegs (h : State.OnlyRegs l s t) : OnlyTimers l s t := by
  refine ⟨?_, h.keeps⟩
  obtain ⟨_, _, rfl⟩ := h.frame
  exact ⟨_, _, _, _, _, rfl⟩

theorem of_sameButHost (h : s.SameButHost t) : OnlyTimers l s t := by
  obtain ⟨_, _, rfl⟩ := h
  exact ⟨⟨_, _, _, _, _, rfl⟩, fun _ _ => rfl⟩

theorem setTimer (s : State) (k : Nat) (x : Timer) : OnlyTimers l s (s.setTimer k x) := ⟨⟨_, _, _, _, _, rfl⟩, fun _ _ => rfl⟩

theorem postEvent (hl : R.HIF_EVT_DROP_CNT ∈ l) (s : State) (ty sub : Nat) (d : List Byte) : OnlyTimers l s (s.postEvent ty sub d) := by
  rcases s.postEvent_changes ty sub d with h | h
  · exact of_sameButHost h
  · exact (of_onlyRegs (.count hl s)).trans (of_sameButHost h)

theorem mem (h : OnlyTimers l s t) : t.mem = s.mem := by obtain ⟨_, _, _, _, _, rfl⟩ := h.frame; rfl
theorem clk (h : OnlyTimers l s t) : t.clk = s.clk := by obtain ⟨_, _, _, _, _, rfl⟩ := h.frame; rfl
theorem applied (h : OnlyTimers l s t) : t.applied = s.applied := by obtain ⟨_, _, _, _, _, rfl⟩ := h.frame; rfl

end State.OnlyTimers

/-! ## Network time (R303, R304, R306) -/

/-- Network time is a matter of the clock, the registers in effect, the time format and the tick's length. -/
theorem State.netNs_of_same (hc : t.clk = s.clk) (ha : t.applied = s.applied) (hf : t.reg R.TIM_CFG = s.reg R.TIM_CFG)
    (hu : t.reg R.TCK_CFG = s.reg R.TCK_CFG) : t.netNs = s.netNs := by
  have hfree : t.isFree = s.isFree := State.flag_of_reg hf
  have htick : t.tickU = s.tickU := State.tickU_of_reg_TCK_CFG hu
  simp only [State.netNs, State.timeU, State.gridU, State.tickLen, State.freeC, State.rate, State.offset, State.app, hfree, htick, hc, ha]

theorem State.OnlyTimers.netNs {l : List Nat} (h : State.OnlyTimers l s t) (hf : R.TIM_CFG ∉ l) (hu : R.TCK_CFG ∉ l) : t.netNs = s.netNs :=
  State.netNs_of_same h.clk h.applied (h.keeps _ hf) (h.keeps _ hu)

theorem State.tickU_pos (s : State) : 0 < s.tickU := by
  have hsel : s.fld F.TCK_CFG_fs_sel < 4 := bitsOf_lt _ _ _
  have hsamp : 0 < s.sampU := by
    unfold State.sampU sampleU
    generalize s.fld F.TCK_CFG_fs_sel = n at hsel
    interval_cases n <;> decide
  exact Nat.mul_pos (Nat.mul_pos (by decide) (Nat.two_pow_pos _)) hsamp

/-- The grid put at a time shows that time (R16). -/
theorem State.gridU_setGridU (s : State) (n : Nat) : (s.setGridU n).gridU = n := by
  have hu : (s.setGridU n).tickU = s.tickU := State.tickU_of_reg_TCK_CFG rfl
  have hlen : (s.setGridU n).tickLen = s.tickU := hu
  have hpos : n % s.tickU * s.tickU / s.tickU = n % s.tickU := Nat.mul_div_cancel _ s.tickU_pos
  calc (s.setGridU n).gridU
      = n / s.tickU * (s.setGridU n).tickU + n % s.tickU * (s.setGridU n).tickU / (s.setGridU n).tickLen := rfl
    _ = n / s.tickU * s.tickU + n % s.tickU := by rw [hlen, hu, hpos]
    _ = n := Nat.div_add_mod' _ _

/-- The time that TIM_SET sets, in ns (R306). -/
def State.setNs (s : State) : Nat := s.pair R.TIM_SET_S_LO R.TIM_SET_S_HI * 1000000000 + s.fld F.TIM_SET_NS_ns

theorem State.timSet_eq (s : State) (h : isTimeRef s.sel = false) :
    s.timSet = if s.ticking then s.addOffset (((s.setNs : Int) - s.netNs) * 1000) s.sel s.sel
      else s.moveTime (((s.setNs : Int) - s.netNs) * 1000) := if_neg (by simp [h])

/-- Outside FREE format the local clock moves with the grid alone (R306). -/
theorem State.moveTime_of_grid (h : s.isFree = false) (ps : Int) :
    s.moveTime ps = s.setGridU ((s.gridU : Int) + ps * 6 / 1000).toNat := by
  simp [State.moveTime, h]

theorem State.netNs_of_grid (h : s.isFree = false) : s.netNs = s.gridU / 6 := by
  simp [State.netNs, State.timeU, h]

/-- Moved by its distance to a time, network time is that time (R306). -/
theorem State.netNs_moveTime (h : s.isFree = false) (n : Nat) : (s.moveTime (((n : Int) - s.netNs) * 1000)).netNs = n := by
  have hset (m : Nat) : (s.setGridU m).netNs = m / 6 := by
    rw [State.netNs_of_grid (s := s.setGridU m) h, State.gridU_setGridU]
  rw [State.moveTime_of_grid h, hset, State.netNs_of_grid h]
  omega

/-! ## Rate and offset (R304) -/

/-- The registers of R304 that take effect together. -/
def State.adjusted (s : State) : State :=
  [R.TIM_OFS 0, R.TIM_OFS 1, R.TIM_OFS 2, R.TIM_RATE_LO, R.TIM_RATE_HI].foldl (fun s o => s.putApp o (s.reg o)) s

theorem State.adjCommit_of_manual (h : s.flag F.CLK_CTRL_manual = true) :
    s.adjCommit = if s.adjusted.isFree then s.adjusted.setGridU s.adjusted.timeU else s.adjusted := if_neg (by simp [h])

theorem State.adjCommit_of_auto (h : s.flag F.CLK_CTRL_manual = false) : s.adjCommit = s := if_pos (by simp [h])

theorem State.app_putApp (s : State) (o a : Nat) (w : Word) : (s.putApp o w).app a = if o = a then w else s.app a := Tbl.get_set _ _ _ _ _

/-- Each of them is in effect as it is written. -/
theorem State.app_adjusted (s : State) {o : Nat} (h : o ∈ [R.TIM_OFS 0, R.TIM_OFS 1, R.TIM_OFS 2, R.TIM_RATE_LO, R.TIM_RATE_HI]) :
    s.adjusted.app o = s.reg o := by
  have hreg (v : State) (a b : Nat) (w : Word) : (v.putApp a w).reg b = v.reg b := rfl
  simp only [List.mem_cons, List.not_mem_nil, or_false] at h
  rcases h with rfl | rfl | rfl | rfl | rfl <;>
    simp [State.adjusted, State.app_putApp, hreg, R.TIM_OFS, R.TIM_RATE_LO, R.TIM_RATE_HI]

/-- What a commit under manual control puts in effect, and what it keeps (R304). -/
theorem State.adjCommit_adjusts (h : s.flag F.CLK_CTRL_manual = true) : (∀ o, s.adjCommit.app o = s.adjusted.app o) ∧
    s.KeepsRegs s.adjCommit [] ∧ s.adjCommit.mem = s.mem := by
  have hset : s.adjCommit = s.adjusted ∨ s.adjCommit = s.adjusted.setGridU s.adjusted.timeU :=
    State.adjCommit_of_manual h ▸ (ite_eq_or_eq _ _ _).symm
  have hkeep : s.KeepsRegs s.adjusted [] := fun _ _ => rfl
  have hmem : s.adjusted.mem = s.mem := rfl
  rcases hset with e | e <;> rw [e]
  · exact ⟨fun _ => rfl, hkeep, hmem⟩
  · exact ⟨fun _ => rfl, hkeep, hmem⟩

/-! ## Timers (R308) -/

section
variable (s : State) (k : Nat) (x : Timer)

@[simp] theorem State.timer_setTimer_self : (s.setTimer k x).timer k = x := Tbl.get_set_self _ _ _ _

@[simp] theorem State.reg_setTimer (o : Nat) : (s.setTimer k x).reg o = s.reg o := rfl

@[simp] theorem State.clkx_postEvent (ty sub : Nat) (d : List Byte) : (s.postEvent ty sub d).clkx = s.clkx := by
  rcases s.postEvent_changes ty sub d with ⟨_, _, e⟩ | ⟨_, _, e⟩ <;> rw [e]
  rfl

@[simp] theorem State.timer_postEvent (ty sub : Nat) (d : List Byte) : (s.postEvent ty sub d).timer k = s.timer k := by
  rw [State.timer, State.clkx_postEvent, State.timer]

end

/-- A timer's flags as it fires. -/
def State.markFired (s : State) (k : Nat) (late : Bool) : State :=
  let s := s.setFlag (F.TIM_TMR_CTRL_fired k) true
  if late then s.setFlag (F.TIM_TMR_CTRL_late k) true else s

/-- The data of a timer's event (R359). -/
def timerData (target : Nat) (late : Bool) : List Byte :=
  leBytes 8 (target / 1000000000) ++ leBytes 4 (target % 1000000000) ++ leBytes 4 (bit late)

/-- A timer's control register is neither the time format's nor the tick's. -/
theorem timerCtrl_apart (k : Nat) : R.TIM_CFG ∉ [R.TIM_TMR_CTRL k] ∧ R.TCK_CFG ∉ [R.TIM_TMR_CTRL k] := by
  simp only [R.TIM_CFG, R.TCK_CFG, R.TIM_TMR_CTRL, List.mem_singleton]
  omega

theorem State.markFired_onlyRegs (s : State) (k : Nat) (late : Bool) : State.OnlyRegs [R.TIM_TMR_CTRL k] s (s.markFired k late) := by
  unfold State.markFired
  cases late
  · exact .setFlag (by simp) _ _
  · exact (State.OnlyRegs.setFlag (by simp) _ _).trans (.setFlag (by simp) _ _)

theorem State.flag_fired_markFired (s : State) (k : Nat) (late : Bool) : (s.markFired k late).flag (F.TIM_TMR_CTRL_fired k) = true := by
  have h : (s.setFlag (F.TIM_TMR_CTRL_fired k) true).flag (F.TIM_TMR_CTRL_fired k) = true := State.flag_setFlag_self _ _ _ (by simp) rfl
  cases late
  · exact h
  · exact (State.flag_setFlag_of_apart _ _ _ _ (by simp) (.inr (.inr (by simp)))).trans h

theorem State.flag_late_markFired (s : State) (k : Nat) : (s.markFired k true).flag (F.TIM_TMR_CTRL_late k) = true :=
  State.flag_setFlag_self _ _ _ (by simp) rfl

theorem State.flag_periodic_markFired (s : State) (k : Nat) (late : Bool) :
    (s.markFired k late).flag (F.TIM_TMR_CTRL_periodic k) = s.flag (F.TIM_TMR_CTRL_periodic k) := by
  have h : (s.setFlag (F.TIM_TMR_CTRL_fired k) true).flag (F.TIM_TMR_CTRL_periodic k) = s.flag (F.TIM_TMR_CTRL_periodic k) :=
    State.flag_setFlag_of_apart _ _ _ _ (by simp) (.inr (.inr (by simp)))
  cases late
  · exact h
  · exact (State.flag_setFlag_of_apart _ _ _ _ (by simp) (.inr (.inr (by simp)))).trans h

theorem State.netNs_markFired (s : State) (k : Nat) (late : Bool) : (s.markFired k late).netNs = s.netNs :=
  (State.OnlyTimers.of_onlyRegs (s.markFired_onlyRegs k late)).netNs (timerCtrl_apart k).1 (timerCtrl_apart k).2

/-- One that is not periodic fires once. -/
theorem State.fireTimer_of_single {k : Nat} (h : s.flag (F.TIM_TMR_CTRL_periodic k) = false) (late : Bool) :
    s.fireTimer k late = ((s.markFired k late).setTimer k { s.timer k with armed := false }).postEvent 6 k (timerData (s.timer k).target late) := by
  have hp := (s.flag_periodic_markFired k late).trans h
  rw [State.markFired] at hp
  simp only [State.fireTimer, hp]
  rfl

/-- A periodic one moves past the periods that network time has left behind, and counts them. -/
theorem State.fireTimer_of_periodic {k : Nat} (h : s.flag (F.TIM_TMR_CTRL_periodic k) = true) (hper : s.reg (R.TIM_TMR_PER k) ≠ 0)
    (late : Bool) :
    s.fireTimer k late =
      ((((s.markFired k late).countBy R.TIM_TMR_SKIP_CNT ((s.netNs - (s.timer k).target) / (s.reg (R.TIM_TMR_PER k)).toNat)).setTimer k
        { s.timer k with target := (s.timer k).target + (s.reg (R.TIM_TMR_PER k)).toNat *
          ((s.netNs - (s.timer k).target) / (s.reg (R.TIM_TMR_PER k)).toNat + 1) }).postEvent 6 k
        (timerData (s.timer k).target late)) := by
  have hp := (s.flag_periodic_markFired k late).trans h
  have hn := s.netNs_markFired k late
  have h0 : (s.reg (R.TIM_TMR_PER k)).toNat ≠ 0 := fun e => hper (BitVec.eq_of_toNat_eq e)
  rw [State.markFired] at hp hn
  simp only [State.fireTimer, hp, hn, h0, ne_eq, not_false_eq_true, decide_true, Bool.and_self, if_true]
  rfl

/-- The first of the targets x, x + p, x + 2p, … beyond n. -/
theorem nextTarget_beyond {x p n : Nat} (hp : 0 < p) (hx : x ≤ n) :
    n < x + p * ((n - x) / p + 1) ∧ x + p * ((n - x) / p + 1) ≤ n + p := by
  have hd := Nat.div_add_mod (n - x) p
  have hm := Nat.mod_lt (n - x) hp
  rw [Nat.mul_add, Nat.mul_one]
  omega

/-- A timer that fires once is then unarmed and shows it. -/
theorem State.fireTimer_single_fires {k : Nat} (h : s.flag (F.TIM_TMR_CTRL_periodic k) = false) (late : Bool) :
    ((s.fireTimer k late).timer k).armed = false ∧ (s.fireTimer k late).flag (F.TIM_TMR_CTRL_fired k) = true ∧
    (late = true → (s.fireTimer k late).flag (F.TIM_TMR_CTRL_late k) = true) ∧
    State.OnlyTimers [R.TIM_TMR_CTRL k, R.HIF_EVT_DROP_CNT] s (s.fireTimer k late) := by
  have hctrl (v : State) (d : List Byte) : (v.postEvent 6 k d).reg (R.TIM_TMR_CTRL k) = v.reg (R.TIM_TMR_CTRL k) :=
    v.reg_postEvent _ _ _ _ (by simp only [R.HIF_EVT_DROP_CNT, R.TIM_TMR_CTRL]; omega)
  rw [State.fireTimer_of_single h]
  refine ⟨by simp, ?_, fun hl => ?_, ?_⟩
  · exact (State.flag_of_reg (hctrl _ _)).trans (s.flag_fired_markFired k late)
  · subst hl
    exact (State.flag_of_reg (hctrl _ _)).trans (s.flag_late_markFired k)
  · exact ((State.OnlyTimers.of_onlyRegs ((s.markFired_onlyRegs k late).mono (by simp))).trans (.setTimer _ _ _)).trans
      (.postEvent (by simp) _ _ _ _)

/-- A periodic timer stays armed, for the first of its targets that network time has not reached; those before it are counted. -/
theorem State.fireTimer_periodic_moves {k : Nat} (h : s.flag (F.TIM_TMR_CTRL_periodic k) = true) (hper : s.reg (R.TIM_TMR_PER k) ≠ 0)
    (hk : R.TIM_TMR_SKIP_CNT ≠ R.TIM_TMR_CTRL k) (late : Bool) :
    (s.fireTimer k late).timer k = { s.timer k with target := (s.timer k).target + (s.reg (R.TIM_TMR_PER k)).toNat *
      ((s.netNs - (s.timer k).target) / (s.reg (R.TIM_TMR_PER k)).toNat + 1) } ∧
    (s.fireTimer k late).reg R.TIM_TMR_SKIP_CNT = word (min ((s.reg R.TIM_TMR_SKIP_CNT).toNat +
      (s.netNs - (s.timer k).target) / (s.reg (R.TIM_TMR_PER k)).toNat) 0xFFFFFFFF) ∧
    (s.fireTimer k late).mem = s.mem := by
  have hm := s.markFired_onlyRegs k late
  rw [State.fireTimer_of_periodic h hper]
  refine ⟨by simp, ?_, ?_⟩
  · rw [State.reg_postEvent _ _ _ _ _ (by simp), ← hm.keeps R.TIM_TMR_SKIP_CNT (by simpa using hk)]
    exact State.reg_put_self _ _ _
  · rw [State.postEvent_mem]
    exact hm.mem

/-! ## A write of TIM_TMRk_CTRL (R308) -/

/-- The control register of a timer as a write leaves it, before its target is looked at. -/
def State.timerCtrl (s : State) (k : Nat) (w : Word) : State :=
  let s := (s.setFld (F.TIM_TMR_CTRL_en k) (bitsOf w 0 0)).setFld (F.TIM_TMR_CTRL_periodic k) (bitsOf w 1 1)
  let s := if bitsOf w 8 8 = 1 then s.clearFlag (F.TIM_TMR_CTRL_fired k) else s
  if bitsOf w 9 9 = 1 then s.clearFlag (F.TIM_TMR_CTRL_late k) else s

/-- The target that a timer's registers give, in ns. -/
def State.timerTarget (s : State) (k : Nat) : Nat :=
  s.pair (R.TIM_TMR_S_LO k) (R.TIM_TMR_S_HI k) * 1000000000 + s.fld (F.TIM_TMR_NS_ns k)

theorem State.clearFlag_cases (s : State) (f : Fld) : s.clearFlag f = s ∨ s.clearFlag f = s.setFlag f false := ite_eq_or_eq _ _ _

theorem State.OnlyRegs.clearFlag {l : List Nat} {f : Fld} (hf : f.reg ∈ l) (s : State) : State.OnlyRegs l s (s.clearFlag f) := by
  rcases s.clearFlag_cases f with h | h <;> rw [h]
  · exact .refl s
  · exact .setFlag hf s false

theorem State.flag_clearFlag_of_apart (s : State) (f g : Fld) (hg : g.hi < 32) (h : f.reg ≠ g.reg ∨ f.hi < g.lo ∨ g.hi < f.lo) :
    (s.clearFlag f).flag g = s.flag g := by
  rcases s.clearFlag_cases f with e | e <;> rw [e]
  exact s.flag_setFlag_of_apart f g false hg h

theorem State.timerCtrl_onlyRegs (s : State) (k : Nat) (w : Word) : State.OnlyRegs [R.TIM_TMR_CTRL k] s (s.timerCtrl k w) := by
  unfold State.timerCtrl
  extract_lets s1 s2
  have h1 : State.OnlyRegs [R.TIM_TMR_CTRL k] s s1 := (State.OnlyRegs.setFld (by simp) _ _).trans (.setFld (by simp) _ _)
  have h2 : State.OnlyRegs [R.TIM_TMR_CTRL k] s s2 := by
    simp only [s2]
    split_ifs
    · exact h1.trans (.clearFlag (by simp) _)
    · exact h1
  split_ifs
  · exact h2.trans (.clearFlag (by simp) _)
  · exact h2

theorem State.flag_periodic_timerCtrl (s : State) (k : Nat) {w : Word} (h : bitsOf w 1 1 = 0) :
    (s.timerCtrl k w).flag (F.TIM_TMR_CTRL_periodic k) = false := by
  have hset (v : State) : (v.setFld (F.TIM_TMR_CTRL_periodic k) (bitsOf w 1 1)).flag (F.TIM_TMR_CTRL_periodic k) = false := by
    rw [State.flag, State.fld_setFld_self _ _ _ (by simp), h]
    rfl
  unfold State.timerCtrl
  dsimp only
  split_ifs
  · rw [State.flag_clearFlag_of_apart _ _ _ (by simp) (by simp), State.flag_clearFlag_of_apart _ _ _ (by simp) (by simp), hset]
  · rw [State.flag_clearFlag_of_apart _ _ _ (by simp) (by simp), hset]
  · rw [State.flag_clearFlag_of_apart _ _ _ (by simp) (by simp), hset]
  · exact hset _

/-- The timer as it is armed. -/
def State.armedTimer (s : State) (k : Nat) (w : Word) : State :=
  (s.timerCtrl k w).setTimer k { target := s.timerTarget k, armed := true }

theorem State.flag_periodic_armedTimer (s : State) (k : Nat) {w : Word} (h : bitsOf w 1 1 = 0) :
    (s.armedTimer k w).flag (F.TIM_TMR_CTRL_periodic k) = false :=
  (State.flag_of_reg (State.reg_setTimer _ _ _ _)).trans (s.flag_periodic_timerCtrl k h)

theorem State.armTimer_of_off {k : Nat} {w : Word} (h : bitsOf w 0 0 = 0) :
    s.armTimer k w = (s.timerCtrl k w).setTimer k { (s.timerCtrl k w).timer k with armed := false } := if_pos h

theorem State.armedTimer_onlyTimers (s : State) (k : Nat) (w : Word) : State.OnlyTimers [R.TIM_TMR_CTRL k] s (s.armedTimer k w) :=
  (State.OnlyTimers.of_onlyRegs (s.timerCtrl_onlyRegs k w)).trans (.setTimer _ _ _)

theorem State.armedTimer_outbox (s : State) (k : Nat) (w : Word) : (s.armedTimer k w).outbox = s.outbox :=
  (State.setClkx_outbox _ _).trans (s.timerCtrl_onlyRegs k w).outbox

theorem State.timerTarget_timerCtrl (s : State) (k : Nat) (w : Word) : (s.timerCtrl k w).timerTarget k = s.timerTarget k := by
  have hk := (s.timerCtrl_onlyRegs k w).keeps
  simp only [State.timerTarget, State.pair, hk (R.TIM_TMR_S_LO k) (by simp), hk (R.TIM_TMR_S_HI k) (by simp),
    State.fld_of_reg (f := F.TIM_TMR_NS_ns k) (hk _ (by simp))]

/-- An enabled timer is armed for a target to come; one that network time has reached fires at once. -/
theorem State.armTimer_of_on {k : Nat} {w : Word} (h : bitsOf w 0 0 = 1) :
    s.armTimer k w = if s.netNs < s.timerTarget k then s.armedTimer k w
      else (s.armedTimer k w).fireTimer k (s.timerTarget k < s.netNs) := by
  have hn : (s.armedTimer k w).netNs = s.netNs := (s.armedTimer_onlyTimers k w).netNs (timerCtrl_apart k).1 (timerCtrl_apart k).2
  have ha : s.armTimer k w =
      let t := (s.timerCtrl k w).timerTarget k
      let v := (s.timerCtrl k w).setTimer k { target := t, armed := true }
      if v.netNs < t then v else v.fireTimer k (t < v.netNs) := if_neg (by omega)
  simp only [State.timerTarget_timerCtrl] at ha
  rw [ha]
  simp only [State.armedTimer] at hn ⊢
  rw [hn]

/-! ## PPS (R309) -/

/-- An edge of PPS_IN is stamped with network time. -/
theorem State.ppsIn_stamps (s : State) : s.ppsIn.pair R.TIM_PPSIN_S_LO R.TIM_PPSIN_S_HI = s.netSec ∧
    s.ppsIn.reg R.TIM_PPSIN_NS = word s.netSubNs ∧
    State.OnlyTimers [R.TIM_PPSIN_S_LO, R.TIM_PPSIN_S_HI, R.TIM_PPSIN_NS, R.HIF_EVT_DROP_CNT] s s.ppsIn := by
  have hp : State.OnlyRegs [R.TIM_PPSIN_S_LO, R.TIM_PPSIN_S_HI] s (s.putPair R.TIM_PPSIN_S_LO R.TIM_PPSIN_S_HI s.netSec) :=
    .putPair (by simp) (by simp) s s.netSec
  have hn : (s.putPair R.TIM_PPSIN_S_LO R.TIM_PPSIN_S_HI s.netSec).netNs = s.netNs :=
    (State.OnlyTimers.of_onlyRegs hp).netNs (by simp) (by simp)
  have hsub : (s.putPair R.TIM_PPSIN_S_LO R.TIM_PPSIN_S_HI s.netSec).netSubNs = s.netSubNs := by rw [State.netSubNs, hn, State.netSubNs]
  have hsec : s.netSec < 2 ^ 48 := Nat.mod_lt _ (by decide)
  have hx : s.ppsIn = ((s.putPair R.TIM_PPSIN_S_LO R.TIM_PPSIN_S_HI s.netSec).put R.TIM_PPSIN_NS
      (word (s.putPair R.TIM_PPSIN_S_LO R.TIM_PPSIN_S_HI s.netSec).netSubNs)).postEvent 7 0 _ := rfl
  rw [hx, hsub]
  refine ⟨?_, ?_, ?_⟩
  · rw [State.pair, State.reg_postEvent _ _ _ _ _ (by simp), State.reg_postEvent _ _ _ _ _ (by simp), State.reg_put_of_ne _ _ (by simp),
      State.reg_put_of_ne _ _ (by simp)]
    exact (State.pair_putPair s (by simp) s.netSec).trans (Nat.mod_eq_of_lt (by omega))
  · rw [State.reg_postEvent _ _ _ _ _ (by simp)]
    exact State.reg_put_self _ _ _
  · exact (State.OnlyTimers.of_onlyRegs ((hp.mono (by simp)).trans (.put (by simp) _ _))).trans (.postEvent (by simp) _ _ _ _)

/-! ## The service hours (R311) -/

/-- With the key one write of the service hours is taken (R311). -/
theorem State.svcHours_of_key {w : Word} (h : bitsOf w 31 16 = 0x5E7A) (h0 : w.getLsbD 0 = false) (hours : Word) :
    (s.rtcCtrl w).svcHours hours =
      ((s.setClk fun c => { c with svcKey := true }).put R.RTC_SVC_HOURS hours).setClk fun c => { c with svcKey := false } := by
  have hw : s.rtcCtrl w = s.setClk fun c => { c with svcKey := true } := by
    simp only [State.rtcCtrl, h, h0, Bool.false_eq_true, if_false, if_true]
  rw [hw]
  rfl

theorem State.svcHours_of_no_key {w : Word} (h : bitsOf w 31 16 ≠ 0x5E7A) (h0 : w.getLsbD 0 = false) (hk : s.clk.svcKey = false)
    (hours : Word) : (s.rtcCtrl w).svcHours hours = s := by
  simp only [State.rtcCtrl, State.svcHours, h, h0, hk, Bool.false_eq_true, if_false]

/-! ## The statement -/

/-- Settles O47: each clause is the lemma of its command. -/
theorem timeIsSetTimersFireAndTheCalendarCounts : Obligations.TimeIsSetTimersFireAndTheCalendarCounts := by
  unfold Obligations.TimeIsSetTimersFireAndTheCalendarCounts
  intro s k w h
  have hskip : R.TIM_TMR_SKIP_CNT ≠ R.TIM_TMR_CTRL k := by simp only [R.TIM_TMR_SKIP_CNT, R.TIM_TMR_CTRL]; omega
  refine ⟨fun hon => ⟨⟨fun hr => ?refused, fun hr ht => ?waits, fun hr ht hf => ?atOnce⟩, fun hm => ?notManual, fun hm => ?manual,
      fun he => ?disarms, fun he hn => ?arms, fun he hp hn => ?firesLate⟩,
    fun ha hn => ⟨fun hp => ?fires, fun hp hper => ?moves⟩, fun he hv hw => ?ppsOut, fun hno => ?noPps, ?ppsIn, rfl,
    fun hkey h0 => ?keyed, fun hkey h0 hk => ?unkeyed, fun hu => ?hour, fun hu => ?noHour⟩
  case refused => exact congrArg Host.Outcome.next ((State.ifOn_of_on hon _).trans (if_pos hr))
  case waits =>
    exact ⟨_, congrArg Host.Outcome.next ((State.ifOn_of_on hon _).trans ((State.timSet_eq s hr).trans (if_pos ht))), rfl, fun _ _ => rfl, rfl,
      rfl⟩
  case atOnce =>
    refine ⟨_, congrArg Host.Outcome.next ((State.ifOn_of_on hon _).trans ((State.timSet_eq s hr).trans (if_neg (by simp [ht])))),
      State.netNs_moveTime hf _, ?_⟩
    rw [State.moveTime_of_grid hf]
    exact ⟨fun _ _ => rfl, rfl, rfl⟩
  case notManual => exact congrArg Host.Outcome.next ((State.ifOn_of_on hon _).trans (State.adjCommit_of_auto hm))
  case manual =>
    obtain ⟨happ, hkeep, hmem⟩ := State.adjCommit_adjusts hm
    have hin {o : Nat} (ho : o ∈ [R.TIM_OFS 0, R.TIM_OFS 1, R.TIM_OFS 2, R.TIM_RATE_LO, R.TIM_RATE_HI]) : s.adjCommit.app o = s.reg o :=
      (happ o).trans (s.app_adjusted ho)
    exact ⟨_, congrArg Host.Outcome.next (State.ifOn_of_on hon _), hin (by simp), hin (by simp), hin (by simp), hin (by simp), hin (by simp),
      hkeep, hmem⟩
  case disarms =>
    have hc := s.timerCtrl_onlyRegs k w
    exact ⟨_, congrArg Host.Outcome.next ((State.ifOn_of_on hon _).trans (State.armTimer_of_off he)), by simp, hc.keeps, hc.mem, hc.outbox⟩
  case arms =>
    rw [← State.timerTarget] at hn ⊢
    have hx := s.armedTimer_onlyTimers k w
    exact ⟨_, congrArg Host.Outcome.next ((State.ifOn_of_on hon _).trans ((State.armTimer_of_on he).trans (if_pos hn))),
      State.timer_setTimer_self _ _ _, hx.keeps, hx.mem, s.armedTimer_outbox k w⟩
  case firesLate =>
    rw [← State.timerTarget] at hn
    obtain ⟨harm, hfired, hlate, hx⟩ := State.fireTimer_single_fires (s.flag_periodic_armedTimer k hp) true
    refine ⟨_, congrArg Host.Outcome.next ((State.ifOn_of_on hon _).trans ((State.armTimer_of_on he).trans (if_neg (Nat.lt_asymm hn)))), ?_⟩
    rw [decide_eq_true hn]
    exact ⟨harm, hfired, hlate rfl, hx.mem.trans (s.armedTimer_onlyTimers k w).mem⟩
  case fires =>
    obtain ⟨harm, hfired, -, hx⟩ := State.fireTimer_single_fires hp (s.flag (F.TIM_TMR_CTRL_periodic k) && (s.timer k).target + 1 < s.netNs)
    exact ⟨_, congrArg Host.Outcome.next (if_pos (by simp [ha, hn])), harm, hfired, hx.keeps, hx.mem⟩
  case moves =>
    obtain ⟨hmoved, hcnt, hmem⟩ := State.fireTimer_periodic_moves hp hper hskip
      (s.flag (F.TIM_TMR_CTRL_periodic k) && (s.timer k).target + 1 < s.netNs)
    have hpos : 0 < (s.reg (R.TIM_TMR_PER k)).toNat := Nat.pos_of_ne_zero fun e => hper (BitVec.eq_of_toNat_eq e)
    obtain ⟨hlo, hhi⟩ := nextTarget_beyond hpos hn
    refine ⟨_, congrArg Host.Outcome.next (if_pos (by simp [ha, hn])), ?_⟩
    rw [hmoved]
    exact ⟨ha, hlo, hhi, by simp, hcnt, hmem⟩
  case ppsOut => exact congrArg Host.Outcome.next (if_pos (by simp [he, hv, hw]))
  case noPps =>
    refine congrArg Host.Outcome.next (if_neg ?_)
    rcases hno with h | h | h <;> simp [h]
  case ppsIn =>
    obtain ⟨hsec, hns, hx⟩ := s.ppsIn_stamps
    exact ⟨_, rfl, hsec, hns, hx.keeps, hx.mem, hx.clk⟩
  case keyed =>
    have hput : State.OnlyRegs [R.RTC_SVC_HOURS] s (s.put R.RTC_SVC_HOURS h) := .put (by simp) s h
    exact ⟨_, congrArg Host.Outcome.next (State.svcHours_of_key hkey h0 h), State.reg_put_self _ _ _, rfl, hput.keeps, rfl⟩
  case unkeyed => exact congrArg Host.Outcome.next (State.svcHours_of_no_key hkey h0 hk h)
  case hour => exact congrArg Host.Outcome.next (if_pos hu)
  case noHour => exact congrArg Host.Outcome.next (if_neg (Nat.not_le.2 hu))

end Sys2Proof.Machine
end

section
/-!
PROOFS. References and the DPLL (R284, R285, R288, R290): the refuted obligations about them.
-/

namespace Sys2Proof.Machine

variable {s : State} {n : Nat}

/-! ## What a reference's update keeps (R283 to R285) -/

@[simp] theorem State.reg_setClkx (s : State) (f : ClkX → ClkX) (o : Nat) : (s.setClkx f).reg o = s.reg o := rfl

@[simp] theorem State.refStatus_clkx (s : State) (n : Nat) : (s.refStatus n).clkx = s.clkx := rfl

/-- CLK_REF_STATUSn alone shows a reference (R283). -/
theorem State.reg_refStatus_of_ne (s : State) {n o : Nat} (h : R.CLK_REF_STATUS n ≠ o) : (s.refStatus n).reg o = s.reg o := by
  simp only [State.refStatus]
  rw [State.reg_setFld_of_ne _ _ h, State.reg_setFld_of_ne _ _ h, State.reg_setFld_of_ne _ _ h]

/-- A disabled reference shows the state 0 (R283). -/
theorem State.fld_state_refStatus_of_off (h : s.prio n = 0) : (s.refStatus n).fld (F.CLK_REF_STATUS_state n) = 0 := by
  simp only [State.refStatus, h, if_true]
  rw [State.fld_setFld_of_apart _ _ _ _ (by simp) (by simp), State.fld_setFld_of_apart _ _ _ _ (by simp) (by simp),
    State.fld_setFld_self _ _ _ (by simp)]
  exact Nat.zero_mod _

@[simp] theorem State.ref_setRef_self (s : State) (n : Nat) (r : Ref) : (s.setRef n r).ref n = r := Tbl.get_set_self _ _ _ _

theorem State.ref_setRef_of_ne (s : State) {n m : Nat} (r : Ref) (h : n ≠ m) : (s.setRef n r).ref m = s.ref m := Tbl.get_set_of_ne _ _ _ h

theorem State.reg_setRef_of_ne (s : State) {n o : Nat} (r : Ref) (h : R.CLK_REF_STATUS n ≠ o) : (s.setRef n r).reg o = s.reg o :=
  State.reg_refStatus_of_ne _ h

/-- Disputes dropped leave the references as they are. -/
theorem State.ref_pruneDisputes (s : State) (n : Nat) : s.pruneDisputes.ref n = s.ref n := by
  have hshow (v : State) (d : Dispute) : ((v.refStatus d.a).refStatus d.b).clkx = v.clkx := by simp
  unfold State.pruneDisputes State.ref
  dsimp only
  rw [foldl_keeps State.clkx hshow]
  rfl

/-- A reference that breaks (R284, R285). -/
def State.broken (s : State) (n : Nat) (act : Bool) : State := s.setRef n { s.ref n with q := false, wait := none, act := act }

/-- A qualified reference disqualified, before its event and the choice that follows (R284, R285). -/
def State.disqualified (s : State) (n : Nat) (act : Bool) : State :=
  ((s.broken n act).pruneDisputes.count R.CLK_DISQ_CNT).setFlag F.CLK_STATUS_disq_evt true

theorem State.refBreak_of_qualified (hq : (s.ref n).q = true) (hp : s.prio n ≠ 0) (act : Bool) :
    ∃ d, s.refBreak n act = ((s.disqualified n act).postEvent 5 2 d).reselect := by
  have hprio (r : Ref) : (s.setRef n r).prio n = s.prio n :=
    State.fld_of_reg (s.reg_setRef_of_ne r (by simp only [R.CLK_REF_STATUS, R.CLK_REF_CFG]; omega))
  refine ⟨_, if_neg ?_⟩
  simp [hq, hprio, hp]

theorem State.bestOf_eq_none {p : Nat → Bool} (h : ∀ m < 7, p m = false) : s.bestOf p = none := by
  simp [State.bestOf, List.range_succ, h]

/-- With no reference qualified and none selected there is nothing to choose (R287). -/
theorem State.reselect_of_none (h : ∀ m < 7, (s.ref m).q = false) (hs : s.sel = 7) : s.reselect = s := by
  have hq : ∀ m < 7, s.qualified m = false := fun m hm => by simp [State.qualified, h m hm]
  have hbest : s.bestRef = none := by
    rw [State.bestRef, State.bestOf_eq_none fun m hm => by simp [State.mayChoose, hq m hm]]
    exact State.bestOf_eq_none hq
  simp only [State.reselect, hbest, hs, if_true]

/-- The only qualified reference disqualified leaves none, and where none was selected nothing follows its event (R287). -/
theorem State.reselect_disqualified {act : Bool} {d : List Byte} (hs : (s.disqualified n act).sel = 7)
    (h : ∀ m < 7, n ≠ m → (s.ref m).q = false) :
    ((s.disqualified n act).postEvent 5 2 d).reselect = (s.disqualified n act).postEvent 5 2 d := by
  refine State.reselect_of_none (fun m hm => ?_) ((State.fld_of_reg (State.reg_postEvent _ _ _ _ _ (by decide))).trans hs)
  have href : ((s.disqualified n act).postEvent 5 2 d).ref m = (s.broken n act).ref m := by
    rw [State.ref, State.clkx_postEvent]
    exact (s.broken n act).ref_pruneDisputes m
  rw [href, State.broken]
  by_cases hm' : n = m
  · rw [← hm', State.ref_setRef_self]
  · rw [State.ref_setRef_of_ne _ _ hm', h m hm hm']

/-! ## One dispute that is dropped (R288) -/

section
variable {d : Dispute} (hd : s.clkx.disputes = [d]) (hn : n ≠ d.a) (hq : (s.ref d.a).q = false)
include hd hn hq

theorem State.pruneDisputes_broken (act : Bool) :
    ∃ f, (s.broken n act).pruneDisputes = (((s.broken n act).setClkx f).refStatus d.a).refStatus d.b := by
  have hd' : (s.broken n act).clkx.disputes = [d] := hd
  have hq' : ((s.broken n act).ref d.a).q = false := (congrArg Ref.q (s.ref_setRef_of_ne _ hn)).trans hq
  refine ⟨fun x => { x with disputes := x.disputes.filter fun e => !decide (e = d) }, ?_⟩
  simp [State.pruneDisputes, hd', hq']

/-- Registers other than those of the references concerned stay. -/
theorem State.reg_pruneDisputes_broken (act : Bool) {o : Nat} (h : R.CLK_REF_STATUS n ≠ o) (ha : R.CLK_REF_STATUS d.a ≠ o)
    (hb : R.CLK_REF_STATUS d.b ≠ o) : (s.broken n act).pruneDisputes.reg o = s.reg o := by
  obtain ⟨f, hf⟩ := State.pruneDisputes_broken hd hn hq act
  rw [hf, State.reg_refStatus_of_ne _ hb, State.reg_refStatus_of_ne _ ha, State.reg_setClkx, State.broken, State.reg_setRef_of_ne _ _ h]

theorem State.sel_disqualified (act : Bool) (h : R.CLK_REF_STATUS n ≠ R.CLK_STATUS) (ha : R.CLK_REF_STATUS d.a ≠ R.CLK_STATUS)
    (hb : R.CLK_REF_STATUS d.b ≠ R.CLK_STATUS) : (s.disqualified n act).sel = s.sel := by
  have hreg : ((s.broken n act).pruneDisputes.count R.CLK_DISQ_CNT).reg R.CLK_STATUS = s.reg R.CLK_STATUS :=
    (State.reg_put_of_ne _ _ (by decide)).trans (State.reg_pruneDisputes_broken hd hn hq act h ha hb)
  rw [State.sel, State.disqualified, State.fld_setFlag, State.fld_setFld_of_apart _ _ _ _ (by simp) (by simp), State.fld_of_reg hreg, State.sel]

/-- The second of the pair, disabled, shows the state 0. -/
theorem State.fld_state_pruneDisputes_broken (act : Bool) (hp : s.prio d.b = 0) (h : R.CLK_REF_STATUS n ≠ R.CLK_REF_CFG d.b)
    (ha : R.CLK_REF_STATUS d.a ≠ R.CLK_REF_CFG d.b) :
    (s.broken n act).pruneDisputes.fld (F.CLK_REF_STATUS_state d.b) = 0 := by
  obtain ⟨f, hf⟩ := State.pruneDisputes_broken hd hn hq act
  have hcfg : (((s.broken n act).setClkx f).refStatus d.a).reg (R.CLK_REF_CFG d.b) = s.reg (R.CLK_REF_CFG d.b) := by
    rw [State.reg_refStatus_of_ne _ ha, State.reg_setClkx, State.broken, State.reg_setRef_of_ne _ _ h]
  rw [hf]
  exact State.fld_state_refStatus_of_off ((State.fld_of_reg hcfg).trans hp)

end

/-- A disqualification is counted on the count that the dropped disputes leave. -/
theorem State.reg_disqCnt_disqualified (s : State) (n : Nat) (act : Bool) :
    (s.disqualified n act).reg R.CLK_DISQ_CNT = counted ((s.broken n act).pruneDisputes.reg R.CLK_DISQ_CNT) :=
  (State.reg_setFld_of_ne _ _ (by decide)).trans (State.reg_put_self _ _ _)

/-! ## A state that the obligation about references is wrong about -/

/-- A number beyond the 7 references, for which R.CLK_REF_STATUS gives the offset of R.CLK_DISQ_CNT. -/
abbrev countRef : Nat := 37

/-- A dispute of that number. -/
abbrev countDispute : Dispute := { a := countRef, b := countRef, keep := countRef }

/-- Reference 4 is qualified, none is selected, one disqualification is counted, and there is that dispute. -/
def countDisputed : State :=
  ((State.reset.setFld (F.CLK_REF_CFG_prio 4) 1).put R.CLK_DISQ_CNT 1).setClkx
    fun c => { c with refs := [(4, { q := true })], disputes := [countDispute] }

/-- As its port leaves SLAVE, the dispute is dropped, and the state 0 is shown where the count stood. -/
theorem disqCnt_countDisputed : bitsOf ((countDisputed.broken 4 false).pruneDisputes.reg R.CLK_DISQ_CNT) 2 0 = 0 :=
  State.fld_state_pruneDisputes_broken (d := countDispute) rfl (by decide) (by decide) false (by decide) (by decide) (by decide)

theorem refBreak_countDisputed : ∃ d, countDisputed.refBreak 4 false = (countDisputed.disqualified 4 false).postEvent 5 2 d := by
  obtain ⟨d, hd⟩ := State.refBreak_of_qualified (s := countDisputed) (n := 4) (by decide) (by decide) false
  have hsel : (countDisputed.disqualified 4 false).sel = 7 :=
    (State.sel_disqualified (d := countDispute) rfl (by decide) (by decide) false (by decide) (by decide) (by decide)).trans (by decide)
  exact ⟨d, hd.trans (State.reselect_disqualified hsel (by decide))⟩

/-- A count whose low bits are 0 does not count up to 2. -/
theorem counted_ne_two {w : Word} (h : bitsOf w 2 0 = 0) : counted w ≠ 2 := by
  intro hc
  have hn : (counted w).toNat = 2 := congrArg BitVec.toNat hc
  simp only [counted, bitsOf, BitVec.toNat_ofNat] at h hn
  omega

/-- Refutes O45: its clause about a port that leaves SLAVE ranges over states with a dispute of any two numbers, where the module has 7
references (R282). At 37 the offset of CLK_REF_STATUS is that of CLK_DISQ_CNT: the dispute, dropped as its numbers are not qualified, has
their state shown there, and the disqualification is not counted on the count that stood. -/
theorem not_referencesQualifyAndFail : ¬ Obligations.ReferencesQualifyAndFail := by
  unfold Obligations.ReferencesQualifyAndFail
  intro h
  obtain ⟨-, -, -, -, -, -, hptp⟩ := h countDisputed 0 0 0 false 0 0
  obtain ⟨-, t, hx, -, hcnt, -⟩ := hptp (by decide) (by decide)
  obtain ⟨d, hd⟩ := refBreak_countDisputed
  have hbreak : t = countDisputed.refBreak 4 false := Host.Outcome.next.inj (hx.symm.trans rfl)
  have htwo : counted (countDisputed.reg R.CLK_DISQ_CNT) = 2 := by decide
  rw [hbreak, hd, State.reg_postEvent _ _ _ _ _ (by decide), State.reg_disqCnt_disqualified, htwo] at hcnt
  exact counted_ne_two disqCnt_countDisputed hcnt

/-! ## A state that the obligation about the DPLL is wrong about -/

/-- A number beyond the 7 references, for which R.CLK_REF_CFG gives the offset of R.CLK_REF_GEN of reference 0. -/
abbrev genRef : Nat := 8

/-- Reference 2 is selected and has been in lock long enough; of its dispute with that number the other one is kept. -/
def genDisputed : State :=
  let s := (State.reset.setFld (F.CLK_REF_CFG_prio 2) 1).put (R.CLK_REF_CFG genRef) 1
  let s := ((s.setFld F.CLK_STATUS_dpll_state 1).setFld F.CLK_STATUS_sel_ref 2).setFld F.CLK_DPLL_CFG_lock_time 0
  s.setClkx fun c => { c with
    inU := some 0, refs := [(2, { q := true }), (genRef, { q := true })], disputes := [{ a := 2, b := genRef, keep := genRef }] }

/-- Lock completes the selection, and the dispute at once moves it on: the DPLL acquires again. -/
theorem dpll_dpllLock_genDisputed : genDisputed.dpllLock.dpll = 1 := by decide

/-- Refutes O46: its clause about the lock asks of the 7 references alone that none but the selected one be qualified, and ranges over
states with a dispute of any two numbers. At 8 the offset of CLK_REF_CFG is that of CLK_REF_GEN of reference 0, which enables that number;
where the dispute keeps it (R288), the choice that follows the lock takes it, and the DPLL is in ACQUIRE and not in TRACK. -/
theorem not_theDpllSlewsStepsAndHoldsOver : ¬ Obligations.TheDpllSlewsStepsAndHoldsOver := by
  unfold Obligations.TheDpllSlewsStepsAndHoldsOver
  intro h
  obtain ⟨-, hlock, -⟩ := h genDisputed 2 0 0
  obtain ⟨t, hx, htrack, -⟩ := hlock (by decide) (by decide) (by decide) (by decide) (by decide) (by decide)
  have ht : t = genDisputed.dpllLock := Host.Outcome.next.inj (hx.symm.trans rfl)
  rw [ht, dpll_dpllLock_genDisputed] at htrack
  exact absurd htrack (by decide)

end Sys2Proof.Machine
end

section
/-!
PROOFS. A link that goes down (R322, R332): the refuted obligation about it.
-/

namespace Sys2Proof.Machine

/-- A number beyond the 512 transmit streams, for which R.STR_TX_LATE_CNT_S gives the offset of R.MAC_STATUS of port A. -/
abbrev statusStream : Nat := 0x2E000

/-- The link of port A is up, and a packet of that number waits there since tick 0; the present tick is 2. -/
def latePacket : State :=
  let s := (State.reset.put R.PWR_DOM_ON 0x7FFFF#32).setFlag (F.MAC_STATUS_link 0) true
  (s.setClk fun c => { c with tickNum := 2 }).setStr fun t => { t with queue := [(0, [{ stream := statusStream, tick := 0, bytes := [] }])] }

theorem linkFails_latePacket : (latePacket.linkFails 0 1).flag (F.MAC_STATUS_link 0) = true := by decide

/-- Refutes O49: its clause about a link that goes down ranges over states with packets of any stream number in a port's queue, where the
module has 512 transmit streams (chapter 06, before R186). At 0x2E000 the offset of STR_TX_LATE_CNT_S is that of MAC_STATUS of port A: the
late packet, dropped as the link goes down, is counted there (R198), and the count sets the link bit again. -/
theorem not_macsCarryManagementTraffic : ¬ Obligations.MacsCarryManagementTraffic := by
  unfold Obligations.MacsCarryManagementTraffic
  intro h
  obtain ⟨hnet, -⟩ := h latePacket 0 [] [] false false 0 0 0 0 0 0 0 0 { port := 0 }
  obtain ⟨-, hdown, -⟩ := hnet (by decide)
  obtain ⟨t, hx, hlink, -⟩ := hdown (by decide)
  have ht : t = latePacket.linkFails 0 1 :=
    Host.Outcome.next.inj (hx.symm.trans (congrArg Host.Outcome.next (if_pos (by decide))))
  exact absurd (linkFails_latePacket.symm.trans (ht ▸ hlink)) (by decide)

end Sys2Proof.Machine
end

section
/-!
PROOFS. A lane that comes down (R318, R320, R322): the refuted obligation about it.
-/

namespace Sys2Proof.Machine

/-- Lane 0, that of port A, is UP, its link is up, and the packet of `latePacket` waits there. -/
def laneUpLatePacket : State := latePacket.setFld (F.SDS_STATUS_state 0) lUp

/-- The lane loses lock, by 16 invalid headers, and its port's link is up all the same. -/
theorem link_lockLoss_laneUpLatePacket :
    (laneUpLatePacket.laneEvent 0 false fun s => s.lockWindow 0 16 false).flag (F.MAC_STATUS_link 0) = true := by decide

/-- Refutes O48: its clause about an UP lane that loses lock ranges over states with packets of any stream number in a port's queue, where
the module has 512 transmit streams (chapter 06, before R186). At `statusStream` the offset of STR_TX_LATE_CNT_S is that of MAC_STATUS of
port A: the late packet, dropped as the lane takes the link down, is counted there (R198), and the count sets the link bit again. -/
theorem not_serialLanesComeUpAndFail : ¬ Obligations.SerialLanesComeUpAndFail := by
  unfold Obligations.SerialLanesComeUpAndFail
  intro h
  obtain ⟨-, -, -, -, -, -, hloss, -⟩ := h laneUpLatePacket 0 16 0 0 0 0 [] [] false [] []
  obtain ⟨t, hx, -, -, hlink, -⟩ := hloss (by decide) (by decide) (by decide) (by decide)
  have ht : t = laneUpLatePacket.laneEvent 0 false fun s => s.lockWindow 0 16 false := Host.Outcome.next.inj (hx.symm.trans rfl)
  exact absurd (link_lockLoss_laneUpLatePacket.symm.trans (ht ▸ hlink)) (by decide)

end Sys2Proof.Machine
end

section
/-!
SUPPORT. What raising a fault leaves of the host rings (R342, R360, R443, R463): it consumes no entry, and where the module does not own
the pins and the event ring is disabled, it but counts its event as lost.
-/

namespace Sys2Proof.Machine

/-- The consumer indices of the rings. -/
def State.conses (s : State) : Nat → Nat := fun r => (s.ring r).cons

section
variable {s t : State}

theorem State.conses_of_rings (h : t.hif.rings = s.hif.rings) : t.conses = s.conses := by
  funext r
  rw [State.conses, State.ring, h]
  rfl

theorem State.conses_of_hif (h : t.hif = s.hif) : t.conses = s.conses := State.conses_of_rings (congrArg Hif.rings h)

theorem State.conses_setRing (s : State) (r : Nat) (x : Ring) (h : x.cons = (s.ring r).cons) : (s.setRing r x).conses = s.conses := by
  funext q
  simp only [State.conses, State.ring_setRing]
  split_ifs with e
  · exact e ▸ h
  · rfl

theorem State.conses_pushRing (s : State) (r n : Nat) (b : List Byte) : (s.pushRing r n b).conses = s.conses :=
  State.conses_setRing _ r _ rfl

theorem State.conses_overflow (s : State) : s.overflow.conses = s.conses := by
  unfold State.overflow
  split_ifs
  · rfl
  · exact s.conses_pushRing _ _ _

theorem State.conses_postEvent (s : State) (ty sub : Nat) (d : List Byte) : (s.postEvent ty sub d).conses = s.conses := by
  have h := (s.overflow.conses_pushRing 8 32 (eventEntry ty sub s.overflow.stamp s.overflow.tickNum d)).trans s.conses_overflow
  unfold State.postEvent
  dsimp only
  split_ifs
  · rfl
  · exact h
  · exact h

theorem State.conses_twiFinish (s : State) (t : TwiCmd) (st d : Nat) : (s.twiFinish t st d).conses = s.conses := by
  have h : ((s.setHif fun h => { h with twi := h.twi.erase t }).setRing t.ring { s.ring t.ring with busy := false }).conses = s.conses :=
    State.conses_setRing _ _ _ rfl
  unfold State.twiFinish
  dsimp only
  split_ifs
  · rfl
  · rfl
  · exact h
  · exact (State.conses_of_hif (State.finish_onlyRegs _ _ _ _ _ _).hif).trans h

theorem State.conses_relayTwi (s : State) (p : TwiCmd → Bool) : (s.relayTwi p).conses = s.conses := by
  unfold State.relayTwi
  split_ifs
  · refine foldl_keeps State.conses ?_ _ _
    exact fun _ _ => rfl
  · rfl

theorem State.conses_twiLose (s : State) : s.twiLose.conses = s.conses := by
  unfold State.twiLose
  refine (foldl_keeps State.conses (fun s t => s.conses_twiFinish t _ _) _ _).trans ?_
  split_ifs
  · exact s.conses_relayTwi _
  · rfl

theorem State.conses_twiFollow (on : Bool) (s : State) (n : Nat) : (State.twiFollow on s n).conses = s.conses := by
  unfold State.twiFollow
  split_ifs <;> rfl

theorem State.conses_setPins_false (s : State) : (s.setPins false).conses = s.conses := by
  by_cases h : s.isOwner = false
  · rw [State.setPins_of_eq h]
  · have hl := (s.setTwn fun t => { t with pins := false }).conses_twiLose
    rw [State.setPins_of_ne h, State.twiPins_eq, if_neg Bool.false_ne_true]
    refine (State.conses_of_hif (State.emit_hif _ _)).trans ((foldl_keeps State.conses (State.conses_twiFollow false) _ _).trans ?_)
    exact (State.conses_of_rings rfl).trans (hl.trans (State.conses_of_hif rfl))

/-- An event whose ring is disabled is counted as lost (R360). -/
theorem State.postEvent_of_disabled (h : (s.ring 8).en = false) (ty sub : Nat) (d : List Byte) :
    s.postEvent ty sub d = (s.count R.HIF_EVT_DROP_CNT).setHif fun h => { h with evtLost := h.evtLost + 1 } :=
  if_pos (by simp [h])

end

/-- From `s` to `t` no consumer index moves; and of a module that does not own the pins, with its event ring disabled, the host interface
keeps all but the count of lost events, and the pins stay disabled. -/
structure State.SparesRings (s t : State) : Prop where
  conses : t.conses = s.conses
  pins : s.isOwner = false → t.isOwner = false
  quiet : s.isOwner = false → (s.ring 8).en = false → ∃ n, t.hif = { s.hif with evtLost := n }

namespace State.SparesRings

variable {s t u : State}

theorem of_hif (h : t.hif = s.hif) (g : s.GivesUp t) : SparesRings s t := ⟨conses_of_hif h, g.pins, fun _ _ => ⟨_, h⟩⟩

theorem of_same (h : t.hif = s.hif) (g : t.twn = s.twn) : SparesRings s t := of_hif h (.of_twn g)

theorem refl (s : State) : SparesRings s s := of_same rfl rfl

theorem trans (h : SparesRings s t) (k : SparesRings t u) : SparesRings s u := by
  refine ⟨k.conses.trans h.conses, fun hp => k.pins (h.pins hp), fun hp he => ?_⟩
  obtain ⟨n, hn⟩ := h.quiet hp he
  obtain ⟨m, hm⟩ := k.quiet (h.pins hp) (by rw [State.ring, hn]; exact he)
  exact ⟨m, by rw [hm, hn]⟩

theorem ite {c : Prop} [Decidable c] (h : c → SparesRings s t) (k : ¬c → SparesRings s u) : SparesRings s (if c then t else u) := by
  split_ifs with hc
  · exact h hc
  · exact k hc

theorem setFlt (s : State) (f : Flt → Flt) : SparesRings s (s.setFlt f) := of_same rfl rfl

theorem postEvent (s : State) (ty sub : Nat) (d : List Byte) : SparesRings s (s.postEvent ty sub d) where
  conses := s.conses_postEvent ty sub d
  pins := (GivesUp.of_twn (s.postEvent_twn ty sub d)).pins
  quiet _ he := ⟨s.hif.evtLost + 1, by rw [State.postEvent_of_disabled he]; rfl⟩

/-- Only the loss of the owned pins ends requests of the two-wire controllers (R217). -/
theorem setPins_false (s : State) : SparesRings s (s.setPins false) where
  conses := s.conses_setPins_false
  pins := (GivesUp.setPins_false s).pins
  quiet hp _ := ⟨s.hif.evtLost, by rw [State.setPins_of_eq hp]⟩

theorem setOwnOut (s : State) (on : Bool) : SparesRings s (s.setOwnOut on) :=
  of_hif (by unfold State.setOwnOut; split_ifs <;> rfl) (.setOwnOut s on)

theorem endHandover (s : State) (r : Nat) : SparesRings s (s.endHandover r) := of_hif rfl (.endHandover s r)

theorem cancelHandover (s : State) (r : Nat) : SparesRings s (s.cancelHandover r) :=
  ite (fun _ => refl s) fun _ => ite (fun _ => endHandover s r) fun _ =>
    (endHandover s r).trans (ite (fun _ => refl _) fun _ => setPins_false _)

theorem releaseOwn (s : State) : SparesRings s s.releaseOwn := by
  unfold State.releaseOwn
  extract_lets s1 s2 s3
  have h3 : SparesRings s2 s3 := of_hif rfl ⟨⟨_, _, _, _, _, _, _, _, _, _, rfl⟩, id⟩
  have h : SparesRings s s3 := ((setPins_false _).trans (setOwnOut _ _)).trans h3
  split
  · exact ite (fun _ => h) fun _ => h.trans (cancelHandover _ _)
  · exact h

theorem yieldOwn (s : State) : SparesRings s s.yieldOwn := by
  unfold State.yieldOwn
  refine ite (fun _ => releaseOwn s) fun _ => ite (fun _ => ite (fun _ => ?_) fun _ => releaseOwn s) fun _ =>
    ite (fun _ => releaseOwn s) fun _ => refl s
  split
  · exact ite (fun _ => refl s) fun _ => releaseOwn s
  · split
    · exact ite (fun _ => of_hif rfl (.ask _ _)) fun _ => of_hif rfl (.proposeHandover _ _ _ _)
    · exact of_hif rfl (.proposeHandover _ _ _ _)

theorem react (s : State) (o : Occ) (lvl : Nat) : SparesRings s (s.react o lvl) := by
  unfold State.react
  extract_lets k s1 s0 s2
  have h1 : SparesRings s s1 := ite (fun _ => of_same rfl rfl) fun _ => refl s
  have h2 : SparesRings s s2 := ite (fun _ => (h1.trans (setFlt _ _)).trans
    (ite (fun _ => releaseOwn _) fun _ => yieldOwn _)) fun _ => h1
  exact ite (fun _ => h2.trans (of_same rfl rfl)) fun _ => h2

theorem setBit64 (s : State) (lo hi i : Nat) (b : Bool) : SparesRings s (s.setBit64 lo hi i b) :=
  ite (fun _ => of_same rfl rfl) fun _ => of_same rfl rfl

theorem logFault (s : State) (o : Occ) (lvl : Nat) (esc : Bool) (seq : Nat) : SparesRings s (s.logFault o lvl esc seq) := by
  unfold State.logFault
  extract_lets wp net e s1 s2 s3
  have h1 : SparesRings s s1 := ite (fun _ => of_same rfl rfl) fun _ => refl s
  have h3 : SparesRings s s3 := h1.trans (of_same rfl rfl)
  exact ite (fun _ => h3.trans (of_same rfl rfl)) fun _ => h3

theorem raiseOcc (s : State) (o : Occ) : SparesRings s (s.raiseOcc o) := by
  unfold State.raiseOcc
  extract_lets c esc lvl was r tagged s1 s2 seq s3 s4 s5 s6 s7 add r1 first logged s8 r2 posts s9
  have h1 : SparesRings s s1 := ite (fun _ => setBit64 _ _ _ _ _) fun _ => refl s
  have h2 : SparesRings s s2 := ite (fun _ => h1.trans (setBit64 _ _ _ _ _)) fun _ => h1
  have h4 : SparesRings s s4 := h2.trans (of_same rfl rfl)
  have h5 : SparesRings s s5 := ite (fun _ => h4.trans (of_same rfl rfl)) fun _ => h4
  have h7 : SparesRings s s7 := (h5.trans (setBit64 _ _ _ _ _)).trans (setBit64 _ _ _ _ _)
  have h8 : SparesRings s s8 := ite (fun _ => h7.trans (logFault _ _ _ _ _)) fun _ => h7
  have h9 : SparesRings s s9 := ite (fun _ => (h8.trans (postEvent _ _ _ _)).trans (of_same rfl rfl)) fun _ => h8.trans (of_same rfl rfl)
  have hw : SparesRings s (s9.react o lvl).setWorst := (h9.trans (react _ _ _)).trans (of_same rfl rfl)
  exact hw.trans (of_hif (by unfold State.breakRevert; split_ifs <;> rfl) (.breakRevert _ _))

end State.SparesRings

end Sys2Proof.Machine
end

section
/-!
PROOFS. The host interface's own registers, resets of the endpoint, failed transfers and bad accesses (R340, R343, R369 to R372).
-/

namespace Sys2Proof.Tbl

/-- Of a table less the keys that `p` picks, those keys read as their defaults. -/
theorem get_filter_keys {α : Type} (d : Nat → α) (p : Nat → Bool) (t : List (Nat × α)) (a : Nat) :
    get d (t.filter fun e => !p e.1) a = if p a then d a else get d t a := by
  induction t with
  | nil => simp
  | cons e r ih =>
    obtain ⟨k, w⟩ := e
    rw [List.filter_cons]
    cases hp : p k
    · by_cases hk : k = a
      · subst hk
        simp [get, hp]
      · simpa [get, hk] using ih
    · by_cases hk : k = a
      · subst hk
        simpa [hp] using ih
      · simpa [get, hk] using ih

end Sys2Proof.Tbl

namespace Sys2Proof.Machine

variable {s : State}

/-- A command of the host interface has its effect while PD_HOST is released. -/
theorem State.next_ifHost (h : s.domOn 18 = true) {f : State → State} {t : State} (e : f s = t) :
    (.next (s.ifHost f) : Host.Outcome State Fault Refusal) = .next t := congrArg Host.Outcome.next ((if_pos h).trans e)

/-! ## Rings (R343) -/

section
variable {r : Nat} {w : Word}

/-- A ring that the module produces, disabled, is asked to be enabled. -/
theorem State.ringCtrl_of_enable (h4 : 4 ≤ r) (he : (s.ring r).en = false) (hw : w.getLsbD 0 = true) :
    s.ringCtrl r w = (s.put (R.HIF_RING_CTRL r) (w &&& 0xFF03F1#32)).setRing r { s.ring r with enPend := some true } := by
  simp [-BitVec.getLsbD_eq_getElem, State.ringCtrl, Nat.not_lt.2 h4, he, hw]

/-- A command ring is not enabled without its completion ring (log entry 54). -/
theorem State.ringCtrl_of_no_completions (h4 : r < 4) (hw : w.getLsbD 0 = true) (hc : (s.ring (4 + r)).enNext = false) :
    s.ringCtrl r w = s.ringErr r := by
  simp [State.ringCtrl, h4, hw, hc]

theorem State.ringCfg_of_enabled (he : (s.ring r).en = true) (x : Nat) : s.ringCfg r x w = s.ringErr r := by
  simp [State.ringCfg, he]

section
variable (he : (s.ring r).en = false) (hp : (s.ring r).enPend = none)
include he hp

theorem State.ringCfg_base_lo : s.ringCfg r 0 w = s.putLo (R.HIF_RING_BASE_LO r) (R.HIF_RING_BASE_HI r) w := by
  simp [State.ringCfg, he, hp]

theorem State.ringCfg_base_hi : s.ringCfg r 1 w = s.holdHi (R.HIF_RING_BASE_HI r) w := by
  simp [State.ringCfg, he, hp]

theorem State.ringCfg_size (h4 : 4 ≤ bitsOf w 3 0) (h12 : bitsOf w 3 0 ≤ 12) :
    s.ringCfg r 2 w = s.put (R.HIF_RING_SIZE r) (word (bitsOf w 3 0)) := by
  have hmax : ¬ (if r = 9 then 14 else 12) < bitsOf w 3 0 := by split_ifs <;> omega
  simp [State.ringCfg, he, hp, Nat.not_lt.2 h4, hmax]

theorem State.ringCfg_small_size (h4 : bitsOf w 3 0 < 4) : s.ringCfg r 2 w = s.ringErr r := by
  simp [State.ringCfg, he, hp, h4]

end

/-- BASE_LO takes effect with the held BASE_HI (R36). -/
theorem State.putLo_effect (s : State) {lo hi : Nat} (h : lo ≠ hi) (w : Word) :
    (s.putLo lo hi w).reg lo = w ∧ (s.putLo lo hi w).reg hi = Tbl.get (fun _ => s.reg hi) s.whold hi ∧
      s.KeepsRegs (s.putLo lo hi w) [lo, hi] := by
  refine ⟨?_, State.reg_put_self _ _ _, fun o ho => ?_⟩
  · exact (State.reg_put_of_ne _ _ (Ne.symm h)).trans (s.reg_put_self _ _)
  · simp only [List.mem_cons, List.not_mem_nil, or_false, not_or] at ho
    exact (State.reg_put_of_ne _ _ (Ne.symm ho.2)).trans (s.reg_put_of_ne _ (Ne.symm ho.1))

end

/-! ## A reset of the endpoint (R369, R399) -/

theorem State.reg_resetRegs (s : State) (p : Nat → Bool) (o : Nat) :
    (s.resetRegs p).reg o = if p o then resetWord o else s.reg o := Tbl.get_filter_keys _ _ _ _

/-- The completions that a reset loses: those that wait, and those of the two-wire requests (R369). -/
def State.hifLost (s : State) : Nat := s.hif.cpls.length + (s.hif.twi.filter TwiCmd.waits).length

/-- What the reset of the host interface leaves in each register: of the block, the DRAM limit, the link's state, the count of lost
completions. -/
theorem State.reg_hifReset (s : State) (o : Nat) : s.hifReset.reg o =
    if R.HIF_CPL_DROP_CNT = o then word (min ((resetWord R.HIF_CPL_DROP_CNT).toNat + s.hifLost) 0xFFFFFFFF)
    else if R.HIF_STATUS = o then s.reg R.HIF_STATUS &&& 0x3F#32
    else if R.HIF_DRAM_LIMIT = o then s.reg R.HIF_DRAM_LIMIT
    else if isHif o then resetWord o else s.reg o := by
  obtain ⟨u, hu⟩ : ∃ u, u = (((s.resetRegs isHif).put R.HIF_DRAM_LIMIT (s.reg R.HIF_DRAM_LIMIT)).put R.HIF_STATUS
    (s.reg R.HIF_STATUS &&& 0x3F#32)) := ⟨_, rfl⟩
  have hreg (a : Nat) : u.reg a = if R.HIF_STATUS = a then s.reg R.HIF_STATUS &&& 0x3F#32
      else if R.HIF_DRAM_LIMIT = a then s.reg R.HIF_DRAM_LIMIT else if isHif a then resetWord a else s.reg a := by
    rw [hu, State.reg_put, State.reg_put, State.reg_resetRegs]
  have hx : s.hifReset.reg o = (u.countBy R.HIF_CPL_DROP_CNT s.hifLost).reg o := by rw [hu]; rfl
  rw [hx, State.reg_countBy, hreg, hreg]
  rfl

/-- A drain writes the register that shows it and its count, and notes the master. -/
theorem State.drainMaster_changes (s : State) (m : Nat) : ∃ r z x, s.drainMaster m = { s with regs := r, sets := z, sram := x } := by
  unfold State.drainMaster
  split_ifs
  · exact ⟨s.regs, s.sets, s.sram, rfl⟩
  · exact ⟨_, _, _, rfl⟩

theorem State.keepsRegs_drainMaster (s : State) (m : Nat) : s.KeepsRegs (s.drainMaster m) [R.XBR_STATUS, R.XBR_DRAIN_CNT] := by
  unfold State.drainMaster
  split_ifs
  · exact fun _ _ => rfl
  · exact ((State.OnlyRegs.setFlag (by simp) _ _).trans (.count (by simp) _)).keeps

theorem State.mem_drain_drainMaster (s : State) (m : Nat) : m ∈ (s.drainMaster m).sram.drain := by
  unfold State.drainMaster
  split_ifs with h
  · exact List.contains_iff_mem.1 h
  · exact List.mem_append_right _ (List.mem_singleton_self m)

theorem State.flag_drain_drainMaster (s : State) (m : Nat) :
    (s.drainMaster m).flag F.XBR_STATUS_drain = (s.flag F.XBR_STATUS_drain || !s.sram.drain.contains m) := by
  unfold State.drainMaster
  split_ifs with h
  · rw [h, Bool.not_true, Bool.or_false]
  · rw [Bool.eq_false_of_not_eq_true h, Bool.not_false, Bool.or_true]
    exact (State.flag_of_reg (State.reg_put_of_ne _ _ (by decide))).trans (State.flag_setFlag_self _ _ _ (by decide) rfl)

/-- The state after a reset of the endpoint. -/
def State.endpointReset (s : State) : State :=
  ((s.hifReset.drainMaster 14).put R.HIF_STATUS 0).setFlag F.HIF_STATUS_flr_seen true

theorem State.reg_endpointReset (s : State) {o : Nat} (h : o ∉ [R.HIF_STATUS, R.XBR_STATUS, R.XBR_DRAIN_CNT]) :
    s.endpointReset.reg o = s.hifReset.reg o := by
  simp only [List.mem_cons, List.not_mem_nil, or_false, not_or] at h
  obtain ⟨hs, hx, hd⟩ := h
  refine (State.reg_setFld_of_ne _ _ (Ne.symm hs)).trans ((State.reg_put_of_ne _ _ (Ne.symm hs)).trans ?_)
  exact s.hifReset.keepsRegs_drainMaster 14 o (by simp [hx, hd])

/-- Beside registers and the drain a reset of the endpoint changes the host interface, the marks of scheduled actions, and the
management frames that wait. -/
theorem State.endpointReset_changes (s : State) : ∃ r hd wh z x e, s.endpointReset =
    { s with regs := r, hold := hd, whold := wh, sets := z, sram := x, eth := e, hif := s.hifReset.hif, sched := s.hifReset.sched } := by
  obtain ⟨_, _, _, e⟩ := s.hifReset.drainMaster_changes 14
  rw [State.endpointReset, e]
  exact ⟨_, _, _, _, _, _, rfl⟩

/-- What a reset of the endpoint leaves, and what it does to the host interface (R369, R399). -/
theorem State.endpointReset_effect (s : State) (r : Nat) :
    let t := s.endpointReset
    t.flag F.HIF_STATUS_flr_seen = true ∧ t.flag F.HIF_STATUS_bme = false ∧
    t.reg R.HIF_CTRL = resetWord R.HIF_CTRL ∧ t.reg R.HIF_DRAM_LIMIT = s.reg R.HIF_DRAM_LIMIT ∧ (t.ring r).en = false ∧
    t.hif.cpls = [] ∧ (s.hif.twi = [] → t.reg R.HIF_CPL_DROP_CNT =
      word (min ((resetWord R.HIF_CPL_DROP_CNT).toNat + s.hif.cpls.length) 0xFFFFFFFF)) ∧
    t.sched.length = s.sched.length ∧ (∀ o, isHif o = false → o ≠ R.XBR_STATUS → o ≠ R.XBR_DRAIN_CNT → t.reg o = s.reg o) ∧
    14 ∈ t.sram.drain ∧ t.flag F.XBR_STATUS_drain = (s.flag F.XBR_STATUS_drain || !s.sram.drain.contains 14) ∧
    t.fab = s.fab ∧ t.run = s.run ∧ t.clk = s.clk ∧ t.str = s.str ∧ t.twn = s.twn ∧ t.mem = s.mem ∧ t.outbox = s.outbox := by
  have hother {o : Nat} (h : isHif o = false) : s.hifReset.reg o = s.reg o := by
    have hne {a : Nat} (ha : isHif a = true) : a ≠ o := fun e => Bool.eq_false_iff.1 h (e ▸ ha)
    rw [State.reg_hifReset, if_neg (hne (by decide)), if_neg (hne (by decide)), if_neg (hne (by decide)), if_neg (Bool.eq_false_iff.1 h)]
  have hdrop (h : s.hif.twi = []) : s.hifLost = s.hif.cpls.length := by rw [State.hifLost, h]; rfl
  have hflag : s.endpointReset.flag F.XBR_STATUS_drain = (s.hifReset.drainMaster 14).flag F.XBR_STATUS_drain :=
    State.flag_of_reg ((State.reg_setFld_of_ne _ _ (by decide)).trans (State.reg_put_of_ne _ _ (by decide)))
  have hsched : s.hifReset.sched.length = s.sched.length := List.length_map _
  obtain ⟨_, _, _, _, _, _, hx⟩ := s.endpointReset_changes
  intro t
  have hhif : t.hif = s.hifReset.hif := (congrArg State.hif hx : s.endpointReset.hif = _)
  refine ⟨State.flag_setFlag_self _ _ _ (by decide) rfl, ?_, ?_, ?_, ?_, ?_, fun h => ?_, ?_, fun o h hs hd => ?_, ?_, ?_, ?_⟩
  · refine (State.flag_setFlag_of_apart _ _ _ _ (by decide) (.inr (.inr (by decide)))).trans ?_
    rw [State.flag, State.fld, State.reg_put_self]
    decide
  · rw [s.reg_endpointReset (by decide), State.reg_hifReset]; rfl
  · rw [s.reg_endpointReset (by decide), State.reg_hifReset]; rfl
  · rw [State.ring, hhif]; rfl
  · rw [hhif]; rfl
  · rw [s.reg_endpointReset (by decide), State.reg_hifReset, if_pos rfl, hdrop h]
  · exact (congrArg List.length (congrArg State.sched hx)).trans hsched
  · have hst : o ≠ R.HIF_STATUS := fun e => Bool.eq_false_iff.1 h (e ▸ rfl)
    rw [s.reg_endpointReset (by simp [-ne_eq, hst, hs, hd]), hother h]
  · exact s.hifReset.mem_drain_drainMaster 14
  · rw [hflag, State.flag_drain_drainMaster, State.flag_of_reg (hother (by decide))]
    rfl
  · simp only [t, hx]
    trivial

/-! ## Bus mastering (R369) -/

theorem State.writeCpls_of_none (h : s.hif.cpls = []) : s.writeCpls = s := by
  unfold State.writeCpls
  split_ifs
  · rw [h]
    exact congrArg (fun l => s.setHif fun h => { h with cpls := l }) h.symm
  · rfl

theorem State.mtxFlush_of_none (h : s.eth.mtx = []) : s.mtxFlush = s := by
  simp [State.mtxFlush, h, State.mtxAdvance]

theorem State.twiResume_of_none (h : s.hif.twi = []) : s.twiResume = s := by
  simp [State.twiResume, h]

theorem State.msixGo_of_none (h : s.hif.msixPba = 0) : s.msixGo = s := by
  unfold State.msixGo
  split_ifs
  · exact List.foldl_fixed' (fun v => if_neg (by simp [h])) _
  · rfl

theorem State.resume_of_idle (hc : s.hif.cpls = []) (hm : s.eth.mtx = []) (ht : s.hif.twi = []) (hv : s.hif.msixPba = 0) :
    s.writeCpls.mtxFlush.twiResume.msixGo = s := by
  rw [State.writeCpls_of_none hc, State.mtxFlush_of_none hm, State.twiResume_of_none ht, State.msixGo_of_none hv]

/-- With the link up and nothing that waits, bus mastering is all that changes. -/
theorem State.busMaster_of_idle (hl : s.flag F.HIF_STATUS_link_up = true) (hc : s.hif.cpls = []) (hm : s.eth.mtx = [])
    (ht : s.hif.twi = []) (hv : s.hif.msixPba = 0) (b : Bool) : s.busMaster b = s.setFlag F.HIF_STATUS_bme b := by
  cases b
  · rfl
  · simp only [State.busMaster, hl, Bool.not_true, Bool.and_false, Bool.false_eq_true, if_false, if_true]
    exact State.resume_of_idle hc hm ht hv

/-! ## Failed transfers (R370) -/

/-- A failed transfer is recorded: its address, the status bit, the count. -/
def State.dmaNoted (s : State) (a : Nat) : State :=
  ((s.putPair R.HIF_DMA_ERR_ADDR_LO R.HIF_DMA_ERR_ADDR_HI a).setFlag F.HIF_STATUS_dma_err true).count R.HIF_DMA_ERR_CNT

theorem State.dmaFail_eq (s : State) (a : Nat) : s.dmaFail a = (s.dmaNoted a).raise 16 (word a) := rfl

/-- The registers that the record of a failed transfer writes. -/
def dmaRegs : List Nat := [R.HIF_DMA_ERR_ADDR_LO, R.HIF_DMA_ERR_ADDR_HI, R.HIF_STATUS, R.HIF_DMA_ERR_CNT]

theorem State.dmaNoted_onlyRegs (s : State) (a : Nat) : State.OnlyRegs dmaRegs s (s.dmaNoted a) :=
  ((State.OnlyRegs.putPair (by simp [dmaRegs]) (by simp [dmaRegs]) s a).trans (.setFlag (by simp [dmaRegs]) _ _)).trans
    (.count (by simp [dmaRegs]) _)

theorem State.reacts_dmaFail (s : State) (a : Nat) : s.Reacts (dmaRegs ++ raiseRegs) (s.dmaFail a) :=
  ((State.Reacts.of_onlyRegs (s.dmaNoted_onlyRegs a)).mono (List.subset_append_left _ _)).trans
    ((State.reacts_raise _ (word a) (by decide)).mono (List.subset_append_right _ _))

theorem State.latched_dmaFail (s : State) (a : Nat) : (s.dmaFail a).latched 16 = true := State.latched_raise _ _ (by decide)

theorem State.sparesRings_dmaFail (s : State) (a : Nat) : s.SparesRings (s.dmaFail a) :=
  (State.SparesRings.of_same rfl rfl : s.SparesRings (s.dmaNoted a)).trans (.raiseOcc _ _)

theorem State.pair_of_regs {t : State} {lo hi : Nat} (hl : t.reg lo = s.reg lo) (hh : t.reg hi = s.reg hi) :
    t.pair lo hi = s.pair lo hi := by
  rw [State.pair, hl, hh, State.pair]

theorem State.reg_putPair_of_ne (s : State) {lo hi o : Nat} (hl : lo ≠ o) (hh : hi ≠ o) (v : Nat) :
    (s.putPair lo hi v).reg o = s.reg o := (State.reg_put_of_ne _ _ hh).trans (s.reg_put_of_ne _ hl)

theorem State.dmaNoted_records (s : State) (a : BitVec 64) :
    (s.dmaNoted a.toNat).pair R.HIF_DMA_ERR_ADDR_LO R.HIF_DMA_ERR_ADDR_HI = a.toNat ∧
      (s.dmaNoted a.toNat).flag F.HIF_STATUS_dma_err = true ∧
      (s.dmaNoted a.toNat).reg R.HIF_DMA_ERR_CNT = counted (s.reg R.HIF_DMA_ERR_CNT) := by
  obtain ⟨p, hp⟩ : ∃ p, p = s.putPair R.HIF_DMA_ERR_ADDR_LO R.HIF_DMA_ERR_ADDR_HI a.toNat := ⟨_, rfl⟩
  have hn : s.dmaNoted a.toNat = (p.setFlag F.HIF_STATUS_dma_err true).count R.HIF_DMA_ERR_CNT := by rw [hp]; rfl
  have hpair : p.pair R.HIF_DMA_ERR_ADDR_LO R.HIF_DMA_ERR_ADDR_HI = a.toNat :=
    hp ▸ (s.pair_putPair (by decide) _).trans (Nat.mod_eq_of_lt a.isLt)
  have hs {o : Nat} (h : R.HIF_STATUS ≠ o) : (p.setFlag F.HIF_STATUS_dma_err true).reg o = p.reg o := p.reg_setFld_of_ne _ h
  have hc {o : Nat} (h : R.HIF_DMA_ERR_CNT ≠ o) : (s.dmaNoted a.toNat).reg o = (p.setFlag F.HIF_STATUS_dma_err true).reg o := by
    rw [hn]
    exact State.reg_put_of_ne _ _ h
  refine ⟨?_, ?_, ?_⟩
  · exact (State.pair_of_regs ((hc (by decide)).trans (hs (by decide))) ((hc (by decide)).trans (hs (by decide)))).trans hpair
  · exact (State.flag_of_reg (hc (by decide))).trans (State.flag_setFlag_self _ _ _ (by decide) rfl)
  · rw [hn, State.reg_count_self, hs (by decide), hp, State.reg_putPair_of_ne _ (by decide) (by decide)]

/-- The record stands after the fault is raised. -/
theorem State.dmaFail_records (s : State) (a : BitVec 64) :
    (s.dmaFail a.toNat).pair R.HIF_DMA_ERR_ADDR_LO R.HIF_DMA_ERR_ADDR_HI = a.toNat ∧
      (s.dmaFail a.toNat).flag F.HIF_STATUS_dma_err = true ∧
      (s.dmaFail a.toNat).reg R.HIF_DMA_ERR_CNT = counted (s.reg R.HIF_DMA_ERR_CNT) := by
  have hk : (s.dmaNoted a.toNat).KeepsRegs (s.dmaFail a.toNat) raiseRegs := (State.reacts_raise _ (word a.toNat) (by decide)).keeps
  obtain ⟨hpair, herr, hcnt⟩ := s.dmaNoted_records a
  exact ⟨(State.pair_of_regs (hk _ (by decide)) (hk _ (by decide))).trans hpair,
    (State.flag_of_reg (hk _ (by decide))).trans herr, (hk _ (by decide)).trans hcnt⟩

/-- The disabling of a command ring whose descriptor could not be read. -/
def State.ringStops (s : State) (r : Nat) : State :=
  ((s.setRing r { s.ring r with en := false, enPend := none }).setFlag (F.HIF_RING_CTRL_en r) false).ringErr r

theorem State.reacts_ringStops (s : State) (r : Nat) :
    s.Reacts [R.HIF_RING_CTRL r, R.HIF_STATUS, R.HIF_RING_ERR] (s.ringStops r) :=
  (((State.Reacts.setRing s r _).trans (.setFlag (by simp) _ _)).trans (.setFlag (by simp) _ _)).trans (.setFld (by simp) _ _)

/-- The ring is disabled where it stands, and named with ring_err. -/
theorem State.ringStops_effect (s : State) {r : Nat} (hr : r < 16) : ((s.ringStops r).ring r).en = false ∧
    ((s.ringStops r).ring r).cons = (s.ring r).cons ∧ (s.ringStops r).flag F.HIF_STATUS_ring_err = true ∧
    (s.ringStops r).fld F.HIF_RING_ERR_ring = r := by
  have hring : (s.ringStops r).ring r = { s.ring r with en := false, enPend := none } :=
    (s.ring_setRing r r _).trans (if_pos rfl)
  rw [hring]
  refine ⟨rfl, rfl, ?_, ?_⟩
  · exact (State.flag_setFld_of_apart _ _ _ _ (by decide) (.inl (by decide))).trans (State.flag_setFlag_self _ _ _ (by decide) rfl)
  · exact (State.fld_setFld_self _ _ _ (by decide)).trans (Nat.mod_eq_of_lt hr)

/-- Of a descriptor: its ring is disabled and named, and no command of it is taken. -/
theorem State.descriptorFail_effect (s : State) {r : Nat} (hr : r < 12) (a : Nat) :
    let t := (s.dmaFail a).ringStops r
    (t.ring r).en = false ∧ t.flag F.HIF_STATUS_ring_err = true ∧ t.fld F.HIF_RING_ERR_ring = r ∧
      (t.ring r).cons = (s.ring r).cons ∧ t.latched 16 = true ∧ t.mem = s.mem := by
  obtain ⟨hen, hcons, herr, hname⟩ := (s.dmaFail a).ringStops_effect (r := r) (by omega)
  have hk := (s.dmaFail a).reacts_ringStops r
  have hlo : R.FLT_STATUS_LO ∉ [R.HIF_RING_CTRL r, R.HIF_STATUS, R.HIF_RING_ERR] := by
    simp [R.HIF_RING_CTRL, R.FLT_STATUS_LO]; omega
  have hhi : R.FLT_STATUS_HI ∉ [R.HIF_RING_CTRL r, R.HIF_STATUS, R.HIF_RING_ERR] := by
    simp [R.HIF_RING_CTRL, R.FLT_STATUS_HI]; omega
  exact ⟨hen, herr, hname, hcons.trans (congrFun (s.sparesRings_dmaFail a).conses r),
    (State.bit64_of_keeps hk.keeps hlo hhi _).trans (s.latched_dmaFail a), hk.mem.trans (s.reacts_dmaFail a).mem⟩

/-- The rings may parse what they might, where nothing that parsing asks for has changed. -/
theorem State.canParse_of_evtLost {t : State} {n r : Nat} (hh : t.hif = { s.hif with evtLost := n }) (ht : t.traffic = s.traffic)
    (hc : t.reg R.HIF_CMD_CFG = s.reg R.HIF_CMD_CFG) (hs : t.reg (R.HIF_RING_SIZE (4 + r)) = s.reg (R.HIF_RING_SIZE (4 + r))) :
    t.canParse r = s.canParse r := by
  have hring (k : Nat) : t.ring k = s.ring k := by rw [State.ring, hh]; rfl
  have hmax : t.maxParse = s.maxParse := by rw [State.maxParse, State.fld_of_reg hc, State.maxParse]
  have hroom : t.ringRoom (4 + r) = s.ringRoom (4 + r) := by
    rw [State.ringRoom, State.ringSize, State.fld_of_reg hs, hring, State.ringRoom, State.ringSize]
  simp only [State.canParse, hring, hmax, hroom, ht, hh]

/-- Neither the record nor the fault stops the host transfers. -/
theorem State.traffic_dmaFail (s : State) (a : Nat) {n : Nat} (hh : (s.dmaFail a).hif = { s.hif with evtLost := n }) :
    (s.dmaFail a).traffic = s.traffic := by
  have hr := State.reacts_raise (s.dmaNoted a) (i := 16) (word a) (by decide)
  have hb : (s.dmaFail a).flag F.HIF_STATUS_bme = s.flag F.HIF_STATUS_bme := by
    refine (State.flag_of_reg (hr.keeps _ (by decide))).trans ((State.flag_of_reg (State.reg_put_of_ne _ _ (by decide))).trans ?_)
    refine (State.flag_setFlag_of_apart _ _ _ _ (by decide) (.inr (.inr (by decide)))).trans (State.flag_of_reg ?_)
    exact State.reg_putPair_of_ne _ (by decide) (by decide) _
  simp only [State.traffic, State.mayIssue, (s.reacts_dmaFail a).sram, hb, hh]

/-- The sizes of the completion rings and the number of commands in a tick are none of the registers that a failed transfer writes. -/
theorem parseRegs_kept : R.HIF_CMD_CFG ∉ dmaRegs ++ raiseRegs ∧ ∀ k < 4, R.HIF_RING_SIZE (4 + k) ∉ dmaRegs ++ raiseRegs := by decide

/-- Of a module that does not own the pins, with its event ring disabled, a failed transfer leaves what its rings may parse. -/
theorem State.mayParse_dmaFail (hp : s.isOwner = false) (he : (s.ring 8).en = false) (a : Nat) {r : Nat} (hr : r < 4) :
    (s.dmaFail a).mayParse r = s.mayParse r := by
  obtain ⟨n, hh⟩ := (s.sparesRings_dmaFail a).quiet hp he
  obtain ⟨hcfg, hsize⟩ := parseRegs_kept
  have hk := (s.reacts_dmaFail a).keeps
  have hcan (k : Nat) (h4 : k < 4) : (s.dmaFail a).canParse k = s.canParse k :=
    State.canParse_of_evtLost hh (s.traffic_dmaFail a hh) (hk _ hcfg) (hk _ (hsize k h4))
  have hring (k : Nat) : (s.dmaFail a).ring k = s.ring k := by rw [State.ring, hh]; rfl
  have hall : ((List.range r).all fun k => !(s.dmaFail a).canParse k || ((s.dmaFail a).ring k).wait) =
      (List.range r).all fun k => !s.canParse k || (s.ring k).wait := by
    rw [Bool.eq_iff_iff, List.all_eq_true, List.all_eq_true]
    refine forall₂_congr fun k hm => ?_
    rw [hcan k ((List.mem_range.1 hm).trans hr), hring]
  rw [State.mayParse, hcan r hr, hall, State.mayParse]

/-- The payload of a copy that its ring may parse: the copy is taken and ends with DMA_ERR. -/
theorem State.payloadFail_of_copyIn {c : HostCmd} (hp : s.mayParse c.ring = true) (ho : cmdOp c = 2) (a : Nat) :
    s.payloadFail c a = (s.takeCmd c.ring).endCmd c stDmaErr (a % 2 ^ 32) := by
  simp [-Nat.reducePow, State.payloadFail, ho, hp]

/-- A command taken and ended: its completion waits last, and no more changes than the reactions to a fault may change. -/
theorem State.takeCmd_endCmd (s : State) (c : HostCmd) (st d : Nat) :
    ((s.takeCmd c.ring).endCmd c st d).hif.cpls = s.hif.cpls ++ [⟨c.ring, cmdTag c, cmdOp c, st, d, s.tickNum⟩] ∧
      s.Reacts (R.HIF_CMD_CNT :: reactRegs) ((s.takeCmd c.ring).endCmd c st d) := by
  refine ⟨?_, ?_⟩
  · rw [State.endCmd, (State.finish_onlyRegs _ _ _ _ _ _).hif]
    rfl
  · refine State.Reacts.trans ?_ ((State.Reacts.finish _ _ _ _ _ _).mono (by simp))
    exact ((State.Reacts.emit s _).trans (.setRing _ _ _)).trans (.count (by simp) _)

/-- Of a copy's payload: its completion waits last, with DMA_ERR and the address. -/
theorem State.copyInFail_effect (c : HostCmd) (hp : s.isOwner = false) (he : (s.ring 8).en = false) (a : Nat) :
    let t := ((s.dmaFail a).takeCmd c.ring).endCmd c stDmaErr (a % 2 ^ 32)
    t.hif.cpls = s.hif.cpls ++ [⟨c.ring, cmdTag c, cmdOp c, stDmaErr, a % 2 ^ 32, s.tickNum⟩] ∧ t.latched 16 = true ∧
      t.mem = s.mem := by
  obtain ⟨n, hh⟩ := (s.sparesRings_dmaFail a).quiet hp he
  obtain ⟨hcpl, hk⟩ := (s.dmaFail a).takeCmd_endCmd c stDmaErr (a % 2 ^ 32)
  refine ⟨?_, ?_, hk.mem.trans (s.reacts_dmaFail a).mem⟩
  · rw [hcpl, hh, State.tickNum, (s.reacts_dmaFail a).clk]
  · exact (State.bit64_of_keeps hk.keeps (by decide) (by decide) _).trans (s.latched_dmaFail a)

/-- A late fetch is counted and shown; no indices are taken (R24). -/
theorem State.fetchLate_effect (s : State) : s.fetchLate.hif.late = true ∧ s.fetchLate.hif.fetching = false ∧
    s.fetchLate.reg R.TCK_DBF_LATE_CNT = counted (s.reg R.TCK_DBF_LATE_CNT) ∧
    s.KeepsRegs s.fetchLate [R.TCK_DBF_LATE_CNT, R.TCK_STATUS] ∧ s.fetchLate.mem = s.mem := by
  refine ⟨rfl, rfl, ?_, ?_, rfl⟩
  · exact (State.reg_setFld_of_ne _ _ (by decide)).trans (s.reg_count_self _)
  · exact ((State.OnlyRegs.count (by simp) s).trans (.setFlag (by simp) _ _)).keeps

/-! ## The statement -/

/-- Settles O51: in each clause the operation's law above says what the command does; of a failed transfer, what raising the fault leaves
of the rings. -/
theorem theHostInterfaceIsConfiguredAndFails : Obligations.TheHostInterfaceIsConfiguredAndFails := by
  unfold Obligations.TheHostInterfaceIsConfiguredAndFails
  intro s r cr w ad c b
  refine ⟨fun hon => ⟨fun h4 he hw => ?_, fun hr hw hc => ?_, fun he x => ?_, fun he hp => ⟨?_, ?_, fun h4 h12 => ?_, fun h4 => ?_⟩,
    ?_, ?_, ?_, ?_, fun hl hc hm ht hv => ?_⟩, fun ht => ⟨?_, fun h4 => ?_, fun hp ho hown _ he _ => ?_, fun hf => ?_⟩⟩
  -- a ring's control, base and size
  · exact ⟨_, State.next_ifHost hon (State.ringCtrl_of_enable h4 he hw), s.reg_put_self _ _,
      (State.ring_setRing _ _ _ _).trans (if_pos rfl), (State.OnlyRegs.put (by simp) s _).keeps, rfl, rfl⟩
  · exact State.next_ifHost hon (State.ringCtrl_of_no_completions (hr ▸ cr.isLt) hw (hr ▸ hc))
  · exact State.next_ifHost hon (State.ringCfg_of_enabled he x)
  · exact State.next_ifHost hon (State.ringCfg_base_hi he hp)
  · obtain ⟨hlo, hhi, hk⟩ := s.putLo_effect (lo := R.HIF_RING_BASE_LO r) (hi := R.HIF_RING_BASE_HI r)
      (by simp only [R.HIF_RING_BASE_LO, R.HIF_RING_BASE_HI]; omega) w
    exact ⟨_, State.next_ifHost hon (State.ringCfg_base_lo he hp), hlo, hhi, hk, rfl, rfl⟩
  · exact State.next_ifHost hon (State.ringCfg_size he hp h4 h12)
  · exact State.next_ifHost hon (State.ringCfg_small_size he hp h4)
  -- HIF_CTRL, the endpoint's reset, bad accesses, bus mastering
  · exact State.next_ifHost hon rfl
  · exact ⟨_, State.next_ifHost hon rfl, s.endpointReset_effect r⟩
  · exact State.next_ifHost hon rfl
  · exact State.next_ifHost hon rfl
  · exact ⟨_, State.next_ifHost hon (State.busMaster_of_idle hl hc hm ht hv b), State.flag_setFlag_self _ _ _ (by decide) rfl,
      (State.OnlyRegs.setFlag (by simp) s b).keeps, rfl, rfl⟩
  -- failed transfers: of an event, a descriptor, a payload, the doorbell block
  · obtain ⟨haddr, herr, hcnt⟩ := s.dmaFail_records ad
    exact ⟨_, congrArg Host.Outcome.next (if_pos ht), haddr, herr, hcnt, s.latched_dmaFail _, (s.reacts_dmaFail _).mem⟩
  · exact ⟨_, congrArg Host.Outcome.next ((if_pos ht).trans (if_pos h4)), s.descriptorFail_effect r.isLt ad.toNat⟩
  · have hparse := (State.mayParse_dmaFail hown he ad.toNat c.ring.isLt).trans hp
    exact ⟨_, congrArg Host.Outcome.next ((if_pos ht).trans (State.payloadFail_of_copyIn hparse ho ad.toNat)),
      ho ▸ State.copyInFail_effect c hown he ad.toNat⟩
  · exact ⟨_, congrArg Host.Outcome.next ((if_pos ht).trans (if_pos hf)), s.fetchLate_effect⟩

end Sys2Proof.Machine
end

section
/-!
SUPPORT. Converter ports (R373 to R390): what storing a port changes and what it leaves, and the frame that the commands of one port keep.
-/

namespace Sys2Proof.Tbl

variable {α : Type} {a : Nat} {v : α}

/-- An entry that is put is there. -/
theorem mem_put_self (t : List (Nat × α)) : (a, v) ∈ put a v t := by
  induction t with
  | nil => simp [put]
  | cons e r ih =>
    obtain ⟨k, x⟩ := e
    rw [put]
    split_ifs
    · simp
    · simp
    · exact List.mem_cons_of_mem _ ih

/-- Putting an entry leaves those of the other keys. -/
theorem mem_put_of_ne {t : List (Nat × α)} {e : Nat × α} (h : e ∈ t) (hne : e.1 ≠ a) : e ∈ put a v t := by
  induction t with
  | nil => cases h
  | cons x r ih =>
    obtain ⟨k, y⟩ := x
    rw [put]
    rcases List.mem_cons.1 h with rfl | h
    · rw [if_neg hne]
      split_ifs <;> simp
    · split_ifs
      · exact List.mem_cons_of_mem _ h
      · exact List.mem_cons_of_mem _ (List.mem_cons_of_mem _ h)
      · exact List.mem_cons_of_mem _ (ih h)

end Sys2Proof.Tbl

namespace Sys2Proof.Machine

/-! ## Storing a port -/

section
variable (s : State) (p o : Nat) (x : TdmPort) (f : Fld) (v : Nat)

@[simp] theorem State.port_setPort_self : (s.setPort p x).port p = x := Tbl.get_set_self _ _ _ _

theorem State.port_setPort_of_ne {q : Nat} (h : p ≠ q) : (s.setPort p x).port q = s.port q := Tbl.get_set_of_ne _ _ _ h

@[simp] theorem State.reg_setPort : (s.setPort p x).reg o = s.reg o := rfl
@[simp] theorem State.outbox_setPort : (s.setPort p x).outbox = s.outbox := rfl
@[simp] theorem State.flag_setPort : (s.setPort p x).flag f = s.flag f := rfl
@[simp] theorem State.port_setFld : (s.setFld f v).port p = s.port p := rfl

@[simp] theorem State.port_sendFrame (q : Fin 16) (ws : List Word) : (s.sendFrame q ws).port p = s.port p := by
  unfold State.sendFrame State.drive
  split_ifs <;> rfl

end

/-- A port that does not drive DOUT sends no frame. -/
theorem State.sendFrame_of_off {s : State} {p : Fin 16} (h : s.appFlag (F.TDM_CFG_out_en p) = false) (ws : List Word) :
    s.sendFrame p ws = s := if_neg (Bool.eq_false_iff.1 h)

/-- The state of a port reads back (R381). -/
theorem State.portSt_setPortSt (s : State) (p : Nat) {st : Nat} (h : st < 8) : (s.setPortSt p st).portSt p = st :=
  (s.fld_setFld_self _ _ (by simp)).trans (Nat.mod_eq_of_lt h)

/-- The flags of a port's status stand beside its state. -/
theorem State.flag_setPortSt (s : State) (p st : Nat) {f : Fld} (hf : f.hi < 32) (h : 2 < f.lo) :
    (s.setPortSt p st).flag f = s.flag f := s.flag_setFld_of_apart _ f st hf (.inr (.inl h))

/-! ## The frame -/

/-- From `s` to `t` change at most the registers listed, what was sent, and of the converter ports port p. -/
structure State.OnlyPort (l : List Nat) (p : Fin 16) (s t : State) : Prop where
  frame : ∃ r z d o, t = { s with regs := r, sets := z, tdm := d, outbox := o }
  keeps : s.KeepsRegs t l
  others : ∀ q : Fin 16, q ≠ p → t.port q = s.port q

namespace State.OnlyPort

variable {l m : List Nat} {p : Fin 16} {s t u : State}

theorem refl (s : State) : OnlyPort l p s s := ⟨⟨_, _, _, _, rfl⟩, fun _ _ => rfl, fun _ _ => rfl⟩

theorem trans (h : OnlyPort l p s t) (k : OnlyPort l p t u) : OnlyPort l p s u := by
  refine ⟨?_, fun o ho => (k.keeps o ho).trans (h.keeps o ho), fun q hq => (k.others q hq).trans (h.others q hq)⟩
  obtain ⟨_, _, _, _, rfl⟩ := h.frame
  obtain ⟨_, _, _, _, rfl⟩ := k.frame
  exact ⟨_, _, _, _, rfl⟩

theorem mono (h : OnlyPort l p s t) (hm : l ⊆ m) : OnlyPort m p s t := ⟨h.frame, fun o ho => h.keeps o fun hl => ho (hm hl), h.others⟩

theorem ite {c : Prop} [Decidable c] (h : c → OnlyPort l p s t) (k : ¬c → OnlyPort l p s u) : OnlyPort l p s (if c then t else u) := by
  split_ifs with hc
  · exact h hc
  · exact k hc

theorem of_onlyRegs (h : State.OnlyRegs l s t) : OnlyPort l p s t := by
  refine ⟨?_, h.keeps, fun q _ => ?_⟩ <;> obtain ⟨_, _, rfl⟩ := h.frame
  · exact ⟨_, _, _, _, rfl⟩
  · rfl

section
variable (h : OnlyPort l p s t)
include h

theorem mem : t.mem = s.mem := by obtain ⟨_, _, _, _, rfl⟩ := h.frame; rfl
theorem appFlag (f : Fld) : t.appFlag f = s.appFlag f := by obtain ⟨_, _, _, _, rfl⟩ := h.frame; rfl
theorem tdmCh (q : Nat) : t.tdmCh q = s.tdmCh q := by obtain ⟨_, _, _, _, rfl⟩ := h.frame; rfl
theorem lineWords (q : Nat) (bs : List Bool) : t.lineWords q bs = s.lineWords q bs := by obtain ⟨_, _, _, _, rfl⟩ := h.frame; rfl

end

theorem setFld {f : Fld} (hf : f.reg ∈ l) (s : State) (v : Nat) : OnlyPort l p s (s.setFld f v) := of_onlyRegs (.setFld hf s v)
theorem setFlag {f : Fld} (hf : f.reg ∈ l) (s : State) (b : Bool) : OnlyPort l p s (s.setFlag f b) := of_onlyRegs (.setFlag hf s b)
theorem count {o : Nat} (ho : o ∈ l) (s : State) : OnlyPort l p s (s.count o) := of_onlyRegs (.count ho s)

theorem setPort (s : State) (x : TdmPort) : OnlyPort l p s (s.setPort p x) :=
  ⟨⟨_, _, _, _, rfl⟩, fun _ _ => rfl, fun _ hq => s.port_setPort_of_ne _ _ fun e => hq (Fin.ext e.symm)⟩

theorem slipEvent (s : State) (e : SlipEvent) (x : Nat) : OnlyPort l p s (s.slipEvent p e x) := setPort _ _

theorem sendFrame (s : State) (ws : List Word) : OnlyPort l p s (s.sendFrame p ws) :=
  ite (fun _ => ite (fun _ => ⟨⟨_, _, _, _, rfl⟩, fun _ _ => rfl, fun _ _ => rfl⟩) fun _ => refl s) fun _ => refl s

theorem putFrame (s : State) (x : Nat) (ws : List Word) : OnlyPort l p s (s.putFrame p x ws) := ite (fun _ => setPort _ _) fun _ => refl s

theorem followOut (s : State) (x : Nat) : OnlyPort l p s (s.followOut p x) := ite (fun _ => setPort _ _) fun _ => sendFrame _ _

theorem giveFrame (s : State) (x : Nat) (ws : List Word) : OnlyPort l p s (s.giveFrame p x ws) :=
  ((putFrame _ _ _).trans (followOut _ _)).trans (setPort _ _)

end State.OnlyPort

/-! ## The tick grid -/

section
variable {s t : State} (h : t.reg R.TCK_CFG = s.reg R.TCK_CFG)
include h

/-- The length of a sample period and of a tick are TCK_CFG's (R13). -/
theorem State.sampU_of_reg_TCK_CFG : t.sampU = s.sampU := congrArg sampleU (State.fld_of_reg h)

theorem State.T_of_reg_TCK_CFG : t.T = s.T := congrArg tSamples (State.fld_of_reg h)

/-- The instants of the positions are TCK_CFG's (R377). -/
theorem State.posU_of_reg_TCK_CFG (x : Nat) : t.posU x = s.posU x := by
  rw [State.posU, State.sampU_of_reg_TCK_CFG h, State.T_of_reg_TCK_CFG h, State.posU]

end

end Sys2Proof.Machine
end

section
/-!
PROOFS. Converter ports in follow mode (R381 to R384): slips, the lock, and the loss of the external clock.
-/

namespace Sys2Proof.Machine

variable {s t : State} {p q r : Fin 16} {e0 edge bclks k : Nat} {w : List Word} {lead : Option Nat}

/-! ## A frame takes a position (R382) -/

/-- The window of a port that captures holds the frame. -/
theorem State.port_putFrame (s : State) (p x : Nat) (w : List Word) : (s.putFrame p x w).port p =
    { s.port p with win := if s.portIn p then Tbl.put x w (s.port p).win else (s.port p).win } := by
  unfold State.putFrame
  split_ifs
  · exact s.port_setPort_self _ _
  · rfl

theorem State.port_followOut (s : State) (p : Fin 16) (x : Nat) : ∃ e, (s.followOut p x).port p = { s.port p with early := e } := by
  unfold State.followOut
  extract_lets y n
  split_ifs
  · exact ⟨_, s.port_setPort_self _ _⟩
  all_goals exact ⟨_, State.port_sendFrame _ _ _ _⟩

theorem State.port_giveFrame (s : State) (p : Fin 16) (x : Nat) (w : List Word) : ∃ e, (s.giveFrame p x w).port p =
    { s.port p with win := if s.portIn p then Tbl.put x w (s.port p).win else (s.port p).win, early := e, next := some (x + 1), last := w,
                    cur := some x } := by
  obtain ⟨e, he⟩ := (s.putFrame p x w).port_followOut p x
  refine ⟨e, (State.port_setPort_self _ _ _).trans ?_⟩
  rw [he, State.port_putFrame]

/-- Whether a port captures depends on its state and on TDM_CFG as applied. -/
theorem State.portIn_congr (h : t.portSt p = s.portSt p) (ha : t.appFlag (F.TDM_CFG_in_en p) = s.appFlag (F.TDM_CFG_in_en p)) :
    t.portIn p = s.portIn p := by rw [State.portIn, h, ha, State.portIn]

theorem State.portSt_setPhase (s : State) (p edge x : Nat) : (s.setPhase p edge x).portSt p = s.portSt p :=
  s.fld_setFld_of_apart _ _ _ (by simp) (.inr (.inr (by simp)))

theorem State.portIn_setPhase (s : State) (p : Fin 16) (edge x : Nat) : (s.setPhase p edge x).portIn p = s.portIn p :=
  State.portIn_congr (s.portSt_setPhase p edge x) rfl

/-! ## Slips (R382) -/

/-- A slip at position k is counted, shown and recorded (R382, R388). -/
def State.slipNoted (s : State) (p : Fin 16) (cnt : Nat) (e : SlipEvent) (k : Nat) : State :=
  ((s.count cnt).setFlag (F.TDM_STATUS_slip p) true).slipEvent p e k

section
variable (s : State) (p : Fin 16) (cnt : Nat) (e : SlipEvent) (k : Nat)

theorem State.onlyPort_slipNoted : State.OnlyPort [R.TDM_STATUS p, cnt] p s (s.slipNoted p cnt e k) :=
  ((State.OnlyPort.count (by simp) s).trans (.setFlag (by simp) _ _)).trans (.slipEvent _ _ _)

theorem State.port_slipNoted : ∃ l, (s.slipNoted p cnt e k).port p = { s.port p with slips := l } := ⟨_, State.port_setPort_self _ _ _⟩

theorem State.flag_slipNoted : (s.slipNoted p cnt e k).flag (F.TDM_STATUS_slip p) = true :=
  State.flag_setFlag_self _ _ _ (by simp) rfl

theorem State.reg_slipNoted (h : R.TDM_STATUS p ≠ cnt) : (s.slipNoted p cnt e k).reg cnt = counted (s.reg cnt) :=
  ((s.count cnt).reg_setFld_of_ne _ h).trans (s.reg_count_self cnt)

theorem State.portSt_slipNoted (h : R.TDM_STATUS p ≠ cnt) : (s.slipNoted p cnt e k).portSt p = s.portSt p :=
  ((s.count cnt).fld_setFld_of_apart (F.TDM_STATUS_slip p) _ _ (by simp) (.inr (.inr (by simp)))).trans (s.fld_put_of_ne _ h.symm)

end

theorem State.placeFrame_of_in_range (h : -(s.sampU : Int) < edge - s.posU k) (h' : (edge : Int) - s.posU k ≤ s.sampU) :
    s.placeFrame p edge k w = (s.setPhase p edge k).giveFrame p k w :=
  (if_neg (not_lt.2 h')).trans (if_neg (not_le.2 h))

/-- A frame whose phase is -1 or less is dropped, and the next one takes its position (R382). -/
theorem State.placeFrame_of_ahead (h : (edge : Int) - s.posU k ≤ -(s.sampU : Int)) : s.placeFrame p edge k w =
    (s.slipNoted p (R.TDM_SLIP_DROP_CNT p) .drop k).setPort p
      { (s.slipNoted p (R.TDM_SLIP_DROP_CNT p) .drop k).port p with next := some k, cur := none } :=
  (if_neg (by omega)).trans (if_pos h)

/-- A slip that repeats: position k has taken the frame before once more (R382). -/
def State.repeated (s : State) (p : Fin 16) (k : Nat) : State :=
  ((s.slipNoted p (R.TDM_SLIP_REP_CNT p) .rep k).putFrame p k (s.port p).last).followOut p (k - 1)

/-- The count of repeats is not the port's status. -/
theorem slipRep_ne (p : Nat) : R.TDM_STATUS p ≠ R.TDM_SLIP_REP_CNT p := by
  simp only [R.TDM_STATUS, R.TDM_SLIP_REP_CNT]
  omega

/-- A frame whose phase exceeds +1 moves on to the next position (R382). -/
theorem State.placeFrame_of_behind (h : (s.sampU : Int) < edge - s.posU k) : s.placeFrame p edge k w =
    ((s.repeated p k).setPhase p edge (k + 1)).giveFrame p (k + 1) w := by
  have hl : ((s.slipNoted p (R.TDM_SLIP_REP_CNT p) .rep k).port p).last = (s.port p).last := by
    obtain ⟨_, e⟩ := s.port_slipNoted p (R.TDM_SLIP_REP_CNT p) .rep k
    rw [e]
  exact (if_pos h).trans (by rw [State.repeated, ← hl]; rfl)

theorem State.onlyPort_repeated (s : State) (p : Fin 16) (k : Nat) :
    State.OnlyPort [R.TDM_STATUS p, R.TDM_SLIP_REP_CNT p] p s (s.repeated p k) :=
  ((s.onlyPort_slipNoted p _ .rep k).trans (.putFrame _ _ _)).trans (.followOut _ _)

/-- Beside the slip's own registers a repeated position changes none. -/
theorem State.reg_repeated (s : State) (p : Fin 16) (k o : Nat) :
    (s.repeated p k).reg o = (s.slipNoted p (R.TDM_SLIP_REP_CNT p) .rep k).reg o :=
  ((State.OnlyPort.putFrame (l := []) (p := p) _ _ _).trans (.followOut _ _)).keeps o (by simp)

theorem State.portIn_repeated (s : State) (p : Fin 16) (k : Nat) : (s.repeated p k).portIn p = s.portIn p :=
  State.portIn_congr ((State.fld_of_reg (s.reg_repeated p k _)).trans (s.portSt_slipNoted p _ .rep k (slipRep_ne p)))
    ((s.onlyPort_repeated p k).appFlag _)

theorem State.port_repeated (s : State) (p : Fin 16) (k : Nat) : ∃ e l, (s.repeated p k).port p =
    { s.port p with win := if s.portIn p then Tbl.put k (s.port p).last (s.port p).win else (s.port p).win, early := e, slips := l } := by
  obtain ⟨l, hl⟩ := s.port_slipNoted p (R.TDM_SLIP_REP_CNT p) .rep k
  obtain ⟨e, he⟩ := ((s.slipNoted p (R.TDM_SLIP_REP_CNT p) .rep k).putFrame p k (s.port p).last).port_followOut p (k - 1)
  have hi : (s.slipNoted p (R.TDM_SLIP_REP_CNT p) .rep k).portIn p = s.portIn p :=
    State.portIn_congr (s.portSt_slipNoted p _ .rep k (slipRep_ne p)) rfl
  exact ⟨e, l, by rw [State.repeated, he, State.port_putFrame, hl, hi]⟩

/-! ## Frame-sync edges (R381 to R383) -/

/-- At a port that saw its last frame-sync edge at `e0`, one comes at the valid distance of R381, and their period lies within 1000 ppm. -/
structure State.ValidEdge (s : State) (p : Fin 16) (e0 edge bclks : Nat) : Prop where
  before : (s.port p).edge = some e0
  dist : bclks = s.tdmCh p * 32
  later : e0 < edge
  rate : ((edge : Int) - e0 - s.sampU).natAbs * 1000 ≤ s.sampU

/-- The edge's time is noted, and the rate that the period from `e0` to it shows (R381). -/
def State.edgeNoted (s : State) (p : Fin 16) (e0 edge : Nat) : State :=
  let period : Int := edge - e0
  (s.setPort p { s.port p with edge := some edge }).setFld (F.TDM_RATE_ppm p)
    (BitVec.ofInt 16 (satN 16 (openDivI 5 ((s.sampU - period) * 10000000) period))).toNat

section
variable (s : State) (p : Fin 16) (e0 edge : Nat)

theorem State.port_edgeNoted : (s.edgeNoted p e0 edge).port p = { s.port p with edge := some edge } := s.port_setPort_self _ _

theorem State.onlyPort_edgeNoted : State.OnlyPort [R.TDM_RATE p] p s (s.edgeNoted p e0 edge) :=
  (State.OnlyPort.setPort s _).trans (.setFld (by simp) _ _)

theorem State.reg_edgeNoted {o : Nat} (h : o ≠ R.TDM_RATE p) : (s.edgeNoted p e0 edge).reg o = s.reg o :=
  (s.onlyPort_edgeNoted p e0 edge).keeps o (by simpa using h)

end

/-- The frame joins those of the windows not yet past (R388). -/
def State.rawNoted (s : State) (p : Fin 16) (edge : Nat) (w : List Word) : State :=
  s.setPort p { s.port p with raw := (s.port p).raw ++ [⟨edge, w, (s.port p).cur, false⟩] }

theorem State.port_rawNoted (s : State) (p : Fin 16) (edge : Nat) (w : List Word) :
    ∃ l, (s.rawNoted p edge w).port p = { s.port p with raw := l } := ⟨_, s.port_setPort_self _ _⟩

theorem State.assign_of_next (h : (s.port p).next = some k) : s.assign p edge w lead = s.placeFrame p edge k w := by
  simp only [State.assign, h]

section
variable (h : s.ValidEdge p e0 edge bclks)
include h

/-- A valid frame of a following port with a position takes it, or slips (R382). -/
theorem State.followFrame_of_following (hst : s.portSt p = 3) (hn : (s.port p).next = some k) :
    s.followFrame p edge bclks w lead = ((s.edgeNoted p e0 edge).placeFrame p edge k w).rawNoted p edge w := by
  obtain ⟨hb, hd, hl, hr⟩ := h
  have hpos : (0 : Int) < edge - e0 := by omega
  have hnext : ((s.edgeNoted p e0 edge).port p).next = some k := by rw [State.port_edgeNoted, hn]
  have ha := State.assign_of_next (edge := edge) (w := w) (lead := lead) hnext
  rw [← ha]
  simp only [State.followFrame, hst, hb, ← hd, hr, hpos, Option.isSome_some, decide_true, Bool.true_and, Bool.not_true, Bool.false_eq_true,
    if_true, if_false]
  rfl

/-- The 64th valid frame of a hunting port locks it (R381). -/
theorem State.followFrame_of_locking (hst : s.portSt p = 2) (hv : (s.port p).valid = 63) :
    s.followFrame p edge bclks w lead = ((s.edgeNoted p e0 edge).setPort p
      { (s.edgeNoted p e0 edge).port p with valid := 0, next := none, pend := none }).setPortSt p 3 := by
  obtain ⟨hb, hd, hl, hr⟩ := h
  have hpos : (0 : Int) < edge - e0 := by omega
  have h64 : 64 ≤ (s.port p).valid + 1 := by omega
  simp only [State.followFrame, hst, hb, ← hd, hr, hpos, h64, Option.isSome_some, decide_true, Bool.true_and, Bool.true_or, Nat.reduceEqDiff,
    if_true, if_false]
  rfl

end

/-! ## What a valid frame does to a following port (R382) -/

section
variable (h : s.ValidEdge p e0 edge bclks) (hst : s.portSt p = 3) (hn : (s.port p).next = some k)
  (ht : t = s.followFrame p edge bclks w lead)
include hst

/-- What noting the edge leaves as it was: of a following port, whether it captures, and the grid. -/
theorem State.edgeNoted_keeps : (s.edgeNoted p e0 edge).portIn p = s.appFlag (F.TDM_CFG_in_en p) ∧
    (s.edgeNoted p e0 edge).sampU = s.sampU ∧ (s.edgeNoted p e0 edge).posU k = s.posU k := by
  have hk {o : Nat} (ho : o ≠ R.TDM_RATE p) := s.reg_edgeNoted p e0 edge ho
  have hcfg := hk (o := R.TCK_CFG) (by simp only [R.TCK_CFG, R.TDM_RATE]; omega)
  have hs : (s.edgeNoted p e0 edge).portSt p = 3 := (State.fld_of_reg (hk (by simp))).trans hst
  refine ⟨?_, State.sampU_of_reg_TCK_CFG hcfg, State.posU_of_reg_TCK_CFG hcfg k⟩
  rw [State.portIn, hs, (s.onlyPort_edgeNoted p e0 edge).appFlag]
  rfl

include h hn ht

/-- Within (-1, +1] the frame takes its position. -/
theorem State.followFrame_of_in_range (hlo : -(s.sampU : Int) < edge - s.posU k) (hhi : (edge : Int) - s.posU k ≤ s.sampU) :
    State.OnlyPort [R.TDM_STATUS p, R.TDM_RATE p] p s t ∧ (t.port p).edge = some edge ∧ (t.port p).next = some (k + 1) ∧
      (t.port p).last = w ∧ (s.appFlag (F.TDM_CFG_in_en p) = true → (k, w) ∈ (t.port p).win) := by
  obtain ⟨hin, hs, hp⟩ := State.edgeNoted_keeps (k := k) (e0 := e0) (edge := edge) hst
  rw [State.followFrame_of_following h hst hn, State.placeFrame_of_in_range (by rwa [hs, hp]) (by rwa [hs, hp])] at ht
  have hframe : State.OnlyPort [R.TDM_STATUS p, R.TDM_RATE p] p s t := by
    rw [ht]
    exact ((((s.onlyPort_edgeNoted p e0 edge).mono (by simp)).trans (.setFld (by simp) _ _)).trans (.giveFrame _ _ _)).trans (.setPort _ _)
  obtain ⟨_, hg⟩ := ((s.edgeNoted p e0 edge).setPhase p edge k).port_giveFrame p k w
  obtain ⟨_, hr⟩ := (((s.edgeNoted p e0 edge).setPhase p edge k).giveFrame p k w).port_rawNoted p edge w
  refine ⟨hframe, ?_⟩
  rw [ht, hr, hg, State.portIn_setPhase, hin, State.setPhase, State.port_setFld, State.port_edgeNoted]
  exact ⟨rfl, rfl, rfl, fun hen => by rw [hen]; exact Tbl.mem_put_self _⟩

/-- At -1 or less the frame is dropped: its position waits for the next one. -/
theorem State.followFrame_of_ahead (hphi : (edge : Int) - s.posU k ≤ -(s.sampU : Int)) :
    State.OnlyPort [R.TDM_STATUS p, R.TDM_RATE p, R.TDM_SLIP_DROP_CNT p] p s t ∧ (t.port p).edge = some edge ∧
      (t.port p).next = some k ∧ (t.port p).win = (s.port p).win ∧ t.flag (F.TDM_STATUS_slip p) = true ∧
      t.reg (R.TDM_SLIP_DROP_CNT p) = counted (s.reg (R.TDM_SLIP_DROP_CNT p)) ∧ t.outbox = s.outbox := by
  obtain ⟨-, hs, hp⟩ := State.edgeNoted_keeps (k := k) (e0 := e0) (edge := edge) hst
  rw [State.followFrame_of_following h hst hn, State.placeFrame_of_ahead (by rwa [hs, hp])] at ht
  have hframe : State.OnlyPort [R.TDM_STATUS p, R.TDM_RATE p, R.TDM_SLIP_DROP_CNT p] p s t := by
    rw [ht]
    exact ((((s.onlyPort_edgeNoted p e0 edge).mono (by simp)).trans ((State.onlyPort_slipNoted _ p _ _ _).mono (by simp))).trans
      (.setPort _ _)).trans (.setPort _ _)
  have hcnt : (s.edgeNoted p e0 edge).reg (R.TDM_SLIP_DROP_CNT p) = s.reg (R.TDM_SLIP_DROP_CNT p) :=
    s.reg_edgeNoted p e0 edge (by simp only [R.TDM_SLIP_DROP_CNT, R.TDM_RATE]; omega)
  have hne : R.TDM_STATUS p ≠ R.TDM_SLIP_DROP_CNT p := by
    simp only [R.TDM_STATUS, R.TDM_SLIP_DROP_CNT]
    omega
  obtain ⟨_, hl⟩ := (s.edgeNoted p e0 edge).port_slipNoted p (R.TDM_SLIP_DROP_CNT p) .drop k
  refine ⟨hframe, ?_, ?_, ?_, ?_, ?_, ?_⟩
  · rw [ht, State.rawNoted, State.port_setPort_self, State.port_setPort_self, hl, State.port_edgeNoted]
  · rw [ht, State.rawNoted, State.port_setPort_self, State.port_setPort_self]
  · rw [ht, State.rawNoted, State.port_setPort_self, State.port_setPort_self, hl, State.port_edgeNoted]
  · rw [ht, State.rawNoted, State.flag_setPort, State.flag_setPort, State.flag_slipNoted]
  · rw [ht, State.rawNoted, State.reg_setPort, State.reg_setPort, State.reg_slipNoted _ p _ _ _ hne, hcnt]
  · rw [ht]
    rfl

/-- Above +1 the frame before stands in the position once more, and the frame takes the next one. -/
theorem State.followFrame_of_behind (hphi : (s.sampU : Int) < edge - s.posU k) :
    State.OnlyPort [R.TDM_STATUS p, R.TDM_RATE p, R.TDM_SLIP_REP_CNT p] p s t ∧ (t.port p).edge = some edge ∧
      (t.port p).next = some (k + 2) ∧ (t.port p).last = w ∧ t.flag (F.TDM_STATUS_slip p) = true ∧
      (s.appFlag (F.TDM_CFG_in_en p) = true → (k, (s.port p).last) ∈ (t.port p).win ∧ (k + 1, w) ∈ (t.port p).win) ∧
      t.reg (R.TDM_SLIP_REP_CNT p) = counted (s.reg (R.TDM_SLIP_REP_CNT p)) := by
  obtain ⟨hin, hs, hp⟩ := State.edgeNoted_keeps (k := k) (e0 := e0) (edge := edge) hst
  rw [State.followFrame_of_following h hst hn, State.placeFrame_of_behind (by rwa [hs, hp])] at ht
  have hedge : State.OnlyPort _ p s _ := s.onlyPort_edgeNoted p e0 edge
  have hcnt : (s.edgeNoted p e0 edge).reg (R.TDM_SLIP_REP_CNT p) = s.reg (R.TDM_SLIP_REP_CNT p) :=
    s.reg_edgeNoted p e0 edge (by simp only [R.TDM_SLIP_REP_CNT, R.TDM_RATE]; omega)
  have hport := s.port_edgeNoted p e0 edge
  generalize s.edgeNoted p e0 edge = u at hin ht hedge hcnt hport
  -- after the phase is written, giving the frame its position changes no register
  have hgive : State.OnlyPort [] p ((u.repeated p k).setPhase p edge (k + 1)) t := by
    rw [ht]
    exact (State.OnlyPort.giveFrame _ _ _).trans (.setPort _ _)
  obtain ⟨_, _, hrep⟩ := u.port_repeated p k
  obtain ⟨_, hg⟩ := ((u.repeated p k).setPhase p edge (k + 1)).port_giveFrame p (k + 1) w
  obtain ⟨_, hr⟩ := (((u.repeated p k).setPhase p edge (k + 1)).giveFrame p (k + 1) w).port_rawNoted p edge w
  have hframe : State.OnlyPort [R.TDM_STATUS p, R.TDM_RATE p, R.TDM_SLIP_REP_CNT p] p s t :=
    (((hedge.mono (by simp)).trans ((u.onlyPort_repeated p k).mono (by simp))).trans (.setFld (by simp) _ _)).trans (hgive.mono (by simp))
  have hflag : t.flag (F.TDM_STATUS_slip p) = true := by
    rw [State.flag_of_reg (hgive.keeps _ (by simp)), State.setPhase, State.flag_setFld_of_apart _ _ _ _ (by simp) (.inr (.inl (by simp))),
      State.flag_of_reg (u.reg_repeated p k _), State.flag_slipNoted]
  have hreg : t.reg (R.TDM_SLIP_REP_CNT p) = counted (s.reg (R.TDM_SLIP_REP_CNT p)) := by
    rw [hgive.keeps _ (by simp), State.setPhase, State.reg_setFld_of_ne _ _ (slipRep_ne p), u.reg_repeated,
      u.reg_slipNoted p _ _ _ (slipRep_ne p), hcnt]
  refine ⟨hframe, ?_, ?_, ?_, hflag, fun hen => ?_, hreg⟩
  · rw [ht, hr, hg, State.setPhase, State.port_setFld, hrep, hport]
  · rw [ht, hr, hg]
  · rw [ht, hr, hg]
  · rw [ht, hr, hg, State.portIn_setPhase, State.portIn_repeated, hin, hen, State.setPhase, State.port_setFld, hrep, hin, hen, hport]
    exact ⟨Tbl.mem_put_of_ne (Tbl.mem_put_self _) (Nat.succ_ne_self k).symm, Tbl.mem_put_self _⟩

/-- Whatever its phase, the frame leaves its edge's time with the port, and memory alone. -/
theorem State.followFrame_keeps : t.mem = s.mem ∧ (t.port p).edge = some edge := by
  rcases lt_or_ge (s.sampU : Int) (edge - s.posU k) with hphi | hhi
  · obtain ⟨hk, he, -⟩ := State.followFrame_of_behind h hst hn ht hphi
    exact ⟨hk.mem, he⟩
  rcases lt_or_ge (-(s.sampU : Int)) (edge - s.posU k) with hlo | hphi
  · obtain ⟨hk, he, -⟩ := State.followFrame_of_in_range h hst hn ht hlo hhi
    exact ⟨hk.mem, he⟩
  · obtain ⟨hk, he, -⟩ := State.followFrame_of_ahead h hst hn ht hphi
    exact ⟨hk.mem, he⟩

end

/-- A port that locks follows from then on, and is to be assigned anew (R381, R382). -/
theorem State.followFrame_locks (h : s.ValidEdge p e0 edge bclks) (hst : s.portSt p = 2) (hv : (s.port p).valid = 63)
    (ht : t = s.followFrame p edge bclks w lead) :
    t.portSt p = 3 ∧ (t.port p).next = none ∧ s.KeepsRegs t [R.TDM_STATUS p, R.TDM_RATE p] ∧ t.mem = s.mem ∧ t.outbox = s.outbox := by
  rw [State.followFrame_of_locking h hst hv] at ht
  have hk : State.OnlyPort [R.TDM_STATUS p, R.TDM_RATE p] p s t := by
    rw [ht]
    exact (((s.onlyPort_edgeNoted p e0 edge).mono (by simp)).trans (.setPort _ _)).trans (.setFld (by simp) _ _)
  refine ⟨?_, ?_, hk.keeps, hk.mem, ?_⟩
  · rw [ht, State.portSt_setPortSt _ _ (by decide)]
  · rw [ht, State.setPortSt, State.port_setFld, State.port_setPort_self]
  · rw [ht]
    rfl

/-! ## The lands of a port (R381, R383) -/

/-- The one port that takes its clocks on the lands of port q meets the edge with the bits of its own DIN. -/
theorem State.followEdge_of_single {din dp : List Bool} (h : s.followers q = [p]) : s.followEdge q edge bclks din [(p, dp)] =
    s.followFrame p edge bclks (s.lineWords p (if p = q then din else dp)) (s.leadNext q) := by
  simp [State.followEdge, h]

/-- Two ports there meet it one after the other. -/
theorem State.followEdge_of_pair {din dp dr : List Bool} (h : s.followers q = [p, r]) (hne : p ≠ r) :
    s.followEdge q edge bclks din [(p, dp), (r, dr)] =
      let u := s.followFrame p edge bclks (s.lineWords p (if p = q then din else dp)) (s.leadNext q)
      u.followFrame r edge bclks (u.lineWords r (if r = q then din else dr)) (s.leadNext q) := by
  simp [State.followEdge, h, hne]

/-- Of two ports on the same lands, what the one did leaves the other's edge valid, its state and its position. -/
theorem State.ValidEdge.of_other (h : s.ValidEdge r e0 edge bclks) (hk : State.OnlyPort [R.TDM_STATUS p, R.TDM_RATE p] p s t)
    (hne : r ≠ p) : t.ValidEdge r e0 edge bclks ∧ t.portSt r = s.portSt r ∧ t.sampU = s.sampU ∧ t.posU k = s.posU k := by
  obtain ⟨hb, hd, hl, hr⟩ := h
  have hpr : (r : Nat) ≠ p := fun e => hne (Fin.ext e)
  have hcfg : t.reg R.TCK_CFG = s.reg R.TCK_CFG := hk.keeps _ (by simp only [R.TCK_CFG, R.TDM_STATUS, R.TDM_RATE, List.mem_cons]; simp; omega)
  have hst : t.reg (R.TDM_STATUS r) = s.reg (R.TDM_STATUS r) :=
    hk.keeps _ (by simp only [R.TDM_STATUS, R.TDM_RATE, List.mem_cons]; simp; omega)
  have hs := State.sampU_of_reg_TCK_CFG hcfg
  exact ⟨⟨by rw [hk.others r hne, hb], by rw [hk.tdmCh, hd], hl, by rwa [hs]⟩, State.fld_of_reg hst, hs, State.posU_of_reg_TCK_CFG hcfg k⟩

/-- Two ports that follow on the same lands with one position take the same position (R383). -/
theorem State.followEdge_pair_in_range {din dp dr : List Bool} (hq : s.followers q = [p, r]) (hne : p ≠ r) (hst : s.portSt p = 3)
    (hst' : s.portSt r = 3) (h : s.ValidEdge p e0 edge bclks) (h' : s.ValidEdge r e0 edge bclks) (hn : (s.port p).next = some k)
    (hn' : (s.port r).next = some k) (hlo : -(s.sampU : Int) < edge - s.posU k) (hhi : (edge : Int) - s.posU k ≤ s.sampU)
    (ht : t = s.followEdge q edge bclks din [(p, dp), (r, dr)]) :
    (t.port p).next = some (k + 1) ∧ (t.port r).next = some (k + 1) ∧ (t.port r).last = s.lineWords r (if r = q then din else dr) ∧
      t.mem = s.mem ∧ s.KeepsRegs t [R.TDM_STATUS p, R.TDM_RATE p, R.TDM_STATUS r, R.TDM_RATE r] := by
  rw [State.followEdge_of_pair hq hne] at ht
  generalize hu : s.followFrame p edge bclks (s.lineWords p (if p = q then din else dp)) (s.leadNext q) = u at ht
  obtain ⟨hk, -, hnext, -⟩ := State.followFrame_of_in_range h hst hn hu.symm hlo hhi
  obtain ⟨hedge, hsu, hsamp, hpos⟩ := State.ValidEdge.of_other (k := k) h' hk hne.symm
  obtain ⟨hk', -, hnext', hlast, -⟩ := State.followFrame_of_in_range hedge (hsu.trans hst') (by rw [hk.others r hne.symm, hn']) ht
    (by rwa [hsamp, hpos]) (by rwa [hsamp, hpos])
  refine ⟨(congrArg TdmPort.next (hk'.others p hne)).trans hnext, hnext', hlast.trans (hk.lineWords _ _), hk'.mem.trans hk.mem, fun o ho => ?_⟩
  simp only [List.mem_cons, List.not_mem_nil, or_false, not_or] at ho
  obtain ⟨h1, h2, h3, h4⟩ := ho
  exact (hk'.keeps o (by simp [h3, h4])).trans (hk.keeps o (by simp [h1, h2]))

/-! ## The loss of the external clock (R384) -/

/-- The port's assignment ends, and its count of valid frames. -/
def State.unassigned (s : State) (p : Fin 16) : State :=
  s.setPort p { s.port p with valid := 0, next := none, cur := none, pend := none }

/-- A loss is counted, shown and recorded, and the port's assignment ends. -/
def State.portLost (s : State) (p : Fin 16) (k : Nat) : State :=
  (((s.count (R.TDM_LOSS_CNT p)).setFlag (F.TDM_STATUS_loss p) true).slipEvent p .loss k).unassigned p

/-- The position at which a loss is recorded: the next frame's, or the one of now. -/
def State.lossPos (s : State) (p : Fin 16) : Nat := (s.port p).next.getD (s.nearest s.gridU)

theorem State.portLost_effect (s : State) (p : Fin 16) (k : Nat) :
    State.OnlyPort [R.TDM_STATUS p, R.TDM_LOSS_CNT p] p s (s.portLost p k) ∧ (s.portLost p k).flag (F.TDM_STATUS_loss p) = true ∧
      (s.portLost p k).reg (R.TDM_LOSS_CNT p) = counted (s.reg (R.TDM_LOSS_CNT p)) ∧ (s.portLost p k).outbox = s.outbox := by
  have hne : R.TDM_STATUS p ≠ R.TDM_LOSS_CNT p := by
    simp only [R.TDM_STATUS, R.TDM_LOSS_CNT]
    omega
  refine ⟨?_, ?_, ?_, rfl⟩
  · exact (((State.OnlyPort.count (by simp) s).trans (.setFlag (by simp) _ _)).trans (.slipEvent _ _ _)).trans (.setPort _ _)
  · rw [State.portLost, State.unassigned, State.flag_setPort, State.slipEvent, State.flag_setPort]
    exact State.flag_setFlag_self _ _ _ (by simp) rfl
  · rw [State.portLost, State.unassigned, State.reg_setPort, State.slipEvent, State.reg_setPort, State.reg_setFlag,
      State.reg_setFld_of_ne _ _ hne, State.reg_count_self]

/-- The time of the last frame-sync edge is forgotten. -/
def State.edgeForgotten (s : State) (p : Fin 16) : State := s.setPort p { s.port p with edge := none }

theorem State.onlyPort_edgeForgotten (s : State) (p : Fin 16) : State.OnlyPort [] p s (s.edgeForgotten p) := .setPort _ _

section
variable (hst : s.portSt p = 2 ∨ s.portSt p = 3) (he : s.edgeNow p = false)
include hst he

/-- With `fallback` the port goes on with master timing. -/
theorem State.clockFails_of_fallback (hf : s.appFlag (F.TDM_CFG_fallback p) = true) :
    s.clockFails p =
      ((((s.portLost p (s.lossPos p)).slipEvent p .fallback (s.lossPos p)).setPortSt p 4).count (R.TDM_FALLBACK_CNT p)).edgeForgotten p := by
  have hl : s.portLoss p = (((s.portLost p (s.lossPos p)).slipEvent p .fallback (s.lossPos p)).setPortSt p 4).count (R.TDM_FALLBACK_CNT p) :=
    if_pos hf
  rw [← hl]
  exact if_pos (by simpa [he] using hst)

/-- Without it DOUT is held low. -/
theorem State.clockFails_of_mute (hf : s.appFlag (F.TDM_CFG_fallback p) = false) :
    s.clockFails p = (((s.portLost p (s.lossPos p)).setPortSt p 5).sendFrame p (List.replicate (s.tdmCh p) 0)).edgeForgotten p := by
  have hl : s.portLoss p = ((s.portLost p (s.lossPos p)).setPortSt p 5).sendFrame p (List.replicate (s.tdmCh p) 0) :=
    if_neg (Bool.eq_false_iff.1 hf)
  rw [← hl]
  exact if_pos (by simpa [he] using hst)

theorem State.clockFails_effect (ht : t = s.clockFails p) :
    State.OnlyPort [R.TDM_STATUS p, R.TDM_LOSS_CNT p, R.TDM_FALLBACK_CNT p] p s t ∧ t.flag (F.TDM_STATUS_loss p) = true ∧
      t.portSt p = (if s.appFlag (F.TDM_CFG_fallback p) then 4 else 5) ∧ t.reg (R.TDM_LOSS_CNT p) = counted (s.reg (R.TDM_LOSS_CNT p)) ∧
      t.reg (R.TDM_FALLBACK_CNT p) =
        (if s.appFlag (F.TDM_CFG_fallback p) then counted (s.reg (R.TDM_FALLBACK_CNT p)) else s.reg (R.TDM_FALLBACK_CNT p)) ∧
      (s.appFlag (F.TDM_CFG_fallback p) = true ∨ s.appFlag (F.TDM_CFG_out_en p) = false → t.outbox = s.outbox) := by
  obtain ⟨hs, hl, hfb⟩ : R.TDM_STATUS p ≠ R.TDM_FALLBACK_CNT p ∧ R.TDM_STATUS p ≠ R.TDM_LOSS_CNT p ∧
      R.TDM_LOSS_CNT p ≠ R.TDM_FALLBACK_CNT p := by
    simp only [R.TDM_STATUS, R.TDM_LOSS_CNT, R.TDM_FALLBACK_CNT]
    omega
  obtain ⟨hk, hflag, hloss, hout⟩ := s.portLost_effect p (s.lossPos p)
  have hfall : (s.portLost p (s.lossPos p)).reg (R.TDM_FALLBACK_CNT p) = s.reg (R.TDM_FALLBACK_CNT p) :=
    hk.keeps _ (by simp)
  have hk' := hk.mono (m := [R.TDM_STATUS p, R.TDM_LOSS_CNT p, R.TDM_FALLBACK_CNT p]) (by simp)
  cases hf : s.appFlag (F.TDM_CFG_fallback p) with
  | true =>
    rw [State.clockFails_of_fallback hst he hf] at ht
    generalize s.portLost p (s.lossPos p) = u at *
    have hu : State.OnlyPort [R.TDM_FALLBACK_CNT p] p ((u.slipEvent p .fallback (s.lossPos p)).setPortSt p 4) t := by
      rw [ht]
      exact (State.OnlyPort.count (by simp) _).trans ((State.onlyPort_edgeForgotten _ p).mono (by simp))
    refine ⟨?_, ?_, ?_, ?_, ?_, fun _ => ?_⟩
    · exact ((hk'.trans (.slipEvent _ _ _)).trans (.setFld (by simp) _ _)).trans (hu.mono (by simp))
    · rw [State.flag_of_reg (hu.keeps _ (by simp)), State.flag_setPortSt _ _ _ (by simp) (by simp)]
      exact hflag
    · exact (State.fld_of_reg (hu.keeps _ (by simp))).trans (State.portSt_setPortSt _ _ (by decide))
    · rw [hu.keeps _ (by simp), State.setPortSt, State.reg_setFld_of_ne _ _ hl]
      exact hloss
    · rw [ht, State.edgeForgotten, State.reg_setPort, State.reg_count_self, State.setPortSt, State.reg_setFld_of_ne _ _ hs, if_pos rfl, ← hfall]
      rfl
    · rw [ht, State.edgeForgotten, State.outbox_setPort, State.count_outbox, State.setPortSt, State.setFld_outbox, State.slipEvent,
        State.outbox_setPort, hout]
  | false =>
    rw [State.clockFails_of_mute hst he hf] at ht
    generalize s.portLost p (s.lossPos p) = u at *
    have hs5 := hk'.trans (.setFld (f := F.TDM_STATUS_state p) (by simp) _ 5)
    have hu : State.OnlyPort [] p (u.setPortSt p 5) t := by
      rw [ht]
      exact (State.OnlyPort.sendFrame _ _).trans (State.onlyPort_edgeForgotten _ p)
    refine ⟨?_, ?_, ?_, ?_, ?_, fun h => ?_⟩
    · exact hs5.trans (hu.mono (by simp))
    · rw [State.flag_of_reg (hu.keeps _ (by simp)), State.flag_setPortSt _ _ _ (by simp) (by simp), hflag]
    · exact (State.fld_of_reg (hu.keeps _ (by simp))).trans (State.portSt_setPortSt _ _ (by decide))
    · rw [hu.keeps _ (by simp), State.setPortSt, State.reg_setFld_of_ne _ _ hl, hloss]
    · rw [hu.keeps _ (by simp), State.setPortSt, State.reg_setFld_of_ne _ _ hs, hfall, if_neg Bool.false_ne_true]
    · have hen : (u.setPortSt p 5).appFlag (F.TDM_CFG_out_en p) = false :=
        (hs5.appFlag _).trans (h.resolve_left Bool.false_ne_true)
      rw [ht, State.sendFrame_of_off hen, State.edgeForgotten, State.outbox_setPort, State.setPortSt, State.setFld_outbox, hout]

end

end Sys2Proof.Machine
end

section
/-!
PROOFS. Converter ports: the capture windows (R377), the slip records of a pair (R388), and the staged registers (R389, R390).
-/

namespace Sys2Proof.Machine

variable {s t : State} {p : Fin 16} {n k pos : Nat} {ev : SlipEvent}

/-! ## Capture windows (R377) -/

/-- A frame of a port that times its own takes its position of the coming tick. -/
theorem State.tdmCapture_of_single {f : CapFrame} (hst : s.portSt f.port = 1 ∨ s.portSt f.port = 4)
    (hen : s.appFlag (F.TDM_CFG_in_en f.port) = true) (hpos : f.pos < s.T) : s.tdmCapture [f] =
      (s.setPort f.port { s.port f.port with
        win := Tbl.put (s.comingTick * s.T + f.pos) (s.lineWords f.port f.din) (s.port f.port).win }).setTdm fun t =>
          { t with closed := s.comingTick } := by
  have hm : s.portMaster f.port = true := by simpa [State.portMaster] using hst
  have hi : s.portIn f.port = true := by
    have h0 : s.portSt f.port ≠ 0 := by omega
    simp [State.portIn, h0, hen]
  simp [State.tdmCapture, hm, hi, hpos]

/-- Where nothing is read back, nothing is compared (R237). -/
theorem State.lbFrames_nil (s : State) : s.lbFrames [] = s := ite_self _

/-! ## Records that the owner sends (R388) -/

/-- Records are exchanged in EQUINOX (R388). -/
theorem State.slipPair_of_equinox (h : s.equinox = true) : s.slipPair = true := by
  have h5 : s.pairState = 5 := by simpa [State.equinox] using h
  simp [State.slipPair, h5]

/-- A single event is met once on the way through the positions of its window. -/
theorem flatMap_range_single (e : Slip) (h : e.pos < n) : ((List.range n).flatMap fun k => [e].filter fun x => x.pos = k) = [e] := by
  induction n with
  | zero => omega
  | succ n ih =>
    rw [List.range_succ, List.flatMap_append]
    rcases Nat.lt_succ_iff_lt_or_eq.1 h with hi | hi
    · simp [ih hi, Nat.ne_of_lt hi]
    · have h0 : ((List.range n).flatMap fun k => [e].filter fun x => x.pos = k) = [] :=
        List.flatMap_eq_nil_iff.2 fun k hk => by simp [hi, Nat.ne_of_gt (List.mem_range.1 hk)]
      simp [h0, hi]

theorem State.slipSend_of_single (h : (s.port p).slips = [⟨s.tdm.closed, ev, pos⟩]) (hpos : pos < s.T) :
    s.slipSend p = (s.setPort p { s.port p with slips := [] }).sendCmd 11
      (beBytes 8 s.tdm.closed ++ beBytes 1 p ++ beBytes 1 (slipCode ev) ++ beBytes 1 pos) := by
  have hs := flatMap_range_single ⟨s.tdm.closed, ev, pos⟩ hpos
  simp [State.slipSend, h, hs]

/-- The record is on its way, and the port keeps it no longer. -/
theorem State.slipSend_effect (h : (s.port p).slips = [⟨s.tdm.closed, ev, pos⟩]) (hpos : pos < s.T) (ht : t = s.slipSend p) :
    (t.port p).slips = [] ∧ s.KeepsRegs t [] ∧ t.mem = s.mem ∧
      s.SendsCmd t 11 (beBytes 8 s.tdm.closed ++ beBytes 1 p ++ beBytes 1 (slipCode ev) ++ beBytes 1 pos) := by
  rw [State.slipSend_of_single h hpos] at ht
  have hport : (s.setPort p { s.port p with slips := [] }).port p = { s.port p with slips := [] } := s.port_setPort_self _ _
  have hk : State.OnlyPort [] p s (s.setPort p { s.port p with slips := [] }) := .setPort _ _
  have htwn : (s.setPort p { s.port p with slips := [] }).twn = s.twn := rfl
  have hout : (s.setPort p { s.port p with slips := [] }).outbox = s.outbox := rfl
  generalize s.setPort p { s.port p with slips := [] } = u at *
  have hr : State.Reacts [] u t := by
    rw [ht]
    exact .sendCmd _ _ _
  refine ⟨?_, fun o ho => (hr.keeps o ho).trans (hk.keeps o ho), hr.mem.trans hk.mem, ?_⟩
  · rw [ht]
    exact congrArg TdmPort.slips hport
  · rw [ht]
    exact (u.sendCmd_sends _ _).congr ⟨congrArg _ htwn, congrArg _ htwn, hout⟩ ⟨rfl, rfl⟩

/-! ## Records that the shadow applies (R388) -/

section
variable {f g : RawFrame} (u : State) (last : List Word)

/-- The owner's drop at the first of two frames leaves it out: the second takes its position. -/
theorem State.replay_of_drop : u.replay [f, g] (some k) [(.drop, k)] last = ([(k, g.words)], some (k + 1)) := by
  simp [State.replay]

/-- The owner's repeat puts the frame before in the position, and the two frames move on. -/
theorem State.replay_of_rep : u.replay [f, g] (some k) [(.rep, k)] last =
    ([(k, last), (k + 1, f.words), (k + 2, g.words)], some (k + 3)) := by
  simp [State.replay]

end

theorem State.takeSlip_of_past (h : s.isOwner = true ∨ n ≤ s.tickNum) : s.takeSlip n p ev pos = s := by
  refine if_pos ?_
  rcases h with h | h <;> simp [h]

theorem State.takeSlip_of_shadow (ho : s.isOwner = false) (he : s.equinox = true) (hn : s.tickNum < n) (hp : pos < s.T) (hst : s.portSt p = 3) :
    s.takeSlip n p ev pos = (s.setPort p { s.port p with recs := (s.port p).recs ++ [(n, ev, n * s.T + pos)] }).followOwner n p := by
  exact if_neg (by simp [ho, State.slipPair_of_equinox he, hst, hn, hp])

/-- One record of a window in which the port decided nothing of its own, put on frames at and beyond its position: what the replay gives
stands in the window, and the port follows. -/
theorem State.followOwner_of_single {ws : List (Nat × List Word)} {m : Nat} (hin : s.portIn p = true) (hp : pos < s.T)
    (hk : k = n * s.T + pos) (hs : (s.port p).slips = []) (hr : (s.port p).recs = [(n, ev, k)])
    (hwin : ∀ x ∈ (s.port p).win, k ≤ x.1) (hraw : ∀ f ∈ (s.port p).raw, f.pos.any (· < k) = false)
    (hrep : s.replay (s.port p).raw (some k) [(ev, k)] ((s.port p).rows.getD (s.T - 1) []) = (ws, some m)) :
    ∃ last, s.followOwner n p =
      (s.setPort p { s.port p with win := ws, next := some m, cur := some (m - 1), last := last, pend := none }).setPortSt p 3 := by
  have hfirst : min ((n + 1) * s.T) k = k := Nat.min_eq_right (by rw [Nat.succ_mul]; omega)
  have hnone : (s.port p).raw.filter (fun f => f.pos.any (· < k)) = [] := List.filter_eq_nil_iff.2 fun f hf => by simp [hraw f hf]
  have hall : ((s.port p).raw.reverse.takeWhile fun f => !f.pos.any (· < k)) = (s.port p).raw.reverse :=
    List.takeWhile_eq_self_iff.2 fun f hf => by simp [hraw f (List.mem_reverse.1 hf)]
  have hnew : (s.port p).win.filter (fun f => f.1 < k) = [] := List.filter_eq_nil_iff.2 fun f hf => by simpa using hwin f hf
  refine ⟨(ws.getLast?.map (·.2)).getD ((s.port p).rows.getD (s.T - 1) []), ?_⟩
  simp only [State.followOwner, hs, hr, List.filter_nil, List.map_nil, List.nil_append, List.filter_cons, decide_true, if_true, List.map_cons,
    List.foldl_cons, List.foldl_nil, hfirst, hnone, hall, List.getLast?_nil, Option.map_none, Option.getD_none, List.reverse_reverse, hrep, hin,
    hnew, Option.isSome_some, Option.map_some]

/-- A shadow that follows puts the owner's record in place of its own decision. -/
theorem State.takeSlip_effect {ws : List (Nat × List Word)} {m : Nat} (ho : s.isOwner = false) (he : s.equinox = true) (hn : s.tickNum < n)
    (hp : pos < s.T) (hk : k = n * s.T + pos) (hst : s.portSt p = 3) (hin : s.portIn p = true) (hs : (s.port p).slips = [])
    (hr : (s.port p).recs = []) (hwin : ∀ x ∈ (s.port p).win, k ≤ x.1) (hraw : ∀ f ∈ (s.port p).raw, f.pos.any (· < k) = false)
    (hrep : ∀ u : State, u.replay (s.port p).raw (some k) [(ev, k)] ((s.port p).rows.getD (s.T - 1) []) = (ws, some m))
    (ht : t = s.takeSlip n p ev pos) :
    (t.port p).win = ws ∧ (t.port p).next = some m ∧ t.portSt p = 3 ∧ s.KeepsRegs t [R.TDM_STATUS p] ∧ t.mem = s.mem ∧
      t.outbox = s.outbox := by
  rw [State.takeSlip_of_shadow ho he hn hp hst, hr, ← hk] at ht
  obtain ⟨last, hf⟩ := State.followOwner_of_single (p := p) (k := k)
    (s := s.setPort p { s.port p with recs := [] ++ [(n, ev, k)] }) hin hp hk (by rwa [State.port_setPort_self])
    (by rw [State.port_setPort_self]; rfl) (by rwa [State.port_setPort_self]) (by rwa [State.port_setPort_self])
    (by rw [State.port_setPort_self]; exact hrep _)
  rw [hf, State.port_setPort_self] at ht
  have hk : State.OnlyPort [R.TDM_STATUS p] p s t := by
    rw [ht]
    exact ((State.OnlyPort.setPort s _).trans (.setPort _ _)).trans (.setFld (by simp) _ _)
  refine ⟨?_, ?_, ?_, hk.keeps, hk.mem, ?_⟩
  · rw [ht, State.setPortSt, State.port_setFld, State.port_setPort_self]
  · rw [ht, State.setPortSt, State.port_setFld, State.port_setPort_self]
  · rw [ht, State.portSt_setPortSt _ _ (by decide)]
  · rw [ht, State.setPortSt, State.setFld_outbox, State.outbox_setPort, State.outbox_setPort]

/-! ## The staged registers (R389, R390) -/

/-- A write of TDM_APPLY_LO with the word held for HI arms the apply (R36, R389). -/
theorem State.armTdm_arms {v : Word} (ht : t = s.armTdm v) : t.reg R.TDM_APPLY_LO = v ∧
    t.reg R.TDM_APPLY_HI = Tbl.get (fun _ => s.reg R.TDM_APPLY_HI) s.whold R.TDM_APPLY_HI ∧
    t.tdm.armed = some (t.pair R.TDM_APPLY_LO R.TDM_APPLY_HI) ∧ t.tdm.armedIn = s.tickNum ∧ t.flag F.TDM_GSTATUS_apply_pend = true ∧
    s.KeepsRegs t [R.TDM_APPLY_LO, R.TDM_APPLY_HI, R.TDM_GSTATUS] ∧ t.mem = s.mem ∧ t.applied = s.applied := by
  obtain ⟨hlo, hhi, hk⟩ := s.putLo_effect (lo := R.TDM_APPLY_LO) (hi := R.TDM_APPLY_HI) (by simp) v
  have hreg (o : Nat) (ho : o ≠ R.TDM_GSTATUS) : t.reg o = (s.putLo R.TDM_APPLY_LO R.TDM_APPLY_HI v).reg o :=
    ht ▸ State.reg_setFld_of_ne _ _ ho.symm
  refine ⟨(hreg _ (by simp)).trans hlo, (hreg _ (by simp)).trans hhi, ?_, ?_, ?_, fun o ho => ?_, ?_, ?_⟩
  · rw [State.pair, hreg _ (by simp), hreg _ (by simp), ht]
    rfl
  · rw [ht]
    rfl
  · rw [ht]
    exact State.flag_setFlag_self _ _ _ (by simp) rfl
  · obtain ⟨h1, h2, h3⟩ : o ≠ R.TDM_APPLY_LO ∧ o ≠ R.TDM_APPLY_HI ∧ o ≠ R.TDM_GSTATUS := by simpa using ho
    exact (hreg o h3).trans (hk o (by simp [h1, h2]))
  · rw [ht]
    rfl
  · rw [ht]
    rfl

/-- An armed apply whose tick is the present one is disarmed before its registers are checked. -/
def State.tdmDisarmed (s : State) : State := (s.setTdm fun t => { t with armed := none }).setFlag F.TDM_GSTATUS_apply_pend false

/-- Before its tick, and in the tick in which one already past was armed, an apply waits (R389). -/
theorem State.tdmStagedApply_of_waiting (ha : s.tdm.armed = some n)
    (hw : s.tickNum < n ∨ (n ≤ s.tdm.armedIn ∧ s.tickNum = s.tdm.armedIn)) : s.tdmStagedApply = s := by
  unfold State.tdmStagedApply
  simp only [ha]
  exact if_pos (by simpa using hw)

theorem State.tdmStagedApply_of_due (ha : s.tdm.armed = some s.tickNum) (hi : s.tdm.armedIn ≠ s.tickNum) :
    s.tdmStagedApply = s.tdmDisarmed.applyTdm := by
  unfold State.tdmStagedApply
  simp only [ha]
  rw [if_neg (by simp [hi.symm])]
  exact congrArg State.applyTdm (if_neg (Nat.lt_irrefl s.tickNum))

/-- TDM_CFG of port 0 stands first by address: where it is invalid the apply is refused and names it (R390). -/
theorem State.applyTdm_of_bad_cfg (h : s.tdmCfgOk 0 = false) : s.applyTdm =
    ((s.setFlag F.TDM_GSTATUS_cfg_err true).setFld F.TDM_GSTATUS_err_port 0).setFld F.TDM_GSTATUS_err_reg 0 := by
  have hf : s.tdmChecks.find? (fun e => !e.2.2.2) = some (R.TDM_CFG 0, 0, 0, s.tdmCfgOk 0) := List.find?_cons_of_pos (by simp [h])
  unfold State.applyTdm
  simp only [hf]

/-- What an apply concerns beside the ports: the registers in effect, memory, the clock, and whether an apply is armed. -/
def State.tdmApplyView (s : State) : List (Nat × Word) × List Host.Cell × Clock × Option Nat := (s.applied, s.mem, s.clk, s.tdm.armed)

theorem State.tdmApplyView_portRestarts (s : State) (old : Word) (p : Nat) : (s.portRestarts old p).tdmApplyView = s.tdmApplyView := by
  unfold State.portRestarts
  extract_lets new x
  split_ifs <;> rfl

theorem State.tdmApplyView_keepMap (s : State) (p : Nat) (old : Word) (m : List Nat) : (s.keepMap p old m).tdmApplyView = s.tdmApplyView := by
  unfold State.keepMap
  extract_lets new
  split_ifs <;> rfl

theorem State.tdmApplyView_mclkPin (s : State) (m : Fin 4) (was : Bool) : (s.mclkPin m was).tdmApplyView = s.tdmApplyView := by
  unfold State.mclkPin State.drive
  extract_lets on
  split_ifs <;> rfl

theorem State.tdmApplyView_portSlots (s : State) (p : Nat) : (s.portSlots p).tdmApplyView = s.tdmApplyView := by
  unfold State.portSlots
  refine foldl_keeps State.tdmApplyView (fun s c => ?_) _ _
  dsimp only
  split_ifs <;> rfl

theorem State.tdmApplyView_remap (s : State) (old : List Nat) : (s.remap old).tdmApplyView = s.tdmApplyView := by
  unfold State.remap
  refine (foldl_keeps State.tdmApplyView (fun s p => ?_) _ _).trans rfl
  split_ifs
  · exact s.tdmApplyView_portSlots p
  · rfl

/-- TDM_CFG of each port is among the staged registers that an apply checks (R389). -/
theorem State.mem_tdmChecks_cfg (s : State) (p : Fin 16) : (R.TDM_CFG p, (p : Nat), 0, s.tdmCfgOk p) ∈ s.tdmChecks :=
  List.mem_append_left _ (List.mem_flatMap.2 ⟨p, List.mem_range.2 p.isLt, List.mem_cons_self⟩)

/-- Every check holds: every staged register is put into effect (R389). -/
theorem State.applyTdm_of_sound (h : ∀ e ∈ s.tdmChecks, e.2.2.2 = true) (p : Fin 16) :
    s.applyTdm.app (R.TDM_CFG p) = s.reg (R.TDM_CFG p) ∧ s.applyTdm.tdm.armed = s.tdm.armed ∧ s.applyTdm.mem = s.mem ∧
    s.applyTdm.clk = s.clk := by
  have hf : s.tdmChecks.find? (fun e => !e.2.2.2) = none := List.find?_eq_none.2 fun e he => by simp [h e he]
  obtain ⟨l, hl⟩ : ∃ l, l = s.tdmChecks.map fun e => (e.1, e.2.2.2) := ⟨_, rfl⟩
  have hput : s.tdmChecks.foldl (fun s e => s.putApp e.1 (s.reg e.1)) s = s.putApps l := by
    rw [hl, State.putApps, List.foldl_map]
  have hview : s.applyTdm.tdmApplyView = (s.putApps l).tdmApplyView := by
    unfold State.applyTdm
    simp only [hf, hput]
    refine (State.tdmApplyView_remap _ _).trans ((foldl_keeps State.tdmApplyView (fun s m => s.tdmApplyView_mclkPin m _) _ _).trans ?_)
    exact foldl_keeps State.tdmApplyView (fun s p => (State.tdmApplyView_keepMap _ p _ _).trans (s.tdmApplyView_portRestarts _ p)) _ _
  have happ : (s.putApps l).app (R.TDM_CFG p) = s.reg (R.TDM_CFG p) :=
    State.app_putApps l s (.inl ⟨_, hl ▸ List.mem_map_of_mem (s.mem_tdmChecks_cfg p), rfl⟩)
  obtain ⟨hm, hc, -⟩ := s.putApps_keeps l
  have ht : (s.putApps l).tdm = s.tdm := by
    refine foldl_keeps State.tdm ?_ l s
    exact fun _ _ => rfl
  obtain ⟨vapp, vmem, vclk, varm⟩ : s.applyTdm.applied = (s.putApps l).applied ∧ s.applyTdm.mem = (s.putApps l).mem ∧
      s.applyTdm.clk = (s.putApps l).clk ∧ s.applyTdm.tdm.armed = (s.putApps l).tdm.armed := by
    simpa only [State.tdmApplyView, Prod.mk.injEq] using hview
  refine ⟨?_, varm.trans (congrArg Tdm.armed ht), vmem.trans hm, vclk.trans hc⟩
  rw [State.app, vapp]
  exact happ

/-! ## The statement -/

/-- Settles O42: a frame by its phase, two ports on the same lands one after the other, the records by what the replay gives on them. -/
theorem converterPortsFollowAndApply : Obligations.ConverterPortsFollowAndApply := by
  intro s p q r f e0 edge bclks k n pos din dp dr w0 w1 x0 x1 ev v h w
  refine ⟨fun hon hst hen hpos => ?capture, fun hq hst hb hd hl hr hn => ?slip, fun hq hne hx hl hr hlo hhi => ?lands,
    fun hq hst hb hd hl hr hv => ?lock, fun hst he => ?loss, fun ho he hs hpos => ?send,
    fun ho he hn hpos hk hst hin hwin hs hrec hraw hnext => ?record, fun h => ?past, ?crc, fun hon => ?arm, fun ha hw => ?waits,
    fun ha hi => ⟨fun hbad => ?refused, fun hall => ?applied⟩⟩
  case capture =>
    refine congrArg Host.Outcome.next ((if_pos hon).trans ?_)
    exact (State.lbFrames_nil _).trans (State.tdmCapture_of_single hst hen hpos)
  case slip =>
    have hedge : s.ValidEdge p e0 edge bclks := ⟨hb, hd, hl, hr⟩
    obtain ⟨t, ht⟩ : ∃ t, t = s.followEdge q edge bclks din [(p, dp)] := ⟨_, rfl⟩
    have hf := ht.trans (State.followEdge_of_single hq)
    obtain ⟨hmem, hnew⟩ := State.followFrame_keeps hedge hst hn hf
    refine ⟨t, congrArg Host.Outcome.next ht.symm, hmem, hnew, fun hlo hhi => ?_, fun hphi => ?_, fun hphi => ?_⟩
    · obtain ⟨hk, -, hnext, hlast, hwin⟩ := State.followFrame_of_in_range hedge hst hn hf hlo hhi
      exact ⟨hnext, hlast, hwin, hk.keeps⟩
    · obtain ⟨hk, -, hnext, hwin, hflag, hcnt, hout⟩ := State.followFrame_of_ahead hedge hst hn hf hphi
      exact ⟨hnext, hwin, hflag, hcnt, hk.keeps, hout⟩
    · obtain ⟨hk, -, hnext, hlast, hflag, hwin, hcnt⟩ := State.followFrame_of_behind hedge hst hn hf hphi
      exact ⟨hnext, hlast, hflag, hwin, hcnt, hk.keeps⟩
  case lands =>
    obtain ⟨hst, hb, hd, hn⟩ := hx p (by simp)
    obtain ⟨hst', hb', hd', hn'⟩ := hx r (by simp)
    obtain ⟨hp, hr, hlast, hmem, hk⟩ := State.followEdge_pair_in_range hq hne hst hst' ⟨hb, hd.symm, hl, hr⟩ ⟨hb', hd'.symm, hl, hr⟩ hn hn'
      hlo hhi rfl
    exact ⟨_, rfl, by simp [hp, hr], hlast, hmem, hk⟩
  case lock =>
    exact ⟨_, congrArg Host.Outcome.next (State.followEdge_of_single hq), State.followFrame_locks ⟨hb, hd, hl, hr⟩ hst hv rfl⟩
  case loss =>
    obtain ⟨hk, hflag, hnew, hcnt, hfall, hout⟩ := State.clockFails_effect hst he rfl
    exact ⟨_, rfl, hflag, hnew, hcnt, hfall, hk.keeps, hk.mem, hout⟩
  case send =>
    exact ⟨_, congrArg Host.Outcome.next (if_pos (by simp [ho, State.slipPair_of_equinox he])), State.slipSend_effect hs hpos rfl⟩
  case record =>
    have hwin' : ∀ x ∈ (s.port p).win, k ≤ x.1 := by simp [hwin]
    have hraw' : ∀ f ∈ (s.port p).raw, f.pos.any (· < k) = false := by simp [hraw]
    exact ⟨⟨_, rfl, State.takeSlip_effect ho he hn hpos hk hst hin hs hrec hwin' hraw' (fun u => hraw ▸ u.replay_of_drop _) rfl⟩,
      ⟨_, rfl, State.takeSlip_effect ho he hn hpos hk hst hin hs hrec hwin' hraw' (fun u => hraw ▸ u.replay_of_rep _) rfl⟩⟩
  case past =>
    exact congrArg Host.Outcome.next (State.takeSlip_of_past h)
  case crc =>
    exact congrArg Host.Outcome.next (if_neg Bool.false_ne_true)
  case arm =>
    exact ⟨_, congrArg Host.Outcome.next (State.ifOn_of_on hon _), State.armTdm_arms rfl⟩
  case waits =>
    exact congrArg Host.Outcome.next (State.tdmStagedApply_of_waiting ha hw)
  case refused =>
    exact congrArg Host.Outcome.next ((State.tdmStagedApply_of_due ha hi).trans (State.applyTdm_of_bad_cfg hbad))
  case applied =>
    obtain ⟨happ, harm, hmem, hclk⟩ := State.applyTdm_of_sound hall p
    refine ⟨_, congrArg Host.Outcome.next (State.tdmStagedApply_of_due ha hi), happ.trans ?_, harm, hmem, hclk⟩
    exact State.reg_setFld_of_ne _ _ (by simp only [R.TDM_CFG, R.TDM_GSTATUS]; omega)

end Sys2Proof.Machine
end

section
/-!
PROOFS. The reset state (R405, R430, R516): what its tables read as, and that they are canonical.
-/

namespace Sys2Proof.Machine

/-- No register is listed, so each reads as its reset word. -/
@[simp] theorem State.reg_reset (o : Nat) : State.reset.reg o = resetWord o := Tbl.get_nil resetWord o

/-- No byte is listed, so each reads as a byte never written. -/
@[simp] theorem State.byte_reset (a : Nat) : State.reset.byte a = 0 := Tbl.get_nil memByte a

theorem State.canonical_reset : State.reset.Canonical where
  mem := Tbl.wf_nil memByte
  regs := Tbl.wf_nil resetWord

/-- Settles O6: memory and register file are the empty tables, and every other part named stands at its initial value. -/
theorem resetState : Obligations.ResetState :=
  have hrun : State.reset.run = .stopped := rfl
  have hgraph : State.reset.fab.graph = none := rfl
  have hsent : State.reset.outbox = [] := rfl
  have hqueue : State.reset.pending = [] := rfl
  ⟨State.reg_reset, State.byte_reset, hrun, hgraph, hsent, hqueue, State.canonical_reset⟩

end Sys2Proof.Machine
end

section
/-!
SUPPORT. The canonical form, the queue and the straps are kept by every operation of the model: one law per operation, in the order of
the model's own files, each by the laws of the operations that its definition is made of.
-/

namespace Sys2Proof.Machine

namespace State.Steady

/-- Memory loses entries. -/
theorem filterMem (s : State) (p : Host.Cell → Bool) : s.Steady { s with mem := s.mem.filter p } :=
  ⟨fun c => ⟨memWf_filter p c.mem, c.regs⟩, rfl, rfl, rfl, rfl, rfl⟩

/-- A fold that gathers something beside the state. -/
theorem foldlFst {α β : Type} {f : State × β → α → State × β} (h : ∀ (r : State × β) a, r.1.Steady (f r a).1)
    (l : List α) (r : State × β) : r.1.Steady (l.foldl f r).1 := by
  induction l generalizing r with
  | nil => exact refl _
  | cons a l ih => exact (h r a).trans (ih _)

/-! ### Operations of Ops -/

theorem noteSet (s : State) (f : Fld) : s.Steady (s.noteSet f) := of_same rfl rfl rfl ⟨rfl, rfl, rfl, rfl⟩

theorem setSeen (s : State) (f : Fld) (v : Nat) : s.Steady (s.setSeen f v) :=
  (setFld _ _ _).trans (of_same rfl rfl rfl ⟨rfl, rfl, rfl, rfl⟩)

theorem clearFlag (s : State) (f : Fld) : s.Steady (s.clearFlag f) := ite (fun _ => refl _) fun _ => setFlag _ _ _

theorem ifOn (s : State) (d : Nat) (f : State → State) (hf : ∀ s : State, s.Steady (f s)) : s.Steady (s.ifOn d f) :=
  ite (fun _ => hf _) fun _ => refl _

theorem drainMaster (s : State) (m : Nat) : s.Steady (s.drainMaster m) :=
  ite (fun _ => refl _) fun _ => ((setSram _ _).trans (setFlag _ _ _)).trans (count _ _)

theorem setGridU (s : State) (u : Nat) : s.Steady (s.setGridU u) := of_same rfl rfl rfl ⟨rfl, rfl, rfl, rfl⟩

theorem startMsg (s : State) (t0 l c : Nat) : s.Steady (s.startMsg t0 l c) := by
  unfold State.startMsg
  split
  · exact refl _
  · extract_lets bs __src
    exact of_same rfl rfl rfl ⟨rfl, rfl, rfl, rfl⟩

theorem passTime (s : State) (u : Nat) : s.Steady (s.passTime u) := of_same rfl rfl rfl ⟨rfl, rfl, rfl, rfl⟩

theorem idle (s : State) : s.Steady s.idle :=
  ite (fun _ => ite (fun _ => (elapse _ _).trans (of_same rfl rfl rfl ⟨rfl, rfl, rfl, rfl⟩)) fun _ => elapse _ _) fun _ => refl _

theorem writeHost (s : State) (a : Nat) (bs : List Byte) : s.Steady (s.writeHost a bs) := foldl (fun _ _ => emit _ _) _ _

theorem readHost (s : State) (a n : Nat) : s.Steady (s.readHost a n) := foldl (fun _ _ => emit _ _) _ _

theorem overflow (s : State) : s.Steady s.overflow := ite (fun _ => refl _) fun _ => (pushRing _ _ _ _).trans (setHif _ _)

/-! ### Operations of Own -/

theorem drive (s : State) (g : PinGroup) (o : Out) : s.Steady (s.drive g o) := ite (fun _ => emit _ _) fun _ => refl _

theorem ifCrc (s : State) (ok : Bool) (f : State → State) (hf : ∀ s : State, s.Steady (f s)) : s.Steady (s.ifCrc ok f) :=
  ite (fun _ => hf _) fun _ => count _ _

theorem armHandover (s : State) (h : Nat) (outgoing : Bool) : s.Steady (s.armHandover h outgoing) :=
  ((setTwn _ _).trans (putPair _ _ _ _)).trans (setFlag _ _ _)

/-! ### Operations of Fault -/

theorem holdClass (s : State) (o : Nat) : s.Steady (s.holdClass o) :=
  ite (fun _ => of_same rfl rfl rfl ⟨rfl, rfl, rfl, rfl⟩) fun _ => refl _

/-! ### Operations of Words -/

theorem markBad (s : State) (a : Nat) : s.Steady (s.markBad a) := setSram _ _

theorem sramSeen (s : State) (a u m : Nat) : s.Steady (s.sramSeen a u m) :=
  ((count _ _).trans (markBad _ _)).trans ((ite (fun _ => refl _) fun _ => ((putPair _ _ _ _).trans
      (setFld _ _ _)).trans (setFld _ _ _) : State.Steady _ _).trans (setFlag _ _ _))

theorem dramSeen (s : State) (a m : Nat) : s.Steady (s.dramSeen a m) :=
  ((count _ _).trans (markBad _ _)).trans (((ite (fun _ => refl _) fun _ => (putPair _ _ _ _).trans
      (setFld _ _ _) : State.Steady _ _).trans (setFlag _ _ _)).trans (raise _ _ _))

theorem keepBad (s t : State) (m a n : Nat) : t.Steady (s.keepBad t m a n) := by
  unfold State.keepBad
  extract_lets part t1
  have h1 : t.Steady t1 := foldl (fun _ _ => (putBytes _ _ _).trans (emit _ _)) _ _
  exact h1.trans (setSram _ _)

theorem store (s : State) (m a : Nat) (bs : List Byte) : s.Steady (s.store m a bs) :=
  ite (fun _ => putBytes _ _ _) fun _ => (putBytes _ _ _).trans (keepBad _ _ _ _ _)

theorem putMemWords (s : State) (a : Nat) (ws : List Word) : s.Steady (s.putMemWords a ws) := by
  induction ws generalizing s a with
  | nil => exact refl s
  | cons w ws ih => exact (putMemWord _ _ _).trans (ih _ _)

theorem storeWords (s : State) (m a : Nat) (ws : List Word) : s.Steady (s.storeWords m a ws) :=
  ite (fun _ => putMemWords _ _ _) fun _ => (putMemWords _ _ _).trans (keepBad _ _ _ _ _)

theorem dramFix (s : State) (n : Nat) : s.Steady (s.dramFix n) := by
  unfold State.dramFix
  extract_lets was thr s1 __src s2
  have h2 : s.Steady s2 := (countBy _ _ _).trans (of_same rfl rfl rfl ⟨rfl, rfl, rfl, rfl⟩)
  exact ite (fun _ => h2.trans (raise _ _ _)) fun _ => h2

/-! ### Operations of Slots -/

theorem setRx (s : State) (i : Nat) (x : RxSt) : s.Steady (s.setRx i x) := of_same rfl rfl rfl ⟨rfl, rfl, rfl, rfl⟩

theorem putCur (s : State) (slot : Nat) (b : List Word) : s.Steady (s.putCur slot b) := of_same rfl rfl rfl ⟨rfl, rfl, rfl, rfl⟩

/-! ### Operations of Fabric -/

theorem putLocals (s : State) (e a : Nat) (ws : List Word) : s.Steady (s.putLocals e a ws) := by
  induction ws generalizing s a with
  | nil => exact refl s
  | cons w ws ih => exact (putLocal _ _ _ _).trans (ih _ _)

theorem capacityCheck (s : State) : s.Steady s.capacityCheck :=
  ite (fun _ => (setFlag _ _ _).trans (condBegin _ _ _)) fun _ => (setFlag _ _ _).trans (condEnd _ _)

theorem putActive (s : State) (e : Nat) (on : Bool) : s.Steady (s.putActive e on) := setFlag _ _ _

theorem setActive (s : State) (e : Nat) (on : Bool) : s.Steady (s.setActive e on) :=
  ite (fun _ => refl _) fun _ => (putActive _ _ _).trans (capacityCheck _)

theorem unring (s : State) (e : Nat) : s.Steady (s.unring e) := ite (fun _ => setEngine _ _ _) fun _ => refl _

theorem setDeque (s : State) (e : Nat) (q : List Nat) : s.Steady (s.setDeque e q) := setFab _ _

theorem setBacklog (s : State) (e : Nat) (q : List Nat) : s.Steady (s.setBacklog e q) := setFab _ _

theorem append (s : State) (e t : Nat) : s.Steady (s.append e t) :=
  ite (fun _ => (setStat _ _ _).trans (setDeque _ _ _)) fun _ => (setStat _ _ _).trans (setBacklog _ _ _)

theorem refill (s : State) (e : Nat) : s.Steady (s.refill e) := (setDeque _ _ _).trans (setBacklog _ _ _)

theorem stealRequest (s : State) (e : Nat) : s.Steady (s.stealRequest e) := setFab _ _

theorem deal (s : State) (turn : Nat) (ts : List Nat) : s.Steady (s.deal turn ts) := by
  induction ts generalizing s turn with
  | nil => exact refl s
  | cons t ts ih =>
    unfold State.deal
    split
    · exact ih _ _
    · exact (append _ _ _).trans (ih _ _)

theorem releasePhase (s : State) (p : Nat) : s.Steady (s.releasePhase p) := by
  unfold State.releasePhase
  split
  · exact refl _
  · extract_lets s1
    exact (setFab _ _).trans (deal _ _ _)

theorem badRead (s : State) (e a : Nat) : s.Steady (s.badRead e a) :=
  ((sramSeen _ _ _ _).trans (taskFault _ _ _)).trans (raise _ _ _)

theorem takeTask (s : State) (e t : Nat) : s.Steady (s.takeTask e t) := by
  unfold State.takeTask
  extract_lets s1 g s2 s3
  have h2 : s.Steady s2 := (setStat _ _ _).trans (setEngine _ _ _)
  split
  · exact h2.trans (setFab _ _)
  · exact ite (fun _ => (h2.trans (setFab _ _)).trans (taskFault _ _ _)) fun _ => h2.trans (setFab _ _)

theorem takeHead (s : State) (e : Nat) : s.Steady (s.takeHead e) := by
  unfold State.takeHead
  split
  · exact refl _
  · exact (setDeque _ _ _).trans (takeTask _ _ _)

theorem acquire (s : State) (e : Nat) : s.Steady (s.acquire e) := by
  unfold State.acquire
  split
  · exact refl _
  · split
    · exact takeHead _ _
    · split
      · exact refl _
      · split
        · exact refl _
        · extract_lets s1 s2
          have h2 : s.Steady s2 := (setDeque _ _ _).trans (setStat _ _ _)
          exact h2.trans (setFab _ _)

theorem stealDone (s : State) (e : Nat) : s.Steady (s.stealDone e) := by
  unfold State.stealDone
  split
  · exact refl _
  · extract_lets s1 s2
    have h2 : s.Steady s2 := (setFab _ _).trans (count _ _)
    exact h2.trans (takeTask _ _ _)

theorem prefetchDone (s : State) (e : Nat) : s.Steady (s.prefetchDone e) := by
  unfold State.prefetchDone
  extract_lets g T
  split
  · split
    · exact refl _
    · extract_lets back ins s1 s2 s3 s4 f s5
      have h2 : s.Steady s2 := (putLocals _ _ _ _).trans (putLocals _ _ _ _)
      have h4 : s.Steady s4 := (h2.trans (putLocals _ _ _ _)).trans (putLocals _ _ _ _)
      have h5 : s.Steady s5 := (h4.trans (tick1 _)).trans (tick1 _)
      split
      · exact refl _
      · split
        · exact badRead _ _ _
        · exact h5.trans (setEngine _ _ _)
  · exact refl _

theorem writeOuts (s : State) (e base : Nat) (l : List Nat) : s.Steady (s.writeOuts e base l) := by
  induction l generalizing s base with
  | nil => exact refl s
  | cons x l ih => exact (putCur _ _ _).trans (ih _ _)

theorem swapState (s : State) (i : Nat) : s.Steady (s.swapState i) := setFab _ _

theorem caughtUp (s : State) (u : Nat) : s.Steady (s.caughtUp u) := of_same rfl rfl rfl ⟨rfl, rfl, rfl, rfl⟩

theorem endBack (s : State) (e i : Nat) : s.Steady (s.endBack e i) :=
  ((swapState _ _).trans (caughtUp _ _)).trans (setEngine _ _ _)

theorem completeTask (s : State) (e : Nat) : s.Steady (s.completeTask e) := by
  unfold State.completeTask
  extract_lets g T
  split
  · split
    · exact refl _
    · split
      · exact refl _
      · extract_lets s1 s2 s3
        have h2 : s.Steady s2 := (storeWords _ _ _ _).trans (writeOuts _ _ _ _)
        have h3 : s.Steady s3 := (h2.trans (setStat _ _ _)).trans (count _ _)
        exact ite (fun _ => (storeWords _ _ _ _).trans (endBack _ _ _)) fun _ => (h3.trans (stopEngine _ _)).trans (checkDone _)
  · exact refl _

theorem drainEngine (s : State) (e : Nat) : s.Steady (s.drainEngine e) :=
  ite (fun _ => (drainMaster _ _).trans (setSram _ _)) fun _ => refl _

theorem haltEngine (s : State) (e : Nat) : s.Steady (s.haltEngine e) := by
  unfold State.haltEngine
  extract_lets s1 __src
  have h1 : s.Steady s1 := ((drainEngine _ _).trans (unring _ _)).trans (stopEngine _ _)
  exact h1.trans (of_same rfl rfl rfl ⟨rfl, rfl, rfl, rfl⟩)

theorem placeHead (s : State) (v t : Nat) : s.Steady (s.placeHead v t) :=
  (ite (fun _ => setDeque _ _ _) fun _ => (setDeque _ _ _).trans (setBacklog _ _ _) : s.Steady _).trans
      (ite (fun _ => (setStat _ _ _).trans (stealRequest _ _)) fun _ => setStat _ _ _)

theorem appendTurn (s : State) (es : List Nat) (k : Nat) (ts : List Nat) : s.Steady (s.appendTurn es k ts) := by
  induction ts generalizing s k with
  | nil => exact refl s
  | cons t ts ih =>
    unfold State.appendTurn
    split
    · exact (setStat _ _ _).trans (ih _ _)
    · exact (append _ _ _).trans (ih _ _)

theorem fenceEngine (s : State) (e : Nat) : s.Steady (s.fenceEngine e) := by
  unfold State.fenceEngine
  extract_lets cur queued s1 s2 s3 s4 own near es s5 s6
  have h4 : s.Steady s4 :=
    ((((setDeque _ _ _).trans (setBacklog _ _ _)).trans (haltEngine _ _)).trans (setFab _ _)).trans (putActive _ _ _)
  have h5 : s4.Steady s5 := by
    generalize hs : s5 = t
    unfold s5 at hs
    subst hs
    clear_value cur
    cases cur
    · exact refl _
    · refine ite (fun _ => ?_) fun _ => failTask _ _ _ _
      generalize s4.leastDepth es = v
      cases v
      · exact failTask _ _ _ _
      · exact (placeHead _ _ _).trans (count _ _)
  exact ((h4.trans h5).trans (appendTurn _ _ _ _)).trans (checkDone _)

theorem unfenceErr (s : State) (e : Nat) : s.Steady (s.unfenceErr e) := (setFab _ _).trans (setFlag _ _ _)

theorem engineFault (s : State) (e cause : Nat) : s.Steady (s.engineFault e cause) :=
  ite (fun _ => ((((put _ _ _).trans (fenceEngine _ _)).trans (setFlt _ _)).trans (raise _ _ _)).trans
      (capacityCheck _)) fun _ => ite (fun _ => unfenceErr _ _) fun _ => refl _

theorem requestFence (s : State) (e : Nat) : s.Steady (s.requestFence e) := setFab _ _

theorem requestUnfence (s : State) (e : Nat) : s.Steady (s.requestUnfence e) :=
  ite (fun _ => refl _) fun _ => ite (fun _ => setFab _ _) fun _ => setFlag _ _ _

theorem plannedOff (s : State) (e : Nat) : s.Steady (s.plannedOff e) :=
  ite (fun _ => ite (fun _ => (setFab _ _).trans (fenceEngine _ _)) fun _ => setFab _ _) fun _ => refl _

theorem plannedFence (s : State) (e : Nat) : s.Steady (s.plannedFence e) :=
  ite (fun _ => (plannedOff _ _).trans (capacityCheck _)) fun _ => plannedOff _ _

theorem fenceAll (s : State) : s.Steady s.fenceAll :=
  ite (fun _ => (foldl plannedOff _ _).trans (capacityCheck _)) fun _ => foldl plannedOff _ _

theorem loadCode (s : State) (e : Nat) : s.Steady (s.loadCode e) := by
  unfold State.loadCode
  split
  · exact refl _
  · exact putBytes _ _ _

theorem activateEngine (s : State) (e : Nat) (marchOk : Bool) : s.Steady (s.activateEngine e marchOk) :=
  ite (fun _ => ite (fun _ => ((setFab _ _).trans (loadCode _ _)).trans (setActive _ _ _)) fun _ => unfenceErr _ _) fun _ => refl _

theorem forBits (s : State) (j : Nat) (w : Word) (f : State → Nat → State) (hf : ∀ (s : State) x, s.Steady (f s x)) :
    s.Steady (s.forBits j w f) :=
  foldl (fun _ _ => ite (fun _ => hf _ _) fun _ => refl _) _ _

theorem broadcast (s : State) : s.Steady s.broadcast :=
  (setFab _ _).trans (foldl (fun _ _ => ite (fun _ => stealRequest _ _) fun _ => refl _) _ _)

theorem unloadGraph (s : State) : s.Steady s.unloadGraph :=
  ite (fun _ => (setFlag _ _ _).trans (setFld _ _ _)) fun _ => (((((setFab _ _).trans (setFlag _ _ _)).trans
      (put _ _ _)).trans (setFld _ _ _)).trans (setFld _ _ _)).trans (capacityCheck _)

theorem repairFence (s : State) (e : Nat) : s.Steady (s.repairFence e) := by
  unfold State.repairFence
  split
  · exact refl _
  · extract_lets s1 times again
    exact ite (fun _ => setFlt _ _) fun _ => (setFlt _ _).trans (requestUnfence _ _)

/-! ### Operations of Params -/

theorem setPset (s : State) (id : Nat) (x : PSet) : s.Steady (s.setPset id x) :=
  ite (fun _ => of_same rfl rfl rfl ⟨rfl, rfl, rfl, rfl⟩) fun _ => of_same rfl rfl rfl ⟨rfl, rfl, rfl, rfl⟩

/-! ### Operations of Refresh -/

theorem setRefT (s : State) (r u : Nat) : s.Steady (s.setRefT r u) := setDdr _ _

theorem startRefresh (s : State) : s.Steady s.startRefresh :=
  (((setRefT _ _ _).trans (setRefT _ _ _)).trans (setFld _ _ _)).trans (setFld _ _ _)

theorem refs (s : State) (r n : Nat) : s.Steady (s.refs r n) := by
  induction n generalizing s with
  | zero => exact refl s
  | succ n ih => exact (emit _ _).trans (ih _)

theorem wakeRanks (s : State) : s.Steady s.wakeRanks := (foldl (fun _ _ => emit _ _) _ _).trans (startRefresh _)

theorem leaveSelfRefresh (s : State) : s.Steady s.leaveSelfRefresh :=
  ite (fun _ => ((((foldl (fun _ _ => put _ _ _) _ _).trans (setDdr _ _)).trans (setFlag _ _ _)).trans
      (emit _ _)).trans (wakeRanks _)) fun _ => refl _

/-! ### Operations of Host -/

theorem timed (s : State) (c : HostCmd) (op : Nat) (commit : Bool)
    (f : State → Nat → Bool → State × Option (Nat × Nat)) (hf : ∀ (s : State) n l, s.Steady (f s n l).1) :
    s.Steady (s.timed c op commit f) := timedOr _ _ _ _ _ _ refl hf

theorem schedule (s : State) (c : HostCmd) (n : Nat) (late : Bool) (k : TimedKind) (prop : Option Nat) :
    s.Steady (s.schedule c n late k prop) :=
  of_same rfl rfl rfl ⟨rfl, rfl, rfl, rfl⟩

theorem scheduleOr (s : State) (c : HostCmd) (n : Nat) (late : Bool) (k : TimedKind) :
    s.Steady (s.scheduleOr c n late k).1 := by
  unfold State.scheduleOr
  split_ifs
  · exact refl _
  · exact schedule _ _ _ _ _ _

theorem landed (s : State) (r : Nat) : s.Steady (s.landed r) := setRing _ _ _

theorem writeCpl (s : State) (k : Cpl) : s.Steady (s.writeCpl k) :=
  ite (fun _ => (landed _ _).trans (pushRing _ _ _ _)) fun _ => (landed _ _).trans (count _ _)

theorem writeCpls (s : State) : s.Steady s.writeCpls := ite (fun _ => (setHif _ _).trans (foldl writeCpl _ _)) fun _ => refl _

theorem twiResume (s : State) : s.Steady s.twiResume :=
  ite (fun _ => foldl (fun s t => by
    split
    · exact (emit _ _).trans (twiFinish _ _ _ _)
    · exact refl _
) _ _) fun _ => refl _

theorem sendMsix (s : State) (v : Nat) : s.Steady (s.sendMsix v) := ite (fun _ => setHif _ _) fun _ => emit _ _

theorem msixGo (s : State) : s.Steady s.msixGo :=
  ite (fun _ => foldl (fun _ _ => ite (fun _ => (setHif _ _).trans (emit _ _)) fun _ => refl _) _ _) fun _ => refl _

theorem ringIrq (s : State) (r : Nat) : s.Steady (s.ringIrq r) :=
  ite (fun _ => (setRing _ _ _).trans (sendMsix _ _)) fun _ => refl _

theorem takeProd (s : State) (r v : Nat) : s.Steady (s.takeProd r v) :=
  ite (fun _ => refl _) fun _ => ite (fun _ => ringErr _ _) fun _ => setRing _ _ _

theorem takeCons (s : State) (r v : Nat) : s.Steady (s.takeCons r v) :=
  ite (fun _ => refl _) fun _ => ite (fun _ => ringErr _ _) fun _ => setRing _ _ _

theorem takeDoorbell (s : State) (db : List Byte) : s.Steady (s.takeDoorbell db) :=
  (((((((foldl (fun _ _ => takeProd _ _ _) _ _).trans (foldl (fun _ _ => takeCons _ _ _) _ _)).trans
      (takeCons _ _ _)).trans (takeCons _ _ _)).trans (takeProd _ _ _)).trans (takeProd _ _ _)).trans
      (setHif _ _)).trans (overflow _)

theorem fetchLate (s : State) : s.Steady s.fetchLate := by
  unfold State.fetchLate
  exact ((count _ _).trans (setFlag _ _ _)).trans (setHif _ _)

theorem writeShadow (s : State) : s.Steady s.writeShadow :=
  ite (fun _ => ((emit _ _).trans (foldl (fun _ _ => ringIrq _ _) _ _)).trans (setHif _ _)) fun _ => refl _

theorem holdCopy (s : State) (c : HostCmd) : s.Steady (s.holdCopy c) :=
  ite (fun _ => ite (fun _ => (setRing _ _ _).trans (leaveSelfRefresh _)) fun _ => setRing _ _ _) fun _ => refl _

theorem copyIn (s : State) (c : HostCmd) : s.Steady (s.copyIn c).1 := by
  unfold State.copyIn
  extract_lets a n
  split_ifs
  · exact refl _
  · exact refl _
  · exact (readHost _ _ _).trans (store _ _ _ _)

theorem copyOut (s : State) (c : HostCmd) : s.Steady (s.copyOut c).1 := by
  unfold State.copyOut
  extract_lets a n
  split_ifs
  · exact refl _
  · exact refl _
  · split
    · exact dramSeen _ _ _
    · exact writeHost _ _ _

/-! ### Operations of Mix -/

theorem setRte (s : State) (i : Nat) (r : RouteSt) : s.Steady (s.setRte i r) := setMix _ _

theorem dlyWrite (s : State) (line c : Nat) (ws : List Word) : s.Steady (s.dlyWrite line c ws) := by
  induction ws generalizing s c with
  | nil => exact refl s
  | cons w ws ih => exact (putMemWord _ _ _).trans (ih _ _)

theorem rteLines (s : State) (r : RouteSt) (b : List Word) : s.Steady (s.rteLines r b) := by
  unfold State.rteLines
  extract_lets s1
  have h1 : s.Steady s1 := ite (fun _ => dlyWrite _ _ _ _) fun _ => refl _
  split
  · exact h1.trans (dlyWrite _ _ _ _)
  · exact h1

theorem countSat (s : State) (cnt : Nat) (f : Fld) (n : Nat) : s.Steady (s.countSat cnt f n) :=
  ite (fun _ => refl _) fun _ => (countBy _ _ _).trans (setFlag _ _ _)

theorem routeEntry (s : State) (p i : Nat) : s.Steady (s.routeEntry p i) :=
  ite (fun _ => refl _) fun _ => (((rteLines _ _ _).trans (countSat _ _ _ _)).trans (putCur _ _ _)).trans (setRte _ _ _)

theorem busEntry (s : State) (p i : Nat) : s.Steady (s.busEntry p i) :=
  ite (fun _ => refl _) fun _ => (countSat _ _ _ _).trans (putCur _ _ _)

theorem setDyn (s : State) (i : Nat) (x : DynSt) : s.Steady (s.setDyn i x) := setMix _ _

theorem dynEntry (s : State) (p i : Nat) : s.Steady (s.dynEntry p i) :=
  ite (fun _ => refl _) fun _ => (((caughtUp _ _).trans (countSat _ _ _ _)).trans (putCur _ _ _)).trans (setDyn _ _ _)

theorem endStage (s : State) (kind : Nat) : s.Steady (s.endStage kind) := (setFab _ _).trans (checkDone _)

theorem routeStage (s : State) : s.Steady s.routeStage := by
  unfold State.routeStage
  split
  · exact refl _
  · exact (foldl (fun _ _ => routeEntry _ _ _) _ _).trans (endStage _ _)

theorem mixStage (s : State) : s.Steady s.mixStage := by
  unfold State.mixStage
  split
  · exact refl _
  · exact (foldl (fun _ _ => busEntry _ _ _) _ _).trans (endStage _ _)

theorem dynStage (s : State) : s.Steady s.dynStage := by
  unfold State.dynStage
  split
  · exact refl _
  · exact (foldl (fun _ _ => dynEntry _ _ _) _ _).trans (endStage _ _)

theorem cutSlot (s : State) (slot : Nat) (keep : Bool) : s.Steady (s.cutSlot slot keep) := setFab _ _

theorem cutRoutes (s : State) : s.Steady s.cutRoutes :=
  foldl (fun _ _ => ite (fun _ => ((((rteLines _ _ _).trans (setRte _ _ _)).trans (cutSlot _ _ _)).trans
      (count _ _)).trans (setFlag _ _ _)) fun _ => refl _) _ _

theorem cutBuses (s : State) : s.Steady s.cutBuses :=
  foldl (fun _ _ => ite (fun _ => ((cutSlot _ _ _).trans (count _ _)).trans (setFlag _ _ _)) fun _ => refl _) _ _

theorem cutDyns (s : State) : s.Steady s.cutDyns :=
  foldl (fun _ _ => ite (fun _ => ((cutSlot _ _ _).trans (count _ _)).trans (setFlag _ _ _)) fun _ => refl _) _ _

theorem cutStages (s : State) : s.Steady s.cutStages := ((cutRoutes _).trans (cutBuses _)).trans (cutDyns _)

theorem orphans (s : State) : s.Steady s.orphans :=
  (ite (fun _ => setFlag _ _ _) fun _ => refl _ : s.Steady _).trans
      ((ite (fun _ => setFlag _ _ _) fun _ => refl _ : State.Steady _ _).trans (ite (fun _ => setFlag _ _ _) fun _ => refl _))

theorem mixCounts (s : State) : s.Steady s.mixCounts :=
  ((((put _ _ _).trans (put _ _ _)).trans (put _ _ _)).trans (put _ _ _)).trans (put _ _ _)

theorem endFades (s : State) : s.Steady s.endFades := (setMix _ _).trans (mixCounts _)

theorem meterClear (s : State) : s.Steady s.meterClear := setMix _ _

theorem meterTake (s : State) : s.Steady s.meterTake :=
  ite (fun _ => refl _) fun _ => (ite (fun _ => meterClear _) fun _ => refl _ : s.Steady _).trans (setMix _ _)

theorem pushMeter (s : State) (n : Nat) (bs : List Byte) : s.Steady (s.pushMeter n bs) := by
  induction n generalizing s bs with
  | zero => exact refl s
  | succ n ih => exact (pushRing _ _ _ _).trans (ih _ _)

theorem meterPost (s : State) : s.Steady s.meterPost :=
  ite (fun _ => refl _) fun _ => (ite (fun _ => (pushMeter _ _ _).trans (setMix _ _)) fun _ => count _ _ :
      s.Steady _).trans (meterClear _)

/-! ### Operations of PSets -/

theorem pendCounts (s : State) : s.Steady s.pendCounts := ((setFld _ _ _).trans (setFlag _ _ _)).trans (setFld _ _ _)

theorem enterSet (s : State) (id : Nat) : s.Steady (s.enterSet id) :=
  ite (fun _ => refl _) fun _ => ite (fun _ => foldl (fun _ _ => setMix _ _) _ _) fun _ =>
      ite (fun _ => foldl (fun _ _ => setRte _ _ _) _ _) fun _ =>
      ite (fun _ => foldl (fun _ _ => setMix _ _) _ _) fun _ =>
      ite (fun _ => foldl (fun _ _ => setDyn _ _ _) _ _) fun _ => (meterClear _).trans (setMix _ _)

theorem refresh (s : State) (id : Nat) : s.Steady (s.refresh id) := by
  unfold State.refresh
  split
  · exact refl _
  · exact ite (fun _ => ((putBytes _ _ _).trans (setPset _ _ _)).trans (pendCounts _)) fun _ => refl _

theorem flipSet (s : State) (id : Nat) : s.Steady (s.flipSet id) := by
  unfold State.flipSet
  extract_lets s1
  split
  · exact refresh _ _
  · exact (refresh _ _).trans (setPset _ _ _)

theorem applyPsets (s : State) (ids : List Nat) : s.Steady (s.applyPsets ids) :=
  (((((ite (fun _ => (foldl flipSet _ _).trans (enterSet _ _)) fun _ => foldl flipSet _ _ : s.Steady _).trans
      (foldl (fun _ _ => ite (fun _ => refl _) fun _ => enterSet _ _) _ _)).trans (putPair _ _ _ _)).trans
      (count _ _)).trans (mixCounts _)).trans (pendCounts _)

theorem busFirst (s : State) : s.Steady s.busFirst := ite (fun _ => foldl (fun _ _ => setMix _ _) _ _) fun _ => refl _

theorem applyDeferred (s : State) : s.Steady s.applyDeferred :=
  (((endFades _).trans (busFirst _)).trans (setMix _ _)).trans (mixCounts _)

theorem psetUsed (s : State) : s.Steady s.psetUsed := setFld _ _ _

theorem psetDefine (s : State) (c : HostCmd) : s.Steady (s.psetDefine c).1 := by
  unfold State.psetDefine
  extract_lets id off units size p z s1
  have h1 : s.Steady s1 := (putBytes _ _ _).trans (putBytes _ _ _)
  split_ifs
  · exact refl _
  · exact refl _
  · exact refl _
  · exact refl _
  · exact refl _
  · exact refl _
  · exact (h1.trans (setPset _ _ _)).trans (psetUsed _)

theorem psetUndefine (s : State) (c : HostCmd) : s.Steady (s.psetUndefine c).1 := by
  unfold State.psetUndefine
  extract_lets id
  split_ifs
  · exact refl _
  · exact refl _
  · exact refl _
  · exact refl _
  · exact refl _
  · exact ((setMix _ _).trans (psetUsed _)).trans (pendCounts _)

theorem putShadow (s : State) (id off : Nat) (b : List Byte) : s.Steady (s.putShadow id off b) := by
  unfold State.putShadow
  extract_lets s1
  split
  · exact refresh _ _
  · exact (refresh _ _).trans (putBytes _ _ _)

theorem psetLoad (s : State) (c : HostCmd) : s.Steady (s.psetLoad c).1 := by
  unfold State.psetLoad
  extract_lets id off n
  split
  · exact refl _
  · split_ifs
    · exact refl _
    · exact refl _
    · exact (readHost _ _ _).trans (putShadow _ _ _ _)

theorem psetWrite (s : State) (c : HostCmd) : s.Steady (s.psetWrite c).1 := by
  unfold State.psetWrite
  extract_lets id n off
  split
  · exact refl _
  · split_ifs
    · exact refl _
    · exact refl _
    · exact putShadow _ _ _ _

theorem proposeCommit (s : State) (p : Proposal) : s.Steady (s.proposeCommit p) := by
  unfold State.proposeCommit
  exact (sendCmd _ _ _).trans (setMix _ _)

theorem acceptCommit (s : State) (c : HostCmd) (n : Nat) (late : Bool) (k : TimedKind) (items : List (Nat × Word))
    (streams : Bool) : s.Steady (s.acceptCommit c n late k items streams) :=
  ite (fun _ => (((tick1 _).trans (schedule _ _ _ _ _ _)).trans (proposeCommit _ _)).trans (pendCounts _)) fun _ =>
      (schedule _ _ _ _ _ _).trans (pendCounts _)

theorem setErr (s : State) (e : SetErr) : s.Steady (s.setErr e) := ((setFld _ _ _).trans (setFld _ _ _)).trans (setFld _ _ _)

theorem psetCommit (s : State) (c : HostCmd) (n : Nat) (late : Bool) : s.Steady (s.psetCommit c n late).1 := by
  unfold State.psetCommit
  extract_lets k ids s1
  have h1 : s.Steady s1 := readHost _ _ _
  split_ifs
  · exact refl _
  · exact h1
  · exact h1
  · exact h1
  · exact h1
  · split
    · exact h1.trans (setErr _ _)
    · exact h1.trans (acceptCommit _ _ _ _ _ _ _)

theorem psetRefused (s : State) : s.Steady s.psetRefused := (count _ _).trans (setFlag _ _ _)

/-! ### Operations of Streams -/

theorem streamStage (s : State) (c : HostCmd) : s.Steady (s.streamStage c).1 := by
  unfold State.streamStage
  extract_lets dir i x b s1 s2
  have h2 : s.Steady s2 := (emit _ _).trans (ite (fun _ => setStr _ _) fun _ => setStr _ _)
  split_ifs
  · exact refl _
  · exact refl _
  · exact refl _
  · exact h2

theorem streamCommit (s : State) (c : HostCmd) (n : Nat) (late : Bool) : s.Steady (s.streamCommit c n late).1 := by
  unfold State.streamCommit
  extract_lets k xs s1
  have h1 : s.Steady s1 := readHost _ _ _
  split_ifs
  · exact refl _
  · exact h1
  · exact h1
  · exact h1
  · exact h1
  · split
    · exact h1.trans (put _ _ _)
    · exact h1.trans (acceptCommit _ _ _ _ _ _ _)

theorem streamRefused (s : State) : s.Steady s.streamRefused := setFlag _ _ _

theorem enterRx (s : State) (i : Nat) : s.Steady (s.enterRx i) :=
  ite (fun _ => (setRx _ _ _).trans (setFld _ _ _)) fun _ => ite (fun _ => setRx _ _ _) fun _ => (setRx _ _ _).trans (setFld _ _ _)

theorem enterTx (s : State) (i : Nat) : s.Steady (s.enterTx i) := ((setStr _ _).trans (setFlag _ _ _)).trans (setFld _ _ _)

theorem strCounts (s : State) : s.Steady s.strCounts :=
  ((((setFld _ _ _).trans (setFld _ _ _)).trans (setFld _ _ _)).trans (setFld _ _ _)).trans (foldl (fun _ _ => setFld _ _ _) _ _)

theorem igmpReport (s : State) (p : Nat) (gs : List Nat) : s.Steady (s.igmpReport p gs) :=
  ite (fun _ => refl _) fun _ => emit _ _

theorem igmpReports (s : State) : s.Steady s.igmpReports := foldl (fun _ _ => igmpReport _ _ _) _ _

theorem applyStreams (s : State) (xs : List Nat) : s.Steady (s.applyStreams xs) :=
  (foldl (fun _ _ => ite (fun _ => enterTx _ _) fun _ => enterRx _ _) _ _).trans
      (((ite (fun _ => igmpReports _) fun _ => refl _ : State.Steady _ _).trans (strCounts _)).trans (pendCounts _))

theorem setTxQueue (s : State) (p : Nat) (q : List TxPkt) : s.Steady (s.setTxQueue p q) := setStr _ _

theorem startPkt (s : State) (p : Nat) (k : TxPkt) : s.Steady (s.startPkt p k) :=
  ((emit _ _).trans (count _ _)).trans (count _ _)

theorem lateDrop (s : State) (p : Nat) : s.Steady (s.lateDrop p) :=
  (setTxQueue _ _ _).trans (foldl (fun _ _ => ((count _ _).trans (count _ _)).trans (setFlag _ _ _)) _ _)

theorem drainPort (s : State) (p : Nat) : s.Steady (s.drainPort p) :=
  ite (fun _ => ((lateDrop _ _).trans (countBy _ _ _)).trans (setTxQueue _ _ _)) fun _ =>
      ite (fun _ => ((lateDrop _ _).trans (setTxQueue _ _ _)).trans (foldl (fun _ _ => startPkt _ _ _) _ _)) fun _ => lateDrop _ _

theorem queueTx (s : State) (i n : Nat) : s.Steady (s.queueTx i n) :=
  ((setStr _ _).trans (setFld _ _ _)).trans (foldl (fun _ _ => ite (fun _ => setTxQueue _ _ _) fun _ => refl _) _ _)

theorem launch (s : State) : s.Steady s.launch := by
  unfold State.launch
  split
  · exact refl _
  · extract_lets s1
    exact ite (fun _ => refl _) fun _ => ite (fun _ => (setStr _ _).trans
        (foldl (fun _ _ => count _ _) _ _)) fun _ => ((setStr _ _).trans (foldl (fun _ _ => queueTx _ _ _) _ _)).trans
        (foldl drainPort _ _)

theorem badFrame (s : State) (i reason : Nat) : s.Steady (s.badFrame i reason) := (setFld _ _ _).trans (count _ _)

theorem forward (s : State) (c f : List Byte) (src : Nat) : s.Steady (s.forward c f src) :=
  ite (fun _ => refl _) fun _ => ite (fun _ => (sendMsg _ _ _).trans (count _ _)) fun _ => count _ _

theorem land (s : State) (i x : Nat) (rows : List (List Word)) : s.Steady (s.land i x rows) :=
  ite (fun _ => badFrame _ _ _) fun _ => ite (fun _ => setRx _ _ _) fun _ => ((setRx _ _ _).trans (setFld _ _ _)).trans
      (setFld _ _ _)

theorem place (s : State) (i : Nat) (c : List Byte) (x : Int) (pl : List Byte) : s.Steady (s.place i c x pl) :=
  ite (fun _ => badFrame _ _ _) fun _ => ite (fun _ => count _ _) fun _ => ite (fun _ => count _ _) fun _ => land _ _ _ _

theorem setMediaNow (s : State) (m : MediaNow) : s.Steady (s.setMediaNow m) := of_same rfl rfl rfl ⟨rfl, rfl, rfl, rfl⟩

theorem forwardOnce (s : State) (i : Nat) (c f : List Byte) (src : Nat) : s.Steady (s.forwardOnce i c f src) :=
  ite (fun _ => refl _) fun _ => (forward _ _ _ _).trans (setMediaNow _ _)

theorem atWindow (s : State) (i : Nat) (x : Nat × List Byte × Nat) : s.Steady (s.atWindow i x) := by
  unfold State.atWindow
  extract_lets f r c o seq d s1 s2 s3
  have h2 : s.Steady s2 := (setRx _ _ _).trans (setFld _ _ _)
  have h3 : s.Steady s3 := (h2.trans (count _ _)).trans (forwardOnce _ _ _ _ _)
  split
  · exact count _ _
  · split
    · exact count _ _
    · split
      · exact h3.trans (badFrame _ _ _)
      · exact h3.trans (place _ _ _ _ _)

theorem rewindRx (s : State) (m : MediaNow) : s.Steady (s.rewindRx m) := (setRx _ _ _).trans (foldl (fun _ _ => put _ _ _) _ _)

theorem inTurn (s : State) (i : Nat) (x : Nat × List Byte × Nat) : s.Steady (s.inTurn i x) :=
  ite (fun _ => (setMediaNow _ _).trans (atWindow _ _ _)) fun _ => ((setMediaNow _ _).trans (rewindRx _ _)).trans
      (foldl (fun _ _ => atWindow _ _ _) _ _)

theorem takeFrame (s : State) (i src : Nat) (f : List Byte) (stamp : Nat) : s.Steady (s.takeFrame i src f stamp) := by
  unfold State.takeFrame
  extract_lets c o
  split
  · exact badFrame _ _ _
  · exact inTurn _ _ _

theorem classify (s : State) (src : Nat) (f : List Byte) (stamp : Nat) : s.Steady (s.classify src f stamp).1 := by
  unfold State.classify
  split
  · split_ifs
    · exact takeFrame _ _ _ _ _
    · exact count _ _
  · split_ifs
    · exact (count _ _).trans (setFlag _ _ _)
    · exact refl _

theorem rxTimeout (s : State) (i : Nat) : s.Steady (s.rxTimeout i) :=
  ite (fun _ => ((setRx _ _ _).trans (setFld _ _ _)).trans (postEvent _ _ _ _)) fun _ => refl _

theorem rxSlots (s : State) (c : List Byte) (rows : List (List Word)) : s.Steady (s.rxSlots c rows) :=
  foldl (fun _ _ => ite (fun _ => refl _) fun _ => setFab _ _) _ _

theorem rxBoundary (s : State) (i m : Nat) : s.Steady (s.rxBoundary i m) :=
  ite (fun _ => refl _) fun _ => ite (fun _ => rxSlots _ _ _) fun _ => ((rxSlots _ _ _).trans (setRx _ _ _)).trans
      (ite (fun _ => (((count _ _).trans (count _ _)).trans (count _ _)).trans (setFlag _ _ _)) fun _ => refl _)

theorem rxFill (s : State) (m : Nat) : s.Steady (s.rxFill m) := foldl (fun _ _ => rxBoundary _ _ _) _ _

/-! ### Operations of Agree -/

theorem runDue (s : State) (sel : TimedKind → Bool) (f : State → Timed → State)
    (hf : ∀ (s : State) x, s.Steady (f s x)) : s.Steady (s.runDue sel f) := by
  have h : s.Steady { s with sched := s.sched.filter fun t => !(s.due t && sel t.kind) } := of_same rfl rfl rfl ⟨rfl, rfl, rfl, rfl⟩
  exact h.trans (foldl hf _ _)

theorem endTimed (s : State) (t : Timed) (status detail : Nat) : s.Steady (s.endTimed t status detail) := by
  unfold State.endTimed
  split
  · exact refl _
  · exact ite (fun _ => count _ _) fun _ => finish _ _ _ _ _ _

theorem dropProp (s : State) (id : Option Nat) : s.Steady (s.dropProp id) := setMix _ _

theorem commitFailed (s : State) (x : TimedKind) : s.Steady (s.commitFailed x) := by
  unfold State.commitFailed
  split
  · exact psetRefused _
  · exact streamRefused _
  · exact refl _

theorem withdraw (s : State) (t : Timed) (status : Nat) : s.Steady (s.withdraw t status) :=
  (((((dropProp _ _).trans (sendCmd _ _ _)).trans (count _ _)).trans (commitFailed _ _)).trans
      (endTimed _ _ _ _)).trans (pendCounts _)

theorem applyCommit (s : State) (t : Timed) : s.Steady (s.applyCommit t) := by
  unfold State.applyCommit
  extract_lets s1
  split
  · exact withdraw _ _ _
  · split
    · exact ((dropProp _ _).trans (applyPsets _ _)).trans (endTimed _ _ _ _)
    · exact ((dropProp _ _).trans (applyStreams _ _)).trans (endTimed _ _ _ _)
    · exact dropProp _ _

theorem takeProposal (s : State) (p : Proposal) : s.Steady (s.takeProposal p) := by
  unfold State.takeProposal
  extract_lets ids k t a s1 s2
  have h1 : s.Steady s1 := of_same rfl rfl rfl ⟨rfl, rfl, rfl, rfl⟩
  split
  · exact refl _
  · split
    · exact sendCmd _ _ _
    · exact ((h1.trans (setMix _ _)).trans (sendCmd _ _ _)).trans (pendCounts _)

theorem agreeTo (s : State) (id : Nat) : s.Steady (s.agreeTo id) := of_same rfl rfl rfl ⟨rfl, rfl, rfl, rfl⟩

theorem failProposal (s : State) (id status : Nat) : s.Steady (s.failProposal id status) := by
  unfold State.failProposal
  split
  · exact refl _
  · next t _ =>
    have h : s.Steady { s with sched := s.sched.filter fun u => !u.isOwn id } := of_same rfl rfl rfl ⟨rfl, rfl, rfl, rfl⟩
    exact h.trans (withdraw _ _ _)

theorem dropReceived (s : State) (id : Nat) : s.Steady (s.dropReceived id) := by
  unfold State.dropReceived
  extract_lets s1 s2
  have h2 : s.Steady s2 := (count _ _).trans (of_same rfl rfl rfl ⟨rfl, rfl, rfl, rfl⟩)
  exact ite (fun _ => (h2.trans (dropProp _ _)).trans (pendCounts _)) fun _ => count _ _

/-! ### Operations of Amp -/

theorem putAmp1 (s : State) (c : Nat) (x : AmpCh) : s.Steady (s.putAmp1 c x) :=
  ((setAmp _ _).trans (setFld _ _ _)).trans (setFlag _ _ _)

theorem setStage (s : State) (c : Fin 32) (on : Bool) : s.Steady (s.setStage c on) := drive _ _ _

theorem enterCheck (s : State) (c : Fin 32) : s.Steady (s.enterCheck c) := (putAmp1 _ _ _).trans (setStage _ _ _)

theorem legsLow (s : State) (c : Fin 32) : s.Steady (s.legsLow c) := ((putAmp1 _ _ _).trans (drive _ _ _)).trans (setStage _ _ _)

theorem haltCh (s : State) (c : Fin 32) (st : ChState) (timer : Nat) : s.Steady (s.haltCh c st timer) :=
  (legsLow _ _).trans (putAmp1 _ _ _)

theorem startCh (s : State) (c : Fin 32) : s.Steady (s.startCh c) := ite (fun _ => enterCheck _ _) fun _ => refl _

theorem stopCh (s : State) (c : Fin 32) : s.Steady (s.stopCh c) :=
  ite (fun _ => refl _) fun _ => ite (fun _ => ite (fun _ => refl _) fun _ => putAmp1 _ _ _) fun _ => haltCh _ _ _ _

theorem timerCh (s : State) (c : Fin 32) : s.Steady (s.timerCh c) := ite (fun _ => enterCheck _ _) fun _ => refl _

theorem clrCh (s : State) (c : Nat) : s.Steady (s.clrCh c) := ite (fun _ => putAmp1 _ _ _) fun _ => refl _

theorem tripCh (s : State) (c : Fin 32) (reason wait : Nat) : s.Steady (s.tripCh c reason wait) := by
  unfold State.tripCh
  extract_lets st s1 s2 s3
  have h1 : s.Steady s1 := by
    clear_value st
    cases st
    case play => exact haltCh _ _ _ _
    case mute => exact haltCh _ _ _ _
    case check => exact haltCh _ _ _ _
    all_goals exact legsLow _ _
  exact (((h1.trans (count _ _)).trans (setFld _ _ _)).trans (setFlag _ _ _)).trans (raise _ _ _)

theorem learnZ (s : State) (c mag : Nat) : s.Steady (s.learnZ c mag) := by
  unfold State.learnZ
  extract_lets x
  split
  · exact refl _
  · exact ite (fun _ => ((putAmp1 _ _ _).trans (setFld _ _ _)).trans (setFlag _ _ _)) fun _ => putAmp1 _ _ _

theorem endWindow (s : State) (c : Nat) (z : ZSum) : s.Steady (s.endWindow c z) :=
  (((((tick1 _).trans (setFld _ _ _)).trans (setFld _ _ _)).trans (setFlag _ _ _)).trans (setFld _ _ _)).trans
      ((ite (fun _ => (setSeen _ _ _).trans (count _ _)) fun _ => setSeen _ _ _ : State.Steady _ _).trans
      ((ite (fun _ => refl _) fun _ => (setFlag _ _ _).trans (postEvent _ _ _ _) : State.Steady _ _).trans
      (ite (fun _ => refl _) fun _ => learnZ _ _ _)))

theorem noPilot (s : State) (c : Nat) : s.Steady (s.noPilot c) :=
  ite (fun _ => refl _) fun _ => ((putAmp1 _ _ _).trans (setFld _ _ _)).trans (setFlag _ _ _)

theorem zWindowEnd (s : State) (c : Nat) : s.Steady (s.zWindowEnd c) := by
  unfold State.zWindowEnd
  extract_lets s1 x
  split
  · exact noPilot _ _
  · exact ite (fun _ => noPilot _ _) fun _ => ((noPilot _ _).trans (putAmp1 _ _ _)).trans (endWindow _ _ _)

theorem learnStart (s : State) (c : Nat) : s.Steady (s.learnStart c) := (putAmp1 _ _ _).trans (setFlag _ _ _)

theorem overload (s : State) (c : Nat) : s.Steady (s.overload c) := (putAmp1 _ _ _).trans (setFlag _ _ _)

theorem checkPass (s : State) (c : Nat) : s.Steady (s.checkPass c) := putAmp1 _ _ _

theorem checkStart (s : State) (c : Nat) : s.Steady (s.checkStart c) :=
  ite (fun _ => refl _) fun _ => ite (fun _ => checkPass _ _) fun _ => putAmp1 _ _ _

theorem checkEnd (s : State) (c : Fin 32) : s.Steady (s.checkEnd c) := by
  unfold State.checkEnd
  extract_lets s1 x
  split
  · exact noPilot _ _
  · extract_lets short s2
    have h2 : s.Steady s2 := (noPilot _ _).trans (endWindow _ _ _)
    exact ite (fun _ => noPilot _ _) fun _ => ite (fun _ => h2.trans (haltCh _ _ _ _)) fun _ => h2.trans (checkPass _ _)

theorem muteCh (s : State) (err : Bool) (c : Nat) : s.Steady (s.muteCh err c) := by
  unfold State.muteCh
  extract_lets x __src __src'
  split
  · exact putAmp1 _ _ _
  · exact putAmp1 _ _ _
  · exact ite (fun _ => refl _) fun _ => putAmp1 _ _ _
  · exact refl _

theorem muteAll (s : State) (err : Bool) : s.Steady (s.muteAll err) :=
  (setFlag _ _ _).trans (foldl (fun _ _ => muteCh _ _ _) _ _)

theorem timebaseLoss (s : State) : s.Steady s.timebaseLoss :=
  ((((foldl (fun _ _ => haltCh _ _ _ _) _ _).trans (releaseOwn _)).trans (setFlag _ _ _)).trans (setFlag _ _ _)).trans (raise _ _ _)

theorem chainBlock (s : State) (c k0 : Nat) : s.Steady (s.chainBlock c k0) :=
  ((putAmp1 _ _ _).trans (countBy _ _ _)).trans (put _ _ _)

theorem senseTick (s : State) (c k0 : Nat) : s.Steady (s.senseTick c k0) := (putAmp1 _ _ _).trans (noPilot _ _)

theorem countCh (s : State) (c : Nat) : s.Steady (s.countCh c) := putAmp1 _ _ _

theorem ampTick (s : State) (n : Nat) : s.Steady (s.ampTick n) :=
  foldl (fun _ _ => ite (fun _ => ((senseTick _ _ _).trans (chainBlock _ _ _)).trans (countCh _ _)) fun _ => refl _) _ _

theorem renumber (s : State) (d : Int) : s.Steady (s.renumber d) := foldl (fun _ _ => putAmp1 _ _ _) _ _

theorem placePeriod (s : State) (c : Fin 32) (t0 l : Nat) (m : Word) : s.Steady (s.placePeriod c t0 l m) :=
  (ite (fun _ => count _ _) fun _ => refl _ : s.Steady _).trans (ite (fun _ => (putAmp1 _ _ _).trans
      (emit _ _)) fun _ => putAmp1 _ _ _)

theorem lbFault (s : State) (f : Fld) (x cnt : Nat) : s.Steady (s.lbFault f x cnt) :=
  (((setFld _ _ _).trans (setFlag _ _ _)).trans (setFlag _ _ _)).trans (ite (fun _ => (setTwn _ _).trans
      (raise _ _ _)) fun _ => ((setTwn _ _).trans (count _ _)).trans (raise _ _ _))

theorem lbPwmTake (s : State) (c : Nat) (ok : Bool) : s.Steady (s.lbPwmTake c ok) :=
  ite (fun _ => (setTwn _ _).trans (lbFault _ _ _ _)) fun _ => setTwn _ _

theorem lbTdmTake (s : State) (p : Nat) (ok : Bool) : s.Steady (s.lbTdmTake p ok) :=
  ite (fun _ => (setTwn _ _).trans (lbFault _ _ _ _)) fun _ => setTwn _ _

theorem lbPeriod (s : State) (c : Fin 32) (j : Nat) (captured : List PinEdge) (pstage : Bool) (sclk : List ClkEdge)
    (theirTrip : Bool) : s.Steady (s.lbPeriod c j captured pstage sclk theirTrip) :=
  ite (fun _ => lbPwmTake _ _ _) fun _ => refl _

theorem periodStartCh (s : State) (c : Fin 32) (j : Nat) : s.Steady (s.periodStartCh c j) :=
  ite (fun _ => (setTwn _ _).trans (haltCh _ _ _ _)) fun _ => ite (fun _ => (ite (fun _ => ((setTwn _ _).trans
      (count _ _)).trans (setFlag _ _ _)) fun _ => setTwn _ _ : s.Steady _).trans
      (ite (fun _ => (placePeriod _ _ _ _ _).trans (putAmp1 _ _ _)) fun _ => placePeriod _ _ _ _ _)) fun _ => setTwn _ _

theorem stepPeriod (s : State) (c : Fin 32) (sh : Int) : s.Steady (s.stepPeriod c sh) := by
  unfold State.stepPeriod
  extract_lets x
  split
  · exact refl _
  · extract_lets t0 lo j
    exact ite (fun _ => refl _) fun _ => placePeriod _ _ _ _ _

theorem stepPeriods (s : State) (sh : Int) : s.Steady (s.stepPeriods sh) := foldl (fun _ _ => stepPeriod _ _ _) _ _

theorem subEnd (s : State) (c : Nat) : s.Steady (s.subEnd c) :=
  ite (fun _ => refl _) fun _ => (putAmp1 _ _ _).trans (setFld _ _ _)

theorem modErr (s : State) (off : Nat) : s.Steady (s.modErr off) := ((setFlag _ _ _).trans (setFld _ _ _)).trans (setFlag _ _ _)

theorem writeFsw (s : State) (w : Word) : s.Steady (s.writeFsw w) :=
  ite (fun _ => modErr _ _) fun _ => (put _ _ _).trans (put _ _ _)

theorem writeDither (s : State) (w : Word) : s.Steady (s.writeDither w) := ite (fun _ => modErr _ _) fun _ => put _ _ _

theorem writeSnsClk (s : State) (w : Word) : s.Steady (s.writeSnsClk w) :=
  ite (fun _ => (setFld _ _ _).trans (setFlag _ _ _)) fun _ => ite (fun _ => setFld _ _ _) fun _ =>
      (setFld _ _ _).trans (setFld _ _ _)

theorem armMod (s : State) (w : Word) : s.Steady (s.armMod w) := by
  unfold State.armMod
  extract_lets hi s1 s2 s3
  have h1 : s.Steady s1 := of_same rfl rfl rfl ⟨rfl, rfl, rfl, rfl⟩
  have h2 : s.Steady s2 := (h1.trans (put _ _ _)).trans (put _ _ _)
  exact (h2.trans (setAmp _ _)).trans (setFlag _ _ _)

theorem startLimit (s : State) (was : Bool) (c : Nat) : s.Steady (s.startLimit was c) :=
  ite (fun _ => putAmp1 _ _ _) fun _ => refl _

theorem applyAmp (s : State) : s.Steady s.applyAmp := by
  unfold State.applyAmp
  extract_lets l was s1
  split
  · exact modErr _ _
  · exact (foldl (fun _ _ => putApp _ _ _) _ _).trans (foldl (fun _ _ => (startLimit _ _ _).trans (noPilot _ _)) _ _)

theorem modStagedApply (s : State) : s.Steady s.modStagedApply := by
  unfold State.modStagedApply
  split
  · exact refl _
  · extract_lets s1
    have h1 : s.Steady s1 := (setAmp _ _).trans (setFlag _ _ _)
    exact ite (fun _ => refl _) fun _ => (ite (fun _ => h1.trans (setFlag _ _ _)) fun _ => h1 : s.Steady _).trans (applyAmp _)

theorem readIfir (s : State) : s.Steady s.readIfir := (setFld _ _ _).trans (of_same rfl rfl rfl ⟨rfl, rfl, rfl, rfl⟩)

/-! ### Operations of MacTx -/

theorem setMtx (s : State) (i : Nat) (m : MgmtTx) : s.Steady (s.setMtx i m) := setEth _ _

theorem mtxAdvance (n : Nat) (s : State) : s.Steady (State.mtxAdvance n s) := by
  induction n generalizing s with
  | zero => exact refl s
  | succ n ih =>
    unfold State.mtxAdvance
    extract_lets x
    split
    · exact ite (fun _ => ((setRing _ _ _).trans (setEth _ _)).trans (ih _)) fun _ => refl _
    · exact refl _

theorem mtxBack (s : State) (i : Nat) (m : MgmtTx) : s.Steady (s.mtxBack i m) := by
  unfold State.mtxBack
  split
  · exact ite (fun _ => (emit _ _).trans (setMtx _ _ _)) fun _ => refl _
  · exact refl _

theorem mtxFlush (s : State) : s.Steady s.mtxFlush := (foldl (fun _ _ => mtxBack _ _ _) _ _).trans (mtxAdvance _ _)

theorem mtxDone (s : State) (i status stamp : Nat) : s.Steady (s.mtxDone i status stamp) := by
  unfold State.mtxDone
  split
  · extract_lets m s1
    have h1 : s.Steady s1 := ((setMtx _ _ _).trans (mtxBack _ _ _)).trans (count _ _)
    exact h1.trans (mtxAdvance _ _)
  · exact refl _

theorem mgmtLinkDown (s : State) (n : Nat) : s.Steady (s.mgmtLinkDown n) := foldl (fun _ _ => mtxDone _ _ _ _) _ _

theorem linkDown (s : State) (n : Nat) : s.Steady (s.linkDown n) :=
  ite (fun _ => (((setFlag _ _ _).trans (setFlag _ _ _)).trans (count _ _)).trans
      ((ite (fun _ => (mgmtLinkDown _ _).trans (drainPort _ _)) fun _ => mgmtLinkDown _ _ : State.Steady _ _).trans
      (raise _ _ _))) fun _ => refl _

theorem ptpStamp (s : State) (n : Nat) (tx isPtp : Bool) (stamp : Nat) : s.Steady (s.ptpStamp n tx isPtp stamp) :=
  ite (fun _ => emit _ _) fun _ => refl _

theorem passFrame (s : State) (n : Nat) (f : List Byte) : s.Steady (s.passFrame n f).1 := by
  unfold State.passFrame
  split
  · split_ifs
    · exact tick1 _
    · exact refl _
  · exact refl _

theorem leaveLpi (s : State) : s.Steady s.leaveLpi := ite (fun _ => (setFlag _ _ _).trans (emit _ _)) fun _ => refl _

theorem startMgmt (s : State) (i : Nat) (m : MgmtTx) (frame : List Byte) (late : Bool) : s.Steady (s.startMgmt i m frame late) :=
  (((passFrame _ _ _).trans (emit _ _)).trans (count _ _)).trans (setMtx _ _ _)

theorem holdMgmt (s : State) (i : Nat) (m : MgmtTx) : s.Steady (s.holdMgmt i m) :=
  ite (fun _ => setMtx _ _ _) fun _ => (setMtx _ _ _).trans (count _ _)

theorem mgmtGo (s : State) (p i : Nat) (new : Bool) (m : MgmtTx) (frame : List Byte) : s.Steady (s.mgmtGo p i new m frame) :=
  ite (fun _ => ite (fun _ => setMtx _ _ _) fun _ => (ite (fun _ => holdMgmt _ _ _) fun _ => setMtx _ _ _ :
      s.Steady _).trans (leaveLpi _)) fun _ => ite (fun _ => (holdMgmt _ _ _).trans (leaveLpi _)) fun _ =>
      ite (fun _ => holdMgmt _ _ _) fun _ => (ite (fun _ => holdMgmt _ _ _) fun _ => setMtx _ _ _ : s.Steady _).trans
      (startMgmt _ _ _ _ _)

theorem mgmtLaunch (s : State) (p k : Nat) (d frame : List Byte) : s.Steady (s.mgmtLaunch p k d frame) :=
  ite (fun _ => refl _) fun _ => (ite (fun _ => emit _ _) fun _ => refl _ : s.Steady _).trans
      (ite (fun _ => (setMtx _ _ _).trans (mtxDone _ _ _ _)) fun _ => ite (fun _ => (setMtx _ _ _).trans
      (mtxDone _ _ _ _)) fun _ => ite (fun _ => (setMtx _ _ _).trans (mtxDone _ _ _ _)) fun _ =>
      (ite (fun _ => (setMtx _ _ _).trans (readHost _ _ _)) fun _ => setMtx _ _ _ : State.Steady _ _).trans (mgmtGo _ _ _ _ _ _))

theorem mgmtComplete (s : State) (p raw : Nat) : s.Steady (s.mgmtComplete p raw) := by
  unfold State.mgmtComplete
  split
  · extract_lets at0 s1
    exact (ptpStamp _ _ _ _ _).trans (mtxDone _ _ _ _)
  · exact refl _

theorem pauseEnds (s : State) (n : Nat) : s.Steady (s.pauseEnds n) :=
  ite (fun _ => ((setFlag _ _ _).trans (setEth _ _)).trans (ite (fun _ => drainPort _ _) fun _ => refl _)) fun _ => refl _

theorem takePause (s : State) (n q : Nat) : s.Steady (s.takePause n q) :=
  ite (fun _ => count _ _) fun _ => ite (fun _ => (count _ _).trans (pauseEnds _ _)) fun _ => ((count _ _).trans
      (setFlag _ _ _)).trans (setEth _ _)

theorem enterLpi (s : State) : s.Steady s.enterLpi :=
  ite (fun _ => ((setFlag _ _ _).trans (count _ _)).trans (emit _ _)) fun _ => refl _

theorem lpiReceived (s : State) (n : Nat) (on : Bool) : s.Steady (s.lpiReceived n on) :=
  ite (fun _ => (setFlag _ _ _).trans (count _ _)) fun _ => ite (fun _ => refl _) fun _ => setFlag _ _ _

/-! ### Operations of Clock -/

theorem putPairI (s : State) (lo hi : Nat) (i : Int) : s.Steady (s.putPairI lo hi i) := putPair _ _ _ _

theorem mclkCheck (s : State) : s.Steady s.mclkCheck := ite (fun _ => (setFlag _ _ _).trans (muteAll _ _)) fun _ => setFlag _ _ _

theorem noteDco (s : State) : s.Steady s.noteDco := by
  unfold State.noteDco
  exact setClkx _ _

theorem setDpll (s : State) (v : Nat) : s.Steady (s.setDpll v) := ((noteDco _).trans (setFld _ _ _)).trans (setClkx _ _)

theorem setRate (s : State) (r : Int) : s.Steady (s.setRate r) :=
  ((((putApp _ _ _).trans (putApp _ _ _)).trans (putApp _ _ _)).trans (putApp _ _ _)).trans (putApp _ _ _)

theorem setDco (s : State) (ppt : Int) : s.Steady (s.setDco ppt) :=
  (((noteDco _).trans (put _ _ _)).trans (setFlag _ _ _)).trans ((ite (fun _ => (setClkx _ _).trans
      (setRate _ _)) fun _ => setClkx _ _ : State.Steady _ _).trans (mclkCheck _))

theorem steer (s : State) : s.Steady s.steer := ite (fun _ => setDco _ _) fun _ => refl _

theorem oscFault (s : State) : s.Steady s.oscFault := by
  unfold State.oscFault
  extract_lets sel s1 __src s2
  have h1 : s.Steady s1 := (setFlag _ _ _).trans (setClkx _ _)
  have h2 : s.Steady s2 := h1.trans (of_same rfl rfl rfl ⟨rfl, rfl, rfl, rfl⟩)
  exact (h2.trans (mclkCheck _)).trans (condBegin _ _ _)

theorem refStatus (s : State) (n : Nat) : s.Steady (s.refStatus n) := ((setFld _ _ _).trans (setFld _ _ _)).trans (setFld _ _ _)

theorem setRef (s : State) (n : Nat) (r : Ref) : s.Steady (s.setRef n r) := (setClkx _ _).trans (refStatus _ _)

theorem setTimeSrc (s : State) (v : Nat) : s.Steady (s.setTimeSrc v) := (setFld _ _ _).trans (setFlag _ _ _)

theorem setBuildout (s : State) (i : Int) : s.Steady (s.setBuildout i) := putPairI _ _ _ _

theorem addOffset (s : State) (ps : Int) (a b : Nat) : s.Steady (s.addOffset ps a b) := setClkx _ _

theorem moveTime (s : State) (ps : Int) : s.Steady (s.moveTime ps) :=
  (ite (fun _ => ((putApp _ _ _).trans (putApp _ _ _)).trans (putApp _ _ _)) fun _ => refl _ : s.Steady _).trans (setGridU _ _)

theorem switchOffset (s : State) (old new : Nat) : s.Steady (s.switchOffset old new) :=
  ite (fun _ => moveTime _ _) fun _ => ite (fun _ => ite (fun _ => addOffset _ _ _ _) fun _ => setBuildout _ _) fun _ => ite
      (fun _ => addOffset _ _ _ _) fun _ => setBuildout _ _

theorem switchTo (s : State) (old new : Nat) : s.Steady (s.switchTo old new) :=
  (((((((switchOffset _ _ _).trans (setFld _ _ _)).trans (setFlag _ _ _)).trans (setFlag _ _ _)).trans
      (setDpll _ _)).trans (setClkx _ _)).trans (count _ _)).trans (postEvent _ _ _ _)

theorem predict (s : State) : s.Steady s.predict := ((noteDco _).trans (put _ _ _)).trans (tick1 _)

theorem toHoldover (s : State) : s.Steady s.toHoldover :=
  ((setFld _ _ _).trans (setFlag _ _ _)).trans (ite (fun _ => (((setDpll _ _).trans (setTimeSrc _ _)).trans
      (predict _)).trans (ite (fun _ => refl _) fun _ => setDco _ _)) fun _ => setDpll _ _)

theorem reselect (s : State) : s.Steady s.reselect := by
  unfold State.reselect
  extract_lets old
  split
  · exact ite (fun _ => refl _) fun _ => toHoldover _
  · extract_lets m
    exact ite (fun _ => switchTo _ _ _) fun _ => ite (fun _ => refl _) fun _ =>
        ite (fun _ => ite (fun _ => refl _) fun _ => switchTo _ _ _) fun _ => ite (fun _ => switchTo _ _ _) fun _ => refl _

theorem pruneDisputes (s : State) : s.Steady s.pruneDisputes :=
  (setClkx _ _).trans (foldl (fun _ _ => (refStatus _ _).trans (refStatus _ _)) _ _)

theorem refBreak (s : State) (n : Nat) (act : Bool) : s.Steady (s.refBreak n act) :=
  ite (fun _ => setRef _ _ _) fun _ => (((((setRef _ _ _).trans (pruneDisputes _)).trans (count _ _)).trans
      (setFlag _ _ _)).trans (postEvent _ _ _ _)).trans (reselect _)

theorem refQualified (s : State) (n : Nat) : s.Steady (s.refQualified n) := (setRef _ _ _).trans (reselect _)

theorem disputeNew (s : State) (a b : Nat) : s.Steady (s.disputeNew a b) :=
  ((((((setClkx _ _).trans (refStatus _ _)).trans (refStatus _ _)).trans (count _ _)).trans (setFlag _ _ _)).trans
      (postEvent _ _ _ _)).trans (reselect _)

theorem disputeCheck (s : State) (n : Nat) : s.Steady (s.disputeCheck n) :=
  ((setClkx _ _).trans (foldl (fun _ _ => (refStatus _ _).trans (refStatus _ _)) _ _)).trans
      ((ite (fun _ => refl _) fun _ => reselect _ : State.Steady _ _).trans
      (foldl (fun _ _ => ite (fun _ => disputeNew _ _ _) fun _ => refl _) _ _))

theorem refOff (s : State) (n : Nat) : s.Steady (s.refOff n) :=
  ite (fun _ => (setRef _ _ _).trans (pruneDisputes _)) fun _ => refl _

theorem followBw (s : State) : s.Steady s.followBw := ite (fun _ => refl _) fun _ => setClkx _ _

theorem refWindow (s : State) (n : Nat) (active : Bool) (ppb : Int) (stable : Nat) : s.Steady (s.refWindow n active ppb stable) :=
  (ite (fun _ => (setRef _ _ _).trans (predict _)) fun _ => setRef _ _ _ : s.Steady _).trans
      (ite (fun _ => refl _) fun _ => ite (fun _ => refBreak _ _ _) fun _ => ite (fun _ => refBreak _ _ _) fun _ =>
      ite (fun _ => disputeCheck _ _) fun _ => ite (fun _ => refl _) fun _ => setRef _ _ _)

theorem ref6 (s : State) : s.Steady s.ref6 :=
  ite (fun _ => refl _) fun _ => ite (fun _ => refBreak _ _ _) fun _ => (setRef _ _ _).trans (reselect _)

theorem timeLock (s : State) : s.Steady s.timeLock := by
  unfold State.timeLock
  exact setClkx _ _

theorem phaseUpdate (s : State) (n : Nat) (ps0 : Int) : s.Steady (s.phaseUpdate n ps0) :=
  ite (fun _ => setRef _ _ _) fun _ => (((setRef _ _ _).trans (put _ _ _)).trans (timeLock _)).trans
      (ite (fun _ => refl _) fun _ => (tick1 _).trans (setDco _ _))

theorem dpllLock (s : State) : s.Steady s.dpllLock :=
  ite (fun _ => refl _) fun _ => ((((setDpll _ _).trans (setFlag _ _ _)).trans (setClkx _ _)).trans
      (setTimeSrc _ _)).trans (reselect _)

theorem dpllUnlock (s : State) : s.Steady s.dpllUnlock := ite (fun _ => (setDpll _ _).trans (setClkx _ _)) fun _ => refl _

theorem holdoverUpdate (s : State) (theta : Nat) : s.Steady (s.holdoverUpdate theta) :=
  ((setFld _ _ _).trans (predict _)).trans (ite (fun _ => setDco _ _) fun _ => refl _)

theorem holdoverLoad (s : State) : s.Steady s.holdoverLoad := (foldl (fun _ _ => putApp _ _ _) _ _).trans (setFlag _ _ _)

theorem clockTick (s : State) : s.Steady s.clockTick := (((put _ _ _).trans (setClkx _ _)).trans (noteDco _)).trans (mclkCheck _)

theorem offsetTaken (s : State) : s.Steady s.offsetTaken := by
  unfold State.offsetTaken
  exact (ite (fun _ => setBuildout _ _) fun _ => refl _ : s.Steady _).trans (setClkx _ _)

theorem moveO (s : State) (ps : Int) : s.Steady (s.moveO ps) :=
  ite (fun _ => ((putApp _ _ _).trans (putApp _ _ _)).trans (putApp _ _ _)) fun _ => refl _

theorem tickSlew (s : State) (ps : Int) : s.Steady (s.tickSlew ps) :=
  ite (fun _ => refl _) fun _ => ((((offsetTaken _).trans (moveO _ _)).trans (setClk _ _)).trans (setFab _ _)).trans (count _ _)

theorem dropWindows (s : State) : s.Steady s.dropWindows := of_same rfl rfl rfl ⟨rfl, rfl, rfl, rfl⟩

theorem stepEvent (s : State) (o : Int) (a b : Nat) : s.Steady (s.stepEvent o a b) := postEvent _ _ _ _

theorem timeStep (s : State) (ps : Int) : s.Steady (s.timeStep ps) := by
  unfold State.timeStep
  extract_lets o n a b now m s1 s2 s3 s4 s5 str s6
  have h1 : s.Steady s1 := ((offsetTaken _).trans (moveO _ _)).trans (setClk _ _)
  have h2 : s.Steady s2 := ite (fun _ => h1.trans (countBy _ _ _)) fun _ => h1.trans (countBy _ _ _)
  have h4 : s.Steady s4 := (((h2.trans (setFlag _ _ _)).trans (count _ _)).trans (setFlag _ _ _)).trans (putPairI _ _ _ _)
  have h5 : s.Steady s5 := ((h4.trans (dropWindows _)).trans (renumber _ _)).trans (stepPeriods _ _)
  clear_value s5
  have h6 : s.Steady s6 := h5.trans (of_same rfl rfl rfl ⟨rfl, rfl, rfl, rfl⟩)
  exact ite (fun _ => refl _) fun _ => h6.trans (stepEvent _ _ _ _)

theorem realign (s : State) : s.Steady s.realign := (addOffset _ _ _ _).trans (setClkx _ _)

theorem clkCtrl (s : State) (was : Bool) (w : Word) : s.Steady (s.clkCtrl was w) :=
  ((noteDco _).trans (steer _)).trans (ite (fun _ => realign _) fun _ => refl _)

theorem timSet (s : State) : s.Steady s.timSet :=
  ite (fun _ => setFlag _ _ _) fun _ => ite (fun _ => addOffset _ _ _ _) fun _ => moveTime _ _

theorem adjCommit (s : State) : s.Steady s.adjCommit :=
  ite (fun _ => refl _) fun _ => ite (fun _ => (foldl (fun _ _ => putApp _ _ _) _ _).trans
      (setGridU _ _)) fun _ => foldl (fun _ _ => putApp _ _ _) _ _

theorem setTimer (s : State) (k : Nat) (x : Timer) : s.Steady (s.setTimer k x) := setClkx _ _

theorem fireTimer (s : State) (k : Nat) (late : Bool) : s.Steady (s.fireTimer k late) :=
  (ite (fun _ => (setFlag _ _ _).trans (setFlag _ _ _)) fun _ => setFlag _ _ _ : s.Steady _).trans
      ((ite (fun _ => (countBy _ _ _).trans (setTimer _ _ _)) fun _ => setTimer _ _ _ : State.Steady _ _).trans (postEvent _ _ _ _))

theorem armTimer (s : State) (k : Nat) (w : Word) : s.Steady (s.armTimer k w) :=
  ((setFld _ _ _).trans (setFld _ _ _)).trans ((ite (fun _ => clearFlag _ _) fun _ => refl _ : State.Steady _ _).trans
      ((ite (fun _ => clearFlag _ _) fun _ => refl _ : State.Steady _ _).trans
      (ite (fun _ => setTimer _ _ _) fun _ => ite (fun _ => setTimer _ _ _) fun _ => (setTimer _ _ _).trans (fireTimer _ _ _))))

theorem ppsOut (s : State) : s.Steady s.ppsOut := ite (fun _ => (emit _ _).trans (setClkx _ _)) fun _ => refl _

theorem ppsIn (s : State) : s.Steady s.ppsIn := (((put _ _ _).trans (put _ _ _)).trans (put _ _ _)).trans (postEvent _ _ _ _)

theorem rtcSet (s : State) : s.Steady s.rtcSet := setClk _ _

theorem rtcCtrl (s : State) (w : Word) : s.Steady (s.rtcCtrl w) :=
  (ite (fun _ => rtcSet _) fun _ => refl _ : s.Steady _).trans (ite (fun _ => setClk _ _) fun _ => refl _)

theorem svcHours (s : State) (w : Word) : s.Steady (s.svcHours w) :=
  ite (fun _ => (put _ _ _).trans (setClk _ _)) fun _ => refl _

/-! ### Operations of Pair -/

theorem setPaired (s : State) : s.Steady s.setPaired := (setFlag _ _ _).trans (setFlag _ _ _)

theorem setPair (s : State) (st : Nat) : s.Steady (s.setPair st) :=
  ((setFld _ _ _).trans (setPaired _)).trans (ite (fun _ => refl _) fun _ => setTwn _ _)

theorem rsStep (s : State) (n : Nat) : s.Steady (s.rsStep n) := setFld _ _ _

theorem rsAnnounce (s : State) (n : Nat) : s.Steady (s.rsAnnounce n) := ((tick1 _).trans (setTwn _ _)).trans (sendCmd _ _ _)

theorem rsDrop (s : State) : s.Steady s.rsDrop := (setTwn _ _).trans (put _ _ _)

theorem startResync (s : State) (src : Bool) : s.Steady (s.startResync src) :=
  ((rsDrop _).trans (setTwn _ _)).trans (ite (fun _ => (setPair _ _).trans (rsAnnounce _ _)) fun _ => setPair _ _)

theorem goSolo (s : State) : s.Steady s.goSolo := by
  unfold State.goSolo
  extract_lets shadow yields s1 s2 s3 s4 s5
  have h2 : s.Steady s2 := (rsDrop _).trans (setTwn _ _)
  have h3 : s.Steady s3 := by
    unfold s3
    split
    · exact ite (fun _ => h2.trans (cancelHandover _ _)) fun _ => h2
    · exact h2.trans (cancelHandover _ _)
  have h4 : s.Steady s4 := (h3.trans (setPair _ _)).trans (setFlag _ _ _)
  have h5 : s.Steady s5 := ite (fun _ => h4.trans (releaseOwn _)) fun _ => h4
  exact h5.trans (ref6 _)

theorem partnerAsserts (s : State) : s.Steady s.partnerAsserts :=
  ite (fun _ => (((setTwn _ _).trans (setPins _ _)).trans (setFlag _ _ _)).trans (raise _ _ _)) fun _ => setTwn _ _

theorem grantPins (s : State) : s.Steady s.grantPins :=
  ite (fun _ => releaseOwn _) fun _ => ((setPins _ _).trans (setTwn _ _)).trans ((ite (fun _ => (((setTwn _ _).trans
      (count _ _)).trans (setFlag _ _ _)).trans (postEvent _ _ _ _)) fun _ => refl _ : State.Steady _ _).trans (ref6 _))

theorem guardExpires (s : State) : s.Steady s.guardExpires :=
  ite (fun _ => refl _) fun _ => (ite (fun _ => cancelHandover _ _) fun _ => refl _ : s.Steady _).trans
      (ite (fun _ => (setTwn _ _).trans (grantPins _)) fun _ => setTwn _ _)

theorem assertOwn (s : State) : s.Steady s.assertOwn := ite (fun _ => (setOwnOut _ _).trans (setTwn _ _)) fun _ => refl _

theorem retryOwn (s : State) : s.Steady s.retryOwn := by
  unfold State.retryOwn
  exact ((setOwnOut _ _).trans (setTwn _ _)).trans (setTwn _ _)

theorem settleEnds (s : State) : s.Steady s.settleEnds :=
  ite (fun _ => refl _) fun _ => ite (fun _ => ite (fun _ => (setTwn _ _).trans (retryOwn _)) fun _ =>
      ite (fun _ => setTwn _ _) fun _ => (setTwn _ _).trans (setOwnOut _ _)) fun _ => ite (fun _ => (setTwn _ _).trans
      (grantPins _)) fun _ => setTwn _ _

theorem retryEnds (s : State) : s.Steady s.retryEnds := by
  unfold State.retryEnds
  split
  · exact ite (fun _ => setTwn _ _) fun _ => refl _
  · exact refl _

theorem clearOwnReq (s : State) : s.Steady s.clearOwnReq :=
  ite (fun _ => (setFlag _ _ _).trans (releaseOwn _)) fun _ => setFlag _ _ _

theorem pwmEnter (s : State) (c : Fin 32) : s.Steady (s.pwmEnter c) :=
  ite (fun _ => (setTwn _ _).trans (drive _ _ _)) fun _ => refl _

theorem helloSend (s : State) : s.Steady s.helloSend := (sendCmd _ _ _).trans (setPair _ _)

theorem pairAttempt (s : State) : s.Steady s.pairAttempt :=
  ite (fun _ => refl _) fun _ => ite (fun _ => count _ _) fun _ => (count _ _).trans (helloSend _)

theorem refusePair (s : State) (reason : Nat) : s.Steady (s.refusePair reason) :=
  ((postEvent _ _ _ _).trans (setFlag _ _ _)).trans (goSolo _)

theorem pairUp (s : State) (m : HelloMsg) : s.Steady (s.pairUp m) :=
  ((setTwn _ _).trans (putPair _ _ _ _)).trans (ite (fun _ => (putPair _ _ _ _).trans (setPair _ _)) fun _ => startResync _ _)

theorem takeHello (s : State) (m : HelloMsg) : s.Steady (s.takeHello m) := by
  unfold State.takeHello
  extract_lets s1 s2
  have h2 : s.Steady s2 := ite (fun _ => (setTwn _ _).trans (helloSend _)) fun _ => setTwn _ _
  split
  · exact h2
  · split
    · exact h2.trans (refusePair _ _)
    · exact h2.trans (pairUp _ _)

theorem sendMarker (s : State) : s.Steady s.sendMarker :=
  ite (fun _ => refl _) fun _ => ((tick1 _).trans (emit _ _)).trans (sendMsg _ _ _)

theorem takeHeartbeat (s : State) (m : HeartbeatMsg) : s.Steady (s.takeHeartbeat m) :=
  ((setTwn _ _).trans (setFlag _ _ _)).trans (ref6 _)

theorem heartbeatLost (s : State) : s.Steady s.heartbeatLost :=
  ite (fun _ => ((setTwn _ _).trans (setFlag _ _ _)).trans (ref6 _)) fun _ => (((setTwn _ _).trans
      (postEvent _ _ _ _)).trans (count _ _)).trans (goSolo _)

theorem takeMarker (s : State) (t : Int) : s.Steady (s.takeMarker t) := by
  unfold State.takeMarker
  extract_lets s1 s2
  have h2 : s.Steady s2 := by
    unfold s2
    split
    · exact ((setTwn _ _).trans (put _ _ _)).trans (put _ _ _)
    · exact setTwn _ _
  exact h2.trans (ref6 _)

theorem markTick (s : State) : s.Steady s.markTick :=
  ite (fun _ => ((setTwn _ _).trans (setTwn _ _)).trans (ref6 _)) fun _ => setTwn _ _

theorem sendLaneset (s : State) (m : Nat) : s.Steady (s.sendLaneset m) := sendCmd _ _ _

theorem lanesChanged (s : State) : s.Steady s.lanesChanged :=
  ite (fun _ => ((setFld _ _ _).trans (setTwn _ _)).trans (heartbeatLost _)) fun _ =>
      ite (fun _ => setFld _ _ _) fun _ => ite (fun _ => ite (fun _ => refl _) fun _ => (sendLaneset _ _).trans
      (setTwn _ _)) fun _ => sendLaneset _ _

theorem laneDown (s : State) (l : Nat) : s.Steady (s.laneDown l) :=
  ite (fun _ => ((count _ _).trans (setTwn _ _)).trans (lanesChanged _)) fun _ => refl _

theorem laneUp (s : State) (l : Nat) : s.Steady (s.laneUp l) :=
  ite (fun _ => refl _) fun _ => (ite (fun _ => (setTwn _ _).trans (setFld _ _ _)) fun _ =>
      ite (fun _ => (setTwn _ _).trans (lanesChanged _)) fun _ => setTwn _ _ : s.Steady _).trans
      (ite (fun _ => helloSend _) fun _ => refl _)

theorem takeLaneset (s : State) (m n : Nat) : s.Steady (s.takeLaneset m n) :=
  ite (fun _ => refl _) fun _ => ite (fun _ => ite (fun _ => setTwn _ _) fun _ => ((setTwn _ _).trans
      (sendLaneset _ _)).trans (setTwn _ _)) fun _ => setTwn _ _

theorem laneTick (s : State) : s.Steady s.laneTick := by
  unfold State.laneTick
  split
  · exact ite (fun _ => (setFld _ _ _).trans (setTwn _ _)) fun _ => refl _
  · exact refl _

theorem askHandover (s : State) (target : Nat) : s.Steady (s.askHandover target) :=
  ite (fun _ => setFld _ _ _) fun _ => ite (fun _ => setFld _ _ _) fun _ => proposeHandover _ _ _ _

theorem takeHoPropose (s : State) (h : Nat) : s.Steady (s.takeHoPropose h) := by
  unfold State.takeHoPropose
  extract_lets bad
  clear_value bad
  cases bad
  · exact (sendCmd _ _ _).trans (armHandover _ _ _)
  · exact sendCmd _ _ _

theorem takeHoAgree (s : State) (h : Nat) : s.Steady (s.takeHoAgree h) := by
  unfold State.takeHoAgree
  split
  · exact ite (fun _ => (armHandover _ _ _).trans (setTwn _ _)) fun _ => refl _
  · exact refl _

theorem failRequest (s : State) (result : Nat) : s.Steady (s.failRequest result) := by
  unfold State.failRequest
  split
  · exact refl _
  · extract_lets s1 s2
    have h2 : s.Steady s2 := (cancelHandover _ _).trans (setTwn _ _)
    exact ite (fun _ => h2.trans (releaseOwn _)) fun _ => h2

theorem takeHoRefuse (s : State) (h reason : Nat) : s.Steady (s.takeHoRefuse h reason) := by
  unfold State.takeHoRefuse
  split
  · exact ite (fun _ => failRequest _ _) fun _ => refl _
  · exact refl _

theorem switchPins (s : State) (g : PinGroup) : s.Steady (s.switchPins g) := by
  unfold State.switchPins
  split
  · exact refl _
  · exact ite (fun _ => refl _) fun _ => setTwn _ _

theorem changeOwn (s : State) : s.Steady s.changeOwn := by
  unfold State.changeOwn
  split
  · exact refl _
  · extract_lets s1
    exact ite (fun _ => refl _) fun _ => ite (fun _ => cancelHandover _ _) fun _ => ite (fun _ => ((setTwn _ _).trans
        (setPins _ _)).trans (setOwnOut _ _)) fun _ => ((setTwn _ _).trans (setOwnOut _ _)).trans (twiPins _ _)

theorem handoverDone (s : State) : s.Steady s.handoverDone := by
  unfold State.handoverDone
  split
  · exact refl _
  · extract_lets s1 s2 s3 s4
    have h2 : s.Steady s2 := ite (fun _ => setTwn _ _) fun _ => (setTwn _ _).trans (setPins _ _)
    have h3 : s.Steady s3 := (h2.trans (setFlag _ _ _)).trans (setFld _ _ _)
    have h4 : s.Steady s4 := (h3.trans (count _ _)).trans (setFlag _ _ _)
    exact ite (fun _ => refl _) fun _ => h4.trans (ref6 _)

theorem hoTick (s : State) : s.Steady s.hoTick := by
  unfold State.hoTick
  split
  · exact ite (fun _ => (setTwn _ _).trans (postEvent _ _ _ _)) fun _ => refl _
  · exact refl _

theorem handoverCancelled (s : State) : s.Steady s.handoverCancelled := by
  unfold State.handoverCancelled
  split
  · exact refl _
  · extract_lets s1
    exact ite (fun _ => refl _) fun _ => ite (fun _ => cancelHandover _ _) fun _ => (cancelHandover _ _).trans (setTwn _ _)

theorem revert (s : State) : s.Steady s.revert := by
  unfold State.revert
  extract_lets s1
  split
  · exact ite (fun _ => (setTwn _ _).trans (askHandover _ _)) fun _ => refl _
  · exact refl _

theorem revertTick (s : State) : s.Steady s.revertTick := by
  unfold State.revertTick
  exact setTwn _ _

/-! ### Operations of Lanes -/

theorem setLane (s : State) (l : Nat) (x : Lane) : s.Steady (s.setLane l x) := setEth _ _

theorem sendTraining (s : State) (l k : Nat) : s.Steady (s.sendTraining l k) := emit _ _

theorem leaveLane (s : State) (l : Nat) : s.Steady (s.leaveLane l) := by
  unfold State.leaveLane
  extract_lets n s1 s2
  have h1 : s.Steady s1 := ((setFlag _ _ _).trans (setFlag _ _ _)).trans (setFlag _ _ _)
  split
  · exact h1.trans (linkDown _ _)
  · split
    · split
      · exact (setFlag _ _ _).trans (laneDown _ _)
      · exact setFlag _ _ _
    · exact refl _

theorem setLst (s : State) (l st : Nat) : s.Steady (s.setLst l st) :=
  ((setFld _ _ _).trans (setFlag _ _ _)).trans (setFlag _ _ _)

theorem clearTraining (s : State) (l : Nat) : s.Steady (s.clearTraining l) :=
  (((setLane _ _ _).trans (setFld _ _ _)).trans (setFlag _ _ _)).trans (setFlag _ _ _)

theorem enterSignal (s : State) (l : Nat) : s.Steady (s.enterSignal l) :=
  ((leaveLane _ _).trans (clearTraining _ _)).trans (ite (fun _ => (setLst _ _ _).trans
      (sendTraining _ _ _)) fun _ => (setLst _ _ _).trans (emit _ _))

theorem restartLane (s : State) (l : Nat) : s.Steady (s.restartLane l) :=
  ite (fun _ => (count _ _).trans (enterSignal _ _)) fun _ => refl _

theorem disableLane (s : State) (l : Nat) : s.Steady (s.disableLane l) :=
  (((leaveLane _ _).trans (clearTraining _ _)).trans (setLst _ _ _)).trans (emit _ _)

theorem noteLane (s t : State) (l : Nat) (timeout : Bool) : t.Steady (s.noteLane t l timeout) := by
  unfold State.noteLane
  extract_lets x
  exact ite (fun _ => refl _) fun _ => of_same rfl rfl rfl ⟨rfl, rfl, rfl, rfl⟩

theorem laneBack (s : State) (x : LaneNow) : s.Steady (s.laneBack x) := by
  unfold State.laneBack
  extract_lets __src s1
  have h1 : s.Steady s1 := of_same rfl rfl rfl ⟨rfl, rfl, rfl, rfl⟩
  exact (((h1.trans (put _ _ _)).trans (put _ _ _)).trans (put _ _ _)).trans (setLane _ _ _)

theorem laneEvent (s : State) (l : Nat) (timeout : Bool) (f : State → State) (hf : ∀ s : State, s.Steady (f s)) :
    s.Steady (s.laneEvent l timeout f) := (hf s).trans (noteLane _ _ _ _)

theorem stepEvent1 (s : State) (l : Nat) (f : State → State) (hf : ∀ s : State, s.Steady (f s)) : s.Steady (s.stepEvent1 l f) := by
  unfold State.stepEvent1
  split
  · extract_lets s1 s2
    have h2 : s.Steady s2 := (laneBack _ _).trans (laneEvent _ _ _ _ hf)
    exact ite (fun _ => h2) fun _ => laneEvent _ _ _ _ hf
  · exact laneEvent _ _ _ _ hf

theorem laneFollow (s : State) (l : Nat) : s.Steady (s.laneFollow l) :=
  ite (fun _ => ite (fun _ => refl _) fun _ => disableLane _ _) fun _ =>
      (ite (fun _ => enterSignal _ _) fun _ => refl _ : s.Steady _).trans
      (ite (fun _ => ite (fun _ => refl _) fun _ => ((leaveLane _ _).trans (clearTraining _ _)).trans
      (setLst _ _ _)) fun _ => ite (fun _ => enterSignal _ _) fun _ => refl _)

theorem showLevels (s : State) : s.Steady s.showLevels := by
  unfold State.showLevels
  extract_lets new __src s1 s2 s3
  have h1 : s.Steady s1 := of_same rfl rfl rfl ⟨rfl, rfl, rfl, rfl⟩
  have h2 : s.Steady s2 := ite (fun _ => h1.trans (setFlag _ _ _)) fun _ => h1
  have h3 : s.Steady s3 := h2.trans (foldl (fun _ _ => setFlag _ _ _) _ _)
  exact ite (fun _ => h3.trans (foldl laneFollow _ _)) fun _ => h2

theorem testFollow (s : State) (l : Nat) (old : Option Nat) : s.Steady (s.testFollow l old) := by
  unfold State.testFollow
  split
  · exact ite (fun _ => refl _) fun _ => emit _ _
  · exact refl _

theorem farLoop (s : State) (l : Nat) (o : Out) : s.Steady (s.farLoop l o) := ite (fun _ => emit _ _) fun _ => refl _

theorem sdsCtrl (s : State) (l : Nat) (w : Word) : s.Steady (s.sdsCtrl l w) :=
  (((ite (fun _ => put _ _ _) fun _ => (put _ _ _).trans (setFlag _ _ _) : s.Steady _).trans (laneFollow _ _)).trans
      (testFollow _ _ _)).trans (ite (fun _ => laneEvent _ _ _ _ (fun _ => restartLane _ _)) fun _ => refl _)

theorem prbsClear (s : State) (l : Nat) : s.Steady (s.prbsClear l) := setLane _ _ _

theorem prbsInject (s : State) (l : Nat) : s.Steady (s.prbsInject l) :=
  ite (fun _ => (ite (fun _ => setLane _ _ _) fun _ => refl _ : s.Steady _).trans (emit _ _)) fun _ => refl _

theorem sdsPrbs (s : State) (l : Nat) (w : Word) : s.Steady (s.sdsPrbs l w) :=
  (((ite (fun _ => put _ _ _) fun _ => (put _ _ _).trans (setFlag _ _ _) : s.Steady _).trans (laneFollow _ _)).trans
      (testFollow _ _ _)).trans ((ite (fun _ => prbsClear _ _) fun _ => refl _ : State.Steady _ _).trans
      (ite (fun _ => prbsInject _ _) fun _ => refl _))

theorem ifNet (s : State) (f : State → State) (hf : ∀ s : State, s.Steady (f s)) : s.Steady (s.ifNet f) :=
  ite (fun _ => hf _) fun _ => refl _

theorem prbsCount (s : State) (l bits errs : Nat) : s.Steady (s.prbsCount l bits errs) :=
  ite (fun _ => setLane _ _ _) fun _ => refl _

theorem prbsCapture (s : State) (l : Nat) : s.Steady (s.prbsCapture l) := (putPair _ _ _ _).trans (put _ _ _)

theorem trainLost (s : State) (l : Nat) : s.Steady (s.trainLost l) := ite (fun _ => count _ _) fun _ => refl _

theorem signalLost (s : State) (l : Nat) : s.Steady (s.signalLost l) := by
  unfold State.signalLost
  extract_lets n s1 s2
  have h1 : s.Steady s1 := by
    clear_value n
    cases n
    · exact refl _
    · exact laneBack _ _
  have h2 : s.Steady s2 := h1.trans (setFlag _ _ _)
  exact (h2.trans (ite (fun _ => refl _) fun _ => trainLost _ _)).trans (restartLane _ _)

theorem cdrLocks (s : State) (l : Nat) : s.Steady (s.cdrLocks l) :=
  ite (fun _ => (ite (fun _ => refl _) fun _ => setFlag _ _ _ : s.Steady _).trans (setLst _ _ _)) fun _ => refl _

theorem stepTimeout (s : State) (l st : Nat) : s.Steady (s.stepTimeout l st) :=
  laneEvent _ _ _ _ (fun _ => ite (fun _ => restartLane _ _) fun _ => refl _)

theorem laneLocks (s : State) (l : Nat) : s.Steady (s.laneLocks l) :=
  ite (fun _ => ((setLst _ _ _).trans (setLane _ _ _)).trans (sendTraining _ _ _)) fun _ => setLst _ _ _

theorem hunt (s : State) (l : Nat) (headers : List (BitVec 2)) (sync : Bool) : s.Steady (s.hunt l headers sync) :=
  ite (fun _ => ite (fun _ => (setLane _ _ _).trans (laneLocks _ _)) fun _ => setLane _ _ _) fun _ => refl _

theorem lockWindow (s : State) (l invalid : Nat) (synced : Bool) : s.Steady (s.lockWindow l invalid synced) :=
  ite (fun _ => ite (fun _ => (((countBy _ _ _).trans (count _ _)).trans (trainLost _ _)).trans
      (restartLane _ _)) fun _ => countBy _ _ _) fun _ => refl _

theorem invertLane (s : State) (l : Nat) : s.Steady (s.invertLane l) :=
  (((leaveLane _ _).trans (setFlag _ _ _)).trans (setFlag _ _ _)).trans (ite (fun _ => (((trainLost _ _).trans
      (clearTraining _ _)).trans (setLst _ _ _)).trans (sendTraining _ _ _)) fun _ => setLst _ _ _)

theorem training (s : State) (l : Nat) (b : List Byte) : s.Steady (s.training l b) :=
  ((((ite (fun _ => setLane _ _ _) fun _ => (setLane _ _ _).trans (sendTraining _ _ _) : s.Steady _).trans
      (setFld _ _ _)).trans (setFlag _ _ _)).trans (setFlag _ _ _)).trans (ite (fun _ => ((setLst _ _ _).trans
      (emit _ _)).trans (laneUp _ _)) fun _ => refl _)

theorem takeTraining (s : State) (l : Nat) (inverted : Bool) (payload : List Byte) : s.Steady (s.takeTraining l inverted payload) :=
  ite (fun _ => ite (fun _ => ite (fun _ => invertLane _ _) fun _ => refl _) fun _ =>
      ite (fun _ => training _ _ _) fun _ => refl _) fun _ => refl _

theorem serialLost (s : State) : s.Steady s.serialLost := by
  unfold State.serialLost
  exact ((foldl (fun _ _ => setFlag _ _ _) _ _).trans (foldl (fun _ _ => restartLane _ _) _ _)).trans (condBegin _ _ _)

theorem serialBack (s : State) : s.Steady s.serialBack :=
  foldl (fun _ _ => ite (fun _ => (setFlag _ _ _).trans (setLst _ _ _)) fun _ => setFlag _ _ _) _ _

/-! ### Operations of Mac -/

theorem linkUpNow (s : State) (n sgmii : Nat) : s.Steady (s.linkUpNow n sgmii) :=
  ((((ite (fun _ => emit _ _) fun _ => refl _ : s.Steady _).trans (setFlag _ _ _)).trans (setFlag _ _ _)).trans
      (setFlag _ _ _)).trans ((ite (fun _ => setFlag _ _ _) fun _ => refl _ : State.Steady _ _).trans
      ((ite (fun _ => setFlag _ _ _) fun _ => refl _ : State.Steady _ _).trans
      (((ite (fun _ => setFld _ _ _) fun _ => refl _ : State.Steady _ _).trans (setFlag _ _ _)).trans (setFlag _ _ _))))

theorem faultSignal (s : State) (n : Nat) (localF remoteF : Bool) : s.Steady (s.faultSignal n localF remoteF) :=
  ite (fun _ => refl _) fun _ => ite (fun _ => emit _ _) fun _ => ite (fun _ => emit _ _) fun _ => refl _

theorem linkFails (s : State) (n : Nat) (faults : BitVec 5) : s.Steady (s.linkFails n faults) :=
  ((((faultSignal _ _ _ _).trans (setFlag _ _ _)).trans (setFlag _ _ _)).trans (setFlag _ _ _)).trans
      ((ite (fun _ => setFlag _ _ _) fun _ => refl _ : State.Steady _ _).trans
      ((ite (fun _ => setFlag _ _ _) fun _ => refl _ : State.Steady _ _).trans (linkDown _ _)))

theorem mrxWrite (s : State) (port stamp status total i : Nat) (first : Bool) (ps : List (Nat × Nat)) (f : List Byte) :
    s.Steady (s.mrxWrite port stamp status total i first ps f) := by
  induction ps generalizing s i first f with
  | nil => exact refl s
  | cons p ps ih => exact (((emit _ _).trans (writeHost _ _ _)).trans (emit _ _)).trans (ih _ _ _ _)

theorem toHost (s : State) (port : Nat) (f : List Byte) (stamp : Nat) (bufs : List (Nat × Nat)) :
    s.Steady (s.toHost port f stamp bufs) :=
  ite (fun _ => count _ _) fun _ => ((mrxWrite _ _ _ _ _ _ _ _ _).trans (setRing _ _ _)).trans
      (ite (fun _ => count _ _) fun _ => count _ _)

theorem igmpAnswer (s : State) (n : Nat) (f : List Byte) : s.Steady (s.igmpAnswer n f) := by
  unfold State.igmpAnswer
  split
  · exact ite (fun _ => igmpReport _ _ _) fun _ => refl _
  · exact refl _

theorem mgmtPath (s : State) (n : Nat) (f : List Byte) (stamp : Nat) (bufs : List (Nat × Nat)) :
    s.Steady (s.mgmtPath n f stamp bufs) :=
  ite (fun _ => count _ _) fun _ => ((emit _ _).trans (igmpAnswer _ _ _)).trans (ite (fun _ => toHost _ _ _ _ _) fun _ => refl _)

theorem macControl (s : State) (n o : Nat) (f : List Byte) : s.Steady (s.macControl n o f) :=
  ite (fun _ => takePause _ _ _) fun _ => count _ _

theorem mediaPath (s : State) (n : Nat) (f : List Byte) (stamp : Nat) (bufs : List (Nat × Nat)) :
    s.Steady (s.mediaPath n f stamp bufs) :=
  ite (fun _ => (classify _ _ _ _).trans (mgmtPath _ _ _ _ _)) fun _ => classify _ _ _ _

theorem rxGood (s : State) (n : Nat) (f : List Byte) (stamp : Nat) (bufs : List (Nat × Nat)) : s.Steady (s.rxGood n f stamp bufs) :=
  ((count _ _).trans (ptpStamp _ _ _ _ _)).trans (ite (fun _ => macControl _ _ _ _) fun _ =>
      ite (fun _ => mgmtPath _ _ _ _ _) fun _ => mediaPath _ _ _ _ _)

theorem rxFrame (s : State) (n : Nat) (f : List Byte) (fecBad : Bool) (fecCorr : Nat) (room : Bool) (raw : Nat) (bufs : List
    (Nat × Nat)) : s.Steady (s.rxFrame n f fecBad fecCorr room raw bufs) := by
  unfold State.rxFrame
  extract_lets s1 s2
  have h1 : s.Steady s1 := ite (fun _ => count _ _) fun _ => refl _
  split
  · exact (h1.trans (countBy _ _ _)).trans (count _ _)
  · exact (h1.trans (countBy _ _ _)).trans (rxGood _ _ _ _ _)

theorem laneRate (s : State) (n : Nat) : s.Steady (s.laneRate n) := ite (fun _ => setFld _ _ _) fun _ => refl _

theorem portRestart (s : State) (n : Nat) : s.Steady (s.portRestart n) := ite (fun _ => linkDown _ _) fun _ => restartLane _ _

theorem anRestart (s : State) : s.Steady s.anRestart :=
  ite (fun _ => ((setFlag _ _ _).trans (linkDown _ _)).trans (emit _ _)) fun _ => refl _

theorem macCtrl (s : State) (n : Nat) (w : Word) : s.Steady (s.macCtrl n w) :=
  ((put _ _ _).trans (laneRate _ _)).trans ((ite (fun _ => refl _) fun _ => portRestart _ _ : State.Steady _ _).trans
      ((ite (fun _ => drainPort _ _) fun _ => refl _ : State.Steady _ _).trans (ite (fun _ => anRestart _) fun _ => refl _)))

theorem macCfg (s : State) (n : Nat) (w : Word) : s.Steady (s.macCfg n w) := ite (fun _ => setFlag _ _ _) fun _ => put _ _ _

/-! ### Operations of Tdm -/

theorem setPort (s : State) (p : Nat) (x : TdmPort) : s.Steady (s.setPort p x) := setTdm _ _

theorem sendFrame (s : State) (p : Fin 16) (f : List Word) : s.Steady (s.sendFrame p f) :=
  ite (fun _ => drive _ _ _) fun _ => refl _

theorem sendPos (s : State) (k : Nat) : s.Steady (s.sendPos k) :=
  foldl (fun _ _ => ite (fun _ => sendFrame _ _ _) fun _ => refl _) _ _

theorem tdmDue (s : State) (n : Nat) : s.Steady (s.tdmDue n) := (foldl sendPos _ _).trans (setTdm _ _)

theorem tdmRun (s : State) : s.Steady s.tdmRun := tdmDue _ _

theorem tdmEarly (s : State) : s.Steady s.tdmEarly :=
  foldl (fun _ _ => (foldl (fun _ _ => ite (fun _ => sendFrame _ _ _) fun _ => refl _) _ _).trans
      (ite (fun _ => refl _) fun _ => setPort _ _ _)) _ _

theorem tdmTail (s : State) : s.Steady s.tdmTail := foldl (fun _ _ => ite (fun _ => refl _) fun _ => setPort _ _ _) _ _

theorem portSlots (s : State) (p : Nat) : s.Steady (s.portSlots p) := by
  refine foldl (fun s x => ?_) _ _
  extract_lets v
  exact ite (fun _ => refl _) fun _ => of_same rfl rfl rfl ⟨rfl, rfl, rfl, rfl⟩

theorem tdmFill (s : State) (m : Nat) : s.Steady (s.tdmFill m) :=
  foldl (fun _ _ => ite (fun _ => refl _) fun _ => ((setPort _ _ _).trans (portSlots _ _)).trans
      (ite (fun _ => ((count _ _).trans (count _ _)).trans (setFlag _ _ _)) fun _ => refl _)) _ _

theorem tdmCapture (s : State) (fs : List CapFrame) : s.Steady (s.tdmCapture fs) := by
  unfold State.tdmCapture
  exact (foldl (fun _ _ => ite (fun _ => setPort _ _ _) fun _ => refl _) _ _).trans (setTdm _ _)

theorem lbFrames (s : State) (fs : List LbFrame) : s.Steady (s.lbFrames fs) :=
  ite (fun _ => foldl (fun _ _ => lbTdmTake _ _ _) _ _) fun _ => refl _

theorem slipEvent (s : State) (p : Nat) (e : SlipEvent) (x : Nat) : s.Steady (s.slipEvent p e x) := setPort _ _ _

theorem putFrame (s : State) (p x : Nat) (w : List Word) : s.Steady (s.putFrame p x w) :=
  ite (fun _ => setPort _ _ _) fun _ => refl _

theorem followOut (s : State) (p : Fin 16) (x : Nat) : s.Steady (s.followOut p x) :=
  ite (fun _ => setPort _ _ _) fun _ => sendFrame _ _ _

theorem giveFrame (s : State) (p : Fin 16) (x : Nat) (w : List Word) : s.Steady (s.giveFrame p x w) :=
  ((putFrame _ _ _ _).trans (followOut _ _ _)).trans (setPort _ _ _)

theorem setPhase (s : State) (p edge x : Nat) : s.Steady (s.setPhase p edge x) := setFld _ _ _

theorem endPend (s : State) (p k : Nat) : s.Steady (s.endPend p k) := by
  unfold State.endPend
  extract_lets s1
  have h1 : s.Steady s1 := by
    generalize hs : s1 = t
    unfold s1 at hs
    subst hs
    split
    · exact slipEvent _ _ _ _
    · exact refl _
  exact h1.trans (setPort _ _ _)

theorem placeFrame (s : State) (p : Fin 16) (edge k : Nat) (w : List Word) : s.Steady (s.placeFrame p edge k w) :=
  ite (fun _ => ((((((count _ _).trans (setFlag _ _ _)).trans (slipEvent _ _ _ _)).trans (putFrame _ _ _ _)).trans
      (followOut _ _ _)).trans (setPhase _ _ _ _)).trans (giveFrame _ _ _ _)) fun _ =>
      ite (fun _ => (((count _ _).trans (setFlag _ _ _)).trans (slipEvent _ _ _ _)).trans (setPort _ _ _)) fun _ =>
      (setPhase _ _ _ _).trans (giveFrame _ _ _ _)

theorem assign (s : State) (p : Fin 16) (edge : Nat) (w : List Word) (lead : Option Nat) : s.Steady (s.assign p edge w lead) := by
  unfold State.assign
  extract_lets k
  split
  · exact placeFrame _ _ _ _ _
  · split
    · exact (endPend _ _ _).trans (placeFrame _ _ _ _ _)
    · exact ((endPend _ _ _).trans (setPhase _ _ _ _)).trans (giveFrame _ _ _ _)

theorem setPortSt (s : State) (p st : Nat) : s.Steady (s.setPortSt p st) := setFld _ _ _

theorem portLoss (s : State) (p : Fin 16) : s.Steady (s.portLoss p) :=
  (((count _ _).trans (setFlag _ _ _)).trans (slipEvent _ _ _ _)).trans (ite (fun _ => (((setPort _ _ _).trans
      (slipEvent _ _ _ _)).trans (setPortSt _ _ _)).trans (count _ _)) fun _ => ((setPort _ _ _).trans
      (setPortSt _ _ _)).trans (sendFrame _ _ _))

theorem misplaced (s : State) (p : Fin 16) : s.Steady (s.misplaced p) :=
  ((count _ _).trans (setFlag _ _ _)).trans (setPort _ _ _)

theorem followFrame (s : State) (p : Fin 16) (edge bclks : Nat) (w : List Word) (lead : Option Nat) :
    s.Steady (s.followFrame p edge bclks w lead) :=
  (ite (fun _ => (setPort _ _ _).trans (setFld _ _ _)) fun _ => setPort _ _ _ : s.Steady _).trans
      (ite (fun _ => (ite (fun _ => misplaced _ _) fun _ => ite (fun _ => (setFlag _ _ _).trans
      (portLoss _ _)) fun _ => assign _ _ _ _ _ : State.Steady _ _).trans (setPort _ _ _)) fun _ =>
      ite (fun _ => (ite (fun _ => refl _) fun _ => setPort _ _ _ : State.Steady _ _).trans
      (ite (fun _ => (ite (fun _ => setPort _ _ _) fun _ => (setPort _ _ _).trans (count _ _) : State.Steady _ _).trans
      (setPortSt _ _ _)) fun _ => setPort _ _ _)) fun _ => refl _)

theorem followEdge (s : State) (q : Fin 16) (edge bclks : Nat) (din : List Bool) (others : List
    (Fin 16 × List Bool)) : s.Steady (s.followEdge q edge bclks din others) :=
  foldl (fun _ _ => followFrame _ _ _ _ _ _) _ _

theorem clockFails (s : State) (p : Fin 16) : s.Steady (s.clockFails p) :=
  ite (fun _ => (portLoss _ _).trans (setPort _ _ _)) fun _ => refl _

theorem slipSend (s : State) (p : Nat) : s.Steady (s.slipSend p) := (setPort _ _ _).trans (foldl (fun _ _ => sendCmd _ _ _) _ _)

theorem followOwner (s : State) (n p : Nat) : s.Steady (s.followOwner n p) :=
  ite (fun _ => (setPort _ _ _).trans (setPortSt _ _ _)) fun _ => ite (fun _ => (setPort _ _ _).trans
      (setPortSt _ _ _)) fun _ => ite (fun _ => (setPort _ _ _).trans (setPortSt _ _ _)) fun _ => setPort _ _ _

theorem takeSlip (s : State) (n p : Nat) (e : SlipEvent) (pos : Nat) : s.Steady (s.takeSlip n p e pos) :=
  ite (fun _ => refl _) fun _ => (setPort _ _ _).trans (followOwner _ _ _)

theorem armTdm (s : State) (w : Word) : s.Steady (s.armTdm w) := ((putLo _ _ _ _).trans (setTdm _ _)).trans (setFlag _ _ _)

theorem portRestarts (s : State) (old : Word) (p : Nat) : s.Steady (s.portRestarts old p) :=
  ite (fun _ => refl _) fun _ => ((setPort _ _ _).trans (setPortSt _ _ _)).trans (setFld _ _ _)

theorem keepMap (s : State) (p : Nat) (old : Word) (m : List Nat) : s.Steady (s.keepMap p old m) :=
  ite (fun _ => setPort _ _ _) fun _ => refl _

theorem mclkPin (s : State) (m : Fin 4) (was : Bool) : s.Steady (s.mclkPin m was) := ite (fun _ => refl _) fun _ => drive _ _ _

theorem remap (s : State) (old : List Nat) : s.Steady (s.remap old) := by
  unfold State.remap
  extract_lets __src s1
  have h1 : s.Steady s1 := of_same rfl rfl rfl ⟨rfl, rfl, rfl, rfl⟩
  exact h1.trans (foldl (fun _ _ => ite (fun _ => portSlots _ _) fun _ => refl _) _ _)

theorem applyTdm (s : State) : s.Steady s.applyTdm := by
  unfold State.applyTdm
  extract_lets l cfgs slots clks maps s1 s2 s3
  have h2 : s.Steady s2 := (foldl (fun _ _ => putApp _ _ _) _ _).trans (foldl (fun _ _ => (portRestarts _ _ _).trans
      (keepMap _ _ _ _)) _ _)
  have h3 : s.Steady s3 := h2.trans (foldl (fun _ _ => mclkPin _ _ _) _ _)
  split
  · exact ((setFlag _ _ _).trans (setFld _ _ _)).trans (setFld _ _ _)
  · exact h3.trans (remap _ _)

theorem tdmStagedApply (s : State) : s.Steady s.tdmStagedApply := by
  unfold State.tdmStagedApply
  split
  · exact refl _
  · extract_lets s1
    have h1 : s.Steady s1 := (setTdm _ _).trans (setFlag _ _ _)
    exact ite (fun _ => refl _) fun _ => (ite (fun _ => h1.trans (setFlag _ _ _)) fun _ => h1 : s.Steady _).trans (applyTdm _)

/-! ### Operations of HostRegs -/

theorem ringCtrl (s : State) (r : Nat) (w : Word) : s.Steady (s.ringCtrl r w) :=
  ite (fun _ => ringErr _ _) fun _ => (put _ _ _).trans (setRing _ _ _)

theorem ifHost (s : State) (f : State → State) (hf : ∀ s : State, s.Steady (f s)) : s.Steady (s.ifHost f) :=
  ite (fun _ => hf _) fun _ => refl _

theorem cplRingOff (s : State) (k : Nat) : s.Steady (s.cplRingOff k) := by
  unfold State.cplRingOff
  extract_lets lost s1 s2 s3
  have h1 : s.Steady s1 := setHif _ _
  have h2 : s.Steady s2 := h1.trans (of_same rfl rfl rfl ⟨rfl, rfl, rfl, rfl⟩)
  exact ((h2.trans (setRing _ _ _)).trans (setFlag _ _ _)).trans (countBy _ _ _)

theorem ringEnable1 (s : State) (r : Nat) : s.Steady (s.ringEnable1 r) := by
  unfold State.ringEnable1
  extract_lets x s1 s2
  split
  · exact refl _
  · exact ite (fun _ => ((setRing _ _ _).trans (setFlag _ _ _)).trans (ringErr _ _)) fun _ =>
        ite (fun _ => (setRing _ _ _).trans (setEth _ _)) fun _ => setRing _ _ _
  · exact ite (fun _ => (setRing _ _ _).trans (cplRingOff _ _)) fun _ => setRing _ _ _

theorem ringsEnable (s : State) : s.Steady s.ringsEnable :=
  (((foldl ringEnable1 _ _).trans (setHif _ _)).trans (mtxFlush _)).trans (twiResume _)

theorem ringCfg (s : State) (r which : Nat) (w : Word) : s.Steady (s.ringCfg r which w) :=
  ite (fun _ => ringErr _ _) fun _ => ite (fun _ => putLo _ _ _ _) fun _ => ite (fun _ => holdHi _ _ _) fun _ =>
      ite (fun _ => ringErr _ _) fun _ => put _ _ _

theorem hifReset (s : State) : s.Steady s.hifReset := by
  unfold State.hifReset
  extract_lets limit status lost s1 s2 s3 s4 s5
  have h1 : s.Steady s1 := (resetRegs _ _).trans (put _ _ _)
  have h3 : s.Steady s3 := (h1.trans (put _ _ _)).trans (setHif _ _)
  have h4 : s.Steady s4 := h3.trans (of_same rfl rfl rfl ⟨rfl, rfl, rfl, rfl⟩)
  exact (h4.trans (setEth _ _)).trans (countBy _ _ _)

theorem busMaster (s : State) (on : Bool) : s.Steady (s.busMaster on) :=
  (ite (fun _ => ((((setFlag _ _ _).trans (setFld _ _ _)).trans (tick1 _)).trans (setFld _ _ _)).trans
      (tick1 _)) fun _ => refl _ : s.Steady _).trans (ite (fun _ => ((((setFlag _ _ _).trans (writeCpls _)).trans
      (mtxFlush _)).trans (twiResume _)).trans (msixGo _)) fun _ => setFlag _ _ _)

theorem dmaFail (s : State) (a : Nat) : s.Steady (s.dmaFail a) :=
  (((putPair _ _ _ _).trans (setFlag _ _ _)).trans (count _ _)).trans (raise _ _ _)

theorem twiFail (s : State) (t : TwiCmd) (a : Nat) : s.Steady (s.twiFail t a) :=
  ite (fun _ => twiFinish _ _ _ _) fun _ => (twiFinish _ _ _ _).trans (setHif _ _)

theorem payloadFail (s : State) (c : HostCmd) (a : Nat) : s.Steady (s.payloadFail c a) := by
  unfold State.payloadFail
  extract_lets s1
  have h1 : s.Steady s1 := (takeCmd _ _).trans (endCmd _ _ _ _)
  split
  · exact twiFail _ _ _
  · exact ite (fun _ => refl _) fun _ => ite (fun _ => h1.trans (psetRefused _)) fun _ =>
        ite (fun _ => h1.trans (streamRefused _)) fun _ => h1

theorem dmaFailKind (s : State) (k : DmaKind) (a : Nat) : s.Steady (s.dmaFailKind k a) := by
  cases k with
  | descriptor r =>
    exact (dmaFail _ _).trans (ite (fun _ => ((setRing _ _ _).trans (setFlag _ _ _)).trans (ringErr _ _)) fun _ => refl _)
  | payload c => exact (dmaFail _ _).trans (payloadFail _ _ _)
  | frame k =>
    simp only [State.dmaFailKind]
    refine ite (fun _ => ?_) fun _ => dmaFail _ _
    generalize (((s.dmaFail a).ring 10).cons + k) % 2 ^ 32 = i
    cases (s.dmaFail a).mtx i with
    | some _ => exact (dmaFail _ _).trans (ite (fun _ => mtxDone _ _ _ _) fun _ => refl _)
    | none => exact ((dmaFail _ _).trans (setMtx _ _ _)).trans (ite (fun _ => mtxDone _ _ _ _) fun _ => refl _)
  | completion _ => exact dmaFail _ _
  | writeBack => exact dmaFail _ _
  | event => exact dmaFail _ _
  | meter => exact dmaFail _ _
  | shadow => exact dmaFail _ _
  | doorbell => exact ite (fun _ => fetchLate _) fun _ => refl _

/-! ### Operations of TwiCtl -/

theorem setTwiSt (s : State) (n st : Nat) : s.Steady (s.setTwiSt n st) := setFld _ _ _

theorem twiEndAll (s : State) (n status : Nat) : s.Steady (s.twiEndAll n status) := foldl (fun _ _ => twiFinish _ _ _ _) _ _

theorem setTwiUnread (s : State) (n : Nat) (on : Bool) : s.Steady (s.setTwiUnread n on) := setHif _ _

theorem twiServe (s : State) (n : Nat) : s.Steady (s.twiServe n) :=
  ite (fun _ => (relayTwi _ _).trans (twiEndAll _ _ _)) fun _ => ite (fun _ => twiEndAll _ _ _) fun _ =>
      ite (fun _ => setTwiSt _ _ _) fun _ => refl _

theorem twiXfer (s : State) (c : HostCmd) : s.Steady (s.twiXfer c) := by
  unfold State.twiXfer
  extract_lets s1 t __src s2 s3
  have h2 : s.Steady s2 := (takeCmd _ _).trans (setRing _ _ _)
  have h3 : s.Steady s3 := ite (fun _ => h2) fun _ => h2.trans (emit _ _)
  split
  · exact refl _
  · split
    · exact (takeCmd _ _).trans (endCmd _ _ _ _)
    · split
      · exact (takeCmd _ _).trans (endCmd _ _ _ _)
      · split
        · exact (takeCmd _ _).trans (endCmd _ _ _ _)
        · exact (h3.trans (setHif _ _)).trans (twiServe _ _)

theorem twiFirm (s : State) (c : HostCmd) : s.Steady (s.twiFirm c) :=
  ite (fun _ => (setHif _ _).trans (twiServe _ _)) fun _ => refl _

theorem twiGood (s : State) (t : TwiCmd) (rd : List Byte) : s.Steady (s.twiGood t rd) :=
  ite (fun _ => twiFinish _ _ _ _) fun _ => (setHif _ _).trans (twiResume _)

theorem twiDone (s : State) (n : Nat) (nackAt : Option Nat) (rd : List Byte) (data : Bool) :
    s.Steady (s.twiDone n nackAt rd data) := by
  unfold State.twiDone
  split
  · exact refl _
  · refine ite (fun _ => refl _) fun _ => ?_
    extract_lets s1 s2 s3
    have h1 : s.Steady s1 := (emit _ _).trans (setTwiSt _ _ _)
    have h3 : s1.Steady s3 := by
      cases nackAt with
      | some k => exact ((count _ _).trans (setFlag _ _ _)).trans (twiFinish _ _ _ _)
      | none => exact (count _ _).trans (twiGood _ _ _)
    exact (h1.trans h3).trans (twiServe _ _)

theorem twiAbort (s : State) (n status st : Nat) : s.Steady (s.twiAbort n status st) := by
  unfold State.twiAbort
  split
  · exact setTwiSt _ _ _
  · exact ((setTwiSt _ _ _).trans (twiFinish _ _ _ _)).trans (twiServe _ _)

theorem twiClear (s : State) (n : Nat) (pulses : Option (Fin 9)) : s.Steady (s.twiClear n pulses) := by
  unfold State.twiClear
  extract_lets s1 s2
  have h1 : s.Steady s1 := (count _ _).trans (emit _ _)
  have h2 : s.Steady s2 := (h1.trans (setTwiUnread _ _ _)).trans (setHif _ _)
  split
  · exact ((h2.trans (emit _ _)).trans (setTwiSt _ _ _)).trans (twiServe _ _)
  · exact ((h2.trans (setFlag _ _ _)).trans (setTwiSt _ _ _)).trans (twiServe _ _)

theorem twiCfg (s : State) (n : Nat) (w : Word) : s.Steady (s.twiCfg n w) :=
  (ite (fun _ => put _ _ _) fun _ => (((put _ _ _).trans (put _ _ _)).trans (put _ _ _)).trans (put _ _ _) :
      s.Steady _).trans (ite (fun _ => ((setTwiUnread _ _ _).trans (setTwiSt _ _ _)).trans (twiServe _ _)) fun _ =>
      ite (fun _ => (setTwiUnread _ _ _).trans (setTwiSt _ _ _)) fun _ => refl _)

/-! ### Operations of Twin -/

theorem fixDigest (s : State) : s.Steady s.fixDigest := by
  unfold State.fixDigest
  split
  · exact ite (fun _ => setTwn _ _) fun _ => refl _
  · exact refl _

theorem sendDigest (s : State) : s.Steady s.sendDigest := by
  unfold State.sendDigest
  split
  · exact sendMsg _ _ _
  · exact refl _

theorem resyncWrong (s : State) (n : Nat) (wrong : Bool) : s.Steady (s.resyncWrong n wrong) :=
  ite (fun _ => (startResync _ _).trans (armHandover _ _ _)) fun _ => startResync _ _

theorem diverge (s : State) (n mine theirs : Nat) : s.Steady (s.diverge n mine theirs) :=
  ite (fun _ => (count _ _).trans (resyncWrong _ _ _)) fun _ => ite (fun _ => refl _) fun _ => ((((raise _ _ _).trans
      (count _ _)).trans (setFlag _ _ _)).trans (postEvent _ _ _ _)).trans (resyncWrong _ _ _)

theorem agreeDigest (s : State) : s.Steady s.agreeDigest :=
  ite (fun _ => (((setTwn _ _).trans (setPair _ _)).trans (setTwn _ _)).trans (postEvent _ _ _ _)) fun _ => setTwn _ _

theorem compareOne (s : State) (d : Dig) : s.Steady (s.compareOne d) := by
  unfold State.compareOne
  split
  · exact refl _
  · split
    · exact (count _ _).trans (setTwn _ _)
    · extract_lets s1 s2 s3 s4
      have h2 : s.Steady s2 := (putPair _ _ _ _).trans (putPair _ _ _ _)
      have h4 : s.Steady s4 := ((h2.trans (putPair _ _ _ _)).trans (count _ _)).trans (setTwn _ _)
      exact ite (fun _ => (h2.trans (putPair _ _ _ _)).trans (agreeDigest _)) fun _ => h4.trans (diverge _ _ _ _)

theorem compareDigests (s : State) : s.Steady s.compareDigests := by
  unfold State.compareDigests
  exact (foldl compareOne _ _).trans (setTwn _ _)

theorem installSet (s : State) (m : SetMove) : s.Steady (s.installSet m) := (setPset _ _ _).trans (putBytes _ _ _)

theorem installRx (s : State) (i : Nat) (c : List Byte) : s.Steady (s.installRx i c) :=
  ite (fun _ => refl _) fun _ => (setRx _ _ _).trans (setFld _ _ _)

theorem installTx (s : State) (i : Nat) (c : List Byte) : s.Steady (s.installTx i c) :=
  ((setStr _ _).trans (setFlag _ _ _)).trans (setFld _ _ _)

theorem installAmp (s : State) (m : AmpMove) : s.Steady (s.installAmp m) :=
  (((putAmp1 _ _ _).trans (setFld _ _ _)).trans (setFld _ _ _)).trans (setFlag _ _ _)

theorem installTables (s : State) (looks : List LookMove) : s.Steady (s.installTables looks) :=
  (foldl (fun _ _ => setMix _ _) _ _).trans (foldl (fun _ _ => setDyn _ _ _) _ _)

theorem install (s : State) (c : ResyncCfg) : s.Steady (s.install c) := by
  unfold State.install
  extract_lets ids s1 s2 s3 gone s4 s5 s6 s7 s8
  have h3 : s.Steady s3 := ((setMix _ _).trans (foldl installSet _ _)).trans (installTables _ _)
  have h4 : s.Steady s4 := h3.trans (foldl (fun _ _ => installRx _ _ _) _ _)
  have h5 : s.Steady s5 := h4.trans (foldl (fun _ _ => installTx _ _ _) _ _)
  clear_value s5
  have h6 : s.Steady s6 := h5.trans (of_same rfl rfl rfl ⟨rfl, rfl, rfl, rfl⟩)
  have h8 : s.Steady s8 := (h6.trans (setMix _ _)).trans (foldl installAmp _ _)
  exact ((h8.trans (mixCounts _)).trans (strCounts _)).trans (pendCounts _)

theorem mirrorMsg (s : State) (n slot : Nat) (b : List Word) : s.Steady (s.mirrorMsg n slot b) := sendMsg _ _ _

theorem sendMirror (s : State) : s.Steady s.sendMirror := by
  unfold State.sendMirror
  split
  · exact refl _
  · exact foldl (fun _ _ => ite (fun _ => mirrorMsg _ _ _ _) fun _ => ite (fun _ => mirrorMsg _ _ _ _) fun _ => refl _) _ _

theorem sendUnit (s : State) (u off n : Nat) (bs : List Byte) : s.Steady (s.sendUnit u off n bs) := by
  induction n generalizing s off bs with
  | zero => exact refl s
  | succ n ih => exact (sendMsg _ _ _).trans (ite (fun _ => refl _) fun _ => ih _ _ _)

theorem nextPhaseOut (s : State) : s.Steady s.nextPhaseOut :=
  ite (fun _ => (((setTwn _ _).trans (sendCmd _ _ _)).trans (setFld _ _ _)).trans (rsStep _ _)) fun _ =>
      (setTwn _ _).trans (rsAnnounce _ _)

theorem sendBatch (s : State) (us : List Nat) : s.Steady (s.sendBatch us) := by
  unfold State.sendBatch
  exact (foldl (fun _ _ => sendUnit _ _ _ _ _) _ _).trans (setTwn _ _)

theorem sendUnits (s : State) : s.Steady s.sendUnits := by
  unfold State.sendUnits
  extract_lets n us us' s1 s2 s3
  have h2 : s.Steady s2 := (sendBatch _ _).trans (setTwn _ _)
  split
  · exact (sendBatch _ _).trans (setTwn _ _)
  · split
    · exact ite (fun _ => nextPhaseOut _) fun _ => refl _
    · exact ite (fun _ => ((h2.trans (setTwn _ _)).trans (sendCmd _ _ _)).trans (rsStep _ _)) fun _ => h2

theorem installPart (s : State) (r : RsUnit) : s.Steady (s.installPart r) := by
  unfold State.installPart
  extract_lets i m __src
  split
  · split
    · exact putBytes _ _ _
    · exact refl _
  · exact setDyn _ _ _

theorem installUnits (s : State) : s.Steady s.installUnits := ((foldl installPart _ _).trans (setTwn _ _)).trans (setFld _ _ _)

theorem askAgain (s : State) : s.Steady s.askAgain :=
  ite (fun _ => refl _) fun _ => ite (fun _ => setTwn _ _) fun _ => ((setTwn _ _).trans (setFld _ _ _)).trans (sendCmd _ _ _)

theorem resyncTick (s : State) : s.Steady s.resyncTick := by
  unfold State.resyncTick
  extract_lets n s1 s2 s3
  have h2 : s.Steady s2 := ite (fun _ => (setTwn _ _).trans (installUnits _)) fun _ => setTwn _ _
  split
  · exact ite (fun _ => (h2.trans (setTwn _ _)).trans (put _ _ _)) fun _ => ite (fun _ => h2.trans (sendMirror _)) fun _ => h2
  · exact ite (fun _ => ite (fun _ => (h2.trans (sendMirror _)).trans (sendUnits _)) fun _ => h2.trans (sendMirror _)) fun _ => h2

theorem takeRsStep (s : State) (n tick : Nat) : s.Steady (s.takeRsStep n tick) :=
  ite (fun _ => setTwn _ _) fun _ => ite (fun _ => setTwn _ _) fun _ => refl _

theorem stepStart (s : State) (c : ResyncCfg) : s.Steady (s.stepStart c) := by
  unfold State.stepStart
  extract_lets s1 s2 s3 s4 s5 p s6
  have h1 : s.Steady s1 := (setTwn _ _).trans (rsStep _ _)
  have h2 : s.Steady s2 := ite (fun _ => h1.trans (emit _ _)) fun _ => h1.trans (install _ _)
  have h4 : s.Steady s4 := (setTwn _ _).trans (rsStep _ _)
  have h6 : s.Steady s6 := ite (fun _ => refl _) fun _ => setFld _ _ _
  split
  · exact refl _
  · split
    · exact ite (fun _ => (h2.trans (setPaired _)).trans (rsAnnounce _ _)) fun _ => h2.trans (setPaired _)
    · exact ite (fun _ => ((h4.trans (setFlag _ _ _)).trans (sendMirror _)).trans
          (rsAnnounce _ _)) fun _ => h4.trans (setFlag _ _ _)
    · exact (h6.trans (setTwn _ _)).trans (rsStep _ _)
    · exact (setTwn _ _).trans (rsStep _ _)
    · exact refl _

theorem resyncFinal (s : State) : s.Steady s.resyncFinal :=
  ite (fun _ => ((setTwn _ _).trans (rsStep _ _)).trans (setPair _ _)) fun _ => refl _

/-! ### Operations of Xbar -/

theorem decodeErr (s : State) (a m : Nat) (write : Bool) : s.Steady (s.decodeErr a m write) := by
  unfold State.decodeErr
  extract_lets s1 s2
  have h1 : s.Steady s1 := ite (fun _ => refl _) fun _ => ((putPair _ _ _ _).trans (setFld _ _ _)).trans (setFlag _ _ _)
  have h2 : s.Steady s2 := ((h1.trans (setFlag _ _ _)).trans (count _ _)).trans (emit _ _)
  refine (h2.trans ?_).trans (raise _ _ _)
  exact ite (fun _ => refl _) fun _ => of_same rfl rfl rfl ⟨rfl, rfl, rfl, rfl⟩

theorem windowWrite (s : State) (a m : Nat) (w : Word) : s.Steady (s.windowWrite a m w) :=
  ite (fun _ => emit _ _) fun _ => putMemWord _ _ _

theorem request (s : State) (a m : Nat) (x : Option Word) : s.Steady (s.request a m x) := by
  unfold State.request
  split
  · exact ite (fun _ => refl _) fun _ => of_same rfl rfl rfl ⟨rfl, rfl, rfl, rfl⟩
  · exact ite (fun _ => refl _) fun _ => ite (fun _ => windowWrite _ _ _ _) fun _ => store _ _ _ _

theorem landWrites (s : State) (m : Nat) (landed : List (Eng × Nat)) : s.Steady (s.landWrites m landed) := by
  unfold State.landWrites
  exact (foldl (fun _ _ => storeWords _ _ _ _) _ _).trans (setSram _ _)

theorem drainEnds (s : State) (m cycles : Nat) (landed : List (Eng × Nat)) : s.Steady (s.drainEnds m cycles landed) :=
  ite (fun _ => ((landWrites _ _ _).trans (setSram _ _)).trans (setFld _ _ _)) fun _ => refl _

theorem scrubSram (s : State) : s.Steady s.scrubSram := ite (fun _ => setSram _ _) fun _ => refl _

theorem memSeen (s : State) (x : TickSeen) : s.Steady (s.memSeen x) :=
  ((foldl (fun _ _ => countBy _ _ _) _ _).trans (countBy _ _ _)).trans (ite (fun _ => (countBy _ _ _).trans
      (dramFix _ _)) fun _ => refl _)

theorem setSpares (s : State) (sub : Nat) (x : Spares) : s.Steady (s.setSpares sub x) := (setSram _ _).trans (setFld _ _ _)

theorem marchRow (s : State) (u row : Nat) : s.Steady (s.marchRow u row) := by
  unfold State.marchRow
  extract_lets b s1 s2
  have h2 : s.Steady s2 := ((setFld _ _ _).trans (setFlag _ _ _)).trans (setFld _ _ _)
  split
  · extract_lets s3
    have h3 : s.Steady s3 := ((setFld _ _ _).trans (setSpares _ _ _)).trans (setFlag _ _ _)
    exact h3.trans (setFld _ _ _)
  · exact h2.trans (raiseAs _ _ _ _)

theorem marchRequest (s : State) (u : Nat) : s.Steady (s.marchRequest u) :=
  ite (fun _ => refl _) fun _ => ite (fun _ => setFld _ _ _) fun _ => (((setSram _ _).trans (setFlag _ _ _)).trans
      (setFld _ _ _)).trans (setFld _ _ _)

theorem marchCtrl (s : State) (w : Word) : s.Steady (s.marchCtrl w) :=
  ite (fun _ => (put _ _ _).trans (marchRequest _ _)) fun _ => put _ _ _

theorem marchDone (s : State) (failing : List Nat) : s.Steady (s.marchDone failing) := by
  unfold State.marchDone
  split
  · extract_lets s1
    exact ((foldl (fun _ _ => marchRow _ _ _) _ _).trans (setSram _ _)).trans (setFlag _ _ _)
  · exact refl _

theorem powerUpRow (s : State) (sub row : Nat) : s.Steady (s.powerUpRow sub row).1 := by
  unfold State.powerUpRow
  extract_lets x
  split_ifs
  · exact setSpares _ _ _
  · exact setSpares _ _ _
  · generalize x.replace row = y
    cases y
    · exact setFlag _ _ _
    · exact setSpares _ _ _

/-! ### Operations of Dram -/

theorem ifDdr (s : State) (f : State → State) (hf : ∀ s : State, s.Steady (f s)) : s.Steady (s.ifDdr f) :=
  ite (fun _ => hf _) fun _ => refl _

theorem scrubDram (s : State) : s.Steady s.scrubDram := ite (fun _ => (emit _ _).trans (setDdr _ _)) fun _ => refl _

theorem seePanic (s : State) (told : Bool) (x : Option RtBuf) : s.Steady (s.seePanic told x) := by
  unfold State.seePanic
  split
  · exact setFlag _ _ _
  · exact (setDdr _ _).trans (setFlag _ _ _)

theorem setBatchEnd (s : State) (r u : Nat) : s.Steady (s.setBatchEnd r u) := setDdr _ _

theorem forceRefs (s : State) (r : Nat) : s.Steady (s.forceRefs r) :=
  ((((setBatchEnd _ _ _).trans (emit _ _)).trans (refs _ _ _)).trans (setFld _ _ _)).trans (count _ _)

theorem refExpire (s : State) (r : Nat) : s.Steady (s.refExpire r) :=
  ite (fun _ => ((setRefT _ _ _).trans (refs _ _ _)).trans (setBatchEnd _ _ _)) fun _ =>
      (ite (fun _ => (setRefT _ _ _).trans (forceRefs _ _)) fun _ => setRefT _ _ _ : s.Steady _).trans
      (ite (fun _ => (setFld _ _ _).trans (count _ _)) fun _ => setFld _ _ _)

theorem refIssue (s : State) (r : Nat) : s.Steady (s.refIssue r) :=
  ite (fun _ => refl _) fun _ => (setFld _ _ _).trans (emit _ _)

theorem convertRank (s : State) (r : Nat) (hot : Bool) : s.Steady (s.convertRank r hot) :=
  ite (fun _ => refl _) fun _ => (ite (fun _ => ite (fun _ => (setFld _ _ _).trans
      (setRefT _ _ _)) fun _ => setFld _ _ _) fun _ => setFld _ _ _ : s.Steady _).trans
      (ite (fun _ => (forceRefs _ _).trans (count _ _)) fun _ => refl _)

theorem setHot (s : State) (hot : Bool) : s.Steady (s.setHot hot) :=
  ite (fun _ => refl _) fun _ => ((setFlag _ _ _).trans (foldl (fun _ _ => convertRank _ _ _) _ _)).trans
      (of_same rfl rfl rfl ⟨rfl, rfl, rfl, rfl⟩)

theorem undoHot (s : State) (h : HotNow) : s.Steady (s.undoHot h) := by
  unfold State.undoHot
  extract_lets s1 s2 s3 s4
  have h3 : s.Steady s3 := ((((setFlag _ _ _).trans (put _ _ _)).trans (put _ _ _)).trans (put _ _ _)).trans (setDdr _ _)
  exact h3.trans (of_same rfl rfl rfl ⟨rfl, rfl, rfl, rfl⟩)

theorem beforeHot (s : State) (f : State → State) (hf : ∀ s : State, s.Steady (f s)) : s.Steady (s.beforeHot f) := by
  unfold State.beforeHot
  split
  · exact hf _
  · exact ((undoHot _ _).trans (hf _)).trans (setHot _ _)

theorem ddrTemp (s : State) (w : Word) : s.Steady (s.ddrTemp w) :=
  ((((put _ _ _).trans (setDdr _ _)).trans (setFlag _ _ _)).trans (condEnd _ _)).trans
      (ite (fun _ => setHot _ _) fun _ => ite (fun _ => setHot _ _) fun _ => refl _)

theorem ddrCfg (s : State) (w : Word) : s.Steady (s.ddrCfg w) := ite (fun _ => setFlag _ _ _) fun _ => put _ _ _

theorem trnCtrl (s : State) (w : Word) : s.Steady (s.trnCtrl w) :=
  ite (fun _ => ((put _ _ _).trans (setFlag _ _ _)).trans (emit _ _)) fun _ => put _ _ _

theorem trained (s : State) : s.Steady s.trained :=
  (((setFld _ _ _).trans (put _ _ _)).trans (setDdr _ _)).trans (startRefresh _)

theorem trnEnds (s : State) (x : TrainEnd) : s.Steady (s.trnEnds x) := by
  unfold State.trnEnds
  split
  · exact refl _
  · exact ite (fun _ => trained _) fun _ => refl _
  · extract_lets s1 s2
    have h2 : s.Steady s2 := ((setDdr _ _).trans (setFld _ _ _)).trans (setFld _ _ _)
    exact ite (fun _ => ((h2.trans (setSram _ _)).trans (setFlag _ _ _)).trans (raise _ _ _)) fun _ => setDdr _ _

theorem startClear (s : State) : s.Steady s.startClear := ite (fun _ => setDdr _ _) fun _ => refl _

theorem zeroDram (s : State) : s.Steady s.zeroDram :=
  ⟨fun c => ⟨memWf_filter _ c.mem, c.regs⟩, rfl, rfl, rfl, rfl, rfl⟩

theorem selfRefresh (s : State) : s.Steady s.selfRefresh :=
  ite (fun _ => setFlag _ _ _) fun _ => ite (fun _ => refl _) fun _ => ((((foldl (fun _ _ => (refs _ _ _).trans
      (setFld _ _ _)) _ _).trans (setDdr _ _)).trans (setFlag _ _ _)).trans (count _ _)).trans (emit _ _)

/-! ### Operations of Uncorr -/

theorem undoWrite (s : State) (a m : Nat) (old : List Byte) : s.Steady (s.undoWrite a m old) := (putBytes _ _ _).trans (emit _ _)

theorem copyFails (s : State) (c : HostCmd) : s.Steady (s.copyFails c) :=
  ite (fun _ => (takeCmd _ _).trans (endCmd _ _ _ _)) fun _ => refl _

theorem sramHit (s : State) (a m : Nat) (x : SramHit) : s.Steady (s.sramHit a m x) := by
  unfold State.sramHit
  split
  · exact refl _
  · exact undoWrite _ _ _ _
  · split
    · exact taskFault _ _ _
    · exact refl _
  · exact setFab _ _
  · exact setFab _ _
  · exact setFab _ _
  · extract_lets __src
    exact setRx _ _ _
  · extract_lets __src
    exact setPort _ _ _
  · extract_lets d __src
    exact setDyn _ _ _
  · exact copyFails _ _

theorem sramBad (s : State) (a u m : Nat) (hit : SramHit) : s.Steady (s.sramBad a u m hit) :=
  ((sramSeen _ _ _ _).trans (sramHit _ _ _ _)).trans (raise _ _ _)

theorem dramBad (s : State) (a m : Nat) (hit : DramHit) : s.Steady (s.dramBad a m hit) := by
  unfold State.dramBad
  extract_lets s1 s2
  have h2 : s.Steady s2 := (dramSeen _ _ _).trans (ite (fun _ => (putBytes _ _ _).trans (countBy _ _ _)) fun _ => refl _)
  cases hit with
  | copyOut c => exact h2.trans (copyFails _ _)
  | partWrite old => exact h2.trans (undoWrite _ _ _ _)
  | other => exact h2

/-! ### Operations of Power -/

theorem domStart (s : State) (d : Nat) : s.Steady (s.domStart d) := setFlag _ _ _

theorem seqHead (s : State) : s.Steady s.seqHead := by
  unfold State.seqHead
  split
  · exact refl _
  · refine ite (fun _ => ?_) fun _ => domStart _ _
    exact (setPwr s fun p => { p with seqU := s.clk.freeU }).trans (clusterStart _)

theorem seqStart (s : State) : s.Steady s.seqStart :=
  ((put _ _ _).trans (put _ _ _)).trans (ite (fun _ => (put _ _ _).trans (setPwr _ _)) fun _ => ((put _ _ _).trans
      (setPwr _ _)).trans (seqHead _))

theorem unhold (s : State) : s.Steady s.unhold := ite (fun _ => seqStart _) fun _ => refl _

theorem resetTo (s : State) (keep : Nat → Bool) : s.Steady (s.resetTo keep) := by
  unfold State.resetTo
  extract_lets s1 s2
  have h1 : s.Steady s1 :=
    ⟨fun c => ⟨Tbl.wf_nil _, List.Pairwise.filter _ c.regs.1, fun e he => c.regs.2 e (List.mem_filter.mp he).1⟩,
      rfl, rfl, rfl, rfl, rfl⟩
  exact ((h1.trans (put _ _ _)).trans (setFlag _ _ _)).trans (setFlag _ _ _)

theorem reason (s : State) (bits : Nat) : s.Steady (s.reason bits) := put _ _ _

theorem coldReset (s : State) (bits : Nat) : s.Steady (s.coldReset bits) :=
  (((releaseOwn _).trans (resetTo _ _)).trans (reason _ _)).trans (seqStart _)

theorem warmReset (s : State) (bits : Nat) : s.Steady (s.warmReset bits) :=
  ((((releaseOwn _).trans (hifReset _)).trans (resetTo _ _)).trans (reason _ _)).trans (seqStart _)

theorem warmStart (s : State) : s.Steady s.warmStart := by
  unfold State.warmStart
  exact ((releaseOwn _).trans (foldl drainMaster _ _)).trans (setPwr _ _)

theorem askCold (s : State) (b : Nat) : s.Steady (s.askCold b) := ite (fun _ => setPwr _ _) fun _ => refl _

theorem sysCtrl (s : State) (w : Word) : s.Steady (s.sysCtrl w) :=
  ite (fun _ => (setFlag _ _ _).trans (of_same rfl rfl rfl ⟨rfl, rfl, rfl, rfl⟩)) fun _ => refl _

theorem powerOn (s : State) (vin : Nat) : s.Steady (s.powerOn vin) :=
  ite (fun _ => refl _) fun _ => ((setPwr _ _).trans (setFlag _ _ _)).trans (coldReset _ _)

theorem vinLost (s : State) (vin : Nat) (vbat : Bool) : s.Steady (s.vinLost vin vbat) := by
  unfold State.vinLost
  extract_lets s1 s2 aon s3 s4 s5
  have h2 : s.Steady s2 := (releaseOwn _).trans (setPwr _ _)
  have h3 : s.Steady s3 := (h2.trans (resetTo _ _)).trans (setPwr _ _)
  have h4 : s.Steady s4 := h3.trans (of_same rfl rfl rfl ⟨rfl, rfl, rfl, rfl⟩)
  have h5 : s.Steady s5 := ite (fun _ => h4) fun _ => h4.trans (of_same rfl rfl rfl ⟨rfl, rfl, rfl, rfl⟩)
  exact ite (fun _ => (h5.trans (put _ _ _)).trans (setFlag _ _ _)) fun _ => h5

theorem vinBack (s : State) (vin : Nat) : s.Steady (s.vinBack vin) :=
  ite (fun _ => ((setPwr _ _).trans (setFlag _ _ _)).trans (coldReset _ _)) fun _ => refl _

theorem putTemp (s : State) (t : Int) : s.Steady (s.putTemp t) :=
  ite (fun _ => setFld _ _ _) fun _ => (setFld _ _ _).trans (tick1 _)

theorem tempSource (s : State) (src : Nat) (f : Fld) (t : Int) (on off : Int) : s.Steady (s.tempSource src f t on off) :=
  (ite (fun _ => condBegin _ _ _) fun _ => ite (fun _ => condEnd _ _) fun _ => refl _ : s.Steady _).trans (setFlag _ _ _)

theorem tempSample (s : State) (t : Int) : s.Steady (s.tempSample t) :=
  ((setPwr _ _).trans (putTemp _ _)).trans ((ite (fun _ => (tempSource _ _ _ _ _ _).trans
      (tempSource _ _ _ _ _ _)) fun _ => refl _ : State.Steady _ _).trans (ite (fun _ => (setPwr _ _).trans
      (askCold _ _)) fun _ => ite (fun _ => (setPwr _ _).trans (unhold _)) fun _ => refl _))

theorem resetDomain (s : State) (d : Nat) : s.Steady (s.resetDomain d) := by
  unfold State.resetDomain
  extract_lets s1 s2 s3
  have h1 : s.Steady s1 := (releaseOwn _).trans (resetRegs _ _)
  have h2 : s.Steady s2 := h1.trans (of_same rfl rfl rfl ⟨rfl, rfl, rfl, rfl⟩)
  exact ite (fun _ => (foldl (fun _ _ => setEngine _ _ _) _ _).trans (resetRegs _ _)) fun _ =>
      ite (fun _ => (h2.trans (setMix _ _)).trans (ref6 _)) fun _ => ite (fun _ => (resetRegs _ _).trans
      (of_same rfl rfl rfl ⟨rfl, rfl, rfl, rfl⟩)) fun _ => ite (fun _ => (resetRegs _ _).trans
      (of_same rfl rfl rfl ⟨rfl, rfl, rfl, rfl⟩)) fun _ => ite (fun _ => (hifReset _).trans (resetRegs _ _)) fun _ => refl _

theorem domOff (s : State) (d : Nat) : s.Steady (s.domOff d) := by
  unfold State.domOff
  extract_lets s1
  have h1 : s.Steady s1 := (resetDomain _ _).trans (setFlag _ _ _)
  split
  · exact ((h1.trans (drainMaster _ _)).trans (setPwr _ _)).trans (setFlag _ _ _)
  · exact h1

theorem offEnds (s : State) (m : Nat) : s.Steady (s.offEnds m) := by
  unfold State.offEnds
  split
  · extract_lets s1
    have h1 : s.Steady s1 := (setPwr _ _).trans (setFlag _ _ _)
    exact ite (fun _ => h1.trans (domStart _ _)) fun _ => h1
  · exact refl _

theorem refuseOff (s : State) (d : Nat) : s.Steady (s.refuseOff d) :=
  ((((setFlag _ _ _).trans (setFlag _ _ _)).trans (setFld _ _ _)).trans (setFlag _ _ _)).trans (count _ _)

theorem askOff (s : State) (d : Nat) : s.Steady (s.askOff d) := ite (fun _ => domOff _ _) fun _ => refuseOff _ _

theorem faultReq (s : State) (d : Nat) (on : Bool) : s.Steady (s.faultReq d on) :=
  ite (fun _ => setPwr _ _) fun _ => ite (fun _ => ((setPwr _ _).trans (setFlag _ _ _)).trans (domStart _ _)) fun _ => refl _

theorem domReq (s : State) (d : Nat) (on : Bool) : s.Steady (s.domReq d on) :=
  ite (fun _ => (setFlag _ _ _).trans (faultReq _ _ _)) fun _ => ite (fun _ => setFlag _ _ _) fun _ =>
      ite (fun _ => ite (fun _ => setFlag _ _ _) fun _ => (setFlag _ _ _).trans (domStart _ _)) fun _ =>
      ite (fun _ => (setFlag _ _ _).trans (askOff _ _)) fun _ => setFlag _ _ _

theorem pwrReq (s : State) (src : ReqSource) (w : Word) : s.Steady (s.pwrReq src w) :=
  foldl (fun _ _ => ite (fun _ => refl _) fun _ => domReq _ _ _) _ _

theorem unrepaired (s : State) (sub : Nat) : s.Steady (s.unrepaired sub) :=
  ite (fun _ => (setSram _ _).trans (raiseAs _ _ _ _)) fun _ => (((putActive _ _ _).trans (put _ _ _)).trans
      (raise _ _ _)).trans (capacityCheck _)

theorem marchDomain (s : State) (d : Nat) (failing : List (Nat × Nat)) : s.Steady (s.marchDomain d failing) := by
  unfold State.marchDomain
  extract_lets s1 s2 s3 fs r
  have h3 : s.Steady s3 := ((filterMem s _).trans (setSram _ _)).trans (setFld _ _ _)
  have h4 : s3.Steady r.1 := by
    refine foldlFst (fun r x => ?_) _ (s3, ([] : List Nat))
    exact powerUpRow _ _ _
  exact (h3.trans h4).trans (foldl unrepaired _ _)

theorem domInit (s : State) (d : Nat) : s.Steady (s.domInit d) :=
  ite (fun _ => ((setFlag _ _ _).trans (setFld _ _ _)).trans (setPwr _ _)) fun _ =>
      ite (fun _ => ite (fun _ => ((setDdr _ _).trans (emit _ _)).trans (wakeRanks _)) fun _ => refl _) fun _ => refl _

theorem release (s : State) (d : Nat) (failing : List (Nat × Nat)) : s.Steady (s.release d failing) :=
  (((((setFlag _ _ _).trans (setFlag _ _ _)).trans (marchDomain _ _ _)).trans (domInit _ _)).trans (setPwr _ _)).trans
      ((ite (fun _ => (setPwr _ _).trans (seqHead _)) fun _ => refl _ : State.Steady _ _).trans
      (ite (fun _ => refl _) fun _ => askOff _ _))

theorem fenceCluster (s : State) (d : Nat) : s.Steady (s.fenceCluster d) :=
  ite (fun _ => (ite (fun _ => refl _) fun _ => (foldl fenceEngine _ _).trans (capacityCheck _) : s.Steady _).trans
      (foldl (fun _ _ => putActive _ _ _) _ _)) fun _ => refl _

theorem regFault (s : State) (d : Nat) : s.Steady (s.regFault d) :=
  (((((setFld _ _ _).trans (setFlag _ _ _)).trans (setFlag _ _ _)).trans (count _ _)).trans (setFlag _ _ _)).trans
      ((ite (fun _ => refl _) fun _ => ((((fenceCluster _ _).trans (resetDomain _ _)).trans (setFlag _ _ _)).trans
      (setFlag _ _ _)).trans (setPwr _ _) : State.Steady _ _).trans (ite (fun _ => raiseOcc _ _) fun _ =>
      ite (fun _ => of_same rfl rfl rfl ⟨rfl, rfl, rfl, rfl⟩) fun _ => refl _))

theorem condShown (s : State) (i : Nat) : s.Steady (s.condShown i) :=
  ite (fun _ => ((setFlag _ _ _).trans (setClkx _ _)).trans (mclkCheck _)) fun _ =>
      ite (fun _ => setFlag _ _ _) fun _ => ite (fun _ => setFlag _ _ _) fun _ => ite (fun _ => setFlag _ _ _) fun _ => refl _

theorem scan (s : State) (present : List (Fin 64 × Word)) : s.Steady (s.scan present) :=
  (setPwr _ _).trans (foldl (fun s i => by
    split
    · exact refl _
    · extract_lets s2
      have h2 : s.Steady s2 := (setBit64 _ _ _ _ _).trans (condShown _ _)
      exact ite (fun _ => refl _) fun _ => h2.trans (raiseOcc _ _)
) _ _)

/-! ### Operations of Boot -/

theorem ifCtrl (s : State) (f : State → State) (hf : ∀ s : State, s.Steady (f s)) : s.Steady (s.ifCtrl f) :=
  ite (fun _ => hf _) fun _ => refl _

theorem alert (s : State) (was : Bool) : s.Steady (s.alert was) := ite (fun _ => refl _) fun _ => emit _ _

theorem bootFail (s : State) (why : Nat) (reset : Bool) : s.Steady (s.bootFail why reset) :=
  ((((count _ _).trans (setFld _ _ _)).trans (alert _ _)).trans (setPwr _ _)).trans (raise _ _ _)

theorem bootAttempt (s : State) (i : BootImage) : s.Steady (s.bootAttempt i) := by
  unfold State.bootAttempt
  extract_lets a s1 s2 s3 u
  have h1 : s.Steady s1 := ((setFld _ _ _).trans (setFld _ _ _)).trans (setFlag _ _ _)
  have h3 : s.Steady s3 := ((h1.trans (store _ _ _ _)).trans (setFlag _ _ _)).trans (put _ _ _)
  split
  · exact h1.trans (bootFail _ _ _)
  · exact ite (fun _ => h3.trans (setPwr _ _)) fun _ => (h1.trans (store _ _ _ _)).trans (bootFail _ _ _)

theorem bootWaitEnds (s : State) : s.Steady s.bootWaitEnds := by
  unfold State.bootWaitEnds
  split
  · exact of_same rfl rfl rfl ⟨rfl, rfl, rfl, rfl⟩
  · exact setPwr _ _
  · exact refl _

theorem bootOk (s : State) : s.Steady s.bootOk :=
  ite (fun _ => refl _) fun _ => (((((put _ _ _).trans (alert _ _)).trans (setFlag _ _ _)).trans (setFld _ _ _)).trans
      (setFld _ _ _)).trans ((ite (fun _ => ((igmpReports _).trans (count _ _)).trans
      (setFlag _ _ _)) fun _ => refl _ : State.Steady _ _).trans (setPwr _ _))

theorem bootFails8 (s : State) : s.Steady s.bootFails8 := ite (fun _ => bootFail _ _ _) fun _ => refl _

theorem bootCtrl (s : State) (w : Word) : s.Steady (s.bootCtrl w) :=
  (ite (fun _ => (setFlag _ _ _).trans (bootOk _)) fun _ => setFlag _ _ _ : s.Steady _).trans
      (ite (fun _ => bootFails8 _) fun _ => refl _)

theorem startReload (s : State) : s.Steady s.startReload := by
  unfold State.startReload
  exact ((((setFlag _ _ _).trans (setFlag _ _ _)).trans (drainMaster _ _)).trans (drainMaster _ _)).trans (setPwr _ _)

theorem wdtKick (s : State) (core : Nat) : s.Steady (s.wdtKick core) := by
  unfold State.wdtKick
  exact setPwr _ _

/-! ### Operations of Operands -/

theorem usedDma (s : State) (e a : Nat) : s.Steady (s.usedDma e a) := ite (fun _ => tick1 _) fun _ => refl _

theorem lateDo (s : State) (e : Nat) (x : Late) : s.Steady (s.lateDo e x) := by
  unfold State.lateDo
  split
  · exact storeVal _ _ _ _
  · exact eccFixed _ _ _ _
  · exact refl _

theorem later (s : State) (e : Nat) (x : Late) : s.Steady (s.later e x) := setEngine _ _ _

/-! ### Operations of EngMem -/

theorem flyE (s : State) (e : Nat) (fs : List Flight) : s.Steady (s.flyE e fs) := setEngine _ _ _

theorem loadTo (s : State) (e d a : Nat) : s.Steady (s.loadTo e d a) := (flyE _ _ _).trans (usedDma _ _ _)

theorem ifFixed (s : State) (e : Nat) (ecc : Bool) (a : Nat) : s.Steady (s.ifFixed e ecc a) :=
  ite (fun _ => later _ _ _) fun _ => refl _

/-! ### Operations of EngCtl -/

theorem issueCtl (s : State) (e : Nat) (last ok : Bool) (f : Engine → Engine) : s.Steady (s.issueCtl e last ok f) :=
  issue _ _ _ _ _ _

theorem stall (s : State) (e : Nat) : s.Steady (s.stall e) := ((count _ _).trans (count _ _)).trans (setEngine _ _ _)

theorem dmaIn (s : State) (e off loc n : Nat) : s.Steady (s.dmaIn e off loc n) := by
  induction n generalizing s off loc with
  | zero => exact refl s
  | succ n ih => exact (putLocal _ _ _ _).trans (ih _ _ _)

theorem dmaOut (s : State) (e off loc n : Nat) : s.Steady (s.dmaOut e off loc n) := storeWords _ _ _ _

theorem dmaDone (s : State) (e : Nat) : s.Steady (s.dmaDone e) := by
  unfold State.dmaDone
  extract_lets g
  split
  · exact refl _
  · extract_lets s1
    split
    · exact refl _
    · split
      · exact badRead _ _ _
      · exact ite (fun _ => (setEngine _ _ _).trans (dmaOut _ _ _ _ _)) fun _ => ((setEngine _ _ _).trans
            (dmaIn _ _ _ _ _)).trans (foldl (fun _ _ => (putLocal _ _ _ _).trans (tick1 _)) _ _)

theorem mboxIn (s : State) (e : Nat) (w : Word) : s.Steady (s.mboxIn e w) := by
  unfold State.mboxIn
  extract_lets s1 s2 g rings s3 s4
  have h1 : s.Steady s1 := ite (fun _ => setFlag _ _ _) fun _ => refl _
  have h2 : s.Steady s2 := (h1.trans (put _ _ _)).trans (setFlag _ _ _)
  have h3 : s.Steady s3 := h2.trans (setEngine _ _ _)
  exact ite (fun _ => h2) fun _ => ite (fun _ => h3.trans (of_same rfl rfl rfl ⟨rfl, rfl, rfl, rfl⟩)) fun _ => h3

theorem enterEvent (s : State) (e i : Nat) : s.Steady (s.enterEvent e i) :=
  ((count _ _).trans (setFld _ _ _)).trans (ite (fun _ => (setEngine _ _ _).trans (taskFault _ _ _)) fun _ => setEngine _ _ _)

/-! ### Operations of EngMac -/

theorem mac1 (s : State) (e : Nat) (sub clr : Bool) (a x c : Nat) (last : Bool) : s.Steady (s.mac1 e sub clr a x c last) :=
  issueFly _ _ _ _ _

theorem mac2 (s : State) (e : Nat) (sub clr : Bool) (a x0 x1 c : Nat) (last : Bool) : s.Steady (s.mac2 e sub clr a x0 x1 c last) :=
  issueFly _ _ _ _ _

theorem mac4o (s : State) (e : Nat) (sub clr : Bool) (x c : Nat) (last : Bool) : s.Steady (s.mac4o e sub clr x c last) :=
  issueFly _ _ _ _ _

theorem mac4c (s : State) (e : Nat) (sub clr : Bool) (a x c : Nat) (last : Bool) : s.Steady (s.mac4c e sub clr a x c last) :=
  issueFly _ _ _ _ _

theorem mac4j (s : State) (e : Nat) (sub clr : Bool) (a x c : Nat) (last : Bool) : s.Steady (s.mac4j e sub clr a x c last) :=
  issueFly _ _ _ _ _

/-! ### Operations of FltRegs -/

theorem ackLo (s : State) (w : Word) : s.Steady (s.ackLo w) := by
  have h : s.Steady { s with whold := Tbl.drop R.FLT_ACK_HI s.whold } := of_same rfl rfl rfl ⟨rfl, rfl, rfl, rfl⟩
  unfold State.ackLo
  exact h.trans (ackMask _ _)

theorem condGone (s : State) (i : Nat) : s.Steady (s.condGone i) :=
  ite (fun _ => (setFlag _ _ _).trans (mclkCheck _)) fun _ => ite (fun _ => serialBack _) fun _ =>
      ite (fun _ => setFlag _ _ _) fun _ => ite (fun _ => setFlag _ _ _) fun _ => ite (fun _ => setFlag _ _ _) fun _ => refl _

theorem repairOne (s : State) (i : Nat) (d : Word) : s.Steady (s.repairOne i d) :=
  ite (fun _ => ite (fun _ => marchRequest _ _) fun _ => refl _) fun _ =>
      ite (fun _ => ite (fun _ => restartLane _ _) fun _ => refl _) fun _ => ite (fun _ => startReload _) fun _ => refl _

theorem repairSource (s : State) (i : Nat) : s.Steady (s.repairSource i) :=
  ite (fun _ => refl _) fun _ => (setFlt _ _).trans (foldl (fun _ _ => ite (fun _ => setFlt _ _) fun _ => repairOne _ _ _) _ _)

theorem inject (s : State) (w : Word) : s.Steady (s.inject w) :=
  ite (fun _ => ite (fun _ => (put _ _ _).trans (raiseOcc _ _)) fun _ => put _ _ _) fun _ => refl _

theorem readLog (s : State) : s.Steady s.readLog := by
  unfold State.readLog
  extract_lets v k s1 s2
  have h2 : s.Steady s2 := (setFld _ _ _).trans (of_same rfl rfl rfl ⟨rfl, rfl, rfl, rfl⟩)
  exact ite (fun _ => h2.trans (setFld _ _ _)) fun _ => h2

/-! ### Operations of GraphLoad -/

theorem loadRefused (s : State) (code : Nat) : s.Steady (s.loadRefused code) := (setFlag _ _ _).trans (setFld _ _ _)

theorem fenceOff (s : State) : s.Steady s.fenceOff := foldl (fun _ _ => putActive _ _ _) _ _

theorem loadGraph (s : State) (g : Image) : s.Steady (s.loadGraph g) := by
  unfold State.loadGraph
  extract_lets s1 __src s2 s3 s4 s5
  have h2 : s.Steady s2 := (fenceOff _).trans (of_same rfl rfl rfl ⟨rfl, rfl, rfl, rfl⟩)
  have h4 : s.Steady s4 := (h2.trans (foldl loadCode _ _)).trans (putBytes _ _ _)
  have h5 : s.Steady s5 := (h4.trans (setFlag _ _ _)).trans (put _ _ _)
  exact ((h5.trans (setFld _ _ _)).trans (setFld _ _ _)).trans (capacityCheck _)

theorem graphCmd (s : State) (a : Nat) : s.Steady (s.graphCmd a).1 := by
  unfold State.graphCmd
  extract_lets h g
  clear_value g h
  split_ifs
  · exact loadRefused _ _
  · exact refl _
  · exact loadRefused _ _
  · exact refl _
  · split
    · exact loadRefused _ _
    · exact loadGraph _ _

/-! ### Operations of RegIo -/

theorem tckCfg (s : State) (w : Word) : s.Steady (s.tckCfg w) :=
  ite (fun _ => setFlag _ _ _) fun _ => ite (fun _ => put _ _ _) fun _ => (((put _ _ _).trans (setGridU _ _)).trans
      (followBw _)).trans (strCounts _)

theorem runSet (s : State) : s.Steady s.runSet := by
  unfold State.runSet
  extract_lets s1
  split
  · exact (setFlag _ _ _).trans (of_same rfl rfl rfl ⟨rfl, rfl, rfl, rfl⟩)
  · exact setFlag _ _ _

theorem runClear (s : State) : s.Steady s.runClear := by
  unfold State.runClear
  extract_lets s1
  split
  · exact (setFlag _ _ _).trans (of_same rfl rfl rfl ⟨rfl, rfl, rfl, rfl⟩)
  · exact (setFlag _ _ _).trans (of_same rfl rfl rfl ⟨rfl, rfl, rfl, rfl⟩)
  · exact setFlag _ _ _

theorem writeGen (s : State) (o : Nat) (w : Word) : s.Steady (s.writeGen o w) := by
  unfold State.writeGen
  split
  · exact refl _
  · exact put _ _ _

theorem writeSys (s : State) (src : ReqSource) (o : Nat) (w : Word) : s.Steady (s.writeSys src o w) :=
  ite (fun _ => sysCtrl _ _) fun _ => ite (fun _ => bootCtrl _ _) fun _ =>
      ite (fun _ => ite (fun _ => startReload _) fun _ => refl _) fun _ => ite (fun _ => wdtKick _ _) fun _ =>
      ite (fun _ => pwrReq _ _ _) fun _ => ite (fun _ => rtcCtrl _ _) fun _ => ite (fun _ => svcHours _ _) fun _ => writeGen _ _ _

theorem writeFltTck (s : State) (o : Nat) (w : Word) : s.Steady (s.writeFltTck o w) :=
  ite (fun _ => ackLo _ _) fun _ => ite (fun _ => holdHi _ _ _) fun _ => ite (fun _ => inject _ _) fun _ =>
      ite (fun _ => ite (fun _ => put _ _ _) fun _ => refl _) fun _ =>
      ite (fun _ => ite (fun _ => runSet _) fun _ => runClear _) fun _ => ite (fun _ => tckCfg _ _) fun _ =>
      ite (fun _ => holdHi _ _ _) fun _ => ite (fun _ => putLo _ _ _ _) fun _ => (holdClass _ _).trans (writeGen _ _ _)

theorem writeDly (s : State) (o : Nat) (w : Word) : s.Steady (s.writeDly o w) :=
  ite (fun _ => setFlag _ _ _) fun _ => writeGen _ _ _

theorem writeFab (s : State) (o : Nat) (w : Word) : s.Steady (s.writeFab o w) := by
  unfold State.writeFab
  extract_lets s1
  split
  · exact ite (fun _ => (writeGen _ _ _).trans (unloadGraph _)) fun _ => writeGen _ _ _
  · split
    · exact writeDly _ _ _
    · split
      · exact forBits _ _ _ _ requestFence
      · exact forBits _ _ _ _ requestUnfence
      · exact mboxIn _ _ _
      · exact writeGen _ _ _

theorem writeTwn (s : State) (o : Nat) (w : Word) : s.Steady (s.writeTwn o w) :=
  ite (fun _ => (ite (fun _ => writeGen _ _ _) fun _ => (writeGen _ _ _).trans (clearOwnReq _) : s.Steady _).trans
      (ite (fun _ => goSolo _) fun _ => refl _)) fun _ =>
      ite (fun _ => ite (fun _ => askHandover _ _) fun _ => refl _) fun _ => writeGen _ _ _

theorem writeMod (s : State) (o : Nat) (w : Word) : s.Steady (s.writeMod o w) := by
  unfold State.writeMod
  split
  · exact writeFsw _ _
  · split
    · exact writeDither _ _
    · split
      · exact holdHi _ _ _
      · split
        · exact armMod _ _
        · split
          · exact writeSnsClk _ _
          · split
            · exact holdHi _ _ _
            · split
              · exact armTdm _ _
              · split
                · exact ite (fun _ => clrCh _ _) fun _ => refl _
                · extract_lets s1
                  exact ite (fun _ => (writeGen _ _ _).trans (learnStart _ _)) fun _ => writeGen _ _ _
                · exact writeGen _ _ _

theorem writeTimCfg (s : State) (w : Word) : s.Steady (s.writeTimCfg w) :=
  ite (fun _ => writeGen _ _ _) fun _ => ite (fun _ => writeGen _ _ _) fun _ => ite (fun _ => (writeGen _ _ _).trans
      (setGridU _ _)) fun _ => (writeGen _ _ _).trans (of_same rfl rfl rfl ⟨rfl, rfl, rfl, rfl⟩)

theorem writeClk (s : State) (o : Nat) (w : Word) : s.Steady (s.writeClk o w) := by
  unfold State.writeClk
  extract_lets s1
  split
  · exact (writeGen _ _ _).trans (clkCtrl _ _ _)
  · split
    · exact (writeGen _ _ _).trans (steer _)
    · split
      · exact ite (fun _ => (writeGen _ _ _).trans (holdoverLoad _)) fun _ => writeGen _ _ _
      · split
        · exact writeTimCfg _ _
        · split
          · exact ite (fun _ => adjCommit _) fun _ => refl _
          · split
            · exact ite (fun _ => timSet _) fun _ => refl _
            · split
              · exact (((((writeGen _ _ _).trans (refOff _ _)).trans (refStatus _ _)).trans (ref6 _)).trans
                    (reselect _)).trans (followBw _)
              · exact armTimer _ _ _
              · exact writeGen _ _ _

theorem sdsTxEq (s : State) (l : Nat) (w : Word) : s.Steady (s.sdsTxEq l w) := put _ _ _

theorem writeNet (s : State) (o : Nat) (w : Word) : s.Steady (s.writeNet o w) := by
  unfold State.writeNet
  split
  · exact macCtrl _ _ _
  · exact macCfg _ _ _
  · exact putLo _ _ _ _
  · exact holdHi _ _ _
  · split
    · exact sdsCtrl _ _ _
    · exact sdsPrbs _ _ _
    · exact refl _
    · exact refl _
    · exact sdsTxEq _ _ _
    · exact writeGen _ _ _

theorem writeMsix (s : State) (i : Nat) (w : Word) : s.Steady (s.writeMsix i w) := (setHif _ _).trans (msixGo _)

theorem writeHif (s : State) (o : Nat) (w : Word) : s.Steady (s.writeHif o w) := by
  unfold State.writeHif
  extract_lets r k
  split
  · exact holdHi _ _ _
  · split
    · exact putLo _ _ _ _
    · split
      · exact ite (fun _ => ringCtrl _ _ _) fun _ => ringCfg _ _ _ _
      · split
        · exact writeMsix _ _ _
        · exact writeGen _ _ _

theorem writeMem (s : State) (o : Nat) (w : Word) : s.Steady (s.writeMem o w) := by
  unfold State.writeMem
  extract_lets s1 s2
  have h1 : s.Steady s1 := ite (fun _ => startClear _) fun _ => refl _
  have h2 : s.Steady s2 := ite (fun _ => h1.trans (selfRefresh _)) fun _ => h1
  split
  · exact marchCtrl _ _
  · split
    · exact ite (fun _ => h2.trans (leaveSelfRefresh _)) fun _ => h2
    · split
      · exact ddrCfg _ _
      · split
        · exact ddrTemp _ _
        · split
          · exact trnCtrl _ _
          · split
            · exact twiCfg _ _ _
            · exact writeGen _ _ _

theorem writeIn (s : State) (src : ReqSource) (o : Nat) (w : Word) : s.Steady (s.writeIn src o w) :=
  ite (fun _ => writeSys _ _ _ _) fun _ => ite (fun _ => writeFltTck _ _ _) fun _ =>
      ite (fun _ => writeFab _ _ _) fun _ => ite (fun _ => writeGen _ _ _) fun _ =>
      ite (fun _ => writeTwn _ _ _) fun _ => ite (fun _ => writeMod _ _ _) fun _ =>
      ite (fun _ => writeClk _ _ _) fun _ => ite (fun _ => writeNet _ _ _) fun _ =>
      ite (fun _ => writeHif _ _ _) fun _ => ite (fun _ => writeMod _ _ _) fun _ => ite (fun _ => writeMem _ _ _) fun _ => refl _

theorem writeReg (s : State) (src : ReqSource) (o : Nat) (w : Word) : s.Steady (s.writeReg src o w) :=
  ite (fun _ => writeIn _ _ _ _) fun _ => refl _

theorem returns (s : State) (w : Word) : s.Steady (s.returns w) := of_same rfl rfl rfl ⟨rfl, rfl, rfl, rfl⟩

theorem capture (s : State) (o : Nat) : s.Steady (s.capture o) := of_same rfl rfl rfl ⟨rfl, rfl, rfl, rfl⟩

theorem readGen (s : State) (o : Nat) : s.Steady (s.readGen o) := by
  unfold State.readGen
  extract_lets v s1
  split
  · exact ((capture _ _).trans (returns _ _)).trans (tick1 _)
  · exact (ite (fun _ => capture _ _) fun _ => (capture _ _).trans (put _ _ _) : s.Steady _).trans (returns _ _)
  · exact (capture _ _).trans (returns _ _)

theorem readIn (s : State) (o : Nat) : s.Steady (s.readIn o) := by
  unfold State.readIn
  split
  · exact readLog _
  · split
    · exact readIfir _
    · split
      · exact returns _ _
      · split
        · extract_lets s1
          exact (prbsCapture _ _).trans (returns _ _)
        · exact readGen _ _

theorem readReg (s : State) (o : Nat) : s.Steady (s.readReg o) := ite (fun _ => readIn _ _) fun _ => returns _ _

theorem applyTimed (s : State) (t : Timed) : s.Steady (s.applyTimed t) := by
  unfold State.applyTimed
  split
  · exact (writeReg _ _ _ _).trans (endTimed _ _ _ _)
  · exact endTimed _ _ _ _

theorem applyAction (s : State) (t : Timed) : s.Steady (s.applyAction t) :=
  ite (fun _ => applyCommit _ _) fun _ => applyTimed _ _

/-! ### Operations of TwiTgt -/

theorem setTgtPtr (s : State) (p : Nat) : s.Steady (s.setTgtPtr p) := setFld _ _ _

theorem tgtWrite (s : State) (o : Nat) (w : Word) : s.Steady (s.tgtWrite o w) :=
  ite (fun _ => setTgt _ _) fun _ => writeReg _ _ _ _

theorem tgtClose (s : State) (data : List Byte) : s.Steady (s.tgtClose data) := by
  unfold State.tgtClose
  extract_lets f page s1 s2 n
  have h2 : s.Steady s2 := (setTgtPtr _ _).trans (foldl (fun t w => by
    split
    · exact tgtWrite _ _ _
    · exact refl _) _ _)
  exact ite (fun _ => h2) fun _ => (h2.trans (setFlag _ _ _)).trans (countBy _ _ _)

theorem tgtBytes (s : State) (x : List Byte) : s.Steady (s.tgtBytes x) := by
  unfold State.tgtBytes
  split
  · exact (setTgtPtr _ _).trans (tgtClose _ _)
  · exact refl _

theorem tgtSend (s : State) (v : Word) (n : Nat) : s.Steady (s.tgtSend v n) := by
  unfold State.tgtSend
  exact ((emit _ _).trans (setTgtPtr _ _)).trans (setTgt _ _)

theorem tgtFetch (s : State) (n : Nat) : s.Steady (s.tgtFetch n) := by
  unfold State.tgtFetch
  extract_lets n
  split
  · exact refl _
  · split
    · exact tgtSend _ _ _
    · extract_lets s1
      exact ite (fun _ => setTgt _ _) fun _ => ite (fun _ => (setFlag _ _ _).trans (tgtSend _ _ _)) fun _ =>
          (readReg _ _).trans (tgtSend _ _ _)

theorem tgtGo (l : List (Nat × Word)) (s : State) : s.Steady (State.tgtGo l s) := by
  induction l generalizing s with
  | nil => exact refl s
  | cons x l ih => exact ite (fun _ => refl s) fun _ => ((setTgt _ _).trans (writeReg _ _ _ _)).trans (ih _)

theorem tgtRun (s : State) (x : TgtHeld) : s.Steady (s.tgtRun x) := by
  unfold State.tgtRun
  split
  · exact tgtBytes _ _
  · exact tgtFetch _ _

theorem tgtFlush (s : State) : s.Steady s.tgtFlush := by
  unfold State.tgtFlush
  extract_lets s1 s2
  have h2 : s.Steady s2 := by
    unfold s2
    split
    · exact tgtGo _ _
    · exact ((tgtGo _ _).trans (setTgt _ _)).trans (tgtFetch _ _)
  split
  · exact ite (fun _ => h2) fun _ => (h2.trans (setTgt _ _)).trans (tgtRun _ _)
  · exact h2

theorem tgtStart (s : State) (addr : Option (BitVec 7)) (x : TgtHeld) : s.Steady (s.tgtStart addr x) :=
  ite (fun _ => tgtFlush _) fun _ => ite (fun _ => (tgtFlush _).trans (setTgt _ _)) fun _ => ((tgtFlush _).trans
      (setTgt _ _)).trans (ite (fun _ => (count _ _).trans (tgtRun _ _)) fun _ => ite (fun _ => (count _ _).trans
      (setTgt _ _)) fun _ => (count _ _).trans (count _ _))

/-! ### Operations of Tick -/

theorem warnOverrun (s : State) : s.Steady s.warnOverrun :=
  ite (fun _ => (((setFab _ _).trans (setFlag _ _ _)).trans (raise _ _ _)).trans (count _ _)) fun _ => refl _

theorem abortTasks (s : State) : s.Steady s.abortTasks :=
  ((foldl (fun _ _ => ite (fun _ => haltEngine _ _) fun _ => refl _) _ _).trans (setFab _ _)).trans
      (foldl (fun _ _ => setStat _ _ _) _ _)

theorem deadline (s : State) : s.Steady s.deadline :=
  ite (fun _ => (((((((((cutStages _).trans (abortTasks _)).trans (setFab _ _)).trans (setFlag _ _ _)).trans
      (setFld _ _ _)).trans (setFld _ _ _)).trans (putPair _ _ _ _)).trans (raise _ _ _)).trans (count _ _)).trans
      (countBy _ _ _)) fun _ => refl _

theorem exchange (s : State) : s.Steady s.exchange := by
  unfold State.exchange
  exact (foldl swapState _ _).trans (setMix _ _)

theorem commit (s : State) (n : Nat) : s.Steady (s.commit n) := by
  unfold State.commit
  extract_lets com fade old s1 s2 __src __src' s3
  have h2 : s.Steady s2 := (exchange _).trans (setFab _ _)
  have h3 : s.Steady s3 := h2.trans (of_same rfl rfl rfl ⟨rfl, rfl, rfl, rfl⟩)
  exact h3.trans (fixDigest _)

theorem silence (s : State) : s.Steady s.silence := setFab _ _

theorem uncommitted (s : State) : s.Steady s.uncommitted := by
  unfold State.uncommitted
  extract_lets tw s1
  have h1 : s.Steady s1 := of_same rfl rfl rfl ⟨rfl, rfl, rfl, rfl⟩
  exact ite (fun _ => h1.trans (releaseOwn _)) fun _ => h1

theorem commitStep (s : State) (n : Nat) : s.Steady (s.commitStep n) := by
  unfold State.commitStep
  exact ite (fun _ => (deadline _).trans (commit _ _)) fun _ => ite (fun _ => (silence _).trans
      (uncommitted _)) fun _ => uncommitted _

theorem senseFill (s : State) (c : Nat) : s.Steady (s.senseFill c) := by
  unfold State.senseFill
  extract_lets x put s1
  have h1 : s.Steady s1 := ite (fun _ => setFab _ _) fun _ => refl _
  exact h1.trans (ite (fun _ => setFab _ _) fun _ => refl _)

theorem inputs (s : State) (m : Nat) : s.Steady (s.inputs m) :=
  (((setFab _ _).trans (rxFill _ _)).trans (tdmFill _ _)).trans (foldl senseFill _ _)

theorem senseCapture (s : State) (x : SnsCap) : s.Steady (s.senseCapture x) := ite (fun _ => putAmp1 _ _ _) fun _ => refl _

theorem nextTick (s : State) (m : Nat) : s.Steady (s.nextTick m) := of_same rfl rfl rfl ⟨rfl, rfl, rfl, rfl⟩

theorem runStep (s : State) (m : Nat) : s.Steady (s.runStep m) := by
  unfold State.runStep
  split
  · exact of_same rfl rfl rfl ⟨rfl, rfl, rfl, rfl⟩
  · exact ite (fun _ => of_same rfl rfl rfl ⟨rfl, rfl, rfl, rfl⟩) fun _ => of_same rfl rfl rfl ⟨rfl, rfl, rfl, rfl⟩
  · exact of_same rfl rfl rfl ⟨rfl, rfl, rfl, rfl⟩
  · exact refl _

theorem fabTake (s : State) : s.Steady s.fabTake := by
  unfold State.fabTake
  exact (setFab _ _).trans (setMix _ _)

theorem startGraph (s : State) : s.Steady s.startGraph := by
  unfold State.startGraph
  extract_lets s1 s2
  have h2 : s.Steady s2 := ite (fun _ => (setFab _ _).trans (orphans _)) fun _ => setFab _ _
  split
  · exact h2.trans (releasePhase _ _)
  · exact h2.trans (checkDone _)

theorem hostTick (s : State) : s.Steady s.hostTick :=
  ((foldl (fun _ _ => setRing _ _ _) _ _).trans (setHif _ _)).trans (ite (fun _ => (overflow _).trans
      (emit _ _)) fun _ => ite (fun _ => (overflow _).trans (fetchLate _)) fun _ => overflow _)

theorem tickEvent (s : State) : s.Steady s.tickEvent := ite (fun _ => postEvent _ _ _ _) fun _ => refl _

theorem actions (s : State) : s.Steady s.actions := ((endFades _).trans (applyDeferred _)).trans (runDue _ _ _ applyAction)

theorem twinTick (s : State) : s.Steady s.twinTick :=
  (((((laneTick _).trans (markTick _)).trans (hoTick _)).trans (resyncTick _)).trans (revertTick _)).trans (sendMarker _)

theorem boundary (s : State) : s.Steady s.boundary :=
  ((((((showLevels _).trans (tdmDue _ _)).trans (elapse _ _)).trans (tdmTail _)).trans (commitStep _ _)).trans
      (askAgain _)).trans ((((((((((((((((ite (fun _ => (ampTick _ _).trans
      (meterTake _)) fun _ => ampTick _ _ : State.Steady _ _).trans (nextTick _ _)).trans (tdmEarly _)).trans
      (runStep _ _)).trans (setStr _ _)).trans (clockTick _)).trans (ringsEnable _)).trans (meterPost _)).trans
      (fenceAll _)).trans (actions _)).trans (inputs _ _)).trans (fabTake _)).trans (hostTick _)).trans
      (scrubSram _)).trans (scrubDram _)).trans
      ((((ite (fun _ => startGraph _) fun _ => refl _ : State.Steady _ _).trans (twinTick _)).trans
      (tickEvent _)).trans (foldl twiServe _ _)))

theorem rest (s : State) : s.Steady s.rest := ((showLevels _).trans (tdmRun _)).trans (idle _)

theorem startTick (s : State) : s.Steady s.startTick := by
  unfold State.startTick
  extract_lets __src s1
  have h1 : s.Steady s1 := of_same rfl rfl rfl ⟨rfl, rfl, rfl, rfl⟩
  split
  · exact ite (fun _ => ((h1.trans (setFlag _ _ _)).trans (silence _)).trans (startGraph _)) fun _ => refl _
  · exact refl _

theorem stopTick (s : State) : s.Steady s.stopTick := by
  unfold State.stopTick
  extract_lets again s1
  have h1 : s.Steady s1 := of_same rfl rfl rfl ⟨rfl, rfl, rfl, rfl⟩
  exact ite (fun _ => (h1.trans (setFlag _ _ _)).trans (silence _)) fun _ => refl _

end State.Steady

end Sys2Proof.Machine
end

section
/-!
PROOFS. What holds of every command and of every step: each command answers a next state and keeps the canonical form, the queue and
the straps.
-/

namespace Sys2Proof.Machine

/-- The outcome is a next state, in which the canonical form, the queue and the straps are kept. -/
def State.Answers (s : State) (o : Host.Outcome State Fault Refusal) : Prop := ∃ t, o = .next t ∧ s.Steady t

open State.Steady in
/-- Each command answers, and keeps all three: it is one direct call of operations that do. -/
theorem exec_answers (c : Instr) (s : State) : s.Answers (exec c s) := by
  cases c with
  | tckCfgWrite _ => exact ⟨_, rfl, ifCtrl _ _ (fun _ => tckCfg _ _)⟩
  | tickRunSet => exact ⟨_, rfl, ifCtrl _ _ runSet⟩
  | tickRunClear => exact ⟨_, rfl, ifCtrl _ _ runClear⟩
  | tickStart => exact ⟨_, rfl, ifCtrl _ _ startTick⟩
  | tickStop => exact ⟨_, rfl, ifCtrl _ _ stopTick⟩
  | tickBoundary _ => exact ⟨_, rfl, ifCtrl _ _ (fun _ => (memSeen _ _).trans (boundary _))⟩
  | captureWindowClose _ _ _ =>
    exact ⟨_, rfl, ifCtrl _ _ (fun _ => ((tdmCapture _ _).trans (foldl senseCapture _ _)).trans (lbFrames _ _))⟩
  | tickOverrunWarning => exact ⟨_, rfl, ifCtrl _ _ warnOverrun⟩
  | tickDeadline => exact ⟨_, rfl, ifCtrl _ _ deadline⟩
  | doorbellFetchComplete _ => exact ⟨_, rfl, ite (fun _ => takeDoorbell _ _) fun _ => refl _⟩
  | doorbellFetchLate => exact ⟨_, rfl, ite (fun _ => fetchLate _) fun _ => refl _⟩
  | shadowBlockWrite => exact ⟨_, rfl, writeShadow _⟩
  | tckNumLoRead => exact ⟨_, rfl, readReg _ _⟩
  | tckStartLoWrite _ => exact ⟨_, rfl, ifCtrl _ _ (fun _ => putLo _ _ _ _)⟩
  | captureRegisterRead _ => exact ⟨_, rfl, readReg _ _⟩
  | counterReadClear _ => exact ⟨_, rfl, readReg _ _⟩
  | registerWrite _ _ => exact ⟨_, rfl, writeReg _ _ _ _⟩
  | graphLoad _ => exact ⟨_, rfl, ite (fun _ => holdCopy _ _) fun _ => untimed _ _ _ _ (fun _ => graphCmd _ _)⟩
  | unload => exact ⟨_, rfl, unloadGraph _⟩
  | phaseRelease =>
    refine ⟨_, rfl, ?_⟩
    split
    · exact refl _
    · exact releasePhase _ _
  | backlogAppend _ => exact ⟨_, rfl, refill _ _⟩
  | depthBroadcast _ => exact ⟨_, rfl, (broadcast _).trans (foldl (fun _ _ => ite (fun _ => eccFixed _ _ _ _) fun _ => refl _) _ _)⟩
  | taskAcquire _ => exact ⟨_, rfl, acquire _ _⟩
  | stealComplete _ => exact ⟨_, rfl, stealDone _ _⟩
  | taskTake _ => exact ⟨_, rfl, ite (fun _ => takeHead _ _) fun _ => refl _⟩
  | prefetchComplete _ => exact ⟨_, rfl, prefetchDone _ _⟩
  | taskComplete _ => exact ⟨_, rfl, completeTask _ _⟩
  | taskBudgetExceeded _ =>
    refine ⟨_, rfl, ?_⟩
    extract_lets __src
    split
    · exact refl _
    · exact ((setEngine _ _ _).trans (count _ _)).trans (setFld _ _ _)
  | engineFault _ _ => exact ⟨_, rfl, engineFault _ _ _⟩
  | engineHang _ => exact ⟨_, rfl, ite (fun _ => engineFault _ _ _) fun _ => refl _⟩
  | fabFenceWrite _ _ => exact ⟨_, rfl, ifOn _ _ _ (fun _ => forBits _ _ _ _ requestFence)⟩
  | plannedFence _ => exact ⟨_, rfl, plannedFence _ _⟩
  | fabUnfenceWrite _ _ => exact ⟨_, rfl, ifOn _ _ _ (fun _ => forBits _ _ _ _ requestUnfence)⟩
  | engineActivate _ _ => exact ⟨_, rfl, activateEngine _ _ _⟩
  | unfenceRepair _ => exact ⟨_, rfl, ite (fun _ => refl _) fun _ => repairFence _ _⟩
  | bundleIllegal _ _ => exact ⟨_, rfl, ite (fun _ => taskFault _ _ _) fun _ => refl _⟩
  | bundleNop _ => exact ⟨_, rfl, ite (fun _ => closeBundle _ _) fun _ => refl _⟩
  | add _ _ _ _ _ => exact ⟨_, rfl, alu _ _ _ _ _⟩
  | sub _ _ _ _ _ => exact ⟨_, rfl, alu _ _ _ _ _⟩
  | and _ _ _ _ _ => exact ⟨_, rfl, alu _ _ _ _ _⟩
  | or _ _ _ _ _ => exact ⟨_, rfl, alu _ _ _ _ _⟩
  | xor _ _ _ _ _ => exact ⟨_, rfl, alu _ _ _ _ _⟩
  | min _ _ _ _ _ => exact ⟨_, rfl, alu _ _ _ _ _⟩
  | max _ _ _ _ _ => exact ⟨_, rfl, alu _ _ _ _ _⟩
  | asr _ _ _ _ _ => exact ⟨_, rfl, alu _ _ _ _ _⟩
  | lsr _ _ _ _ _ => exact ⟨_, rfl, alu _ _ _ _ _⟩
  | lsl _ _ _ _ _ => exact ⟨_, rfl, alu _ _ _ _ _⟩
  | cmp _ _ _ _ => exact ⟨_, rfl, aluCmp _ _ _ _⟩
  | mov _ _ _ _ => exact ⟨_, rfl, alu _ _ _ _ _⟩
  | neg _ _ _ _ => exact ⟨_, rfl, alu _ _ _ _ _⟩
  | abs _ _ _ _ => exact ⟨_, rfl, alu _ _ _ _ _⟩
  | not _ _ _ _ => exact ⟨_, rfl, alu _ _ _ _ _⟩
  | addi _ _ _ _ _ => exact ⟨_, rfl, alu _ _ _ _ _⟩
  | cmpi _ _ _ _ => exact ⟨_, rfl, aluCmp _ _ _ _⟩
  | movi _ _ _ _ => exact ⟨_, rfl, alu _ _ _ _ _⟩
  | asri _ _ _ _ _ => exact ⟨_, rfl, alu _ _ _ _ _⟩
  | lsri _ _ _ _ _ => exact ⟨_, rfl, alu _ _ _ _ _⟩
  | lsli _ _ _ _ _ => exact ⟨_, rfl, alu _ _ _ _ _⟩
  | bexp _ _ _ => exact ⟨_, rfl, issueFly _ _ _ _ _⟩
  | mac1 _ _ _ _ _ => exact ⟨_, rfl, mac1 _ _ _ _ _ _ _ _⟩
  | msu1 _ _ _ _ _ => exact ⟨_, rfl, mac1 _ _ _ _ _ _ _ _⟩
  | mpy1 _ _ _ _ _ => exact ⟨_, rfl, mac1 _ _ _ _ _ _ _ _⟩
  | mpn1 _ _ _ _ _ => exact ⟨_, rfl, mac1 _ _ _ _ _ _ _ _⟩
  | mac2 _ _ _ _ _ _ => exact ⟨_, rfl, mac2 _ _ _ _ _ _ _ _ _⟩
  | msu2 _ _ _ _ _ _ => exact ⟨_, rfl, mac2 _ _ _ _ _ _ _ _ _⟩
  | mpy2 _ _ _ _ _ _ => exact ⟨_, rfl, mac2 _ _ _ _ _ _ _ _ _⟩
  | mpn2 _ _ _ _ _ _ => exact ⟨_, rfl, mac2 _ _ _ _ _ _ _ _ _⟩
  | mac4o _ _ _ _ => exact ⟨_, rfl, mac4o _ _ _ _ _ _ _⟩
  | msu4o _ _ _ _ => exact ⟨_, rfl, mac4o _ _ _ _ _ _ _⟩
  | mpy4o _ _ _ _ => exact ⟨_, rfl, mac4o _ _ _ _ _ _ _⟩
  | mpn4o _ _ _ _ => exact ⟨_, rfl, mac4o _ _ _ _ _ _ _⟩
  | mac4c _ _ _ _ _ => exact ⟨_, rfl, mac4c _ _ _ _ _ _ _ _⟩
  | msu4c _ _ _ _ _ => exact ⟨_, rfl, mac4c _ _ _ _ _ _ _ _⟩
  | mpy4c _ _ _ _ _ => exact ⟨_, rfl, mac4c _ _ _ _ _ _ _ _⟩
  | mpn4c _ _ _ _ _ => exact ⟨_, rfl, mac4c _ _ _ _ _ _ _ _⟩
  | mac4j _ _ _ _ _ => exact ⟨_, rfl, mac4j _ _ _ _ _ _ _ _⟩
  | msu4j _ _ _ _ _ => exact ⟨_, rfl, mac4j _ _ _ _ _ _ _ _⟩
  | mpy4j _ _ _ _ _ => exact ⟨_, rfl, mac4j _ _ _ _ _ _ _ _⟩
  | mpn4j _ _ _ _ _ => exact ⟨_, rfl, mac4j _ _ _ _ _ _ _ _⟩
  | cnv _ _ _ _ _ => exact ⟨_, rfl, issueFly _ _ _ _ _⟩
  | cnv2 _ _ _ _ _ => exact ⟨_, rfl, issueFly _ _ _ _ _⟩
  | ald _ _ _ _ => exact ⟨_, rfl, issueFly _ _ _ _ _⟩
  | alds _ _ _ _ => exact ⟨_, rfl, issueFly _ _ _ _ _⟩
  | ald2 _ _ _ _ => exact ⟨_, rfl, issueFly _ _ _ _ _⟩
  | alds2 _ _ _ _ => exact ⟨_, rfl, issueFly _ _ _ _ _⟩
  | aldq _ _ _ => exact ⟨_, rfl, issueFly _ _ _ _ _⟩
  | aadd _ _ _ _ => exact ⟨_, rfl, issueFly _ _ _ _ _⟩
  | asub _ _ _ _ => exact ⟨_, rfl, issueFly _ _ _ _ _⟩
  | amov _ _ _ _ => exact ⟨_, rfl, issueFly _ _ _ _ _⟩
  | aclr _ _ _ => exact ⟨_, rfl, issueFly _ _ _ _ _⟩
  | mvfh _ _ _ _ => exact ⟨_, rfl, issueFly _ _ _ _ _⟩
  | mvfl _ _ _ _ => exact ⟨_, rfl, issueFly _ _ _ _ _⟩
  | mvfg _ _ _ _ => exact ⟨_, rfl, issueFly _ _ _ _ _⟩
  | mvth _ _ _ _ => exact ⟨_, rfl, issueFly _ _ _ _ _⟩
  | mvtl _ _ _ _ => exact ⟨_, rfl, issueFly _ _ _ _ _⟩
  | mvtg _ _ _ _ => exact ⟨_, rfl, issueFly _ _ _ _ _⟩
  | ld _ _ _ _ _ _ => exact ⟨_, rfl, issueS _ _ _ _ _ _ _ fun _ => ((loadTo _ _ _ _).trans (flyE _ _ _)).trans (ifFixed _ _ _ _)⟩
  | ldp _ _ _ _ _ _ =>
    exact ⟨_, rfl, issueS _ _ _ _ _ _ _ fun _ =>
      (((loadTo _ _ _ _).trans (loadTo _ _ _ _)).trans (flyE _ _ _)).trans (ifFixed _ _ _ _)⟩
  | st _ _ _ _ _ => exact ⟨_, rfl, issueS _ _ _ _ _ _ _ fun _ => (later _ _ _).trans (flyE _ _ _)⟩
  | stp _ _ _ _ _ => exact ⟨_, rfl, issueS _ _ _ _ _ _ _ fun _ => ((later _ _ _).trans (later _ _ _)).trans (flyE _ _ _)⟩
  | ldd _ _ _ _ _ _ _ _ =>
    exact ⟨_, rfl, issueS _ _ _ _ _ _ _ fun _ => (((((loadTo _ _ _ _).trans (loadTo _ _ _ _)).trans (flyE _ _ _)).trans
      (flyE _ _ _)).trans (ifFixed _ _ _ _)).trans (ifFixed _ _ _ _)⟩
  | lddp _ _ _ _ _ _ _ _ _ _ =>
    exact ⟨_, rfl, issueS _ _ _ _ _ _ _ fun _ => (((((((loadTo _ _ _ _).trans (loadTo _ _ _ _)).trans (flyE _ _ _)).trans
      (loadTo _ _ _ _)).trans (loadTo _ _ _ _)).trans (flyE _ _ _)).trans (ifFixed _ _ _ _)).trans (ifFixed _ _ _ _)⟩
  | modp _ _ _ _ => exact ⟨_, rfl, issueFly _ _ _ _ _⟩
  | b _ _ _ => exact ⟨_, rfl, issueCtl _ _ _ _ _⟩
  | bcc _ _ _ _ => exact ⟨_, rfl, issueCtl _ _ _ _ _⟩
  | lbr _ _ _ => exact ⟨_, rfl, issueCtl _ _ _ _ _⟩
  | br _ _ _ => exact ⟨_, rfl, issueCtl _ _ _ _ _⟩
  | rte _ _ => exact ⟨_, rfl, issueCtl _ _ _ _ _⟩
  | rpt _ _ _ => exact ⟨_, rfl, issueCtl _ _ _ _ _⟩
  | rptr _ _ _ => exact ⟨_, rfl, issueCtl _ _ _ _ _⟩
  | tend _ _ => exact ⟨_, rfl, issueCtl _ _ _ _ _⟩
  | movr _ _ _ _ => exact ⟨_, rfl, (ite (fun _ => tick1 _) fun _ => refl _ : s.Steady _).trans (issue _ _ _ _ _ _)⟩
  | moviz _ _ _ _ => exact ⟨_, rfl, issue _ _ _ _ _ _⟩
  | adda _ _ _ _ => exact ⟨_, rfl, issueFly _ _ _ _ _⟩
  | dmaq _ _ _ _ _ _ => exact ⟨_, rfl, ite (fun _ => stall _ _) fun _ => issueS _ _ _ _ _ _ _ fun _ => setEngine _ _ _⟩
  | dmaw _ _ _ => exact ⟨_, rfl, ite (fun _ => stall _ _) fun _ => issueCtl _ _ _ _ _⟩
  | dmaTransferComplete _ => exact ⟨_, rfl, dmaDone _ _⟩
  | dmas _ _ _ => exact ⟨_, rfl, issueFly _ _ _ _ _⟩
  | mbr _ _ _ => exact ⟨_, rfl, issueS _ _ _ _ _ _ _ fun _ => (setFlag _ _ _).trans (setEngine _ _ _)⟩
  | mbw _ _ _ => exact ⟨_, rfl, issueS _ _ _ _ _ _ _ fun _ => (put _ _ _).trans (setFlag _ _ _)⟩
  | ldi _ _ _ _ => exact ⟨_, rfl, issueFly _ _ _ _ _⟩
  | eventEntry e =>
    refine ⟨_, rfl, ite (fun _ => ?_) fun _ => refl _⟩
    generalize (s.engine e).entering = o
    cases o
    · exact refl _
    · exact enterEvent _ _ _
  | engMboxInWrite _ _ => exact ⟨_, rfl, ite (fun _ => mboxIn _ _ _) fun _ => refl _⟩
  | routeStage => exact ⟨_, rfl, routeStage _⟩
  | delayTapWait _ => exact ⟨_, rfl, ite (fun _ => count _ _) fun _ => refl _⟩
  | mixStage => exact ⟨_, rfl, mixStage _⟩
  | dynamicsStage => exact ⟨_, rfl, dynStage _⟩
  | psetDefine _ => exact ⟨_, rfl, untimed _ _ _ _ (fun _ => psetDefine _ _)⟩
  | psetUndefine _ => exact ⟨_, rfl, untimed _ _ _ _ (fun _ => psetUndefine _ _)⟩
  | psetLoad _ => exact ⟨_, rfl, untimed _ _ _ _ (fun _ => psetLoad _ _)⟩
  | psetWrite _ => exact ⟨_, rfl, untimed _ _ _ _ (fun _ => psetWrite _ _)⟩
  | psetCommit _ => exact ⟨_, rfl, timedOr _ _ _ _ _ _ psetRefused (fun _ _ _ => psetCommit _ _ _ _)⟩
  | psetCommitApply => exact ⟨_, rfl, (busFirst _).trans (runDue _ _ _ applyCommit)⟩
  | shadowRefresh _ => exact ⟨_, rfl, refresh _ _⟩
  | deferredChangeApply => exact ⟨_, rfl, applyDeferred _⟩
  | fadeEnd => exact ⟨_, rfl, endFades _⟩
  | meterRecordPost => exact ⟨_, rfl, meterPost _⟩
  | propose _ _ => exact ⟨_, rfl, ifCrc _ _ _ (fun _ => takeProposal _ _)⟩
  | agree _ _ => exact ⟨_, rfl, ifCrc _ _ _ (fun _ => agreeTo _ _)⟩
  | refuse _ _ _ => exact ⟨_, rfl, ifCrc _ _ _ (fun _ => failProposal _ _ _)⟩
  | withdraw _ _ => exact ⟨_, rfl, ifCrc _ _ _ (fun _ => dropReceived _ _)⟩
  | commitAgreeTimeout _ =>
    refine ⟨_, rfl, ?_⟩
    split
    · exact ite (fun _ => refl _) fun _ => failProposal _ _ _
    · exact refl _
  | streamStage _ => exact ⟨_, rfl, untimed _ _ _ _ (fun _ => streamStage _ _)⟩
  | streamCommit _ => exact ⟨_, rfl, timedOr _ _ _ _ _ _ streamRefused (fun _ _ _ => streamCommit _ _ _ _)⟩
  | streamCommitApply => exact ⟨_, rfl, runDue _ _ _ applyCommit⟩
  | transmitLaunch => exact ⟨_, rfl, launch _⟩
  | transmitLateDrop _ => exact ⟨_, rfl, lateDrop _ _⟩
  | mediaFrameReceive _ _ _ _ _ =>
    exact ⟨_, rfl, ite (fun _ => refl _) fun _ => ite (fun _ => ifCrc _ _ _ (fun _ => classify _ _ _ _)) fun _ =>
      ite (fun _ => mediaPath _ _ _ _ _) fun _ => refl _⟩
  | streamRunningTimeout _ => exact ⟨_, rfl, rxTimeout _ _⟩
  | partnerOwnAssert => exact ⟨_, rfl, ifOn _ _ _ partnerAsserts⟩
  | ownGuardExpire => exact ⟨_, rfl, ifOn _ _ _ guardExpires⟩
  | ownAssert => exact ⟨_, rfl, assertOwn _⟩
  | ownSettleEnd => exact ⟨_, rfl, settleEnds _⟩
  | ownRetryExpire => exact ⟨_, rfl, retryEnds _⟩
  | ownRelease => exact ⟨_, rfl, releaseOwn _⟩
  | ownReqClear => exact ⟨_, rfl, ifOn _ _ _ clearOwnReq⟩
  | takeoverPwmEntry _ => exact ⟨_, rfl, pwmEnter _ _⟩
  | pairingAttempt => exact ⟨_, rfl, pairAttempt _⟩
  | hello _ _ => exact ⟨_, rfl, ifCrc _ _ _ (fun _ => ite (fun _ => refl _) fun _ => takeHello _ _)⟩
  | helloTimeout => exact ⟨_, rfl, ite (fun _ => refusePair _ _) fun _ => refl _⟩
  | heartbeat _ => exact ⟨_, rfl, ifCrc _ _ _ (fun _ => takeHeartbeat _ _)⟩
  | heartbeatLoss => exact ⟨_, rfl, ite (fun _ => refl _) fun _ => heartbeatLost _⟩
  | digestSend => exact ⟨_, rfl, sendDigest _⟩
  | digest _ _ _ _ _ => exact ⟨_, rfl, ifCrc _ _ _ (fun _ => ite (fun _ => setTwn _ _) fun _ => refl _)⟩
  | digestCompare => exact ⟨_, rfl, compareDigests _⟩
  | tickBoundaryMarker _ => exact ⟨_, rfl, takeMarker _ _⟩
  | laneset _ _ _ => exact ⟨_, rfl, ifCrc _ _ _ (fun _ => takeLaneset _ _ _)⟩
  | rsStep _ _ _ => exact ⟨_, rfl, ifCrc _ _ _ (fun _ => takeRsStep _ _ _)⟩
  | resyncStepStart _ => exact ⟨_, rfl, stepStart _ _⟩
  | mirror _ _ _ _ => exact ⟨_, rfl, ifCrc _ _ _ (fun _ => ite (fun _ => setTwn _ _) fun _ => refl _)⟩
  | stateTransfer _ _ _ _ _ => exact ⟨_, rfl, ifCrc _ _ _ (fun _ => ite (fun _ => setTwn _ _) fun _ => refl _)⟩
  | resyncFinal => exact ⟨_, rfl, resyncFinal _⟩
  | handoverRequest => exact ⟨_, rfl, ifOn _ _ _ (fun _ => askHandover _ _)⟩
  | hoPropose _ _ _ => exact ⟨_, rfl, ifCrc _ _ _ (fun _ => takeHoPropose _ _)⟩
  | hoAgree _ _ => exact ⟨_, rfl, ifCrc _ _ _ (fun _ => takeHoAgree _ _)⟩
  | hoRefuse _ _ _ => exact ⟨_, rfl, ifCrc _ _ _ (fun _ => takeHoRefuse _ _ _)⟩
  | handoverAgreeTimeout => exact ⟨_, rfl, failRequest _ _⟩
  | handoverPinSwitch _ => exact ⟨_, rfl, switchPins _ _⟩
  | handoverOwnChange => exact ⟨_, rfl, changeOwn _⟩
  | handoverComplete => exact ⟨_, rfl, handoverDone _⟩
  | handoverCancel => exact ⟨_, rfl, handoverCancelled _⟩
  | revertRequest => exact ⟨_, rfl, revert _⟩
  | tdmSlip _ _ _ _ _ => exact ⟨_, rfl, ifCrc _ _ _ (fun _ => takeSlip _ _ _ _ _)⟩
  | pwmPeriodStart _ _ _ _ _ _ => exact ⟨_, rfl, (lbPeriod _ _ _ _ _ _ _).trans (periodStartCh _ _ _)⟩
  | channelTrip _ _ => exact ⟨_, rfl, ite (fun _ => (count _ _).trans (tripCh _ _ _ _)) fun _ => refl _⟩
  | faultNAssert _ => exact ⟨_, rfl, tripCh _ _ _ _⟩
  | channelTimerExpire _ => exact ⟨_, rfl, timerCh _ _⟩
  | channelStart _ => exact ⟨_, rfl, startCh _ _⟩
  | channelStop _ => exact ⟨_, rfl, stopCh _ _⟩
  | checkStart _ => exact ⟨_, rfl, checkStart _ _⟩
  | checkEnd _ => exact ⟨_, rfl, checkEnd _ _⟩
  | channelMute _ => exact ⟨_, rfl, (setClkx _ _).trans (mclkCheck _)⟩
  | modChCtrlClr _ => exact ⟨_, rfl, ifOn _ _ _ (fun _ => clrCh _ _)⟩
  | impedanceWindowEnd _ => exact ⟨_, rfl, zWindowEnd _ _⟩
  | impedanceLearn _ => exact ⟨_, rfl, ifOn _ _ _ (fun _ => learnStart _ _)⟩
  | powerSubblockEnd _ => exact ⟨_, rfl, subEnd _ _⟩
  | timebaseLoss => exact ⟨_, rfl, timebaseLoss _⟩
  | timebaseRelock => exact ⟨_, rfl, (setFlag _ _ _).trans (foldl startCh _ _)⟩
  | modFswWrite _ => exact ⟨_, rfl, ifOn _ _ _ (fun _ => writeFsw _ _)⟩
  | modDitherWrite _ => exact ⟨_, rfl, ifOn _ _ _ (fun _ => writeDither _ _)⟩
  | modApplyLoWrite _ => exact ⟨_, rfl, ifOn _ _ _ (fun _ => armMod _ _)⟩
  | modStagedApply => exact ⟨_, rfl, modStagedApply _⟩
  | modIfirDataRead => exact ⟨_, rfl, ite (fun _ => readIfir _) fun _ => of_same rfl rfl rfl ⟨rfl, rfl, rfl, rfl⟩⟩
  | snsClkCfgWrite _ => exact ⟨_, rfl, ifOn _ _ _ (fun _ => writeSnsClk _ _)⟩
  | oscillatorFault => exact ⟨_, rfl, oscFault _⟩
  | refWindowEnd _ _ _ _ => exact ⟨_, rfl, refWindow _ _ _ _ _⟩
  | refQualify _ => exact ⟨_, rfl, ite (fun _ => refQualified _ _) fun _ => refl _⟩
  | refMissingEdges _ => exact ⟨_, rfl, refBreak _ _ _⟩
  | refRateChange _ => exact ⟨_, rfl, (setRef _ _ _).trans (refBreak _ _ _)⟩
  | ptpSyncMissing _ => exact ⟨_, rfl, refBreak _ _ _⟩
  | phaseDetectorUpdate _ _ => exact ⟨_, rfl, phaseUpdate _ _ _⟩
  | dpllLock => exact ⟨_, rfl, dpllLock _⟩
  | dpllUnlock => exact ⟨_, rfl, dpllUnlock _⟩
  | holdoverUpdate _ => exact ⟨_, rfl, holdoverUpdate _ _⟩
  | tickSlew _ => exact ⟨_, rfl, tickSlew _ _⟩
  | networkTimeStep _ => exact ⟨_, rfl, timeStep _ _⟩
  | realign => exact ⟨_, rfl, realign _⟩
  | holdoverLoad => exact ⟨_, rfl, holdoverLoad _⟩
  | timSet => exact ⟨_, rfl, ifOn _ _ _ timSet⟩
  | timAdjCommit => exact ⟨_, rfl, ifOn _ _ _ adjCommit⟩
  | timerArm _ _ => exact ⟨_, rfl, ifOn _ _ _ (fun _ => armTimer _ _ _)⟩
  | timerFire _ => exact ⟨_, rfl, ite (fun _ => fireTimer _ _ _) fun _ => refl _⟩
  | ppsOutEdge => exact ⟨_, rfl, ppsOut _⟩
  | ppsInEdge => exact ⟨_, rfl, ppsIn _⟩
  | rtcSet => exact ⟨_, rfl, rtcSet _⟩
  | rtcSvcWrite _ _ => exact ⟨_, rfl, (rtcCtrl _ _).trans (svcHours _ _)⟩
  | serviceHour => exact ⟨_, rfl, ite (fun _ => (count _ _).trans (setClk _ _)) fun _ => refl _⟩
  | mgmtFrameLaunch _ _ _ _ => exact ⟨_, rfl, mgmtLaunch _ _ _ _ _⟩
  | serialReferenceLoss => exact ⟨_, rfl, ifNet _ _ serialLost⟩
  | signalDetectAssert _ =>
    exact ⟨_, rfl, ifNet _ _ (fun _ => ite (fun _ => (setFlag _ _ _).trans (setLst _ _ _)) fun _ => setFlag _ _ _)⟩
  | signalDetectDeassert _ => exact ⟨_, rfl, ifNet _ _ (fun _ => signalLost _ _)⟩
  | cdrLock _ => exact ⟨_, rfl, stepEvent1 _ _ _ (fun _ => cdrLocks _ _)⟩
  | cdrTimeout _ => exact ⟨_, rfl, stepTimeout _ _ _⟩
  | blockLock _ _ _ => exact ⟨_, rfl, stepEvent1 _ _ _ (fun _ => hunt _ _ _ _)⟩
  | huntTimeout _ => exact ⟨_, rfl, stepTimeout _ _ _⟩
  | lockLoss _ _ _ => exact ⟨_, rfl, laneEvent _ _ _ _ (fun _ => lockWindow _ _ _ _)⟩
  | polarityCheck _ _ _ => exact ⟨_, rfl, laneEvent _ _ _ _ (fun _ => ite (fun _ => invertLane _ _) fun _ => refl _)⟩
  | trainingBlock _ _ _ => exact ⟨_, rfl, stepEvent1 _ _ _ (fun _ => takeTraining _ _ _ _)⟩
  | trainTimeout _ => exact ⟨_, rfl, stepTimeout _ _ _⟩
  | sdsRestart _ => exact ⟨_, rfl, ifNet _ _ (fun _ => laneEvent _ _ _ _ (fun _ => restartLane _ _))⟩
  | laneTestEntry _ _ _ => exact ⟨_, rfl, ifNet _ _ (fun _ => ite (fun _ => sdsPrbs _ _ _) fun _ => sdsCtrl _ _ _)⟩
  | prbsInject _ => exact ⟨_, rfl, ifNet _ _ (fun _ => prbsInject _ _)⟩
  | prbsClear _ => exact ⟨_, rfl, ifNet _ _ (fun _ => prbsClear _ _)⟩
  | prbsLockLoss _ _ _ _ =>
    exact ⟨_, rfl, ite (fun _ => ite (fun _ => (((prbsCount _ _ _ _).trans (setFlag _ _ _)).trans (setFlag _ _ _)).trans
      (count _ _)) fun _ => prbsCount _ _ _ _) fun _ => refl _⟩
  | sdsPrbsBitsLoRead _ _ _ =>
    exact ⟨_, rfl, ite (fun _ => ((prbsCount _ _ _ _).trans (prbsCapture _ _)).trans
      (of_same rfl rfl rfl ⟨rfl, rfl, rfl, rfl⟩)) fun _ => of_same rfl rfl rfl ⟨rfl, rfl, rfl, rfl⟩⟩
  | linkChange _ _ _ _ =>
    exact ⟨_, rfl, ifNet _ _ (fun _ => ite (fun _ => ite (fun _ => linkUpNow _ _ _) fun _ => refl _) fun _ => linkFails _ _ _)⟩
  | macFrameReceive _ _ _ _ _ _ _ => exact ⟨_, rfl, ite (fun _ => (farLoop _ _ _).trans (rxFrame _ _ _ _ _ _ _ _)) fun _ => refl _⟩
  | pauseFrame _ _ => exact ⟨_, rfl, ite (fun _ => takePause _ _ _) fun _ => refl _⟩
  | pauseEnd _ => exact ⟨_, rfl, ite (fun _ => pauseEnds _ _) fun _ => refl _⟩
  | lpiEntry _ =>
    refine ⟨_, rfl, ?_⟩
    split
    · exact ite (fun _ => lpiReceived _ _ _) fun _ => refl _
    · exact enterLpi _
  | lpiExit _ =>
    refine ⟨_, rfl, ?_⟩
    split
    · exact ite (fun _ => lpiReceived _ _ _) fun _ => refl _
    · exact leaveLpi _
  | anRestart => exact ⟨_, rfl, ifNet _ _ anRestart⟩
  | macCfgWrite _ _ => exact ⟨_, rfl, ifNet _ _ (fun _ => macCfg _ _ _)⟩
  | macCtrlWrite _ _ => exact ⟨_, rfl, ifNet _ _ (fun _ => macCtrl _ _ _)⟩
  | mgmtFrameComplete _ _ => exact ⟨_, rfl, mgmtComplete _ _ _⟩
  | nop _ => exact ⟨_, rfl, timed _ _ _ _ _ (fun _ _ _ => scheduleOr _ _ _ _ _)⟩
  | copyIn _ => exact ⟨_, rfl, ite (fun _ => holdCopy _ _) fun _ => untimed _ _ _ _ (fun _ => copyIn _ _)⟩
  | copyOut _ => exact ⟨_, rfl, ite (fun _ => holdCopy _ _) fun _ => untimed _ _ _ _ (fun _ => copyOut _ _)⟩
  | regWrite _ =>
    refine ⟨_, rfl, timed _ _ _ _ _ fun _ _ _ => ?_⟩
    split_ifs
    · exact scheduleOr _ _ _ _ _
    · exact refl _
  | fltAck _ => exact ⟨_, rfl, untimed _ _ _ _ (fun _ => ackMask _ _)⟩
  | twiXfer _ _ => exact ⟨_, rfl, ite (fun _ => twiFirm _ _) fun _ => twiXfer _ _⟩
  | badOpcode _ => exact ⟨_, rfl, ite (fun _ => refl _) fun _ => (takeCmd _ _).trans (endCmd _ _ _ _)⟩
  | timedCommandEffect => exact ⟨_, rfl, runDue _ _ _ applyTimed⟩
  | completionWrite => exact ⟨_, rfl, writeCpls _⟩
  | hifRingCtrlWrite _ _ => exact ⟨_, rfl, ifHost _ _ (fun _ => ringCtrl _ _ _)⟩
  | hifRingBaseSizeWrite _ _ _ => exact ⟨_, rfl, ifHost _ _ (fun _ => ringCfg _ _ _ _)⟩
  | hifCtrlWrite _ => exact ⟨_, rfl, ifHost _ _ (fun _ => put _ _ _)⟩
  | pcieReset =>
    exact ⟨_, rfl, ifHost _ _ (fun _ => (((hifReset _).trans (drainMaster _ _)).trans (put _ _ _)).trans (setFlag _ _ _))⟩
  | hostDmaFail _ _ => exact ⟨_, rfl, ite (fun _ => dmaFailKind _ _ _) fun _ => refl _⟩
  | bar0BadAccess _ =>
    exact ⟨_, rfl, ifHost _ _ (fun _ => ite (fun _ => setFlag _ _ _) fun _ => (setFlag _ _ _).trans
      (of_same rfl rfl rfl ⟨rfl, rfl, rfl, rfl⟩))⟩
  | followFrame _ _ _ _ _ => exact ⟨_, rfl, followEdge _ _ _ _ _ _⟩
  | tdmSlipSend _ => exact ⟨_, rfl, ite (fun _ => slipSend _ _) fun _ => refl _⟩
  | tdmLoss _ => exact ⟨_, rfl, clockFails _ _⟩
  | tdmApplyLoWrite _ => exact ⟨_, rfl, ifOn _ _ _ (fun _ => armTdm _ _)⟩
  | tdmStagedApply => exact ⟨_, rfl, tdmStagedApply _⟩
  | decodeError _ _ _ => exact ⟨_, rfl, ite (fun _ => request _ _ _ _) fun _ => decodeErr _ _ _ _⟩
  | sramUncorrectable _ _ _ =>
    refine ⟨_, rfl, ?_⟩
    split
    · exact sramBad _ _ _ _ _
    · exact refl _
  | masterDrain _ => exact ⟨_, rfl, drainMaster _ _⟩
  | drainComplete _ _ _ => exact ⟨_, rfl, ite (fun _ => (drainEnds _ _ _ _).trans (offEnds _ _)) fun _ => refl _⟩
  | marchRequest _ => exact ⟨_, rfl, ite (fun _ => marchCtrl _ _) fun _ => refl _⟩
  | marchComplete _ => exact ⟨_, rfl, marchDone _ _⟩
  | refreshIntervalExpire _ _ _ =>
    exact ⟨_, rfl, beforeHot _ _ (fun _ => ite (fun _ => (seePanic _ _ _).trans (refExpire _ _)) fun _ => refl _)⟩
  | refIssue _ _ => exact ⟨_, rfl, beforeHot _ _ (fun _ => ite (fun _ => (seePanic _ _ _).trans (refIssue _ _)) fun _ => refl _)⟩
  | forcedRefreshBatch _ => exact ⟨_, rfl, ite (fun _ => forceRefs _ _) fun _ => refl _⟩
  | ddrTempWrite _ => exact ⟨_, rfl, ifDdr _ _ (fun _ => ddrTemp _ _)⟩
  | ddrTempStale => exact ⟨_, rfl, ite (fun _ => ((setHot _ _).trans (setFlag _ _ _)).trans (condBegin _ _ _)) fun _ => refl _⟩
  | dramUncorrectable _ _ _ => exact ⟨_, rfl, ifDdr _ _ (fun _ => dramBad _ _ _ _)⟩
  | dramCorrectionRate _ => exact ⟨_, rfl, ifDdr _ _ (fun _ => dramFix _ _)⟩
  | ddrCfgWrite _ => exact ⟨_, rfl, ifDdr _ _ (fun _ => ddrCfg _ _)⟩
  | trainingStep _ => exact ⟨_, rfl, ifDdr _ _ (fun _ => trnCtrl _ _)⟩
  | trainingStepDone _ _ _ =>
    exact ⟨_, rfl, ite (fun _ => (((((put _ _ _).trans (put _ _ _)).trans (put _ _ _)).trans (put _ _ _)).trans
      (setFlag _ _ _)).trans (trnEnds _ _)) fun _ => refl _⟩
  | dramInit => exact ⟨_, rfl, ifDdr _ _ startClear⟩
  | dramInitDone => exact ⟨_, rfl, ite (fun _ => ((zeroDram _).trans (setDdr _ _)).trans (setFlag _ _ _)) fun _ => refl _⟩
  | selfRefreshRequest => exact ⟨_, rfl, ifDdr _ _ selfRefresh⟩
  | selfRefreshExit => exact ⟨_, rfl, ifDdr _ _ leaveSelfRefresh⟩
  | localRepair _ => exact ⟨_, rfl, ifCtrl _ _ (fun _ => repairSource _ _)⟩
  | conditionEnd _ => exact ⟨_, rfl, ite (fun _ => (condGone _ _).trans (condEnd _ _)) fun _ => refl _⟩
  | fltAckLoWrite _ => exact ⟨_, rfl, ifCtrl _ _ (fun _ => ackLo _ _)⟩
  | faultInject _ => exact ⟨_, rfl, ifCtrl _ _ (fun _ => inject _ _)⟩
  | fltLogDataRead => exact ⟨_, rfl, ite (fun _ => readLog _) fun _ => of_same rfl rfl rfl ⟨rfl, rfl, rfl, rfl⟩⟩
  | mwUnlock _ _ _ => exact ⟨_, rfl, ifCtrl _ _ (fun _ => ite (fun _ => setFlag _ _ _) fun _ => refl _)⟩
  | debugAttach => exact ⟨_, rfl, ifCtrl _ _ (fun _ => (count _ _).trans (raise _ _ _))⟩
  | twiTargetWrite _ _ => exact ⟨_, rfl, ifCtrl _ _ (fun _ => tgtStart _ _ _)⟩
  | twiTargetReadFetch _ _ _ =>
    exact ⟨_, rfl, ifCtrl _ _ (fun _ => ite (fun _ => tgtStart _ _ _) fun _ => ite (fun _ => tgtFlush _) fun _ =>
      (tgtFlush _).trans (tgtFetch _ _))⟩
  | twiTargetBusyNack _ =>
    exact ⟨_, rfl, ifCtrl _ _ (fun _ => ite (fun _ => (((tgtFlush _).trans (count _ _)).trans (count _ _)).trans
      (emit _ _)) fun _ => tgtFlush _)⟩
  | twiTargetStretchTimeout =>
    exact ⟨_, rfl, ifCtrl _ _ (fun _ => ite (fun _ => ((((tgtFlush _).trans (count _ _)).trans (setFlag _ _ _)).trans
      (setTgt _ _)).trans (emit _ _)) fun _ => tgtFlush _)⟩
  | twiTargetProtocolError _ _ _ =>
    exact ⟨_, rfl, ifCtrl _ _ (fun s => ite (fun _ => (ite (fun _ => refl _) fun _ => tgtStart _ _ _ : s.Steady _).trans
      (setFlag _ _ _)) fun _ => refl _)⟩
  | twiTransferComplete _ _ _ _ => exact ⟨_, rfl, twiDone _ _ _ _ _⟩
  | twiStretchTimeout _ _ _ => exact ⟨_, rfl, ite (fun _ => (setFlag _ _ _).trans (twiAbort _ _ _ _)) fun _ => refl _⟩
  | twiArbitrationLost _ => exact ⟨_, rfl, ite (fun _ => (setFlag _ _ _).trans (twiAbort _ _ _ _)) fun _ => refl _⟩
  | twiBusClear _ _ _ =>
    exact ⟨_, rfl, ite (fun _ => ite (fun _ => twiClear _ _ _) fun _ => ((setTwiUnread _ _ _).trans (setTwiSt _ _ _)).trans
      (twiServe _ _)) fun _ => refl _⟩
  | twiBusClearRetry _ _ => exact ⟨_, rfl, ite (fun _ => twiClear _ _ _) fun _ => refl _⟩
  | twiCfgWrite _ _ => exact ⟨_, rfl, ite (fun _ => twiCfg _ _ _) fun _ => refl _⟩
  | vinOutOfRange _ => exact ⟨_, rfl, ite (fun _ => ((setPwr _ _).trans (setFlag _ _ _)).trans (condBegin _ _ _)) fun _ => refl _⟩
  | vinLoss _ _ => exact ⟨_, rfl, ite (fun _ => vinLost _ _ _) fun _ => refl _⟩
  | powerOnReset _ => exact ⟨_, rfl, powerOn _ _⟩
  | temperatureSample _ => exact ⟨_, rfl, ite (fun _ => tempSample _ _) fun _ => refl _⟩
  | vinSample _ => exact ⟨_, rfl, ite (fun _ => ((setPwr _ _).trans (setFld _ _ _)).trans (setFlag _ _ _)) fun _ => refl _⟩
  | pwrDomReqWrite _ _ => exact ⟨_, rfl, ite (fun _ => pwrReq _ _ _) fun _ => refl _⟩
  | domainRelease _ _ => exact ⟨_, rfl, ite (fun _ => (release _ _ _).trans (tgtFlush _)) fun _ => refl _⟩
  | regulatorFault _ => exact ⟨_, rfl, ite (fun _ => (regFault _ _).trans (tgtFlush _)) fun _ => refl _⟩
  | resetNAssert => exact ⟨_, rfl, (setPwr _ _).trans (askCold _ _)⟩
  | warmResetWrite _ => exact ⟨_, rfl, ite (fun _ => sysCtrl _ _) fun _ => refl _⟩
  | warmReset =>
    exact ⟨_, rfl, ite (fun _ => refl _) fun _ => ite (fun _ => coldReset _ _) fun _ => ite (fun _ => refl _) fun _ =>
      ite (fun _ => warmReset _ _) fun _ => warmStart _⟩
  | coldReset => exact ⟨_, rfl, ite (fun _ => coldReset _ _) fun _ => refl _⟩
  | resetConditionScan _ => exact ⟨_, rfl, ite (fun _ => scan _ _) fun _ => refl _⟩
  | bootAttempt _ => exact ⟨_, rfl, ifCtrl _ _ (fun _ => ite (fun _ => bootAttempt _ _) fun _ => refl _)⟩
  | bootWaitExpire => exact ⟨_, rfl, ifCtrl _ _ (fun _ => ite (fun _ => bootWaitEnds _) fun _ => refl _)⟩
  | bootOk => exact ⟨_, rfl, ifCtrl _ _ bootOk⟩
  | bootFailReport => exact ⟨_, rfl, ifCtrl _ _ bootFails8⟩
  | bootWatchdogExpire => exact ⟨_, rfl, ifCtrl _ _ (fun _ => ite (fun _ => bootFail _ _ _) fun _ => refl _)⟩
  | reload => exact ⟨_, rfl, ifCtrl _ _ startReload⟩
  | reloadTimeout => exact ⟨_, rfl, ite (fun _ => of_same rfl rfl rfl ⟨rfl, rfl, rfl, rfl⟩) fun _ => refl _⟩
  | coreWatchdogExpire _ => exact ⟨_, rfl, ifCtrl _ _ (fun _ => ite (fun _ => (wdtKick _ _).trans (raise _ _ _)) fun _ => refl _)⟩
  | sysWdtKick _ => exact ⟨_, rfl, ifCtrl _ _ (fun _ => wdtKick _ _)⟩
  | ptpPortLeavesSlave _ => exact ⟨_, rfl, refBreak _ _ _⟩
  | senseBitstreamOverload _ _ _ => exact ⟨_, rfl, ite (fun _ => overload _ _) fun _ => refl _⟩
  | prbsCheckerLock _ _ => exact ⟨_, rfl, ite (fun _ => setFlag _ _ _) fun _ => refl _⟩
  | busMasterEnableChange _ => exact ⟨_, rfl, ifHost _ _ (fun _ => busMaster _ _)⟩
  | vinReturn _ => exact ⟨_, rfl, vinBack _ _⟩
  | resetNRelease => exact ⟨_, rfl, (setPwr _ _).trans (unhold _)⟩
  | controllerProtocolError _ _ =>
    exact ⟨_, rfl, ite (fun _ => ((setFlag _ _ _).trans (count _ _)).trans ((ite (fun _ => emit _ _) fun _ =>
      refl _ : State.Steady _ _).trans (twiAbort _ _ _ _))) fun _ => refl _⟩

/-- A command's answer is one, so what holds of some answer holds of it. -/
theorem steady_of_exec {c : Instr} {s t : State} (h : exec c s = .next t) : s.Steady t := by
  obtain ⟨u, hu, hk⟩ := exec_answers c s
  cases hu.symm.trans h
  exact hk

/-- Settles O1: a step matches on the queue. -/
theorem stepRunsTheFrontCommand : Obligations.StepRunsTheFrontCommand := by
  intro c rest s h
  simp only [step, h]

/-- Settles O3: every command answers. -/
theorem everyCommandAnswersANextState : Obligations.EveryCommandAnswersANextState := fun c s =>
  let ⟨t, ht, _⟩ := exec_answers c s
  ⟨t, ht⟩

/-- Settles O4: what every operation keeps, every command keeps. -/
theorem commandsLeaveQueueAndStraps : Obligations.CommandsLeaveQueueAndStraps := fun _ _ _ h =>
  ⟨(steady_of_exec h).pending, (steady_of_exec h).straps⟩

/-- Settles O5: a step is the passing of a cycle, or a command on the state whose queue is shorter by one; neither the cycle nor the
command nor the queue touches the canonical form. -/
theorem canonicalFormIsKept : Obligations.CanonicalFormIsKept := by
  intro s t hs h
  cases hq : s.pending with
  | nil =>
    simp only [step, hq, Host.Outcome.next.injEq] at h
    exact h ▸ (State.Steady.rest s).canonical hs
  | cons c r =>
    rw [stepRunsTheFrontCommand c r s hq] at h
    exact (steady_of_exec h).canonical ⟨hs.mem, hs.regs⟩

end Sys2Proof.Machine
end

section
/-!
SUPPORT. A table in which entries of a list are set one after another.
-/

namespace Sys2Proof.Tbl

/-- Each entry of the list reads as set, any other as before. -/
theorem get_foldl_set {α : Type} [DecidableEq α] (d f : Nat → α) (l : List Nat) (t : List (Nat × α)) (o : Nat) :
    get d (l.foldl (fun t c => set d t c (f c)) t) o = if o ∈ l then f o else get d t o := by
  induction l generalizing t with
  | nil => simp
  | cons c l ih =>
    rw [List.foldl_cons, ih, get_set]
    by_cases ho : o ∈ l
    · simp [ho]
    · rcases eq_or_ne c o with rfl | hc
      · simp [ho]
      · simp [ho, hc, hc.symm]

end Sys2Proof.Tbl
end

section
/-!
PROOFS. The run bit of the tick, register writes and register reads by field types (R9 to R11, R20, R21, R36).
-/

namespace Sys2Proof.Machine

/-! ## The run bit (R20, R21) -/

theorem State.ifCtrl_of_on {s : State} (h : s.domOn 1 = true) (f : State → State) : s.ifCtrl f = f s := if_pos h

/-- A pair reads as before where both its words do. -/
theorem State.pair_of_reg {s t : State} {lo hi : Nat} (hl : t.reg lo = s.reg lo) (hh : t.reg hi = s.reg hi) :
    t.pair lo hi = s.pair lo hi := by
  simp only [State.pair, hl, hh]

theorem State.runSet_of_stopped {s : State} (h : s.run = .stopped) :
    s.runSet = { s.setFlag F.TCK_CTRL_run true with run := .armed (s.pair R.TCK_START_LO R.TCK_START_HI) false } := by
  have hp : (s.setFlag F.TCK_CTRL_run true).pair R.TCK_START_LO R.TCK_START_HI = s.pair R.TCK_START_LO R.TCK_START_HI :=
    State.pair_of_reg (s.reg_setFld_of_ne _ (by decide)) (s.reg_setFld_of_ne _ (by decide))
  simp only [State.runSet, State.setFlag_run, h, hp]

/-- Settles O8: the four writes are one equation each. -/
theorem tickRunIsSetAndCleared : Obligations.TickRunIsSetAndCleared := by
  unfold Obligations.TickRunIsSetAndCleared
  intro w n p s hon
  have hx (f : State → State) : Host.Outcome.next (s.ifCtrl f) = (.next (f s) : Host.Outcome State Fault Refusal) := by
    rw [State.ifCtrl_of_on hon]
  refine ⟨fun h => (hx _).trans ?_, fun h => (hx _).trans ?_, fun h => (hx _).trans ?_, ?_⟩
  · rw [State.runSet_of_stopped h]
  · simp only [State.runClear, State.setFlag_run, h]
  · simp only [State.runClear, State.setFlag_run, h]
  · refine ⟨s.putLo R.TCK_START_LO R.TCK_START_HI w, hx _, ?_, State.reg_put_self _ _ _, fun o ho => ?_, rfl, rfl, rfl⟩
    · exact (State.reg_put_of_ne _ _ (by decide)).trans (s.reg_put_self _ w)
    · simp only [List.mem_cons, List.not_mem_nil, or_false, not_or] at ho
      exact (State.reg_put_of_ne _ _ (Ne.symm ho.2)).trans (s.reg_put_of_ne w (Ne.symm ho.1))

/-! ## Writes by field types (R9 to R11) -/

/-- The stream block's words have no write rule of their own. -/
theorem State.writeIn_stream (s : State) (src : ReqSource) (w : Word) {o : Nat} (hl : 0x400000 ≤ o) (hh : o < 0x480000) :
    s.writeIn src o w = s.writeGen o w := by
  simp only [State.writeIn, hh, if_true, show ¬ o < 0x30000 by omega, show ¬ o < 0x100000 by omega, show ¬ o < 0x400000 by omega,
    if_false]

theorem State.writeGen_of_find {s : State} {o b i : Nat} {r : RegDef} (w : Word) (h : findReg o = some (r, b, i)) :
    s.writeGen o w = s.put o (((s.reg o &&& ~~~r.rw) ||| (w &&& r.rw)) &&& ~~~(w &&& r.w1c &&& ~~~s.setNow o)) := by
  simp only [State.writeGen, h]

/-- Settles O14: an offset that does not answer is ignored, one of the stream block is written by its field types. -/
theorem registerWriteByFieldTypes : Obligations.RegisterWriteByFieldTypes := by
  unfold Obligations.RegisterWriteByFieldTypes
  intro off w s
  refine ⟨fun h => congrArg Host.Outcome.next (if_neg (by simp [h])), fun r b i h hf hl hh => congrArg Host.Outcome.next ?_⟩
  calc s.writeReg .bar0 off.toNat w = s.writeIn .bar0 off.toNat w := if_pos h
    _ = s.writeGen off.toNat w := s.writeIn_stream _ w hl hh
    _ = _ := State.writeGen_of_find w hf

/-! ## Reads (R9, R36) -/

theorem State.holdWord_capture (s : State) {o c : Nat} (h : c ∈ companions o) : (s.capture o).holdWord c = s.liveWord c :=
  (Tbl.get_foldl_set holdReset s.liveWord (companions o) s.hold c).trans (if_pos h)

/-- What a read by field types returns (R9, R36). -/
def State.wordRead (s : State) (o : Nat) (wo : Word) : Word :=
  (if isCompanion o then s.holdWord o else s.liveWord o) &&& ~~~wo

/-- A read of a listed register that shows no pin, by its field types: captured, its rc bits clear, its word returned. -/
theorem State.readGen_of_find {s : State} {o b i : Nat} {r : RegDef} (hf : findReg o = some (r, b, i)) (hp : pinField o = none) :
    s.readGen o = (if r.rc = 0 then s.capture o else (s.capture o).put o (s.reg o &&& ~~~r.rc)).returns (s.wordRead o r.wo) := by
  simp only [State.readGen, hp, hf, Option.filter_none]
  rfl

/-- The same where the register has a read rule of no block. -/
theorem State.readReg_of_find {s : State} {o b i : Nat} {r : RegDef} (ha : s.answers o = true) (hf : findReg o = some (r, b, i))
    (hlog : o ≠ R.FLT_LOG_DATA) (hifir : o ≠ R.MOD_IFIR_DATA) (hend : o < 0xD00000)
    (hprbs : arr (R.SDS_PRBS_BITS_LO 0) 0x1000 8 o = none) (hp : pinField o = none) :
    s.readReg o = (if r.rc = 0 then s.capture o else (s.capture o).put o (s.reg o &&& ~~~r.rc)).returns (s.wordRead o r.wo) := by
  rw [State.readReg, if_pos ha, State.readIn, if_neg hlog, if_neg hifir, if_neg (by omega), hprbs]
  exact State.readGen_of_find hf hp

theorem Word.and_not_zero (w : Word) : w &&& ~~~(0 : Word) = w := BitVec.and_allOnes

/-- What such a read leaves behind. -/
theorem State.readGen_effects (s : State) (o : Nat) (rc v : Word) :
    let t := (if rc = 0 then s.capture o else (s.capture o).put o (s.reg o &&& ~~~rc)).returns v
    t.lastRead = v ∧ (∀ c, c ∈ companions o → t.holdWord c = s.liveWord c) ∧ t.reg o = s.reg o &&& ~~~rc ∧
      s.KeepsRegs t [o] ∧ t.mem = s.mem ∧ t.clk = s.clk := by
  intro t
  have hcap := fun c hc => s.holdWord_capture (o := o) (c := c) hc
  by_cases h : rc = 0
  · have ht : t = (s.capture o).returns v := by simp only [t, if_pos h]
    rw [ht]
    exact ⟨rfl, hcap, by rw [h, Word.and_not_zero]; rfl, fun _ _ => rfl, rfl, rfl⟩
  · have ht : t = ((s.capture o).put o (s.reg o &&& ~~~rc)).returns v := by simp only [t, if_neg h]
    rw [ht]
    refine ⟨rfl, hcap, State.reg_put_self _ _ _, fun a ha => ?_, rfl, rfl⟩
    exact (s.capture o).reg_put_of_ne _ fun e => ha (by simp [e])

/-- TCK_NUM_LO is a listed register, all of whose bits are read-only. -/
theorem findReg_TCK_NUM_LO : ∃ r b i, findReg R.TCK_NUM_LO = some (r, b, i) ∧ r.rc = 0 ∧ r.wo = 0 := ⟨_, _, _, rfl, rfl, rfl⟩

theorem State.answers_TCK_NUM_LO {s : State} (hon : s.domOn 1 = true) (hb : s.domBusy 1 = false) : s.answers R.TCK_NUM_LO = true := by
  have hd : domainOf R.TCK_NUM_LO = some 1 := by decide
  simp [State.answers, hd, hon, hb]

/-- Settles O13: a read by field types is one equation; its effects are read off it. -/
theorem registerReadsCaptureAndClear : Obligations.RegisterReadsCaptureAndClear := by
  unfold Obligations.RegisterReadsCaptureAndClear
  refine ⟨fun off r b i s ha hf hlog hifir hend hprbs hp => ?_, fun s hon hb => ?_⟩
  · have h := State.readReg_of_find ha hf hlog hifir hend hprbs hp
    exact ⟨_, congrArg Host.Outcome.next h, congrArg Host.Outcome.next h, s.readGen_effects off.toNat r.rc _⟩
  · obtain ⟨r, b, i, hf, hrc, hwo⟩ := findReg_TCK_NUM_LO
    have h := State.readReg_of_find (State.answers_TCK_NUM_LO hon hb) hf (by decide) (by decide) (by decide) (by decide) (by decide)
    obtain ⟨hv, hcap, hself, hkeep, hmem, hclk⟩ := s.readGen_effects R.TCK_NUM_LO r.rc (s.wordRead R.TCK_NUM_LO r.wo)
    refine ⟨_, congrArg Host.Outcome.next h, hv.trans ?_, hcap R.TCK_NUM_HI (by decide), fun o _ => ?_, hmem, hclk⟩
    · have hc : isCompanion R.TCK_NUM_LO = false := by decide
      simp only [State.wordRead, hc, hwo, Word.and_not_zero]
      rfl
    · by_cases ho : o = R.TCK_NUM_LO
      · rw [ho, hself, hrc, Word.and_not_zero]
      · exact hkeep o (by simpa using ho)

end Sys2Proof.Machine
end

section
/-!
PROOFS. Dealing, backlogs, broadcasts and steals of tasks (R55 to R61).
-/

namespace Sys2Proof.Machine

section
variable (s : State) (e x t : Nat) (q : List Nat) (y : TStat)

@[simp] theorem State.deque_setStat : (s.setStat t y).deque = s.deque := rfl
@[simp] theorem State.backlog_setStat : (s.setStat t y).backlog = s.backlog := rfl
@[simp] theorem State.deque_setBacklog : (s.setBacklog e q).deque = s.deque := rfl
@[simp] theorem State.stat_setDeque : (s.setDeque e q).stat = s.stat := rfl

theorem State.deque_setDeque : (s.setDeque e q).deque x = if e = x then q else s.deque x := Tbl.get_set _ _ _ _ _

@[simp] theorem State.deque_setDeque_self : (s.setDeque e q).deque e = q := Tbl.get_set_self _ _ _ _

@[simp] theorem State.backlog_setBacklog_self : (s.setBacklog e q).backlog e = q := Tbl.get_set_self _ _ _ _

@[simp] theorem State.stat_setStat_self : (s.setStat t y).stat t = y := Tbl.get_set_self (fun _ => TStat.waiting) _ _ _

end

/-! ## The release of a phase (R55, R56) -/

/-- A task whose preferred engine is active goes to it, without a turn (R56). -/
theorem State.dealTo_of_active {s : State} {a : Nat} (turn : Nat) (ha : a < 96) (hact : s.active a = true) :
    s.dealTo a turn = some (a, false) := by
  have hget : (clusterEngines (a / 8))[(a % 8 + 0) % 8]? = some a := by
    have hlt : (a % 8 + 0) % 8 < 8 := Nat.mod_lt _ (by omega)
    have hdiv : a / 8 * 8 + (a % 8 + 0) % 8 = a := by omega
    simp only [clusterEngines, List.getElem?_map, List.getElem?_range hlt, Option.map_some, hdiv]
  have hfirst : s.firstActive (clusterEngines (a / 8)) (a % 8) = some a := by
    have hlen : (clusterEngines (a / 8)).length = 7 + 1 := by simp [clusterEngines]
    rw [State.firstActive, hlen, List.range_succ_eq_map, List.findSome?_cons, hget]
    simp [hact]
  simp only [State.dealTo, if_pos ha, hfirst]

/-- A phase of one task whose preferred engine is active and has room: the task goes to that engine's tail (R44, R56). -/
theorem State.releasePhase_single {s : State} {p : Nat} {ph : Phase} {d : Task} (hp : s.phases[p]? = some ph)
    (hc : ph.count = 1) (ht : s.task? ph.first = some d) (ha : d.affinity < 96) (hact : s.active d.affinity = true)
    (hroom : (s.deque d.affinity).length < 32) (hback : s.backlog d.affinity = []) :
    s.releasePhase p = ((s.setFab fun f => { f with phase := some p, stages := ph.stages % 8 }).setStat ph.first .queued).setDeque
      d.affinity (s.deque d.affinity ++ [ph.first]) := by
  have hdeal : (s.setFab fun f => { f with phase := some p, stages := ph.stages % 8 }).dealTo d.affinity 0 =
      some (d.affinity, false) := State.dealTo_of_active 0 ha hact
  have htask : (s.setFab fun f => { f with phase := some p, stages := ph.stages % 8 }).task? ph.first = some d := ht
  simp only [State.releasePhase, hp, hc, List.range_one, List.map_cons, List.map_nil, Nat.add_zero, State.deal, htask,
    Option.elim_some, hdeal]
  refine if_pos ?_
  rw [Bool.and_eq_true, decide_eq_true_eq, List.isEmpty_iff]
  exact ⟨hroom, hback⟩

/-- Settles O16: the release is one equation. -/
theorem phaseReleaseDealsByAffinity : Obligations.PhaseReleaseDealsByAffinity := by
  unfold Obligations.PhaseReleaseDealsByAffinity
  intro s p ph d
  refine ⟨fun hr hp hc ht ha hact hroom hback => ⟨s.releasePhase p, ?_, ?_⟩, fun hr => ?_⟩
  · exact congrArg Host.Outcome.next (by rw [hr])
  · rw [State.releasePhase_single hp hc ht ha hact hroom hback]
    refine ⟨State.deque_setDeque_self .., ?_, rfl, rfl, fun e he => ?_, rfl, rfl, rfl, rfl⟩
    · rw [State.stat_setDeque, State.stat_setStat_self]
    · exact (State.deque_setDeque ..).trans (if_neg (Ne.symm he))
  · exact congrArg Host.Outcome.next (by rw [hr])

/-! ## The broadcast (R59, R72, R109) -/

/-- Waking idle engines asks for steals; nothing else. -/
theorem State.foldl_stealRequest_changes (c : State → Nat → Bool) (l : List Nat) (s : State) :
    ∃ r, l.foldl (fun s e => if c s e then s.stealRequest e else s) s = s.setFab fun f => { f with stealReq := r } := by
  induction l generalizing s with
  | nil => exact ⟨s.fab.stealReq, rfl⟩
  | cons e l ih =>
    rw [List.foldl_cons]
    split
    · obtain ⟨r, h⟩ := ih (s.stealRequest e)
      exact ⟨r, h⟩
    · exact ih s

/-- What a broadcast changes: the published depths and occupancies, and the engines to be woken (R59, R61). -/
theorem State.broadcast_changes (s : State) :
    ∃ dep occ r, s.broadcast = (s.setFab fun f => { f with depth := dep, occ := occ, stealReq := r }) ∧
      ∀ e < 96, Tbl.get (fun _ => 0) dep e = if s.active e then (s.deque e).length else 0 := by
  unfold State.broadcast
  extract_lets dep occ s1
  have hdep : ∀ e < 96, Tbl.get (fun _ => 0) dep e = if s.active e then (s.deque e).length else 0 := fun e he =>
    (Tbl.get_foldl_set (fun _ => 0) (fun e => if s.active e then (s.deque e).length else 0) _ _ e).trans
      (if_pos (List.mem_range.2 he))
  clear_value dep occ
  obtain ⟨r, h⟩ := s1.foldl_stealRequest_changes
    (fun s e => s.active e && s.isIdle e && (s.deque e).isEmpty && (s.findVictim e).isSome) (List.range 96)
  exact ⟨dep, occ, r, h, hdep⟩

/-- A corrected error is recorded in two registers and in its engine (R72, R109). -/
theorem State.eccFixed_changes (s : State) (e m a : Nat) :
    ∃ g, State.OnlyRegs [R.ENG_ECC_CNT e, R.ENG_ECC_INFO e] { s with eng := g } (s.eccFixed e m a) := by
  unfold State.eccFixed
  extract_lets s1 s2 g
  have h1 : State.OnlyRegs [R.ENG_ECC_CNT e, R.ENG_ECC_INFO e] s s1 := .put (by simp) _ _
  have h2 : State.OnlyRegs [R.ENG_ECC_CNT e, R.ENG_ECC_INFO e] s s2 := h1.trans (.count (by simp) _)
  have heng {t : State} (h : State.OnlyRegs [R.ENG_ECC_CNT e, R.ENG_ECC_INFO e] s t) (g : List (Nat × Engine)) :
      State.OnlyRegs [R.ENG_ECC_CNT e, R.ENG_ECC_INFO e] { s with eng := g } { t with eng := g } := by
    obtain ⟨r, z, rfl⟩ := h.frame
    exact ⟨⟨_, _, rfl⟩, h.keeps⟩
  split
  · exact ⟨s.eng, h1⟩
  · split
    · exact ⟨_, heng h2 _⟩
    · exact ⟨s.eng, h2⟩

theorem State.eccFixed_keeps (s : State) (e m a : Nat) : s.KeepsRegs (s.eccFixed e m a) [R.ENG_ECC_CNT e, R.ENG_ECC_INFO e] := by
  obtain ⟨g, h⟩ := s.eccFixed_changes e m a
  exact h.keeps

/-- The record names the word; the count goes up unless the word is of the register file. -/
theorem State.eccFixed_reg {s : State} {e m a : Nat} (ha : a < 2 ^ 16) :
    (s.eccFixed e m a).reg (R.ENG_ECC_INFO e) = word (a + m * 2 ^ 16) ∧
      (s.eccFixed e m a).reg (R.ENG_ECC_CNT e) =
        if m = 3 then s.reg (R.ENG_ECC_CNT e) else counted (s.reg (R.ENG_ECC_CNT e)) := by
  have hne : R.ENG_ECC_INFO e ≠ R.ENG_ECC_CNT e := by unfold R.ENG_ECC_INFO R.ENG_ECC_CNT; omega
  unfold State.eccFixed
  extract_lets s1 s2 g
  have hinfo : s1.reg (R.ENG_ECC_INFO e) = word (a + m * 2 ^ 16) := by rw [← Nat.mod_eq_of_lt ha]; exact State.reg_put_self _ _ _
  have hcnt : s1.reg (R.ENG_ECC_CNT e) = s.reg (R.ENG_ECC_CNT e) := State.reg_put_of_ne _ _ hne
  have hinfo2 : s2.reg (R.ENG_ECC_INFO e) = word (a + m * 2 ^ 16) := (State.reg_put_of_ne _ _ hne.symm).trans hinfo
  have hcnt2 : s2.reg (R.ENG_ECC_CNT e) = counted (s.reg (R.ENG_ECC_CNT e)) := by rw [← hcnt]; exact State.reg_count_self _ _
  by_cases hm : m = 3
  · rw [if_pos hm, if_pos hm]; exact ⟨hinfo, hcnt⟩
  · rw [if_neg hm, if_neg hm]; split <;> exact ⟨hinfo2, hcnt2⟩

/-- The corrected errors that a broadcast carries: where there are none nothing happens, and never anything but counts, records and
engines. -/
theorem State.foldl_eccFixed_changes (l : List EccFix) (s : State) :
    (l.foldl (fun s x => if s.domOn (3 + x.e / 8) then s.eccFixed x.e x.mem x.addr.toNat else s) s).fab = s.fab ∧
      (l.foldl (fun s x => if s.domOn (3 + x.e / 8) then s.eccFixed x.e x.mem x.addr.toNat else s) s).mem = s.mem := by
  induction l generalizing s with
  | nil => exact ⟨rfl, rfl⟩
  | cons x l ih =>
    obtain ⟨hf, hm⟩ := ih (if s.domOn (3 + x.e / 8) then s.eccFixed x.e x.mem x.addr.toNat else s)
    rw [List.foldl_cons, hf, hm]
    split
    · obtain ⟨g, h⟩ := s.eccFixed_changes x.e x.mem x.addr.toNat
      exact ⟨h.fab, h.mem⟩
    · exact ⟨rfl, rfl⟩

/-! ## Taking and stealing (R58, R60, R61) -/

/-- An engine that takes a task whose frame fits: the task is its own, its prefetch starts. -/
theorem State.takeTask_of_fits {s : State} {e i : Nat} {d : Task} (hd : s.task? i = some d)
    (hfit : frameState d s.T ≤ 0x4000) : (s.takeTask e i).deque = s.deque ∧ (s.takeTask e i).stat i = .taken ∧
      ((s.takeTask e i).engine e).task = some i ∧ ((s.takeTask e i).engine e).st = .prefetch ∧
      (s.takeTask e i).regs = s.regs ∧ (s.takeTask e i).mem = s.mem := by
  unfold State.takeTask
  extract_lets s1 g s2 s3
  have hd3 : s3.task? i = some d := hd
  have hfit3 : ¬ 0x4000 < frameState d s3.T := Nat.not_lt.2 hfit
  have heng : s2.engine e = _ := s1.engine_setEngine_self e _
  have hstat : s3.stat i = .taken := s.stat_setStat_self i .taken
  rw [hd3]
  dsimp only
  rw [if_neg hfit3, show s3.engine e = s2.engine e from rfl, heng]
  exact ⟨rfl, hstat, rfl, rfl, rfl, rfl⟩

theorem State.takeHead_of_cons {s : State} {e i : Nat} {q : List Nat} (h : s.deque e = i :: q) :
    s.takeHead e = (s.setDeque e q).takeTask e i := by simp only [State.takeHead, h]

theorem State.acquire_of_cons {s : State} {e i : Nat} {q : List Nat} (ha : s.active e = true) (hi : s.isIdle e = true)
    (h : s.deque e = i :: q) : s.acquire e = s.takeHead e := by
  simp [State.acquire, ha, hi, h]

/-- With an empty deque a victim's tail is taken, and the steal is under way. -/
theorem State.acquire_of_victim {s : State} {e v i : Nat} {q : List Nat} {cross : Bool} (ha : s.active e = true)
    (hi : s.isIdle e = true) (h : s.deque e = []) (hv : s.findVictim e = some (v, cross)) (hq : s.deque v = q ++ [i]) :
    s.acquire e = ((s.setDeque v q).setStat i .taken).setFab fun f => { f with
      steal := f.steal ++ [(e, i, cross)]
      rr := if cross then f.rr else Tbl.set (fun x => x % 8) f.rr e (v % 8) } := by
  simp [State.acquire, ha, hi, h, hv, hq]

theorem State.stealDone_of_find {s : State} {e i : Nat} {cross : Bool}
    (h : s.fab.steal.find? (fun x => x.1 = e) = some (e, i, cross)) :
    s.stealDone e = ((s.setFab fun f => { f with steal := f.steal.filter fun x => x.1 ≠ e }).count
      (if cross then R.FAB_XSTEAL_CNT else R.FAB_STEAL_CNT)).takeTask e i := by
  simp only [State.stealDone, h]

/-- An engine with a task is not idle. -/
theorem State.isIdle_of_task {s : State} {e i : Nat} (h : (s.engine e).task = some i) : s.isIdle e = false := by
  simp [State.isIdle, h]

/-- The steal counters leave T as it is. -/
theorem State.T_count_steal (s : State) (cross : Bool) :
    (s.count (if cross then R.FAB_XSTEAL_CNT else R.FAB_STEAL_CNT)).T = s.T := by
  have h : (if cross then R.FAB_XSTEAL_CNT else R.FAB_STEAL_CNT) ≠ R.TCK_CFG := by cases cross <;> decide
  simp only [State.T, State.count, State.countBy]
  rw [State.fld_put_of_ne _ _ h]

/-- Settles O17: refilling, taking and stealing are one equation each; a broadcast publishes depths, and corrected errors touch
engines and two registers of each. -/
theorem queuesOfTasks : Obligations.QueuesOfTasks := by
  unfold Obligations.QueuesOfTasks
  intro e i v q d cross fixed x s
  refine ⟨?_, ?_, fun hon => ?_, fun ha hi hq hd hfit => ?_, fun ha hi hq hv hvq => ?_, fun hst hd hfit => ?_⟩
  · refine ⟨s.refill e, rfl, ?_, State.backlog_setBacklog_self .., fun y hy => ?_, rfl, rfl, rfl⟩
    · exact State.deque_setDeque_self ..
    · exact (State.deque_setDeque ..).trans (if_neg (Ne.symm hy))
  · obtain ⟨dep, occ, r, hb, hdep⟩ := s.broadcast_changes
    obtain ⟨hf, hm⟩ := s.broadcast.foldl_eccFixed_changes fixed
    refine ⟨_, rfl, ?_, ?_, ?_, fun h => ?_⟩
    · rw [hf, hb]; exact hdep e e.isLt
    · rw [State.deque, hf, hb]; rfl
    · rw [hm, hb]; rfl
    · subst h; simp only [List.foldl_nil, hb]; exact ⟨rfl, rfl⟩
  · obtain ⟨dep, occ, r, hb, -⟩ := s.broadcast_changes
    have hon' : s.broadcast.domOn (3 + x.e / 8) = true := by rw [hb]; exact hon
    have hreg (o : Nat) : s.broadcast.reg o = s.reg o := by rw [hb]; rfl
    obtain ⟨hinfo, hcnt⟩ := State.eccFixed_reg (s := s.broadcast) (e := x.e) (m := x.mem) x.addr.isLt
    refine ⟨s.broadcast.eccFixed x.e x.mem x.addr.toNat, congrArg Host.Outcome.next (if_pos hon'), ?_, hinfo, fun o ho => ?_⟩
    · rw [hcnt, hreg]
      exact if_congr (Fin.ext_iff (a := x.mem) (b := 3)).symm rfl rfl
    · exact (s.broadcast.eccFixed_keeps x.e x.mem x.addr.toNat o ho).trans (hreg o)
  · obtain ⟨hdeq, hstat, htask, hst, hregs, hmem⟩ := State.takeTask_of_fits (s := s.setDeque e q) (e := e) hd hfit
    rw [← State.takeHead_of_cons hq] at hdeq hstat htask hst hregs hmem
    refine ⟨s.takeHead e, congrArg Host.Outcome.next (if_pos (by rw [ha, hi]; rfl)),
      congrArg Host.Outcome.next (State.acquire_of_cons ha hi hq), ?_, hstat, htask, hst, hregs, hmem⟩
    rw [hdeq, State.deque_setDeque_self]
  · have hx : exec (.taskAcquire e) s = .next (s.acquire e) := rfl
    rw [State.acquire_of_victim ha hi hq hv hvq] at hx
    refine ⟨_, hx, State.deque_setDeque_self s v q, (s.setDeque v q).stat_setStat_self i .taken, ?_, rfl, rfl, rfl⟩
    exact List.mem_append_right _ (List.mem_singleton.2 rfl)
  · have hfit' := hfit
    rw [← s.T_count_steal cross] at hfit'
    obtain ⟨-, -, htask, -, hregs, hmem⟩ := State.takeTask_of_fits (e := e) (s := (s.setFab fun f =>
      { f with steal := f.steal.filter fun x => x.1 ≠ e }).count (if cross then R.FAB_XSTEAL_CNT else R.FAB_STEAL_CNT)) hd hfit'
    rw [← State.stealDone_of_find hst] at htask hregs hmem
    exact ⟨s.stealDone e, rfl, htask, State.isIdle_of_task htask, hregs, hmem⟩

end Sys2Proof.Machine
end

section
/-!
SUPPORT. A frame for what happens within a tick: memory, the time, the run state and the scheduled actions stay, and so do the
registers but those listed; with the operations of the fabric that keep it.
-/

namespace Sys2Proof.Machine

/-- The registers that the beginning or the end of a condition may write (R436). -/
def condRegs : List Nat := raiseRegs ++ [R.FLT_ACTIVE_LO, R.FLT_ACTIVE_HI]

theorem raiseRegs_subset_condRegs : raiseRegs ⊆ condRegs := List.subset_append_left _ _

theorem reactRegs_subset_condRegs : reactRegs ⊆ condRegs := fun _ h => raiseRegs_subset_condRegs (List.mem_append_left _ h)

namespace State.Reacts

/-! ## Conditions of the collector (R436, R439) -/

theorem settleLatch (s : State) (i : Nat) : Reacts condRegs s (s.settleLatch i) := by
  unfold State.settleLatch
  refine ite (fun _ => refl s) fun _ => ?_
  exact (((setBit64 (by decide) (by decide) s _ _).trans (setFlt _ _)).trans (setFlt _ _)).trans
    ((setWorst _).mono reactRegs_subset_condRegs)

theorem condStays (s : State) (i : Nat) (r : FltSrc) (b y : Bool) : Reacts condRegs s (s.condStays i r b y) :=
  (((setBit64 (by decide) (by decide) s _ _).trans (setFlt _ _)).trans (setFlt _ _)).trans
    ((setWorst _).mono reactRegs_subset_condRegs)

theorem condBegin (s : State) {i : Nat} (d : Word) (hi : i < 64) : Reacts condRegs s (s.condBegin i d) := by
  unfold State.condBegin
  refine ite (fun _ => refl s) fun _ => ?_
  extract_lets old s1
  have h1 : Reacts condRegs s s1 := setBit64 (by decide) (by decide) s _ _
  clear_value old s1
  cases old with
  | some e => exact h1.trans (condStays _ _ _ _ _)
  | none => exact h1.trans ((State.reacts_raise _ _ hi).mono raiseRegs_subset_condRegs)

theorem condEnd (s : State) (i : Nat) : Reacts condRegs s (s.condEnd i) :=
  ite (fun _ => ((setFlt s _).trans (setBit64 (by decide) (by decide) _ _ _)).trans (settleLatch _ _)) fun _ => refl s

end State.Reacts

/-- From `s` to `t` memory, the time, the run state, the scheduled actions, and the registers not listed stay. -/
structure State.Frame (l : List Nat) (s t : State) : Prop where
  keeps : s.KeepsRegs t l
  mem : t.mem = s.mem
  clk : t.clk = s.clk
  run : t.run = s.run
  sched : t.sched = s.sched

namespace State.Frame

variable {l m : List Nat} {s t u : State}

theorem refl (s : State) : Frame l s s := ⟨fun _ _ => rfl, rfl, rfl, rfl, rfl⟩

theorem trans (h : Frame l s t) (k : Frame l t u) : Frame l s u :=
  ⟨fun o ho => (k.keeps o ho).trans (h.keeps o ho), k.mem.trans h.mem, k.clk.trans h.clk, k.run.trans h.run, k.sched.trans h.sched⟩

theorem mono (h : Frame l s t) (hm : l ⊆ m) : Frame m s t :=
  ⟨fun o ho => h.keeps o fun hl => ho (hm hl), h.mem, h.clk, h.run, h.sched⟩

theorem ite {c : Prop} [Decidable c] (h : c → Frame l s t) (k : ¬c → Frame l s u) : Frame l s (if c then t else u) := by
  split_ifs with hc
  · exact h hc
  · exact k hc

theorem foldl {α : Type} {f : State → α → State} (as : List α) (hf : ∀ s, ∀ a ∈ as, Frame l s (f s a)) (s : State) :
    Frame l s (as.foldl f s) := by
  induction as generalizing s with
  | nil => exact refl s
  | cons a as ih => exact (hf s a (by simp)).trans (ih (fun s b hb => hf s b (by simp [hb])) _)

theorem of_onlyRegs (h : State.OnlyRegs l s t) : Frame l s t := ⟨h.keeps, h.mem, h.clk, h.run, h.sched⟩

theorem of_reacts (h : State.Reacts l s t) : Frame l s t := by
  refine ⟨h.keeps, h.mem, h.clk, ?_, ?_⟩ <;> obtain ⟨_, _, _, _, _, _, _, _, rfl⟩ := h.frame <;> rfl

theorem put {o : Nat} (ho : o ∈ l) (s : State) (w : Word) : Frame l s (s.put o w) := of_onlyRegs (.put ho s w)
theorem setFlag {f : Fld} (hf : f.reg ∈ l) (s : State) (b : Bool) : Frame l s (s.setFlag f b) := of_onlyRegs (.setFlag hf s b)
theorem setFld {f : Fld} (hf : f.reg ∈ l) (s : State) (v : Nat) : Frame l s (s.setFld f v) := of_onlyRegs (.setFld hf s v)
theorem count {o : Nat} (ho : o ∈ l) (s : State) : Frame l s (s.count o) := of_onlyRegs (.count ho s)
theorem raise (hl : raiseRegs ⊆ l) (s : State) {i : Nat} (d : Word) (hi : i < 64) : Frame l s (s.raise i d) :=
  (of_reacts (s.reacts_raise d hi)).mono hl

/-! ## Updates of other parts of the state -/

theorem withFab (s : State) (f : Fab) : Frame l s { s with fab := f } := ⟨fun _ _ => rfl, rfl, rfl, rfl, rfl⟩
theorem withNow (s : State) (n : Now) : Frame l s { s with now := n } := ⟨fun _ _ => rfl, rfl, rfl, rfl, rfl⟩
theorem setFab (s : State) (f : Fab → Fab) : Frame l s (s.setFab f) := ⟨fun _ _ => rfl, rfl, rfl, rfl, rfl⟩
theorem setEngine (s : State) (e : Nat) (g : Engine) : Frame l s (s.setEngine e g) := ⟨fun _ _ => rfl, rfl, rfl, rfl, rfl⟩
theorem setSram (s : State) (f : Sram → Sram) : Frame l s (s.setSram f) := ⟨fun _ _ => rfl, rfl, rfl, rfl, rfl⟩
theorem setFlt (s : State) (f : Flt → Flt) : Frame l s (s.setFlt f) := ⟨fun _ _ => rfl, rfl, rfl, rfl, rfl⟩

theorem condBegin (hl : condRegs ⊆ l) (s : State) {i : Nat} (d : Word) (hi : i < 64) : Frame l s (s.condBegin i d) :=
  (of_reacts (State.Reacts.condBegin s d hi)).mono hl

theorem condEnd (hl : condRegs ⊆ l) (s : State) (i : Nat) : Frame l s (s.condEnd i) :=
  (of_reacts (State.Reacts.condEnd s i)).mono hl

end State.Frame

/-! ## The fabric -/

/-- The registers that ending a task, stopping an engine, and checking the graph's end and the capacity may write. -/
def fabRegs : List Nat :=
  condRegs ++ [R.FAB_STATUS, R.FAB_FAIL_INFO, R.FAB_TASK_FAIL_CNT, R.FAB_RERUN_CNT, R.FAB_LAST_CYC, R.FAB_PEAK_CYC, R.XBR_STATUS,
    R.XBR_DRAIN_CNT]

theorem condRegs_subset_fabRegs : condRegs ⊆ fabRegs := List.subset_append_left _ _

namespace State.Frame

variable {l m : List Nat} {s t u : State}

theorem checkDone (s : State) : Frame [R.FAB_LAST_CYC, R.FAB_PEAK_CYC] s s.checkDone := by
  obtain ⟨b, h⟩ := s.checkDone_changes
  exact (withFab s _).trans (of_onlyRegs h)

theorem capacityCheck (s : State) : Frame fabRegs s s.capacityCheck :=
  ite (fun _ => (setFlag (by decide) s _).trans (condBegin condRegs_subset_fabRegs _ _ (by decide)))
    fun _ => (setFlag (by decide) s _).trans (condEnd condRegs_subset_fabRegs _ _)

theorem drainMaster (s : State) (m : Nat) : Frame fabRegs s (s.drainMaster m) :=
  ite (fun _ => refl s) fun _ => ((setSram s _).trans (setFlag (by decide) _ _)).trans (count (by decide) _)

theorem haltEngine (s : State) (e : Nat) : Frame fabRegs s (s.haltEngine e) := by
  have hd : Frame fabRegs s (s.drainEngine e) := ite (fun _ => (drainMaster s _).trans (setSram _ _)) fun _ => refl s
  have hu : Frame fabRegs (s.drainEngine e) ((s.drainEngine e).unring e) := ite (fun _ => setEngine _ _ _) fun _ => refl _
  have hs : Frame fabRegs ((s.drainEngine e).unring e) (((s.drainEngine e).unring e).stopEngine e) := setEngine _ _ _
  unfold State.haltEngine
  exact ((hd.trans hu).trans hs).trans (withNow _ _)

theorem fillOuts (s : State) (i : Nat) : Frame l s (s.fillOuts i) := by
  obtain ⟨c, h⟩ := s.fillOuts_changes i
  rw [h]
  exact withFab s _

theorem failTask (s : State) (e i r : Nat) : Frame fabRegs s (s.failTask e i r) :=
  (((put (by decide) s _).trans (count (by decide) _)).trans (setFab _ _)).trans (fillOuts _ _)

theorem append (s : State) (e i : Nat) : Frame l s (s.append e i) :=
  ite (fun _ => (setFab s _).trans (setFab _ _)) fun _ => (setFab s _).trans (setFab _ _)

theorem placeHead (s : State) (e i : Nat) : Frame l s (s.placeHead e i) := by
  unfold State.placeHead
  extract_lets q s1 s2
  have h1 : Frame l s s1 := ite (fun _ => setFab s _) fun _ => (setFab s _).trans (setFab _ _)
  have h2 : Frame l s s2 := h1.trans (setFab _ _)
  exact ite (fun _ => h2.trans (setFab _ _)) fun _ => h2

theorem appendTurn (es ts : List Nat) (k : Nat) (s : State) : Frame l s (s.appendTurn es k ts) := by
  induction ts generalizing s k with
  | nil => exact refl s
  | cons i ts ih =>
    unfold State.appendTurn
    split
    · exact (setFab s _).trans (ih _ _)
    · exact (append s _ _).trans (ih _ _)

end State.Frame
end Sys2Proof.Machine
end

section
/-!
PROOFS. The start and the stop of the tick's processing, and its deadline (R20, R21, R65, R165).
-/

namespace Sys2Proof.Machine

/-! ## The first tick (R20) -/

/-- From `s` to `t` only the fabric's work changed: its committed blocks stay. -/
def State.OnlyWork (s t : State) : Prop := ∃ f, t = { s with fab := f } ∧ f.com = s.fab.com ∧ f.comTick = s.fab.comTick

theorem State.OnlyWork.refl (s : State) : s.OnlyWork s := ⟨_, rfl, rfl, rfl⟩

theorem State.OnlyWork.trans {s t u : State} (h : s.OnlyWork t) (k : t.OnlyWork u) : s.OnlyWork u := by
  obtain ⟨f, rfl, hc, ht⟩ := h
  obtain ⟨g, rfl, hc', ht'⟩ := k
  exact ⟨g, rfl, hc'.trans hc, ht'.trans ht⟩

theorem State.append_onlyWork (s : State) (e i : Nat) : s.OnlyWork (s.append e i) := by
  unfold State.append
  extract_lets s1
  split
  · exact ⟨_, rfl, rfl, rfl⟩
  · exact ⟨_, rfl, rfl, rfl⟩

theorem State.deal_onlyWork (ts : List Nat) (turn : Nat) (s : State) : s.OnlyWork (s.deal turn ts) := by
  induction ts generalizing s turn with
  | nil => exact .refl s
  | cons i ts ih =>
    unfold State.deal
    split
    · exact ih _ _
    · exact (s.append_onlyWork _ _).trans (ih _ _)

theorem State.releasePhase_onlyWork (s : State) (p : Nat) : s.OnlyWork (s.releasePhase p) := by
  unfold State.releasePhase
  split
  · exact .refl s
  · exact State.OnlyWork.trans ⟨_, rfl, rfl, rfl⟩ (State.deal_onlyWork _ _ _)

/-- The registers that the start of a tick's graph may write: the orphan flags (R139), the cycle counts of a graph without work. -/
def startRegs : List Nat := [R.FAB_LAST_CYC, R.FAB_PEAK_CYC, R.RTE_STATUS, R.MIX_STATUS, R.DYN_STATUS]

theorem State.orphans_onlyRegs (s : State) : State.OnlyRegs startRegs s s.orphans := by
  have hset (s : State) (c : Bool) {f : Fld} (hf : f.reg ∈ startRegs) :
      State.OnlyRegs startRegs s (if c then s.setFlag f true else s) := by
    cases c
    · exact .refl s
    · exact .setFlag hf s true
  exact ((hset s _ (by decide)).trans (hset _ _ (by decide))).trans (hset _ _ (by decide))

theorem State.OnlyRegs.withFab {l : List Nat} {s t : State} (h : State.OnlyRegs l s t) (f : Fab) :
    State.OnlyRegs l { s with fab := f } { t with fab := f } := by
  obtain ⟨r, z, rfl⟩ := h.frame
  exact ⟨⟨_, _, rfl⟩, h.keeps⟩

/-- The start of a graph changes the fabric's work and a few registers. -/
theorem State.startGraph_changes (s : State) :
    ∃ u, s.OnlyWork u ∧ State.OnlyRegs startRegs u s.startGraph := by
  unfold State.startGraph
  extract_lets s1 s2
  have h2 : State.OnlyRegs startRegs s1 s2 := by
    unfold s2
    split
    · exact s1.orphans_onlyRegs
    · exact .refl s1
  have h1 : s.OnlyWork s1 := ⟨_, rfl, rfl, rfl⟩
  have hfab : s2.fab = s1.fab := h2.fab
  clear_value s2 s1
  split
  · next p _ =>
    obtain ⟨f, hf, hc, ht⟩ := s2.releasePhase_onlyWork p
    rw [hf]
    exact ⟨{ s1 with fab := f }, h1.trans ⟨f, rfl, hc.trans (by rw [hfab]), ht.trans (by rw [hfab])⟩, h2.withFab f⟩
  · obtain ⟨b, hd⟩ := s2.checkDone_changes
    refine ⟨{ s1 with fab := { s1.fab with done := b } }, h1.trans ⟨_, rfl, rfl, rfl⟩, ?_⟩
    have hd' : State.OnlyRegs startRegs { s2 with fab := { s1.fab with done := b } } s2.checkDone := by
      rw [← hfab]; exact hd.mono (by decide)
    exact (h2.withFab _).trans hd'

theorem State.startTick_of_armed {s : State} {n : Nat} (hr : s.run = .armed n true) (hn : n ≤ s.tickNum)
    (hp : s.clk.tickPos = 0) (ha : s.sram.noAudio = false) : s.startTick =
      ((({ s with run := .running, clk := { s.clk with ranTick := true } }).setFlag F.TCK_STATUS_running
        true).silence).startGraph := by
  unfold State.startTick
  rw [hr]
  exact if_pos (by simp [hn, hp, ha])

theorem State.stopTick_of_ending {s : State} (hr : s.run = .ending) (hf : s.flag F.TCK_CTRL_run = false) :
    s.stopTick = { s.setFlag F.TCK_STATUS_running false with
      run := .stopped, fab := { s.fab with com := [], comTick := none, comOld := none } } := by
  unfold State.stopTick
  rw [if_pos hr, hf]
  rfl

/-- Settles O9: the start is a flag, silent slots, and the start of the graph; the stop is one equation. -/
theorem tickStartsAndStops : Obligations.TickStartsAndStops := by
  unfold Obligations.TickStartsAndStops
  intro n s hon
  refine ⟨fun hr hn hp ha => ?_, fun hr hf => congrArg Host.Outcome.next ?_⟩
  · obtain ⟨v, hv⟩ : ∃ v, v = (({ s with run := .running, clk := { s.clk with ranTick := true } }).setFlag
      F.TCK_STATUS_running true).silence := ⟨_, rfl⟩
    have hx : exec .tickStart s = .next v.startGraph := by
      rw [hv, ← State.startTick_of_armed hr hn hp ha]
      exact congrArg Host.Outcome.next (State.ifCtrl_of_on hon _)
    have hrun : v.flag F.TCK_STATUS_running = true := by
      rw [hv]
      exact State.flag_setFlag_self _ F.TCK_STATUS_running true (by decide) rfl
    have hreg (o : Nat) (ho : o ≠ R.TCK_STATUS) : v.reg o = s.reg o := by
      rw [hv]
      exact State.reg_setFld_of_ne _ _ (Ne.symm ho)
    have hclk : v.clk = { s.clk with ranTick := true } := by rw [hv]; rfl
    have hv' : v.run = .running ∧ v.fab.com = [] ∧ v.fab.comTick = none ∧ v.mem = s.mem ∧ v.eng = s.eng ∧ v.outbox = s.outbox := by
      rw [hv]; exact ⟨rfl, rfl, rfl, rfl, rfl, rfl⟩
    obtain ⟨hvr, hvc, hvt, hvm, hve, hvo⟩ := hv'
    obtain ⟨u, ⟨f, rfl, hc, ht⟩, h⟩ := v.startGraph_changes
    have hstat : v.startGraph.reg R.TCK_STATUS = v.reg R.TCK_STATUS := h.keeps R.TCK_STATUS (by decide)
    refine ⟨_, hx, h.run.trans hvr, ?_, ?_, ?_, ?_, fun o ho => ?_, h.mem.trans hvm, h.clk.trans hclk, h.eng.trans hve,
      h.outbox.trans hvo⟩
    · exact (State.flag_of_reg hstat).trans hrun
    · rw [h.clk, hclk]
    · rw [h.fab]; exact hc.trans hvc
    · rw [h.fab]; exact ht.trans hvt
    · simp only [List.mem_cons, not_or] at ho
      exact (h.keeps o (by simpa [startRegs] using ho.2)).trans (hreg o ho.1)
  · rw [State.ifCtrl_of_on hon]
    exact State.stopTick_of_ending hr hf

/-! ## The deadline (R65, R165) -/

/-- A state whose graph is late in its only phase: a route entry with a delay line waits for the route stage, and the byte at which
its line goes on holds 1. -/
def lateRoute : State :=
  { State.reset with
    regs := Tbl.set resetWord [] R.PWR_DOM_ON 0xFFFFFFFF
    run := .running
    mem := [(State.reset.dlyBase, 1)]
    fab := { State.reset.fab with
      graph := some { id := 1, fsSel := 0, tSel := 0, reserve := 0, phases := [{ first := 0, count := 0, stages := 1 }], tasks := [],
                      code := [], stateBase := 0, stateSize := 0 }
      phase := some 0
      stages := 1 }
    mix := { State.reset.mix with route := [(0, { e := { enable := true, dlyEn := true } })] } }

/-- Aborting tasks leaves memory. -/
theorem State.abortTasks_frame (s : State) : State.Frame fabRegs s s.abortTasks := by
  unfold State.abortTasks
  extract_lets late s1 s2
  have h1 : State.Frame fabRegs s s1 := .foldl _ (fun s e _ => .ite (fun _ => .haltEngine s e) fun _ => .refl s) s
  exact (h1.trans (.setFab _ _)).trans (.foldl _ (fun s i _ => .setFab s _) _)

/-- Of the deadline only the cut of the stages writes memory. -/
theorem State.deadline_mem {s : State} (h : s.graphLate = true) : s.deadline.mem = s.cutStages.mem := by
  unfold State.deadline
  rw [if_pos h]
  extract_lets n s1 c s2 s3 s4
  have h1 : s1.mem = s.cutStages.mem := s.cutStages.abortTasks_frame.mem
  have h4 : s4.mem = s1.mem := rfl
  have hr : (s4.raise 1 (word n)).mem = s4.mem := (s4.reacts_raise (word n) (i := 1) (by decide)).mem
  exact (hr.trans h4).trans h1

/-- Refutes O11: at the deadline the late fill of a cut route entry goes into its delay line, which lies in memory (R165). -/
theorem not_watermarkAndDeadline : ¬ Obligations.WatermarkAndDeadline := by
  unfold Obligations.WatermarkAndDeadline
  intro h
  have hon : lateRoute.domOn 1 = true := by decide
  have hlate : lateRoute.graphLate = true := by decide
  obtain ⟨t, hx, -, -, -, -, -, hmem, -⟩ := (h lateRoute hon hlate).2
  have ht : t = lateRoute.deadline := by
    have hd : exec .tickDeadline lateRoute = .next lateRoute.deadline := congrArg Host.Outcome.next (State.ifCtrl_of_on hon _)
    exact Host.Outcome.next.inj (hx.symm.trans hd)
  rw [ht, State.deadline_mem hlate] at hmem
  have hcut : lateRoute.cutStages.mem = [] := by decide
  exact absurd (hcut.symm.trans hmem) (by decide)

end Sys2Proof.Machine
end

section
/-!
PROOFS. A task's run, from its prefetch to its writeback (R67, R83, R86, R87).
-/

namespace Sys2Proof.Machine

section
variable (s : State)

theorem State.putMemWords_changes (a : Nat) (ws : List Word) : ∃ m, s.putMemWords a ws = { s with mem := m } := by
  induction ws generalizing s a with
  | nil => exact ⟨s.mem, rfl⟩
  | cons w ws ih =>
    obtain ⟨m, h⟩ := ih (s.putMemWord a w) (a + 4)
    refine ⟨m, h.trans ?_⟩
    unfold State.putMemWord
    rw [State.putBytes_changes]

theorem State.putLocals_changes (e a : Nat) (ws : List Word) : ∃ m, s.putLocals e a ws = { s with mem := m } := by
  induction ws generalizing s a with
  | nil => exact ⟨s.mem, rfl⟩
  | cons w ws ih =>
    obtain ⟨m, h⟩ := ih (s.putLocal e a w) (a + 1)
    refine ⟨m, h.trans ?_⟩
    unfold State.putLocal State.putMemWord
    rw [State.putBytes_changes]

/-- Where no word of SRAM is uncorrectable, storing words changes memory alone. -/
theorem State.storeWords_changes (h : s.sram.bad = []) (m a : Nat) (ws : List Word) :
    ∃ x, s.storeWords m a ws = { s with mem := x } := by
  unfold State.storeWords
  rw [h]
  exact s.putMemWords_changes a ws

/-- The outputs of a task go into the present tick's blocks (R87). -/
theorem State.writeOuts_changes (e base : Nat) (outs : List Nat) :
    ∃ c, s.writeOuts e base outs = { s with fab := { s.fab with cur := c } } := by
  induction outs generalizing s base with
  | nil => exact ⟨s.fab.cur, rfl⟩
  | cons x outs ih =>
    obtain ⟨c, h⟩ := ih (s.putCur x (s.localWords e base s.T)) (base + s.T)
    exact ⟨c, h⟩

end

/-! ## The prefetch (R83, R86) -/

/-- The engine as its prefetch leaves it: the task's first bundle, the task-start ES, free values in EPC and EES (R86). -/
def Engine.started (g : Engine) (i : Nat) (d : Task) (f : Nat) : Engine :=
  { es := 0x7C0 ||| (g.es &&& 0x40000), st := .running, task := some i, began := true, began_at := g.began_at, tbud := g.tbud,
    tick := g.tick, pc := d.code, epc := (Config.freeWord f).setWidth 12, ees := Config.freeWord (f + 1) }

/-- With its inputs there, a prefetch fills the frame in local memory, takes two free values, and starts the engine. -/
theorem State.prefetchDone_changes {s : State} {e i : Nat} {d : Task} (ht : (s.engine e).task = some i) (hd : s.task? i = some d)
    (hst : (s.engine e).st = .prefetch) (hr : s.taskReady i d = true) (hi : s.engIssues e = true) (hb : s.sram.bad = []) :
    ∃ m, s.prefetchDone e = ({ s with mem := m, fresh := s.fresh + 2 }).setEngine e ((s.engine e).started i d s.fresh) := by
  have hbad : s.badWord (tickStore + d.stateIn) (residentLen d s.T * 64) = none := by simp [State.badWord, hb]
  simp only [State.prefetchDone, ht, hst, hd, hr, hi, hbad, Bool.not_true, Bool.or_self, Bool.false_eq_true, if_false]
  generalize d.ins.flatMap (s.taskReads (s.runsBack i) d.phase) = ins
  generalize s.frameHeader i d (s.tickNum - bit (s.runsBack i)) = header
  obtain ⟨m1, h1⟩ := s.putLocals_changes e 0 header
  rw [h1]
  obtain ⟨m2, h2⟩ := State.putLocals_changes { s with mem := m1 } e 0x20 ins
  rw [h2]
  obtain ⟨m3, h3⟩ := State.putLocals_changes { s with mem := m2 } e (0x20 + d.ins.length * s.T)
    (List.replicate (d.outs.length * s.T) 0)
  rw [h3]
  generalize State.memWords _ _ _ = ws
  obtain ⟨m4, h4⟩ := State.putLocals_changes { s with mem := m3 } e (frameState d s.T) ws
  rw [h4]
  exact ⟨m4, rfl⟩

/-! ## The writeback (R87) -/

/-- Without transfers left, the run of the present tick is written back and the task is done. -/
theorem State.completeTask_changes {s : State} {e i : Nat} {d : Task} (ht : (s.engine e).task = some i) (hd : s.task? i = some d)
    (hst : (s.engine e).st = .writeback) (hdma : (s.engine e).dma = []) (hrun : s.runsBack i = false) (hi : s.engIssues e = true)
    (hb : s.sram.bad = []) : ∃ m c, s.completeTask e =
      (((({ s with mem := m, fab := { s.fab with cur := c } }).setStat i .done).count
        (R.ENG_TASK_CNT e)).stopEngine e).checkDone := by
  simp only [State.completeTask, ht, hst, hd, hdma, hi, List.isEmpty_nil, Bool.not_true, Bool.or_self, Bool.false_eq_true,
    if_false]
  generalize s.localWords e (frameState d s.T) (residentLen d s.T * 16) = ws
  obtain ⟨m, hm⟩ := s.storeWords_changes hb (e / 8) (tickStore + d.stateOut) ws
  have hback : State.runsBack { s with mem := m } i = false := hrun
  rw [hm, hback]
  obtain ⟨c, hc⟩ := State.writeOuts_changes { s with mem := m } e (0x20 + d.ins.length * s.T) d.outs
  refine ⟨m, c, ?_⟩
  rw [hc]
  rfl

/-- A completed task is done, its engine free, and its count one more; the end of the graph leaves it so. -/
theorem State.checkDone_of_done (v : State) (e i : Nat) :
    let t := (((v.setStat i .done).count (R.ENG_TASK_CNT e)).stopEngine e).checkDone
    t.stat i = .done ∧ (t.engine e).task = none ∧ t.reg (R.ENG_TASK_CNT e) = counted (v.reg (R.ENG_TASK_CNT e)) ∧
      v.KeepsRegs t [R.ENG_TASK_CNT e, R.FAB_LAST_CYC, R.FAB_PEAK_CYC] ∧ t.clk = v.clk ∧ t.outbox = v.outbox := by
  intro t
  have hcnt : R.ENG_TASK_CNT e ∉ [R.FAB_LAST_CYC, R.FAB_PEAK_CYC] := by
    simp only [List.mem_cons, List.not_mem_nil, or_false, R.ENG_TASK_CNT, R.FAB_LAST_CYC, R.FAB_PEAK_CYC]
    omega
  obtain ⟨u, hu⟩ : ∃ u, u = ((v.setStat i .done).count (R.ENG_TASK_CNT e)).stopEngine e := ⟨_, rfl⟩
  have ht : t = u.checkDone := by rw [hu]
  obtain ⟨b, h⟩ := u.checkDone_changes
  rw [← ht] at h
  have hstat : Tbl.get (fun _ => TStat.waiting) u.fab.stat i = .done := by rw [hu]; exact State.stat_setStat_self v i .done
  have heng : (u.engine e).task = none := by
    rw [hu]
    exact congrArg Engine.task (State.engine_setEngine_self ((v.setStat i .done).count (R.ENG_TASK_CNT e)) e _)
  have hreg (o : Nat) : u.reg o = (v.count (R.ENG_TASK_CNT e)).reg o := by rw [hu]; rfl
  have hrest : u.clk = v.clk ∧ u.outbox = v.outbox := by rw [hu]; exact ⟨rfl, rfl⟩
  refine ⟨?_, ?_, ?_, fun o ho => ?_, h.clk.trans hrest.1, h.outbox.trans hrest.2⟩
  · rw [State.stat, h.fab]; exact hstat
  · rw [h.engine]; exact heng
  · exact ((h.keeps _ hcnt).trans (hreg _)).trans (v.reg_count_self _)
  · rw [List.mem_cons, not_or] at ho
    exact ((h.keeps o ho.2).trans (hreg o)).trans (v.reg_put_of_ne _ (Ne.symm ho.1))

/-! ## Engines that are being drained, and the budget (R67, R399) -/

theorem State.prefetchDone_of_drained {s : State} {e : Nat} (h : s.engIssues e = false) : s.prefetchDone e = s := by
  unfold State.prefetchDone
  extract_lets g
  split
  · split
    · rfl
    · exact if_pos (by simp [h])
  · rfl

theorem State.completeTask_of_drained {s : State} {e : Nat} (h : s.engIssues e = false) : s.completeTask e = s := by
  unfold State.completeTask
  extract_lets g
  split
  · exact if_pos (by simp [h])
  · rfl

/-- A run is over its budget, once in it, where it has taken more cycles (R67). -/
theorem State.overBudget_eq {s : State} {e i : Nat} {d : Task} (ht : (s.engine e).task = some i) (hd : s.task? i = some d) :
    s.overBudget e = if (s.engine e).tbud = false ∧ d.budget < s.cycle - (s.engine e).began_at then some i else none := by
  simp [State.overBudget, ht, hd]

/-- Settles O18: prefetch and writeback change memory, the engine and what the rules name; the budget's excess is one equation. -/
theorem taskRunsFromPrefetchToWriteback : Obligations.TaskRunsFromPrefetchToWriteback := by
  unfold Obligations.TaskRunsFromPrefetchToWriteback
  intro e i d s ht
  refine ⟨fun hd hst hr hi hb => ?_, fun hd hst hdma hrun hi hb => ?_, fun hi => ⟨?_, ?_⟩, fun hd => ⟨fun hb hc => ?_, fun hc => ?_⟩⟩
  · obtain ⟨m, hm⟩ := State.prefetchDone_changes ht hd hst hr hi hb
    have heng : (s.prefetchDone e).engine e = (s.engine e).started i d s.fresh := by rw [hm]; exact State.engine_setEngine_self ..
    refine ⟨s.prefetchDone e, rfl, congrArg Engine.st heng, congrArg Engine.task heng, congrArg Engine.pc heng,
      congrArg Engine.es heng, ?_⟩
    rw [hm]
    exact ⟨rfl, rfl, rfl, rfl⟩
  · obtain ⟨m, c, hm⟩ := State.completeTask_changes ht hd hst hdma hrun hi hb
    refine ⟨s.completeTask e, rfl, ?_⟩
    rw [hm]
    exact State.checkDone_of_done { s with mem := m, fab := { s.fab with cur := c } } e i
  · exact congrArg Host.Outcome.next (State.prefetchDone_of_drained hi)
  · exact congrArg Host.Outcome.next (State.completeTask_of_drained hi)
  · refine congrArg Host.Outcome.next ?_
    rw [State.overBudget_eq ht hd, if_pos ⟨hb, hc⟩]
  · refine congrArg Host.Outcome.next ?_
    have hno : ¬ ((s.engine e).tbud = false ∧ d.budget < s.cycle - (s.engine e).began_at) := fun ⟨h1, h2⟩ => by
      rcases hc with hc | hc
      · rw [hc] at h1; cases h1
      · omega
    rw [State.overBudget_eq ht hd, if_neg hno]

end Sys2Proof.Machine
end

section
/-!
PROOFS. Fences and unfences of engines (R43, R72 to R77, R441).
-/

namespace Sys2Proof.Machine

/-! ## What a fence leaves (R73) -/

/-- From `s` to `t` the engines that are to be fenced at the next boundary are the same. -/
def State.SameFence (s t : State) : Prop := t.fab.fence = s.fab.fence

namespace State.SameFence

variable {s t u : State}

theorem trans (h : s.SameFence t) (k : t.SameFence u) : s.SameFence u := Eq.trans k h

theorem fillOuts (s : State) (i : Nat) : s.SameFence (s.fillOuts i) := by
  obtain ⟨c, h⟩ := s.fillOuts_changes i
  rw [h]
  rfl

theorem setStat (s : State) (i : Nat) (x : TStat) : s.SameFence (s.setStat i x) := rfl

theorem failTask (s : State) (e i r : Nat) : s.SameFence (s.failTask e i r) := by
  unfold State.failTask
  extract_lets s1 s2
  have h2 : State.OnlyRegs [R.FAB_FAIL_INFO, R.FAB_TASK_FAIL_CNT] s s2 :=
    (State.OnlyRegs.put (by simp) s _).trans (.count (by simp) _)
  have hs : s.SameFence s2 := congrArg Fab.fence h2.fab
  exact (hs.trans (setStat _ _ _)).trans (fillOuts _ _)

theorem checkDone (s : State) : s.SameFence s.checkDone := by
  obtain ⟨b, h⟩ := s.checkDone_changes
  have hf := congrArg Fab.fence h.fab
  exact hf

theorem append (s : State) (e i : Nat) : s.SameFence (s.append e i) := by
  unfold State.append
  extract_lets s1
  split <;> rfl

theorem placeHead (s : State) (e i : Nat) : s.SameFence (s.placeHead e i) := by
  unfold State.placeHead
  extract_lets q s1 s2
  have h1 : s.SameFence s1 := by
    unfold s1
    split <;> rfl
  have h2 : s.SameFence s2 := h1
  split
  · exact h2
  · exact h2

theorem appendTurn (es ts : List Nat) (k : Nat) (s : State) : s.SameFence (s.appendTurn es k ts) := by
  induction ts generalizing s k with
  | nil => rfl
  | cons i ts ih =>
    unfold State.appendTurn
    split
    · exact trans (t := s.setStat i .waiting) rfl (ih _ _)
    · exact (append s _ _).trans (ih _ _)

theorem haltEngine (s : State) (e : Nat) : s.SameFence (s.haltEngine e) := by
  have hd : s.SameFence (s.drainEngine e) := by
    unfold State.drainEngine State.drainMaster
    split
    · extract_lets w
      split <;> rfl
    · rfl
  have hu : (s.drainEngine e).SameFence ((s.drainEngine e).unring e) := by
    unfold State.unring
    split <;> rfl
  exact (hd.trans hu).trans rfl

theorem capacityCheck (s : State) : s.SameFence s.capacityCheck := by
  unfold State.capacityCheck
  split
  · exact congrArg Fab.fence (State.Reacts.condBegin _ _ (by decide)).fab
  · exact congrArg Fab.fence (State.Reacts.condEnd _ 4).fab

end State.SameFence

/-- Taking an engine out of service clears its bit of FAB_ACTIVE (R39). -/
theorem State.unfenced_putActive_self (s : State) (e : Nat) (on : Bool) : (s.putActive e on).unfenced e = on := by
  have hlt : e % 32 < 32 := Nat.mod_lt _ (by omega)
  unfold State.unfenced State.putActive
  rw [State.reg_setFlag, State.reg_setFld, if_pos rfl, getLsbD_setBits _ _ _ _ _ hlt, if_pos ⟨le_rfl, le_rfl⟩, Nat.sub_self]
  cases on <;> rfl

theorem State.unfenced_of_reg {s t : State} {e : Nat} (h : t.reg (R.FAB_ACTIVE (e / 32)) = s.reg (R.FAB_ACTIVE (e / 32))) :
    t.unfenced e = s.unfenced e := by
  unfold State.unfenced
  rw [h]

/-- FAB_ACTIVE is none of the registers that a fence's other work may write. -/
theorem FAB_ACTIVE_notMem_fabRegs (e : Eng) : R.FAB_ACTIVE (e / 32) ∉ fabRegs := by
  have h : ∀ j < 3, R.FAB_ACTIVE j ∉ fabRegs := by decide
  exact h _ (by omega)

/-- Of the registers beyond those a fence changes its engine's bit of FAB_ACTIVE (R39, R73). -/
def fenceRegs (e : Nat) : List Nat := R.FAB_ACTIVE (e / 32) :: fabRegs

theorem fabRegs_subset_fenceRegs (e : Nat) : fabRegs ⊆ fenceRegs e := List.subset_cons_self _ _

/-- The task of a fenced engine is placed anew, or fails; both only concern the fabric and its registers (R73, R74). -/
theorem State.rerun_keeps (s : State) (e : Nat) (es : List Nat) (cur : Option Nat) :
    ∀ t : State, t = (match cur with
      | none => s
      | some i =>
        if ((s.task? i).elim false (·.restart)) then
          match s.leastDepth es with
          | some v => (s.placeHead v i).count R.FAB_RERUN_CNT
          | none => s.failTask e i 6
        else s.failTask e i 5) → State.Frame fabRegs s t ∧ s.SameFence t := by
  rintro t rfl
  cases cur with
  | none => exact ⟨.refl s, rfl⟩
  | some i =>
    dsimp only
    split
    · split
      next v _ => exact ⟨(State.Frame.placeHead s v i).trans (.count (by decide) _), State.SameFence.placeHead s v i⟩
      next => exact ⟨.failTask s e i 6, .failTask s e i 6⟩
    · exact ⟨.failTask s e i 5, .failTask s e i 5⟩

/-- A fence takes the engine out of service; memory, the time and the engines to be fenced stay (R73). -/
theorem State.fenceEngine_fences (s : State) (e : Eng) :
    State.Frame (fenceRegs e) s (s.fenceEngine e) ∧ (s.fenceEngine e).unfenced e = false ∧ s.SameFence (s.fenceEngine e) := by
  unfold State.fenceEngine
  extract_lets cur queued s1 s2 s3 s4 own near es s5 s6
  have h1 : State.Frame fabRegs s s1 := (State.Frame.setFab s _).trans (.setFab _ _)
  have h3 : State.Frame fabRegs s s3 := (h1.trans (.haltEngine s1 e)).trans (.setFab s2 _)
  have hbit : State.Frame (fenceRegs e) s3 s4 :=
    State.Frame.setFlag (f := ⟨R.FAB_ACTIVE (e / 32), e % 32, e % 32⟩) List.mem_cons_self s3 false
  have h4 : State.Frame (fenceRegs e) s s4 := (h3.mono (fabRegs_subset_fenceRegs e)).trans hbit
  have hoff : s4.unfenced e = false := s3.unfenced_putActive_self e false
  have hf1 : s.SameFence s1 := rfl
  have hf3 : s.SameFence s3 := (hf1.trans (.haltEngine s1 e)).trans (t := s2) rfl
  have hf4 : s.SameFence s4 := hf3
  obtain ⟨h5, hf5⟩ := s4.rerun_keeps e es cur s5 rfl
  clear_value s4
  have h6 : State.Frame fabRegs s4 s6.checkDone :=
    (h5.trans (.appendTurn es queued _ s5)).trans ((State.Frame.checkDone s6).mono (by decide))
  refine ⟨h4.trans (h6.mono (fabRegs_subset_fenceRegs e)), ?_, ?_⟩
  · exact (State.unfenced_of_reg (h6.keeps _ (FAB_ACTIVE_notMem_fabRegs e))).trans hoff
  · exact ((hf4.trans hf5).trans (.appendTurn es queued _ s5)).trans (.checkDone s6)

theorem State.active_of_unfenced {s : State} {e : Nat} (h : s.unfenced e = false) : s.active e = false := by simp [State.active, h]

/-- An engine fault fences an active engine, and records engine and cause (R72). -/
theorem State.engineFault_fences {s : State} {e : Eng} (ha : s.active e = true) (c : Nat) :
    (s.engineFault e c).active e = false ∧ (s.engineFault e c).reg R.FAB_FENCE_INFO = word (e.val + c * 2 ^ 8) ∧
      (s.engineFault e c).mem = s.mem ∧ (s.engineFault e c).clk = s.clk := by
  unfold State.engineFault
  rw [if_pos ha]
  extract_lets s1 s2 s3
  have hinfo : s1.reg R.FAB_FENCE_INFO = word (e.val + c * 2 ^ 8) := s.reg_put_self _ _
  have h1 : s1.mem = s.mem ∧ s1.clk = s.clk := ⟨rfl, rfl⟩
  obtain ⟨h2, hoff, -⟩ := s1.fenceEngine_fences e
  have h3 : State.Frame fabRegs s2 s3 := .setFlt s2 _
  have h4 : State.Frame fabRegs s2 (s3.raise 3 (s3.reg R.FAB_FENCE_INFO)).capacityCheck :=
    (h3.trans ((State.Frame.raise (List.Subset.refl _) s3 _ (by decide)).mono
      (List.Subset.trans raiseRegs_subset_condRegs condRegs_subset_fabRegs))).trans (.capacityCheck _)
  have h := h2.trans (h4.mono (fabRegs_subset_fenceRegs e))
  have hne : ∀ j < 3, R.FAB_FENCE_INFO ∉ R.FAB_ACTIVE j :: fabRegs := by decide
  refine ⟨State.active_of_unfenced ?_, (h.keeps _ (hne _ (by omega))).trans hinfo, h.mem.trans h1.1, h.clk.trans h1.2⟩
  exact (State.unfenced_of_reg (h4.keeps _ (FAB_ACTIVE_notMem_fabRegs e))).trans hoff

/-- The boundary fences an engine for which it was asked, and the request is done with (R76). -/
theorem State.plannedFence_fences {s : State} {e : Eng} (hm : e.val ∈ s.fab.fence) (ha : s.active e = true) :
    (s.plannedFence e).active e = false ∧ e.val ∉ (s.plannedFence e).fab.fence ∧ (s.plannedFence e).mem = s.mem ∧
      (s.plannedFence e).clk = s.clk := by
  have hc : s.fab.fence.contains e.val = true := by simpa using hm
  obtain ⟨u, hu⟩ : ∃ u : State, u = s.setFab fun f => { f with
    fence := f.fence.filter (· ≠ e.val), unfence := f.unfence.filter (· ≠ e.val) } := ⟨_, rfl⟩
  have hau : u.active e = true := by rw [hu]; exact ha
  have hoff : s.plannedOff e = u.fenceEngine e := by
    unfold State.plannedOff
    rw [if_pos hc, ← hu]
    exact if_pos hau
  have hx : s.plannedFence e = (u.fenceEngine e).capacityCheck := by
    unfold State.plannedFence
    rw [hoff, if_pos (by rw [hc, ha]; rfl)]
  obtain ⟨h1, hun, hf⟩ := u.fenceEngine_fences e
  have h2 := State.Frame.capacityCheck (u.fenceEngine e)
  have hfence : (u.fenceEngine e).capacityCheck.fab.fence = s.fab.fence.filter (· ≠ e.val) := by
    rw [hf.trans (.capacityCheck _), hu]
    rfl
  have hrest : u.mem = s.mem ∧ u.clk = s.clk := by rw [hu]; exact ⟨rfl, rfl⟩
  rw [hx]
  refine ⟨State.active_of_unfenced ?_, ?_, h2.mem.trans (h1.mem.trans hrest.1), h2.clk.trans (h1.clk.trans hrest.2)⟩
  · exact (State.unfenced_of_reg (h2.keeps _ (FAB_ACTIVE_notMem_fabRegs e))).trans hun
  · rw [hfence]
    simp

/-! ## Requests by a word of a register (R76, R77) -/

/-- What a request for an engine keeps, and that it is then there: carried through the bits of a word. -/
theorem State.forBits_asks {K : State → State → Prop} {A : State → Nat → Prop} {f : State → Nat → State}
    (hrefl : ∀ s, K s s) (htrans : ∀ s t u, K s t → K t u → K s u) (hstep : ∀ s e, K s (f s e))
    (hA : ∀ s t e, K s t → A s e → A t e) (s : State) (j i : Nat) (w : Word) :
    K s (s.forBits j w f) ∧ (i < 32 → w.getLsbD i = true → (∀ t, K s t → A (f t (32 * j + i)) (32 * j + i)) →
      A (s.forBits j w f) (32 * j + i)) := by
  have hfold (l : List Nat) (t : State) (hst : K s t) :
      K t (l.foldl (fun s i => if w.getLsbD i then f s (32 * j + i) else s) t) ∧
        (i ∈ l → w.getLsbD i = true → (∀ t, K s t → A (f t (32 * j + i)) (32 * j + i)) →
          A (l.foldl (fun s i => if w.getLsbD i then f s (32 * j + i) else s) t) (32 * j + i)) := by
    induction l generalizing t with
    | nil => exact ⟨hrefl t, fun h => absurd h List.not_mem_nil⟩
    | cons k l ih =>
      have hk : K t (if w.getLsbD k then f t (32 * j + k) else t) := by
        split
        · exact hstep _ _
        · exact hrefl _
      obtain ⟨h1, h2⟩ := ih _ (htrans _ _ _ hst hk)
      refine ⟨htrans _ _ _ hk h1, fun hm hw hask => ?_⟩
      rcases List.mem_cons.1 hm with rfl | hm
      · refine hA _ _ _ h1 ?_
        rw [if_pos hw]
        exact hask t hst
      · exact h2 hm hw hask
  obtain ⟨h1, h2⟩ := hfold (List.range 32) s (hrefl s)
  exact ⟨h1, fun hi => h2 (List.mem_range.2 hi)⟩

/-- Between requests for fences: registers, memory and engines stay, and no request is lost. -/
structure State.AsksFence (s t : State) : Prop where
  regs : t.regs = s.regs
  mem : t.mem = s.mem
  eng : t.eng = s.eng
  asked : s.fab.fence ⊆ t.fab.fence

theorem State.requestFence_asks (s : State) (e : Nat) : s.AsksFence (s.requestFence e) := by
  refine ⟨rfl, rfl, rfl, fun x hx => ?_⟩
  simp only [State.requestFence, State.setFab]
  split
  · exact List.mem_append_left _ hx
  · exact hx

theorem State.mem_requestFence {s : State} {e : Nat} (h : s.active e = true) : e ∈ (s.requestFence e).fab.fence := by
  simp only [State.requestFence, State.setFab, h, Bool.true_and]
  split
  · simp
  next hc => simpa using hc

theorem State.active_of_regs {s t : State} (h : t.regs = s.regs) (e : Nat) : t.active e = s.active e := by
  simp only [State.active, State.unfenced, State.domOn, State.fld, State.reg, h]

/-- Between requests for unfences: registers but FAB_STATUS, memory and engines stay, and no request is lost. -/
structure State.AsksUnfence (s t : State) : Prop where
  regs : s.KeepsRegs t [R.FAB_STATUS]
  mem : t.mem = s.mem
  eng : t.eng = s.eng
  asked : s.fab.unfence ⊆ t.fab.unfence

theorem State.requestUnfence_asks (s : State) (e : Nat) : s.AsksUnfence (s.requestUnfence e) := by
  unfold State.requestUnfence
  split
  · exact ⟨fun _ _ => rfl, rfl, rfl, fun _ h => h⟩
  · split
    · exact ⟨fun _ _ => rfl, rfl, rfl, fun _ h => List.mem_append_left _ h⟩
    · have h : State.OnlyRegs [R.FAB_STATUS] s (s.setFlag F.FAB_STATUS_unfence_err true) := .setFlag (by simp) s true
      exact ⟨h.keeps, h.mem, h.eng, fun _ hx => h.fab ▸ hx⟩

theorem State.mem_requestUnfence {s : State} {e : Nat} (h : s.active e = false) (hon : s.domOn (3 + e / 8) = true) :
    e ∈ (s.requestUnfence e).fab.unfence := by
  unfold State.requestUnfence
  rw [h, Bool.false_or, if_pos hon]
  split
  next hc => simpa using hc
  next => simp [State.setFab]

theorem State.active_of_asksUnfence {s t : State} (h : s.AsksUnfence t) {e : Nat} (he : e < 96) : t.active e = s.active e := by
  have hne : ∀ j < 3, R.FAB_ACTIVE j ∉ [R.FAB_STATUS] := by decide
  unfold State.active
  rw [State.unfenced_of_reg (h.regs _ (hne _ (by omega))), State.domOn_of_reg (h.regs _ (by decide))]

/-! ## The return of an engine (R43, R77, R441) -/

theorem State.loadCode_mem (s : State) (e : Nat) : ∃ m, s.loadCode e = { s with mem := m } := by
  unfold State.loadCode
  split
  · exact ⟨s.mem, rfl⟩
  · exact ⟨_, s.putBytes_changes _ _⟩

theorem State.loadCode_of_none {s : State} (h : s.fab.graph = none) (e : Nat) : s.loadCode e = s := by
  simp only [State.loadCode, h]

theorem State.loadCode_of_some {s : State} {g : Graph} (h : s.fab.graph = some g) (e : Nat) :
    s.loadCode e = s.putBytes (engWindow e) g.code := by
  simp only [State.loadCode, h]

/-- With a passed march the code is loaded, the engine's bit of FAB_ACTIVE is set, and the capacity checked. -/
theorem State.activateEngine_eq {s : State} {e : Nat} (hm : e ∈ s.fab.unfence) (hon : s.domOn (3 + e / 8) = true)
    (ha : s.active e = false) : s.activateEngine e true =
      (((s.setFab fun f => { f with unfence := f.unfence.filter (· ≠ e) }).loadCode e).putActive e true).capacityCheck := by
  have hc : s.fab.unfence.contains e = true := by simpa using hm
  have hun : s.unfenced e = false := by simpa [State.active, hon] using ha
  obtain ⟨m, h⟩ := (s.setFab fun f => { f with unfence := f.unfence.filter (· ≠ e) }).loadCode_mem e
  have hun' : ((s.setFab fun f => { f with unfence := f.unfence.filter (· ≠ e) }).loadCode e).unfenced e = false := by
    rw [h]; exact hun
  simp only [State.activateEngine, hc, hon, State.setActive, hun', Bool.and_self, if_true, Bool.false_eq_true, if_false]

/-- Making an engine active touches registers and the unfence's request alone, beside the code in its program memory. -/
theorem State.activateEngine_activates {s : State} {e : Eng} (hm : e.val ∈ s.fab.unfence) (hon : s.domOn (3 + e.val / 8) = true)
    (ha : s.active e = false) : (s.activateEngine e true).active e = true ∧ e.val ∉ (s.activateEngine e true).fab.unfence ∧
      (s.activateEngine e true).clk = s.clk ∧ ∃ u : State, u.mem = s.mem ∧ u.fab.graph = s.fab.graph ∧
        (s.activateEngine e true).mem = (u.loadCode e).mem := by
  rw [State.activateEngine_eq hm hon ha]
  obtain ⟨u, hu⟩ : ∃ u : State, u = s.setFab fun f => { f with unfence := f.unfence.filter (· ≠ e.val) } := ⟨_, rfl⟩
  have hum : u.mem = s.mem ∧ u.fab.graph = s.fab.graph ∧ u.clk = s.clk ∧ e.val ∉ u.fab.unfence ∧
      u.reg R.PWR_DOM_ON = s.reg R.PWR_DOM_ON := by
    rw [hu]; exact ⟨rfl, rfl, rfl, by simp [State.setFab], rfl⟩
  rw [← hu]
  clear hu
  obtain ⟨hmem, hgraph, hclk, hnot, hdom⟩ := hum
  obtain ⟨m, hl⟩ := u.loadCode_mem e
  have hbit : State.Frame (fenceRegs e) (u.loadCode e) ((u.loadCode e).putActive e true) :=
    State.Frame.setFlag (f := ⟨R.FAB_ACTIVE (e / 32), e % 32, e % 32⟩) List.mem_cons_self _ true
  have hset := (u.loadCode e).unfenced_putActive_self e true
  have hpf : ((u.loadCode e).putActive e true).fab = u.fab := by rw [hl]; rfl
  have hcap := State.Frame.capacityCheck ((u.loadCode e).putActive e true)
  have hcf : ((u.loadCode e).putActive e true).capacityCheck.fab = u.fab := by
    rw [← hpf]
    unfold State.capacityCheck
    split
    · exact (State.Reacts.condBegin _ _ (by decide)).fab
    · exact (State.Reacts.condEnd _ 4).fab
  have hne : ∀ j < 3, R.PWR_DOM_ON ∉ R.FAB_ACTIVE j :: fabRegs := by decide
  have h := hbit.trans (hcap.mono (fabRegs_subset_fenceRegs e))
  have hdom' : (u.loadCode e).reg R.PWR_DOM_ON = s.reg R.PWR_DOM_ON := by rw [hl]; exact hdom
  refine ⟨?_, by rw [hcf]; exact hnot, ?_, u, hmem, hgraph, h.mem⟩
  · unfold State.active
    rw [State.unfenced_of_reg (hcap.keeps _ (FAB_ACTIVE_notMem_fabRegs e)), hset,
      State.domOn_of_reg ((h.keeps _ (hne _ (by omega))).trans hdom'), hon]
    rfl
  · rw [h.clk, hl]; exact hclk

theorem State.repairFence_of_single {s : State} {e : Nat} {d : Word} (hr : s.flt.repair = [(3, d)]) (hd : bitsOf d 6 0 = e)
    (hc : bitsOf d 11 8 ≠ 6) (hn : (s.flt.fenced.filter fun x => x.1 = e).length ≤ 1) :
    s.repairFence e = (s.setFlt fun f => { f with repair := [] }).requestUnfence e := by
  unfold State.repairFence
  have hfind : s.flt.repair.find? (fun r => r.1 = 3 && bitsOf r.2 6 0 = e) = some (3, d) := by simp [hr, hd]
  rw [hfind]
  extract_lets s1 times again
  have hs1 : s1 = s.setFlt fun f => { f with repair := [] } := by
    unfold s1 State.setFlt
    simp [hr, hd]
  have htimes : times.length ≤ 1 := by simpa [times, hs1, State.setFlt] using hn
  have hagain : again = false := by
    unfold again
    match times, htimes with
    | [], _ => rfl
    | [_], _ => rfl
  simp only [hc, hagain, decide_false, Bool.or_self, Bool.false_eq_true, if_false, hs1]

/-- Settles O19: a fence clears its engine's bit of FAB_ACTIVE and nothing that follows sets it; requests are carried through a word's
bits; an unfence loads the code and sets the bit. -/
theorem enginesAreFencedAndReturn : Obligations.EnginesAreFencedAndReturn := by
  unfold Obligations.EnginesAreFencedAndReturn
  intro e j i w d c s
  refine ⟨fun ha => ⟨_, rfl, State.engineFault_fences ha _⟩, fun ha hcur => ?_, fun hon => ?_, fun hm ha =>
    ⟨_, rfl, State.plannedFence_fences hm ha⟩, fun hon => ?_, fun hm hon ha => ?_, fun hr hfw hdue hd hc hn ha hon => ?_⟩
  · exact ⟨s.engineFault e 5, congrArg Host.Outcome.next (if_pos hcur), State.engineFault_fences ha 5⟩
  · obtain ⟨hk, hask⟩ := State.forBits_asks (K := State.AsksFence) (A := fun t e => e ∈ t.fab.fence) (f := State.requestFence)
      (fun s => ⟨rfl, rfl, rfl, fun _ h => h⟩)
      (fun _ _ _ h k => ⟨k.regs.trans h.regs, k.mem.trans h.mem, k.eng.trans h.eng, fun _ hx => k.asked (h.asked hx)⟩)
      State.requestFence_asks (fun _ _ _ h hx => h.asked hx) s j i w
    refine ⟨s.forBits j w State.requestFence, congrArg Host.Outcome.next (if_pos hon), fun hi hw ha => ?_, hk.regs, hk.mem, hk.eng⟩
    exact hask hi hw fun t ht => State.mem_requestFence ((State.active_of_regs ht.regs _).trans ha)
  · obtain ⟨hk, hask⟩ := State.forBits_asks (K := State.AsksUnfence) (A := fun t e => e ∈ t.fab.unfence) (f := State.requestUnfence)
      (fun s => ⟨fun _ _ => rfl, rfl, rfl, fun _ h => h⟩)
      (fun _ _ _ h k => ⟨fun o ho => (k.regs o ho).trans (h.regs o ho), k.mem.trans h.mem, k.eng.trans h.eng,
        fun _ hx => k.asked (h.asked hx)⟩)
      State.requestUnfence_asks (fun _ _ _ h hx => h.asked hx) s j i w
    refine ⟨s.forBits j w State.requestUnfence, congrArg Host.Outcome.next (if_pos hon), fun hi hw ha hd => ?_, hk.regs,
      hk.mem, hk.eng⟩
    exact hask hi hw fun t ht => State.mem_requestUnfence ((State.active_of_asksUnfence ht (by omega)).trans ha)
      ((State.domOn_of_reg (ht.regs _ (by decide)) _).trans hd)
  · obtain ⟨hact, hnot, hclk, u, hum, hug, hmem⟩ := State.activateEngine_activates hm hon ha
    have hbyte (a : Nat) : (s.activateEngine e true).byte a = (u.loadCode e).byte a := by unfold State.byte; rw [hmem]
    have hold (a : Nat) : u.byte a = s.byte a := by unfold State.byte; rw [hum]
    refine ⟨_, rfl, hact, hnot, hclk, fun hg a => ?_, fun g hg => ⟨fun a ha => ?_, fun k b hb => ?_⟩⟩
    · rw [hbyte, State.loadCode_of_none (hug.trans hg), hold]
    · rw [hbyte, State.loadCode_of_some (hug.trans hg), State.byte_putBytes_of_out _ _ _ _ ha, hold]
    · obtain ⟨hk, rfl⟩ := List.getElem?_eq_some_iff.1 hb
      rw [hbyte, State.loadCode_of_some (hug.trans hg), State.byte_putBytes_of_in _ _ _ _ hk]
  · have hx : exec (.unfenceRepair e) s = .next (s.repairFence e) :=
      congrArg Host.Outcome.next (if_neg (by rw [hfw, hdue]; decide))
    rw [State.repairFence_of_single hr hd hc hn] at hx
    have hask := (s.setFlt fun f => { f with repair := [] }).requestUnfence_asks e.val
    have hun : (s.setFlt fun f => { f with repair := [] }).requestUnfence e.val =
        if s.fab.unfence.contains e.val then s.setFlt fun f => { f with repair := [] }
        else (s.setFlt fun f => { f with repair := [] }).setFab fun f => { f with unfence := f.unfence ++ [e.val] } := by
      have ha' : (s.setFlt fun f => { f with repair := [] }).active e.val = false := ha
      have hon' : (s.setFlt fun f => { f with repair := [] }).domOn (3 + e.val / 8) = true := hon
      simp only [State.requestUnfence, ha', hon', Bool.false_or, if_true]
      rfl
    have hmem : e.val ∈ ((s.setFlt fun f => { f with repair := [] }).requestUnfence e.val).fab.unfence :=
      State.mem_requestUnfence ha hon
    refine ⟨_, hx, hmem, ?_, ?_, hask.mem⟩
    · rw [hun]; split <;> rfl
    · rw [hun]; split <;> rfl

end Sys2Proof.Machine
end

section
/-!
PROOFS. A fetch of the two-wire target (R458, R459).
-/

namespace Sys2Proof.Machine

/-- PD_CTRL is on and answers, but a power-on sequence has yet to come to it, and the target is in legacy mode. -/
def awaitedCtrl : State :=
  { State.reset with
    regs := [(R.PWR_DOM_ON, 0xFFFFFFFF), (R.TWI_TGT_CFG, 1)]
    pwr := { State.reset.pwr with seq := [1] } }

/-- There a fetch of the word at offset 0 is held: nothing is sent. -/
theorem awaitedCtrl_fetch_outbox : ∃ t : State, exec (.twiTargetReadFetch true 1) awaitedCtrl = .next t ∧ t.outbox = [] := by
  have hon : awaitedCtrl.domOn 1 = true := by decide
  have hx : (awaitedCtrl.tgtStart none (.fetch 1)).outbox = [] := by decide
  exact ⟨_, congrArg Host.Outcome.next (State.ifCtrl_of_on hon _), hx⟩

theorem State.outbox_tgtSend (s : State) (v : Word) (n : Nat) :
    (s.tgtSend v n).outbox = s.outbox ++ [.twi 3 (slice (leBytes 4 v.toNat) (s.tgtPtr % 4) n)] := rfl

/-- Refutes O56: a fetch from a register that answers is held all the same where the sequence of R475 has yet to come to the
register's domain and the target is in legacy mode. -/
theorem not_theTwoWireTargetReadsAndWritesRegisters : ¬ Obligations.TheTwoWireTargetReadsAndWritesRegisters := by
  unfold Obligations.TheTwoWireTargetReadsAndWritesRegisters
  intro h
  have hon : awaitedCtrl.domOn 1 = true := by decide
  have htgt : awaitedCtrl.tgt = {} := rfl
  obtain ⟨hidle, -, -⟩ := h awaitedCtrl 0 0 [] 0 0 0 0 0 1 false (0, 0) [] (.fetch 0) hon
  obtain ⟨-, -, -, -, -, ⟨-, -, -, hanswers, -, -⟩, -⟩ := hidle htgt
  have hmap : (awaitedCtrl.count R.TWI_TGT_XFER_CNT).tgtMap (awaitedCtrl.tgtPtr / 4 * 4) = some 0 := by decide
  have hans : (awaitedCtrl.count R.TWI_TGT_XFER_CNT).answers 0 = true := by decide
  obtain ⟨t, ht, hempty⟩ := awaitedCtrl_fetch_outbox
  have hsent := hanswers (by decide) hmap hans
  rw [ht] at hsent
  have hout := congrArg State.outbox (Host.Outcome.next.inj hsent)
  rw [hempty, State.outbox_tgtSend] at hout
  exact absurd hout.symm (by simp)

end Sys2Proof.Machine
end

section
/-!
SUPPORT. A table whose records are all mapped.
-/

namespace Sys2Proof.Tbl

variable {α : Type} {d : Nat → α} {f : α → α}

theorem get_of_notMem {t : List (Nat × α)} {a : Nat} (h : ∀ e ∈ t, e.1 ≠ a) : get d t a = d a := by
  induction t with
  | nil => rfl
  | cons e t ih => simp only [get, if_neg (h e (by simp)), ih fun x hx => h x (by simp [hx])]

variable [DecidableEq α]

/-- Setting the mapped records of a table with rising keys one after another. -/
theorem get_foldl_map {l : List (Nat × α)} (hl : l.Pairwise fun x y => x.1 < y.1) (t : List (Nat × α)) (a : Nat) :
    get d (l.foldl (fun t e => set d t e.1 (f e.2)) t) a =
      if ∃ e ∈ l, e.1 = a then f (get d l a) else get d t a := by
  induction l generalizing t with
  | nil => simp
  | cons e l ih =>
    obtain ⟨k, v⟩ := e
    obtain ⟨hk, hl⟩ := List.pairwise_cons.1 hl
    rw [List.foldl_cons, ih hl]
    by_cases hin : ∃ e ∈ l, e.1 = a
    · obtain ⟨x, hx, rfl⟩ := hin
      have hne : k ≠ x.1 := ne_of_lt (hk x hx)
      rw [if_pos ⟨x, hx, rfl⟩, if_pos ⟨x, by simp [hx], rfl⟩, get, if_neg hne]
    · rw [if_neg hin, get_set]
      by_cases hka : k = a
      · rw [if_pos hka, if_pos ⟨(k, v), by simp, hka⟩, get, if_pos hka]
      · have hno : ¬ ∃ e ∈ (k, v) :: l, e.1 = a := by
          rintro ⟨x, hx, rfl⟩
          rcases List.mem_cons.1 hx with rfl | hx
          · exact hka rfl
          · exact hin ⟨x, hx, rfl⟩
        rw [if_neg hka, if_neg hno]

end Sys2Proof.Tbl

namespace Sys2Proof.Machine

/-- Mapping keeps what an unlisted record reads as: each record reads as mapped. -/
theorem get_mapTbl {α : Type} [DecidableEq α] {d : Nat → α} {f : α → α} {t : List (Nat × α)} (ht : Tbl.wf d t)
    (hf : ∀ a, f (d a) = d a) (a : Nat) : Tbl.get d (mapTbl d f t) a = f (Tbl.get d t a) := by
  rw [mapTbl, Tbl.get_foldl_map ht.1]
  split
  · rfl
  next h =>
    push Not at h
    rw [Tbl.get_of_notMem h, hf]

theorem mapTbl_wf {α : Type} [DecidableEq α] {d : Nat → α} {f : α → α} {t : List (Nat × α)} (ht : Tbl.wf d t) :
    Tbl.wf d (mapTbl d f t) := by
  have h (l u : List (Nat × α)) (hu : Tbl.wf d u) : Tbl.wf d (l.foldl (fun t e => Tbl.set d t e.1 (f e.2)) u) := by
    induction l generalizing u with
    | nil => exact hu
    | cons e l ih => exact ih _ (Tbl.set_wf _ _ hu)
  exact h t t ht

end Sys2Proof.Machine
end

section
/-!
PROOFS. Fades that end, deferred changes that apply, and meter records (R143, R149, R156, R162, R168, R169).
-/

namespace Sys2Proof.Machine

/-! ## The end of fades -/

/-- The registers that count the active and the fading objects of the mix block. -/
def fadeRegs : List Nat := [R.RTE_ACTIVE, R.RTE_FADING, R.MIX_XP_ACTIVE, R.MIX_XP_FADING, R.DYN_ACTIVE]

theorem State.mixCounts_onlyFadeRegs (s : State) : State.OnlyRegs fadeRegs s s.mixCounts := by
  unfold State.mixCounts
  dsimp only
  refine .trans (.trans (.trans (.trans (.put ?_ _ _) (.put ?_ _ _)) (.put ?_ _ _)) (.put ?_ _ _)) (.put ?_ _ _)
  all_goals simp [fadeRegs]

/-- A fade is over once as many samples have passed as it is long, or where its start lies ahead (log entry 12). -/
theorem State.fadeOver_eq (s : State) (n0 len : Nat) :
    s.fadeOver n0 len = decide (s.tickNum < n0 ∨ len ≤ (s.tickNum - n0) * s.T) := by
  unfold State.fadeOver State.fadeK
  by_cases h : s.tickNum < n0
  · rw [if_pos h]; simp [h]
  · rw [if_neg h]; simp [h]

/-- Taking a value out of an option where a condition holds. -/
theorem Option.filter_not_eq_bind {α : Type} (p : α → Bool) (o : Option α) :
    (o.filter fun x => !p x) = o.bind fun x => if p x = true then none else some x := by
  cases o with
  | none => rfl
  | some x => cases h : p x <;> simp [h]

theorem State.endFades_onlyRegs (s : State) : ∃ m, State.OnlyRegs fadeRegs (s.setMix fun _ => m) s.endFades ∧
    m.route = mapTbl (fun _ => {}) s.endRteFades s.mix.route ∧ m.xp = mapTbl (fun _ => {}) s.endXpFades s.mix.xp ∧
    m.dyn = mapTbl (fun _ => {}) s.endDynFades s.mix.dyn ∧ m.bus = s.mix.bus :=
  ⟨_, State.mixCounts_onlyFadeRegs _, rfl, rfl, rfl, rfl⟩

section
variable {s : State} (hr : Tbl.wf (fun _ => ({} : RouteSt)) s.mix.route) (i : Nat)
include hr

theorem State.rte_endFades : s.endFades.rte i = s.endRteFades (s.rte i) := by
  obtain ⟨m, h, hm, -, -, -⟩ := s.endFades_onlyRegs
  rw [State.rte, h.mix]
  exact (congrArg (fun t => Tbl.get (fun _ => ({} : RouteSt)) t i) hm).trans (get_mapTbl hr (fun _ => rfl) i)

end

/-! ## Deferred changes (R149) -/

/-- A deferred change of a route entry whose fades are over takes effect. -/
def State.appliedRoute (s : State) (r : RouteSt) : RouteSt :=
  match r.defer with
  | some n => if r.fading then r else { s.startRoute r n with defer := none }
  | none => r

theorem State.busFirst_changes (s : State) : ∃ b, s.busFirst = s.setMix fun m => { m with bus := b } := by
  unfold State.busFirst
  split
  · have h (l : List Nat) (f : Nat → Bus) (s : State) : ∃ b,
        l.foldl (fun s i => s.setMix fun m => { m with bus := Tbl.set (fun _ => {}) m.bus i (f i) }) s =
          s.setMix fun m => { m with bus := b } := by
      induction l generalizing s with
      | nil => exact ⟨s.mix.bus, rfl⟩
      | cons i l ih =>
        obtain ⟨b, hb⟩ := ih (s.setMix fun m => { m with bus := Tbl.set (fun _ => {}) m.bus i (f i) })
        exact ⟨b, hb⟩
    exact h _ _ _
  · exact ⟨s.mix.bus, rfl⟩

theorem State.applyDeferred_onlyRegs (s : State) : ∃ (u : State) (b : List (Nat × Bus)) (m : Mix),
    u = (s.endFades.setMix fun m => { m with bus := b }) ∧
    State.OnlyRegs fadeRegs (u.setMix fun _ => m) s.applyDeferred ∧
    m.route = mapTbl (fun _ => {}) u.appliedRoute s.endFades.mix.route := by
  obtain ⟨b, hb⟩ := s.endFades.busFirst_changes
  unfold State.applyDeferred
  rw [hb]
  exact ⟨_, b, _, rfl, State.mixCounts_onlyFadeRegs _, rfl⟩

/-- An enabled change's entry is in force once it starts. -/
theorem State.startRoute_e {s : State} {r : RouteSt} {n : Route} (h : n.enable = true) : (s.startRoute r n).e = n := by
  unfold State.startRoute
  rw [h]
  simp only [Bool.not_true, Bool.and_false, Bool.false_eq_true, if_false, if_true, State.endRteFades]

/-! ## Meter records (R168, R169) -/

theorem State.pushMeter_changes (s : State) (k : Nat) (b : List Byte) :
    s.SameButHost (s.pushMeter k b) ∧ ((s.pushMeter k b).ring 9).prod % 2 ^ 32 = ((s.ring 9).prod + k) % 2 ^ 32 := by
  induction k generalizing s b with
  | zero => exact ⟨.refl s, rfl⟩
  | succ k ih =>
    obtain ⟨h, hp⟩ := ih (s.pushRing 9 16 (b.take 16)) (b.drop 16)
    have hring : ((s.pushRing 9 16 (b.take 16)).ring 9).prod = ((s.ring 9).prod + 1) % 2 ^ 32 := by
      rw [State.pushRing, State.ring_setRing, if_pos rfl]
    refine ⟨(s.pushRing_sameButHost 9 16 _).trans h, hp.trans ?_⟩
    rw [hring]
    omega

theorem State.meterPost_of_due {s : State} (h0 : s.fld F.MIX_METER_CFG_interval ≠ 0)
    (hd : s.tickNum % s.fld F.MIX_METER_CFG_interval = 0) (hm : s.mix.meterTicks ≠ 0) :
    s.meterPost = (if s.hostUp && (s.ring 9).en && decide (s.meterRecord.length / 16 ≤ s.ringRoom 9) then
      (s.pushMeter (s.meterRecord.length / 16) s.meterRecord).setMix fun m => { m with meterNew := false }
      else s.count R.MIX_METER_DROP_CNT).meterClear := by
  unfold State.meterPost
  extract_lets n rec' k s1
  exact if_neg (by simp [n, h0, hd, hm])

/-- Settles O32: each command maps the tables' records; a record read is a record mapped. -/
theorem fadesEndAndDeferredChangesApply : Obligations.FadesEndAndDeferredChangesApply := by
  unfold Obligations.FadesEndAndDeferredChangesApply
  intro s i n counts past
  have hpast (n0 len : Nat) : s.fadeOver n0 len = past n0 len := s.fadeOver_eq n0 len
  refine ⟨fun hr hx hd => ⟨?_, fun hdef hen hcross htap => ?_⟩, fun h0 hdue hm => ⟨fun hup hring hroom => ?_, fun hup => ?_⟩⟩
  · obtain ⟨m, h, hmr, hmx, hmd, -⟩ := s.endFades_onlyRegs
    refine ⟨s.endFades, rfl, ?_, ?_, ?_, ?_, h.mem, h.clk, h.fab⟩
    · rw [State.rte_endFades hr]
      simp only [State.endRteFades, Option.filter_not_eq_bind, hpast]
    · intro x
      have hget : Tbl.get (fun _ => {}) s.endFades.mix.xp i = s.endXpFades x := by
        rw [h.mix]
        exact (congrArg (fun t => Tbl.get (fun _ => ({} : XpSt)) t i) hmx).trans (get_mapTbl hx (fun _ => rfl) i)
      rw [hget]
      simp only [State.endXpFades, Option.filter_not_eq_bind, hpast]
    · have hget : s.endFades.dynU i = s.endDynFades (s.dynU i) := by
        rw [State.dynU, h.mix]
        exact (congrArg (fun t => Tbl.get (fun _ => ({} : DynSt)) t i) hmd).trans (get_mapTbl hd (fun _ => rfl) i)
      rw [hget]
      simp only [State.endDynFades, Option.filter_not_eq_bind, hpast]
    · exact h.keeps
  · obtain ⟨m0, h0, hmr0, -⟩ := s.endFades_onlyRegs
    obtain ⟨u, b, m, hu, h, hmr⟩ := s.applyDeferred_onlyRegs
    have hwf : Tbl.wf (fun _ => ({} : RouteSt)) s.endFades.mix.route := by
      rw [h0.mix]
      exact hmr0 ▸ mapTbl_wf hr
    have hget : s.applyDeferred.rte i = u.appliedRoute (s.endRteFades (s.rte i)) := by
      rw [← State.rte_endFades hr, State.rte, h.mix]
      exact (congrArg (fun t => Tbl.get (fun _ => ({} : RouteSt)) t i) hmr).trans (get_mapTbl hwf (fun _ => rfl) i)
    have hnone {α : Type} (o : Option α) (p : α → Bool) (ho : o.all p = true) : (o.filter fun x => !p x) = none := by
      cases o with
      | none => rfl
      | some x =>
        have hx : p x = true := ho
        simp [hx]
    have hcross' : (s.endRteFades (s.rte i)).cross = none := by
      have := hnone (s.rte i).cross (fun f => s.fadeOver f.2.n0 f.2.len) (by simpa only [hpast] using hcross)
      exact this
    have htap' : (s.endRteFades (s.rte i)).tap = none := by
      have := hnone (s.rte i).tap (fun f => s.fadeOver f.2.1 f.2.2) (by simpa only [hpast] using htap)
      exact this
    have hdef' : (s.endRteFades (s.rte i)).defer = some n := hdef
    have happ : u.appliedRoute (s.endRteFades (s.rte i)) = { u.startRoute (s.endRteFades (s.rte i)) n with defer := none } := by
      simp only [State.appliedRoute, hdef', RouteSt.fading, hcross', htap', Option.isSome_none, Bool.or_self, Bool.false_eq_true,
        if_false]
    refine ⟨s.applyDeferred, rfl, ?_, ?_, fun o ho => ?_, ?_, ?_, ?_⟩
    · rw [hget, happ]
    · rw [hget, happ]
      exact State.startRoute_e hen
    · refine (h.keeps o ho).trans ?_
      rw [hu]
      exact h0.keeps o ho
    · rw [h.mem, hu]; exact h0.mem
    · rw [h.clk, hu]; exact h0.clk
    · rw [h.fab, hu]; exact h0.fab
  · obtain ⟨hsame, hprod⟩ := s.pushMeter_changes (s.meterRecord.length / 16) s.meterRecord
    have hx : s.meterPost = ((s.pushMeter (s.meterRecord.length / 16) s.meterRecord).setMix fun m =>
        { m with meterNew := false }).meterClear := by
      rw [State.meterPost_of_due h0 hdue hm, hup, hring, decide_eq_true hroom]
      rfl
    refine ⟨s.meterPost, rfl, ?_⟩
    rw [hx]
    obtain ⟨x, o, hs⟩ := hsame
    refine ⟨hprod, rfl, rfl, ?_, ?_, ?_⟩ <;> rw [hs] <;> rfl
  · refine congrArg Host.Outcome.next ?_
    rw [State.meterPost_of_due h0 hdue hm, hup]
    rfl

end Sys2Proof.Machine
end

section
/-!
PROOFS. The doorbell fetch and the shadow block (R24, R344, R346, R347).
-/

namespace Sys2Proof.Machine

/-! ## Taking the host's indices -/

/-- The registers that show an error of a ring. -/
def ringErrRegs : List Nat := [R.HIF_STATUS, R.HIF_RING_ERR]

theorem State.ringErr_onlyRegs (s : State) (r : Nat) : State.OnlyRegs ringErrRegs s (s.ringErr r) :=
  .trans (.setFlag (by simp [ringErrRegs]) _ _) (.setFld (by simp [ringErrRegs]) _ _)

theorem State.takeProd_reacts (s : State) (r v : Nat) : s.Reacts ringErrRegs (s.takeProd r v) :=
  .ite (fun _ => .refl s) fun _ => .ite (fun _ => .of_onlyRegs (s.ringErr_onlyRegs r)) fun _ => .setRing _ _ _

theorem State.takeCons_reacts (s : State) (r v : Nat) : s.Reacts ringErrRegs (s.takeCons r v) :=
  .ite (fun _ => .refl s) fun _ => .ite (fun _ => .of_onlyRegs (s.ringErr_onlyRegs r)) fun _ => .setRing _ _ _

/-- The index of one ring leaves every other ring. -/
theorem State.ring_takeProd_of_ne (s : State) {r q : Nat} (h : r ≠ q) (v : Nat) : (s.takeProd r v).ring q = s.ring q := by
  unfold State.takeProd
  extract_lets x
  split
  · rfl
  split
  · rw [State.ring, (s.ringErr_onlyRegs r).hif, State.ring]
  · rw [State.ring_setRing, if_neg h]

theorem State.ring_takeCons_of_ne (s : State) {r q : Nat} (h : r ≠ q) (v : Nat) : (s.takeCons r v).ring q = s.ring q := by
  unfold State.takeCons
  extract_lets x
  split_ifs
  · rfl
  · rw [State.ring, (s.ringErr_onlyRegs r).hif, State.ring]
  · rw [State.ring_setRing, if_neg h]

/-- A new index of an enabled ring that lies within it is taken (R346). -/
theorem State.prod_takeProd {s : State} {r v : Nat} (he : (s.ring r).en = true) (hv : v ≠ (s.ring r).prod)
    (hd : Sys2Proof.Machine.dist v (s.ring r).cons ≤ s.ringSize r) : ((s.takeProd r v).ring r).prod = v := by
  have h1 : ¬(!(s.ring r).en || decide (v = (s.ring r).prod)) = true := by simp [he, hv]
  have hx : s.takeProd r v = s.setRing r { s.ring r with prod := v, issue := if r < 4 then (s.ring r).issue ++ [(v, s.tickNum - 1)]
      else (s.ring r).issue } := (if_neg h1).trans (if_neg (by omega))
  rw [hx, State.ring_setRing, if_pos rfl]

/-- The doorbell block's indices, in the order in which they are taken. -/
def State.takeIndices (s : State) (db : List Byte) : State :=
  let s := (List.range 4).foldl (fun s r => s.takeProd r (leAt db (4 * r) 4)) s
  let s := (List.range 4).foldl (fun s r => s.takeCons (4 + r) (leAt db (16 + 4 * r) 4)) s
  let s := (s.takeCons 8 (leAt db 32 4)).takeCons 9 (leAt db 36 4)
  (s.takeProd 10 (leAt db 40 4)).takeProd 11 (leAt db 44 4)

theorem State.takeDoorbell_eq (s : State) (db : List Byte) : s.takeDoorbell db =
    ((s.takeIndices db).setHif fun h => { h with hostTag := leAt db 48 4, fetching := false, fetched := true }).overflow := rfl

theorem State.takeIndices_reacts (s : State) (db : List Byte) : s.Reacts ringErrRegs (s.takeIndices db) := by
  unfold State.takeIndices
  extract_lets s1 s2 s3
  have h1 : s.Reacts ringErrRegs s1 := .foldl _ (fun s r _ => s.takeProd_reacts r _) s
  have h2 : s1.Reacts ringErrRegs s2 := .foldl _ (fun s r _ => s.takeCons_reacts (4 + r) _) s1
  have h3 : s2.Reacts ringErrRegs s3 := (s2.takeCons_reacts 8 _).trans (State.takeCons_reacts _ 9 _)
  exact ((h1.trans h2).trans h3).trans ((s3.takeProd_reacts 10 _).trans (State.takeProd_reacts _ 11 _))

/-- Ring 0 is as its own index leaves it. -/
theorem State.ring_takeIndices (s : State) (db : List Byte) : (s.takeIndices db).ring 0 = (s.takeProd 0 (leAt db 0 4)).ring 0 := by
  have h4 : List.range 4 = [0, 1, 2, 3] := rfl
  simp only [State.takeIndices, h4, List.foldl_cons, List.foldl_nil, ne_eq, Nat.add_eq_zero_iff, OfNat.ofNat_ne_zero, one_ne_zero,
    and_false, false_and, not_false_eq_true, State.ring_takeProd_of_ne, State.ring_takeCons_of_ne]

/-- An overflow event leaves the fetch and every ring but the event ring. -/
theorem State.overflow_fetch (s : State) : s.overflow.hif.fetched = s.hif.fetched ∧ s.overflow.hif.fetching = s.hif.fetching ∧
    s.overflow.hif.hostTag = s.hif.hostTag ∧ s.overflow.ring 0 = s.ring 0 := by
  unfold State.overflow
  split
  · exact ⟨rfl, rfl, rfl, rfl⟩
  · exact ⟨rfl, rfl, rfl, (State.ring_setRing _ 8 0 _).trans (if_neg (by decide))⟩

/-! ## The shadow block (R347, R368) -/

theorem State.sendMsix_reacts (s : State) (v : Nat) : s.Reacts [] (s.sendMsix v) :=
  .ite (fun _ => .setHif _ _) fun _ => .emit _ _

theorem State.ringIrq_reacts (s : State) (r : Nat) : s.Reacts [] (s.ringIrq r) :=
  .ite (fun _ => (State.Reacts.setRing _ _ _).trans (State.sendMsix_reacts _ _)) fun _ => .refl s

/-- What a completed fetch leaves: the host's tag, the fetch over, and ring 0 as its own index leaves it. -/
theorem State.takeDoorbell_fetched (s : State) (db : List Byte) : (s.takeDoorbell db).hif.fetched = true ∧
    (s.takeDoorbell db).hif.fetching = false ∧ (s.takeDoorbell db).hif.hostTag = leAt db 48 4 ∧
    (s.takeDoorbell db).ring 0 = (s.takeProd 0 (leAt db 0 4)).ring 0 := by
  rw [State.takeDoorbell_eq, ← s.ring_takeIndices db]
  obtain ⟨u, hu⟩ : ∃ u, u = s.takeIndices db := ⟨_, rfl⟩
  rw [← hu]
  exact State.overflow_fetch (u.setHif fun h => { h with hostTag := leAt db 48 4, fetching := false, fetched := true })

theorem State.takeDoorbell_reacts (s : State) (db : List Byte) : s.Reacts ringErrRegs (s.takeDoorbell db) := by
  have h := s.takeIndices_reacts db
  rw [State.takeDoorbell_eq]
  obtain ⟨u, hu⟩ : ∃ u, u = s.takeIndices db := ⟨_, rfl⟩
  rw [← hu] at h ⊢
  exact (h.trans (.setHif _ _)).trans (.overflow _)

/-- The state in which the shadow block is out and the rings' interrupts have followed (R347, R368). -/
theorem State.writeShadow_of_traffic {s : State} (ht : s.traffic = true) (hs : s.hif.shadowed = false) :
    ∃ v, (s.emit (.hostWrite (s.pair R.HIF_SH_ADDR_LO R.HIF_SH_ADDR_HI / 64 * 64) s.shadowBlock)).Reacts [] v ∧
      s.writeShadow = v.setHif fun h => { h with shadowed := true, faultEvt := false } := by
  unfold State.writeShadow
  extract_lets u v
  exact ⟨v, .foldl _ (fun s k _ => s.ringIrq_reacts (4 + k)) u, if_pos (by rw [ht, hs]; rfl)⟩

/-- Settles O12: indices touch their own ring; the block goes out before the interrupts. -/
theorem doorbellFetchAndShadow : Obligations.DoorbellFetchAndShadow := by
  unfold Obligations.DoorbellFetchAndShadow
  intro db s
  refine ⟨fun hf => ⟨⟨s.takeDoorbell db, congrArg Host.Outcome.next (if_pos hf), ?_⟩, ?_⟩, fun ht hs => ?_⟩
  · have hr := s.takeDoorbell_reacts db
    obtain ⟨hfetched, hfetching, htag, hring⟩ := s.takeDoorbell_fetched db
    exact ⟨hfetched, hfetching, htag, fun he hv hd => by rw [hring, State.prod_takeProd he hv hd], hr.keeps, hr.mem, hr.clk⟩
  · have hx : exec .doorbellFetchLate s = .next s.fetchLate := congrArg Host.Outcome.next (if_pos hf)
    exact hx
  · obtain ⟨v, hv, hx⟩ := State.writeShadow_of_traffic ht hs
    have hr : s.Reacts [] s.writeShadow := hx ▸ ((State.Reacts.emit s _).trans hv).trans (.setHif _ _)
    refine ⟨s.writeShadow, rfl, by rw [hx]; rfl, ?_, hr.keeps, hr.mem, hr.clk⟩
    rw [hx]
    exact hv.sent (List.mem_append_right _ (List.mem_singleton.2 rfl))

end Sys2Proof.Machine
end

section
/-!
PROOFS. Loading a graph and discarding it (R43, R52, R75).
-/

namespace Sys2Proof.Machine

/-! ## The checks read nothing that taking the command changes -/

section
variable {s t : State}

/-- Every register but HIF_CMD_CNT reads as before the command was taken. -/
theorem State.reg_takeCmd (s : State) (r : Nat) {o : Nat} (h : R.HIF_CMD_CNT ≠ o) : (s.takeCmd r).reg o = s.reg o :=
  ((s.takeCmd_sameButHost r).reg _).trans (s.reg_put_of_ne _ h)

theorem State.active_takeCmd (s : State) (r : Nat) {e : Nat} (h : e < 96) : (s.takeCmd r).active e = s.active e := by
  have hne : ∀ j < 3, R.HIF_CMD_CNT ≠ R.FAB_ACTIVE j := by decide
  unfold State.active
  rw [State.unfenced_of_reg (s.reg_takeCmd r (hne _ (by omega))), State.domOn_of_reg (s.reg_takeCmd r (by decide))]

theorem State.activeCount_takeCmd (s : State) (r : Nat) : (s.takeCmd r).activeCount = s.activeCount := by
  unfold State.activeCount
  rw [List.filter_congr fun e he => s.active_takeCmd r (List.mem_range.1 he)]

/-- The numbers of R12 to R15 are fields of TCK_CFG. -/
theorem State.watermark_of_reg (h : t.reg R.TCK_CFG = s.reg R.TCK_CFG) : t.watermark = s.watermark := by
  have hf (f : Fld) (hr : f.reg = R.TCK_CFG) : t.fld f = s.fld f := State.fld_of_reg (hr ▸ h)
  rw [State.watermark, State.budget, State.tickU, State.T, State.sampU, hf _ rfl, hf _ rfl, State.watermark, State.budget,
    State.tickU, State.T, State.sampU]

theorem State.imageErr_takeCmd (s : State) (r : Nat) (g : Image) : (s.takeCmd r).imageErr g = s.imageErr g := by
  have hcfg : (s.takeCmd r).reg R.TCK_CFG = s.reg R.TCK_CFG := s.reg_takeCmd r (by decide)
  have hf (f : Fld) (hr : f.reg = R.TCK_CFG) : (s.takeCmd r).fld f = s.fld f := State.fld_of_reg (hr ▸ hcfg)
  have hw : (s.takeCmd r).writersOk g.taskList = s.writersOk g.taskList := rfl
  unfold State.imageErr
  rw [hw, hf _ rfl, hf _ rfl, State.throughputOk, State.criticalOk, State.nslots, hf _ rfl, s.activeCount_takeCmd,
    State.watermark_of_reg hcfg, State.throughputOk, State.criticalOk, State.nslots]

end

/-! ## The capacity check (R75) -/

/-- Checking the capacity sets cap_short as it must be, and begins or ends a condition of the collector. -/
theorem State.capacityCheck_reacts (s : State) : ∃ b, (s.setFlag F.FAB_STATUS_cap_short b).Reacts condRegs s.capacityCheck := by
  unfold State.capacityCheck
  split
  · exact ⟨true, .condBegin _ _ (by decide)⟩
  · exact ⟨false, .condEnd _ 4⟩

theorem State.flag_loaded_capacityCheck (s : State) : s.capacityCheck.flag F.FAB_STATUS_loaded = s.flag F.FAB_STATUS_loaded := by
  obtain ⟨b, h⟩ := s.capacityCheck_reacts
  exact (State.flag_of_reg (h.keeps _ (by decide))).trans (State.flag_setFlag_of_apart _ _ _ _ (by decide) (by decide))

theorem State.capacityCheck_eng (s : State) : s.capacityCheck.eng = s.eng := by
  obtain ⟨b, h⟩ := s.capacityCheck_reacts
  exact h.eng

theorem State.capacityCheck_fab (s : State) : s.capacityCheck.fab = s.fab := by
  obtain ⟨b, h⟩ := s.capacityCheck_reacts
  exact h.fab

/-! ## An accepted load (R43, R52, R53) -/

/-- Engines whose clusters are off lose their bits of FAB_ACTIVE. -/
theorem State.fenceOff_onlyRegs (s : State) : State.OnlyRegs [R.FAB_ACTIVE 0, R.FAB_ACTIVE 1, R.FAB_ACTIVE 2] s s.fenceOff := by
  have hreg : ∀ j < 3, R.FAB_ACTIVE j ∈ [R.FAB_ACTIVE 0, R.FAB_ACTIVE 1, R.FAB_ACTIVE 2] := by decide
  refine .foldl _ (fun s e he => .setFlag (hreg _ ?_) _ _) s
  have := List.mem_range.1 (List.mem_filter.1 he).1
  omega

theorem State.loadCodes_mem (es : List Nat) (s : State) : ∃ m, es.foldl State.loadCode s = { s with mem := m } := by
  induction es generalizing s with
  | nil => exact ⟨s.mem, rfl⟩
  | cons e es ih =>
    obtain ⟨m, h⟩ := s.loadCode_mem e
    obtain ⟨n, k⟩ := ih (s.loadCode e)
    exact ⟨n, by rw [List.foldl_cons, k, h]⟩

/-- What a state shows after a load or an unload. -/
structure State.ShowsGraph (s t : State) (g : Option Graph) (id : Word) : Prop where
  graph : t.fab.graph = g
  loaded : t.flag F.FAB_STATUS_loaded = g.isSome
  shown : t.reg R.FAB_GRAPH_ID = id
  eng : t.eng = s.eng
  clk : t.clk = s.clk
  run : t.run = s.run

/-- The registers show a graph, its reserve and capacity. -/
def State.showGraph (s : State) (on : Bool) (id : Word) (reserve avail : Nat) : State :=
  ((((s.setFlag F.FAB_STATUS_loaded on).put R.FAB_GRAPH_ID id).setFld F.FAB_RESERVE_reserve reserve).setFld F.FAB_RESERVE_e_avail
    avail).capacityCheck

theorem State.showGraph_shows (s : State) (id : Word) (n m : Nat) :
    State.ShowsGraph s (s.showGraph s.fab.graph.isSome id n m) s.fab.graph id := by
  unfold State.showGraph
  obtain ⟨u, hu⟩ : ∃ u, u = (((s.setFlag F.FAB_STATUS_loaded s.fab.graph.isSome).put R.FAB_GRAPH_ID id).setFld
    F.FAB_RESERVE_reserve n).setFld F.FAB_RESERVE_e_avail m := ⟨_, rfl⟩
  rw [← hu]
  have hcap := State.Frame.capacityCheck u
  have hid : u.reg R.FAB_GRAPH_ID = id := by
    rw [hu, State.reg_setFld_of_ne _ _ (by decide), State.reg_setFld_of_ne _ _ (by decide), State.reg_put_self]
  have hlo : u.flag F.FAB_STATUS_loaded = s.fab.graph.isSome := by
    have h2 : u.flag F.FAB_STATUS_loaded = (s.setFlag F.FAB_STATUS_loaded s.fab.graph.isSome).flag F.FAB_STATUS_loaded :=
      hu ▸ State.flag_of_reg ((((State.OnlyRegs.put (l := [R.FAB_GRAPH_ID, R.FAB_RESERVE]) (by decide) _ _).trans
        (.setFld (by decide) _ _)).trans (.setFld (by decide) _ _)).keeps _ (by decide))
    exact h2.trans (State.flag_setFlag_self _ _ _ (by decide) rfl)
  have hf : u.fab = s.fab := hu ▸ rfl
  refine ⟨by rw [u.capacityCheck_fab, hf], u.flag_loaded_capacityCheck.trans hlo, (hcap.keeps _ (by decide)).trans hid, ?_, ?_, ?_⟩
  · rw [u.capacityCheck_eng, hu]; rfl
  · rw [hcap.clk, hu]; rfl
  · rw [hcap.run, hu]; rfl

theorem State.loadGraph_shows (s : State) (g : Image) :
    State.ShowsGraph s (s.loadGraph g) (some g.graph) (word g.graph.id) := by
  unfold State.loadGraph
  extract_lets s1 f s2 s3 s4 s5
  have h1 : State.OnlyRegs _ s s1 := s.fenceOff_onlyRegs
  obtain ⟨m, h3⟩ : ∃ m, s3 = { s2 with mem := m } := State.loadCodes_mem _ s2
  obtain ⟨n, h4⟩ : ∃ n, s4 = { s3 with mem := n } := ⟨_, s3.putBytes_changes _ _⟩
  have hg : s4.fab.graph = some g.graph := by rw [h4, h3]
  have hx := s4.showGraph_shows (word g.graph.id) g.reserve (s5.activeCount - g.reserve)
  rw [hg] at hx
  have heng : s4.eng = s.eng := by
    rw [h4, h3]
    exact (State.Reacts.of_onlyRegs h1).eng
  have hclk : s4.clk = s.clk := by rw [h4, h3]; exact h1.clk
  have hrun : s4.run = s.run := by rw [h4, h3]; exact h1.run
  exact ⟨hx.graph, hx.loaded, hx.shown, hx.eng.trans heng, hx.clk.trans hclk, hx.run.trans hrun⟩

/-- An unload of a stopped tick's graph. -/
theorem State.unloadGraph_of_stopped {s : State} (h : s.ticking = false) : s.unloadGraph =
    (s.setFab fun f => { f with graph := none, stat := [], phase := none, stages := 0, cur := [], com := [] }).showGraph
      false 0 0 0 := by
  refine (if_neg ?_).trans rfl
  rw [h]
  exact Bool.false_ne_true

theorem State.showGraph_mem (s : State) (on : Bool) (id : Word) (n m : Nat) : (s.showGraph on id n m).mem = s.mem :=
  (State.Frame.capacityCheck _).mem

theorem State.showGraph_fab (s : State) (on : Bool) (id : Word) (n m : Nat) : (s.showGraph on id n m).fab = s.fab :=
  State.capacityCheck_fab _

theorem State.unloadGraph_shows {s : State} (h : s.ticking = false) :
    State.ShowsGraph s s.unloadGraph none 0 ∧ s.unloadGraph.fab.com = [] ∧ s.unloadGraph.mem = s.mem := by
  rw [State.unloadGraph_of_stopped h]
  obtain ⟨u, hu⟩ : ∃ u, u = s.setFab fun f =>
    { f with graph := none, stat := [], phase := none, stages := 0, cur := [], com := [] } := ⟨_, rfl⟩
  rw [← hu]
  have hn : u.fab.graph = none := hu ▸ rfl
  have hx := u.showGraph_shows 0 0 0
  rw [hn, Option.isSome_none] at hx
  refine ⟨⟨hx.graph, hx.loaded, hx.shown, hx.eng.trans (hu ▸ rfl), hx.clk.trans (hu ▸ rfl), hx.run.trans (hu ▸ rfl)⟩, ?_, ?_⟩
  · rw [State.showGraph_fab, hu]; rfl
  · rw [State.showGraph_mem, hu]; rfl

/-! ## GRAPH_LOAD (R40, R52) -/

theorem State.graphCmd_of_ticking {s : State} (h : s.ticking = true) (a : Nat) :
    s.graphCmd a = (s.loadRefused 0x0C, stLoadErr, 0x0C) := if_pos h

theorem State.graphCmd_of_sound {s : State} {a : Nat} {h g : Image} (ht : s.ticking = false) (hh : imageOf (s.bytes a 64) = h)
    (hg : imageOf (s.bytes a (max 64 h.size)) = g) (hr : s.copyRange a 64 = true) (hm : h.magicOk = true)
    (hs : s.copyRange a (max 64 h.size) = true) (he : s.imageErr g = none) :
    s.graphCmd a = (s.loadGraph g, stOk, 0) := by
  unfold State.graphCmd
  simp only [hh, hg, ht, hr, hm, hs, he, Bool.false_eq_true, Bool.not_true, if_false]

/-- A load that need not wait for the DRAM is parsed and executed. -/
theorem exec_graphLoad {c : HostCmd} {s : State} (hc : s.Takes c 0x0010) (h0 : cmdTarget c = 0)
    (hd : s.ticking = true ∨ s.dramReady = true) : exec (.graphLoad c) s =
      .next (((s.takeCmd c.ring).graphCmd (cmdArg c 0 8)).1.endCmd c ((s.takeCmd c.ring).graphCmd (cmdArg c 0 8)).2.1
        ((s.takeCmd c.ring).graphCmd (cmdArg c 0 8)).2.2) := by
  have hw : ¬(untimedOk c 0x0010 && !s.ticking && s.copyRange (cmdArg c 0 8) 64 && !s.dramReady) = true := by
    rcases hd with h | h <;> simp [h]
  exact congrArg Host.Outcome.next ((if_neg hw).trans (State.untimed_of_takes hc h0))

/-- The end of a command leaves all but the completions and the counts of commands. -/
theorem State.ShowsGraph.endCmd {s t : State} {g : Option Graph} {id : Word} (h : State.ShowsGraph s t g id) (c : HostCmd)
    (st d : Nat) : State.ShowsGraph s (t.endCmd c st d) g id := by
  have hf := State.Reacts.finish t c.ring (cmdTag c) (cmdOp c) st d
  exact ⟨(congrArg Fab.graph hf.fab).trans h.graph, (State.flag_of_reg (hf.keeps _ (by decide))).trans h.loaded,
    (hf.keeps _ (by decide)).trans h.shown, hf.eng.trans h.eng, hf.clk.trans h.clk,
    (State.Frame.of_reacts hf).run.trans h.run⟩

/-- Settles O15: a refusal touches FAB_STATUS alone, a load's checks read what the parsed command left. -/
theorem graphLoadAndUnload : Obligations.GraphLoadAndUnload := by
  unfold Obligations.GraphLoadAndUnload
  refine ⟨fun c s hc h0 => ⟨fun ht => ?_, fun ht hd hr hm hs => ?_⟩, fun s => ⟨fun ht => ?_, fun ht => ?_⟩⟩
  · rw [exec_graphLoad hc h0 (.inl ht), State.graphCmd_of_ticking ((s.takeCmd_ticking _).trans ht)]
    rfl
  · intro g he
    have hmem : (s.takeCmd c.ring).mem = s.mem := rfl
    have hb (n : Nat) : (s.takeCmd c.ring).bytes (cmdArg c 0 8) n = s.bytes (cmdArg c 0 8) n := State.bytes_of_mem hmem _ n
    have hcmd : (s.takeCmd c.ring).graphCmd (cmdArg c 0 8) = ((s.takeCmd c.ring).loadGraph g, stOk, 0) :=
      State.graphCmd_of_sound ((s.takeCmd_ticking _).trans ht) (congrArg imageOf (hb 64)) (congrArg imageOf (hb _))
        ((s.takeCmd_copyRange _ _ _).trans hr) hm ((s.takeCmd_copyRange _ _ _).trans hs) ((s.imageErr_takeCmd _ _).trans he)
    have h := ((s.takeCmd c.ring).loadGraph_shows g).endCmd c stOk 0
    refine ⟨((s.takeCmd c.ring).loadGraph g).endCmd c stOk 0, ?_, h.graph, h.loaded, h.shown, h.eng, h.clk, h.run⟩
    rw [exec_graphLoad hc h0 (.inr hd), hcmd]
  · exact congrArg Host.Outcome.next (if_pos ht)
  · have h := State.unloadGraph_shows ht
    exact ⟨s.unloadGraph, rfl, h.1.graph, h.1.loaded, h.1.shown, h.2.1, h.2.2, h.1.eng, h.1.clk, h.1.run⟩

end Sys2Proof.Machine
end

section
/-!
PROOFS. Loads and stores of local words (R71, R81, R89, R100, R105, R109, R125, R126).
-/

namespace Sys2Proof.Machine

/-! ## A word stored reads back (R8) -/

theorem leNat_leBytes (k n : Nat) : leNat (leBytes k n) = n % 256 ^ k := by
  induction k generalizing n with
  | zero => simp [leBytes, leNat, Nat.mod_one]
  | succ k ih =>
    rw [leBytes, leNat, ih, BitVec.toNat_ofNat, pow_succ' 256 k]
    exact Nat.mod_mul.symm

theorem length_leBytes (k n : Nat) : (leBytes k n).length = k := by
  induction k generalizing n with
  | zero => rfl
  | succ k ih => rw [leBytes, List.length_cons, ih]

theorem State.bytes_eq_map (s : State) (a n : Nat) : s.bytes a n = (List.range n).map fun i => s.byte (a + i) := by
  induction n generalizing a with
  | zero => rfl
  | succ n ih =>
    rw [State.bytes, ih, List.range_succ_eq_map, List.map_cons, List.map_map]
    refine congrArg (s.byte a :: ·) (List.map_congr_left fun i _ => ?_)
    rw [Function.comp_apply, Nat.succ_eq_add_one, Nat.add_right_comm, Nat.add_assoc]

theorem State.bytes_putBytes_self (s : State) (a : Nat) (bs : List Byte) : (s.putBytes a bs).bytes a bs.length = bs := by
  rw [State.bytes_eq_map]
  refine List.ext_getElem (by simp) fun i h1 h2 => ?_
  rw [List.getElem_map, List.getElem_range, State.byte_putBytes_of_in _ _ _ _ h2]

theorem State.memWord_putMemWord_self (s : State) (a : Nat) (w : Word) : (s.putMemWord a w).memWord a = w := by
  have h := s.bytes_putBytes_self a (leBytes 4 w.toNat)
  rw [length_leBytes] at h
  rw [State.memWord, State.putMemWord, h, leNat_leBytes, Nat.mod_eq_of_lt (by have := w.isLt; omega)]
  exact BitVec.eq_of_toNat_eq (by simp [word])

/-- A word reads as before where another word is stored. -/
theorem State.memWord_putMemWord_of_apart (s : State) {a b : Nat} (w : Word) (h : a + 4 ≤ b ∨ b + 4 ≤ a) :
    (s.putMemWord b w).memWord a = s.memWord a := by
  rw [State.memWord, State.memWord, State.bytes_eq_map, State.bytes_eq_map]
  refine congrArg (fun l => word (leNat l)) (List.map_congr_left fun i hi => ?_)
  have := List.mem_range.1 hi
  refine s.byte_putBytes_of_out _ _ _ ?_
  rw [length_leBytes]
  omega

theorem State.memWord_of_mem {s t : State} (h : t.mem = s.mem) (a : Nat) : t.memWord a = s.memWord a := by
  rw [State.memWord, State.bytes_of_mem h, State.memWord]

/-- In X and in Y the words of a pair follow each other. -/
theorem localAddr_succ {a : Nat} (e : Nat) (h : a % 2 = 0) : localAddr e (a + 1) = localAddr e a + 4 := by
  unfold localAddr
  split_ifs <;> omega

/-! ## What a slot changes of its engine -/

/-- From `s` to `t` engine `e` becomes `g`; the other engines, the fabric, registers, memory and time stay. -/
structure State.EngineOnly (s t : State) (e : Nat) (g : Engine) : Prop where
  engine : t.engine e = g
  others : ∀ x, x ≠ e → t.engine x = s.engine x
  clk : t.clk = s.clk
  fab : t.fab = s.fab
  regs : t.regs = s.regs
  mem : t.mem = s.mem

namespace State.EngineOnly

variable {s t : State} {e a : Nat} {g : Engine}

theorem setEngine (s : State) (e : Nat) (g : Engine) : s.EngineOnly (s.setEngine e g) e g :=
  ⟨s.engine_setEngine_self e g, fun _ hx => s.engine_setEngine_of_ne e g (Ne.symm hx), rfl, rfl, rfl, rfl⟩

theorem trans {u : State} {g' : Engine} (h : s.EngineOnly t e g) (k : t.EngineOnly u e g') : s.EngineOnly u e g' :=
  ⟨k.engine, fun x hx => (k.others x hx).trans (h.others x hx), k.clk.trans h.clk, k.fab.trans h.fab, k.regs.trans h.regs,
    k.mem.trans h.mem⟩

theorem flyE (h : s.EngineOnly t e g) (fs : List Flight) : s.EngineOnly (t.flyE e fs) e (g.fly fs) :=
  h.trans (h.engine ▸ setEngine t e _)

theorem later (h : s.EngineOnly t e g) (x : Late) : s.EngineOnly (t.later e x) e { g with late := g.late ++ [x] } :=
  h.trans (h.engine ▸ setEngine t e _)

theorem localWord (h : s.EngineOnly t e g) (a : Nat) : t.localWord e a = s.localWord e a := State.memWord_of_mem h.mem _

/-- A load that no transfer covers sends the word to its register (R89, R105). -/
theorem loadTo (h : s.EngineOnly t e g) (hd : g.inDma a = false) (d : Nat) :
    s.EngineOnly (t.loadTo e d a) e (g.fly (toD d (s.localWord e a) 2)) := by
  have hl : t.loadVal e a = s.localWord e a := by
    rw [State.loadVal, h.engine, hd, h.localWord]
    rfl
  have hf := h.flyE (toD d (s.localWord e a) 2)
  have hu : (t.flyE e (toD d (s.localWord e a) 2)).usedDma e a = t.flyE e (toD d (s.localWord e a) 2) :=
    if_neg (by rw [hf.engine]; exact ne_true_of_eq_false hd)
  rw [State.loadTo, hl, hu]
  exact hf

/-- What a load notes of a word that ECC corrected on its way (R109). -/
theorem ifFixed (h : s.EngineOnly t e g) (ecc : Bool) (a : Nat) : s.EngineOnly (t.ifFixed e ecc a) e
    { g with late := g.late ++ if ecc then [.fixed (if a < 0x4000 then 1 else 2) a] else [] } := by
  unfold State.ifFixed
  split
  · exact h.later _
  · rw [List.append_nil]
    exact h

end State.EngineOnly

/-! ## What a closing bundle stores -/

theorem State.taskFault_mem (s : State) (e r : Nat) : (s.taskFault e r).mem = s.mem := by
  cases h : (s.engine e).task with
  | none => simp only [State.taskFault, h]
  | some i => exact (State.taskFault_fails h r).mem

/-- Closing a bundle changes memory by the effects of its slots alone. -/
theorem State.closeBundle_mem (s : State) (e : Nat) : (s.closeBundle e).mem = (s.commitLate e).mem := by
  unfold State.closeBundle
  extract_lets s1 g0 g1 g2 g3 r h s2
  have hs : s2.mem = (s.commitLate e).mem := rfl
  clear_value g0 g1 g2 g3 r h
  split
  · rfl
  · split
    · exact (State.taskFault_mem _ _ _).trans hs
    · exact hs

/-- A store that no transfer covers (R89). -/
theorem State.storeVal_of_free {s : State} {e a : Nat} (h : (s.engine e).inDma a = false) (w : Word) :
    s.storeVal e a w = s.putLocal e a w := if_neg (ne_true_of_eq_false h)

theorem State.engine_putLocal (s : State) (e a : Nat) (w : Word) (x : Nat) : (s.putLocal e a w).engine x = s.engine x :=
  (s.putLocal_onlyMem e a w).engine x

section
variable {s t : State} {e a : Nat} {g : Engine} {v w : Word} (h : s.EngineOnly t e g)
include h

/-- The one store of a bundle. -/
theorem State.EngineOnly.closed_store (hl : g.late = [.store a v]) (hd : g.inDma a = false) :
    (t.close e true).localWord e a = v ∧ s.KeepsMemBut (t.close e true) (localAddr e a) 4 := by
  obtain ⟨u, hu⟩ : ∃ u, u = t.setEngine e { g with late := [] } := ⟨_, rfl⟩
  have hg : (u.engine e).inDma a = false := by rw [hu, State.engine_setEngine_self]; exact hd
  have hm : (t.close e true).mem = (u.putLocal e a v).mem := by
    refine (t.closeBundle_mem e).trans ?_
    rw [← State.storeVal_of_free hg, hu]
    simp only [State.commitLate, h.engine, hl, List.foldl_cons, List.foldl_nil, State.lateDo]
  have hs : u.mem = s.mem := by rw [hu]; exact h.mem
  refine ⟨(State.memWord_of_mem hm _).trans (u.memWord_putMemWord_self _ _), fun b hb => ?_⟩
  have hb' := u.byte_putBytes_of_out (localAddr e a) b (leBytes 4 v.toNat) (by rw [length_leBytes]; exact hb)
  rw [State.byte, hm]
  refine hb'.trans ?_
  rw [State.byte, hs, State.byte]

/-- The two stores of a bundle's pair access. -/
theorem State.EngineOnly.closed_pair (hl : g.late = [.store a v, .store (a + 1) w]) (ha : a % 2 = 0) (hd : g.inDma a = false)
    (hd' : g.inDma (a + 1) = false) : (t.close e true).localWord e a = v ∧ (t.close e true).localWord e (a + 1) = w ∧
      s.KeepsMemBut (t.close e true) (localAddr e a) 8 := by
  obtain ⟨u, hu⟩ : ∃ u, u = t.setEngine e { g with late := [] } := ⟨_, rfl⟩
  have hg : (u.engine e).inDma a = false := by rw [hu, State.engine_setEngine_self]; exact hd
  have hg' : ((u.putLocal e a v).engine e).inDma (a + 1) = false := by
    rw [State.engine_putLocal, hu, State.engine_setEngine_self]; exact hd'
  have hm : (t.close e true).mem = ((u.putLocal e a v).putLocal e (a + 1) w).mem := by
    refine (t.closeBundle_mem e).trans ?_
    rw [← State.storeVal_of_free hg', ← State.storeVal_of_free hg, hu]
    simp only [State.commitLate, h.engine, hl, List.foldl_cons, List.foldl_nil, State.lateDo]
  have hs : u.mem = s.mem := by rw [hu]; exact h.mem
  have hadr := localAddr_succ e ha
  refine ⟨(State.memWord_of_mem hm _).trans ?_, (State.memWord_of_mem hm _).trans (State.memWord_putMemWord_self _ _ _),
    fun b hb => ?_⟩
  · exact (State.memWord_putMemWord_of_apart _ _ (by omega)).trans (u.memWord_putMemWord_self _ _)
  · have h1 := u.byte_putBytes_of_out (localAddr e a) b (leBytes 4 v.toNat) (by rw [length_leBytes]; omega)
    have h2 := (u.putLocal e a v).byte_putBytes_of_out (localAddr e (a + 1)) b (leBytes 4 w.toNat) (by rw [length_leBytes]; omega)
    rw [State.byte, hm]
    refine (h2.trans h1).trans ?_
    rw [State.byte, hs, State.byte]

end

/-! ## Slots with a bad access (R71, R81, R100, R126) -/

/-- A slot whose access is bad fails the task at the bundle's last slot; an earlier slot notes it. -/
theorem State.issueS_of_bad {s : State} {e i r : Nat} {names : List Nat} {ok : Bool} {bad : Option Nat} (f : Bool → State → State)
    (h : s.Issues e names) (hok : ok = true) (hb : bad = some r) (hi : (s.engine e).task = some i) :
    s.Fails (s.issueS e true ok names bad (f true)) e i r ∧
      (let t := s.issueS e false ok names bad (f false)
       (t.engine e).faulted = some r ∧ t.regs = s.regs ∧ t.mem = s.mem ∧ t.clk = s.clk) := by
  subst hok hb
  have hx (last : Bool) (k : State → State) : s.issueS e last true names (some r) k = s.faultSlot e last names r := by
    simp [State.issueS, h.runs, h.single, h.clean]
  have hf : s.faultSlot e true names r = s.taskFault e r := by simp [State.faultSlot, h.clean]
  refine ⟨by rw [hx, hf]; exact State.taskFault_fails hi r, ?_⟩
  rw [hx]
  refine ⟨?_, rfl, rfl, rfl⟩
  obtain ⟨g, hg⟩ : ∃ g, g = s.engine e := ⟨_, rfl⟩
  have hc : g.faulted = none := hg ▸ h.clean
  have he : (s.faultSlot e false names r).engine e =
      { g with named := g.named ++ names, partway := true, late := g.late ++ [.fault r] } := by
    rw [hg]; exact State.engine_setEngine_self _ _ _
  rw [he]
  simp only [Engine.faulted, List.findSome?_append] at hc ⊢
  rw [hc]
  rfl

theorem badWord_of_out {a : Nat} (h : 0x6000 ≤ a) : badWord a = some 2 := if_neg (by simp [populated, h])

theorem badPair_of_bad {a : Nat} (h : 0x6000 ≤ a ∨ a % 2 = 1) : badPair a = some 2 :=
  if_neg (by simp only [populated, Bool.and_eq_true, decide_eq_true_eq]; omega)

theorem badWord_of_in {a : Nat} (h : a < 0x6000) : badWord a = none := if_pos (by simp [populated, h])

theorem badPair_of_in {a : Nat} (h : a < 0x6000) (h2 : a % 2 = 0) : badPair a = none := if_pos (by simp [populated, h, h2])

theorem badDual_of_in {a b : Nat} (ha : a < 0x4000) (hb : 0x4000 ≤ b) (hb' : b < 0x6000) : badDual a b = none :=
  if_pos (by simp [populated, ha, hb, hb'])

theorem badDual_of_bad {a b : Nat} (h : ¬ (a < 0x4000 ∧ 0x4000 ≤ b ∧ b < 0x6000 ∨ b < 0x4000 ∧ 0x4000 ≤ a ∧ a < 0x6000)) :
    badDual a b = some 2 :=
  if_neg (by simp only [populated, Bool.or_eq_true, Bool.and_eq_true, decide_eq_true_eq]; omega)

/-! ## The commands of slot Y -/

/-- The engine as a slot leaves it that sends results and notes effects for the bundle's end. -/
def Engine.sent (g : Engine) (names : List Nat) (fs : List Flight) (lt : List Late) : Engine :=
  { g with named := g.named ++ names, partway := true, flights := g.flights ++ fs, late := g.late ++ lt }

/-- The engine as a slot issues that names its destinations. -/
theorem State.EngineOnly.issuing (s : State) (e : Nat) (names : List Nat) :
    s.EngineOnly (s.setEngine e { s.engine e with named := (s.engine e).named ++ names, partway := true }) e
      ((s.engine e).sent names [] []) := by
  have h := State.EngineOnly.setEngine s e { s.engine e with named := (s.engine e).named ++ names, partway := true }
  simpa only [Engine.sent, List.append_nil] using h

section
variable {s t : State} {e a : Nat} {g : Engine} {names : List Nat} {fs : List Flight} {lt : List Late}
  (h : s.EngineOnly t e (g.sent names fs lt))
include h

theorem State.EngineOnly.sendFly (fs' : List Flight) : s.EngineOnly (t.flyE e fs') e (g.sent names (fs ++ fs') lt) := by
  have k := h.flyE fs'
  rwa [Engine.fly, Engine.sent, List.append_assoc] at k

theorem State.EngineOnly.sendLater (x : Late) : s.EngineOnly (t.later e x) e (g.sent names fs (lt ++ [x])) := by
  have k := h.later x
  rwa [Engine.sent, List.append_assoc] at k

theorem State.EngineOnly.sendLoad (hd : g.inDma a = false) (d : Nat) :
    s.EngineOnly (t.loadTo e d a) e (g.sent names (fs ++ toD d (s.localWord e a) 2) lt) := by
  have k := h.loadTo (a := a) hd d
  rwa [Engine.fly, Engine.sent, List.append_assoc] at k

theorem State.EngineOnly.sendFixed (ecc : Bool) (a : Nat) : s.EngineOnly (t.ifFixed e ecc a) e
    (g.sent names fs (lt ++ if ecc then [.fixed (if a < 0x4000 then 1 else 2) a] else [])) := by
  have k := h.ifFixed ecc a
  rwa [Engine.sent, List.append_assoc] at k

end

section
variable {s : State} {e : Eng} {d d2 : BitVec 4} {n m dp ep : BitVec 3} {mode : AddrMode} {ecc eccM last mn mm : Bool}
  {g : Engine} {a b : Nat} (hg : s.engine e = g) (hpa : (g.pv n.toNat).toNat = a)
include hg hpa

theorem exec_ld_eq : exec (.ld e d n mode ecc last) s =
    .next (s.issueS e last true (d.toNat :: pName n.toNat mode) (badWord a) fun u =>
      ((u.loadTo e d.toNat a).flyE e (g.toP n.toNat mode 1)).ifFixed e ecc a) := by
  subst hg hpa
  rfl

theorem exec_ldp_eq : exec (.ldp e d n mode last ecc) s =
    .next (s.issueS e last (d.toNat % 2 = 0) (d.toNat :: (d.toNat + 1) :: pName n.toNat mode) (badPair a) fun u =>
      (((u.loadTo e d.toNat a).loadTo e (d.toNat + 1) (a + 1)).flyE e (g.toP n.toNat mode 2)).ifFixed e ecc a) := by
  subst hg hpa
  rfl

theorem exec_st_eq : exec (.st e d n mode last) s =
    .next (s.issueS e last true (pName n.toNat mode) (badWord a) fun u =>
      (u.later e (.store a (g.dv d.toNat))).flyE e (g.toP n.toNat mode 1)) := by
  subst hg hpa
  rfl

theorem exec_stp_eq : exec (.stp e d n mode last) s =
    .next (s.issueS e last (d.toNat % 2 = 0) (pName n.toNat mode) (badPair a) fun u =>
      ((u.later e (.store a (g.dv d.toNat))).later e (.store (a + 1) (g.dv (d.toNat + 1)))).flyE e (g.toP n.toNat mode 2)) := by
  subst hg hpa
  rfl

section
variable (hpb : (g.pv m.toNat).toNat = b)
include hpb

theorem exec_ldd_eq : exec (.ldd e d n d2 m last ecc eccM) s =
    .next (s.issueS e last true [d.toNat, d2.toNat, 0x10 + n.toNat, 0x10 + m.toNat] (badDual a b) fun u =>
      (((((u.loadTo e d.toNat a).loadTo e d2.toNat b).flyE e (g.toP n.toNat .postMod 1)).flyE e
        (g.toP m.toNat .postMod 1)).ifFixed e ecc a).ifFixed e eccM b) := by
  subst hg hpa hpb
  rfl

theorem exec_lddp_eq : exec (.lddp e dp n ep m mn mm last ecc eccM) s =
    .next (s.issueS e last true [2 * dp.toNat, 2 * dp.toNat + 1, 2 * ep.toNat, 2 * ep.toNat + 1, 0x10 + n.toNat, 0x10 + m.toNat]
      (if a % 2 = 1 || b % 2 = 1 then some 2 else badDual a b) fun u =>
      (((((((u.loadTo e (2 * dp.toNat) a).loadTo e (2 * dp.toNat + 1) (a + 1)).flyE e (g.toP n.toNat (pairMode mn) 2)).loadTo e
        (2 * ep.toNat) b).loadTo e (2 * ep.toNat + 1) (b + 1)).flyE e (g.toP m.toNat (pairMode mm) 2)).ifFixed e ecc a).ifFixed e
        eccM b) := by
  subst hg hpa hpb
  rfl

end

/-! ### Accesses that are good -/

theorem exec_ld_good (h : s.Issues e (d.toNat :: pName n.toNat mode)) (ha : a < 0x6000) (hd : g.inDma a = false) :
    ∃ t : State, exec (.ld e d n mode ecc last) s = .next (t.close e last) ∧ s.EngineOnly t e
      (g.sent (d.toNat :: pName n.toNat mode) (toD d.toNat (s.localWord e a) 2 ++ g.toP n.toNat mode 1)
        (if ecc then [.fixed (if a < 0x4000 then 1 else 2) a] else [])) := by
  have h0 := hg ▸ State.EngineOnly.issuing s e (d.toNat :: pName n.toNat mode)
  have h1 := ((h0.sendLoad hd d.toNat).sendFly (g.toP n.toNat mode 1)).sendFixed ecc a
  refine ⟨_, ?_, h1⟩
  rw [exec_ld_eq hg hpa, badWord_of_in ha, State.issueS_of_issues h, hg]

theorem exec_ldp_good (h : s.Issues e (d.toNat :: (d.toNat + 1) :: pName n.toNat mode)) (hev : d.toNat % 2 = 0) (ha : a < 0x6000)
    (ha2 : a % 2 = 0) (hd : g.inDma a = false) (hd' : g.inDma (a + 1) = false) :
    ∃ t : State, exec (.ldp e d n mode last ecc) s = .next (t.close e last) ∧ s.EngineOnly t e
      (g.sent (d.toNat :: (d.toNat + 1) :: pName n.toNat mode) (toD d.toNat (s.localWord e a) 2 ++
        toD (d.toNat + 1) (s.localWord e (a + 1)) 2 ++ g.toP n.toNat mode 2)
        (if ecc then [.fixed (if a < 0x4000 then 1 else 2) a] else [])) := by
  have h0 := hg ▸ State.EngineOnly.issuing s e (d.toNat :: (d.toNat + 1) :: pName n.toNat mode)
  have h1 := (((h0.sendLoad hd d.toNat).sendLoad hd' (d.toNat + 1)).sendFly (g.toP n.toNat mode 2)).sendFixed ecc a
  refine ⟨_, ?_, h1⟩
  rw [exec_ldp_eq hg hpa, badPair_of_in ha ha2, decide_eq_true hev, State.issueS_of_issues h, hg]

theorem exec_st_good (h : s.Issues e (pName n.toNat mode)) (ha : a < 0x6000) :
    ∃ t : State, exec (.st e d n mode last) s = .next (t.close e last) ∧ s.EngineOnly t e
      (g.sent (pName n.toNat mode) (g.toP n.toNat mode 1) [.store a (g.dv d.toNat)]) := by
  have h0 := hg ▸ State.EngineOnly.issuing s e (pName n.toNat mode)
  have h1 := (h0.sendLater (.store a (g.dv d.toNat))).sendFly (g.toP n.toNat mode 1)
  refine ⟨_, ?_, h1⟩
  rw [exec_st_eq hg hpa, badWord_of_in ha, State.issueS_of_issues h, hg]

theorem exec_stp_good (h : s.Issues e (pName n.toNat mode)) (hev : d.toNat % 2 = 0) (ha : a < 0x6000) (ha2 : a % 2 = 0) :
    ∃ t : State, exec (.stp e d n mode last) s = .next (t.close e last) ∧ s.EngineOnly t e
      (g.sent (pName n.toNat mode) (g.toP n.toNat mode 2) [.store a (g.dv d.toNat), .store (a + 1) (g.dv (d.toNat + 1))]) := by
  have h0 := hg ▸ State.EngineOnly.issuing s e (pName n.toNat mode)
  have h1 := ((h0.sendLater (.store a (g.dv d.toNat))).sendLater (.store (a + 1) (g.dv (d.toNat + 1)))).sendFly (g.toP n.toNat mode 2)
  refine ⟨_, ?_, h1⟩
  rw [exec_stp_eq hg hpa, badPair_of_in ha ha2, decide_eq_true hev, State.issueS_of_issues h, hg]

theorem exec_ldd_good (hpb : (g.pv m.toNat).toNat = b) (h : s.Issues e [d.toNat, d2.toNat, 0x10 + n.toNat, 0x10 + m.toNat])
    (hbad : badDual a b = none) (hd : g.inDma a = false) (hd' : g.inDma b = false) :
    ∃ t : State, exec (.ldd e d n d2 m last ecc eccM) s = .next (t.close e last) ∧ s.EngineOnly t e
      (g.sent [d.toNat, d2.toNat, 0x10 + n.toNat, 0x10 + m.toNat] (toD d.toNat (s.localWord e a) 2 ++
        toD d2.toNat (s.localWord e b) 2 ++ g.toP n.toNat .postMod 1 ++ g.toP m.toNat .postMod 1)
        ((if ecc then [.fixed (if a < 0x4000 then 1 else 2) a] else []) ++
          if eccM then [.fixed (if b < 0x4000 then 1 else 2) b] else [])) := by
  have h0 := hg ▸ State.EngineOnly.issuing s e [d.toNat, d2.toNat, 0x10 + n.toNat, 0x10 + m.toNat]
  have h1 := (((((h0.sendLoad hd d.toNat).sendLoad hd' d2.toNat).sendFly (g.toP n.toNat .postMod 1)).sendFly
    (g.toP m.toNat .postMod 1)).sendFixed ecc a).sendFixed eccM b
  refine ⟨_, ?_, h1⟩
  rw [exec_ldd_eq hg hpa hpb, hbad, State.issueS_of_issues h, hg]

theorem exec_lddp_good (hpb : (g.pv m.toNat).toNat = b)
    (h : s.Issues e [2 * dp.toNat, 2 * dp.toNat + 1, 2 * ep.toNat, 2 * ep.toNat + 1, 0x10 + n.toNat, 0x10 + m.toNat])
    (hbad : badDual a b = none) (ha2 : a % 2 = 0) (hb2 : b % 2 = 0) (hd : ∀ x, g.inDma x = false) :
    ∃ t : State, exec (.lddp e dp n ep m mn mm last ecc eccM) s = .next (t.close e last) ∧ s.EngineOnly t e
      (g.sent [2 * dp.toNat, 2 * dp.toNat + 1, 2 * ep.toNat, 2 * ep.toNat + 1, 0x10 + n.toNat, 0x10 + m.toNat]
        (toD (2 * dp.toNat) (s.localWord e a) 2 ++ toD (2 * dp.toNat + 1) (s.localWord e (a + 1)) 2 ++
          g.toP n.toNat (pairMode mn) 2 ++ toD (2 * ep.toNat) (s.localWord e b) 2 ++
          toD (2 * ep.toNat + 1) (s.localWord e (b + 1)) 2 ++ g.toP m.toNat (pairMode mm) 2)
        ((if ecc then [.fixed (if a < 0x4000 then 1 else 2) a] else []) ++
          if eccM then [.fixed (if b < 0x4000 then 1 else 2) b] else [])) := by
  have h0 := hg ▸ State.EngineOnly.issuing s e
    [2 * dp.toNat, 2 * dp.toNat + 1, 2 * ep.toNat, 2 * ep.toNat + 1, 0x10 + n.toNat, 0x10 + m.toNat]
  have h1 := (((((((h0.sendLoad (hd a) (2 * dp.toNat)).sendLoad (hd (a + 1)) (2 * dp.toNat + 1)).sendFly
    (g.toP n.toNat (pairMode mn) 2)).sendLoad (hd b) (2 * ep.toNat)).sendLoad (hd (b + 1)) (2 * ep.toNat + 1)).sendFly
    (g.toP m.toNat (pairMode mm) 2)).sendFixed ecc a).sendFixed eccM b
  have hev : ¬(decide (a % 2 = 1) || decide (b % 2 = 1)) = true := by simp [ha2, hb2]
  refine ⟨_, ?_, h1⟩
  rw [exec_lddp_eq hg hpa hpb, if_neg hev, hbad, State.issueS_of_issues h, hg]

end

/-- A slot of a bundle with a noted fault, as its last, fails the task with the noted reason. -/
theorem State.issue_of_faulted {s : State} {e i r : Nat} {ok : Bool} {names : List Nat} (f : Engine → Engine)
    (hr : (s.engine e).st = .running) (hf : (s.engine e).faulted = some r) (hi : (s.engine e).task = some i) :
    s.Fails (s.issue e true ok names f) e i r := by
  have hx : s.issue e true ok names f = s.taskFault e r := by
    unfold State.issue
    simp [hr, hf, State.faultSlot]
  rw [hx]
  exact State.taskFault_fails hi r

theorem exec_add_eq (s : State) (e : Eng) (d x y : BitVec 4) (last : Bool) : exec (.add e d x y last) s =
    .next (s.issue e last true [d.toNat] fun g => g.fly (toAlu d.toNat (aluAdd (g.dv x.toNat) (g.dv y.toNat)))) := rfl

/-! ## Corrected words (R109) -/

theorem State.eccFixed_of_running {s : State} {e : Nat} {g : Engine} (hg : s.engine e = g) (hr : g.st = .running) {k : Nat}
    (hk : k ≠ 3) (x : Nat) : s.eccFixed e k x = ((s.put (R.ENG_ECC_INFO e) (word (x % 2 ^ 16 + k * 2 ^ 16))).count
      (R.ENG_ECC_CNT e)).setEngine e { g with es := g.es ||| 0x20000#32 } := by
  subst hg
  exact (if_neg hk).trans (if_pos hr)

theorem State.commitLate_fixed {s : State} {e k x : Nat} {g : Engine} (hg : s.engine e = g) (hl : g.late = [.fixed k x])
    (hr : g.st = .running) (hk : k ≠ 3) :
    s.commitLate e = (((s.setEngine e { g with late := [] }).put (R.ENG_ECC_INFO e) (word (x % 2 ^ 16 + k * 2 ^ 16))).count
      (R.ENG_ECC_CNT e)).setEngine e { g with es := g.es ||| 0x20000#32, late := [] } := by
  have hx : s.commitLate e = (s.setEngine e { g with late := [] }).eccFixed e k x := by
    simp only [State.commitLate, hg, hl, List.foldl_cons, List.foldl_nil, State.lateDo]
  rw [hx]
  exact State.eccFixed_of_running (g := { g with late := [] }) (s.engine_setEngine_self e _) hr hk x

/-- Settles O26: a good access sends, a bad one faults its bundle, and what a bundle notes it does as it closes. -/
theorem localLoadsAndStores : Obligations.LocalLoadsAndStores := by
  unfold Obligations.LocalLoadsAndStores
  intro e d d2 n m dp ep mode mn mm ecc eccM last i s g a b fixed sent
  have done {t : State} {names : List Nat} {fs : List Flight} {lt : List Late} (h : s.EngineOnly t e (g.sent names fs lt)) :
      sent t fs names lt := ⟨h.engine, h.others, h.clk, h.fab, h.regs, h.mem⟩
  refine ⟨fun h ha hd => ?_, fun h hev ha ha2 hd hd' => ?_, fun h ha hd => ?_, fun h hev ha ha2 hd hd' => ?_,
    fun h ha hb hb' hd hd' => ?_, fun h ha hb hb' ha2 hb2 hd => ?_, fun h => ?_, fun hi => ?_, fun k x hl hr hk => ?_⟩
  · obtain ⟨t, hx, h1⟩ := exec_ld_good (s := s) (g := g) rfl rfl (ecc := ecc) (last := last) h ha hd
    exact ⟨t, hx, done h1⟩
  · obtain ⟨t, hx, h1⟩ := exec_ldp_good (s := s) (g := g) rfl rfl (ecc := ecc) (last := last) h hev ha ha2 hd hd'
    exact ⟨t, hx, done h1⟩
  · obtain ⟨t, hx, h1⟩ := exec_st_good (s := s) (g := g) rfl rfl (d := d) (last := last) h ha
    exact ⟨t, hx, done h1, fun hl => h1.closed_store (congrArg (· ++ [Late.store a (g.dv d.toNat)]) hl) hd⟩
  · obtain ⟨t, hx, h1⟩ := exec_stp_good (s := s) (g := g) rfl rfl (d := d) (last := last) h hev ha ha2
    exact ⟨t, hx, done h1, fun hl => h1.closed_pair
      (congrArg (· ++ [Late.store a (g.dv d.toNat), .store (a + 1) (g.dv (d.toNat + 1))]) hl) ha2 hd hd'⟩
  · obtain ⟨t, hx, h1⟩ := exec_ldd_good (s := s) (g := g) rfl rfl rfl (ecc := ecc) (eccM := eccM) (last := last) h
      (badDual_of_in ha hb hb') hd hd'
    exact ⟨t, hx, done h1⟩
  · obtain ⟨t, hx, h1⟩ := exec_lddp_good (s := s) (g := g) rfl rfl rfl (ecc := ecc) (eccM := eccM) (last := last)
      (mn := mn) (mm := mm) h (badDual_of_in ha hb hb') ha2 hb2 hd
    exact ⟨t, hx, done h1⟩
  · exact congrArg Host.Outcome.next (State.issueFly_of_issues h)
  · intro wild dual
    have bad {c : Bool → Instr} {names : List Nat} {ok : Bool} {b : Option Nat} {f : State → State}
        (hx : ∀ last, exec (c last) s = .next (s.issueS e last ok names b f)) (h : s.Issues e names) (hok : ok = true)
        (hb : b = some 2) : wild c := by
      obtain ⟨h1, h2⟩ := State.issueS_of_bad (fun _ => f) h hok hb hi
      exact ⟨⟨_, hx true, h1⟩, _, hx false, h2⟩
    refine ⟨fun h ha => bad (fun _ => exec_ld_eq rfl rfl) h rfl (badWord_of_out ha),
      fun h ha => bad (fun _ => exec_st_eq rfl rfl) h rfl (badWord_of_out ha),
      fun h hev ha => bad (fun _ => exec_ldp_eq rfl rfl) h (decide_eq_true hev) (badPair_of_bad ha),
      fun h hev ha => bad (fun _ => exec_stp_eq rfl rfl) h (decide_eq_true hev) (badPair_of_bad ha),
      fun h hn => bad (fun _ => exec_ldd_eq rfl rfl rfl) h rfl (badDual_of_bad hn), fun h hn => ?_, fun r hr hf => ?_⟩
    · refine bad (fun _ => exec_lddp_eq rfl rfl rfl) h rfl ?_
      split
      · rfl
      next hodd =>
        refine badDual_of_bad (hn.resolve_right fun hor => hodd ?_)
        simpa using hor
    · exact ⟨_, exec_add_eq s e d d2 d2 true, State.issue_of_faulted _ hr hf hi⟩
  · rw [State.commitLate_fixed rfl hl hr hk]
    have hne : R.ENG_ECC_INFO e ≠ R.ENG_ECC_CNT e := by simp only [R.ENG_ECC_INFO, R.ENG_ECC_CNT]; omega
    refine ⟨State.engine_setEngine_self _ _ _, ?_, ?_, ?_, rfl⟩
    · rw [State.reg_setEngine, State.reg_count_self, State.reg_put_of_ne _ _ hne, State.reg_setEngine]
    · rw [State.reg_setEngine]
      refine (State.reg_put_of_ne _ _ hne.symm).trans (State.reg_put_self _ _ _)
    · have ho : State.OnlyRegs [R.ENG_ECC_CNT e, R.ENG_ECC_INFO e] (s.setEngine e { g with late := [] })
        (((s.setEngine e { g with late := [] }).put (R.ENG_ECC_INFO e) (word (x % 2 ^ 16 + k * 2 ^ 16))).count (R.ENG_ECC_CNT e)) :=
        (State.OnlyRegs.put (by simp) _ _).trans (.count (by simp) _)
      exact ho.keeps

end Sys2Proof.Machine
end

section
/-!
PROOFS. Bundles close, events enter, and illegal bundles fault (R71, R105, R110 to R112, R116 to R119).
-/

namespace Sys2Proof.Machine

/-! ## A destination named twice, an illegal encoding -/

section
variable {s : State} {e i : Nat} {last ok : Bool} {names : List Nat} (hr : (s.engine e).st = .running)
  (hc : (s.engine e).faulted = none) (hd : hasDup ((s.engine e).named ++ names) = true) (hi : (s.engine e).task = some i)
include hr hc hd hi

theorem State.issue_fails_of_dup (f : Engine → Engine) : s.Fails (s.issue e last ok names f) e i 1 := by
  rw [State.issue_of_dup hr hc hd]
  exact State.taskFault_fails hi 1

theorem State.issueFly_fails_of_dup (f : Engine → List Flight) : s.Fails (s.issueFly e last names f) e i 1 :=
  State.issue_fails_of_dup hr hc hd hi _

theorem State.issueS_fails_of_dup (bad : Option Nat) (f : State → State) : s.Fails (s.issueS e last ok names bad f) e i 1 := by
  have hx : s.issueS e last ok names bad f = s.taskFault e 1 := by simp [State.issueS, hr, hc, hd]
  rw [hx]
  exact State.taskFault_fails hi 1

end

/-! ## The close of a bundle (R105, R116, R119) -/

/-- A bundle whose only results are a move into a D register lets its value in, and the view of BR and RPTR come nearer. -/
theorem Engine.advance_toD {g : Engine} {i : Nat} {v : Word} (h : g.flights = toD i v 1) :
    g.advance = { g with flights := [⟨2, .dBr i v⟩], d := Tbl.set (fun _ => 0) g.d i v } := by
  simp [Engine.advance, h, toD, dropOvertaken, Engine.arriveAll, Engine.arrive]

theorem Engine.advance_of_nil {g : Engine} (h : g.flights = []) : g.advance = g := by
  have hx : g.advance = { g with flights := [] } := by
    simp [Engine.advance, h, dropOvertaken, Engine.arriveAll]
  rw [hx, ← h]

theorem Engine.flush_of_nil {g : Engine} (h : g.flights = []) : g.flush = g := by
  rw [Engine.flush, Engine.advance_of_nil h, Engine.advance_of_nil h, Engine.advance_of_nil h]

/-- In a bundle without branch and repeat the next place is the next bundle. -/
theorem Engine.nextPlace_of_plain {g : Engine} (hf : g.Free) (hr : g.rpt = none) (hb : g.branched = false) :
    g.nextPlace = ((g.pc : Int) + 1, { g with repeating := false, rc := 0, rpt := none, taken := none, branched := false }) := by
  have hd := hf.delay
  simp only [Engine.inDelay, Bool.or_eq_false_iff, Option.isSome_eq_false_iff, Option.isNone_iff_eq_none, decide_eq_false_iff_not,
    not_not] at hd
  obtain ⟨hbr, hslots⟩ := hd
  simp [Engine.nextPlace, hf.repeats, hr, hb, hbr, hslots]

/-- The engine as the bundle's close finds it: no name, no waiting effect, the results one bundle nearer. -/
def Engine.closing (g : Engine) : Engine :=
  { (Engine.advance { g with late := [], named := [], partway := false }).older with
    before := (Engine.advance { g with late := [], named := [], partway := false }).older.flights.length }

/-- A bundle without waiting effects, branch, repeat and task end, before the end of the code, moves its engine on. -/
theorem State.closeBundle_of_plain {s : State} {e : Nat} {g h : Engine} (hg : s.engine e = g) (hl : g.late = [])
    (ht : g.closing.tend = false) (hn : g.closing.nextPlace = ((g.pc : Int) + 1, h)) (hc : g.pc + 1 < s.codeBundles) :
    s.closeBundle e = ((s.setEngine e { g with late := [] }).count (R.ENG_BUSY_CYC e)).setEngine e { h with pc := g.pc + 1 } := by
  obtain ⟨u, hu⟩ : ∃ u, u = (s.setEngine e { g with late := [] }).count (R.ENG_BUSY_CYC e) := ⟨_, rfl⟩
  have hcommit : (s.commitLate e).count (R.ENG_BUSY_CYC e) = u := by
    simp only [State.commitLate, hg, hl, List.foldl_nil, hu]
  have hue : u.engine e = { g with late := [] } := by rw [hu]; exact s.engine_setEngine_self e _
  have huc : u.codeBundles = s.codeBundles := by rw [hu]; rfl
  have hplace (r : Int × Engine) (hr : r = ((g.pc : Int) + 1, h)) :
      (if r.1 < 0 || ((u.setEngine e { r.2 with pc := r.1.toNat }).codeBundles : Int) ≤ r.1 then
        (u.setEngine e { r.2 with pc := r.1.toNat }).taskFault e 4 else u.setEngine e { r.2 with pc := r.1.toNat }) =
      u.setEngine e { h with pc := g.pc + 1 } := by
    subst hr
    have hcb : (u.setEngine e { h with pc := ((g.pc : Int) + 1).toNat }).codeBundles = u.codeBundles := rfl
    have hpc : ((g.pc : Int) + 1).toNat = g.pc + 1 := by omega
    refine (if_neg ?_).trans (by rw [hpc])
    rw [hcb, huc, Bool.or_eq_true, decide_eq_true_eq, decide_eq_true_eq]
    omega
  rw [← hu]
  unfold State.closeBundle
  rw [hcommit]
  extract_lets s1 g0 g1 g2
  have h2 : g2 = g.closing := by unfold g2 g1 g0 s1; rw [hue]; rfl
  clear_value g2
  subst h2
  exact (if_neg (ne_true_of_eq_false ht)).trans (hplace _ hn)

/-- The engine of a bundle whose only results are a move into Di. -/
theorem Engine.closing_toD {g : Engine} {i : Nat} {v : Word} (h : g.flights = toD i v 1) : ∃ a, g.closing =
    { g with late := [], named := [], partway := false, flights := [⟨2, .dBr i v⟩], d := Tbl.set (fun _ => 0) g.d i v,
             age := a, before := 1 } := by
  have hx := Engine.advance_toD (g := { g with late := [], named := [], partway := false }) h
  unfold Engine.closing
  rw [hx]
  exact ⟨_, rfl⟩

/-- BUNDLE_NOP after a move into Di. -/
theorem State.closeBundle_toD {s : State} {e i : Nat} {v : Word} {g : Engine} (hg : s.engine e = g) (ht : g.tend = false)
    (hf : g.Free) (hr : g.rpt = none) (hb : g.branched = false) (hfl : g.flights = toD i v 1) (hl : g.late = [])
    (hc : g.pc + 1 < s.codeBundles) :
    ∃ h : Engine, s.closeBundle e = ((s.setEngine e { g with late := [] }).count (R.ENG_BUSY_CYC e)).setEngine e h ∧
      h.d = Tbl.set (fun _ => 0) g.d i v ∧ h.dBr = g.dBr ∧ h.flights = [⟨2, .dBr i v⟩] ∧ h.pc = g.pc + 1 ∧ h.st = g.st ∧
        h.es = g.es := by
  obtain ⟨a, ha⟩ := Engine.closing_toD hfl
  have hfree : g.closing.Free := by rw [ha]; exact ⟨hf.delay, hf.repeats⟩
  have hn : g.closing.nextPlace = ((g.pc : Int) + 1,
      { g.closing with repeating := false, rc := 0, rpt := none, taken := none, branched := false }) := by
    rw [Engine.nextPlace_of_plain hfree (by rw [ha]; exact hr) (by rw [ha]; exact hb), ha]
  have htend : g.closing.tend = false := by rw [ha]; exact ht
  refine ⟨_, State.closeBundle_of_plain hg hl htend hn hc, ?_⟩
  rw [ha]
  exact ⟨rfl, rfl, rfl, rfl, rfl, rfl⟩

/-! ## Events (R110 to R112) -/

/-- An event's entry without results on their way, with code at its vector. -/
theorem State.enterEvent_of_nil {s : State} {e i : Nat} {g : Engine} (hg : s.engine e = g) (hf : g.flights = [])
    (hc : 12 ≤ s.codeBundles) :
    ∃ (u : State) (h : Engine), s.enterEvent e i = u.setEngine e h ∧
      State.OnlyRegs [R.ENG_EVT_CNT e, R.ENG_HOLD_MAX e] s u ∧ h.pc = (if i = 0 then 0 else if i = 1 then 4 else 8) ∧
      h.epc = BitVec.ofNat 12 g.pc ∧ h.ees = g.es ∧ h.es = setBits (setBits g.es (16 + i) (16 + i) 0) 19 19 1 := by
  unfold State.enterEvent
  rw [hg, Engine.flush_of_nil hf]
  dsimp only
  obtain ⟨k, hk⟩ : ∃ k, k = min 8191 (Tbl.get (fun _ => 0) g.age i + 7) := ⟨_, rfl⟩
  rw [← hk]
  obtain ⟨u, hu⟩ : ∃ u, u = (s.count (R.ENG_EVT_CNT e)).setFld (F.ENG_HOLD_MAX_cycles e)
    (max k ((s.count (R.ENG_EVT_CNT e)).fld (F.ENG_HOLD_MAX_cycles e))) := ⟨_, rfl⟩
  have ho : State.OnlyRegs [R.ENG_EVT_CNT e, R.ENG_HOLD_MAX e] s u := hu ▸ .trans (.count (by simp) _) (.setFld (by simp) _ _)
  rw [← hu]
  have huc : u.codeBundles = s.codeBundles := by rw [State.codeBundles, ho.fab, State.codeBundles]
  have hcb (h : Engine) : (u.setEngine e h).codeBundles = s.codeBundles := huc
  refine ⟨u, _, if_neg ?_, ho, rfl, rfl, rfl, rfl⟩
  rw [hcb]
  split_ifs <;> omega

/-- Settles O30: a NOP's close is computed, an event's entry is one write of its engine, and a slot's second name faults. -/
theorem bundlesCloseAndEventsEnter : Obligations.BundlesCloseAndEventsEnter := by
  unfold Obligations.BundlesCloseAndEventsEnter
  intro e i v bw s g hr
  have hruns : s.runs e = true := decide_eq_true hr
  refine ⟨fun ht hf hrpt hb hfl hl hc => ?_, fun hm he hfl hc => ?_, fun hi hbad => ?_, fun hi hc => ?_⟩
  · obtain ⟨h, hx, hd, hdBr, hflights, hpc, hst, hes⟩ := State.closeBundle_toD (s := s) (g := g) rfl ht hf hrpt hb hfl hl hc
    have he := State.engine_setEngine_self ((s.setEngine e { g with late := [] }).count (R.ENG_BUSY_CYC e)) e h
    refine ⟨s.closeBundle e, congrArg Host.Outcome.next (if_pos hruns), ?_⟩
    rw [hx, he]
    refine ⟨?_, fun j hj => ?_, fun j => ?_, hflights, hpc, hst.trans hr, hes, fun o ho => ?_, rfl, State.reg_count_self _ _⟩
    · rw [Engine.dv, hd, Tbl.get_set_self]
    · rw [Engine.dv, hd, Tbl.get_set_of_ne _ _ _ (Ne.symm hj), Engine.dv]
    · rw [Engine.dBrv, hdBr, Engine.dBrv]
    · exact (State.OnlyRegs.count (List.mem_singleton.2 rfl) (s.setEngine e { g with late := [] })).keeps o ho
  · obtain ⟨u, h, hx, ho, hpc, hepc, hees, hes⟩ := State.enterEvent_of_nil (s := s) (g := g) rfl hfl hc
    have hexec : exec (.eventEntry e) s = .next (s.enterEvent e i) := by
      refine congrArg Host.Outcome.next ((if_pos hm).trans ?_)
      rw [he]
    refine ⟨_, hexec, ?_⟩
    rw [hx, State.engine_setEngine_self]
    exact ⟨hpc, hepc, hees, hes, ho.keeps, ho.mem⟩
  · refine ⟨_, congrArg Host.Outcome.next (if_pos ?_), State.taskFault_fails hi 1⟩
    rw [hruns, hbad]
    rfl
  · intro d x a c n dst sh k k7 w mode ecc last fails
    have fly {names : List Nat} (hd : hasDup (g.named ++ names) = true) (f : Engine → List Flight) :
        s.Fails (s.issueFly e last names f) e i 1 := State.issueFly_fails_of_dup hr hc hd hi f
    have slotS {names : List Nat} (hd : hasDup (g.named ++ names) = true) (bad : Option Nat) (f : State → State) :
        s.Fails (s.issueS e last true names bad f) e i 1 := State.issueS_fails_of_dup hr hc hd hi bad f
    refine ⟨fun hd => ?_, fun hd => ?_, fun hd => ?_, fun hd => ?_, fun hd => ?_, fun hd => ?_⟩
    · have f (r : Engine → List Flight) := fly hd r
      have m (b : Option Nat) (r : State → State) := slotS hd b r
      simp only [fails, List.forall_mem_cons]
      exact ⟨⟨_, rfl, f _⟩, ⟨_, rfl, f _⟩, ⟨_, rfl, f _⟩, ⟨_, rfl, f _⟩, ⟨_, rfl, f _⟩, ⟨_, rfl, f _⟩, ⟨_, rfl, f _⟩,
        ⟨_, rfl, f _⟩, ⟨_, rfl, f _⟩, ⟨_, rfl, f _⟩, ⟨_, rfl, f _⟩, ⟨_, rfl, f _⟩, ⟨_, rfl, f _⟩, ⟨_, rfl, f _⟩, ⟨_, rfl, f _⟩,
        ⟨_, rfl, f _⟩, ⟨_, rfl, f _⟩, ⟨_, rfl, f _⟩, ⟨_, rfl, f _⟩, ⟨_, rfl, f _⟩, ⟨_, rfl, f _⟩, ⟨_, rfl, f _⟩, ⟨_, rfl, f _⟩,
        ⟨_, rfl, f _⟩, ⟨_, rfl, f _⟩, ⟨_, rfl, m _ _⟩, fun _ hc => absurd hc List.not_mem_nil⟩
    · have f (r : Engine → List Flight) := fly hd r
      simp only [fails, List.forall_mem_cons]
      exact ⟨⟨_, rfl, f _⟩, ⟨_, rfl, f _⟩, ⟨_, rfl, f _⟩, ⟨_, rfl, f _⟩, ⟨_, rfl, f _⟩, ⟨_, rfl, f _⟩, ⟨_, rfl, f _⟩,
        ⟨_, rfl, f _⟩, ⟨_, rfl, f _⟩, ⟨_, rfl, f _⟩, ⟨_, rfl, f _⟩, ⟨_, rfl, f _⟩, ⟨_, rfl, f _⟩,
        fun _ hc => absurd hc List.not_mem_nil⟩
    · exact List.forall_mem_singleton.2 ⟨_, rfl, slotS hd _ _⟩
    · simp only [fails, List.forall_mem_cons]
      exact ⟨⟨_, rfl, slotS hd _ _⟩, ⟨_, rfl, fly hd _⟩, fun _ hc => absurd hc List.not_mem_nil⟩
    · exact List.forall_mem_singleton.2 ⟨_, rfl, fly hd _⟩
    · exact List.forall_mem_singleton.2 ⟨_, rfl, State.issue_fails_of_dup hr hc hd hi _⟩

end Sys2Proof.Machine
end

section
/-!
SUPPORT. Giving ownership away, apart from the fault collector and the requests for a reset (R217, R222, R242, R443).
-/

namespace Sys2Proof.Machine

/-- The registers that giving ownership away may write: the handover's, the two-wire controllers' states, the counts of commands. -/
def ownRegs : List Nat := R.TWN_HO_CTRL :: pinRegs

/-- From `s` to `t` changes only what giving ownership away touches: its registers, the host interface, the twin block; and what was
sent stays sent. The fault collector and the requests for a reset stay. -/
structure State.Yields (s t : State) : Prop where
  frame : ∃ r z h o w n, t = { s with regs := r, sets := z, hif := h, outbox := o, twn := w, fresh := n }
  keeps : s.KeepsRegs t ownRegs
  sent : s.outbox ⊆ t.outbox

namespace State.Yields

variable {s t u : State}

theorem refl (s : State) : s.Yields s := ⟨⟨_, _, _, _, _, _, rfl⟩, fun _ _ => rfl, fun _ h => h⟩

theorem trans (h : s.Yields t) (k : t.Yields u) : s.Yields u := by
  refine ⟨?_, fun o ho => (k.keeps o ho).trans (h.keeps o ho), fun x hx => k.sent (h.sent hx)⟩
  obtain ⟨_, _, _, _, _, _, rfl⟩ := h.frame
  obtain ⟨_, _, _, _, _, _, rfl⟩ := k.frame
  exact ⟨_, _, _, _, _, _, rfl⟩

theorem ite {c : Prop} [Decidable c] (h : c → s.Yields t) (k : ¬c → s.Yields u) : s.Yields (if c then t else u) := by
  split_ifs with hc
  · exact h hc
  · exact k hc

theorem foldl {α : Type} {f : State → α → State} (as : List α) (hf : ∀ s, ∀ a ∈ as, State.Yields s (f s a)) (s : State) :
    s.Yields (as.foldl f s) := by
  induction as generalizing s with
  | nil => exact refl s
  | cons a as ih => exact (hf s a (by simp)).trans (ih (fun s b hb => hf s b (by simp [hb])) _)

section
variable (h : s.Yields t)
include h

theorem reacts : s.Reacts ownRegs t := by
  refine ⟨?_, h.keeps, h.sent⟩
  obtain ⟨_, _, _, _, _, _, rfl⟩ := h.frame
  exact ⟨_, _, _, _, _, _, _, _, rfl⟩

theorem flt : t.flt = s.flt := by obtain ⟨_, _, _, _, _, _, rfl⟩ := h.frame; rfl
theorem warmReq : t.warmReq = s.warmReq := by obtain ⟨_, _, _, _, _, _, rfl⟩ := h.frame; rfl

end

theorem of_onlyRegs (h : State.OnlyRegs ownRegs s t) : s.Yields t := by
  refine ⟨?_, h.keeps, fun x hx => h.outbox ▸ hx⟩
  obtain ⟨_, _, rfl⟩ := h.frame
  exact ⟨_, _, _, _, _, _, rfl⟩

theorem update {o : List Out} (h : Hif) (w : Twin) (n : Nat) (ho : s.outbox ⊆ o) :
    s.Yields { s with hif := h, outbox := o, twn := w, fresh := n } :=
  ⟨⟨_, _, _, _, _, _, rfl⟩, fun _ _ => rfl, ho⟩

theorem setHif (s : State) (f : Hif → Hif) : s.Yields (s.setHif f) := update _ _ _ (List.Subset.refl _)
theorem setTwn (s : State) (f : Twin → Twin) : s.Yields (s.setTwn f) := update _ _ _ (List.Subset.refl _)
theorem emit (s : State) (x : Out) : s.Yields (s.emit x) := update _ _ _ (List.subset_append_left _ _)
theorem setRing (s : State) (r : Nat) (x : Ring) : s.Yields (s.setRing r x) := update _ _ _ (List.Subset.refl _)
theorem sendMsg (s : State) (c : Nat) (b : List Byte) : s.Yields (s.sendMsg c b) := update _ _ _ (List.Subset.refl _)

theorem twiFinish (s : State) (t : TwiCmd) (st d : Nat) : s.Yields (s.twiFinish t st d) := by
  unfold State.twiFinish
  extract_lets s1 s2
  have h : s.Yields s1 := setHif _ _
  exact ite (fun _ => h.trans (emit _ _)) fun _ => ite (fun _ => h) fun _ => ite (fun _ => h.trans (setRing _ _ _)) fun _ =>
    ((h.trans (setRing _ _ _)).trans (setHif _ _)).trans (of_onlyRegs ((State.finish_onlyRegs _ _ _ _ _ _).mono (by decide)))

theorem relayTwi (s : State) (p : TwiCmd → Bool) : s.Yields (s.relayTwi p) :=
  ite (fun _ => foldl _ (fun _ _ _ => sendMsg _ _ _) _) fun _ => refl s

theorem twiLose (s : State) : s.Yields s.twiLose :=
  (ite (fun _ => relayTwi s _) fun _ => refl s).trans (foldl _ (fun _ _ _ => twiFinish _ _ _ _) _)

theorem twiFollow (on : Bool) (s : State) (n : Nat) (hn : n ∈ List.range 3) : s.Yields (State.twiFollow on s n) := by
  have hreg : ∀ n ∈ List.range 3, (F.TWI_C_STATUS_state n).reg ∈ ownRegs := by decide
  have set (s : State) (v : Nat) : s.Yields (s.setFld (F.TWI_C_STATUS_state n) v) := of_onlyRegs (.setFld (hreg n hn) s v)
  exact ite (fun _ => set s _) fun _ => ite (fun _ => set s _) fun _ => ite (fun _ => (set s 1).trans (setHif _ _)) fun _ => refl s

theorem twiPins (s : State) (on : Bool) : s.Yields (s.twiPins on) := by
  rw [State.twiPins_eq]
  exact (ite (fun _ => refl s) fun _ => (twiLose s).trans (setHif _ _)).trans (foldl _ (twiFollow on) _)

theorem setPins (s : State) (on : Bool) : s.Yields (s.setPins on) :=
  ite (fun _ => refl s) fun _ => ((setTwn _ _).trans (twiPins _ _)).trans (emit _ _)

theorem setOwnOut (s : State) (on : Bool) : s.Yields (s.setOwnOut on) := ite (fun _ => refl s) fun _ => (setTwn _ _).trans (emit _ _)

theorem endHandover (s : State) (r : Nat) : s.Yields (s.endHandover r) :=
  (setTwn s _).trans (of_onlyRegs (.trans (.setFlag (by decide) _ _) (.setFld (by decide) _ _)))

theorem cancelHandover (s : State) (r : Nat) : s.Yields (s.cancelHandover r) :=
  ite (fun _ => refl s) fun _ => ite (fun _ => endHandover _ _) fun _ =>
    (endHandover _ _).trans (ite (fun _ => refl _) fun _ => setPins _ _)

theorem releaseOwn (s : State) : s.Yields s.releaseOwn := by
  have h : s.Yields s.ownReleased := ((setPins _ _).trans (setOwnOut _ _)).trans (setTwn _ _)
  rcases s.releaseOwn_eq with e | e <;> rw [e]
  · exact h
  · exact h.trans (cancelHandover _ _)

theorem proposeHandover (s : State) (h : Nat) (late y : Bool) : s.Yields (s.proposeHandover h late y) :=
  ((setTwn s _).trans (of_onlyRegs (.setFlag (by decide) _ _))).trans (update _ _ _ (List.Subset.refl _))

theorem yieldOwn (s : State) : s.Yields s.yieldOwn := by
  unfold State.yieldOwn
  refine ite (fun _ => releaseOwn s) fun _ => ite (fun _ => ite (fun _ => ?_) fun _ => releaseOwn s) fun _ =>
    ite (fun _ => releaseOwn s) fun _ => refl s
  split
  · exact ite (fun _ => refl s) fun _ => releaseOwn s
  · split
    · exact ite (fun _ => setTwn _ _) fun _ => proposeHandover _ _ _ _
    · exact proposeHandover _ _ _ _

end State.Yields

end Sys2Proof.Machine
end

section
/-!
SUPPORT. An occurrence of a fault source in detail (R436, R442 to R448, R451): what is recorded of it, and the reaction of its level.
-/

namespace Sys2Proof.Machine

/-! ## Bits of the pairs of registers -/

theorem State.bit64_setBit64 (s : State) {lo hi : Nat} (hne : lo ≠ hi) {i k : Nat} (hi64 : i < 64) (hk : k < 64) (b : Bool) :
    (s.setBit64 lo hi i b).bit64 lo hi k = if k = i then b else s.bit64 lo hi k := by
  have hpair (x y : Word) : (x.toNat + y.toNat * 2 ^ 32).testBit k = if k < 32 then x.getLsbD k else y.getLsbD (k - 32) := by
    rw [Nat.add_comm, Nat.mul_comm, Nat.testBit_two_pow_mul_add _ x.isLt]
    rfl
  have hset (w : Word) (j m : Nat) (hm : m < 32) : (setBits w j j (bit b)).getLsbD m = if m = j then b else w.getLsbD m := by
    rw [getLsbD_setBits _ _ _ _ _ hm]
    by_cases h : m = j
    · subst h
      rw [if_pos ⟨le_rfl, le_rfl⟩, if_pos rfl, Nat.sub_self]
      cases b <;> rfl
    · rw [if_neg (by omega), if_neg h]
  unfold State.setBit64 State.bit64 State.pair
  rw [hpair, hpair]
  by_cases h : i < 32
  · rw [if_pos h, State.reg_setFlag, State.reg_setFld, if_pos rfl, State.reg_setFlag, State.reg_setFld_of_ne _ _ hne]
    by_cases hk32 : k < 32
    · rw [if_pos hk32, if_pos hk32]
      exact hset _ _ _ hk32
    · rw [if_neg hk32, if_neg hk32, if_neg (by omega)]
  · rw [if_neg h, State.reg_setFlag, State.reg_setFld_of_ne _ _ hne.symm, State.reg_setFlag, State.reg_setFld, if_pos rfl]
    by_cases hk32 : k < 32
    · rw [if_pos hk32, if_pos hk32, if_neg (by omega)]
    · rw [if_neg hk32, if_neg hk32]
      refine (hset _ _ _ (by omega)).trans ?_
      have hiff : k - 32 = i - 32 ↔ k = i := by omega
      simp only [hiff]

/-! ## What is recorded -/

/-- From `s` to `t` an occurrence is recorded: registers of the collector, the collector itself, an event. -/
structure State.Records (l : List Nat) (s t : State) : Prop where
  frame : ∃ r z f h o, t = { s with regs := r, sets := z, flt := f, hif := h, outbox := o }
  keeps : s.KeepsRegs t l
  repair : t.flt.repair = s.flt.repair
  yields : t.flt.yield = s.flt.yield

namespace State.Records

variable {l m : List Nat} {s t u : State}

theorem refl (s : State) : s.Records l s := ⟨⟨_, _, _, _, _, rfl⟩, fun _ _ => rfl, rfl, rfl⟩

theorem trans (h : State.Records l s t) (k : State.Records l t u) : State.Records l s u := by
  refine ⟨?_, fun o ho => (k.keeps o ho).trans (h.keeps o ho), k.repair.trans h.repair, k.yields.trans h.yields⟩
  obtain ⟨_, _, _, _, _, rfl⟩ := h.frame
  obtain ⟨_, _, _, _, _, rfl⟩ := k.frame
  exact ⟨_, _, _, _, _, rfl⟩

theorem mono (h : State.Records l s t) (hm : l ⊆ m) : State.Records m s t :=
  ⟨h.frame, fun o ho => h.keeps o fun hl => ho (hm hl), h.repair, h.yields⟩

theorem ite {c : Prop} [Decidable c] (h : c → State.Records l s t) (k : ¬c → State.Records l s u) :
    State.Records l s (if c then t else u) := by
  split_ifs with hc
  · exact h hc
  · exact k hc

theorem of_onlyRegs (h : State.OnlyRegs l s t) : State.Records l s t := by
  obtain ⟨_, _, e⟩ := h.frame
  refine ⟨?_, h.keeps, ?_, ?_⟩
  · exact ⟨_, _, _, _, _, e⟩
  · rw [e]
  · rw [e]

theorem setFlt (s : State) (f : Flt → Flt) (hr : (f s.flt).repair = s.flt.repair) (hy : (f s.flt).yield = s.flt.yield) :
    State.Records l s (s.setFlt f) :=
  ⟨⟨_, _, _, _, _, rfl⟩, fun _ _ => rfl, hr, hy⟩

theorem of_sameButHost (h : s.SameButHost t) : State.Records l s t := by
  obtain ⟨_, _, rfl⟩ := h
  exact ⟨⟨_, _, _, _, _, rfl⟩, fun _ _ => rfl, rfl, rfl⟩

theorem setBit64 {lo hi : Nat} (hl : lo ∈ l) (hh : hi ∈ l) (s : State) (i : Nat) (b : Bool) :
    State.Records l s (s.setBit64 lo hi i b) :=
  ite (fun _ => of_onlyRegs (.setFlag hl _ _)) fun _ => of_onlyRegs (.setFlag hh _ _)

theorem count {o : Nat} (ho : o ∈ l) (s : State) : State.Records l s (s.count o) := of_onlyRegs (.count ho s)

theorem postEvent (s : State) (ty sub : Nat) (d : List Byte) : State.Records [R.HIF_EVT_DROP_CNT] s (s.postEvent ty sub d) := by
  rcases s.postEvent_changes ty sub d with h | h
  · exact of_sameButHost h
  · exact (count (by simp) s).trans (of_sameButHost h)

theorem logFault (s : State) (o : Occ) (lvl : Nat) (esc : Bool) (seq : Nat) :
    State.Records [R.FLT_LOG_WP, R.FLT_LOG_OVW_CNT] s (s.logFault o lvl esc seq) := by
  unfold State.logFault
  extract_lets wp net e s1 s2 s3
  have h1 : State.Records [R.FLT_LOG_WP, R.FLT_LOG_OVW_CNT] s s1 := ite (fun _ => count (by decide) _) fun _ => refl s
  have h2 (s : State) (v : Nat) : State.Records [R.FLT_LOG_WP, R.FLT_LOG_OVW_CNT] s (s.setFld F.FLT_LOG_WP_wp v) :=
    of_onlyRegs (.setFld (by decide) _ _)
  have h3 : State.Records [R.FLT_LOG_WP, R.FLT_LOG_OVW_CNT] s s3 :=
    (h1.trans (setFlt _ _ rfl rfl)).trans (h2 _ _)
  have h4 (s : State) : State.Records [R.FLT_LOG_WP, R.FLT_LOG_OVW_CNT] s (s.setFlag F.FLT_LOG_WP_wrapped true) :=
    of_onlyRegs (.setFlag (by decide) _ _)
  exact ite (fun _ => h3.trans (h4 _)) fun _ => h3

end State.Records

theorem State.setBit64_flt (s : State) (lo hi i : Nat) (b : Bool) : (s.setBit64 lo hi i b).flt = s.flt := by
  unfold State.setBit64
  split <;> rfl

/-- The tags of an occurrence: of its source as injected, or as real after an injection (R451, R452). -/
def State.tagOcc (s : State) (o : Occ) : State :=
  let s1 := if o.inj then s.setBit64 R.FLT_INJ_TAG_LO R.FLT_INJ_TAG_HI o.src true else s
  if !o.inj && s.bit64 R.FLT_INJ_TAG_LO R.FLT_INJ_TAG_HI o.src then s1.setBit64 R.FLT_REAL_LO R.FLT_REAL_HI o.src true else s1

/-- The occurrence gets its number, and is counted (R436, R442). -/
def State.countOcc (s : State) (seq : Nat) (esc : Bool) : State :=
  let s3 := (s.setFlt fun f => { f with seq := (seq + 1) % 2 ^ 32 }).count R.FLT_OCC_CNT
  if esc then s3.count R.FLT_ESC_CNT else s3

/-- A source is latched and unacknowledged (R436). -/
def State.latchSrc (s : State) (i : Nat) : State :=
  (s.setBit64 R.FLT_STATUS_LO R.FLT_STATUS_HI i true).setBit64 R.FLT_UNACK_LO R.FLT_UNACK_HI i true

/-- An occurrence is tagged, numbered, counted, latched and unacknowledged (R436, R442, R451, R452). -/
def State.noteOcc (s : State) (o : Occ) : State :=
  ((s.tagOcc o).countOcc s.flt.seq (s.escalates o)).latchSrc o.src

section
variable (s : State) (o : Occ)

theorem State.tagOcc_records : State.Records [R.FLT_INJ_TAG_LO, R.FLT_INJ_TAG_HI, R.FLT_REAL_LO, R.FLT_REAL_HI] s (s.tagOcc o) := by
  unfold State.tagOcc
  extract_lets s1
  have h1 : State.Records [R.FLT_INJ_TAG_LO, R.FLT_INJ_TAG_HI, R.FLT_REAL_LO, R.FLT_REAL_HI] s s1 :=
    .ite (fun _ => .setBit64 (by simp) (by simp) _ _ _) fun _ => .refl s
  exact .ite (fun _ => h1.trans (.setBit64 (by simp) (by simp) _ _ _)) fun _ => h1

theorem State.countOcc_records (seq : Nat) (esc : Bool) :
    State.Records [R.FLT_OCC_CNT, R.FLT_ESC_CNT] s (s.countOcc seq esc) := by
  unfold State.countOcc
  extract_lets s3
  have h3 : State.Records [R.FLT_OCC_CNT, R.FLT_ESC_CNT] s s3 := (State.Records.setFlt s _ rfl rfl).trans (.count (by simp) _)
  exact .ite (fun _ => h3.trans (.count (by simp) _)) fun _ => h3

theorem State.latchSrc_records (i : Nat) :
    State.Records [R.FLT_STATUS_LO, R.FLT_STATUS_HI, R.FLT_UNACK_LO, R.FLT_UNACK_HI] s (s.latchSrc i) :=
  .trans (.setBit64 (by simp) (by simp) _ _ _) (.setBit64 (by simp) (by simp) _ _ _)

/-- The registers in which an occurrence is noted. -/
def noteRegs : List Nat :=
  [R.FLT_INJ_TAG_LO, R.FLT_INJ_TAG_HI, R.FLT_REAL_LO, R.FLT_REAL_HI, R.FLT_OCC_CNT, R.FLT_ESC_CNT, R.FLT_STATUS_LO, R.FLT_STATUS_HI,
    R.FLT_UNACK_LO, R.FLT_UNACK_HI]

theorem State.noteOcc_records : State.Records noteRegs s (s.noteOcc o) :=
  (((s.tagOcc_records o).mono (by decide)).trans ((State.countOcc_records _ _ _).mono (by decide))).trans
    ((State.latchSrc_records _ _).mono (by decide))

section
variable {k : Nat} (ho : o.src < 64) (hk : k < 64)
include ho hk

theorem State.latched_noteOcc : (s.noteOcc o).latched k = (decide (k = o.src) || s.latched k) := by
  have hc : ((s.tagOcc o).countOcc s.flt.seq (s.escalates o)).latched k = s.latched k :=
    State.bit64_of_keeps (((s.tagOcc_records o).mono (List.subset_append_left _ [R.FLT_OCC_CNT, R.FLT_ESC_CNT])).trans
      ((State.countOcc_records _ _ _).mono (List.subset_append_right _ _))).keeps (by decide) (by decide) k
  have hu (t : State) : (t.setBit64 R.FLT_UNACK_LO R.FLT_UNACK_HI o.src true).latched k = t.latched k :=
    State.bit64_of_keeps (State.Records.setBit64 (l := [R.FLT_UNACK_LO, R.FLT_UNACK_HI]) (by simp) (by simp) t _ _).keeps
      (by decide) (by decide) k
  refine (hu _).trans ((State.bit64_setBit64 _ (by decide) ho hk true).trans ?_)
  by_cases h : k = o.src
  · simp [h]
  · simp only [h, if_false, decide_false, Bool.false_or]
    exact hc

theorem State.unacked_noteOcc : (s.noteOcc o).unacked k = (decide (k = o.src) || s.unacked k) := by
  have hc : (((s.tagOcc o).countOcc s.flt.seq (s.escalates o)).setBit64 R.FLT_STATUS_LO R.FLT_STATUS_HI o.src true).unacked k =
      s.unacked k :=
    State.bit64_of_keeps ((((s.tagOcc_records o).mono (List.subset_append_left _
      [R.FLT_OCC_CNT, R.FLT_ESC_CNT, R.FLT_STATUS_LO, R.FLT_STATUS_HI])).trans
      ((State.countOcc_records _ _ _).mono (by decide))).trans
      (.setBit64 (by decide) (by decide) _ _ _)).keeps (by decide) (by decide) k
  refine (State.bit64_setBit64 _ (by decide) ho hk true).trans ?_
  by_cases h : k = o.src
  · simp [h]
  · simp only [h, if_false, decide_false, Bool.false_or]
    exact hc

end

/-- An injected occurrence tags its source (R451). -/
theorem State.tag_noteOcc (ho : o.src < 64) (hi : o.inj = true) :
    (s.noteOcc o).bit64 R.FLT_INJ_TAG_LO R.FLT_INJ_TAG_HI o.src = true := by
  have hx : s.tagOcc o = s.setBit64 R.FLT_INJ_TAG_LO R.FLT_INJ_TAG_HI o.src true := by
    simp only [State.tagOcc, hi, Bool.not_true, Bool.false_and, Bool.false_eq_true, if_false, if_true]
  refine (State.bit64_of_keeps ((((State.countOcc_records (s.tagOcc o) s.flt.seq (s.escalates o)).mono (List.subset_append_left _
    [R.FLT_STATUS_LO, R.FLT_STATUS_HI, R.FLT_UNACK_LO, R.FLT_UNACK_HI])).trans
    ((State.latchSrc_records _ _).mono (List.subset_append_right _ _))).keeps) (by decide) (by decide) _).trans ?_
  rw [hx]
  exact s.bit64_setBit64_true ho

theorem State.counts_noteOcc : (s.noteOcc o).reg R.FLT_OCC_CNT = counted (s.reg R.FLT_OCC_CNT) ∧
    (s.noteOcc o).reg R.FLT_ESC_CNT = (if s.escalates o then counted (s.reg R.FLT_ESC_CNT) else s.reg R.FLT_ESC_CNT) := by
  have ht := (s.tagOcc_records o).keeps
  have hl := (State.latchSrc_records ((s.tagOcc o).countOcc s.flt.seq (s.escalates o)) o.src).keeps
  have hcount (x : Nat) : ((s.tagOcc o).setFlt fun f => { f with seq := (s.flt.seq + 1) % 2 ^ 32 }).reg x = (s.tagOcc o).reg x := rfl
  constructor
  · refine (hl _ (by decide)).trans ?_
    rw [← ht _ (by decide)]
    unfold State.countOcc
    split
    · exact (State.reg_put_of_ne _ _ (by decide)).trans ((State.reg_count_self _ _).trans (by rw [hcount]))
    · exact (State.reg_count_self _ _).trans (by rw [hcount])
  · refine (hl _ (by decide)).trans ?_
    rw [← ht _ (by decide)]
    unfold State.countOcc
    have ho : (((s.tagOcc o).setFlt fun f => { f with seq := (s.flt.seq + 1) % 2 ^ 32 }).count R.FLT_OCC_CNT).reg R.FLT_ESC_CNT =
        (s.tagOcc o).reg R.FLT_ESC_CNT := State.reg_put_of_ne _ _ (by decide)
    split
    · exact (State.reg_count_self _ _).trans (by rw [ho])
    · exact ho

theorem State.seq_noteOcc : (s.noteOcc o).flt.seq = (s.flt.seq + 1) % 2 ^ 32 := by
  have hl (t : State) (i : Nat) : (t.latchSrc i).flt = t.flt := (State.setBit64_flt _ _ _ _ _).trans (State.setBit64_flt _ _ _ _ _)
  rw [State.noteOcc, hl]
  unfold State.countOcc
  split <;> rfl

end

/-- The occurrence goes to the log: a new latch, a higher level, or a real one of a source tagged as injected (R447, R452). -/
def State.logsOcc (s : State) (o : Occ) : Bool :=
  (o.src = 63 || !s.latched o.src || (s.fsrc o.src).lastLvl < s.occLevel o) ||
    (!o.inj && s.bit64 R.FLT_INJ_TAG_LO R.FLT_INJ_TAG_HI o.src)

/-- An occurrence noted and logged. -/
def State.loggedOcc (s : State) (o : Occ) : State :=
  if s.logsOcc o then (s.noteOcc o).logFault o (s.occLevel o) (s.escalates o) s.flt.seq else s.noteOcc o

/-- Raising is recording, posting, and the reaction (R436 to R448). -/
theorem State.raiseOcc_eq (s : State) (o : Occ) : ∃ u : State, State.Records [R.HIF_EVT_DROP_CNT] (s.loggedOcc o) u ∧
    u.flt.seq = (s.loggedOcc o).flt.seq ∧ u.flt.log = (s.loggedOcc o).flt.log ∧
    s.raiseOcc o = ((u.react o (s.occLevel o)).setWorst).breakRevert (2 ≤ s.occClass o && !o.dry) := by
  unfold State.raiseOcc
  extract_lets c esc lvl was r tagged s1 s2 seq s3 s4 s5 s6 s7 add r1 first logged s8 r2 posts s9
  have hseq : seq = s.flt.seq := by
    have h1 : s1.flt = s.flt := by
      unfold s1
      split
      · exact State.setBit64_flt _ _ _ _ _
      · rfl
    have h2 : s2.flt = s1.flt := by
      unfold s2
      split
      · exact State.setBit64_flt _ _ _ _ _
      · rfl
    exact congrArg Flt.seq (h2.trans h1)
  have h8 : s8 = s.loggedOcc o := by
    clear_value seq
    subst hseq
    rfl
  have hev (x : FltSrc) (d : List Byte) : ((s8.postEvent 2 o.src d).setFsrc o.src x).flt.seq = s8.flt.seq ∧
      ((s8.postEvent 2 o.src d).setFsrc o.src x).flt.log = s8.flt.log := by
    have h := State.postEvent_flt s8 2 o.src d
    exact ⟨(congrArg Flt.seq h :), (congrArg Flt.log h :)⟩
  clear_value seq
  refine ⟨s9, ?_, ?_, ?_, rfl⟩
  · rw [← h8]
    exact .ite (fun _ => (State.Records.postEvent _ _ _ _).trans (.setFlt _ _ rfl rfl)) fun _ => .setFlt _ _ rfl rfl
  · rw [← h8]
    unfold s9
    split
    · exact (hev _ _).1
    · rfl
  · rw [← h8]
    unfold s9
    split
    · exact (hev _ _).2
    · rfl

/-! ## The log (R447) -/

theorem State.wp_logFault (s : State) (o : Occ) (lvl : Nat) (esc : Bool) (seq : Nat) :
    (s.logFault o lvl esc seq).fld F.FLT_LOG_WP_wp = (s.fld F.FLT_LOG_WP_wp + 1) % 64 := by
  have hset (t : State) (v : Nat) : (t.setFld F.FLT_LOG_WP_wp v).fld F.FLT_LOG_WP_wp = v % 64 :=
    State.fld_setFld_self _ _ _ (by decide)
  unfold State.logFault
  extract_lets wp net e s1 s2 s3
  have h3 : s3.fld F.FLT_LOG_WP_wp = (wp + 1) % 64 := (hset _ _).trans (Nat.mod_mod _ _)
  split
  · exact (State.fld_setFld_of_apart _ _ _ _ (by decide) (by decide)).trans h3
  · exact h3

/-- An entry's first bytes: source, class, level. -/
theorem State.entry_logFault (s : State) (o : Occ) (lvl : Nat) (esc : Bool) (seq : Nat) :
    (Tbl.get (fun _ => []) (s.logFault o lvl esc seq).flt.log (s.fld F.FLT_LOG_WP_wp)).take 3 =
      leBytes 1 o.src ++ leBytes 1 (s.occClass o) ++ leBytes 1 lvl := by
  unfold State.logFault
  extract_lets wp net e s1 s2 s3
  have h3 : Tbl.get (fun _ => []) s3.flt.log wp = e := Tbl.get_set_self (fun _ => []) s1.flt.log wp e
  have he : e.take 3 = leBytes 1 o.src ++ leBytes 1 (s.occClass o) ++ leBytes 1 lvl := by
    unfold e
    simp only [leBytes, List.cons_append, List.nil_append, List.take_succ_cons, List.take_zero]
  split
  · exact (congrArg (List.take 3) h3).trans he
  · exact (congrArg (List.take 3) h3).trans he

section
variable (s : State) (o : Occ)

theorem State.loggedOcc_records : State.Records (noteRegs ++ [R.FLT_LOG_WP, R.FLT_LOG_OVW_CNT]) s (s.loggedOcc o) := by
  have h := (s.noteOcc_records o).mono (List.subset_append_left _ [R.FLT_LOG_WP, R.FLT_LOG_OVW_CNT])
  exact .ite (fun _ => h.trans ((State.Records.logFault _ _ _ _ _).mono (List.subset_append_right _ _))) fun _ => h

/-- The log takes nothing of what is noted. -/
theorem State.loggedOcc_reg {r : Nat} (h : r ∉ [R.FLT_LOG_WP, R.FLT_LOG_OVW_CNT]) : (s.loggedOcc o).reg r = (s.noteOcc o).reg r := by
  unfold State.loggedOcc
  split
  · exact (State.Records.logFault _ _ _ _ _).keeps r h
  · rfl

theorem State.seq_loggedOcc : (s.loggedOcc o).flt.seq = (s.flt.seq + 1) % 2 ^ 32 := by
  refine Eq.trans ?_ (s.seq_noteOcc o)
  unfold State.loggedOcc
  split
  · unfold State.logFault
    extract_lets wp net e s1 s2 s3
    have h3 : s3.flt.seq = s1.flt.seq := rfl
    have h1 : s1.flt.seq = (s.noteOcc o).flt.seq := by unfold s1; split <;> rfl
    split
    · exact h3.trans h1
    · exact h3.trans h1
  · rfl

theorem State.log_loggedOcc (h : s.logsOcc o = true) :
    (s.loggedOcc o).fld F.FLT_LOG_WP_wp = (s.fld F.FLT_LOG_WP_wp + 1) % 64 ∧
    (Tbl.get (fun _ => []) (s.loggedOcc o).flt.log (s.fld F.FLT_LOG_WP_wp)).take 3 =
      leBytes 1 o.src ++ leBytes 1 ((s.noteOcc o).occClass o) ++ leBytes 1 (s.occLevel o) := by
  have hw : (s.noteOcc o).fld F.FLT_LOG_WP_wp = s.fld F.FLT_LOG_WP_wp := State.fld_of_reg ((s.noteOcc_records o).keeps _ (by decide))
  rw [State.loggedOcc, if_pos h]
  refine ⟨(State.wp_logFault _ _ _ _ _).trans (by rw [hw]), ?_⟩
  rw [← hw]
  exact State.entry_logFault _ _ _ _ _

end

/-! ## The reaction (R440 to R444, R451) -/

/-- The collector as the reaction of a level leaves it: from level 2 the repair is asked for, from 3 the source forbids OWN. -/
def Flt.reacted (f : Flt) (o : Occ) (lvl : Nat) : Flt :=
  { f with
    repair := if 2 ≤ lvl then f.repair ++ [(o.src, o.data)] else f.repair
    yield := if 3 ≤ lvl then (if f.yield.contains o.src then f.yield else f.yield ++ [o.src]) else f.yield }

section
variable {s : State} {o : Occ} {lvl : Nat}

/-- A dry run has no reaction (R451). -/
theorem State.react_of_dry (h : o.dry = true) : s.react o lvl = s := by
  have h1 : ¬ 2 ≤ min 1 lvl := by omega
  have h2 : ¬ 3 ≤ min 1 lvl := by omega
  have h3 : ¬ 4 ≤ min 1 lvl := by omega
  simp only [State.react, h, if_true, if_neg h1, if_neg h2, if_neg h3]

variable (h : o.dry = false)
include h

theorem State.react_of_low (hl : lvl < 3) : s.react o lvl = { s with flt := s.flt.reacted o lvl } := by
  have h3 : ¬ 3 ≤ lvl := by omega
  have h4 : ¬ 4 ≤ lvl := by omega
  unfold State.react Flt.reacted
  simp only [h, Bool.false_eq_true, if_false, if_neg h3, if_neg h4]
  split <;> rfl

theorem State.react_of_three (hl : lvl = 3) : s.react o lvl = ({ s with flt := s.flt.reacted o lvl } : State).yieldOwn := by
  subst hl
  unfold State.react
  simp only [h, Bool.false_eq_true, if_false, Nat.reduceLeDiff, if_true]
  rfl

theorem State.react_of_four (hl : 4 ≤ lvl) : s.react o lvl =
    { ({ s with flt := s.flt.reacted o lvl } : State).releaseOwn with
      warmReq := ({ s with flt := s.flt.reacted o lvl } : State).releaseOwn.warmReq ||| 16 } := by
  have h2 : 2 ≤ lvl := by omega
  have h3 : 3 ≤ lvl := by omega
  unfold State.react Flt.reacted
  simp only [h, Bool.false_eq_true, if_false, if_pos h2, if_pos h3, if_pos hl]
  rfl

/-- Beside the collector and the request for a reset a reaction gives at most ownership away. -/
theorem State.react_yields :
    ({ s with flt := s.flt.reacted o lvl, warmReq := if 4 ≤ lvl then s.warmReq ||| 16 else s.warmReq } : State).Yields
    (s.react o lvl) := by
  rcases Nat.lt_or_ge lvl 3 with hl | hl
  · have h4 : ¬ 4 ≤ lvl := by omega
    rw [State.react_of_low h hl, if_neg h4]
    exact .refl _
  · rcases Nat.lt_or_ge lvl 4 with h4 | h4
    · rw [State.react_of_three h (by omega), if_neg (by omega)]
      exact .yieldOwn _
    · have hy := State.Yields.releaseOwn { s with flt := s.flt.reacted o lvl }
      rw [State.react_of_four h h4, if_pos h4]
      obtain ⟨_, _, _, _, _, _, e⟩ := hy.frame
      refine ⟨⟨_, _, _, _, _, _, by rw [e]⟩, hy.keeps, hy.sent⟩

end

/-! ## Raising, summed up -/

section
variable (s : State) (o : Occ)

/-- Beside ownership, the worst class and an event's count, raising leaves the registers as the record does. -/
theorem State.raiseOcc_reg {r : Nat} (h : r ∉ [R.HIF_EVT_DROP_CNT, R.FLT_WORST] ++ ownRegs) :
    (s.raiseOcc o).reg r = (s.loggedOcc o).reg r := by
  obtain ⟨u, hu, -, -, hx⟩ := s.raiseOcc_eq o
  have hw (t : State) : State.OnlyRegs [R.FLT_WORST] t t.setWorst := .trans (.setFld (by decide) _ _) (.setFlag (by decide) _ _)
  have hb (t : State) (b : Bool) : (t.breakRevert b).reg r = t.reg r := by unfold State.breakRevert; split <;> rfl
  have hr : (u.react o (s.occLevel o)).reg r = u.reg r := by
    cases hd : o.dry with
    | true => rw [State.react_of_dry hd]
    | false => exact (State.react_yields hd).keeps r fun hm => h (List.mem_append_right _ hm)
  rw [hx, hb, (hw _).keeps r (fun hm => h (by simp at hm; simp [hm])), hr]
  exact hu.keeps r fun hm => h (by simp at hm; simp [hm])

/-- The collector after an occurrence but for its records of sources. -/
theorem State.raiseOcc_flt : (s.raiseOcc o).flt.seq = (s.flt.seq + 1) % 2 ^ 32 ∧ (s.raiseOcc o).flt.log = (s.loggedOcc o).flt.log ∧
    (s.raiseOcc o).flt.repair = (if 2 ≤ s.occLevel o ∧ o.dry = false then s.flt.repair ++ [(o.src, o.data)] else s.flt.repair) ∧
    (s.raiseOcc o).flt.yield = (if 3 ≤ s.occLevel o ∧ o.dry = false then
      (if s.flt.yield.contains o.src then s.flt.yield else s.flt.yield ++ [o.src]) else s.flt.yield) := by
  obtain ⟨u, hu, hseq, hlog, hx⟩ := s.raiseOcc_eq o
  have hrep : u.flt.repair = s.flt.repair := hu.repair.trans (s.loggedOcc_records o).repair
  have hyld : u.flt.yield = s.flt.yield := hu.yields.trans (s.loggedOcc_records o).yields
  have hb (t : State) (b : Bool) : (t.breakRevert b).flt = t.flt := by unfold State.breakRevert; split <;> rfl
  have hflt : (s.raiseOcc o).flt = (u.react o (s.occLevel o)).flt := by rw [hx, hb]; rfl
  have hs := hseq.trans (s.seq_loggedOcc o)
  cases hd : o.dry with
  | true =>
    rw [hflt, State.react_of_dry hd]
    exact ⟨hs, hlog, hrep.trans (by simp), hyld.trans (by simp)⟩
  | false =>
    rw [hflt, (State.react_yields hd).flt]
    refine ⟨hs, hlog, ?_, ?_⟩
    · simp only [Flt.reacted, hrep, and_true]
    · simp only [Flt.reacted, hyld, and_true]

theorem State.raiseOcc_warmReq :
    (s.raiseOcc o).warmReq = if 4 ≤ s.occLevel o ∧ o.dry = false then s.warmReq ||| 16 else s.warmReq := by
  obtain ⟨u, hu, -, -, hx⟩ := s.raiseOcc_eq o
  have hrec : u.warmReq = s.warmReq := by
    obtain ⟨_, _, _, _, _, e⟩ := (s.loggedOcc_records o).frame
    obtain ⟨_, _, _, _, _, e'⟩ := hu.frame
    rw [e', e]
  have hb (t : State) (b : Bool) : (t.breakRevert b).warmReq = t.warmReq := by unfold State.breakRevert; split <;> rfl
  have hw : (s.raiseOcc o).warmReq = (u.react o (s.occLevel o)).warmReq := by rw [hx, hb]; rfl
  rw [hw]
  cases hd : o.dry with
  | true => rw [State.react_of_dry hd]; simpa using hrec
  | false => rw [(State.react_yields hd).warmReq, hrec]; simp

/-- A recorded occurrence leaves the twin block. -/
theorem State.Records.twn {l : List Nat} {t u : State} (h : State.Records l t u) : u.twn = t.twn := by
  obtain ⟨_, _, _, _, _, e⟩ := h.frame
  rw [e]

/-- Below level 3, and in a dry run, only the revert hold of the twin block may break (R245). -/
theorem State.raiseOcc_twn (h : s.occLevel o < 3 ∨ o.dry = true) :
    (s.raiseOcc o).twn = if 2 ≤ s.occClass o ∧ o.dry = false then { s.twn with revU := none } else s.twn := by
  obtain ⟨u, hu, -, -, hx⟩ := s.raiseOcc_eq o
  have hrec : u.twn = s.twn := hu.twn.trans (s.loggedOcc_records o).twn
  have hr : (u.react o (s.occLevel o)).twn = s.twn := by
    cases hd : o.dry with
    | true => rw [State.react_of_dry hd, hrec]
    | false => rw [State.react_of_low hd (h.resolve_right (by simp [hd]))]; exact hrec
  rw [hx]
  unfold State.breakRevert
  split
  next hc => 
    have hc' : 2 ≤ s.occClass o ∧ o.dry = false := by simpa using hc
    rw [if_pos hc', ← hr]
    rfl
  next hc =>
    have hc' : ¬(2 ≤ s.occClass o ∧ o.dry = false) := by simpa using hc
    rw [if_neg hc', ← hr]
    rfl

/-- At level 4 OWN is released; at level 3 a solo module releases it (R222, R443, R444). -/
theorem State.raiseOcc_released (hd : o.dry = false) (h : 4 ≤ s.occLevel o ∨ (s.occLevel o = 3 ∧ s.solo = true)) :
    (s.raiseOcc o).isOwner = false ∧ (s.raiseOcc o).twn.ownOut = false := by
  obtain ⟨u, hu, -, -, hx⟩ := s.raiseOcc_eq o
  have hsolo : u.pairState = s.pairState := State.fld_of_reg
    ((hu.keeps _ (by decide)).trans ((s.loggedOcc_records o).keeps _ (by decide)))
  have hr : (u.react o (s.occLevel o)).isOwner = false ∧ (u.react o (s.occLevel o)).twn.ownOut = false := by
    rcases h with h | ⟨h, hs⟩
    · rw [State.react_of_four hd h]
      exact ⟨State.isOwner_releaseOwn _, State.ownOut_releaseOwn _⟩
    · have hp : ({ u with flt := u.flt.reacted o (s.occLevel o) } : State).pairState ≤ 1 := by
        have h0 : s.pairState = 0 := of_decide_eq_true hs
        have hq : ({ u with flt := u.flt.reacted o (s.occLevel o) } : State).pairState = u.pairState := rfl
        omega
      rw [State.react_of_three hd h, State.yieldOwn, if_pos hp]
      exact ⟨State.isOwner_releaseOwn _, State.ownOut_releaseOwn _⟩
  have hb (t : State) (b : Bool) : (t.breakRevert b).isOwner = t.isOwner ∧ (t.breakRevert b).twn.ownOut = t.twn.ownOut := by
    unfold State.breakRevert
    split <;> exact ⟨rfl, rfl⟩
  rw [hx, (hb _ _).1, (hb _ _).2]
  exact hr

/-- The sources' bits after an occurrence: its own are set, the others stand (R436). -/
theorem State.raiseOcc_bits (ho : o.src < 64) {k : Nat} (hk : k < 64) :
    (s.raiseOcc o).latched k = (decide (k = o.src) || s.latched k) ∧
      (s.raiseOcc o).unacked k = (decide (k = o.src) || s.unacked k) := by
  have hreg {r : Nat} (h : r ∉ [R.HIF_EVT_DROP_CNT, R.FLT_WORST] ++ ownRegs ++ [R.FLT_LOG_WP, R.FLT_LOG_OVW_CNT]) :
      (s.raiseOcc o).reg r = (s.noteOcc o).reg r :=
    (s.raiseOcc_reg o fun hm => h (List.mem_append_left _ hm)).trans (s.loggedOcc_reg o fun hm => h (List.mem_append_right _ hm))
  rw [← s.latched_noteOcc o ho hk, ← s.unacked_noteOcc o ho hk]
  simp only [State.latched, State.unacked, State.bit64, State.pair, hreg (r := R.FLT_STATUS_LO) (by decide),
    hreg (r := R.FLT_STATUS_HI) (by decide), hreg (r := R.FLT_UNACK_LO) (by decide), hreg (r := R.FLT_UNACK_HI) (by decide), and_self]

end

end Sys2Proof.Machine
end

section
/-!
PROOFS. Boot attempts, their waits, reloads and the cores' watchdogs (R479 to R488).
-/

namespace Sys2Proof.Machine

/-! ## Frames -/

section
variable {l : List Nat} {s t : State} (h : State.Reacts l s t)
include h

theorem State.Reacts.pwr : t.pwr = s.pwr := by obtain ⟨_, _, _, _, _, _, _, _, rfl⟩ := h.frame; rfl
theorem State.Reacts.ddr : t.ddr = s.ddr := by obtain ⟨_, _, _, _, _, _, _, _, rfl⟩ := h.frame; rfl
theorem State.Reacts.run : t.run = s.run := by obtain ⟨_, _, _, _, _, _, _, _, rfl⟩ := h.frame; rfl

end

/-- From `s` to `t` drains of masters have started: they are noted, shown and counted (R399). -/
structure State.Drains (s t : State) : Prop where
  frame : ∃ r z d, t = { s with regs := r, sets := z, sram := { s.sram with drain := d } }
  keeps : s.KeepsRegs t [R.XBR_STATUS, R.XBR_DRAIN_CNT]
  sub : s.sram.drain ⊆ t.sram.drain

theorem State.Drains.trans {s t u : State} (h : s.Drains t) (k : t.Drains u) : s.Drains u := by
  refine ⟨?_, fun o ho => (k.keeps o ho).trans (h.keeps o ho), fun x hx => k.sub (h.sub hx)⟩
  obtain ⟨_, _, _, rfl⟩ := h.frame
  obtain ⟨_, _, _, rfl⟩ := k.frame
  exact ⟨_, _, _, rfl⟩

theorem State.drainMaster_drains (s : State) (m : Nat) : s.Drains (s.drainMaster m) := by
  unfold State.drainMaster
  split
  · exact ⟨⟨_, _, _, rfl⟩, fun _ _ => rfl, fun _ h => h⟩
  · refine ⟨⟨_, _, _, rfl⟩, ?_, List.subset_append_left _ _⟩
    exact (State.OnlyRegs.trans (.setFlag (by decide) (s.setSram fun x => { x with drain := x.drain ++ [m] }) true)
      (.count (by decide) _) : State.OnlyRegs [R.XBR_STATUS, R.XBR_DRAIN_CNT] _ _).keeps

/-- Beside what a write stores, the words that it meets in part keep their bytes, and the writer is answered; the drains stay. -/
theorem State.keepBad_changes (s t : State) (m a n : Nat) : ∃ mem x o,
    s.keepBad t m a n = { t with mem := mem, sram := x, outbox := o } ∧ x.drain = t.sram.drain := by
  have hfold (f : Nat → List Byte) (l : List Nat) (t : State) : ∃ mem o,
      l.foldl (fun t w => (t.putBytes w (f w)).emit (.firmware "ERROR_RESPONSE" m)) t = { t with mem := mem, outbox := o } := by
    induction l generalizing t with
    | nil => exact ⟨t.mem, t.outbox, rfl⟩
    | cons w l ih =>
      obtain ⟨mem, o, h⟩ := ih ((t.putBytes w (f w)).emit (.firmware "ERROR_RESPONSE" m))
      refine ⟨mem, o, h.trans ?_⟩
      rw [State.putBytes_changes]
      rfl
  unfold State.keepBad
  extract_lets part u
  obtain ⟨mem, o, h⟩ := hfold (fun w => s.bytes w 8) part t
  have hu : u = { t with mem := mem, outbox := o } := h
  rw [hu]
  exact ⟨_, _, _, rfl, rfl⟩

/-- A store concerns memory, the uncorrectable words, and answers to the writer. -/
theorem State.store_changes (s : State) (m a : Nat) (bs : List Byte) :
    ∃ n x o, s.store m a bs = { s with mem := n, sram := x, outbox := o } := by
  unfold State.store
  split
  · exact ⟨_, s.sram, s.outbox, s.putBytes_changes a bs⟩
  · obtain ⟨n, x, o, h, _⟩ := s.keepBad_changes (s.putBytes a bs) m a bs.length
    refine ⟨n, x, o, h.trans ?_⟩
    rw [State.putBytes_changes]

/-! ## An attempt that fails (R481) -/

theorem State.alert_changes (s : State) (was : Bool) : ∃ o, s.alert was = { s with outbox := o } := by
  unfold State.alert
  extract_lets now
  split
  · exact ⟨s.outbox, rfl⟩
  · exact ⟨_, rfl⟩

/-- The reason, count, wait and fault of a failed attempt; the third asserts ALERT_N. -/
structure State.BootFails (s t : State) (why : Nat) (reset : Bool) : Prop where
  reason : t.fld F.SYS_BOOT_STATUS_reason = why
  slot : t.fld F.SYS_BOOT_STATUS_slot = s.fld F.SYS_BOOT_STATUS_slot
  count : t.reg R.SYS_BOOT_FAIL_CNT = counted (s.reg R.SYS_BOOT_FAIL_CNT)
  remap : t.flag F.SYS_REMAP_remap = s.flag F.SYS_REMAP_remap
  latched : t.latched 27 = true
  unacked : t.unacked 27 = true
  pwr : t.pwr = { s.pwr with boot := .waiting reset, waitU := s.clk.freeU + bootWait t.fails * secU }
  alert : s.fails = 2 → .pin "ALERT_N" 0 false ∈ t.outbox
  mem : t.mem = s.mem

theorem State.bootFail_fails (s : State) {why : Nat} (hw : why < 16) (reset : Bool) :
    s.BootFails (s.bootFail why reset) why reset := by
  obtain ⟨v, hv⟩ : ∃ v, v = (s.count R.SYS_BOOT_FAIL_CNT).setFld F.SYS_BOOT_STATUS_reason why := ⟨_, rfl⟩
  have hvo : State.OnlyRegs [R.SYS_BOOT_FAIL_CNT, R.SYS_BOOT_STATUS] s v := hv ▸ .trans (.count (by decide) _) (.setFld (by decide) _ _)
  obtain ⟨x, hx⟩ := v.alert_changes (decide (3 ≤ s.fails))
  have hcnt : v.reg R.SYS_BOOT_FAIL_CNT = counted (s.reg R.SYS_BOOT_FAIL_CNT) := by
    rw [hv, State.reg_setFld_of_ne _ _ (by decide), State.reg_count_self]
  obtain ⟨u, hu⟩ : ∃ u, u = (v.alert (decide (3 ≤ s.fails))).setPwr fun p =>
    { p with boot := .waiting reset, waitU := s.clk.freeU + bootWait v.fails * secU } := ⟨_, rfl⟩
  obtain ⟨d, hd⟩ : ∃ d, s.bootFail why reset = u.raise 27 d := by
    refine ⟨word ((v.alert (decide (3 ≤ s.fails))).fld F.SYS_BOOT_STATUS_slot), ?_⟩
    have hf : (v.alert (decide (3 ≤ s.fails))).fails = v.fails := by rw [hx]; rfl
    have hc : (v.alert (decide (3 ≤ s.fails))).clk.freeU = s.clk.freeU := by rw [hx]; exact congrArg Clock.freeU hvo.clk
    rw [hu, ← hf, ← hc, hv]
    rfl
  have hr : u.Reacts raiseRegs (u.raise 27 d) := u.reacts_raise d (by decide)
  have hureg (o : Nat) : u.reg o = v.reg o := by rw [hu, hx]; rfl
  have hreg (o : Nat) (ho : o ∉ raiseRegs) : (u.raise 27 d).reg o = v.reg o := (hr.keeps o ho).trans (hureg o)
  have hfails : (u.raise 27 d).fails = v.fails := by rw [State.fails, hreg _ (by decide), State.fails]
  rw [hd]
  refine ⟨?_, ?_, (hreg _ (by decide)).trans hcnt, ?_, u.latched_raise _ (by decide),
    u.unacked_raise _ (by decide), ?_, fun h2 => ?_, ?_⟩
  · rw [State.fld_of_reg (hreg R.SYS_BOOT_STATUS (by decide)), hv, State.fld_setFld_self _ _ _ (by decide)]
    exact Nat.mod_eq_of_lt hw
  · rw [State.fld_of_reg (hreg R.SYS_BOOT_STATUS (by decide)), hv, State.fld_setFld_of_apart _ _ _ _ (by decide) (by decide)]
    exact State.fld_put_of_ne _ _ (by decide)
  · rw [State.flag_of_reg (hreg R.SYS_REMAP (by decide))]
    exact State.flag_of_reg (hvo.keeps _ (by decide))
  · have hp : v.pwr = s.pwr := (State.Reacts.of_onlyRegs hvo).pwr
    rw [hr.pwr, hfails, hu, hx, ← hp]
    rfl
  · refine hr.sent ?_
    have hf3 : v.fails = 3 := by
      have h2' : (s.reg R.SYS_BOOT_FAIL_CNT).toNat = 2 := h2
      rw [State.fails, hcnt]
      simp [counted, word, h2']
    have ha : v.alert (decide (3 ≤ s.fails)) = v.emit (.pin "ALERT_N" 0 false) := by
      rw [h2, State.alert, hf3]
      rfl
    rw [hu, ha]
    exact List.mem_append_right _ (List.mem_singleton.2 rfl)
  · rw [hr.mem, hu, hx]
    exact hvo.mem

/-! ## Attempts (R479, R480) -/

section
variable {s t : State} {img : BootImage}

/-- The checks before the copy read the keys and the revocations alone. -/
theorem State.imageBad_of (hk : t.bootKeys = s.bootKeys) (hr : t.reg R.SYS_KEY_REVOKE = s.reg R.SYS_KEY_REVOKE) :
    t.imageBad img = s.imageBad img := by
  unfold State.imageBad State.keyOk State.sigOk
  rw [hk, State.fld_of_reg hr]

theorem State.imageBad_lt {r : Nat} (h : s.imageBad img = some r) : r < 16 := by
  unfold State.imageBad at h
  split_ifs at h <;> cases h <;> decide

/-- An image that passes the checks has a primary within control SRAM below the boot ROM's own part (R479). -/
theorem State.imgPrimary_le (h : s.imageBad img = none) : imgPrimary img.hdr ≤ 1835008 := by
  have hs : imgSizesOk img.hdr = true := by
    unfold State.imageBad at h
    split_ifs at h with h1 h2 h3
    simpa using h3
  simp only [imgSizesOk, Bool.and_eq_true, decide_eq_true_eq] at hs
  omega

theorem length_padTo (n : Nat) (bs : List Byte) : (padTo n bs).length = n := by simp [padTo]

/-- The state in which an attempt reads its image: slot and number shown, the remap off. -/
def State.attempting (s : State) : State :=
  ((s.setFld F.SYS_BOOT_STATUS_slot (s.slotOf s.fails)).setFld F.SYS_BOOT_STATUS_attempt s.fails).setFlag F.SYS_REMAP_remap false

theorem State.attempting_onlyRegs (s : State) : State.OnlyRegs [R.SYS_BOOT_STATUS, R.SYS_REMAP] s s.attempting :=
  .trans (.trans (.setFld (by decide) _ _) (.setFld (by decide) _ _)) (.setFlag (by decide) _ _)

theorem State.slot_attempting (s : State) : s.attempting.fld F.SYS_BOOT_STATUS_slot =
    if s.fails % 2 = 0 then s.fld F.SYS_BOOT_CTRL_next else 1 - s.fld F.SYS_BOOT_CTRL_next := by
  have hn : s.fld F.SYS_BOOT_CTRL_next < 2 := Nat.mod_lt _ (by decide)
  have h : s.attempting.fld F.SYS_BOOT_STATUS_slot = s.slotOf s.fails % 2 := by
    refine (State.fld_setFld_of_apart _ _ _ _ (by decide) (by decide)).trans ?_
    exact (State.fld_setFld_of_apart _ _ _ _ (by decide) (by decide)).trans (State.fld_setFld_self _ _ _ (by decide))
  rw [h, State.slotOf]
  split_ifs <;> omega

theorem State.remap_attempting (s : State) : s.attempting.flag F.SYS_REMAP_remap = false :=
  State.flag_setFlag_self _ _ _ (by decide) rfl

theorem State.imageBad_attempting (s : State) : s.attempting.imageBad img = s.imageBad img :=
  State.imageBad_of rfl (s.attempting_onlyRegs.keeps _ (by decide))

/-- The state in which the primary runs, once copied. -/
def State.bootStarts (s : State) (i : BootImage) : State :=
  ((s.setFlag F.SYS_REMAP_remap true).put R.SYS_FW_VERSION (word (leAt i.hdr 8 4))).setPwr fun p =>
    { p with boot := .started, entry := leAt i.hdr 24 4, waitU := s.clk.freeU, kick0 := s.clk.freeU, kick1 := s.clk.freeU }

theorem State.bootAttempt_of_some {r : Nat} (h : s.imageBad img = some r) : s.bootAttempt img = s.attempting.bootFail r false := by
  have hb := s.imageBad_attempting.trans h
  unfold State.attempting at hb ⊢
  simp only [State.bootAttempt, hb]

theorem State.bootAttempt_of_none (h : s.imageBad img = none) : s.bootAttempt img =
    if primaryHashOk img then (s.attempting.store 12 0x11000000 (primaryBytes img)).bootStarts img
    else (s.attempting.store 12 0x11000000 (primaryBytes img)).bootFail 6 false := by
  have hb := s.imageBad_attempting.trans h
  unfold State.attempting at hb ⊢
  simp only [State.bootAttempt, hb]
  rfl

/-- An attempt fails before the copy, or after it where the primary's hash is not the header's. -/
theorem State.bootAttempt_bad {r : Nat} (h : s.imageBad img = some r ∨ (s.imageBad img = none ∧ primaryHashOk img = false ∧ r = 6)) :
    ∃ u : State, s.bootAttempt img = u.bootFail r false ∧ r < 16 ∧ (∀ o, u.reg o = s.attempting.reg o) ∧ u.pwr = s.pwr ∧
      u.clk = s.clk ∧ (s.imageBad img ≠ none → u.mem = s.mem) := by
  rcases h with h | ⟨h, hh, rfl⟩
  · exact ⟨s.attempting, State.bootAttempt_of_some h, State.imageBad_lt h, fun _ => rfl, rfl, rfl, fun _ => rfl⟩
  · obtain ⟨n, x, o, hst⟩ := s.attempting.store_changes 12 0x11000000 (primaryBytes img)
    refine ⟨s.attempting.store 12 0x11000000 (primaryBytes img), ?_, by decide, ?_, ?_, ?_, fun hn => absurd h hn⟩
    · rw [State.bootAttempt_of_none h, if_neg (ne_true_of_eq_false hh)]
    · rw [hst]; exact fun _ => rfl
    · rw [hst]; rfl
    · rw [hst]; rfl

theorem State.bootAttempt_good (h : s.imageBad img = none) (hh : primaryHashOk img = true) (hb : s.sram.bad = []) :
    s.bootAttempt img = (s.attempting.putBytes 0x11000000 (primaryBytes img)).bootStarts img := by
  have hbad : s.attempting.sram.bad = [] := hb
  rw [State.bootAttempt_of_none h, if_pos hh, State.store_of_no_bad hbad]

/-- What a good image leaves: its primary in control SRAM, and the core started at its entry. -/
structure State.Boots (s t : State) (img : BootImage) : Prop where
  remap : t.flag F.SYS_REMAP_remap = true
  version : t.reg R.SYS_FW_VERSION = word (leAt img.hdr 8 4)
  pwr : t.pwr = { s.pwr with
    boot := .started, entry := leAt img.hdr 24 4, waitU := s.clk.freeU, kick0 := s.clk.freeU, kick1 := s.clk.freeU }
  copied : t.bytes 0x11000000 (imgPrimary img.hdr) = padTo (imgPrimary img.hdr) img.primary
  mem : s.KeepsMemBut t 0x11000000 (imgPrimary img.hdr)
  keeps : s.KeepsRegs t [R.SYS_BOOT_STATUS, R.SYS_REMAP, R.SYS_FW_VERSION]
  outbox : t.outbox = s.outbox

theorem State.bootAttempt_boots (h : s.imageBad img = none) (hh : primaryHashOk img = true) (hb : s.sram.bad = []) :
    s.Boots (s.bootAttempt img) img := by
  obtain ⟨u, hu⟩ : ∃ u, u = s.attempting.putBytes 0x11000000 (primaryBytes img) := ⟨_, rfl⟩
  have hx : s.bootAttempt img = u.bootStarts img := hu ▸ State.bootAttempt_good h hh hb
  have hum : u = { s.attempting with mem := u.mem } := by
    rw [hu]
    exact State.putBytes_changes _ _ _
  have hlen : (primaryBytes img).length = imgPrimary img.hdr := length_padTo _ _
  have hreg (o : Nat) : u.reg o = s.attempting.reg o := by rw [hum]; rfl
  have hclk : u.clk = s.clk := by rw [hum]; rfl
  have ht : State.OnlyRegs [R.SYS_REMAP, R.SYS_FW_VERSION] u
      ((u.setFlag F.SYS_REMAP_remap true).put R.SYS_FW_VERSION (word (leAt img.hdr 8 4))) :=
    .trans (.setFlag (by decide) _ _) (.put (by decide) _ _)
  rw [hx]
  refine ⟨?_, State.reg_put_self _ _ _, ?_, ?_, fun b hb => ?_, fun o ho => ?_, ?_⟩
  · exact (State.flag_of_reg (State.reg_put_of_ne _ _ (by decide))).trans (State.flag_setFlag_self _ _ _ (by decide) rfl)
  · have hp : u.pwr = s.pwr := by rw [hum]; rfl
    rw [← hp, ← hclk]
    rfl
  · have hm : (u.bootStarts img).mem = (s.attempting.putBytes 0x11000000 (primaryBytes img)).mem := by rw [← hu]; rfl
    have hc := s.attempting.bytes_putBytes_self 0x11000000 (primaryBytes img)
    rw [hlen] at hc
    exact (State.bytes_of_mem hm _ _).trans hc
  · have hb' := s.attempting.byte_putBytes_of_out 0x11000000 b (primaryBytes img) (by rw [hlen]; exact hb)
    rw [← hu] at hb'
    exact hb'
  · have h1 := ht.keeps o (fun hm => ho (List.mem_cons_of_mem _ hm))
    have h2 := s.attempting_onlyRegs.keeps o (fun hm => ho (by simp at hm; rcases hm with rfl | rfl <;> simp))
    exact (h1.trans (hreg o)).trans h2
  · have ho : u.outbox = s.outbox := by rw [hum]; rfl
    rw [← ho]
    rfl

end

/-! ## ok (R482) -/

theorem State.igmpReports_changes (s : State) : ∃ o, s.igmpReports = { s with outbox := o } := by
  have h (l : List Nat) (s : State) : ∃ o, l.foldl (fun s p => s.igmpReport p (s.igmpGroups p)) s = { s with outbox := o } := by
    induction l generalizing s with
    | nil => exact ⟨s.outbox, rfl⟩
    | cons p l ih =>
      obtain ⟨o, ho⟩ := ih (s.igmpReport p (s.igmpGroups p))
      have h1 : ∃ x, s.igmpReport p (s.igmpGroups p) = { s with outbox := x } := by
        unfold State.igmpReport
        split
        · exact ⟨s.outbox, rfl⟩
        · exact ⟨_, rfl⟩
      obtain ⟨x, hx⟩ := h1
      exact ⟨o, by rw [List.foldl_cons, ho, hx]⟩
  exact h _ s

/-- The count is cleared and the running slot becomes next and last_good. -/
def State.bootOkRegs (s : State) : State :=
  ((((s.put R.SYS_BOOT_FAIL_CNT 0).alert (decide (3 ≤ s.fails))).setFlag F.SYS_BOOT_CTRL_ok true).setFld F.SYS_BOOT_CTRL_next
    (s.fld F.SYS_BOOT_STATUS_slot)).setFld F.SYS_BOOT_CTRL_last_good (s.fld F.SYS_BOOT_STATUS_slot)

theorem State.bootOk_of_started {s : State} (h : s.pwr.boot = .started) : s.bootOk =
    (if s.pwr.reload.isSome then (s.bootOkRegs.igmpReports.count R.SYS_RELOAD_CNT).setFlag F.SYS_FW_STATUS_reloading false
      else s.bootOkRegs).setPwr fun p => { p with boot := .ok, reload := none } := by
  obtain ⟨x, hx⟩ := (s.put R.SYS_BOOT_FAIL_CNT 0).alert_changes (decide (3 ≤ s.fails))
  have hp : s.bootOkRegs.pwr = s.pwr := by
    unfold State.bootOkRegs
    rw [hx]
    rfl
  rw [← hp]
  refine (if_neg ?_).trans rfl
  simp [h]

theorem State.alert_zero {s : State} (h : s.fails = 0) (was : Bool) :
    (s.alert was).outbox = if was then s.outbox ++ [.pin "ALERT_N" 0 true] else s.outbox := by
  unfold State.alert
  rw [h]
  cases was <;> rfl

/-- What ok leaves in the registers of the boot. -/
theorem State.bootOkRegs_spec (s : State) : s.bootOkRegs.reg R.SYS_BOOT_FAIL_CNT = 0 ∧ s.bootOkRegs.flag F.SYS_BOOT_CTRL_ok = true ∧
    s.bootOkRegs.fld F.SYS_BOOT_CTRL_next = s.fld F.SYS_BOOT_STATUS_slot ∧
    s.bootOkRegs.fld F.SYS_BOOT_CTRL_last_good = s.fld F.SYS_BOOT_STATUS_slot ∧ s.bootOkRegs.mem = s.mem ∧
    s.bootOkRegs.pwr = s.pwr ∧ s.bootOkRegs.outbox = (if 3 ≤ s.fails then s.outbox ++ [.pin "ALERT_N" 0 true] else s.outbox) ∧
    s.KeepsRegs s.bootOkRegs [R.SYS_BOOT_FAIL_CNT, R.SYS_BOOT_CTRL] := by
  have hslot : s.fld F.SYS_BOOT_STATUS_slot < 2 := Nat.mod_lt _ (by decide)
  have h0 : (s.put R.SYS_BOOT_FAIL_CNT 0).fails = 0 := by rw [State.fails, State.reg_put_self]; rfl
  have hout := State.alert_zero h0 (decide (3 ≤ s.fails))
  obtain ⟨x, hx⟩ := (s.put R.SYS_BOOT_FAIL_CNT 0).alert_changes (decide (3 ≤ s.fails))
  obtain ⟨a, ha⟩ : ∃ a, a = (s.put R.SYS_BOOT_FAIL_CNT 0).alert (decide (3 ≤ s.fails)) := ⟨_, rfl⟩
  have hareg (o : Nat) : a.reg o = (s.put R.SYS_BOOT_FAIL_CNT 0).reg o := by rw [ha, hx]; rfl
  unfold State.bootOkRegs
  rw [← ha]
  have hb : State.OnlyRegs [R.SYS_BOOT_CTRL] a (((a.setFlag F.SYS_BOOT_CTRL_ok true).setFld F.SYS_BOOT_CTRL_next
      (s.fld F.SYS_BOOT_STATUS_slot)).setFld F.SYS_BOOT_CTRL_last_good (s.fld F.SYS_BOOT_STATUS_slot)) :=
    .trans (.trans (.setFlag (by decide) _ _) (.setFld (by decide) _ _)) (.setFld (by decide) _ _)
  refine ⟨?_, ?_, ?_, ?_, ?_, ?_, ?_, fun o ho => ?_⟩
  · exact (hb.keeps _ (by decide)).trans ((hareg _).trans (State.reg_put_self _ _ _))
  · rw [State.flag_setFld_of_apart _ _ _ _ (by decide) (by decide), State.flag_setFld_of_apart _ _ _ _ (by decide) (by decide)]
    exact State.flag_setFlag_self _ _ _ (by decide) rfl
  · rw [State.fld_setFld_of_apart _ _ _ _ (by decide) (by decide), State.fld_setFld_self _ _ _ (by decide)]
    exact Nat.mod_eq_of_lt hslot
  · rw [State.fld_setFld_self _ _ _ (by decide)]
    exact Nat.mod_eq_of_lt hslot
  · rw [hb.mem, ha, hx]; rfl
  · rw [(State.Reacts.of_onlyRegs hb).pwr, ha, hx]; rfl
  · rw [hb.outbox, ha, hout]
    simp only [decide_eq_true_eq]
    rfl
  · refine (hb.keeps o fun hm => ho (List.mem_cons_of_mem _ hm)).trans ((hareg o).trans ?_)
    exact State.reg_put_of_ne _ _ fun e => ho (e ▸ List.mem_cons_self ..)

/-! ## Reloads and watchdogs (R484 to R488) -/

/-- A reload holds the cores, drains their transactions, and lets attempts begin (R485). -/
structure State.Reloads (s t : State) : Prop where
  reloading : t.flag F.SYS_FW_STATUS_reloading = true
  ok : t.flag F.SYS_BOOT_CTRL_ok = false
  pwr : t.pwr = { s.pwr with boot := .ready, reload := some s.clk.freeU }
  core0 : 12 ∈ t.sram.drain
  core1 : 13 ∈ t.sram.drain
  keeps : s.KeepsRegs t [R.SYS_FW_STATUS, R.SYS_BOOT_CTRL, R.XBR_STATUS, R.XBR_DRAIN_CNT]
  rest : ∃ r z x p, t = { s with regs := r, sets := z, sram := x, pwr := p }

theorem State.startReload_reloads (s : State) : s.Reloads s.startReload := by
  obtain ⟨u, hu⟩ : ∃ u, u = (s.setFlag F.SYS_FW_STATUS_reloading true).setFlag F.SYS_BOOT_CTRL_ok false := ⟨_, rfl⟩
  have hx : s.startReload = ((u.drainMaster 12).drainMaster 13).setPwr fun p =>
      { p with boot := .ready, reload := some s.clk.freeU } := hu ▸ rfl
  have ho : State.OnlyRegs [R.SYS_FW_STATUS, R.SYS_BOOT_CTRL] s u := hu ▸ .trans (.setFlag (by decide) _ _) (.setFlag (by decide) _ _)
  have hd : u.Drains ((u.drainMaster 12).drainMaster 13) := (u.drainMaster_drains 12).trans (State.drainMaster_drains _ 13)
  obtain ⟨_, _, _, hframe⟩ := hd.frame
  have hfl : u.flag F.SYS_FW_STATUS_reloading = true := by
    rw [hu, State.flag_setFlag_of_apart _ _ _ _ (by decide) (by decide)]
    exact State.flag_setFlag_self _ _ _ (by decide) rfl
  have hok : u.flag F.SYS_BOOT_CTRL_ok = false := hu ▸ State.flag_setFlag_self _ _ _ (by decide) rfl
  rw [hx]
  refine ⟨(State.flag_of_reg (hd.keeps _ (by decide))).trans hfl, (State.flag_of_reg (hd.keeps _ (by decide))).trans hok, ?_,
    (State.drainMaster_drains _ 13).sub (State.mem_drain_drainMaster _ 12), State.mem_drain_drainMaster _ 13, fun o hm => ?_, ?_⟩
  · have hp : ((u.drainMaster 12).drainMaster 13).pwr = s.pwr := by rw [hframe, hu]; rfl
    rw [← hp]
    rfl
  · refine (hd.keeps o fun h => hm ?_).trans (ho.keeps o fun h => hm ?_)
    · exact List.mem_append_right [R.SYS_FW_STATUS, R.SYS_BOOT_CTRL] h
    · exact List.mem_append_left [R.XBR_STATUS, R.XBR_DRAIN_CNT] h
  · rw [hframe, hu]
    exact ⟨_, _, _, _, rfl⟩

/-- Settles O60: each command is one step of the boot, acting in its own boot state. -/
theorem bootAttemptsWaitAndReloadsAreBounded : Obligations.BootAttemptsWaitAndReloadsAreBounded := by
  unfold Obligations.BootAttemptsWaitAndReloadsAreBounded
  intro s img core u r hon
  have on (f : State → State) : Host.Outcome.next (s.ifCtrl f) = (.next (f s) : Host.Outcome State Fault Refusal) :=
    congrArg Host.Outcome.next (State.ifCtrl_of_on hon f)
  refine ⟨fun hb h12 h13 => ⟨fun hbad => ?_, fun hi hh hs => ?_⟩, fun hno => ?_, fun hw => ?_, fun hb hw => ?_, fun hb hw => ?_,
    fun hb => ⟨?_, ?_, fun hd => ?_, fun hd => ?_⟩, fun hb => ⟨?_, ?_, ?_⟩, ?_, fun hd => ?_, fun hd => ?_, ?_, fun hd => ?_,
    fun hb hd => ?_, fun hb => ?_⟩
  · obtain ⟨v, hx, hr, hreg, hpwr, hclk, hmem⟩ := State.bootAttempt_bad hbad
    have h := v.bootFail_fails hr false
    have hfails : v.fails = s.fails := by
      rw [State.fails, hreg, s.attempting_onlyRegs.keeps _ (by decide), State.fails]
    refine ⟨v.bootFail r false, ?_, h.reason, ?_, ?_, ?_, h.latched, h.unacked, ?_, fun h2 => h.alert (hfails.trans h2),
      fun hn => h.mem.trans (hmem hn)⟩
    · refine (on _).trans ?_
      simp only [hb, h12, h13, decide_true, Bool.and_self, if_true, hx]
    · rw [h.slot, State.fld_of_reg (hreg _), State.slot_attempting]
    · rw [h.count, hreg, s.attempting_onlyRegs.keeps _ (by decide)]
    · rw [h.remap, State.flag_of_reg (hreg _), State.remap_attempting]
    · rw [h.pwr, hpwr, hclk]
      rfl
  · have h := State.bootAttempt_boots hi hh hs
    refine ⟨s.bootAttempt img, ?_, h.remap, h.version, h.pwr, h.copied, h.mem, State.imgPrimary_le hi, h.keeps, h.outbox⟩
    refine (on _).trans ?_
    simp only [hb, h12, h13, decide_true, Bool.and_self, if_true]
  · refine (on _).trans (congrArg Host.Outcome.next (if_neg ?_))
    rcases hno with h | h | h <;> simp [h]
  · exact (on _).trans (congrArg Host.Outcome.next (if_neg (by omega)))
  · refine (on _).trans (congrArg Host.Outcome.next ((if_pos hw).trans ?_))
    simp only [State.bootWaitEnds, hb]
    rfl
  · refine (on _).trans (congrArg Host.Outcome.next ((if_pos hw).trans ?_))
    simp only [State.bootWaitEnds, hb]
    rfl
  · obtain ⟨hcnt, hok, hnext, hgood, hmem, hpwr, hout, hkeep⟩ := s.bootOkRegs_spec
    refine ⟨s.bootOk, on _, ?_⟩
    rw [State.bootOk_of_started hb]
    cases hrel : s.pwr.reload with
    | none =>
      refine ⟨hcnt, hok, hnext, hgood, ?_, hmem, fun _ => ⟨hout, hkeep⟩, fun hn => absurd hn (by simp)⟩
      rw [← hpwr]
      rfl
    | some v =>
      obtain ⟨x, hx⟩ := s.bootOkRegs.igmpReports_changes
      obtain ⟨w, hw⟩ : ∃ w, w = s.bootOkRegs.igmpReports := ⟨_, rfl⟩
      have hwreg (o : Nat) : w.reg o = s.bootOkRegs.reg o := by rw [hw, hx]; rfl
      have ho : State.OnlyRegs [R.SYS_RELOAD_CNT, R.SYS_FW_STATUS] w
          ((w.count R.SYS_RELOAD_CNT).setFlag F.SYS_FW_STATUS_reloading false) :=
        .trans (.count (by decide) _) (.setFlag (by decide) _ _)
      have hreg (o : Nat) (hm : o ∉ [R.SYS_RELOAD_CNT, R.SYS_FW_STATUS]) :
          ((w.count R.SYS_RELOAD_CNT).setFlag F.SYS_FW_STATUS_reloading false).reg o = s.bootOkRegs.reg o :=
        (ho.keeps o hm).trans (hwreg o)
      rw [← hw]
      refine ⟨(hreg _ (by decide)).trans hcnt, (State.flag_of_reg (hreg R.SYS_BOOT_CTRL (by decide))).trans hok,
        (State.fld_of_reg (hreg R.SYS_BOOT_CTRL (by decide))).trans hnext,
        (State.fld_of_reg (hreg R.SYS_BOOT_CTRL (by decide))).trans hgood, ?_, ?_, fun hn => absurd hn (by simp), fun _ => ⟨?_, ?_⟩⟩
      · have hp : w.pwr = s.pwr := by rw [hw, hx]; exact hpwr
        rw [← hp]
        rfl
      · refine ho.mem.trans ?_
        rw [hw, hx]
        exact hmem
      · refine (State.reg_setFld_of_ne _ _ (by decide)).trans ((State.reg_count_self _ _).trans (congrArg counted ?_))
        rw [hwreg, hkeep _ (by decide)]
      · exact State.flag_setFlag_self _ _ _ (by decide) rfl
  · have h := s.bootFail_fails (why := 8) (by decide) false
    refine ⟨s.bootFail 8 false, (on _).trans (congrArg Host.Outcome.next (if_pos hb)), h.reason, h.count, ?_, h.latched, h.mem⟩
    rw [h.pwr]
  · refine (on _).trans (congrArg Host.Outcome.next (if_neg ?_))
    simp [hd]
  · have h := s.bootFail_fails (why := 7) (by decide) true
    refine ⟨s.bootFail 7 true, (on _).trans (congrArg Host.Outcome.next (if_pos ?_)), h.reason, h.count, ?_, h.latched, h.mem⟩
    · simp [hb, hd]
    · rw [h.pwr]
  · exact (on _).trans (congrArg Host.Outcome.next (if_pos hb))
  · exact (on _).trans (congrArg Host.Outcome.next (if_neg hb))
  · refine (on _).trans (congrArg Host.Outcome.next (if_neg ?_))
    simp [hb]
  · have h := s.startReload_reloads
    obtain ⟨_, _, _, _, e⟩ := h.rest
    refine ⟨s.startReload, on _, h.reloading, h.ok, h.pwr, h.core0, h.core1, h.keeps, ?_, ?_, ?_, ?_, ?_⟩ <;> rw [e]
  · refine congrArg Host.Outcome.next (if_pos ?_)
    rw [hon, hd]
    rfl
  · refine congrArg Host.Outcome.next (if_neg ?_)
    simp [hd]
  · refine (on _).trans (congrArg Host.Outcome.next ?_)
    by_cases hc : core = 0
    · subst hc
      rfl
    · have hc' : (core : Nat) ≠ 0 := fun h => hc (Fin.ext h)
      simp only [State.wdtKick, State.setPwr, hc, hc', if_false]
  · refine (on _).trans (congrArg Host.Outcome.next (if_neg ?_))
    simp [hd]
  · have hr : s.fwRuns = true := by rcases hb with h | h <;> simp [State.fwRuns, h]
    have hrep := ((s.wdtKick core).raiseOcc_flt { src := 26, data := word core }).2.2.1
    have hre : (s.wdtKick core).Reacts raiseRegs ((s.wdtKick core).raise 26 (word core)) := State.reacts_raise _ _ (by decide)
    refine ⟨(s.wdtKick core).raise 26 (word core), ?_, State.latched_raise _ _ (by decide),
      State.unacked_raise _ _ (by decide), hre.mem,
      hre.run, fun hl => hrep.trans (if_pos ⟨hl, rfl⟩)⟩
    refine (on _).trans (congrArg Host.Outcome.next (if_pos ?_))
    rw [hr, hd]
    rfl
  · refine (on _).trans (congrArg Host.Outcome.next (if_neg ?_))
    simp [State.fwRuns, hb]

end Sys2Proof.Machine
end

section
/-!
SUPPORT. Acknowledgements and the ends of conditions (R436 to R438).
-/

namespace Sys2Proof.Machine

/-! ## Bits cleared -/

/-- From `s` to `t` bits of the sources are cleared: registers and the collector change, and no occurrence is raised in this cycle. -/
structure State.Settles (l : List Nat) (s t : State) : Prop where
  frame : ∃ r z f, t = { s with regs := r, sets := z, flt := f }
  keeps : s.KeepsRegs t l
  raised : ∀ k, t.raisedNow k = s.raisedNow k

/-- A bit set elsewhere is no occurrence. -/
theorem State.raisedNow_setFlag (s : State) (f : Fld) (b : Bool) (hl : f.reg ≠ R.FLT_UNACK_LO) (hh : f.reg ≠ R.FLT_UNACK_HI)
    (k : Nat) : (s.setFlag f b).raisedNow k = s.raisedNow k := by
  have hk : f.reg ≠ (if k < 32 then R.FLT_UNACK_LO else R.FLT_UNACK_HI) := by
    split
    · exact hl
    · exact hh
  refine congrArg (fun w : Word => w.getLsbD (k % 32)) ?_
  cases b with
  | false => rfl
  | true => exact Tbl.get_set_of_ne _ _ _ hk

namespace State.Settles

variable {l m : List Nat} {s t u : State}

theorem refl (s : State) : State.Settles l s s := ⟨⟨_, _, _, rfl⟩, fun _ _ => rfl, fun _ => rfl⟩

theorem trans (h : State.Settles l s t) (k : State.Settles l t u) : State.Settles l s u := by
  refine ⟨?_, fun o ho => (k.keeps o ho).trans (h.keeps o ho), fun i => (k.raised i).trans (h.raised i)⟩
  obtain ⟨_, _, _, rfl⟩ := h.frame
  obtain ⟨_, _, _, rfl⟩ := k.frame
  exact ⟨_, _, _, rfl⟩

theorem mono (h : State.Settles l s t) (hm : l ⊆ m) : State.Settles m s t :=
  ⟨h.frame, fun o ho => h.keeps o fun hl => ho (hm hl), h.raised⟩

theorem setFlt (s : State) (f : Flt → Flt) : State.Settles l s (s.setFlt f) := ⟨⟨_, _, _, rfl⟩, fun _ _ => rfl, fun _ => rfl⟩

theorem setFld {f : Fld} (hf : f.reg ∈ l) (s : State) (v : Nat) : State.Settles l s (s.setFld f v) :=
  ⟨⟨_, _, _, rfl⟩, (State.OnlyRegs.setFld hf s v).keeps, fun _ => rfl⟩

theorem clear {lo hi : Nat} (hl : lo ∈ l) (hh : hi ∈ l) (s : State) (i : Nat) : State.Settles l s (s.setBit64 lo hi i false) := by
  unfold State.setBit64
  split
  · exact ⟨⟨_, _, _, rfl⟩, (State.OnlyRegs.setFlag (f := ⟨lo, i, i⟩) hl s false).keeps, fun _ => rfl⟩
  · exact ⟨⟨_, _, _, rfl⟩, (State.OnlyRegs.setFlag (f := ⟨hi, i - 32, i - 32⟩) hh s false).keeps, fun _ => rfl⟩

theorem setFlag {f : Fld} (hf : f.reg ∈ l) (hl : f.reg ≠ R.FLT_UNACK_LO) (hh : f.reg ≠ R.FLT_UNACK_HI) (s : State) (b : Bool) :
    State.Settles l s (s.setFlag f b) :=
  ⟨⟨_, _, _, rfl⟩, (State.OnlyRegs.setFlag hf s b).keeps, State.raisedNow_setFlag s f b hl hh⟩

theorem setWorst (s : State) : State.Settles [R.FLT_WORST] s s.setWorst :=
  (setFld (f := F.FLT_WORST_class) (by decide) s _).trans (setFlag (by decide) (by decide) (by decide) _ _)

section
variable (h : State.Settles l s t)
include h

theorem mem : t.mem = s.mem := by obtain ⟨_, _, _, rfl⟩ := h.frame; rfl
theorem twn : t.twn = s.twn := by obtain ⟨_, _, _, rfl⟩ := h.frame; rfl
theorem outbox : t.outbox = s.outbox := by obtain ⟨_, _, _, rfl⟩ := h.frame; rfl
theorem whold : t.whold = s.whold := by obtain ⟨_, _, _, rfl⟩ := h.frame; rfl

end

end State.Settles

/-! ## One source -/

section
variable (s : State) {i k : Nat} (hi : i < 64) (hk : k < 64)

theorem State.settleLatch_settles : State.Settles [R.FLT_STATUS_LO, R.FLT_STATUS_HI, R.FLT_WORST] s (s.settleLatch i) := by
  unfold State.settleLatch
  split
  · exact .refl s
  · exact (((State.Settles.clear (by decide) (by decide) s i).trans (.setFlt _ _)).trans (.setFlt _ _)).trans
      ((State.Settles.setWorst _).mono (by decide))

include hi hk

theorem State.latched_settleLatch : (s.settleLatch i).latched k =
    if k = i then s.latched k && (s.unacked i || s.condActive i) else s.latched k := by
  have hw (u : State) : u.setWorst.latched k = u.latched k :=
    State.bit64_of_keeps (State.Settles.setWorst u).keeps (by decide) (by decide) k
  have hb : (s.setBit64 R.FLT_STATUS_LO R.FLT_STATUS_HI i false).latched k = if k = i then false else s.latched k :=
    s.bit64_setBit64 (by decide) hi hk false
  unfold State.settleLatch
  split
  next h => simp [h]
  next h =>
    refine (hw _).trans (hb.trans ?_)
    simp only [Bool.not_eq_true] at h
    simp [h]

end

/-- What an acknowledgement of a source may write. -/
def ackRegs : List Nat := [R.FLT_UNACK_LO, R.FLT_UNACK_HI, R.FLT_STATUS_LO, R.FLT_STATUS_HI, R.FLT_WORST]

section
variable (s : State) {i k : Nat}

theorem State.ack1_settles : State.Settles ackRegs s (s.ack1 i) := by
  unfold State.ack1
  split
  · exact ((State.Settles.clear (by decide) (by decide) s i).trans (.setFlt _ _)).trans
      ((State.settleLatch_settles _).mono (by decide))
  · exact .refl s

/-- An acknowledgement clears its source, unless it was raised in this cycle; the latch stands while the condition does (R437). -/
theorem State.ack1_bits (hi : i < 64) (hk : k < 64) :
    (s.ack1 i).unacked k = (if k = i then s.unacked k && s.raisedNow k else s.unacked k) ∧
    (s.ack1 i).latched k =
      (if k = i ∧ s.unacked k = true ∧ s.raisedNow k = false then s.latched k && s.condActive k else s.latched k) ∧
    (s.ack1 i).condActive k = s.condActive k := by
  refine ⟨?_, ?_, State.bit64_of_keeps s.ack1_settles.keeps (by decide) (by decide) k⟩
  all_goals
    unfold State.ack1
    split
  · next h =>
    have hu : (s.setBit64 R.FLT_UNACK_LO R.FLT_UNACK_HI i false).unacked k = if k = i then false else s.unacked k :=
      s.bit64_setBit64 (by decide) hi hk false
    refine (State.bit64_of_keeps (State.settleLatch_settles _).keeps (by decide) (by decide) k).trans (hu.trans ?_)
    by_cases hki : k = i
    · subst hki
      simp_all
    · simp [hki]
  · next h =>
    by_cases hki : k = i
    · subst hki
      revert h
      cases s.unacked k <;> cases s.raisedNow k <;> simp
    · simp [hki]
  · next h =>
    obtain ⟨v, hv⟩ : ∃ v, v = (s.setBit64 R.FLT_UNACK_LO R.FLT_UNACK_HI i false).setFsrc i
      { (s.setBit64 R.FLT_UNACK_LO R.FLT_UNACK_HI i false).fsrc i with unackReal := [], unackInj := [] } := ⟨_, rfl⟩
    have hvk : s.KeepsRegs v [R.FLT_UNACK_LO, R.FLT_UNACK_HI] := by
      rw [hv]
      exact ((State.Settles.clear (by decide) (by decide) s i).trans (.setFlt _ _)).keeps
    have hun : v.unacked i = false := by
      rw [hv]
      exact (s.bit64_setBit64 (by decide) hi hi false).trans (if_pos rfl)
    have hl : v.latched k = s.latched k := State.bit64_of_keeps hvk (by decide) (by decide) k
    have hc : v.condActive i = s.condActive i := State.bit64_of_keeps hvk (by decide) (by decide) i
    refine Eq.trans ?_ ((v.latched_settleLatch hi hk).trans ?_)
    · rw [hv]
    · rw [hl, hc, hun, Bool.false_or]
      by_cases hki : k = i
      · subst hki
        simp_all
      · simp [hki]
  · next h =>
    rw [if_neg]
    rintro ⟨rfl, h1, h2⟩
    exact h (by simp [h1, h2])

/-- The acknowledgement of a mask acts source by source (R437, R439). -/
theorem State.ackMask_bits (m : Nat) : State.Settles ackRegs s (s.ackMask m) ∧ ∀ k, k < 64 →
    (s.ackMask m).unacked k = (s.unacked k && (!m.testBit k || s.raisedNow k)) ∧
    (s.ackMask m).latched k =
      (if m.testBit k && s.unacked k && !s.raisedNow k then s.latched k && s.condActive k else s.latched k) := by
  have fold (n : Nat) (hn : n ≤ 64) : ∃ t, t = (List.range n).foldl (fun s i => if m.testBit i then s.ack1 i else s) s ∧
      State.Settles ackRegs s t ∧ ∀ k, k < 64 → t.condActive k = s.condActive k ∧
        t.unacked k = (s.unacked k && (!(decide (k < n) && m.testBit k) || s.raisedNow k)) ∧
        t.latched k = (if (decide (k < n) && m.testBit k) && s.unacked k && !s.raisedNow k then s.latched k && s.condActive k
          else s.latched k) := by
    induction n with
    | zero => exact ⟨s, rfl, .refl s, fun k _ => by simp⟩
    | succ n ih =>
      obtain ⟨t, ht, hset, hbits⟩ := ih (by omega)
      refine ⟨_, rfl, ?_⟩
      rw [List.range_succ, List.foldl_append, ← ht]
      simp only [List.foldl_cons, List.foldl_nil]
      by_cases hm : m.testBit n = true
      · rw [if_pos hm]
        refine ⟨hset.trans t.ack1_settles, fun k hk => ?_⟩
        obtain ⟨hc, hu, hl⟩ := hbits k hk
        obtain ⟨au, al, ac⟩ := t.ack1_bits (i := n) (k := k) (by omega) hk
        refine ⟨ac.trans hc, ?_, ?_⟩
        · rw [au, hu, hset.raised k]
          by_cases hkn : k = n
          · subst hkn
            simp [hm]
          · have hlt : k < n + 1 ↔ k < n := by omega
            simp only [hkn, if_false, hlt]
        · rw [al, hu, hl, hc, hset.raised k]
          by_cases hkn : k = n
          · subst hkn
            simp [hm]
          · have hlt : k < n + 1 ↔ k < n := by omega
            simp only [hkn, false_and, if_false, hlt]
      · rw [if_neg hm]
        refine ⟨hset, fun k hk => ?_⟩
        obtain ⟨hc, hu, hl⟩ := hbits k hk
        have hlt : (decide (k < n + 1) && m.testBit k) = (decide (k < n) && m.testBit k) := by
          by_cases hkn : k = n
          · subst hkn
            simp [hm]
          · have hlt : k < n + 1 ↔ k < n := by omega
            simp only [hlt]
        rw [hlt]
        exact ⟨hc, hu, hl⟩
  obtain ⟨t, ht, hset, hbits⟩ := fold 64 le_rfl
  rw [State.ackMask, ← ht]
  refine ⟨hset, fun k hk => ?_⟩
  obtain ⟨-, hu, hl⟩ := hbits k hk
  simpa [hk] using And.intro hu hl

end

/-! ## The end of a condition -/

/-- A condition that ends clears ACTIVE, and STATUS where acknowledged (R436). -/
theorem State.condEnd_bits (s : State) {i : Nat} (hi : i < 64) (ha : s.condActive i = true) :
    State.Settles [R.FLT_ACTIVE_LO, R.FLT_ACTIVE_HI, R.FLT_STATUS_LO, R.FLT_STATUS_HI, R.FLT_WORST] s (s.condEnd i) ∧
    ∀ k, k < 64 → (s.condEnd i).condActive k = (decide (k ≠ i) && s.condActive k) ∧ (s.condEnd i).unacked k = s.unacked k ∧
      (s.condEnd i).latched k = (if k = i then s.latched k && s.unacked k else s.latched k) := by
  obtain ⟨v, hv⟩ : ∃ v, v = s.setFlt fun f => { f with ended := f.ended ++ [(i, s.fsrc i, s.latched i, f.yield.contains i)] } :=
    ⟨_, rfl⟩
  have hvs : State.Settles [] s v := hv ▸ .setFlt _ _
  obtain ⟨w, hw⟩ : ∃ w, w = v.setBit64 R.FLT_ACTIVE_LO R.FLT_ACTIVE_HI i false := ⟨_, rfl⟩
  have hws : State.Settles [R.FLT_ACTIVE_LO, R.FLT_ACTIVE_HI] s w :=
    (hvs.mono (by simp)).trans (hw ▸ .clear (by decide) (by decide) _ _)
  have he : s.condEnd i = w.settleLatch i := by
    rw [hw, hv]
    exact if_pos ha
  rw [he]
  refine ⟨(hws.mono (by decide)).trans ((State.settleLatch_settles w).mono (by decide)), fun k hk => ⟨?_, ?_, ?_⟩⟩
  · have hc : w.condActive k = if k = i then false else v.condActive k := hw ▸ v.bit64_setBit64 (by decide) hi hk false
    have hvc : v.condActive k = s.condActive k := State.bit64_of_keeps hvs.keeps (by decide) (by decide) k
    refine (State.bit64_of_keeps (State.settleLatch_settles w).keeps (by decide) (by decide) k).trans (hc.trans ?_)
    rw [hvc]
    by_cases hki : k = i <;> simp [hki]
  · exact (State.bit64_of_keeps (State.settleLatch_settles w).keeps (by decide) (by decide) k).trans
      (State.bit64_of_keeps hws.keeps (by decide) (by decide) k)
  · have hl : w.latched k = s.latched k := State.bit64_of_keeps hws.keeps (by decide) (by decide) k
    have hu : w.unacked i = s.unacked i := State.bit64_of_keeps hws.keeps (by decide) (by decide) i
    have hc : w.condActive i = false := by
      rw [hw]
      exact (v.bit64_setBit64 (by decide) hi hi false).trans (if_pos rfl)
    rw [w.latched_settleLatch hi hk, hl, hu, hc, Bool.or_false]
    by_cases hki : k = i <;> simp [hki]

end Sys2Proof.Machine
end

section
/-!
PROOFS. Faults injected, acknowledged, ended, repaired and logged (R433 to R453).
-/

namespace Sys2Proof.Machine

/-- A mask that covers a field leaves it. -/
theorem bitsOf_and_of_covers (w : Word) {m : Word} {hi lo : Nat} (h : ∀ j, j < hi + 1 - lo → m.getLsbD (lo + j) = true) :
    bitsOf (w &&& m) hi lo = bitsOf w hi lo := by
  apply Nat.eq_of_testBit_eq
  intro j
  rw [testBit_bitsOf, testBit_bitsOf, BitVec.getLsbD_and]
  by_cases hj : j < hi + 1 - lo
  · rw [h j hj, Bool.and_true]
  · simp [hj]

/-- A field of one bit as a Boolean. -/
theorem decide_bitsOf_bit (w : Word) (i : Nat) : decide (bitsOf w i i = 1) = w.getLsbD i := by
  have h : i + 1 - i = 1 := by omega
  simp only [bitsOf, h, pow_one, BitVec.getLsbD, Nat.testBit, Nat.one_and_eq_mod_two]
  rcases Nat.mod_two_eq_zero_or_one (w.toNat >>> i) with e | e <;> simp [e]

/-! ## Injection (R451) -/

section
variable (s : State) (w : Word)

/-- The occurrence that a written word of FLT_INJ_CTRL injects. -/
def State.injOcc : Occ where
  src := bitsOf w 5 0
  data := s.reg R.FLT_INJ_DATA
  cls := some (if bitsOf w 5 0 = 63 then 0 else bitsOf w 13 12)
  inj := true
  dry := w.getLsbD 9

/-- The written word's defined bits stand in FLT_INJ_CTRL. -/
def State.injSet : State := s.put R.FLT_INJ_CTRL (w &&& 0x323F#32)

theorem State.inject_eq (hm : s.flag F.FLT_MODE_midwinter = true) : s.inject w =
    if w.getLsbD 8 && (bitsOf w 5 0 < 28 || bitsOf w 5 0 = 63) then (s.injSet w).raiseOcc (s.injOcc w) else s.injSet w := by
  obtain ⟨u, hu⟩ : ∃ u, u = s.put R.FLT_INJ_CTRL (w &&& 0x323F#32) := ⟨_, rfl⟩
  have hr : u.reg R.FLT_INJ_CTRL = w &&& 0x323F#32 := by rw [hu, State.reg_put_self]
  have hsrc : u.fld F.FLT_INJ_CTRL_source = bitsOf w 5 0 := by
    rw [State.fld, hr]
    exact bitsOf_and_of_covers w (by decide)
  have hcls : u.fld F.FLT_INJ_CTRL_class = bitsOf w 13 12 := by
    rw [State.fld, hr]
    exact bitsOf_and_of_covers w (by decide)
  have hdry : u.flag F.FLT_INJ_CTRL_dry_run = w.getLsbD 9 := by
    rw [State.flag, State.fld, hr, bitsOf_and_of_covers w (by decide)]
    exact decide_bitsOf_bit w 9
  have hdata : u.reg R.FLT_INJ_DATA = s.reg R.FLT_INJ_DATA := by rw [hu, State.reg_put_of_ne _ _ (by decide)]
  unfold State.inject State.injSet State.injOcc
  rw [if_pos hm, ← hu]
  simp only [hsrc, hcls, hdry, hdata]

theorem State.injSet_onlyRegs : State.OnlyRegs [R.FLT_INJ_CTRL] s (s.injSet w) := .put (by decide) _ _

theorem State.escalates_injOcc : (s.injSet w).escalates (s.injOcc w) = (decide (bitsOf w 5 0 ≠ 63) && !w.getLsbD 9 &&
    s.unackOf (if bitsOf w 5 0 = 63 then 0 else bitsOf w 13 12) true) := by
  have h : (s.injSet w).escalates (s.injOcc w) = (decide (bitsOf w 5 0 ≠ 63) && !w.getLsbD 9 && !false &&
    s.unackOf (if bitsOf w 5 0 = 63 then 0 else bitsOf w 13 12) true) := rfl
  rw [h, Bool.not_false, Bool.and_true]

theorem State.occLevel_injOcc : (s.injSet w).occLevel (s.injOcc w) =
    if bitsOf w 5 0 = 63 then 1
    else if (s.injSet w).escalates (s.injOcc w) then min 4 (s.lvlOf (if bitsOf w 5 0 = 63 then 0 else bitsOf w 13 12) + 1)
    else s.lvlOf (if bitsOf w 5 0 = 63 then 0 else bitsOf w 13 12) := by
  have hl (c : Nat) : (s.injSet w).lvlOf c = s.lvlOf c := by
    rw [State.lvlOf, (s.injSet_onlyRegs w).keeps _ (by decide), State.lvlOf]
  rw [← hl]
  rfl

end

/-! ## The log (R447) -/

theorem State.readLog_reads (s : State) : s.readLog.lastRead = s.logWord ∧
    s.readLog.fld F.FLT_LOG_IDX_word = (s.fld F.FLT_LOG_IDX_word + 1) % 8 ∧
    s.readLog.fld F.FLT_LOG_IDX_entry = (s.fld F.FLT_LOG_IDX_entry + bit (decide (s.fld F.FLT_LOG_IDX_word = 7))) % 64 ∧
    s.KeepsRegs s.readLog [R.FLT_LOG_IDX] ∧ s.readLog.flt = s.flt ∧ s.readLog.mem = s.mem := by
  obtain ⟨u, hu⟩ : ∃ u : State, u = { s.setFld F.FLT_LOG_IDX_word (s.fld F.FLT_LOG_IDX_word + 1) with lastRead := s.logWord } :=
    ⟨_, rfl⟩
  have hk : s.KeepsRegs u [R.FLT_LOG_IDX] := by
    rw [hu]
    exact (State.OnlyRegs.setFld (f := F.FLT_LOG_IDX_word) (by decide) s _).keeps
  have hw : u.fld F.FLT_LOG_IDX_word = (s.fld F.FLT_LOG_IDX_word + 1) % 8 := by
    rw [hu]
    exact State.fld_setFld_self _ _ _ (by decide)
  have he : u.fld F.FLT_LOG_IDX_entry = s.fld F.FLT_LOG_IDX_entry := by
    rw [hu]
    exact State.fld_setFld_of_apart _ _ _ _ (by decide) (by decide)
  have hx : s.readLog = if s.fld F.FLT_LOG_IDX_word = 7 then u.setFld F.FLT_LOG_IDX_entry (u.fld F.FLT_LOG_IDX_entry + 1) else u := by
    rw [hu]
    rfl
  have hr : u.lastRead = s.logWord ∧ u.flt = s.flt ∧ u.mem = s.mem := by rw [hu]; exact ⟨rfl, rfl, rfl⟩
  obtain ⟨hl, hf, hm⟩ := hr
  rw [hx]
  split
  next h =>
    refine ⟨hl, (State.fld_setFld_of_apart _ _ _ _ (by decide) (by decide)).trans hw, ?_, ?_, hf, hm⟩
    · rw [State.fld_setFld_self _ _ _ (by decide), he, h]
      rfl
    · exact fun o ho => ((State.OnlyRegs.setFld (f := F.FLT_LOG_IDX_entry) (l := [R.FLT_LOG_IDX]) (by decide) u _).keeps o ho).trans
        (hk o ho)
  next h =>
    refine ⟨hl, hw, he.trans ?_, hk, hf, hm⟩
    rw [decide_eq_false h]
    exact (Nat.mod_eq_of_lt (bitsOf_lt (s.reg R.FLT_LOG_IDX) 5 0)).symm

/-! ## What a block does at the end of its condition (R279, R314, R469, R471) -/

/-- The registers in which the channels show a media-clock error. -/
def muteRegs : List Nat := R.MOD_STATUS :: (List.range 32).map R.MOD_CH_STATUS

namespace State.OnlyDrive

theorem foldl {α : Type} {l : List Nat} {f : State → α → State} (as : List α) (hf : ∀ s, ∀ a ∈ as, State.OnlyDrive l s (f s a))
    (s : State) : State.OnlyDrive l s (as.foldl f s) := by
  induction as generalizing s with
  | nil => exact refl s
  | cons a as ih => exact (hf s a (by simp)).trans (ih (fun s b hb => hf s b (by simp [hb])) _)

theorem muteCh (s : State) (err : Bool) {c : Nat} (hc : c ∈ List.range 32) : State.OnlyDrive muteRegs s (s.muteCh err c) := by
  have hl : chRegs c ⊆ muteRegs := by
    intro o ho
    simp only [chRegs, List.mem_cons, List.not_mem_nil, or_false] at ho
    rcases ho with rfl | rfl
    · exact List.mem_cons_of_mem _ (List.mem_map_of_mem hc)
    · exact List.mem_cons_self
  rcases s.muteCh_stores err c with e | ⟨x, e⟩ <;> rw [e]
  · exact refl s
  · exact (putAmp1 s c x).mono hl

theorem muteAll (s : State) (err : Bool) : State.OnlyDrive muteRegs s (s.muteAll err) :=
  (setFlag (by decide) _ _).trans (foldl _ (fun s _ hc => muteCh s err hc) _)

theorem mclkCheck (s : State) : State.OnlyDrive (R.CLK_STATUS :: muteRegs) s s.mclkCheck := by
  unfold State.mclkCheck
  extract_lets long err s1
  have h1 : State.OnlyDrive (R.CLK_STATUS :: muteRegs) s s1 := setFlag (by decide) _ _
  exact ite (fun _ => h1.trans ((muteAll _ _).mono (List.subset_cons_self _ _))) fun _ => h1

end State.OnlyDrive

/-- The media-clock error follows the oscillator, which stays as noted. -/
theorem State.osc_mclkCheck (s : State) : s.mclkCheck.flag F.CLK_STATUS_osc_ok = s.flag F.CLK_STATUS_osc_ok := by
  unfold State.mclkCheck
  extract_lets long err s1
  have h1 : s1.flag F.CLK_STATUS_osc_ok = s.flag F.CLK_STATUS_osc_ok :=
    State.flag_setFlag_of_apart _ _ _ _ (by decide) (by decide)
  clear_value s1
  split
  · have hk : (s1.muteAll err).reg R.CLK_STATUS = s1.reg R.CLK_STATUS := (State.OnlyDrive.muteAll s1 err).keeps _ (by decide)
    exact (State.flag_of_reg (f := F.CLK_STATUS_osc_ok) hk).trans h1
  · exact h1

/-! ## The lanes' PLLs -/

theorem State.setLst_onlyRegs (s : State) (l st : Nat) : State.OnlyRegs [R.SDS_STATUS l] s (s.setLst l st) :=
  ((State.OnlyRegs.setFld (by simp) s st).trans (.setFlag (by simp) _ _)).trans (.setFlag (by simp) _ _)

theorem State.pll_setLst (s : State) (l st k : Nat) :
    (s.setLst l st).flag (F.SDS_STATUS_pll_lock k) = s.flag (F.SDS_STATUS_pll_lock k) := by
  unfold State.setLst
  rw [State.flag_setFlag_of_apart _ _ _ _ (by simp) (.inr (by simp)), State.flag_setFlag_of_apart _ _ _ _ (by simp) (.inr (by simp)),
    State.flag_setFld_of_apart _ _ _ _ (by simp) (.inr (by simp))]

/-- One lane's PLL locks again. -/
def State.pllBack (s : State) (l : Nat) : State :=
  let t := s.setFlag (F.SDS_STATUS_pll_lock l) true
  if t.lst l = lSignal && t.flag (F.SDS_STATUS_sig_det l) then t.setLst l lCdr else t

theorem State.pllBack_onlyRegs (s : State) (l : Nat) : State.OnlyRegs [R.SDS_STATUS l] s (s.pllBack l) := by
  have h : State.OnlyRegs [R.SDS_STATUS l] s (s.setFlag (F.SDS_STATUS_pll_lock l) true) := .setFlag (by simp) _ _
  unfold State.pllBack
  dsimp only
  split
  · exact h.trans (State.setLst_onlyRegs _ _ _)
  · exact h

theorem State.pll_pllBack (s : State) (l k : Nat) :
    (s.pllBack l).flag (F.SDS_STATUS_pll_lock k) = (decide (k = l) || s.flag (F.SDS_STATUS_pll_lock k)) := by
  have h : (s.setFlag (F.SDS_STATUS_pll_lock l) true).flag (F.SDS_STATUS_pll_lock k) =
      (decide (k = l) || s.flag (F.SDS_STATUS_pll_lock k)) := by
    by_cases hk : k = l
    · subst hk
      simpa using State.flag_setFlag_self s (F.SDS_STATUS_pll_lock k) true (by simp) rfl
    · rw [State.flag_setFlag_of_apart _ _ _ _ (by simp) (.inl (by simp only [ne_eq, R.SDS_STATUS]; omega))]
      simp [hk]
  unfold State.pllBack
  dsimp only
  split
  · exact (State.pll_setLst _ _ _ _).trans h
  · exact h

/-- All lanes' PLLs lock again (R314). -/
theorem State.serialBack_locks (s : State) : State.OnlyRegs ((List.range 8).map R.SDS_STATUS) s s.serialBack ∧
    ∀ k, k < 8 → s.serialBack.flag (F.SDS_STATUS_pll_lock k) = true := by
  have fold (as : List Nat) (u : State) (k : Nat) : (as.foldl State.pllBack u).flag (F.SDS_STATUS_pll_lock k) =
      (decide (k ∈ as) || u.flag (F.SDS_STATUS_pll_lock k)) := by
    induction as generalizing u with
    | nil => simp
    | cons l as ih =>
      rw [List.foldl_cons, ih, State.pll_pllBack]
      by_cases hk : k = l <;> by_cases ha : k ∈ as <;> simp [hk, ha]
  have hx : s.serialBack = (List.range 8).foldl State.pllBack s := rfl
  rw [hx]
  refine ⟨.foldl _ (fun u l hl => (u.pllBack_onlyRegs l).mono (by simpa using List.mem_range.1 hl)) s, fun k hk => ?_⟩
  rw [fold]
  simp [hk]

/-- The registers in which blocks show that a condition is gone. -/
def goneRegs : List Nat := R.PWR_STATUS :: R.CLK_STATUS :: muteRegs ++ (List.range 8).map R.SDS_STATUS

/-- A block's end of its condition leaves the sources' bits, memory and the twin block. -/
theorem State.condGone_onlyDrive (s : State) (i : Nat) : State.OnlyDrive goneRegs s (s.condGone i) := by
  have pwr (f : Fld) (b : Bool) (hf : f.reg = R.PWR_STATUS) : State.OnlyDrive goneRegs s (s.setFlag f b) :=
    .setFlag (hf ▸ List.mem_cons_self) s b
  unfold State.condGone
  refine .ite (fun _ => ?_) fun _ => .ite (fun _ => ?_) fun _ => .ite (fun _ => pwr _ _ rfl) fun _ => .ite (fun _ => pwr _ _ rfl)
    fun _ => .ite (fun _ => pwr _ _ rfl) fun _ => .refl s
  · exact (State.OnlyDrive.setFlag (by decide) s true).trans ((State.OnlyDrive.mclkCheck _).mono (by decide))
  · exact (State.OnlyDrive.of_onlyRegs s.serialBack_locks.1).mono (by decide)

/-! ## Repairs (R441) -/

section
variable {s : State} {i : Nat} {d : Word}

/-- The state without the repairs asked for. -/
def State.noRepairs (s : State) : State := { s with flt := { s.flt with repair := [] } }

/-- The one repair asked for is carried out, or waits for the march that runs. -/
theorem State.repairSource_of_single (hr : s.flt.repair = [(i, d)]) (h3 : i ≠ 3) (h26 : i ≠ 26 ∨ s.fwStopped = false) :
    s.repairSource i = if i = 6 ∧ s.sram.march ≠ none then s else s.noRepairs.repairOne i d := by
  have hc : (decide (i = 3) || (decide (i = 26) && s.fwStopped)) = false := by
    rcases h26 with h | h <;> simp [h3, h]
  have h1 : (s.flt.repair.filter fun r => r.1 = i).map (·.2) = [d] := by simp [hr]
  have h2 : (s.setFlt fun f => { f with repair := f.repair.filter fun r => r.1 ≠ i }) = s.noRepairs := by
    simp [State.setFlt, State.noRepairs, hr]
  have hback : (s.noRepairs.setFlt fun f => { f with repair := f.repair ++ [(i, d)] }) = s := by
    have h : (s.noRepairs.setFlt fun f => { f with repair := f.repair ++ [(i, d)] }) =
        { s with flt := { s.flt with repair := [(i, d)] } } := rfl
    rw [h, ← hr]
  have hm : s.noRepairs.sram = s.sram := rfl
  unfold State.repairSource
  simp only [hc, Bool.false_eq_true, if_false, h1, h2, List.foldl_cons, List.foldl_nil, hback, hm]
  by_cases h6 : i = 6
  · cases hs : s.sram.march <;> simp [h6]
  · simp [h6]

theorem State.repairOne_march (s : State) (hd : d.toNat < 18) (hm : s.sram.march = none) :
    (s.repairOne 6 d).sram.march = some d.toNat ∧ (s.repairOne 6 d).flt = s.flt ∧
    s.KeepsRegs (s.repairOne 6 d) [R.MEM_MARCH_STATUS] ∧ (s.repairOne 6 d).mem = s.mem := by
  have hx : s.repairOne 6 d = (((s.setSram fun x => { x with march := some d.toNat }).setFlag F.MEM_MARCH_STATUS_busy true).setFld
      F.MEM_MARCH_STATUS_result 0).setFld F.MEM_MARCH_STATUS_row 0 := by
    have h18 : ¬ 18 ≤ d.toNat := by omega
    simp only [State.repairOne, if_true, if_pos hd, State.marchRequest, hm, Option.isSome_none, Bool.false_eq_true, if_false, h18,
      decide_false, Bool.false_and]
  rw [hx]
  have hk : State.OnlyRegs [R.MEM_MARCH_STATUS] (s.setSram fun x => { x with march := some d.toNat })
      ((((s.setSram fun x => { x with march := some d.toNat }).setFlag F.MEM_MARCH_STATUS_busy true).setFld
        F.MEM_MARCH_STATUS_result 0).setFld F.MEM_MARCH_STATUS_row 0) :=
    ((State.OnlyRegs.setFlag (by decide) _ _).trans (.setFld (by decide) _ _)).trans (.setFld (by decide) _ _)
  exact ⟨rfl, rfl, hk.keeps, rfl⟩

end

end Sys2Proof.Machine
end

section
namespace Sys2Proof.Machine

/-! ## What an injected occurrence does -/

section
variable (s : State) (w : Word)

/-- The registers, the log and the collector after an injected occurrence. -/
theorem State.injected_notes : 
    let o := s.injOcc w
    let t := (s.injSet w).raiseOcc o
    t.latched o.src = true ∧ t.unacked o.src = true ∧
    (∀ k, k < 64 → k ≠ o.src → t.latched k = s.latched k ∧ t.unacked k = s.unacked k) ∧
    t.bit64 R.FLT_INJ_TAG_LO R.FLT_INJ_TAG_HI o.src = true ∧ t.reg R.FLT_OCC_CNT = counted (s.reg R.FLT_OCC_CNT) ∧
    t.reg R.FLT_ESC_CNT = (if (s.injSet w).escalates o then counted (s.reg R.FLT_ESC_CNT) else s.reg R.FLT_ESC_CNT) ∧
    t.flt.seq = (s.flt.seq + 1) % 2 ^ 32 ∧ t.mem = s.mem ∧
    (s.latched o.src = false ∨ o.src = 63 → t.fld F.FLT_LOG_WP_wp = (s.fld F.FLT_LOG_WP_wp + 1) % 64 ∧
      (Tbl.get (fun _ => []) t.flt.log (s.fld F.FLT_LOG_WP_wp)).take 3 =
        leBytes 1 o.src ++ leBytes 1 ((s.injSet w).occClass o) ++ leBytes 1 ((s.injSet w).occLevel o)) := by
  intro o t
  obtain ⟨u, hu⟩ : ∃ u, u = s.injSet w := ⟨_, rfl⟩
  have hk : State.OnlyRegs [R.FLT_INJ_CTRL] s u := hu ▸ s.injSet_onlyRegs w
  have ho : o.src < 64 := bitsOf_lt w 5 0
  have ht : t = u.raiseOcc o := hu ▸ rfl
  have hfl : u.flt = s.flt := by
    obtain ⟨_, _, e⟩ := hk.frame
    rw [e]
  have hlat (k : Nat) : u.latched k = s.latched k := State.bit64_of_keeps hk.keeps (by decide) (by decide) k
  have hun (k : Nat) : u.unacked k = s.unacked k := State.bit64_of_keeps hk.keeps (by decide) (by decide) k
  have hreg {r : Nat} (h : r ∉ [R.HIF_EVT_DROP_CNT, R.FLT_WORST] ++ ownRegs ++ [R.FLT_LOG_WP, R.FLT_LOG_OVW_CNT]) :
      (u.raiseOcc o).reg r = (u.noteOcc o).reg r :=
    (u.raiseOcc_reg o fun hm => h (List.mem_append_left _ hm)).trans (u.loggedOcc_reg o fun hm => h (List.mem_append_right _ hm))
  obtain ⟨hocc, hesc⟩ := u.counts_noteOcc o
  obtain ⟨hseq, hlog, -, -⟩ := u.raiseOcc_flt o
  rw [ht, ← hu]
  refine ⟨u.latched_raiseOcc o ho, u.unacked_raiseOcc o ho, fun k hk64 hne => ?_, ?_, ?_, ?_, ?_, ?_, fun hl => ?_⟩
  · obtain ⟨hl, hn⟩ := u.raiseOcc_bits o ho hk64
    rw [hl, hn, hlat, hun]
    simp [hne]
  · simp only [State.bit64, State.pair, hreg (r := R.FLT_INJ_TAG_LO) (by decide), hreg (r := R.FLT_INJ_TAG_HI) (by decide)]
    exact u.tag_noteOcc o ho rfl
  · rw [hreg (by decide), hocc, hk.keeps _ (by decide)]
  · rw [hreg (by decide), hesc, hk.keeps _ (by decide)]
  · rw [hseq, hfl]
  · exact (u.reacts_raiseOcc o ho).mem.trans hk.mem
  · have hlogs : u.logsOcc o = true := by
      unfold State.logsOcc
      rw [hlat]
      rcases hl with h | h <;> simp [h]
    obtain ⟨hwp, hent⟩ := u.log_loggedOcc o hlogs
    have hw : u.fld F.FLT_LOG_WP_wp = s.fld F.FLT_LOG_WP_wp := State.fld_of_reg (hk.keeps R.FLT_LOG_WP (by decide))
    rw [hw] at hwp hent
    refine ⟨(State.fld_of_reg (u.raiseOcc_reg o (r := R.FLT_LOG_WP) (by decide))).trans hwp, ?_⟩
    rw [hlog, hent]
    rfl

/-- The reaction to an injected occurrence (R440 to R444, R451). -/
theorem State.injected_reacts :
    let o := s.injOcc w
    let lvl := (s.injSet w).occLevel o
    let t := (s.injSet w).raiseOcc o
    (o.dry = true → t.flt.repair = s.flt.repair ∧ t.flt.yield = s.flt.yield ∧ t.twn = s.twn ∧ t.warmReq = s.warmReq) ∧
    (o.dry = false → t.flt.repair = (if 2 ≤ lvl then s.flt.repair ++ [(o.src, o.data)] else s.flt.repair) ∧
      (3 ≤ lvl → o.src ∈ t.flt.yield ∧ (s.solo = true → t.isOwner = false ∧ t.twn.ownOut = false)) ∧
      (4 ≤ lvl → t.isOwner = false ∧ t.twn.ownOut = false) ∧
      (lvl < 3 → t.flt.yield = s.flt.yield ∧
        t.twn = (if 2 ≤ (s.injSet w).occClass o then { s.twn with revU := none } else s.twn)) ∧
      t.warmReq = (if 4 ≤ lvl then s.warmReq ||| 16 else s.warmReq)) := by
  intro o lvl t
  obtain ⟨u, hu⟩ : ∃ u, u = s.injSet w := ⟨_, rfl⟩
  have hk : State.OnlyRegs [R.FLT_INJ_CTRL] s u := hu ▸ s.injSet_onlyRegs w
  obtain ⟨-, -, hrep, hyld⟩ := u.raiseOcc_flt o
  have hwarm := u.raiseOcc_warmReq o
  have htwn := u.raiseOcc_twn o
  have hrel := u.raiseOcc_released o
  have hfl : u.flt = s.flt ∧ u.twn = s.twn ∧ u.warmReq = s.warmReq := by
    obtain ⟨_, _, e⟩ := hk.frame
    rw [e]
    exact ⟨rfl, rfl, rfl⟩
  have hsolo : u.solo = s.solo := by
    have h : u.pairState = s.pairState := State.fld_of_reg (hk.keeps R.TWN_STATUS (by decide))
    rw [State.solo, h, State.solo]
  obtain ⟨hf, hw, hq⟩ := hfl
  rw [hf] at hrep hyld
  rw [hw] at htwn
  rw [hq] at hwarm
  rw [hsolo] at hrel
  have ht : t = u.raiseOcc o := hu ▸ rfl
  have hlvl : lvl = u.occLevel o := hu ▸ rfl
  rw [ht, hlvl, ← hu]
  refine ⟨fun hd => ?_, fun hd => ?_⟩
  · simp only [hd, Bool.true_eq_false, and_false, if_false] at hrep hyld htwn hwarm
    exact ⟨hrep, hyld, htwn (.inr trivial), hwarm⟩
  · simp only [hd, and_true] at hrep hyld htwn hwarm
    refine ⟨hrep, fun h3 => ⟨?_, fun hs => hrel hd ?_⟩, fun h4 => hrel hd (.inl h4), fun hlt => ⟨?_, ?_⟩, hwarm⟩
    · rw [hyld, if_pos h3]
      split
      next h => simpa using h
      next h => simp
    · rcases Nat.lt_or_ge (u.occLevel o) 4 with h | h
      · exact .inr ⟨by omega, hs⟩
      · exact .inl h
    · rw [hyld, if_neg (by omega)]
    · exact htwn (.inl hlt)

end

end Sys2Proof.Machine
end

section
namespace Sys2Proof.Machine

/-! ## What the commands do -/

section
variable (s : State)

/-- A debug attach is counted, logged, and raises source 63 at level 1 (R453). -/
theorem State.debugAttach_raises :
    let t := (s.count R.FLT_DBG_ATTACH_CNT).raise 63 0
    t.reg R.FLT_DBG_ATTACH_CNT = counted (s.reg R.FLT_DBG_ATTACH_CNT) ∧
    t.fld F.FLT_LOG_WP_wp = (s.fld F.FLT_LOG_WP_wp + 1) % 64 ∧ t.latched 63 = true ∧ t.unacked 63 = true ∧
    t.reg R.FLT_OCC_CNT = counted (s.reg R.FLT_OCC_CNT) ∧ t.reg R.FLT_ESC_CNT = s.reg R.FLT_ESC_CNT ∧ t.twn = s.twn ∧
    t.flt.repair = s.flt.repair ∧ t.mem = s.mem ∧ t.warmReq = s.warmReq ∧
    (∀ k, k < 63 → t.latched k = s.latched k ∧ t.unacked k = s.unacked k) := by
  intro t
  obtain ⟨o, ho⟩ : ∃ o : Occ, o = { src := 63, data := 0 } := ⟨_, rfl⟩
  obtain ⟨u, hu⟩ : ∃ u, u = s.count R.FLT_DBG_ATTACH_CNT := ⟨_, rfl⟩
  have hk : State.OnlyRegs [R.FLT_DBG_ATTACH_CNT] s u := hu ▸ .count (by decide) s
  have hcnt : u.reg R.FLT_DBG_ATTACH_CNT = counted (s.reg R.FLT_DBG_ATTACH_CNT) := hu ▸ State.reg_count_self _ _
  have ht : t = u.raiseOcc o := by rw [hu, ho]; rfl
  have h63 : o.src = 63 := by rw [ho]
  have hlt : o.src < 64 := by omega
  have hdry : o.dry = false := by rw [ho]
  have hlvl : u.occLevel o = 1 := by rw [State.occLevel, if_pos h63]
  have hesc : u.escalates o = false := by simp [State.escalates, h63]
  have hcls : u.occClass o = 0 := by rw [ho]; rfl
  have hlogs : u.logsOcc o = true := by simp [State.logsOcc, h63]
  have hreg {r : Nat} (h : r ∉ [R.HIF_EVT_DROP_CNT, R.FLT_WORST] ++ ownRegs ++ [R.FLT_LOG_WP, R.FLT_LOG_OVW_CNT]) :
      (u.raiseOcc o).reg r = (u.noteOcc o).reg r :=
    (u.raiseOcc_reg o fun hm => h (List.mem_append_left _ hm)).trans (u.loggedOcc_reg o fun hm => h (List.mem_append_right _ hm))
  obtain ⟨hocc, hescc⟩ := u.counts_noteOcc o
  obtain ⟨-, -, hrep, -⟩ := u.raiseOcc_flt o
  have htwn := u.raiseOcc_twn o (.inl (by omega))
  have hwarm := u.raiseOcc_warmReq o
  have hfl : u.flt = s.flt ∧ u.twn = s.twn ∧ u.warmReq = s.warmReq := by
    obtain ⟨_, _, e⟩ := hk.frame
    rw [e]
    exact ⟨rfl, rfl, rfl⟩
  obtain ⟨hf, hw, hq⟩ := hfl
  have hlat := u.latched_raiseOcc o hlt
  have hun := u.unacked_raiseOcc o hlt
  rw [h63] at hlat hun
  rw [ht]
  refine ⟨?_, ?_, hlat, hun, ?_, ?_, ?_, ?_, ?_, ?_, fun k hk63 => ?_⟩
  · exact (hreg (by decide)).trans (((u.noteOcc_records o).keeps _ (by decide)).trans hcnt)
  · obtain ⟨hwp, -⟩ := u.log_loggedOcc o hlogs
    refine (State.fld_of_reg (u.raiseOcc_reg o (r := R.FLT_LOG_WP) (by decide))).trans (hwp.trans ?_)
    rw [State.fld_of_reg (hk.keeps R.FLT_LOG_WP (by decide))]
  · rw [hreg (by decide), hocc, hk.keeps _ (by decide)]
  · rw [hreg (by decide), hescc, hesc, hk.keeps _ (by decide)]
    rfl
  · rw [htwn, hcls, hw]
    rfl
  · rw [hrep, hlvl, hf]
    rfl
  · exact (u.reacts_raiseOcc o hlt).mem.trans hk.mem
  · rw [hwarm, hlvl, hq]
    rfl
  · obtain ⟨hl, hn⟩ := u.raiseOcc_bits o hlt (k := k) (by omega)
    have hne : k ≠ 63 := by omega
    have hl' : u.latched k = s.latched k := State.bit64_of_keeps hk.keeps (by decide) (by decide) k
    have hn' : u.unacked k = s.unacked k := State.bit64_of_keeps hk.keeps (by decide) (by decide) k
    rw [hl, hn, hl', hn', h63]
    simp [hne]

/-- A condition ends at its source, and its block follows (R436). -/
theorem State.conditionEnd_ends {i : Fin 64} (ha : s.condActive i = true) :
    let t := (s.condGone i).condEnd i
    t.condActive i = false ∧ t.unacked i = s.unacked i ∧ t.latched i = (s.latched i && s.unacked i) ∧ t.mem = s.mem ∧ t.twn = s.twn ∧
    (∀ k, k < 64 → k ≠ i.val → t.latched k = s.latched k ∧ t.unacked k = s.unacked k ∧ t.condActive k = s.condActive k) ∧
    (i = 12 → t.flag F.CLK_STATUS_osc_ok = true) ∧ (i = 14 → ∀ l, l < 8 → t.flag (F.SDS_STATUS_pll_lock l) = true) ∧
    (i = 22 → t.flag F.PWR_STATUS_vin_ok = true) ∧ (i = 23 → t.flag F.PWR_STATUS_temp_hi = false) ∧
    (i = 24 → t.flag F.PWR_STATUS_temp_crit = false) := by
  intro t
  obtain ⟨u, hu⟩ : ∃ u, u = s.condGone i := ⟨_, rfl⟩
  have hd : State.OnlyDrive goneRegs s u := hu ▸ s.condGone_onlyDrive i
  have hact (k : Nat) : u.condActive k = s.condActive k := State.bit64_of_keeps hd.keeps (by decide) (by decide) k
  have hlat (k : Nat) : u.latched k = s.latched k := State.bit64_of_keeps hd.keeps (by decide) (by decide) k
  have hun (k : Nat) : u.unacked k = s.unacked k := State.bit64_of_keeps hd.keeps (by decide) (by decide) k
  obtain ⟨hset, hbits⟩ := u.condEnd_bits i.isLt ((hact i).trans ha)
  have flag {f : Fld} (hf : f.reg ∈ goneRegs) : (u.condEnd i).flag f = u.flag f := by
    refine State.flag_of_reg (hset.keeps _ ?_)
    revert hf
    generalize f.reg = r
    revert r
    decide
  have self (f : Fld) (b : Bool) (hf : f.hi < 32) (h1 : f.hi = f.lo) : (s.setFlag f b).flag f = b :=
    State.flag_setFlag_self s f b hf h1
  obtain ⟨hc, hn, hl⟩ := hbits i i.isLt
  have ht : t = u.condEnd i := hu ▸ rfl
  rw [ht]
  refine ⟨?_, hn.trans (hun _), ?_, hset.mem.trans hd.mem, hset.twn.trans hd.twn, fun k hk hne => ?_, ?_, ?_, ?_, ?_, ?_⟩
  · rw [hc]; simp
  · rw [hl, if_pos rfl, hlat, hun]
  · obtain ⟨hc, hn, hl⟩ := hbits k hk
    rw [hc, hn, hl, hact, hlat, hun, if_neg hne]
    simp [hne]
  · rintro rfl
    rw [flag (by decide), hu]
    exact (State.osc_mclkCheck _).trans (self _ _ (by decide) rfl)
  · rintro rfl l hl
    have hm : (F.SDS_STATUS_pll_lock l).reg ∈ goneRegs :=
      List.mem_append_right _ (List.mem_map_of_mem (List.mem_range.2 hl))
    rw [flag hm, hu]
    exact s.serialBack_locks.2 l hl
  · rintro rfl
    rw [flag (by decide), hu]
    exact self _ _ (by decide) rfl
  · rintro rfl
    rw [flag (by decide), hu]
    exact self _ _ (by decide) rfl
  · rintro rfl
    rw [flag (by decide), hu]
    exact self _ _ (by decide) rfl

/-- What the repairs asked for of one source do (R441). -/
theorem State.localRepair_repairs {s : State} {i : Fin 64} {d : Word} (hon : s.domOn 1 = true) (hr : s.flt.repair = [(i.val, d)]) :
    (i = 6 → d.toNat < 18 → s.sram.march = none → ∃ t : State, exec (.localRepair i) s = .next t ∧ t.sram.march = some d.toNat ∧
      t.flt = s.noRepairs.flt ∧ s.KeepsRegs t [R.MEM_MARCH_STATUS] ∧ t.mem = s.mem) ∧
    (i = 6 → 18 ≤ d.toNat → s.sram.march = none → exec (.localRepair i) s = .next s.noRepairs) ∧
    (i = 6 → s.sram.march ≠ none → exec (.localRepair i) s = .next s) ∧
    (i = 15 → d.toNat < 4 → exec (.localRepair i) s = .next (s.noRepairs.restartLane (macLane d.toNat))) ∧
    (i = 26 → s.fwStopped = true → exec (.localRepair i) s = .next s) ∧
    (i = 26 → s.fwStopped = false → ∃ t : State, exec (.localRepair i) s = .next t ∧ t.flag F.SYS_FW_STATUS_reloading = true ∧
      t.flag F.SYS_BOOT_CTRL_ok = false ∧ t.pwr = { s.pwr with boot := .ready, reload := some s.clk.freeU } ∧
      t.flt = s.noRepairs.flt ∧
      12 ∈ t.sram.drain ∧ 13 ∈ t.sram.drain ∧
      s.KeepsRegs t [R.SYS_FW_STATUS, R.SYS_BOOT_CTRL, R.XBR_STATUS, R.XBR_DRAIN_CNT] ∧ t.mem = s.mem) ∧
    (i = 3 → exec (.localRepair i) s = .next s) ∧
    (i ≠ 3 → i ≠ 6 → i ≠ 15 → i ≠ 26 → exec (.localRepair i) s = .next s.noRepairs) := by
  have on : exec (.localRepair i) s = .next (s.repairSource i) := congrArg Host.Outcome.next (if_pos hon)
  have single := State.repairSource_of_single (s := s) (i := i.val) hr
  refine ⟨?_, ?_, ?_, ?_, ?_, ?_, ?_, fun h3 h6 h15 h26 => ?_⟩
  · rintro rfl hd hm
    have hx : s.repairSource 6 = s.noRepairs.repairOne 6 d := (single (by decide) (.inl (by decide))).trans (if_neg (by simp [hm]))
    obtain ⟨hmarch, hflt, hkeeps, hmem⟩ := s.noRepairs.repairOne_march hd hm
    exact ⟨s.noRepairs.repairOne 6 d, on.trans (congrArg _ hx), hmarch, hflt, hkeeps, hmem⟩
  · rintro rfl hd hm
    have hx : s.repairSource 6 = s.noRepairs.repairOne 6 d := (single (by decide) (.inl (by decide))).trans (if_neg (by simp [hm]))
    have hn : s.noRepairs.repairOne 6 d = s.noRepairs := by
      rw [State.repairOne, if_pos rfl, if_neg (by omega)]
    exact on.trans (congrArg _ (hx.trans hn))
  · rintro rfl hm
    exact on.trans (congrArg _ ((single (by decide) (.inl (by decide))).trans (if_pos ⟨rfl, hm⟩)))
  · rintro rfl hd
    have hn : s.noRepairs.repairOne 15 d = s.noRepairs.restartLane (macLane d.toNat) := by
      rw [State.repairOne, if_neg (by decide), if_pos rfl, if_pos hd]
    exact on.trans (congrArg _ (((single (by decide) (.inl (by decide))).trans (if_neg (by simp))).trans hn))
  · rintro rfl hf
    refine on.trans (congrArg _ (if_pos ?_))
    simp [hf]
  · rintro rfl hf
    have hn : s.noRepairs.repairOne 26 d = s.noRepairs.startReload := by
      rw [State.repairOne, if_neg (by decide), if_neg (by decide), if_pos rfl]
    have hx : s.repairSource 26 = s.noRepairs.startReload :=
      ((single (by decide) (.inr hf)).trans (if_neg (by simp))).trans hn
    have h := s.noRepairs.startReload_reloads
    obtain ⟨_, _, _, _, e⟩ := h.rest
    refine ⟨s.noRepairs.startReload, on.trans (congrArg _ hx), h.reloading, h.ok, h.pwr, ?_, h.core0, h.core1, h.keeps, ?_⟩
    · rw [e]
    · rw [e]
      rfl
  · rintro rfl
    exact on.trans (congrArg _ (if_pos rfl))
  · have v3 : i.val ≠ 3 := fun h => h3 (Fin.ext h)
    have v6 : i.val ≠ 6 := fun h => h6 (Fin.ext h)
    have v15 : i.val ≠ 15 := fun h => h15 (Fin.ext h)
    have v26 : i.val ≠ 26 := fun h => h26 (Fin.ext h)
    have hn : s.noRepairs.repairOne i d = s.noRepairs := by
      rw [State.repairOne, if_neg v6, if_neg v15, if_neg v26]
    exact on.trans (congrArg _ (((single v3 (.inl v26)).trans (if_neg fun h => v6 h.1)).trans hn))

end

/-- Midwinter mode is entered by its three words (R450). -/
theorem State.mwUnlock_enters {s : State} (hon : s.domOn 1 = true) (w1 w2 w3 : Word) :
    (s.testMode = true → s.clk.ranTick = false → w1 = 0xD1CE#32 → w2 = s.moduleId.setWidth 32 → w3 = 0xEC1#32 →
      exec (.mwUnlock w1 w2 w3) s = .next (s.setFlag F.FLT_MODE_midwinter true)) ∧
    (s.testMode = false ∨ s.clk.ranTick = true ∨ w1 ≠ 0xD1CE#32 ∨ w2 ≠ s.moduleId.setWidth 32 ∨ w3 ≠ 0xEC1#32 →
      exec (.mwUnlock w1 w2 w3) s = .next s) := by
  have on : exec (.mwUnlock w1 w2 w3) s = .next (if s.testMode && !s.clk.ranTick && w1 = 0xD1CE#32 && w2 = s.moduleId.setWidth 32 &&
      w3 = 0xEC1#32 then s.setFlag F.FLT_MODE_midwinter true else s) := congrArg Host.Outcome.next (if_pos hon)
  rw [on]
  refine ⟨fun ht hr h1 h2 h3 => congrArg _ (if_pos ?_), fun h => congrArg _ (if_neg ?_)⟩
  · simp only [ht, hr, h1, h2, h3, Bool.not_false, decide_true, Bool.and_true]
  · simp only [Bool.and_eq_true, Bool.not_eq_true', decide_eq_true_eq]
    rintro ⟨⟨⟨⟨ht, hr⟩, h1⟩, h2⟩, h3⟩
    rcases h with h | h | h | h | h
    · exact absurd (h.symm.trans ht) (by decide)
    · exact absurd (h.symm.trans hr) (by decide)
    · exact h h1
    · exact h h2
    · exact h h3

/-- An acknowledgement by the written and the held word (R437, R438). -/
theorem State.ackLo_acks (s : State) (w : Word) :
    let m := w.toNat + (Tbl.get (fun _ => (0 : Word)) s.whold R.FLT_ACK_HI).toNat * 2 ^ 32
    (s.ackLo w).whold = Tbl.drop R.FLT_ACK_HI s.whold ∧
    (∀ k, k < 64 → (s.ackLo w).unacked k = (s.unacked k && (!m.testBit k || s.raisedNow k)) ∧
      (s.ackLo w).latched k = (if m.testBit k && s.unacked k && !s.raisedNow k then s.latched k && s.condActive k else s.latched k)) ∧
    s.KeepsRegs (s.ackLo w) ackRegs ∧ (s.ackLo w).mem = s.mem ∧ (s.ackLo w).twn = s.twn ∧ (s.ackLo w).outbox = s.outbox := by
  intro m
  obtain ⟨u, hu⟩ : ∃ u : State, u = { s with whold := Tbl.drop R.FLT_ACK_HI s.whold } := ⟨_, rfl⟩
  have hx : s.ackLo w = u.ackMask m := hu ▸ rfl
  obtain ⟨hset, hbits⟩ := u.ackMask_bits m
  rw [hx]
  refine ⟨hset.whold.trans (by rw [hu]), fun k hk => ?_, fun o ho => (hset.keeps o ho).trans (by rw [hu]; rfl),
    hset.mem.trans (by rw [hu]), hset.twn.trans (by rw [hu]), hset.outbox.trans (by rw [hu])⟩
  have h := hbits k hk
  have hl : u.latched k = s.latched k := by rw [hu]; rfl
  have hn : u.unacked k = s.unacked k := by rw [hu]; rfl
  have hc : u.condActive k = s.condActive k := by rw [hu]; rfl
  have hr : u.raisedNow k = s.raisedNow k := by rw [hu]; rfl
  rw [hl, hn, hc, hr] at h
  exact h

/-- What a written word of FLT_INJ_CTRL injects. -/
theorem State.faultInject_injects {s : State} (hon : s.domOn 1 = true) (w : Word) :
    (s.flag F.FLT_MODE_midwinter = false → exec (.faultInject w) s = .next s) ∧
    (s.flag F.FLT_MODE_midwinter = true →
      (w.getLsbD 8 = false ∨ (28 ≤ bitsOf w 5 0 ∧ bitsOf w 5 0 ≠ 63) → exec (.faultInject w) s = .next (s.injSet w)) ∧
      (w.getLsbD 8 = true → bitsOf w 5 0 < 28 ∨ bitsOf w 5 0 = 63 →
        exec (.faultInject w) s = .next ((s.injSet w).raiseOcc (s.injOcc w)))) := by
  have on : exec (.faultInject w) s = .next (s.inject w) := congrArg Host.Outcome.next (if_pos hon)
  rw [on]
  refine ⟨fun hm => congrArg _ (if_neg (by simp [hm])), fun hm => ?_⟩
  rw [s.inject_eq w hm]
  refine ⟨fun h => congrArg _ (if_neg ?_), fun h8 hj => congrArg _ (if_pos ?_)⟩
  · simp only [Bool.and_eq_true, Bool.or_eq_true, decide_eq_true_eq]
    rintro ⟨h8, hj⟩
    rcases h with h | ⟨h, h'⟩
    · exact absurd (h.symm.trans h8) (by decide)
    · omega
  · simp only [h8, Bool.true_and, Bool.or_eq_true, decide_eq_true_eq]
    exact hj

/-! ## The obligation -/

/-- Settles O55: an occurrence is recorded, then its level reacts; each acknowledgement, end and repair goes by its own rule. -/
theorem faultsAreLatchedEscalatedRepairedAndAcknowledged : Obligations.FaultsAreLatchedEscalatedRepairedAndAcknowledged := by
  unfold Obligations.FaultsAreLatchedEscalatedRepairedAndAcknowledged
  intro s w w1 w2 w3 d i hon
  obtain ⟨hm1, hm2⟩ := State.mwUnlock_enters hon w1 w2 w3
  have hack : exec (.fltAckLoWrite w) s = .next (s.ackLo w) := congrArg Host.Outcome.next (if_pos hon)
  have hdbg : exec .debugAttach s = .next ((s.count R.FLT_DBG_ATTACH_CNT).raise 63 0) := congrArg Host.Outcome.next (if_pos hon)
  have hlog : exec .fltLogDataRead s = .next s.readLog := congrArg Host.Outcome.next (if_pos hon)
  refine ⟨?inject, ⟨_, hdbg, s.debugAttach_raises⟩, ⟨_, hack, s.ackLo_acks w⟩, fun ha hst => ?stands, fun ha hst => ?ends,
    State.localRepair_repairs hon, hm1, hm2, ⟨_, hlog, s.readLog_reads⟩⟩
  case stands => exact congrArg Host.Outcome.next (if_neg (by simp [hst]))
  case ends =>
    have hend : exec (.conditionEnd i) s = .next ((s.condGone i).condEnd i) := congrArg Host.Outcome.next (if_pos (by simp [ha, hst]))
    exact ⟨_, hend, s.conditionEnd_ends ha⟩
  case inject =>
    intro v j c dry esc lvl
    obtain ⟨hoff, hin⟩ := State.faultInject_injects hon w
    have hesc : (s.injSet w).escalates (s.injOcc w) = esc := s.escalates_injOcc w
    have hlvl : (s.injSet w).occLevel (s.injOcc w) = lvl := by rw [s.occLevel_injOcc w, hesc]
    refine ⟨hoff, fun hm => ⟨(hin hm).1, fun h8 hj => ⟨_, (hin hm).2 h8 hj, ?_⟩⟩⟩
    obtain ⟨n1, n2, n3, n4, n5, n6, n7, n8, n9⟩ := s.injected_notes w
    obtain ⟨r1, r2⟩ := s.injected_reacts w
    rw [hesc] at n6
    rw [hlvl] at n9 r2
    exact ⟨n1, n2, n3, n4, n5, n6, n7, n8, n9, r1, r2⟩

end Sys2Proof.Machine
end

section
/-!
SUPPORT. The refresh debts and timers of the DRAM (R420 to R422), and its registers.
-/

namespace Sys2Proof.Machine

/-! ## Debts -/

theorem debtF_reg (r : Nat) : (debtF r).reg = R.DDR_REF_STATUS := by
  unfold debtF
  split <;> rfl

theorem debtF_hi (r : Nat) : (debtF r).hi < 32 := by
  unfold debtF
  split <;> decide

theorem debtF_width (r : Nat) : (debtF r).hi + 1 - (debtF r).lo = 5 := by
  unfold debtF
  split <;> rfl

theorem debtF_apart {r k : Nat} (hr : r < 2) (hk : k < 2) (h : r ≠ k) :
    (debtF r).hi < (debtF k).lo ∨ (debtF k).hi < (debtF r).lo := by
  rcases (by omega : r = 0 ∧ k = 1 ∨ r = 1 ∧ k = 0) with ⟨rfl, rfl⟩ | ⟨rfl, rfl⟩ <;> decide

section
variable (s : State) {r k : Nat}

theorem State.debt_lt : s.debt r < 32 := by
  have h := bitsOf_lt (s.reg (debtF r).reg) (debtF r).hi (debtF r).lo
  rw [debtF_width] at h
  exact h

theorem State.debt_of_reg {t : State} (h : t.reg R.DDR_REF_STATUS = s.reg R.DDR_REF_STATUS) : t.debt r = s.debt r :=
  State.fld_of_reg (by rw [debtF_reg]; exact h)

theorem State.debt_setDebt_self (v : Nat) : (s.setFld (debtF r) v).debt r = v % 32 := by
  refine (State.fld_setFld_self s (debtF r) v (debtF_hi r)).trans ?_
  rw [debtF_width]
  rfl

theorem State.debt_setDebt_of_ne (hr : r < 2) (hk : k < 2) (h : r ≠ k) (v : Nat) : (s.setFld (debtF r) v).debt k = s.debt k :=
  s.fld_setFld_of_apart _ _ v (debtF_hi k) (.inr (debtF_apart hr hk h))

theorem State.setDebt_onlyRegs (v : Nat) : State.OnlyRegs [R.DDR_REF_STATUS] s (s.setFld (debtF r) v) :=
  .setFld (by rw [debtF_reg]; simp) s v

/-! ## REF commands -/

theorem State.refs_eq (n : Nat) : s.refs r n = { s with outbox := s.outbox ++ List.replicate n (.dram "REF" r) } := by
  induction n generalizing s with
  | zero => simp [State.refs]
  | succ n ih =>
    rw [State.refs, ih]
    simp [State.emit, List.replicate_succ]

theorem State.ranks_eq : s.ranks = 1 ∨ s.ranks = 2 := by
  have h : s.fld F.DDR_CFG_ranks < 2 := bitsOf_lt (s.reg R.DDR_CFG) 4 4
  unfold State.ranks
  omega

/-! ## Timers -/

theorem State.refT_setRefT_self (u : Nat) : (s.setRefT r u).refT r = u := by
  unfold State.refT State.setRefT State.setDdr
  by_cases h : r = 0 <;> simp [h]

theorem State.refT_setRefT_of_ne (hr : r < 2) (hk : k < 2) (h : r ≠ k) (u : Nat) : (s.setRefT r u).refT k = s.refT k := by
  rcases (by omega : r = 0 ∧ k = 1 ∨ r = 1 ∧ k = 0) with ⟨rfl, rfl⟩ | ⟨rfl, rfl⟩ <;> rfl

/-- The timers start anew, without debt. -/
theorem State.startRefresh_starts : s.startRefresh.debt 0 = 0 ∧ s.startRefresh.debt 1 = 0 ∧ s.startRefresh.refT 0 = s.clk.freeU ∧
    s.KeepsRegs s.startRefresh [R.DDR_REF_STATUS] ∧
    ∃ r z t0 t1, s.startRefresh = { s with regs := r, sets := z, ddr := { s.ddr with t0 := t0, t1 := t1 } } := by
  obtain ⟨u, hu⟩ : ∃ u, u = (s.setRefT 0 s.clk.freeU).setRefT 1 (s.clk.freeU + (s.setRefT 0 s.clk.freeU).trefi / 2) := ⟨_, rfl⟩
  have hx : s.startRefresh = (u.setFld (debtF 0) 0).setFld (debtF 1) 0 := hu ▸ rfl
  have ho : State.OnlyRegs [R.DDR_REF_STATUS] u ((u.setFld (debtF 0) 0).setFld (debtF 1) 0) :=
    .trans (u.setDebt_onlyRegs 0) (State.setDebt_onlyRegs _ 0)
  rw [hx]
  refine ⟨?_, State.debt_setDebt_self _ _, ?_, fun o hm => (ho.keeps o hm).trans (by rw [hu]; rfl), ?_⟩
  · exact (State.debt_setDebt_of_ne _ (by decide) (by decide) (by decide) _).trans (State.debt_setDebt_self _ _)
  · rw [hu]
    rfl
  · obtain ⟨r, z, e⟩ := ho.frame
    exact ⟨r, z, _, _, by rw [e, hu]; rfl⟩

end

end Sys2Proof.Machine
end

section
/-!
PROOFS. The external DRAM: its configuration, training, clearing, self-refresh and failing words (R409 to R414, R427 to R432).
-/

namespace Sys2Proof.Machine

/-! ## Training (R427 to R429) -/

/-- A write of DDR_TRN_CTRL with go starts a step. -/
theorem State.trnCtrl_starts (s : State) (w : Word) : (s.trnCtrl w).reg R.DDR_TRN_CTRL = w &&& 0xFFFF7E#32 ∧
    (s.trnCtrl w).flag F.DDR_TRN_STATUS_busy = (w.getLsbD 0 || s.flag F.DDR_TRN_STATUS_busy) ∧
    s.KeepsRegs (s.trnCtrl w) [R.DDR_TRN_CTRL, R.DDR_TRN_STATUS] ∧ (s.trnCtrl w).mem = s.mem ∧ (s.trnCtrl w).ddr = s.ddr := by
  obtain ⟨u, hu⟩ : ∃ u, u = s.put R.DDR_TRN_CTRL (w &&& 0xFFFF7E#32) := ⟨_, rfl⟩
  have hr : u.reg R.DDR_TRN_CTRL = w &&& 0xFFFF7E#32 := hu ▸ State.reg_put_self _ _ _
  have ho : State.OnlyRegs [R.DDR_TRN_CTRL] s u := hu ▸ .put (by decide) _ _
  have hb : u.flag F.DDR_TRN_STATUS_busy = s.flag F.DDR_TRN_STATUS_busy :=
    State.flag_of_reg (f := F.DDR_TRN_STATUS_busy) (ho.keeps _ (by decide))
  have hs : (u.setFlag F.DDR_TRN_STATUS_busy true).flag F.DDR_TRN_STATUS_busy = true :=
    State.flag_setFlag_self _ _ _ (by decide) rfl
  have hd : u.ddr = s.ddr := hu ▸ rfl
  have hx : s.trnCtrl w = if w.getLsbD 0 then (u.setFlag F.DDR_TRN_STATUS_busy true).emit (.dramTrain (u.fld F.DDR_TRN_CTRL_step)
      (u.fld F.DDR_TRN_CTRL_pat) (u.fld F.DDR_TRN_CTRL_rank) (u.fld F.DDR_TRN_CTRL_len)
      (if u.fld F.DDR_TRN_CTRL_pat = 3 then (List.range 16).map fun i => u.reg (R.DDR_TRN_USER i) else [])) else u := hu ▸ rfl
  have hf : State.OnlyRegs [R.DDR_TRN_CTRL, R.DDR_TRN_STATUS] u (u.setFlag F.DDR_TRN_STATUS_busy true) := .setFlag (by decide) _ _
  have ho' : State.OnlyRegs [R.DDR_TRN_CTRL, R.DDR_TRN_STATUS] s u := ho.mono (by decide)
  rw [hx]
  cases hw : w.getLsbD 0 with
  | true =>
    refine ⟨(State.reg_put_of_ne _ _ (by decide)).trans hr, hs, ?_, ho.mem, hd⟩
    exact (ho'.trans hf).keeps
  | false => exact ⟨hr, hb, ho'.keeps, ho.mem, hd⟩

/-- A step's results, noted as it ends. -/
def State.trnNoted (s : State) (ps : BitVec 72) (errs : Word) : State :=
  ((((s.put (R.DDR_TRN_PASS 0) (ps.setWidth 32)).put (R.DDR_TRN_PASS 1) ((ps >>> 32).setWidth 32)).put (R.DDR_TRN_PASS 2)
    ((ps >>> 64).setWidth 32)).put R.DDR_TRN_ERR errs).setFlag F.DDR_TRN_STATUS_busy false

/-- The registers of a step's results. -/
def trnResultRegs : List Nat := [R.DDR_TRN_ERR, R.DDR_TRN_PASS 0, R.DDR_TRN_PASS 1, R.DDR_TRN_PASS 2, R.DDR_TRN_STATUS]

section
variable (s : State) (ps : BitVec 72) (errs : Word)

theorem State.trnNoted_onlyRegs : State.OnlyRegs trnResultRegs s (s.trnNoted ps errs) :=
  ((((State.OnlyRegs.put (by decide) s _).trans (.put (by decide) _ _)).trans (.put (by decide) _ _)).trans
    (.put (by decide) _ _)).trans (.setFlag (by decide) _ _)

theorem State.trnNoted_results : (s.trnNoted ps errs).reg R.DDR_TRN_ERR = errs ∧
    (s.trnNoted ps errs).reg (R.DDR_TRN_PASS 0) = ps.setWidth 32 ∧
    (s.trnNoted ps errs).reg (R.DDR_TRN_PASS 1) = (ps >>> 32).setWidth 32 ∧
    (s.trnNoted ps errs).reg (R.DDR_TRN_PASS 2) = (ps >>> 64).setWidth 32 ∧
    (s.trnNoted ps errs).flag F.DDR_TRN_STATUS_busy = false := by
  have hf (t : State) (o : Nat) (h : R.DDR_TRN_STATUS ≠ o) : (t.setFlag F.DDR_TRN_STATUS_busy false).reg o = t.reg o :=
    State.reg_put_of_ne _ _ h
  unfold State.trnNoted
  refine ⟨?_, ?_, ?_, ?_, State.flag_setFlag_self _ _ _ (by decide) rfl⟩
  · rw [hf _ _ (by decide), State.reg_put_self]
  · rw [hf _ _ (by decide), State.reg_put_of_ne _ _ (by decide), State.reg_put_of_ne _ _ (by decide),
      State.reg_put_of_ne _ _ (by decide), State.reg_put_self]
  · rw [hf _ _ (by decide), State.reg_put_of_ne _ _ (by decide), State.reg_put_of_ne _ _ (by decide), State.reg_put_self]
  · rw [hf _ _ (by decide), State.reg_put_of_ne _ _ (by decide), State.reg_put_self]

end

theorem State.ddrSize_of_reg {s t : State} (h : t.reg R.DDR_CFG = s.reg R.DDR_CFG) : t.ddrSize = s.ddrSize := by
  have hd : t.flag F.DDR_CFG_dens = s.flag F.DDR_CFG_dens := State.flag_of_reg h
  have hw : t.flag F.DDR_CFG_width = s.flag F.DDR_CFG_width := State.flag_of_reg h
  have hr : t.ranks = s.ranks := congrArg (1 + ·) (State.fld_of_reg (f := F.DDR_CFG_ranks) h)
  simp only [State.ddrSize, hd, hw, hr]

theorem State.ddrSize_le (s : State) : s.ddrSize ≤ 16 := by
  unfold State.ddrSize
  rcases s.ranks_eq with hr | hr <;> rw [hr] <;> cases s.flag F.DDR_CFG_dens <;> cases s.flag F.DDR_CFG_width <;> decide

/-- The capacity and the limit are shown, the channel is in use. -/
def State.sized (s : State) (c : Nat) (w : Word) : State :=
  ((s.setFld F.DDR_CAP_cap c).put R.HIF_DRAM_LIMIT w).setDdr fun d => { d with failed := false, live := true }

theorem State.cap_sized (s : State) {c : Nat} (w : Word) (h : c < 128) : (s.sized c w).fld F.DDR_CAP_cap = c :=
  (State.fld_put_of_ne (s.setFld F.DDR_CAP_cap c) w (by decide)).trans
    ((State.fld_setFld_self _ _ _ (by decide)).trans (Nat.mod_eq_of_lt h))

theorem State.limit_sized (s : State) (c : Nat) (w : Word) : (s.sized c w).dramLimit = w.toNat * 16 :=
  congrArg (fun v : Word => v.toNat * 16) (State.reg_put_self (s.setFld F.DDR_CAP_cap c) R.HIF_DRAM_LIMIT w)

/-- The training that ends well shows the capacity and the limit, and the ranks are refreshed from then on (R409, R412). -/
theorem State.trained_shows (s : State) : s.trained.fld F.DDR_CAP_cap = s.ddrSize ∧
    (0 < s.ddrSize → s.trained.dramLimit = 0x400000000 + s.ddrSize * 2 ^ 30 - 2 ^ 28) ∧ s.trained.debt 0 = 0 ∧ s.trained.debt 1 = 0 ∧
    s.trained.ddr.failed = false ∧ s.trained.ddr.live = true := by
  obtain ⟨w, hw⟩ : ∃ w, w = word ((0x400000000 + s.ddrSize * 2 ^ 30 - 0x10000000) / 16) := ⟨_, rfl⟩
  have hx : s.trained = (s.sized s.ddrSize w).startRefresh := hw ▸ rfl
  have hle := s.ddrSize_le
  obtain ⟨d0, d1, -, hk, r, z, t0, t1, e⟩ := (s.sized s.ddrSize w).startRefresh_starts
  have hlim : ((s.sized s.ddrSize w).startRefresh).dramLimit = w.toNat * 16 := by
    rw [State.dramLimit, hk _ (by decide)]
    exact s.limit_sized _ w
  rw [hx, hlim]
  refine ⟨(State.fld_of_reg (f := F.DDR_CAP_cap) (hk _ (by decide))).trans (s.cap_sized w (by omega)), fun hpos => ?_, d0, d1, ?_, ?_⟩
  · rw [hw]
    generalize s.ddrSize = n at *
    simp only [word, BitVec.toNat_ofNat]
    omega
  · rw [e]
    rfl
  · rw [e]
    rfl

/-- A sequence that fails again names lane and step, raises fault 11, and the module does not go on (R429). -/
theorem State.trnFails_again (s : State) (lane : Fin 9) (h : s.ddr.failed = true) :
    let t := s.trnEnds (.failed lane)
    t.flag F.DDR_STATUS_trn_fail = true ∧ t.fld F.DDR_TRN_STATUS_lane = lane ∧
    t.fld F.DDR_TRN_STATUS_step = s.fld F.DDR_TRN_CTRL_step ∧ t.latched 11 = true ∧ t.sram.noAudio = true := by
  intro t
  obtain ⟨v, hv⟩ : ∃ v, v = s.setDdr fun d => { d with failed := false } := ⟨_, rfl⟩
  obtain ⟨u, hu⟩ : ∃ u, u = (v.setFld F.DDR_TRN_STATUS_lane lane).setFld F.DDR_TRN_STATUS_step
      (v.fld F.DDR_TRN_CTRL_step) := ⟨_, rfl⟩
  obtain ⟨w, hw⟩ : ∃ w, w = (u.setSram fun x => { x with noAudio := true }).setFlag F.DDR_STATUS_trn_fail true := ⟨_, rfl⟩
  have hx : t = w.raise 11 (u.reg R.DDR_TRN_STATUS) := by
    rw [hw, hu, hv]
    unfold t State.trnEnds
    simp only [h, if_true]
  have hr := w.reacts_raise (i := 11) (u.reg R.DDR_TRN_STATUS) (by decide)
  have hlane : u.fld F.DDR_TRN_STATUS_lane = lane := by
    rw [hu, State.fld_setFld_of_apart _ _ _ _ (by decide) (by decide), State.fld_setFld_self _ _ _ (by decide)]
    exact Nat.mod_eq_of_lt (show lane.val < 16 by omega)
  have hstep : u.fld F.DDR_TRN_STATUS_step = s.fld F.DDR_TRN_CTRL_step := by
    have hs : v.fld F.DDR_TRN_CTRL_step = s.fld F.DDR_TRN_CTRL_step := hv ▸ rfl
    rw [hu, State.fld_setFld_self _ _ _ (by decide), hs]
    exact Nat.mod_eq_of_lt (bitsOf_lt (s.reg R.DDR_TRN_CTRL) 3 1)
  have hwr : w.reg R.DDR_TRN_STATUS = u.reg R.DDR_TRN_STATUS := by
    rw [hw]
    exact State.reg_put_of_ne _ _ (by decide)
  have ht := hr.keeps R.DDR_TRN_STATUS (by decide)
  rw [hx]
  refine ⟨?_, ?_, ?_, w.latched_raise _ (by decide), ?_⟩
  · rw [State.flag_of_reg (f := F.DDR_STATUS_trn_fail) (hr.keeps _ (by decide)), hw]
    exact State.flag_setFlag_self _ _ _ (by decide) rfl
  · rw [State.fld_of_reg (f := F.DDR_TRN_STATUS_lane) (ht.trans hwr), hlane]
  · rw [State.fld_of_reg (f := F.DDR_TRN_STATUS_step) (ht.trans hwr), hstep]
  · rw [hr.sram, hw]
    rfl

/-! ## Self-refresh (R431, R432) -/

/-- A rank's owed refreshes are issued. -/
def State.payRank (s : State) (r : Nat) : State := (s.refs r (s.debt r)).setFld (debtF r) 0

section
variable (s : State) {r k : Nat}

theorem State.payRank_pays (r : Nat) : State.OnlyRegs [R.DDR_REF_STATUS]
    { s with outbox := s.outbox ++ List.replicate (s.debt r) (.dram "REF" r) } (s.payRank r) ∧ (s.payRank r).debt r = 0 := by
  rw [State.payRank, State.refs_eq]
  exact ⟨State.setDebt_onlyRegs _ _, State.debt_setDebt_self _ _⟩

theorem State.debt_payRank_of_ne (hr : r < 2) (hk : k < 2) (h : r ≠ k) : (s.payRank r).debt k = s.debt k := by
  rw [State.payRank, State.refs_eq]
  exact State.debt_setDebt_of_ne _ hr hk h 0

/-- Every owed refresh is issued before self-refresh (R431). -/
theorem State.payRanks : ∃ u : State, u = (List.range s.ranks).foldl State.payRank s ∧ s.KeepsRegs u [R.DDR_REF_STATUS] ∧
    (∃ r z o, u = { s with regs := r, sets := z, outbox := o }) ∧ (∀ k, k < s.ranks → u.debt k = 0) ∧
    (s.ranks = 1 → u.outbox = s.outbox ++ List.replicate (s.debt 0) (.dram "REF" 0)) := by
  obtain ⟨h0, d0⟩ := s.payRank_pays 0
  obtain ⟨h1, d1⟩ := (s.payRank 0).payRank_pays 1
  obtain ⟨_, _, e0⟩ := h0.frame
  obtain ⟨_, _, e1⟩ := h1.frame
  refine ⟨_, rfl, ?_⟩
  rcases s.ranks_eq with hn | hn <;> rw [hn]
  · refine ⟨h0.keeps, ⟨_, _, _, e0⟩, fun k hk => ?_, fun _ => h0.outbox⟩
    obtain rfl : k = 0 := by omega
    exact d0
  · have hd : ((s.payRank 0).payRank 1).debt 0 = 0 :=
      ((s.payRank 0).debt_payRank_of_ne (by decide) (by decide) (by decide)).trans d0
    refine ⟨fun o ho => (h1.keeps o ho).trans (h0.keeps o ho), ⟨_, _, _, e1.trans (by rw [e0])⟩, fun k hk => ?_,
      fun h => absurd h (by decide)⟩
    rcases (by omega : k = 0 ∨ k = 1) with rfl | rfl
    · exact hd
    · exact d1

/-- Self-refresh begins with no debt, the delay registers saved (R431). -/
theorem State.selfRefresh_begins (ht : s.ticking = false) (hs : s.flag F.DDR_STATUS_sr = false) :
    let t := s.selfRefresh
    t.flag F.DDR_STATUS_sr = true ∧ t.ddr = { s.ddr with held := true, saved := trnRegs.map fun o => (o, s.reg o) } ∧
    t.reg R.DDR_SR_CNT = counted (s.reg R.DDR_SR_CNT) ∧ (∀ k, k < s.ranks → t.debt k = 0) ∧
    (s.ranks = 1 → t.outbox = s.outbox ++ List.replicate (s.debt 0) (.dram "REF" 0) ++ [.dram "SRE" 0]) ∧
    s.KeepsRegs t [R.DDR_STATUS, R.DDR_SR_CNT, R.DDR_REF_STATUS] ∧ t.mem = s.mem := by
  intro t
  obtain ⟨u, hu, hk, ⟨_, _, _, e⟩, hd, ho⟩ := s.payRanks
  obtain ⟨v, hv⟩ : ∃ v, v = u.setDdr fun d => { d with held := true, saved := trnRegs.map fun o => (o, u.reg o) } := ⟨_, rfl⟩
  have hx : t = ((v.setFlag F.DDR_STATUS_sr true).count R.DDR_SR_CNT).emit (.dram "SRE" 0) := by
    rw [hv, hu]
    unfold t State.selfRefresh
    simp only [ht, hs, Bool.false_eq_true, if_false]
    rfl
  have hw : State.OnlyRegs [R.DDR_STATUS, R.DDR_SR_CNT] v ((v.setFlag F.DDR_STATUS_sr true).count R.DDR_SR_CNT) :=
    .trans (.setFlag (by decide) _ _) (.count (by decide) _)
  have hvr (o : Nat) : v.reg o = u.reg o := by rw [hv]; rfl
  have hsaved : (trnRegs.map fun o => (o, u.reg o)) = trnRegs.map fun o => (o, s.reg o) := by
    refine List.map_congr_left fun o hm => ?_
    have hne : ∀ o ∈ trnRegs, o ∉ [R.DDR_REF_STATUS] := by decide
    rw [hk o (hne o hm)]
  have hvd : v.ddr = { s.ddr with held := true, saved := trnRegs.map fun o => (o, s.reg o) } := by
    rw [hv, ← hsaved, e]
    rfl
  have hcnt : ((v.setFlag F.DDR_STATUS_sr true).count R.DDR_SR_CNT).reg R.DDR_SR_CNT = counted (s.reg R.DDR_SR_CNT) := by
    have h0 : (v.setFlag F.DDR_STATUS_sr true).reg R.DDR_SR_CNT = v.reg R.DDR_SR_CNT := State.reg_put_of_ne _ _ (by decide)
    rw [State.reg_count_self, h0, hvr, hk _ (by decide)]
  rw [hx]
  refine ⟨?_, hvd, hcnt, fun k hlt => ?_, fun h1 => ?_, fun o hm => ?_, ?_⟩
  · exact (State.flag_of_reg (f := F.DDR_STATUS_sr) (State.reg_put_of_ne (v.setFlag F.DDR_STATUS_sr true) _ (by decide))).trans
      (State.flag_setFlag_self v F.DDR_STATUS_sr true (by decide) rfl)
  · exact (State.debt_of_reg v (hw.keeps R.DDR_REF_STATUS (by decide))).trans ((State.debt_of_reg u (hvr _)).trans (hd k hlt))
  · have hvo : v.outbox = u.outbox := by rw [hv]; rfl
    rw [← ho h1, ← hvo]
    rfl
  · simp only [List.mem_cons, List.not_mem_nil, or_false, not_or] at hm
    exact (hw.keeps o (by simp [hm])).trans ((hvr o).trans (hk o (by simp [hm])))
  · have hvm : v.mem = s.mem := by rw [hv, e]; rfl
    exact hvm

theorem foldl_put_frame (l : List (Nat × Word)) (s : State) : ∃ r, l.foldl (fun s e => s.put e.1 e.2) s = { s with regs := r } := by
  induction l generalizing s with
  | nil => exact ⟨s.regs, rfl⟩
  | cons e l ih =>
    obtain ⟨r, h⟩ := ih (s.put e.1 e.2)
    exact ⟨r, h⟩

/-- The exit brings the saved registers back, wakes the ranks, and the timers start without debt (R432). -/
theorem State.leaveSelfRefresh_wakes (hs : s.flag F.DDR_STATUS_sr = true) :
    let t := s.leaveSelfRefresh
    t.flag F.DDR_STATUS_sr = false ∧ t.debt 0 = 0 ∧ t.debt 1 = 0 ∧ t.ddr.held = false ∧ t.ddr.saved = [] ∧ t.refT 0 = s.clk.freeU ∧
    t.mem = s.mem ∧ (∀ v, s.ddr.saved = [(R.DDR_VREF, v)] → t.reg R.DDR_VREF = v) ∧
    (s.ddr.saved = [] → s.KeepsRegs t [R.DDR_STATUS, R.DDR_REF_STATUS] ∧
      t.outbox = s.outbox ++ .dram "SRX" 0 :: (List.range s.ranks).map fun k => .dram "ZQCL" k) := by
  intro t
  obtain ⟨p, hp⟩ : ∃ p, p = s.ddr.saved.foldl (fun s e => s.put e.1 e.2) s := ⟨_, rfl⟩
  obtain ⟨pr, he⟩ := foldl_put_frame s.ddr.saved s
  rw [← hp] at he
  obtain ⟨q, hq⟩ : ∃ q, q = ((p.setDdr fun d => { d with held := false, saved := [] }).setFlag F.DDR_STATUS_sr false).emit
    (.dram "SRX" 0) := ⟨_, rfl⟩
  have hemit (l : List Nat) (u : State) : l.foldl (fun s r => s.emit (.dram "ZQCL" r)) u =
      { u with outbox := u.outbox ++ l.map fun k => .dram "ZQCL" k } := by
    induction l generalizing u with
    | nil => simp
    | cons a l ih =>
      rw [List.foldl_cons, ih]
      simp [State.emit]
  obtain ⟨z, hz⟩ : ∃ z : State, z = { q with outbox := q.outbox ++ (List.range q.ranks).map fun k => .dram "ZQCL" k } := ⟨_, rfl⟩
  have hx : t = z.startRefresh := by
    rw [hz, ← hemit, hq, hp]
    exact if_pos hs
  obtain ⟨d0, d1, hT, hk, _, _, _, _, ez⟩ := z.startRefresh_starts
  have hqp : State.OnlyRegs [R.DDR_STATUS] (p.setDdr fun d => { d with held := false, saved := [] })
      ((p.setDdr fun d => { d with held := false, saved := [] }).setFlag F.DDR_STATUS_sr false) := .setFlag (by decide) _ _
  have hzr (o : Nat) (h : o ∉ [R.DDR_STATUS]) : z.reg o = p.reg o := by
    rw [hz, hq]
    exact hqp.keeps o h
  have hzf : z.flag F.DDR_STATUS_sr = false := by
    rw [hz, hq]
    exact State.flag_setFlag_self (p.setDdr fun d => { d with held := false, saved := [] }) F.DDR_STATUS_sr false (by decide) rfl
  have hzd : z.ddr.held = false ∧ z.ddr.saved = [] ∧ z.mem = s.mem ∧ z.clk = s.clk := by
    rw [hz, hq, he]
    exact ⟨rfl, rfl, rfl, rfl⟩
  obtain ⟨zh, zs, zm, zc⟩ := hzd
  rw [hx]
  refine ⟨?_, d0, d1, ?_, ?_, by rw [hT, zc], ?_, fun v hv => ?_, fun hn => ⟨fun o ho => ?_, ?_⟩⟩
  · exact (State.flag_of_reg (f := F.DDR_STATUS_sr) (hk _ (by decide))).trans hzf
  · rw [ez]; exact zh
  · rw [ez]; exact zs
  · rw [ez]; exact zm
  · rw [hk _ (by decide), hzr _ (by decide), hp, hv]
    exact State.reg_put_self _ _ _
  · simp only [List.mem_cons, List.not_mem_nil, or_false, not_or] at ho
    rw [hk o (by simp [ho]), hzr o (by simp [ho]), hp, hn]
    rfl
  · have hps : p = s := by rw [hp, hn]; rfl
    have hqr : q.ranks = s.ranks := by
      have h : q.reg R.DDR_CFG = s.reg R.DDR_CFG := by
        rw [hq, ← hps]
        exact hqp.keeps _ (by decide)
      exact congrArg (1 + ·) (State.fld_of_reg (f := F.DDR_CFG_ranks) h)
    have hqo : q.outbox = s.outbox ++ [.dram "SRX" 0] := by
      rw [hq, hps]
      rfl
    rw [ez, hz, hqr, hqo]
    simp

end

/-! ## Clearing (R430) -/

/-- Every byte of DRAM is 0 after clearing, the others stay. -/
theorem State.byte_zeroDram (s : State) (a : Nat) :
    s.zeroDram.byte a = if 0x400000000 ≤ a ∧ a < 0x800000000 then 0 else s.byte a := by
  have h := Tbl.get_filter_keys memByte (fun k => decide (0x400000000 ≤ k) && decide (k < 0x800000000)) s.mem a
  have hf : (s.mem.filter fun c => decide (c.1 < 0x400000000) || decide (0x800000000 ≤ c.1)) =
      s.mem.filter fun e => !(decide (0x400000000 ≤ e.1) && decide (e.1 < 0x800000000)) := by
    refine List.filter_congr fun c _ => ?_
    simp only [Bool.not_and, ← decide_not, not_le, not_lt]
  have hx : s.zeroDram.byte a =
      Tbl.get memByte (s.mem.filter fun c => decide (c.1 < 0x400000000) || decide (0x800000000 ≤ c.1)) a := rfl
  rw [hx, hf, h]
  simp only [Bool.and_eq_true, decide_eq_true_eq]
  rfl

end Sys2Proof.Machine
end

section
namespace Sys2Proof.Machine

/-! ## Failing words (R413, R414) -/

/-- A pair whose registers are kept reads as before. -/
theorem State.pair_of_keeps {l : List Nat} {s t : State} (h : s.KeepsRegs t l) {lo hi : Nat} (hl : lo ∉ l) (hh : hi ∉ l) :
    t.pair lo hi = s.pair lo hi := by
  rw [State.pair, h lo hl, h hi hh, State.pair]

section
variable (s : State) (a m : Nat)

/-- The place of the first uncorrectable word. -/
def State.latchBad : State :=
  if s.flag F.DDR_STATUS_uncorr then s else (s.putPair R.DDR_ECC_ADDR_LO R.DDR_ECC_ADDR_HI a).setFld F.DDR_ECC_INFO_master m

/-- The registers of an uncorrectable word of the DRAM. -/
def badRegs : List Nat := [R.DDR_ECC_UNCORR_CNT, R.DDR_ECC_ADDR_LO, R.DDR_ECC_ADDR_HI, R.DDR_ECC_INFO, R.DDR_STATUS]

theorem State.latchBad_onlyRegs :
    State.OnlyRegs [R.DDR_ECC_ADDR_LO, R.DDR_ECC_ADDR_HI, R.DDR_ECC_INFO] s (s.latchBad a m) := by
  unfold State.latchBad
  split
  · exact .refl s
  · exact .trans (.putPair (by decide) (by decide) _ _) (.setFld (by decide) _ _)

/-- An uncorrectable word is counted, marked, the first is latched, and source 8 is raised. -/
theorem State.dramSeen_sees (ha : a < 2 ^ 36) (hm : m < 32) :
    let t := s.dramSeen a m
    t.flag F.DDR_STATUS_uncorr = true ∧ t.latched 8 = true ∧ a / 8 * 8 ∈ t.sram.bad ∧
    t.reg R.DDR_ECC_UNCORR_CNT = counted (s.reg R.DDR_ECC_UNCORR_CNT) ∧ t.mem = s.mem ∧ s.KeepsRegs t (badRegs ++ raiseRegs) ∧
    (s.flag F.DDR_STATUS_uncorr = false → t.pair R.DDR_ECC_ADDR_LO R.DDR_ECC_ADDR_HI = a ∧ t.fld F.DDR_ECC_INFO_master = m) := by
  intro t
  obtain ⟨u, hu⟩ : ∃ u, u = (s.count R.DDR_ECC_UNCORR_CNT).markBad a := ⟨_, rfl⟩
  obtain ⟨w, hw⟩ : ∃ w, w = (u.latchBad a m).setFlag F.DDR_STATUS_uncorr true := ⟨_, rfl⟩
  obtain ⟨d, hd⟩ : ∃ d, t = w.raise 8 d := ⟨(u.latchBad a m).reg R.DDR_ECC_INFO, by rw [hw, hu]; rfl⟩
  have hr := w.reacts_raise (i := 8) d (by decide)
  have hc : State.OnlyRegs [R.DDR_ECC_UNCORR_CNT] s (s.count R.DDR_ECC_UNCORR_CNT) := .count (by decide) s
  have hur (o : Nat) : u.reg o = (s.count R.DDR_ECC_UNCORR_CNT).reg o := hu ▸ rfl
  have hl := u.latchBad_onlyRegs a m
  have hf : State.OnlyRegs [R.DDR_STATUS] (u.latchBad a m) w := hw ▸ .setFlag (by decide) _ _
  have hbad : a / 8 * 8 ∈ u.sram.bad := by
    have h : u.sram.bad = if s.sram.bad.contains (a / 8 * 8) then s.sram.bad else s.sram.bad ++ [a / 8 * 8] := hu ▸ rfl
    rw [h]
    split
    next h => simpa using h
    next h => simp
  have hsram : w.sram = u.sram := by
    obtain ⟨_, _, e⟩ := (hl.mono (m := badRegs) (by decide)).trans (hf.mono (by decide)) |>.frame
    rw [e]
  rw [hd]
  refine ⟨?_, w.latched_raise d (by decide), ?_, ?_, ?_, fun o ho => ?_, fun hn => ?_⟩
  · rw [State.flag_of_reg (f := F.DDR_STATUS_uncorr) (hr.keeps _ (by decide)), hw]
    exact State.flag_setFlag_self _ _ _ (by decide) rfl
  · rw [hr.sram, hsram]
    exact hbad
  · rw [hr.keeps _ (by decide), hf.keeps _ (by decide), hl.keeps _ (by decide), hur]
    exact State.reg_count_self _ _
  · rw [hr.mem, hf.mem, hl.mem, hu]
    rfl
  · have h1 : o ∉ raiseRegs := fun h => ho (List.mem_append_right _ h)
    have h2 : o ∉ badRegs := fun h => ho (List.mem_append_left _ h)
    simp only [badRegs, List.mem_cons, List.not_mem_nil, or_false, not_or] at h2
    rw [hr.keeps _ h1, hf.keeps _ (by simp [h2]), hl.keeps _ (by simp [h2]), hur, hc.keeps _ (by simp [h2])]
  · have hun : u.flag F.DDR_STATUS_uncorr = false :=
      (State.flag_of_reg (f := F.DDR_STATUS_uncorr) ((hur _).trans (hc.keeps _ (by decide)))).trans hn
    have hx : u.latchBad a m = (u.putPair R.DDR_ECC_ADDR_LO R.DDR_ECC_ADDR_HI a).setFld F.DDR_ECC_INFO_master m :=
      if_neg (by simp [hun])
    have hk (o : Nat) (h1 : o ∉ raiseRegs) (h2 : o ∉ [R.DDR_STATUS]) : (w.raise 8 d).reg o = (u.latchBad a m).reg o :=
      (hr.keeps _ h1).trans (hf.keeps _ h2)
    constructor
    · have hp : (u.latchBad a m).pair R.DDR_ECC_ADDR_LO R.DDR_ECC_ADDR_HI = a % 2 ^ 64 := by
        rw [hx, ← u.pair_putPair (lo := R.DDR_ECC_ADDR_LO) (hi := R.DDR_ECC_ADDR_HI) (by decide) a]
        exact State.pair_of_keeps (State.OnlyRegs.setFld (f := F.DDR_ECC_INFO_master) (l := [R.DDR_ECC_INFO]) (by decide) _ m).keeps
          (by decide) (by decide)
      have hkp : (w.raise 8 d).pair R.DDR_ECC_ADDR_LO R.DDR_ECC_ADDR_HI =
          (u.latchBad a m).pair R.DDR_ECC_ADDR_LO R.DDR_ECC_ADDR_HI := by
        rw [State.pair, hk _ (by decide) (by decide), hk _ (by decide) (by decide), State.pair]
      rw [hkp, hp]
      exact Nat.mod_eq_of_lt (by omega)
    · rw [State.fld_of_reg (f := F.DDR_ECC_INFO_master) (hk _ (by decide) (by decide)), hx, State.fld_setFld_self _ _ _ (by decide)]
      exact Nat.mod_eq_of_lt (show m < 32 from hm)

theorem State.delaySamples_of_keeps {s t : State} {l : List Nat} (h : s.KeepsRegs t l) (h1 : R.RTE_DLY_COUNT ∉ l)
    (h2 : R.RTE_DLY_LEN ∉ l) (h3 : R.RTE_DLY_BASE_LO ∉ l) (h4 : R.RTE_DLY_BASE_HI ∉ l) (a : Nat) :
    t.delaySamples a = s.delaySamples a := by
  have hc : t.fld F.RTE_DLY_COUNT_lines = s.fld F.RTE_DLY_COUNT_lines := State.fld_of_reg (h _ h1)
  have hl : t.dlyLen = s.dlyLen := State.fld_of_reg (f := F.RTE_DLY_LEN_samples) (h _ h2)
  have hb : t.dlyBase = s.dlyBase := by rw [State.dlyBase, h _ h3, h _ h4, State.dlyBase]
  simp only [State.delaySamples, hc, hl, hb]

/-- The route stage reads the word as zero, and its delay samples are counted (R152). -/
def State.zeroDelay : State :=
  ((s.dramSeen a m).putBytes (a / 8 * 8) (List.replicate 8 0)).countBy R.RTE_DLY_ECC_CNT ((s.dramSeen a m).delaySamples a)

theorem State.zeroDelay_zeroes (ha : a < 2 ^ 36) (hm : m < 32) :
    let t := s.zeroDelay a m
    t.flag F.DDR_STATUS_uncorr = true ∧ t.latched 8 = true ∧ a / 8 * 8 ∈ t.sram.bad ∧
    t.reg R.DDR_ECC_UNCORR_CNT = counted (s.reg R.DDR_ECC_UNCORR_CNT) ∧
    (∀ b, a / 8 * 8 ≤ b → b < a / 8 * 8 + 8 → t.byte b = 0) ∧ s.KeepsMemBut t (a / 8 * 8) 8 ∧
    t.reg R.RTE_DLY_ECC_CNT = word (min ((s.reg R.RTE_DLY_ECC_CNT).toNat + s.delaySamples a) 0xFFFFFFFF) ∧
    (s.flag F.DDR_STATUS_uncorr = false → t.pair R.DDR_ECC_ADDR_LO R.DDR_ECC_ADDR_HI = a ∧ t.fld F.DDR_ECC_INFO_master = m) := by
  intro t
  obtain ⟨hun, hlat, hbad, hcnt, hmem, hk, hfirst⟩ := s.dramSeen_sees a m ha hm
  obtain ⟨u, hu⟩ : ∃ u, u = s.dramSeen a m := ⟨_, rfl⟩
  rw [← hu] at hun hlat hbad hcnt hmem hk hfirst
  obtain ⟨v, hv⟩ : ∃ v, v = u.putBytes (a / 8 * 8) (List.replicate 8 0) := ⟨_, rfl⟩
  obtain ⟨mem, hvm⟩ : ∃ mem, v = { u with mem := mem } := ⟨_, hv.trans (u.putBytes_changes _ _)⟩
  have hvr (o : Nat) : v.reg o = u.reg o := by rw [hvm]; rfl
  have hvs : v.sram = u.sram := by rw [hvm]
  obtain ⟨n, hn⟩ : ∃ n, n = u.delaySamples a := ⟨_, rfl⟩
  have hx : t = v.countBy R.RTE_DLY_ECC_CNT n := by rw [hn, hv, hu]; rfl
  have ho : State.OnlyRegs [R.RTE_DLY_ECC_CNT] v (v.countBy R.RTE_DLY_ECC_CNT n) := .put (by decide) _ _
  have hreg (o : Nat) (h : o ∉ [R.RTE_DLY_ECC_CNT]) : (v.countBy R.RTE_DLY_ECC_CNT n).reg o = u.reg o := (ho.keeps o h).trans (hvr o)
  have hbyte (b : Nat) : (v.countBy R.RTE_DLY_ECC_CNT n).byte b = v.byte b := rfl
  have hns : n = s.delaySamples a := by
    rw [hn]
    exact State.delaySamples_of_keeps hk (by decide) (by decide) (by decide) (by decide) a
  rw [hx]
  refine ⟨?_, ?_, ?_, ?_, fun b h1 h2 => ?_, fun b hb => ?_, ?_, fun hf => ?_⟩
  · exact (State.flag_of_reg (f := F.DDR_STATUS_uncorr) (hreg _ (by decide))).trans hun
  · refine Eq.trans ?_ hlat
    exact State.bit64_of_keeps (l := [R.RTE_DLY_ECC_CNT]) hreg (by decide) (by decide) 8
  · have h : (v.countBy R.RTE_DLY_ECC_CNT n).sram = v.sram := rfl
    rw [h, hvs]
    exact hbad
  · exact (hreg _ (by decide)).trans hcnt
  · obtain ⟨i, rfl⟩ : ∃ i, b = a / 8 * 8 + i := ⟨b - a / 8 * 8, by omega⟩
    rw [hbyte, hv, State.byte_putBytes_of_in _ _ _ _ (by simp; omega)]
    exact List.getElem_replicate _
  · rw [hbyte, hv, State.byte_putBytes_of_out _ _ _ _ (by simpa using hb)]
    exact congrArg (fun m => Tbl.get memByte m b) hmem
  · have h : (v.countBy R.RTE_DLY_ECC_CNT n).reg R.RTE_DLY_ECC_CNT = word (min ((v.reg R.RTE_DLY_ECC_CNT).toNat + n) 0xFFFFFFFF) :=
      State.reg_put_self _ _ _
    rw [h, hvr, hk _ (by decide), hns]
  · obtain ⟨hp, hmst⟩ := hfirst hf
    refine ⟨?_, (State.fld_of_reg (f := F.DDR_ECC_INFO_master) (hreg _ (by decide))).trans hmst⟩
    rw [State.pair, hreg _ (by decide), hreg _ (by decide)]
    exact hp

end

/-- What the readers of an uncorrectable word of the DRAM make of it. -/
theorem State.dramBad_reads {s : State} (hon : s.domOn 16 = true) (adr : BitVec 36) (m : BitVec 5) (c : HostCmd) (old : List Byte) :
    ∃ t : State, exec (.dramUncorrectable adr m .other) s = .next t ∧ t.flag F.DDR_STATUS_uncorr = true ∧ t.latched 8 = true ∧
      adr.toNat / 8 * 8 ∈ t.sram.bad ∧
      t.reg R.DDR_ECC_UNCORR_CNT = counted (s.reg R.DDR_ECC_UNCORR_CNT) ∧ (m.toNat ≠ 31 → t.mem = s.mem) ∧
      (m.toNat = 31 → (∀ a, adr.toNat / 8 * 8 ≤ a → a < adr.toNat / 8 * 8 + 8 → t.byte a = 0) ∧
        s.KeepsMemBut t (adr.toNat / 8 * 8) 8 ∧
        t.reg R.RTE_DLY_ECC_CNT = word (min ((s.reg R.RTE_DLY_ECC_CNT).toNat + s.delaySamples adr.toNat) 0xFFFFFFFF)) ∧
      (s.flag F.DDR_STATUS_uncorr = false → t.pair R.DDR_ECC_ADDR_LO R.DDR_ECC_ADDR_HI = adr.toNat ∧
        t.fld F.DDR_ECC_INFO_master = m.toNat) ∧
      (m.toNat ≠ 31 →
        (cmdOp c = 3 → t.mayParse c.ring = true → exec (.dramUncorrectable adr m (.copyOut c)) s =
          .next ((t.takeCmd c.ring).endCmd c stDmaErr (cmdArg c 0 8 % 2 ^ 32))) ∧
        (cmdOp c ≠ 3 ∨ t.mayParse c.ring = false → exec (.dramUncorrectable adr m (.copyOut c)) s = .next t) ∧
        exec (.dramUncorrectable adr m (.partWrite old)) s = .next (t.undoWrite adr.toNat m.toNat old)) := by
  have on (hit : DramHit) : exec (.dramUncorrectable adr m hit) s = .next (s.dramBad adr.toNat m.toNat hit) :=
    congrArg Host.Outcome.next (if_pos hon)
  by_cases h31 : m.toNat = 31
  · have hx : s.dramBad adr.toNat m.toNat .other = s.zeroDelay adr.toNat m.toNat := if_pos (by simp [h31])
    obtain ⟨hun, hlat, hbad, hcnt, hz, hmem, hdly, hfirst⟩ := s.zeroDelay_zeroes adr.toNat m.toNat adr.isLt m.isLt
    exact ⟨_, (on _).trans (congrArg _ hx), hun, hlat, hbad, hcnt, fun h => absurd h31 h, fun _ => ⟨hz, hmem, hdly⟩, hfirst,
      fun h => absurd h31 h⟩
  · obtain ⟨hun, hlat, hbad, hcnt, hmem, -, hfirst⟩ := s.dramSeen_sees adr.toNat m.toNat adr.isLt m.isLt
    have hx : s.dramBad adr.toNat m.toNat .other = s.dramSeen adr.toNat m.toNat := if_neg (by simp [h31])
    have hc : s.dramBad adr.toNat m.toNat (.copyOut c) = (s.dramSeen adr.toNat m.toNat).copyFails c :=
      congrArg (fun t : State => t.copyFails c) (if_neg (by simp [h31]))
    have hp : s.dramBad adr.toNat m.toNat (.partWrite old) = (s.dramSeen adr.toNat m.toNat).undoWrite adr.toNat m.toNat old :=
      congrArg (fun t : State => t.undoWrite adr.toNat m.toNat old) (if_neg (by simp [h31]))
    refine ⟨_, (on _).trans (congrArg _ hx), hun, hlat, hbad, hcnt, fun _ => hmem, fun h => absurd h h31, hfirst,
      fun _ => ⟨fun h3 hm => ?_, fun h => ?_, (on _).trans (congrArg _ hp)⟩⟩
    · exact (on _).trans (congrArg _ (hc.trans (if_pos (by simp [h3, hm]))))
    · refine (on _).trans (congrArg _ (hc.trans (if_neg ?_)))
      rcases h with h | h <;> simp [h]

/-- The results of a training step, and what the firmware makes of them (R427 to R429). -/
theorem State.trainingStepDone_ends {s : State} (hb : s.flag F.DDR_TRN_STATUS_busy = true) (ps : BitVec 72) (errs : Word)
    (lane : Fin 9) :
    (∃ t : State, exec (.trainingStepDone ps errs .sweep) s = .next t ∧ t.reg R.DDR_TRN_ERR = errs ∧
      t.reg (R.DDR_TRN_PASS 0) = ps.setWidth 32 ∧ t.reg (R.DDR_TRN_PASS 1) = (ps >>> 32).setWidth 32 ∧
      t.reg (R.DDR_TRN_PASS 2) = (ps >>> 64).setWidth 32 ∧ t.flag F.DDR_TRN_STATUS_busy = false ∧
      s.KeepsRegs t trnResultRegs ∧ t.mem = s.mem ∧ t.ddr = s.ddr) ∧
    (s.fld F.DDR_TRN_CTRL_step = 6 → s.fld F.DDR_TRN_CTRL_rank + 1 = s.ranks → ∃ t : State,
      exec (.trainingStepDone ps errs .passed) s = .next t ∧ t.fld F.DDR_CAP_cap = s.ddrSize ∧
      (0 < s.ddrSize → t.dramLimit = 0x400000000 + s.ddrSize * 2 ^ 30 - 2 ^ 28) ∧ t.debt 0 = 0 ∧ t.debt 1 = 0 ∧
      t.ddr.failed = false ∧ t.ddr.live = true) ∧
    (s.ddr.failed = false → ∃ t : State, exec (.trainingStepDone ps errs (.failed lane)) s = .next t ∧
      t.ddr = { s.ddr with failed := true } ∧ t.flag F.DDR_STATUS_trn_fail = s.flag F.DDR_STATUS_trn_fail) ∧
    (s.ddr.failed = true → ∃ t : State, exec (.trainingStepDone ps errs (.failed lane)) s = .next t ∧
      t.flag F.DDR_STATUS_trn_fail = true ∧ t.fld F.DDR_TRN_STATUS_lane = lane ∧
      t.fld F.DDR_TRN_STATUS_step = s.fld F.DDR_TRN_CTRL_step ∧ t.latched 11 = true ∧ t.sram.noAudio = true) := by
  obtain ⟨u, hu⟩ : ∃ u, u = s.trnNoted ps errs := ⟨_, rfl⟩
  have ho := s.trnNoted_onlyRegs ps errs
  obtain ⟨r1, r2, r3, r4, r5⟩ := s.trnNoted_results ps errs
  rw [← hu] at ho r1 r2 r3 r4 r5
  have hd : u.ddr = s.ddr := by
    obtain ⟨_, _, e⟩ := ho.frame
    rw [e]
  have on (x : TrainEnd) : exec (.trainingStepDone ps errs x) s = .next (u.trnEnds x) := by
    rw [hu]
    exact congrArg Host.Outcome.next (if_pos hb)
  have hctl : u.reg R.DDR_TRN_CTRL = s.reg R.DDR_TRN_CTRL := ho.keeps _ (by decide)
  have hcfg : u.reg R.DDR_CFG = s.reg R.DDR_CFG := ho.keeps _ (by decide)
  have hstep : u.fld F.DDR_TRN_CTRL_step = s.fld F.DDR_TRN_CTRL_step := State.fld_of_reg hctl
  refine ⟨⟨u, on .sweep, r1, r2, r3, r4, r5, ho.keeps, ho.mem, hd⟩, fun h6 hlast => ?_, fun hf => ?_, fun hf => ?_⟩
  · have hrank : u.fld F.DDR_TRN_CTRL_rank = s.fld F.DDR_TRN_CTRL_rank := State.fld_of_reg hctl
    have hranks : u.ranks = s.ranks := congrArg (1 + ·) (State.fld_of_reg (f := F.DDR_CFG_ranks) hcfg)
    have hx : u.trnEnds .passed = u.trained := if_pos (by simp [hstep, h6, hrank, hlast, hranks])
    have h := u.trained_shows
    rw [State.ddrSize_of_reg hcfg] at h
    exact ⟨_, (on _).trans (congrArg _ hx), h⟩
  · have hx : u.trnEnds (.failed lane) = u.setDdr fun d => { d with failed := true } := by
      unfold State.trnEnds
      simp only [hd, hf, Bool.false_eq_true, if_false]
    refine ⟨_, (on _).trans (congrArg _ hx), congrArg (fun d : Ddr => { d with failed := true }) hd, ?_⟩
    exact State.flag_of_reg (f := F.DDR_STATUS_trn_fail) (ho.keeps _ (by decide))
  · have h := u.trnFails_again lane (hd ▸ hf)
    rw [hstep] at h
    exact ⟨_, on _, h⟩

/-- Corrected words in a second of network time (R413, R414). -/
theorem State.dramFix_counts {s : State} (hon : s.domOn 16 = true) (n : Nat) :
    let was := if s.ddr.corrSec = s.netSec then s.ddr.corrN else 0
    let thr := s.fld F.DDR_ECC_CFG_corr_thr
    let kept : State := { s.countBy R.DDR_ECC_CORR_CNT n with ddr := { s.ddr with corrSec := s.netSec, corrN := was + n } }
    (was + n ≤ thr ∨ thr < was → exec (.dramCorrectionRate n) s = .next kept) ∧
    (was ≤ thr → thr < was + n → exec (.dramCorrectionRate n) s = .next (kept.raise 9 (word (was + n))) ∧
      (kept.raise 9 (word (was + n))).latched 9 = true) := by
  intro was thr kept
  obtain ⟨u, hu⟩ : ∃ u, u = s.countBy R.DDR_ECC_CORR_CNT n := ⟨_, rfl⟩
  have ho : State.OnlyRegs [R.DDR_ECC_CORR_CNT] s u := hu ▸ .put (by decide) s _
  obtain ⟨_, _, e⟩ := ho.frame
  have hns : u.netNs = s.netNs := State.netNs_of_same (by rw [e]) (by rw [e]) (ho.keeps _ (by decide)) (ho.keeps _ (by decide))
  have hsec : u.netSec = s.netSec := congrArg (fun x => x / 1000000000 % 2 ^ 48) hns
  have hk : kept = { u with ddr := { u.ddr with corrSec := u.netSec, corrN := was + n } } := by
    rw [hsec, hu]
    rfl
  have on : exec (.dramCorrectionRate n) s = .next (s.dramFix n) := congrArg Host.Outcome.next (if_pos hon)
  have hx : s.dramFix n = if (decide (was ≤ thr) && decide (thr < was + n)) = true then kept.raise 9 (word (was + n)) else kept := by
    rw [hk, hu]
    rfl
  rw [on, hx]
  refine ⟨fun h => congrArg _ (if_neg ?_), fun h1 h2 => ⟨congrArg _ (if_pos ?_), kept.latched_raise _ (by decide)⟩⟩
  · simp only [Bool.and_eq_true, decide_eq_true_eq]
    omega
  · simp only [Bool.and_eq_true, decide_eq_true_eq]
    exact ⟨h1, h2⟩

/-! ## The obligation -/

/-- Settles O54: each command's branch, with the frame of what it writes. -/
theorem dramIsTrainedClearedAndPutToSleep : Obligations.DramIsTrainedClearedAndPutToSleep := by
  unfold Obligations.DramIsTrainedClearedAndPutToSleep
  intro s w errs ps lane adr m n c old
  refine ⟨fun hon => ⟨fun hi => ?cfg, fun hi => ?cfgErr, ⟨_, congrArg Host.Outcome.next (if_pos hon), s.trnCtrl_starts w⟩,
    fun hc hs => ?init, fun ht => ?ticking, fun ht hs => ⟨_, congrArg Host.Outcome.next (if_pos hon), s.selfRefresh_begins ht hs⟩,
    fun hs => ⟨_, congrArg Host.Outcome.next (if_pos hon), s.leaveSelfRefresh_wakes hs⟩, State.dramBad_reads hon adr m c old,
    State.dramFix_counts hon n⟩, fun hb => State.trainingStepDone_ends hb ps errs lane, fun hc => ?done⟩
  case cfg =>
    refine congrArg Host.Outcome.next ((if_pos hon).trans (if_neg ?_))
    simp [hi]
  case cfgErr => exact congrArg Host.Outcome.next ((if_pos hon).trans (if_pos hi))
  case init =>
    refine congrArg Host.Outcome.next ((if_pos hon).trans (if_pos ?_))
    simp [hc, hs]
  case ticking => exact congrArg Host.Outcome.next ((if_pos hon).trans (if_pos ht))
  case done =>
    obtain ⟨u, hu⟩ : ∃ u, u = s.zeroDram.setDdr fun d => { d with clearing := false, tempU := s.clk.freeU } := ⟨_, rfl⟩
    have on : exec .dramInitDone s = .next (u.setFlag F.DDR_STATUS_init_done true) := by
      rw [hu]
      exact congrArg Host.Outcome.next (if_pos hc)
    have ho : State.OnlyRegs [R.DDR_STATUS] u (u.setFlag F.DDR_STATUS_init_done true) := .setFlag (by decide) _ _
    have hby (a : Nat) : (u.setFlag F.DDR_STATUS_init_done true).byte a = s.zeroDram.byte a := by rw [hu]; rfl
    refine ⟨_, on, State.flag_setFlag_self _ _ _ (by decide) rfl, ?_, fun a h1 h2 => ?_, fun a h1 => ?_, fun o hm => ?_, ?_⟩
    · rw [hu]
      rfl
    · rw [hby, State.byte_zeroDram, if_pos ⟨h1, h2⟩]
    · rw [hby, State.byte_zeroDram, if_neg (by omega)]
    · rw [ho.keeps o hm, hu]
      rfl
    · rw [ho.outbox, hu]
      rfl

end Sys2Proof.Machine
end

section
/-!
SUPPORT. Refreshes, forced batches and the conversion of debts by a change of hot (R420 to R426).
-/

namespace Sys2Proof.Machine

/-! ## Frames -/

/-- From `s` to `t` the refresh of the ranks has moved on: registers listed, the timers and batches, what was sent, and the note of
a change of hot; the channel stays in use. -/
structure State.Refreshed (l : List Nat) (s t : State) : Prop where
  frame : ∃ r z n t0 t1 e0 e1 o, t = { s with
    regs := r, sets := z, now := n, ddr := { s.ddr with t0 := t0, t1 := t1, end0 := e0, end1 := e1 }, outbox := o }
  keeps : s.KeepsRegs t l

namespace State.Refreshed

variable {l m : List Nat} {s t u : State}

theorem refl (s : State) : State.Refreshed l s s := ⟨⟨_, _, _, _, _, _, _, _, rfl⟩, fun _ _ => rfl⟩

theorem trans (h : State.Refreshed l s t) (k : State.Refreshed l t u) : State.Refreshed l s u := by
  refine ⟨?_, fun o ho => (k.keeps o ho).trans (h.keeps o ho)⟩
  obtain ⟨_, _, _, _, _, _, _, _, rfl⟩ := h.frame
  obtain ⟨_, _, _, _, _, _, _, _, rfl⟩ := k.frame
  exact ⟨_, _, _, _, _, _, _, _, rfl⟩

theorem mono (h : State.Refreshed l s t) (hm : l ⊆ m) : State.Refreshed m s t := ⟨h.frame, fun o ho => h.keeps o fun hl => ho (hm hl)⟩

theorem ite {c : Prop} [Decidable c] (h : c → State.Refreshed l s t) (k : ¬c → State.Refreshed l s u) :
    State.Refreshed l s (if c then t else u) := by
  split_ifs with hc
  · exact h hc
  · exact k hc

theorem of_onlyRegs (h : State.OnlyRegs l s t) : State.Refreshed l s t := by
  obtain ⟨_, _, e⟩ := h.frame
  exact ⟨⟨_, _, _, _, _, _, _, _, e⟩, h.keeps⟩

theorem refs (s : State) (r n : Nat) : State.Refreshed l s (s.refs r n) := by
  rw [State.refs_eq]
  exact ⟨⟨_, _, _, _, _, _, _, _, rfl⟩, fun _ _ => rfl⟩

theorem emit (s : State) (x : Out) : State.Refreshed l s (s.emit x) := ⟨⟨_, _, _, _, _, _, _, _, rfl⟩, fun _ _ => rfl⟩

theorem setRefT (s : State) (r u : Nat) : State.Refreshed l s (s.setRefT r u) := by
  unfold State.setRefT State.setDdr
  split <;> exact ⟨⟨_, _, _, _, _, _, _, _, rfl⟩, fun _ _ => rfl⟩

theorem setBatchEnd (s : State) (r u : Nat) : State.Refreshed l s (s.setBatchEnd r u) := by
  unfold State.setBatchEnd State.setDdr
  split <;> exact ⟨⟨_, _, _, _, _, _, _, _, rfl⟩, fun _ _ => rfl⟩

section
variable (h : State.Refreshed l s t)
include h

theorem mem : t.mem = s.mem := by obtain ⟨_, _, _, _, _, _, _, _, rfl⟩ := h.frame; rfl
theorem clk : t.clk = s.clk := by obtain ⟨_, _, _, _, _, _, _, _, rfl⟩ := h.frame; rfl
theorem flt : t.flt = s.flt := by obtain ⟨_, _, _, _, _, _, _, _, rfl⟩ := h.frame; rfl
theorem live : t.ddr.live = s.ddr.live := by obtain ⟨_, _, _, _, _, _, _, _, rfl⟩ := h.frame; rfl
theorem tempU : t.ddr.tempU = s.ddr.tempU := by obtain ⟨_, _, _, _, _, _, _, _, rfl⟩ := h.frame; rfl

end

end State.Refreshed

/-- A rank is refreshed by the registers of the domains, of the configuration and of self-refresh. -/
theorem State.refreshes_congr {s t : State} {k : Nat} (hd : t.reg R.PWR_DOM_ON = s.reg R.PWR_DOM_ON)
    (hc : t.reg R.DDR_CFG = s.reg R.DDR_CFG)
    (hl : t.ddr.live = s.ddr.live) (hs : t.flag F.DDR_STATUS_sr = s.flag F.DDR_STATUS_sr) : t.refreshes k = s.refreshes k := by
  have h1 : t.domOn 16 = s.domOn 16 := State.domOn_of_reg hd 16
  have h2 : t.ranks = s.ranks := congrArg (1 + ·) (State.fld_of_reg (f := F.DDR_CFG_ranks) hc)
  simp only [State.refreshes, h1, h2, hl, hs]

/-! ## Timers and batches -/

section
variable (s : State) {r k : Nat}

theorem State.batchEnd_setBatchEnd_self (u : Nat) : (s.setBatchEnd r u).batchEnd r = u := by
  unfold State.batchEnd State.setBatchEnd State.setDdr
  by_cases h : r = 0 <;> simp [h]

theorem State.refT_setBatchEnd (u : Nat) : (s.setBatchEnd r u).refT k = s.refT k := by
  unfold State.refT State.setBatchEnd State.setDdr
  by_cases h : r = 0 <;> simp [h]

theorem State.batchEnd_setRefT (u : Nat) : (s.setRefT r u).batchEnd k = s.batchEnd k := by
  unfold State.batchEnd State.setRefT State.setDdr
  by_cases h : r = 0 <;> simp [h]

theorem State.refT_of_ddr {t : State} (h : t.ddr = s.ddr) : t.refT k = s.refT k := by rw [State.refT, h, State.refT]

theorem State.batchEnd_of_ddr {t : State} (h : t.ddr = s.ddr) : t.batchEnd k = s.batchEnd k := by
  rw [State.batchEnd, h, State.batchEnd]

/-! ## A forced batch (R422) -/

/-- The rank is precharged and refreshed until its debt is 0, which is counted. -/
theorem State.forceRefs_pays (hr : r < 2) : (s.forceRefs r).debt r = 0 ∧ (∀ k, k < 2 → k ≠ r → (s.forceRefs r).debt k = s.debt k) ∧
    (s.forceRefs r).outbox = s.outbox ++ .dram "PRE" r :: List.replicate (s.debt r) (.dram "REF" r) ∧
    (s.forceRefs r).reg R.DDR_REF_FORCED_CNT = counted (s.reg R.DDR_REF_FORCED_CNT) ∧
    (s.forceRefs r).batchEnd r = s.clk.freeU + s.debt r * s.trfc ∧ (∀ k, (s.forceRefs r).refT k = s.refT k) ∧
    State.Refreshed [R.DDR_REF_STATUS, R.DDR_REF_FORCED_CNT] s (s.forceRefs r) := by
  obtain ⟨u, hu⟩ : ∃ u, u = s.setBatchEnd r (s.clk.freeU + s.debt r * s.trfc) := ⟨_, rfl⟩
  obtain ⟨v, hv⟩ : ∃ v : State, v = { u.emit (.dram "PRE" r) with
    outbox := (u.emit (.dram "PRE" r)).outbox ++ List.replicate (s.debt r) (.dram "REF" r) } := ⟨_, rfl⟩
  have hx : s.forceRefs r = (v.setFld (debtF r) 0).count R.DDR_REF_FORCED_CNT := by
    rw [hv, ← State.refs_eq, hu]
    rfl
  have hul : State.Refreshed [R.DDR_REF_STATUS, R.DDR_REF_FORCED_CNT] s u := hu ▸ .setBatchEnd _ _ _
  have hvl : State.Refreshed [R.DDR_REF_STATUS, R.DDR_REF_FORCED_CNT] u v := by
    rw [hv, ← State.refs_eq]
    exact (State.Refreshed.emit _ _).trans (.refs _ _ _)
  have hvr (o : Nat) : v.reg o = s.reg o := by
    rw [hv, hu]
    unfold State.setBatchEnd State.setDdr
    split <;> rfl
  have hd : State.OnlyRegs [R.DDR_REF_STATUS] v (v.setFld (debtF r) 0) := v.setDebt_onlyRegs 0
  have hc : State.OnlyRegs [R.DDR_REF_FORCED_CNT] (v.setFld (debtF r) 0) ((v.setFld (debtF r) 0).count R.DDR_REF_FORCED_CNT) :=
    .count (by decide) _
  have hdebt (k : Nat) : ((v.setFld (debtF r) 0).count R.DDR_REF_FORCED_CNT).debt k = (v.setFld (debtF r) 0).debt k :=
    State.debt_of_reg _ (hc.keeps _ (by decide))
  have hvo : v.outbox = s.outbox ++ .dram "PRE" r :: List.replicate (s.debt r) (.dram "REF" r) := by
    have huo : u.outbox = s.outbox := by
      rw [hu]
      unfold State.setBatchEnd State.setDdr
      split <;> rfl
    rw [hv, ← huo]
    simp [State.emit]
  have hvd : v.ddr = u.ddr := by rw [hv]; rfl
  rw [hx]
  refine ⟨(hdebt r).trans (State.debt_setDebt_self _ _), fun k hk hne => ?_, hvo, ?_, ?_, fun k => ?_, ?_⟩
  · rw [hdebt, State.debt_setDebt_of_ne _ hr hk (Ne.symm hne)]
    exact State.debt_of_reg s (hvr _)
  · rw [State.reg_count_self, hd.keeps _ (by decide), hvr]
  · have h : ((v.setFld (debtF r) 0).count R.DDR_REF_FORCED_CNT).batchEnd r = u.batchEnd r := State.batchEnd_of_ddr u hvd
    rw [h, hu, State.batchEnd_setBatchEnd_self]
  · have h : ((v.setFld (debtF r) 0).count R.DDR_REF_FORCED_CNT).refT k = u.refT k := State.refT_of_ddr u hvd
    rw [h, hu, State.refT_setBatchEnd]
  · exact (hul.trans hvl).trans (.of_onlyRegs ((hd.mono (by decide)).trans (hc.mono (by decide))))

/-! ## The conversion (R424) -/

/-- The debt that a change of hot makes of a debt, the present interval having run for `e` units; 8 or more are paid at once. -/
def convertedDebt (hot : Bool) (e d : Nat) : Nat :=
  let v := if hot then (if 23400 ≤ e then min 31 (2 * d + 1) else min 31 (2 * d)) else (d + 1) / 2
  if 8 ≤ v then 0 else v

/-- The registers of debts and forced batches. -/
def heatRegs : List Nat := [R.DDR_REF_STATUS, R.DDR_REF_FORCED_CNT, R.DDR_REF_HOT_CNT]

/-- A rank's debt and timer as the change of hot leaves them, before a batch. -/
def State.rescaled (s : State) (r : Nat) (hot : Bool) : State :=
  if hot then
    if 23400 ≤ s.clk.freeU - s.refT r then (s.setFld (debtF r) (min 31 (2 * s.debt r + 1))).setRefT r (s.refT r + 23400)
    else s.setFld (debtF r) (min 31 (2 * s.debt r))
  else s.setFld (debtF r) ((s.debt r + 1) / 2)

theorem State.convertRank_eq (hot : Bool) : s.convertRank r hot =
    if s.refreshes r then
      (if 8 ≤ (s.rescaled r hot).debt r then ((s.rescaled r hot).forceRefs r).count R.DDR_REF_HOT_CNT else s.rescaled r hot)
    else s := by
  unfold State.convertRank State.rescaled
  cases s.refreshes r <;> rfl

theorem State.rescaled_rescales (hr : r < 2) (hot : Bool) :
    (s.rescaled r hot).debt r =
      (if hot then (if 23400 ≤ s.clk.freeU - s.refT r then min 31 (2 * s.debt r + 1) else min 31 (2 * s.debt r))
        else (s.debt r + 1) / 2) ∧
    (s.rescaled r hot).refT r = (if hot = true ∧ 23400 ≤ s.clk.freeU - s.refT r then s.refT r + 23400 else s.refT r) ∧
    (∀ k, k < 2 → k ≠ r → (s.rescaled r hot).debt k = s.debt k ∧ (s.rescaled r hot).refT k = s.refT k) ∧
    (s.rescaled r hot).outbox = s.outbox ∧ State.Refreshed [R.DDR_REF_STATUS] s (s.rescaled r hot) := by
  have plain (v : Nat) (hv : v < 32) : (s.setFld (debtF r) v).debt r = v ∧ (s.setFld (debtF r) v).refT r = s.refT r ∧
      (∀ k, k < 2 → k ≠ r → (s.setFld (debtF r) v).debt k = s.debt k ∧ (s.setFld (debtF r) v).refT k = s.refT k) ∧
      (s.setFld (debtF r) v).outbox = s.outbox ∧ State.Refreshed [R.DDR_REF_STATUS] s (s.setFld (debtF r) v) :=
    ⟨(s.debt_setDebt_self v).trans (Nat.mod_eq_of_lt hv), rfl, fun k hk hne => ⟨s.debt_setDebt_of_ne hr hk (Ne.symm hne) v, rfl⟩, rfl,
      .of_onlyRegs (s.setDebt_onlyRegs v)⟩
  have hlt := s.debt_lt (r := r)
  unfold State.rescaled
  cases hot with
  | false =>
    simp only [Bool.false_eq_true, if_false, false_and]
    exact plain _ (by omega)
  | true =>
    simp only [if_true, true_and]
    split
    next he =>
      obtain ⟨hd, -, ho, hx, hf⟩ := plain (min 31 (2 * s.debt r + 1)) (by omega)
      have hreg (u : State) (x k : Nat) : (u.setRefT r x).debt k = u.debt k := by
        unfold State.setRefT State.setDdr
        split <;> rfl
      refine ⟨(hreg _ _ _).trans hd, State.refT_setRefT_self _ _, fun k hk hne => ⟨(hreg _ _ _).trans (ho k hk hne).1, ?_⟩, ?_,
        hf.trans (.setRefT _ _ _)⟩
      · exact (State.refT_setRefT_of_ne _ hr hk (Ne.symm hne) _).trans (ho k hk hne).2
      · unfold State.setRefT State.setDdr
        split <;> exact hx
    next he => exact plain _ (by omega)

/-- A change of hot converts the rank's debt, and its timer where an interval of 3.9 us has gone by. -/
theorem State.convertRank_converts (hr : r < 2) (hot : Bool) :
    (∀ k, k < 2 → (s.convertRank r hot).debt k =
      if k = r ∧ s.refreshes k = true then convertedDebt hot (s.clk.freeU - s.refT k) (s.debt k) else s.debt k) ∧
    (∀ k, k < 2 → (s.convertRank r hot).refT k =
      if k = r ∧ s.refreshes k = true ∧ hot = true ∧ 23400 ≤ s.clk.freeU - s.refT k then s.refT k + 23400 else s.refT k) ∧
    State.Refreshed heatRegs s (s.convertRank r hot) := by
  rw [State.convertRank_eq]
  cases hf : s.refreshes r with
  | false =>
    refine ⟨fun k _ => (if_neg ?_).symm, fun k _ => (if_neg ?_).symm, .refl s⟩
    · rintro ⟨rfl, h⟩
      exact absurd (hf.symm.trans h) (by decide)
    · rintro ⟨rfl, h, -⟩
      exact absurd (hf.symm.trans h) (by decide)
  | true =>
    obtain ⟨hd, hT, ho, -, hfr⟩ := s.rescaled_rescales hr hot
    obtain ⟨u, hu⟩ : ∃ u, u = s.rescaled r hot := ⟨_, rfl⟩
    rw [← hu] at hd hT ho hfr ⊢
    obtain ⟨p0, po, -, -, -, pT, pf⟩ := u.forceRefs_pays hr
    obtain ⟨v, hv⟩ : ∃ v, v = (u.forceRefs r).count R.DDR_REF_HOT_CNT := ⟨_, rfl⟩
    have hvo : State.OnlyRegs [R.DDR_REF_HOT_CNT] (u.forceRefs r) v := hv ▸ .count (by decide) _
    have hvd (k : Nat) : v.debt k = (u.forceRefs r).debt k := State.debt_of_reg _ (hvo.keeps _ (by decide))
    have hvT (k : Nat) : v.refT k = u.refT k := by
      have h : v.refT k = (u.forceRefs r).refT k := hv ▸ rfl
      rw [h, pT]
    rw [if_pos rfl, ← hv]
    have hdebt : (if 8 ≤ u.debt r then v else u).debt r = convertedDebt hot (s.clk.freeU - s.refT r) (s.debt r) := by
      unfold convertedDebt
      dsimp only
      rw [← hd]
      split
      · rw [hvd, p0]
      · rfl
    have hrefT (k : Nat) : (if 8 ≤ u.debt r then v else u).refT k = u.refT k := by
      split
      · exact hvT k
      · rfl
    have hother (k : Nat) (hk : k < 2) (hne : k ≠ r) : (if 8 ≤ u.debt r then v else u).debt k = s.debt k := by
      split
      · rw [hvd, po k hk hne, (ho k hk hne).1]
      · exact (ho k hk hne).1
    refine ⟨fun k hk => ?_, fun k hk => ?_, ?_⟩
    · by_cases hkr : k = r
      · subst hkr
        exact hdebt.trans (if_pos ⟨rfl, hf⟩).symm
      · exact (hother k hk hkr).trans (if_neg fun h => hkr h.1).symm
    · rw [hrefT]
      by_cases hkr : k = r
      · subst hkr
        simp only [hT, hf, true_and]
      · rw [if_neg (fun h => hkr h.1)]
        exact (ho k hk hkr).2
    · exact .ite (fun _ => ((hfr.mono (by decide)).trans (pf.mono (by decide))).trans (.of_onlyRegs (hvo.mono (by decide))))
        fun _ => hfr.mono (by decide)

/-- The ranks are converted one by one, each by its own debt and timer. -/
theorem State.convertRanks (hot : Bool) :
    let t := (List.range s.ranks).foldl (fun s r => s.convertRank r hot) s
    (∀ k, k < 2 → t.debt k =
      if s.refreshes k = true then convertedDebt hot (s.clk.freeU - s.refT k) (s.debt k) else s.debt k) ∧
    (∀ k, k < 2 → t.refT k =
      if s.refreshes k = true ∧ hot = true ∧ 23400 ≤ s.clk.freeU - s.refT k then s.refT k + 23400 else s.refT k) ∧
    State.Refreshed heatRegs s t := by
  intro t
  have hsame {a b : State} (h : State.Refreshed heatRegs a b) (k : Nat) : b.refreshes k = a.refreshes k :=
    State.refreshes_congr (h.keeps _ (by decide)) (h.keeps _ (by decide)) h.live
      (State.flag_of_reg (f := F.DDR_STATUS_sr) (h.keeps _ (by decide)))
  obtain ⟨d0, t0, f0⟩ := s.convertRank_converts (r := 0) (by decide) hot
  have hoff {k : Nat} (hk : ¬ k < s.ranks) : s.refreshes k = false := by
    simp [State.refreshes, hk]
  rcases s.ranks_eq with hn | hn
  · have ht : t = s.convertRank 0 hot := by
      unfold t
      rw [hn]
      rfl
    rw [ht]
    refine ⟨fun k hk => ?_, fun k hk => ?_, f0⟩
    · rw [d0 k hk]
      rcases (by omega : k = 0 ∨ k = 1) with rfl | rfl
      · simp
      · simp [hoff (k := 1) (by omega)]
    · rw [t0 k hk]
      rcases (by omega : k = 0 ∨ k = 1) with rfl | rfl
      · simp
      · simp [hoff (k := 1) (by omega)]
  · have ht : t = (s.convertRank 0 hot).convertRank 1 hot := by
      unfold t
      rw [hn]
      rfl
    obtain ⟨u, hu⟩ : ∃ u, u = s.convertRank 0 hot := ⟨_, rfl⟩
    rw [← hu] at d0 t0 f0 ht
    obtain ⟨d1, t1, f1⟩ := u.convertRank_converts (r := 1) (by decide) hot
    rw [ht]
    refine ⟨fun k hk => ?_, fun k hk => ?_, f0.trans f1⟩
    · rw [d1 k hk, hsame f0, f0.clk, d0 k hk, t0 k hk]
      rcases (by omega : k = 0 ∨ k = 1) with rfl | rfl <;> simp
    · rw [t1 k hk, hsame f0, f0.clk, t0 k hk]
      rcases (by omega : k = 0 ∨ k = 1) with rfl | rfl <;> simp

/-- A change of hot (R423, R424). -/
theorem State.setHot_converts {hot : Bool} (h : s.flag F.DDR_STATUS_hot ≠ hot) :
    (∀ k, k < 2 → (s.setHot hot).debt k =
      if s.refreshes k = true then convertedDebt hot (s.clk.freeU - s.refT k) (s.debt k) else s.debt k) ∧
    (∀ k, k < 2 → (s.setHot hot).refT k =
      if s.refreshes k = true ∧ hot = true ∧ 23400 ≤ s.clk.freeU - s.refT k then s.refT k + 23400 else s.refT k) ∧
    (s.setHot hot).flag F.DDR_STATUS_hot = hot ∧
    State.Refreshed (R.DDR_STATUS :: heatRegs) s (s.setHot hot) := by
  obtain ⟨u, hu⟩ : ∃ u, u = s.setFlag F.DDR_STATUS_hot hot := ⟨_, rfl⟩
  have ho : State.OnlyRegs [R.DDR_STATUS] s u := hu ▸ .setFlag (by decide) _ _
  obtain ⟨hd, hT, hf⟩ := u.convertRanks hot
  have hr : s.ranks = u.ranks := (congrArg (1 + ·) (State.fld_of_reg (f := F.DDR_CFG_ranks) (ho.keeps _ (by decide)))).symm
  obtain ⟨v, hv⟩ : ∃ v, v = (List.range u.ranks).foldl (fun s r => s.convertRank r hot) u := ⟨_, rfl⟩
  rw [← hv] at hd hT hf
  obtain ⟨n, hx⟩ : ∃ n, s.setHot hot = { v with now := n } := by
    unfold State.setHot
    rw [if_neg h, hv, ← hr, hu]
    exact ⟨_, rfl⟩
  have hddr : u.ddr = s.ddr := by rw [hu]; rfl
  have hclk : u.clk = s.clk := by rw [hu]; rfl
  have hfresh (k : Nat) : u.refreshes k = s.refreshes k := by
    refine State.refreshes_congr (ho.keeps _ (by decide)) (ho.keeps _ (by decide)) (by rw [hddr]) ?_
    rw [hu]
    exact State.flag_setFlag_of_apart _ _ _ _ (by decide) (by decide)
  have hdebt (k : Nat) : u.debt k = s.debt k := State.debt_of_reg _ (ho.keeps _ (by decide))
  have hrefT (k : Nat) : u.refT k = s.refT k := State.refT_of_ddr _ hddr
  rw [hx]
  refine ⟨fun k hk => ?_, fun k hk => ?_, ?_, ?_⟩
  · exact (hd k hk).trans (by rw [hfresh, hclk, hdebt, hrefT])
  · exact (hT k hk).trans (by rw [hfresh, hclk, hrefT])
  · have hfl : v.flag F.DDR_STATUS_hot = u.flag F.DDR_STATUS_hot := State.flag_of_reg (f := F.DDR_STATUS_hot) (hf.keeps _ (by decide))
    refine Eq.trans hfl ?_
    rw [hu]
    exact State.flag_setFlag_self _ _ _ (by decide) rfl
  · have h1 : State.Refreshed (R.DDR_STATUS :: heatRegs) s v :=
      ((State.Refreshed.of_onlyRegs ho).mono (by decide)).trans (hf.mono (by decide))
    exact h1.trans ⟨⟨_, _, _, _, _, _, _, _, rfl⟩, fun _ _ => rfl⟩

end

end Sys2Proof.Machine
end

section
/-!
PROOFS. Refresh intervals and their debts, REF commands, and the temperature of the DRAM (R420 to R426).
-/

namespace Sys2Proof.Machine

/-! ## An interval that has passed (R420 to R422) -/

/-- An interval adds 1 to the debt; under panic, below 8, it counts as postponed. -/
def State.accrue (s : State) (r : Nat) : State :=
  let d := s.debt r + 1
  let t := s.setFld (debtF r) d
  if t.flag F.DDR_STATUS_panic && d < 8 then t.count R.DDR_REF_POSTPONE_CNT else t

section
variable (s : State) {r : Nat}

theorem State.accrue_accrues (hr : r < 2) (h : s.debt r ≤ 8) : (s.accrue r).debt r = s.debt r + 1 ∧
    (∀ k, k < 2 → k ≠ r → (s.accrue r).debt k = s.debt k) ∧
    (s.accrue r).reg R.DDR_REF_POSTPONE_CNT = (if s.flag F.DDR_STATUS_panic && decide (s.debt r < 7)
      then counted (s.reg R.DDR_REF_POSTPONE_CNT) else s.reg R.DDR_REF_POSTPONE_CNT) ∧
    State.OnlyRegs [R.DDR_REF_STATUS, R.DDR_REF_POSTPONE_CNT] s (s.accrue r) := by
  obtain ⟨u, hu⟩ : ∃ u, u = s.setFld (debtF r) (s.debt r + 1) := ⟨_, rfl⟩
  have ho : State.OnlyRegs [R.DDR_REF_STATUS] s u := hu ▸ s.setDebt_onlyRegs _
  have hd : u.debt r = s.debt r + 1 := by
    rw [hu, State.debt_setDebt_self]
    exact Nat.mod_eq_of_lt (by omega)
  have hne (k : Nat) (hk : k < 2) (h : k ≠ r) : u.debt k = s.debt k := hu ▸ s.debt_setDebt_of_ne hr hk (Ne.symm h) _
  have hp : u.flag F.DDR_STATUS_panic = s.flag F.DDR_STATUS_panic :=
    State.flag_of_reg (f := F.DDR_STATUS_panic) (ho.keeps _ (by decide))
  have hc : State.OnlyRegs [R.DDR_REF_POSTPONE_CNT] u (u.count R.DDR_REF_POSTPONE_CNT) := .count (by decide) _
  have hcd (k : Nat) : (u.count R.DDR_REF_POSTPONE_CNT).debt k = u.debt k := State.debt_of_reg _ (hc.keeps _ (by decide))
  have hlt : (decide (s.debt r + 1 < 8)) = decide (s.debt r < 7) := by congr 1; exact propext (by omega)
  have hx : s.accrue r = if s.flag F.DDR_STATUS_panic && decide (s.debt r < 7) then u.count R.DDR_REF_POSTPONE_CNT else u := by
    rw [← hp, ← hlt, hu]
    rfl
  rw [hx]
  split
  · exact ⟨(hcd r).trans hd, fun k hk h => (hcd k).trans (hne k hk h), (State.reg_count_self _ _).trans
      (congrArg counted (ho.keeps _ (by decide))), (ho.mono (by decide)).trans (hc.mono (by decide))⟩
  · exact ⟨hd, hne, ho.keeps _ (by decide), ho.mono (by decide)⟩

theorem State.regs_setRefT (u o : Nat) : (s.setRefT r u).reg o = s.reg o := by
  unfold State.setRefT State.setDdr
  split <;> rfl

theorem State.refExpire_eq : s.refExpire r =
    if s.refT r + s.trefi < s.batchEnd r then
      ((s.setRefT r (s.refT r + s.trefi)).refs r 1).setBatchEnd r (s.batchEnd r + s.trfc)
    else (if 8 ≤ s.debt r then (s.setRefT r (s.refT r + s.trefi)).forceRefs r else s.setRefT r (s.refT r + s.trefi)).accrue r := by
  have hb : (s.setRefT r (s.refT r + s.trefi)).batchEnd r = s.batchEnd r := s.batchEnd_setRefT _
  have hd : (s.setRefT r (s.refT r + s.trefi)).debt r = s.debt r := State.debt_of_reg _ (s.regs_setRefT _ _)
  have ht : (s.setRefT r (s.refT r + s.trefi)).trfc = s.trfc := by
    have h : (s.setRefT r (s.refT r + s.trefi)).flag F.DDR_CFG_dens = s.flag F.DDR_CFG_dens :=
      State.flag_of_reg (f := F.DDR_CFG_dens) (s.regs_setRefT _ _)
    rw [State.trfc, h, State.trfc]
  have hx : s.refExpire r =
      if s.refT r + s.trefi < (s.setRefT r (s.refT r + s.trefi)).batchEnd r then
        ((s.setRefT r (s.refT r + s.trefi)).refs r 1).setBatchEnd r
          ((s.setRefT r (s.refT r + s.trefi)).batchEnd r + (s.setRefT r (s.refT r + s.trefi)).trfc)
      else (if 8 ≤ (s.setRefT r (s.refT r + s.trefi)).debt r then (s.setRefT r (s.refT r + s.trefi)).forceRefs r
        else s.setRefT r (s.refT r + s.trefi)).accrue r := rfl
  rw [hx, hb, hd, ht]

/-- An interval that expires in a batch joins it (R422). -/
theorem State.refExpire_joins (h : s.refT r + s.trefi < s.batchEnd r) : (s.refExpire r).debt r = s.debt r ∧
    (s.refExpire r).refT r = s.refT r + s.trefi ∧ (s.refExpire r).batchEnd r = s.batchEnd r + s.trfc ∧
    (s.refExpire r).outbox = s.outbox ++ [.dram "REF" r] ∧ s.KeepsRegs (s.refExpire r) [] ∧ (s.refExpire r).mem = s.mem := by
  rw [State.refExpire_eq, if_pos h]
  obtain ⟨u, hu⟩ : ∃ u, u = s.setRefT r (s.refT r + s.trefi) := ⟨_, rfl⟩
  obtain ⟨v, hv⟩ : ∃ v : State, v = { u with outbox := u.outbox ++ List.replicate 1 (.dram "REF" r) } := ⟨_, rfl⟩
  rw [← hu, State.refs_eq, ← hv]
  have hf : State.Refreshed [] s (v.setBatchEnd r (s.batchEnd r + s.trfc)) := by
    have h1 : State.Refreshed [] s u := hu ▸ .setRefT _ _ _
    have h2 : State.Refreshed [] u v := by
      rw [hv, ← State.refs_eq]
      exact .refs _ _ _
    exact (h1.trans h2).trans (.setBatchEnd _ _ _)
  refine ⟨State.debt_of_reg _ (hf.keeps _ (by decide)), ?_, State.batchEnd_setBatchEnd_self _ _, ?_, hf.keeps, hf.mem⟩
  · rw [State.refT_setBatchEnd, hv]
    exact hu ▸ s.refT_setRefT_self _
  · have ho (t : State) (x : Nat) : (t.setBatchEnd r x).outbox = t.outbox := by
      unfold State.setBatchEnd State.setDdr
      split <;> rfl
    have huo : u.outbox = s.outbox := by
      rw [hu]
      unfold State.setRefT State.setDdr
      split <;> rfl
    rw [ho, hv, ← huo]
    rfl

/-- An interval below 8 owed refreshes adds one (R420, R421). -/
theorem State.refExpire_adds (hr : r < 2) (h : s.batchEnd r ≤ s.refT r + s.trefi) (hd : s.debt r < 8) :
    (s.refExpire r).debt r = s.debt r + 1 ∧
    (∀ k, k < 2 → k ≠ r → (s.refExpire r).debt k = s.debt k ∧ (s.refExpire r).refT k = s.refT k) ∧
    (s.refExpire r).refT r = s.refT r + s.trefi ∧
    (s.refExpire r).reg R.DDR_REF_POSTPONE_CNT = (if s.flag F.DDR_STATUS_panic && decide (s.debt r < 7)
      then counted (s.reg R.DDR_REF_POSTPONE_CNT) else s.reg R.DDR_REF_POSTPONE_CNT) ∧
    s.KeepsRegs (s.refExpire r) [R.DDR_REF_STATUS, R.DDR_REF_POSTPONE_CNT] ∧ (s.refExpire r).mem = s.mem ∧
    (s.refExpire r).outbox = s.outbox := by
  rw [State.refExpire_eq, if_neg (by omega), if_neg (by omega)]
  obtain ⟨u, hu⟩ : ∃ u, u = s.setRefT r (s.refT r + s.trefi) := ⟨_, rfl⟩
  have hreg (o : Nat) : u.reg o = s.reg o := hu ▸ s.regs_setRefT _ _
  have hdebt (k : Nat) : u.debt k = s.debt k := State.debt_of_reg _ (hreg _)
  have hp : u.flag F.DDR_STATUS_panic = s.flag F.DDR_STATUS_panic := State.flag_of_reg (hreg _)
  have hum : u.mem = s.mem ∧ u.outbox = s.outbox := by
    rw [hu]
    unfold State.setRefT State.setDdr
    split <;> exact ⟨rfl, rfl⟩
  rw [← hu]
  obtain ⟨ad, ao, ac, af⟩ := u.accrue_accrues hr (by rw [hdebt]; omega)
  obtain ⟨_, _, e⟩ := af.frame
  have hT (k : Nat) : (u.accrue r).refT k = u.refT k := State.refT_of_ddr _ (by rw [e])
  refine ⟨by rw [ad, hdebt], fun k hk hne => ⟨by rw [ao k hk hne, hdebt], ?_⟩, ?_, ?_, fun o ho => (af.keeps o ho).trans (hreg o),
    af.mem.trans hum.1, af.outbox.trans hum.2⟩
  · rw [hT, hu, State.refT_setRefT_of_ne _ hr hk (Ne.symm hne)]
  · rw [hT, hu, State.refT_setRefT_self]
  · rw [ac, hp, hdebt, hreg]

/-- At 8 or more owed refreshes the batch goes first (R422). -/
theorem State.refExpire_forces (hr : r < 2) (h : s.batchEnd r ≤ s.refT r + s.trefi) (hd : 8 ≤ s.debt r) :
    (s.refExpire r).debt r = 1 ∧
    (s.refExpire r).outbox = s.outbox ++ .dram "PRE" r :: List.replicate (s.debt r) (.dram "REF" r) ∧
    (s.refExpire r).reg R.DDR_REF_FORCED_CNT = counted (s.reg R.DDR_REF_FORCED_CNT) ∧
    s.KeepsRegs (s.refExpire r) [R.DDR_REF_STATUS, R.DDR_REF_POSTPONE_CNT, R.DDR_REF_FORCED_CNT] ∧ (s.refExpire r).mem = s.mem := by
  rw [State.refExpire_eq, if_neg (by omega), if_pos hd]
  obtain ⟨u, hu⟩ : ∃ u, u = s.setRefT r (s.refT r + s.trefi) := ⟨_, rfl⟩
  have hreg (o : Nat) : u.reg o = s.reg o := hu ▸ s.regs_setRefT _ _
  have hum : u.mem = s.mem ∧ u.outbox = s.outbox := by
    rw [hu]
    unfold State.setRefT State.setDdr
    split <;> exact ⟨rfl, rfl⟩
  rw [← hu]
  obtain ⟨p0, -, pout, pcnt, -, -, pf⟩ := u.forceRefs_pays hr
  obtain ⟨ad, -, -, af⟩ := (u.forceRefs r).accrue_accrues hr (by omega)
  have hdebt : u.debt r = s.debt r := State.debt_of_reg _ (hreg _)
  refine ⟨by rw [ad, p0], ?_, ?_, fun o ho => ?_, (af.mem.trans pf.mem).trans hum.1⟩
  · rw [af.outbox, pout, hdebt, hum.2]
  · rw [af.keeps _ (by decide), pcnt, hreg]
  · simp only [List.mem_cons, List.not_mem_nil, or_false, not_or] at ho
    rw [af.keeps o (by simp [ho]), pf.keeps o (by simp [ho]), hreg]

end

/-! ## A REF (R421) -/

/-- A flag set to what it is leaves every register. -/
theorem State.reg_setFlag_flag (s : State) {f : Fld} (h1 : f.hi = f.lo) (o : Nat) : (s.setFlag f (s.flag f)).reg o = s.reg o := by
  rw [State.reg_setFlag, State.reg_setFld]
  split
  next h =>
    subst h
    refine BitVec.eq_of_getLsbD_eq fun i hi => ?_
    have hf : s.flag f = (s.reg f.reg).getLsbD f.lo := by
      rw [State.flag, State.fld, h1]
      exact decide_bitsOf_bit _ _
    rw [getLsbD_setBits _ _ _ _ _ hi, hf]
    split
    next hr =>
      have e : i = f.lo := by omega
      subst e
      rw [Nat.sub_self]
      cases (s.reg f.reg).getLsbD f.lo <;> rfl
    next hr => rfl
  next h => rfl

/-- REF_ISSUE with the panic as it stands. -/
def State.refStep (s : State) (r : Nat) : State :=
  if s.refreshes r && 1 ≤ s.debt r then (s.setFlag F.DDR_STATUS_panic (s.flag F.DDR_STATUS_panic)).refIssue r else s

/-- A REF is issued: a debt stands, and there is no panic below 8. -/
def State.issues (s : State) (r : Nat) : Prop :=
  s.refreshes r = true ∧ 1 ≤ s.debt r ∧ (s.flag F.DDR_STATUS_panic = false ∨ 8 ≤ s.debt r)

section
variable (s : State) {r : Nat}

/-- The panic noted as it stands. -/
theorem State.refStep_frame : ∃ u : State, (∀ o, u.reg o = s.reg o) ∧
    (∃ g z, u = { s with regs := g, sets := z }) ∧
    (s.issues r → s.refStep r = (u.setFld (debtF r) (s.debt r - 1)).emit (.dram "REF" r)) ∧
    (¬ s.issues r → s.refStep r = u ∨ s.refStep r = s) := by
  obtain ⟨u, hu⟩ : ∃ u, u = s.setFlag F.DDR_STATUS_panic (s.flag F.DDR_STATUS_panic) := ⟨_, rfl⟩
  have hreg (o : Nat) : u.reg o = s.reg o := hu ▸ s.reg_setFlag_flag (f := F.DDR_STATUS_panic) rfl o
  have hd : u.debt r = s.debt r := State.debt_of_reg _ (hreg _)
  have hp : u.flag F.DDR_STATUS_panic = s.flag F.DDR_STATUS_panic := State.flag_of_reg (hreg _)
  have hx : u.refIssue r = if s.flag F.DDR_STATUS_panic && decide (s.debt r < 8) then u
      else (u.setFld (debtF r) (s.debt r - 1)).emit (.dram "REF" r) := by
    rw [← hp, ← hd]
    rfl
  have hs : s.refStep r = if s.refreshes r && decide (1 ≤ s.debt r) then u.refIssue r else s := by
    rw [hu]
    rfl
  refine ⟨u, hreg, hu ▸ ⟨_, _, rfl⟩, ?_, fun hn => ?_⟩
  · rintro ⟨hr, h1, h8⟩
    rw [hs, if_pos (by simp [hr, h1]), hx, if_neg]
    rcases h8 with h | h
    · simp [h]
    · simp [Nat.not_lt.2 h]
  · by_cases hc : (s.refreshes r && decide (1 ≤ s.debt r)) = true
    · have hc' : s.refreshes r = true ∧ 1 ≤ s.debt r := by simpa using hc
      left
      rw [hs, if_pos hc, hx, if_pos]
      by_contra hb
      refine hn ⟨hc'.1, hc'.2, ?_⟩
      cases hpn : s.flag F.DDR_STATUS_panic with
      | false => exact .inl rfl
      | true => exact .inr (by simpa [hpn] using hb)
    · exact .inr (by rw [hs, if_neg hc])

theorem State.refStep_issues (hr : r < 2) (h : s.issues r) : (s.refStep r).debt r = s.debt r - 1 ∧
    (∀ k, k < 2 → k ≠ r → (s.refStep r).debt k = s.debt k) ∧ (s.refStep r).outbox = s.outbox ++ [.dram "REF" r] ∧
    s.KeepsRegs (s.refStep r) [R.DDR_REF_STATUS] ∧ (s.refStep r).mem = s.mem ∧ (s.refStep r).ddr = s.ddr ∧
    (s.refStep r).clk = s.clk ∧ (s.refStep r).now = s.now := by
  obtain ⟨u, hreg, ⟨_, _, e⟩, hi, -⟩ := s.refStep_frame (r := r)
  have hlt := s.debt_lt (r := r)
  have hd : State.OnlyRegs [R.DDR_REF_STATUS] u (u.setFld (debtF r) (s.debt r - 1)) := u.setDebt_onlyRegs _
  have hu : u.outbox = s.outbox ∧ u.mem = s.mem ∧ u.ddr = s.ddr ∧ u.clk = s.clk ∧ u.now = s.now := by
    rw [e]
    exact ⟨rfl, rfl, rfl, rfl, rfl⟩
  obtain ⟨h1, h2, h3, h4, h5⟩ := hu
  rw [hi h]
  refine ⟨(State.debt_setDebt_self u _).trans (Nat.mod_eq_of_lt (by omega)), fun k hk hne => ?_,
    congrArg (· ++ [Out.dram "REF" r]) h1, fun o ho => (hd.keeps o ho).trans (hreg o), h2, h3, h4, h5⟩
  exact (State.debt_setDebt_of_ne u hr hk (Ne.symm hne) _).trans (State.debt_of_reg _ (hreg _))

theorem State.refStep_waits (h : ¬ s.issues r) : s.KeepsRegs (s.refStep r) [] ∧ (s.refStep r).outbox = s.outbox ∧
    (s.refStep r).mem = s.mem ∧ (s.refStep r).ddr = s.ddr ∧ (s.refStep r).clk = s.clk ∧ (s.refStep r).now = s.now := by
  obtain ⟨u, hreg, ⟨_, _, e⟩, -, hn⟩ := s.refStep_frame (r := r)
  rcases hn h with hx | hx <;> rw [hx]
  · refine ⟨fun o _ => hreg o, ?_⟩
    rw [e]
    exact ⟨rfl, rfl, rfl, rfl, rfl⟩
  · exact ⟨fun _ _ => rfl, rfl, rfl, rfl, rfl, rfl⟩

/-- What a REF makes of the debts, issued or not. -/
theorem State.debt_refStep (hr : r < 2) [Decidable (s.issues r)] : (∀ k, k < 2 → (s.refStep r).debt k =
      if k = r ∧ s.issues r then s.debt k - 1 else s.debt k) ∧
    s.KeepsRegs (s.refStep r) [R.DDR_REF_STATUS] ∧ (s.refStep r).ddr = s.ddr ∧ (s.refStep r).clk = s.clk ∧
    (s.refStep r).now = s.now := by
  by_cases h : s.issues r
  · obtain ⟨hd, ho, -, hk, -, hddr, hclk, hnow⟩ := s.refStep_issues hr h
    refine ⟨fun k hlt => ?_, hk, hddr, hclk, hnow⟩
    by_cases hkr : k = r
    · rw [if_pos ⟨hkr, h⟩, hkr, hd]
    · rw [if_neg (fun hx => hkr hx.1), ho k hlt hkr]
  · obtain ⟨hk, -, -, hddr, hclk, hnow⟩ := s.refStep_waits h
    refine ⟨fun k _ => ?_, fun o _ => hk o (by simp), hddr, hclk, hnow⟩
    rw [if_neg (fun hx => h hx.2)]
    exact State.debt_of_reg _ (hk _ (by simp))

end

end Sys2Proof.Machine
end

section
namespace Sys2Proof.Machine

/-! ## The temperature (R423) -/

/-- The temperature in degrees that a written word gives. -/
def ddrDegrees (w : Word) : Int := signExt 8 (bitsOf w 7 0)

/-- What `hot` is to be after a write of DDR_TEMP. -/
def State.newHot (s : State) (w : Word) : Bool :=
  if 85 < ddrDegrees w then true else if ddrDegrees w ≤ 83 then false else s.flag F.DDR_STATUS_hot

/-- A write of DDR_TEMP before it changes `hot`: the word is kept, and the stale condition ends. -/
def State.temped (s : State) (w : Word) : State :=
  (((s.put R.DDR_TEMP (w &&& 0xFF#32)).setDdr fun d => { d with tempU := s.clk.freeU }).setFlag
    F.DDR_STATUS_temp_stale false).condEnd 10

/-- The registers of a write of DDR_TEMP that leaves `hot`. -/
def tempRegs : List Nat :=
  [R.DDR_TEMP, R.DDR_STATUS, R.FLT_ACTIVE_LO, R.FLT_ACTIVE_HI, R.FLT_STATUS_LO, R.FLT_STATUS_HI, R.FLT_WORST]

section
variable (s : State) (w : Word)

theorem State.setHot_same : s.setHot (s.flag F.DDR_STATUS_hot) = s := if_pos rfl

theorem State.temped_temps : (s.temped w).reg R.DDR_TEMP = w &&& 0xFF#32 ∧ (s.temped w).flag F.DDR_STATUS_temp_stale = false ∧
    (s.temped w).condActive 10 = false ∧ (∃ g z f, s.temped w =
      { s with regs := g, sets := z, flt := f, ddr := { s.ddr with tempU := s.clk.freeU } }) ∧
    s.KeepsRegs (s.temped w) tempRegs ∧
    (∀ f : Fld, f ∈ [F.DDR_STATUS_hot, F.DDR_STATUS_panic, F.DDR_STATUS_sr] → (s.temped w).flag f = s.flag f) := by
  obtain ⟨p, hp⟩ : ∃ p, p = (s.put R.DDR_TEMP (w &&& 0xFF#32)).setDdr fun d => { d with tempU := s.clk.freeU } := ⟨_, rfl⟩
  obtain ⟨u, hu⟩ : ∃ u, u = p.setFlag F.DDR_STATUS_temp_stale false := ⟨_, rfl⟩
  have hx : s.temped w = u.condEnd 10 := by rw [hu, hp]; rfl
  have hpr (o : Nat) : p.reg o = (s.put R.DDR_TEMP (w &&& 0xFF#32)).reg o := hp ▸ rfl
  have ho : State.OnlyRegs [R.DDR_TEMP] s (s.put R.DDR_TEMP (w &&& 0xFF#32)) := .put (by decide) _ _
  have hus : State.OnlyRegs [R.DDR_STATUS] p u := hu ▸ .setFlag (by decide) _ _
  have hreg (o : Nat) (h : o ∉ [R.DDR_TEMP, R.DDR_STATUS]) : u.reg o = s.reg o := by
    simp only [List.mem_cons, List.not_mem_nil, or_false, not_or] at h
    rw [hus.keeps o (by simp [h]), hpr, ho.keeps o (by simp [h])]
  have htemp : u.reg R.DDR_TEMP = w &&& 0xFF#32 := by
    rw [hus.keeps _ (by decide), hpr, State.reg_put_self]
  have hstale : u.flag F.DDR_STATUS_temp_stale = false := hu ▸ State.flag_setFlag_self _ _ _ (by decide) rfl
  have hflag (f : Fld) (hf : f ∈ [F.DDR_STATUS_hot, F.DDR_STATUS_panic, F.DDR_STATUS_sr]) : u.flag f = s.flag f := by
    have hap : ∀ f ∈ [F.DDR_STATUS_hot, F.DDR_STATUS_panic, F.DDR_STATUS_sr],
        f.hi < 32 ∧ (f.hi < F.DDR_STATUS_temp_stale.lo ∨ F.DDR_STATUS_temp_stale.hi < f.lo) ∧ f.reg ∉ [R.DDR_TEMP] := by decide
    obtain ⟨h1, h2, h3⟩ := hap f hf
    rw [hu, State.flag_setFlag_of_apart _ _ _ _ h1 (.inr h2.symm)]
    exact State.flag_of_reg ((hpr _).trans (ho.keeps _ h3))
  have hframe : ∃ g z, u = { s with regs := g, sets := z, ddr := { s.ddr with tempU := s.clk.freeU } } := by
    rw [hu, hp]
    exact ⟨_, _, rfl⟩
  obtain ⟨g, z, e⟩ := hframe
  rw [hx]
  cases ha : u.condActive 10 with
  | false =>
    have hn : u.condEnd 10 = u := if_neg (by simp [ha])
    rw [hn]
    exact ⟨htemp, hstale, ha, ⟨g, z, s.flt, e⟩,
      fun o h => hreg o fun hm => h (by simp at hm; rcases hm with rfl | rfl <;> decide), hflag⟩
  | true =>
    obtain ⟨hset, hbits⟩ := u.condEnd_bits (by decide : 10 < 64) ha
    obtain ⟨hc, -, -⟩ := hbits 10 (by decide)
    obtain ⟨_, _, _, e'⟩ := hset.frame
    have hfl (f : Fld) (h : f.reg = R.DDR_STATUS) : (u.condEnd 10).flag f = u.flag f :=
      State.flag_of_reg (hset.keeps _ (by rw [h]; decide))
    refine ⟨(hset.keeps _ (by decide)).trans htemp, (hfl _ rfl).trans hstale, hc.trans (by simp), ⟨_, _, _, by rw [e', e]⟩,
      fun o h => ?_, fun f hf => ?_⟩
    · have h1 : o ∉ [R.FLT_ACTIVE_LO, R.FLT_ACTIVE_HI, R.FLT_STATUS_LO, R.FLT_STATUS_HI, R.FLT_WORST] := fun hm =>
        h ((by decide : [R.FLT_ACTIVE_LO, R.FLT_ACTIVE_HI, R.FLT_STATUS_LO, R.FLT_STATUS_HI, R.FLT_WORST] ⊆ tempRegs) hm)
      have h2 : o ∉ [R.DDR_TEMP, R.DDR_STATUS] := fun hm => h ((by decide : [R.DDR_TEMP, R.DDR_STATUS] ⊆ tempRegs) hm)
      exact (hset.keeps o h1).trans (hreg o h2)
    · have hr : ∀ f ∈ [F.DDR_STATUS_hot, F.DDR_STATUS_panic, F.DDR_STATUS_sr], f.reg = R.DDR_STATUS := by decide
      exact (hfl f (hr f hf)).trans (hflag f hf)

theorem State.ddrTemp_eq : s.ddrTemp w = (s.temped w).setHot (s.newHot w) := by
  have hx : s.ddrTemp w = if 85 < ddrDegrees w then (s.temped w).setHot true
      else if ddrDegrees w ≤ 83 then (s.temped w).setHot false else s.temped w := rfl
  have hh : (s.temped w).flag F.DDR_STATUS_hot = s.flag F.DDR_STATUS_hot := (s.temped_temps w).2.2.2.2.2 _ (by simp)
  rw [hx]
  unfold State.newHot
  split
  · rfl
  · split
    · rfl
    · rw [← hh, State.setHot_same]

/-- A write of DDR_TEMP leaves what the refreshes go by. -/
theorem State.temped_ranks (k : Nat) : (s.temped w).debt k = s.debt k ∧ (s.temped w).refT k = s.refT k ∧
    (s.temped w).clk = s.clk ∧ (s.temped w).refreshes k = s.refreshes k := by
  obtain ⟨-, -, -, ⟨_, _, _, e⟩, hk, hf⟩ := s.temped_temps w
  refine ⟨State.debt_of_reg _ (hk _ (by decide)), ?_, by rw [e], ?_⟩
  · rw [e]
    rfl
  · exact State.refreshes_congr (hk _ (by decide)) (hk _ (by decide)) (by rw [e]) (hf _ (by simp))

/-! ## A REF in the clock of a change of hot (R425) -/

/-- A change of hot notes what stood before. -/
theorem State.setHot_notes {hot : Bool} (h : s.flag F.DDR_STATUS_hot ≠ hot) : ∃ n : HotNow, (s.setHot hot).now.hot = some n ∧
    n.hot = hot ∧ n.status = s.reg R.DDR_REF_STATUS ∧ n.t0 = s.ddr.t0 ∧ n.t1 = s.ddr.t1 := by
  unfold State.setHot
  rw [if_neg h]
  exact ⟨_, rfl, rfl, rfl, rfl, rfl⟩

/-- A change of hot leaves the other flags that the refreshes go by. -/
theorem State.flag_setHot {hot : Bool} (h : s.flag F.DDR_STATUS_hot ≠ hot) {f : Fld}
    (hf : f.reg ∉ heatRegs ∧ f.hi < 32 ∧ (F.DDR_STATUS_hot.hi < f.lo ∨ f.hi < F.DDR_STATUS_hot.lo)) :
    (s.setHot hot).flag f = s.flag f := by
  obtain ⟨h1, h2, h3⟩ := hf
  obtain ⟨u, hu⟩ : ∃ u, u = s.setFlag F.DDR_STATUS_hot hot := ⟨_, rfl⟩
  obtain ⟨n, hx⟩ : ∃ n, s.setHot hot = { (List.range s.ranks).foldl (fun s r => s.convertRank r hot) u with now := n } := by
    unfold State.setHot
    rw [if_neg h, hu]
    exact ⟨_, rfl⟩
  have hr : s.ranks = u.ranks := by
    have ho : State.OnlyRegs [R.DDR_STATUS] s u := hu ▸ .setFlag (by decide) _ _
    exact (congrArg (1 + ·) (State.fld_of_reg (f := F.DDR_CFG_ranks) (ho.keeps _ (by decide)))).symm
  obtain ⟨v, hv⟩ : ∃ v, v = (List.range u.ranks).foldl (fun s r => s.convertRank r hot) u := ⟨_, rfl⟩
  obtain ⟨-, -, hf⟩ := u.convertRanks hot
  rw [← hv] at hf
  rw [hx, hr, ← hv]
  have hvu : v.flag f = u.flag f := State.flag_of_reg (hf.keeps _ h1)
  refine Eq.trans hvu ?_
  rw [hu]
  exact State.flag_setFlag_of_apart _ _ _ _ h2 (.inr h3)

/-- A change of hot taken back: debts, timers and the ranks' state as before it. -/
theorem State.undoHot_undoes (n : HotNow) : (s.undoHot n).reg R.DDR_REF_STATUS = n.status ∧
    (s.undoHot n).refT 0 = n.t0 ∧ (s.undoHot n).refT 1 = n.t1 ∧ (s.undoHot n).flag F.DDR_STATUS_hot = !n.hot ∧
    (s.undoHot n).now.hot = none ∧ (s.undoHot n).clk = s.clk ∧ (s.undoHot n).ddr.live = s.ddr.live ∧
    s.KeepsRegs (s.undoHot n) (R.DDR_STATUS :: heatRegs) ∧
    (∀ f : Fld, f ∈ [F.DDR_STATUS_panic, F.DDR_STATUS_sr] → (s.undoHot n).flag f = s.flag f) := by
  obtain ⟨u, hu⟩ : ∃ u, u = s.setFlag F.DDR_STATUS_hot (!n.hot) := ⟨_, rfl⟩
  obtain ⟨v, hv⟩ : ∃ v, v = ((u.put R.DDR_REF_STATUS n.status).put R.DDR_REF_FORCED_CNT n.forced).put R.DDR_REF_HOT_CNT n.hots :=
    ⟨_, rfl⟩
  have hreg (o : Nat) : (s.undoHot n).reg o = v.reg o := by
    rw [hv, hu]
    rfl
  have huo : State.OnlyRegs [R.DDR_STATUS] s u := hu ▸ .setFlag (by decide) _ _
  have hvo : State.OnlyRegs heatRegs u v := hv ▸ .trans (.trans (.put (by decide) _ _) (.put (by decide) _ _)) (.put (by decide) _ _)
  have hflag (f : Fld) (h : f.reg = R.DDR_STATUS) : (s.undoHot n).flag f = u.flag f :=
    State.flag_of_reg ((hreg _).trans (hvo.keeps _ (by rw [h]; decide)))
  have hrest : (s.undoHot n).now.hot = none ∧ (s.undoHot n).clk = s.clk ∧ (s.undoHot n).ddr.live = s.ddr.live ∧
      (s.undoHot n).refT 0 = n.t0 ∧ (s.undoHot n).refT 1 = n.t1 := ⟨rfl, rfl, rfl, rfl, rfl⟩
  obtain ⟨r1, r2, r3, r4, r5⟩ := hrest
  refine ⟨?_, r4, r5, ?_, r1, r2, r3, fun o ho => ?_, fun f hf => ?_⟩
  · rw [hreg, hv, State.reg_put_of_ne _ _ (by decide), State.reg_put_of_ne _ _ (by decide), State.reg_put_self]
  · rw [hflag _ rfl, hu]
    exact State.flag_setFlag_self _ _ _ (by decide) rfl
  · rw [hreg, hvo.keeps o (fun h => ho (List.mem_cons_of_mem _ h)), huo.keeps o (fun h => ho (by simp at h; simp [h]))]
  · have hap : ∀ f ∈ [F.DDR_STATUS_panic, F.DDR_STATUS_sr],
        f.reg = R.DDR_STATUS ∧ f.hi < 32 ∧ (F.DDR_STATUS_hot.hi < f.lo ∨ f.hi < F.DDR_STATUS_hot.lo) := by decide
    obtain ⟨h1, h2, h3⟩ := hap f hf
    rw [hflag f h1, hu]
    exact State.flag_setFlag_of_apart _ _ _ _ h2 (.inr h3)

end

/-! ## A REF in the clock of a change of hot (R425) -/

/-- What a REF and a conversion go by is the same in both states. -/
structure State.SameRanks (s t : State) : Prop where
  debt : ∀ k, k < 2 → t.debt k = s.debt k
  refT : ∀ k, k < 2 → t.refT k = s.refT k
  clk : t.clk = s.clk
  refreshes : ∀ k, t.refreshes k = s.refreshes k
  panic : t.flag F.DDR_STATUS_panic = s.flag F.DDR_STATUS_panic

namespace State.SameRanks

variable {s t : State} {r : Nat}

theorem symm (h : s.SameRanks t) : t.SameRanks s :=
  ⟨fun k hk => (h.debt k hk).symm, fun k hk => (h.refT k hk).symm, h.clk.symm, fun k => (h.refreshes k).symm, h.panic.symm⟩

theorem trans {u : State} (h : s.SameRanks t) (k : t.SameRanks u) : s.SameRanks u :=
  ⟨fun i hi => (k.debt i hi).trans (h.debt i hi), fun i hi => (k.refT i hi).trans (h.refT i hi), k.clk.trans h.clk,
    fun i => (k.refreshes i).trans (h.refreshes i), k.panic.trans h.panic⟩

theorem issues (h : s.SameRanks t) (hr : r < 2) : t.issues r ↔ s.issues r := by
  rw [State.issues, State.issues, h.refreshes, h.debt r hr, h.panic]

/-- A REF keeps two states alike. -/
theorem refStep (h : s.SameRanks t) (hr : r < 2) : (s.refStep r).SameRanks (t.refStep r) := by
  classical
  obtain ⟨d1, k1, r1, c1, -⟩ := s.debt_refStep hr
  obtain ⟨d2, k2, r2, c2, -⟩ := t.debt_refStep hr
  have fresh {a b : State} (hk : a.KeepsRegs b [R.DDR_REF_STATUS]) (hd : b.ddr = a.ddr) (k : Nat) : b.refreshes k = a.refreshes k :=
    State.refreshes_congr (hk _ (by decide)) (hk _ (by decide)) (by rw [hd])
      (State.flag_of_reg (f := F.DDR_STATUS_sr) (hk _ (by decide)))
  have panic {a b : State} (hk : a.KeepsRegs b [R.DDR_REF_STATUS]) : b.flag F.DDR_STATUS_panic = a.flag F.DDR_STATUS_panic :=
    State.flag_of_reg (f := F.DDR_STATUS_panic) (hk _ (by decide))
  refine ⟨fun k hk => ?_, fun k hk => ?_, ?_, fun k => ?_, ?_⟩
  · rw [d1 k hk, d2 k hk, h.debt k hk]
    simp only [h.issues hr]
  · rw [State.refT_of_ddr s r1, State.refT_of_ddr t r2, h.refT k hk]
  · rw [c1, c2, h.clk]
  · rw [fresh k1 r1, fresh k2 r2, h.refreshes]
  · rw [panic k1, panic k2, h.panic]

/-- A change of hot makes the same debts of them. -/
theorem debt_setHot (h : s.SameRanks t) {hot : Bool} (hs : s.flag F.DDR_STATUS_hot ≠ hot) (ht : t.flag F.DDR_STATUS_hot ≠ hot)
    {k : Nat} (hk : k < 2) : (t.setHot hot).debt k = (s.setHot hot).debt k := by
  obtain ⟨d1, -⟩ := s.setHot_converts hs
  obtain ⟨d2, -⟩ := t.setHot_converts ht
  rw [d1 k hk, d2 k hk, h.debt k hk, h.refT k hk, h.clk, h.refreshes]

theorem temped (s : State) (w : Word) : s.SameRanks (s.temped w) :=
  ⟨fun k _ => (s.temped_ranks w k).1, fun k _ => (s.temped_ranks w k).2.1, (s.temped_ranks w 0).2.2.1,
    fun k => (s.temped_ranks w k).2.2.2, (s.temped_temps w).2.2.2.2.2 _ (by simp)⟩

/-- A change of hot that is taken back leaves the ranks as they were. -/
theorem undo {hot : Bool} (hs : s.flag F.DDR_STATUS_hot ≠ hot) : ∃ n : HotNow, (s.setHot hot).now.hot = some n ∧ n.hot = hot ∧
    s.SameRanks ((s.setHot hot).undoHot n) ∧ ((s.setHot hot).undoHot n).flag F.DDR_STATUS_hot = !hot ∧
    ((s.setHot hot).undoHot n).now.hot = none := by
  obtain ⟨n, hn, hh, hst, h0, h1⟩ := s.setHot_notes hs
  obtain ⟨-, -, -, hf⟩ := s.setHot_converts hs
  obtain ⟨u1, u2, u3, u4, u5, u6, u7, u8, u9⟩ := (s.setHot hot).undoHot_undoes n
  have hkeep (o : Nat) (h : o ∉ R.DDR_STATUS :: heatRegs) : ((s.setHot hot).undoHot n).reg o = s.reg o :=
    (u8 o h).trans (hf.keeps o h)
  have hap : ∀ f ∈ [F.DDR_STATUS_panic, F.DDR_STATUS_sr],
      f.reg ∉ heatRegs ∧ f.hi < 32 ∧ (F.DDR_STATUS_hot.hi < f.lo ∨ f.hi < F.DDR_STATUS_hot.lo) := by decide
  have hflag (f : Fld) (hm : f ∈ [F.DDR_STATUS_panic, F.DDR_STATUS_sr]) :
      ((s.setHot hot).undoHot n).flag f = s.flag f := (u9 f hm).trans (State.flag_setHot s hs (hap f hm))
  refine ⟨n, hn, hh, ⟨fun k _ => ?_, fun k hk => ?_, u6.trans hf.clk, fun k => ?_, hflag _ (by simp)⟩, by rw [u4, hh], u5⟩
  · exact State.debt_of_reg _ (u1.trans hst)
  · rcases (by omega : k = 0 ∨ k = 1) with rfl | rfl
    · exact u2.trans h0
    · exact u3.trans h1
  · exact State.refreshes_congr (hkeep _ (by decide)) (hkeep _ (by decide)) (u7.trans hf.live) (hflag _ (by simp))

end State.SameRanks

end Sys2Proof.Machine
end

section
namespace Sys2Proof.Machine

/-! ## The commands -/

section
variable (s : State)

theorem State.setHot_refreshed (hot : Bool) : State.Refreshed (R.DDR_STATUS :: heatRegs) s (s.setHot hot) := by
  by_cases h : s.flag F.DDR_STATUS_hot = hot
  · rw [← h, State.setHot_same]
    exact .refl s
  · exact (s.setHot_converts h).2.2.2

theorem State.hot_setHot (hot : Bool) : (s.setHot hot).flag F.DDR_STATUS_hot = hot := by
  by_cases h : s.flag F.DDR_STATUS_hot = hot
  · rw [← h, State.setHot_same]
  · exact (s.setHot_converts h).2.2.1

/-- A debt that the conversion makes 8 or more is paid at once, and both are counted. -/
theorem State.setHot_pays (h : s.flag F.DDR_STATUS_hot = false) (hn : s.ranks = 1) (hr : s.refreshes 0 = true)
    (he : s.clk.freeU - s.refT 0 < 23400) (h4 : 4 ≤ s.debt 0) (h15 : s.debt 0 ≤ 15) :
    (s.setHot true).outbox = s.outbox ++ .dram "PRE" 0 :: List.replicate (2 * s.debt 0) (.dram "REF" 0) ∧
    (s.setHot true).reg R.DDR_REF_FORCED_CNT = counted (s.reg R.DDR_REF_FORCED_CNT) ∧
    (s.setHot true).reg R.DDR_REF_HOT_CNT = counted (s.reg R.DDR_REF_HOT_CNT) := by
  obtain ⟨u, hu⟩ : ∃ u, u = s.setFlag F.DDR_STATUS_hot true := ⟨_, rfl⟩
  have ho : State.OnlyRegs [R.DDR_STATUS] s u := hu ▸ .setFlag (by decide) _ _
  have hd : u.debt 0 = s.debt 0 := State.debt_of_reg _ (ho.keeps _ (by decide))
  have hddr : u.ddr = s.ddr := by rw [hu]; rfl
  have hf : u.refreshes 0 = true := by
    refine (State.refreshes_congr (ho.keeps _ (by decide)) (ho.keeps _ (by decide)) (by rw [hddr]) ?_).trans hr
    rw [hu]
    exact State.flag_setFlag_of_apart _ _ _ _ (by decide) (by decide)
  obtain ⟨n, hx⟩ : ∃ n, s.setHot true = { u.convertRank 0 true with now := n } := by
    unfold State.setHot
    rw [if_neg (by simp [h]), hn, hu]
    exact ⟨_, rfl⟩
  obtain ⟨v, hv⟩ : ∃ v, v = u.rescaled 0 true := ⟨_, rfl⟩
  obtain ⟨vd, -, -, vo, vf⟩ := u.rescaled_rescales (r := 0) (by decide) true
  rw [← hv] at vd vo vf
  have h8 : v.debt 0 = 2 * s.debt 0 := by
    rw [vd, if_pos rfl, State.refT_of_ddr s hddr, ho.clk, if_neg (by omega), hd]
    omega
  have hc : u.convertRank 0 true = (v.forceRefs 0).count R.DDR_REF_HOT_CNT := by
    rw [State.convertRank_eq, if_pos hf, ← hv, if_pos (by omega)]
  obtain ⟨-, -, pout, pcnt, -, -, pf⟩ := v.forceRefs_pays (r := 0) (by decide)
  have hcnt : State.OnlyRegs [R.DDR_REF_HOT_CNT] (v.forceRefs 0) ((v.forceRefs 0).count R.DDR_REF_HOT_CNT) := .count (by decide) _
  obtain ⟨p, hp⟩ : ∃ p, p = (v.forceRefs 0).count R.DDR_REF_HOT_CNT := ⟨_, rfl⟩
  have hout : p.outbox = s.outbox ++ .dram "PRE" 0 :: List.replicate (2 * s.debt 0) (.dram "REF" 0) := by
    rw [hp, hcnt.outbox, pout, vo, ho.outbox, h8]
  have hfc : p.reg R.DDR_REF_FORCED_CNT = counted (s.reg R.DDR_REF_FORCED_CNT) := by
    rw [hp, hcnt.keeps _ (by decide), pcnt, vf.keeps _ (by decide), ho.keeps _ (by decide)]
  have hhc : p.reg R.DDR_REF_HOT_CNT = counted (s.reg R.DDR_REF_HOT_CNT) := by
    rw [hp, State.reg_count_self, pf.keeps _ (by decide), vf.keeps _ (by decide), ho.keeps _ (by decide)]
  rw [hx, hc, ← hp]
  exact ⟨hout, hfc, hhc⟩

/-- A write of DDR_TEMP (R423, R424). -/
theorem State.ddrTemp_writes (w : Word) : let c := ddrDegrees w
    let t := s.ddrTemp w
    t.reg R.DDR_TEMP = w &&& 0xFF#32 ∧ t.flag F.DDR_STATUS_temp_stale = false ∧
    t.condActive 10 = false ∧ t.flag F.DDR_STATUS_hot = (if 85 < c then true else if c ≤ 83 then false else s.flag F.DDR_STATUS_hot) ∧
    t.mem = s.mem ∧
    (t.flag F.DDR_STATUS_hot = s.flag F.DDR_STATUS_hot → t.outbox = s.outbox ∧ ∀ k, k < 2 → t.debt k = s.debt k) ∧
    (∀ k, k < 2 → s.refreshes k = false → t.debt k = s.debt k) ∧
    (s.flag F.DDR_STATUS_hot = false → 85 < c → ∀ k, s.refreshes k = true → k < 2 →
      let e := s.clk.freeU - s.refT k
      (23400 ≤ e → 2 * s.debt k + 1 < 8 → t.debt k = 2 * s.debt k + 1 ∧ t.refT k = s.refT k + 23400) ∧
      (e < 23400 → 2 * s.debt k < 8 → t.debt k = 2 * s.debt k ∧ t.refT k = s.refT k) ∧
      (8 ≤ 2 * s.debt k → t.debt k = 0)) ∧
    (s.flag F.DDR_STATUS_hot = false → 85 < c → s.ranks = 1 → s.refreshes 0 = true → s.clk.freeU - s.refT 0 < 23400 →
      4 ≤ s.debt 0 → s.debt 0 ≤ 15 →
      t.outbox = s.outbox ++ .dram "PRE" 0 :: List.replicate (2 * s.debt 0) (.dram "REF" 0) ∧
      t.reg R.DDR_REF_FORCED_CNT = counted (s.reg R.DDR_REF_FORCED_CNT) ∧
      t.reg R.DDR_REF_HOT_CNT = counted (s.reg R.DDR_REF_HOT_CNT)) ∧
    (s.flag F.DDR_STATUS_hot = true → c ≤ 83 → ∀ k, s.refreshes k = true → k < 2 → s.debt k ≤ 14 →
      t.debt k = (s.debt k + 1) / 2) := by
  intro c t
  obtain ⟨v, hv⟩ : ∃ v, v = s.temped w := ⟨_, rfl⟩
  obtain ⟨v1, v2, v3, ⟨_, _, _, e⟩, vk, vf⟩ := s.temped_temps w
  have vr := s.temped_ranks w
  rw [← hv] at v1 v2 v3 e vk vf vr
  have hht : v.flag F.DDR_STATUS_hot = s.flag F.DDR_STATUS_hot := vf _ (by simp)
  obtain ⟨g, hg⟩ : ∃ g, g = s.newHot w := ⟨_, rfl⟩
  have ht : t = v.setHot g := by rw [hv, hg]; exact s.ddrTemp_eq w
  have hf := v.setHot_refreshed g
  have hhot := v.hot_setHot g
  have hsame (h : g = s.flag F.DDR_STATUS_hot) : v.setHot g = v := by rw [h, ← hht, State.setHot_same]
  have hstale : (v.setHot g).flag F.DDR_STATUS_temp_stale = v.flag F.DDR_STATUS_temp_stale := by
    by_cases h : v.flag F.DDR_STATUS_hot = g
    · rw [← h, State.setHot_same]
    · exact v.flag_setHot h (by decide)
  have hout : v.outbox = s.outbox := by rw [e]
  rw [ht]
  refine ⟨(hf.keeps _ (by decide)).trans v1, hstale.trans v2, (State.bit64_of_keeps hf.keeps (by decide) (by decide) _).trans v3,
    hhot.trans hg, hf.mem.trans (by rw [e]), fun h => ?_, fun k hk hr => ?_, fun h0 h85 k hr hk => ?_, fun h0 h85 hn hr he h4 h15 => ?_,
    fun h1 h83 k hr hk h14 => ?_⟩
  · rw [hhot] at h
    rw [hsame h]
    exact ⟨hout, fun k _ => (vr k).1⟩
  · by_cases h : v.flag F.DDR_STATUS_hot = g
    · rw [← h, State.setHot_same]
      exact (vr k).1
    · rw [(v.setHot_converts h).1 k hk, (vr k).2.2.2, if_neg (by simp [hr]), (vr k).1]
  · have hgt : g = true := hg.trans (if_pos h85)
    have hne : v.flag F.DDR_STATUS_hot ≠ g := by rw [hht, h0, hgt]; decide
    obtain ⟨hd, hT, -⟩ := v.setHot_converts hne
    obtain ⟨rd, rT, rc, rr⟩ := vr k
    rw [hd k hk, hT k hk, rr, rd, rT, rc, hr, hgt, if_pos rfl]
    refine ⟨fun he h8 => ⟨?_, if_pos ⟨rfl, rfl, he⟩⟩, fun he h8 => ⟨?_, if_neg fun h => ?_⟩, fun h8 => ?_⟩
    · simp only [convertedDebt, if_true, if_pos he]
      rw [if_neg (by omega)]
      omega
    · have he' : ¬ 23400 ≤ s.clk.freeU - s.refT k := by omega
      simp only [convertedDebt, if_true, if_neg he']
      rw [if_neg (by omega)]
      omega
    · exact absurd h.2.2 (by omega)
    · simp only [convertedDebt, if_true]
      rw [if_pos]
      split <;> omega
  · have hgt : g = true := hg.trans (if_pos h85)
    have hvn : v.ranks = 1 := (congrArg (1 + ·) (State.fld_of_reg (f := F.DDR_CFG_ranks) (vk _ (by decide)))).trans hn
    obtain ⟨rd, rT, rc, rr⟩ := vr 0
    have h := v.setHot_pays (hht.trans h0) hvn (rr.trans hr) (by rw [rc, rT]; exact he) (by rw [rd]; exact h4)
      (by rw [rd]; exact h15)
    rw [rd, hout, vk _ (by decide), vk _ (by decide)] at h
    rw [hgt]
    exact h
  · have hgf : g = false := by
      rw [hg, State.newHot, if_neg (by omega), if_pos h83]
    have hne : v.flag F.DDR_STATUS_hot ≠ g := by rw [hht, h1, hgf]; decide
    obtain ⟨hd, -⟩ := v.setHot_converts hne
    obtain ⟨rd, -, -, rr⟩ := vr k
    rw [hd k hk, rr, rd, hr, hgf, if_pos rfl]
    simp only [convertedDebt, Bool.false_eq_true, if_false]
    rw [if_neg (by omega)]

/-- A temperature not written for 1 s (R423). -/
theorem State.tempStale_raises (ha : s.condActive 10 = false) (he : ∀ e ∈ s.flt.ended, e.1 ≠ 10) :
    let t := ((s.setHot true).setFlag F.DDR_STATUS_temp_stale true).condBegin 10 0
    t.flag F.DDR_STATUS_hot = true ∧ t.flag F.DDR_STATUS_temp_stale = true ∧ t.condActive 10 = true ∧ t.latched 10 = true ∧
    t.unacked 10 = true ∧ t.mem = s.mem := by
  intro t
  obtain ⟨u, hu⟩ : ∃ u, u = s.setHot true := ⟨_, rfl⟩
  have hf := s.setHot_refreshed true
  have hh := s.hot_setHot true
  rw [← hu] at hf hh
  obtain ⟨v, hv⟩ : ∃ v, v = u.setFlag F.DDR_STATUS_temp_stale true := ⟨_, rfl⟩
  have hvo : State.OnlyRegs [R.DDR_STATUS] u v := hv ▸ .setFlag (by decide) _ _
  have hact : v.condActive 10 = false :=
    (State.bit64_of_keeps hvo.keeps (by decide) (by decide) _).trans
      ((State.bit64_of_keeps hf.keeps (by decide) (by decide) _).trans ha)
  have hend : v.flt.ended.find? (fun e => e.1 = 10) = none := by
    have hvf : v.flt = s.flt := by rw [hv]; exact hf.flt
    rw [hvf, List.find?_eq_none]
    intro e hm
    simpa using he e hm
  obtain ⟨w, hw⟩ : ∃ w, w = v.setBit64 R.FLT_ACTIVE_LO R.FLT_ACTIVE_HI 10 true := ⟨_, rfl⟩
  have hx : t = w.raise 10 0 := by
    unfold t State.condBegin
    rw [← hu, ← hv, if_neg (by simp [hact]), hw]
    simp only [hend]
  have hwo : v.Reacts [R.FLT_ACTIVE_LO, R.FLT_ACTIVE_HI] w := hw ▸ .setBit64 (by decide) (by decide) _ _ _
  have hr := w.reacts_raise (i := 10) 0 (by decide)
  have hst : (w.raise 10 0).reg R.DDR_STATUS = v.reg R.DDR_STATUS := (hr.keeps _ (by decide)).trans (hwo.keeps _ (by decide))
  rw [hx]
  refine ⟨?_, ?_, ?_, w.latched_raise 0 (by decide), w.unacked_raise 0 (by decide), ?_⟩
  · rw [State.flag_of_reg (f := F.DDR_STATUS_hot) hst, hv]
    exact (State.flag_setFlag_of_apart _ _ _ _ (by decide) (by decide)).trans hh
  · rw [State.flag_of_reg (f := F.DDR_STATUS_temp_stale) hst, hv]
    exact State.flag_setFlag_self _ _ _ (by decide) rfl
  · refine (State.bit64_of_keeps hr.keeps (by decide) (by decide) _).trans ?_
    rw [hw]
    exact v.bit64_setBit64_true (by decide)
  · rw [hr.mem, hwo.mem, hvo.mem, hf.mem]

theorem State.exec_refreshIntervalExpire {s : State} (h : s.now.hot = none) (r : Fin 2) (p : Bool) :
    exec (.refreshIntervalExpire r p) s =
      .next (if s.refreshes r && s.refDue r then (s.setFlag F.DDR_STATUS_panic p).refExpire r else s) := by
  have on : exec (.refreshIntervalExpire r p) s = execRefreshIntervalExpire r p s := rfl
  rw [on, execRefreshIntervalExpire, State.beforeHot, h]
  rfl

theorem State.exec_refIssue {s : State} (h : s.now.hot = none) (r : Fin 2) : exec (.refIssue r) s = .next (s.refStep r) := by
  have on : exec (.refIssue r) s = execRefIssue r s := rfl
  rw [on, execRefIssue, State.beforeHot, h]
  rfl

theorem State.exec_refIssue_of_hot {s : State} {n : HotNow} (h : s.now.hot = some n) (r : Fin 2) :
    exec (.refIssue r) s = .next (((s.undoHot n).refStep r).setHot n.hot) := by
  have on : exec (.refIssue r) s = execRefIssue r s := rfl
  rw [on, execRefIssue, State.beforeHot, h]
  rfl

/-- A REF in the clock of a change of hot counts as if it went before (R425). -/
theorem State.refStep_before_hot {s : State} (h : s.now.hot = none) (r : Fin 2) (w : Word) {t t' u u' : State}
    (ht : exec (.ddrTempWrite w) s = .next t) (ht' : exec (.refIssue r) t = .next t')
    (hu : exec (.refIssue r) s = .next u) (hu' : exec (.ddrTempWrite w) u = .next u') {k : Nat} (hk : k < 2) :
    t'.debt k = u'.debt k := by
  have write (a : State) : exec (.ddrTempWrite w) a = .next (if a.domOn 16 then a.ddrTemp w else a) := rfl
  rw [write] at ht hu'
  rw [State.exec_refIssue h] at hu
  obtain rfl := Host.Outcome.next.inj hu
  obtain rfl := Host.Outcome.next.inj ht
  obtain rfl := Host.Outcome.next.inj hu'
  classical
  obtain ⟨-, hkeep, -, -, -⟩ := s.debt_refStep r.isLt
  have hdom : (s.refStep r).domOn 16 = s.domOn 16 := State.domOn_of_reg (hkeep _ (by decide)) 16
  rw [hdom]
  cases hon : s.domOn 16 with
  | false =>
    simp only [hon, Bool.false_eq_true, if_false] at ht' ⊢
    rw [State.exec_refIssue h] at ht'
    rw [← Host.Outcome.next.inj ht']
  | true =>
    simp only [hon, if_true] at ht' ⊢
    have hhot : (s.refStep r).flag F.DDR_STATUS_hot = s.flag F.DDR_STATUS_hot :=
      State.flag_of_reg (f := F.DDR_STATUS_hot) (hkeep _ (by decide))
    have hnew : (s.refStep r).newHot w = s.newHot w := by rw [State.newHot, hhot, State.newHot]
    have hut : ((s.refStep r).temped w).flag F.DDR_STATUS_hot = s.flag F.DDR_STATUS_hot :=
      (((s.refStep r).temped_temps w).2.2.2.2.2 _ (by simp)).trans hhot
    have hst : (s.temped w).flag F.DDR_STATUS_hot = s.flag F.DDR_STATUS_hot := (s.temped_temps w).2.2.2.2.2 _ (by simp)
    have hnow : (s.temped w).now.hot = none := by
      obtain ⟨-, -, -, ⟨_, _, _, e⟩, -, -⟩ := s.temped_temps w
      rw [e]
      exact h
    have hlike : (s.temped w).SameRanks s := (State.SameRanks.temped s w).symm
    have hend : (s.refStep r).SameRanks ((s.refStep r).temped w) := State.SameRanks.temped _ w
    rw [State.ddrTemp_eq] at ht' ⊢
    rw [hnew]
    generalize s.newHot w = g at *
    by_cases hg : s.flag F.DDR_STATUS_hot = g
    · have h1 : (s.temped w).setHot g = s.temped w := by rw [← hg, ← hst, State.setHot_same]
      have h2 : ((s.refStep r).temped w).setHot g = (s.refStep r).temped w := by rw [← hg, ← hut, State.setHot_same]
      rw [h1, State.exec_refIssue hnow] at ht'
      rw [h2, ← Host.Outcome.next.inj ht', hend.debt k hk]
      exact ((hlike.refStep r.isLt).debt k hk).symm
    · obtain ⟨n, hn, hng, hundo, hflag, -⟩ := State.SameRanks.undo (s := s.temped w) (hot := g) (by rw [hst]; exact hg)
      rw [State.exec_refIssue_of_hot hn, hng] at ht'
      rw [← Host.Outcome.next.inj ht']
      generalize ((s.temped w).setHot g).undoHot n = x at *
      have hx : x.SameRanks s := hundo.symm.trans hlike
      obtain ⟨-, xk, -, -, -⟩ := x.debt_refStep r.isLt
      have hxf : (x.refStep r).flag F.DDR_STATUS_hot ≠ g := by
        rw [State.flag_of_reg (f := F.DDR_STATUS_hot) (xk _ (by decide)), hflag]
        cases g <;> decide
      exact (((hx.refStep r.isLt).trans hend).debt_setHot hxf (by rw [hut]; exact hg) hk).symm

end

/-! ## The obligation -/

/-- Settles O53: each command by its rule on debts and timers; a REF and a change of hot in one clock by what a conversion goes by. -/
theorem refreshDebtsAndHeatAreKept : Obligations.RefreshDebtsAndHeatAreKept := by
  unfold Obligations.RefreshDebtsAndHeatAreKept
  intro s r p w
  refine ⟨fun hr hn => ⟨fun hd => ?notDue, fun hd hb h8 => ?adds, fun hd hb h8 => ?forces, fun hd hb => ?joins,
    fun h1 hp => ?issues, fun hp h8 => ?waits, fun h0 => ?none⟩,
    fun hn t t' u u' ht ht' hu hu' k hk => State.refStep_before_hot hn r w ht ht' hu hu' hk, fun hr h8 => ?batch,
    fun hon => ⟨s.ddrTemp w, congrArg Host.Outcome.next (if_pos hon), s.ddrTemp_writes w⟩, fun hi hlt => ?fresh,
    fun hi hle ha he => ⟨_, ?stale, s.tempStale_raises ha he⟩⟩
  case notDue => exact (State.exec_refreshIntervalExpire hn r p).trans (congrArg _ (if_neg (by simp [hd])))
  case none =>
    refine (State.exec_refIssue hn r).trans (congrArg _ (if_neg ?_))
    simp [h0]
  case batch =>
    obtain ⟨p0, po, pout, pcnt, pend, -, pf⟩ := s.forceRefs_pays r.isLt
    refine ⟨_, congrArg Host.Outcome.next (if_pos (by simp [hr, h8])), p0, po _ (by omega) (by omega), pout, pcnt, pend,
      fun o ho => ?_, pf.mem⟩
    exact pf.keeps o ho
  case fresh =>
    refine congrArg Host.Outcome.next (if_neg ?_)
    have h : ¬ s.ddr.tempU + secU ≤ s.clk.freeU := Nat.not_le.2 hlt
    simp only [hi, Bool.true_and, decide_eq_true_eq]
    exact h
  case stale =>
    refine congrArg Host.Outcome.next (if_pos ?_)
    simp only [hi, Bool.true_and, decide_eq_true_eq]
    exact hle
  case issues =>
    obtain ⟨hd, ho, hout, hk, hm, hddr, -, -⟩ := s.refStep_issues r.isLt ⟨hr, h1, hp⟩
    exact ⟨_, State.exec_refIssue hn r, hd, ho _ (by omega) (by omega), hout,
      fun o hm => hk o (fun h => hm (by simp at h; simp [h])), hm, hddr⟩
  case waits =>
    have hno : ¬ s.issues r := fun ⟨_, _, h⟩ => by
      rcases h with h | h
      · exact absurd (h.symm.trans hp) (by decide)
      · omega
    obtain ⟨hk, hout, hm, hddr, -, -⟩ := s.refStep_waits hno
    exact ⟨_, State.exec_refIssue hn r, hk, hout, hm, hddr⟩
  all_goals
    obtain ⟨u, hu⟩ : ∃ u, u = s.setFlag F.DDR_STATUS_panic p := ⟨_, rfl⟩
    have on : exec (.refreshIntervalExpire r p) s = .next (u.refExpire r) := by
      rw [hu]
      exact (State.exec_refreshIntervalExpire hn r p).trans (congrArg _ (if_pos (by simp [hr, hd])))
    have ho : State.OnlyRegs [R.DDR_STATUS] s u := hu ▸ .setFlag (by decide) _ _
    have hddr : u.ddr = s.ddr := by rw [hu]; rfl
    have hpanic : u.flag F.DDR_STATUS_panic = p := hu ▸ State.flag_setFlag_self _ _ _ (by decide) rfl
    have hhot : u.flag F.DDR_STATUS_hot = s.flag F.DDR_STATUS_hot := by
      rw [hu]
      exact State.flag_setFlag_of_apart _ _ _ _ (by decide) (by decide)
    have hdebt (k : Nat) : u.debt k = s.debt k := State.debt_of_reg _ (ho.keeps _ (by decide))
    have hT (k : Nat) : u.refT k = s.refT k := State.refT_of_ddr _ hddr
    have hB (k : Nat) : u.batchEnd k = s.batchEnd k := State.batchEnd_of_ddr _ hddr
    have htrefi : u.trefi = s.trefi := by rw [State.trefi, hhot, State.trefi]
    have htrfc : u.trfc = s.trfc := by
      rw [State.trfc, State.flag_of_reg (f := F.DDR_CFG_dens) (ho.keeps _ (by decide)), State.trfc]
  case adds =>
    obtain ⟨ad, aother, aT, acnt, ak, am, aout⟩ := u.refExpire_adds r.isLt (by rw [hB, hT, htrefi]; exact hb)
      (by rw [hdebt]; exact h8)
    obtain ⟨o1, o2⟩ := aother (1 - r) (by omega) (by omega)
    rw [hdebt] at ad o1 acnt
    rw [hT] at aT o2
    rw [htrefi] at aT
    rw [hpanic, ho.keeps _ (by decide)] at acnt
    refine ⟨_, on, ad, o1, ?_, aT, o2, acnt, fun o hm => ?_, am.trans ho.mem, aout.trans ho.outbox⟩
    · exact (State.flag_of_reg (f := F.DDR_STATUS_panic) (ak _ (by decide))).trans hpanic
    · simp only [List.mem_cons, List.not_mem_nil, or_false, not_or] at hm
      exact (ak o (by simp [hm])).trans (ho.keeps o (by simp [hm]))
  case forces =>
    obtain ⟨fd, fout, fcnt, fk, fm⟩ := u.refExpire_forces r.isLt (by rw [hB, hT, htrefi]; exact hb) (by rw [hdebt]; exact h8)
    rw [hdebt, ho.outbox] at fout
    rw [ho.keeps _ (by decide)] at fcnt
    refine ⟨_, on, fd, fout, fcnt, fun o hm => ?_, fm.trans ho.mem⟩
    simp only [List.mem_cons, List.not_mem_nil, or_false, not_or] at hm
    exact (fk o (by simp [hm])).trans (ho.keeps o (by simp [hm]))
  case joins =>
    obtain ⟨jd, jT, jB, jout, jk, jm⟩ := u.refExpire_joins (r := r) (by rw [hB, hT, htrefi]; exact hb)
    rw [hdebt] at jd
    rw [hT, htrefi] at jT
    rw [hB, htrfc] at jB
    rw [ho.outbox] at jout
    exact ⟨_, on, jd, jT, jB, jout, fun o hm => (jk o (by simp)).trans (ho.keeps o hm), jm.trans ho.mem⟩

end Sys2Proof.Machine
end

section
/-!
SUPPORT. Resets and the power-on sequence (R474 to R478): what stays, and how the sequence starts.
-/

namespace Sys2Proof.Machine

/-! ## Fields and masks -/

/-- A field's bit where the other bits of the word are masked. -/
theorem State.domFault_of_reg {s t : State} (h : t.reg R.PWR_DOM_FAULT = s.reg R.PWR_DOM_FAULT) (d : Nat) :
    t.domFault d = s.domFault d :=
  State.flag_of_reg (f := domF R.PWR_DOM_FAULT d) h

theorem State.domFault_eq (s : State) (d : Nat) : s.domFault d = (s.reg R.PWR_DOM_FAULT).getLsbD d := decide_bitsOf_bit _ d

/-! ## The start of the sequence (R475) -/

/-- The registers of the domains as a sequence starts. -/
def seqRegs : List Nat := [R.PWR_DOM_FAULT, R.PWR_DOM_ON, R.PWR_DOM_BUSY]

/-- The domains as the sequence finds them: none released or switching, PD_CTRL and PD_FABRIC without a fault. -/
def State.domsOff (s : State) : State :=
  ((s.put R.PWR_DOM_FAULT (s.reg R.PWR_DOM_FAULT &&& 0x7FFF8#32)).put R.PWR_DOM_ON 1).put R.PWR_DOM_BUSY 0

section
variable (s : State)

theorem State.domsOff_onlyRegs : State.OnlyRegs seqRegs s s.domsOff :=
  ((State.OnlyRegs.put (by decide) s _).trans (.put (by decide) _ _)).trans (.put (by decide) _ _)

theorem State.domFault_domsOff {d : Nat} (h : d < 19) : s.domsOff.domFault d = (decide (3 ≤ d) && s.domFault d) := by
  have hr : s.domsOff.reg R.PWR_DOM_FAULT = s.reg R.PWR_DOM_FAULT &&& 0x7FFF8#32 :=
    (State.reg_put_of_ne _ _ (by decide)).trans ((State.reg_put_of_ne _ _ (by decide)).trans (State.reg_put_self _ _ _))
  have hm : ∀ d, d < 19 → (0x7FFF8#32).getLsbD d = decide (3 ≤ d) := by decide
  rw [State.domFault_eq, hr, BitVec.getLsbD_and, hm d h, State.domFault_eq, Bool.and_comm]

theorem State.domOn_domsOff {d : Nat} (h : 1 ≤ d) : s.domsOff.domOn d = false := by
  have hr : s.domsOff.reg R.PWR_DOM_ON = 1 := (State.reg_put_of_ne _ _ (by decide)).trans (State.reg_put_self _ _ _)
  have hf : s.domsOff.fld F.PWR_DOM_ON_on = 1 := by
    rw [State.fld, hr]
    decide
  have h0 : d ≠ 0 := by omega
  rw [State.domOn, hf]
  have hb : Nat.testBit 1 d = false := Bool.eq_false_iff.2 fun h => h0 (Nat.testBit_one_eq_true_iff_self_eq_zero.1 h)
  simp [h0, hb]

theorem State.seqStart_eq : s.seqStart =
    if s.pwr.pin || s.pwr.hot || s.pwr.cut then s.domsOff.setPwr fun p => { p with held := true, seq := [] }
    else (s.domsOff.setPwr fun p => { p with held := false, seq := powerOrder.filter fun d => !s.domsOff.domFault d }).seqHead := rfl

/-- Started, the sequence has PD_CTRL in front. -/
theorem State.seqStart_of_free (hp : s.pwr.pin = false) (hh : s.pwr.hot = false) (hc : s.pwr.cut = false) : s.seqStart =
    (s.domsOff.setPwr fun p => { p with held := false, seq := powerOrder.filter fun d => !s.domsOff.domFault d }).domStart 1 := by
  have h1 : s.domsOff.domFault 1 = false := (s.domFault_domsOff (by decide)).trans (by simp)
  have hq : powerOrder.filter (fun d => !s.domsOff.domFault d) =
      1 :: ([2, 18, 15, 16, 17] ++ (List.range 12).map (3 + ·)).filter fun d => !s.domsOff.domFault d :=
    List.filter_cons_of_pos (by simp [h1])
  rw [State.seqStart_eq, if_neg (by simp [hp, hh, hc]), hq]
  rfl

/-- Held, no domain is switched on. -/
theorem State.seqStart_of_held (h : s.pwr.pin = true ∨ s.pwr.hot = true ∨ s.pwr.cut = true) :
    s.seqStart = s.domsOff.setPwr fun p => { p with held := true, seq := [] } := by
  rw [State.seqStart_eq, if_pos]
  rcases h with h | h | h <;> simp [h]

/-- The sequence as it starts, held or not. -/
theorem State.seqStart_starts : (∀ d, d < 19 → s.seqStart.domFault d = (decide (3 ≤ d) && s.domFault d)) ∧
    (∀ d, 1 ≤ d → s.seqStart.domOn d = false) ∧ s.KeepsRegs s.seqStart seqRegs ∧
    (∃ g z h q, s.seqStart = { s with regs := g, sets := z, pwr := { s.pwr with held := h, seq := q } }) ∧
    (s.pwr.pin = false → s.pwr.hot = false → s.pwr.cut = false →
      s.seqStart.pwr.seq = (powerOrder.filter fun d => !s.seqStart.domFault d) ∧ s.seqStart.pwr.held = false ∧
      s.seqStart.domBusy 1 = true) ∧
    (s.pwr.pin = true ∨ s.pwr.hot = true ∨ s.pwr.cut = true → s.seqStart.pwr.held = true ∧ s.seqStart.pwr.seq = []) := by
  obtain ⟨u, hu⟩ : ∃ u, u = s.domsOff := ⟨_, rfl⟩
  have hf {d : Nat} (h : d < 19) : u.domFault d = (decide (3 ≤ d) && s.domFault d) := hu ▸ s.domFault_domsOff h
  have hd {d : Nat} (h : 1 ≤ d) : u.domOn d = false := hu ▸ s.domOn_domsOff h
  have hk : State.OnlyRegs seqRegs s u := hu ▸ s.domsOff_onlyRegs
  obtain ⟨g, z, e⟩ := hk.frame
  by_cases h : s.pwr.pin = true ∨ s.pwr.hot = true ∨ s.pwr.cut = true
  · rw [s.seqStart_of_held h, ← hu]
    refine ⟨fun d h => hf h, fun d h => hd h, hk.keeps, ⟨g, z, true, [], by rw [e]; rfl⟩, fun h1 h2 h3 => ?_, fun _ => ⟨rfl, rfl⟩⟩
    · rcases h with h | h | h
      · exact absurd (h.symm.trans h1) (by decide)
      · exact absurd (h.symm.trans h2) (by decide)
      · exact absurd (h.symm.trans h3) (by decide)
  · simp only [not_or, Bool.not_eq_true] at h
    obtain ⟨h1, h2, h3⟩ := h
    obtain ⟨v, hv⟩ : ∃ v, v = u.setPwr fun p => { p with held := false, seq := powerOrder.filter fun d => !u.domFault d } := ⟨_, rfl⟩
    have hvr (o : Nat) : v.reg o = u.reg o := hv ▸ rfl
    have hb : State.OnlyRegs [R.PWR_DOM_BUSY] v (v.domStart 1) := .setFlag (f := domF R.PWR_DOM_BUSY 1) (by decide) _ _
    have hfault (d : Nat) : (v.domStart 1).domFault d = u.domFault d :=
      State.domFault_of_reg ((hb.keeps _ (by decide)).trans (hvr _)) d
    have hseq : (v.domStart 1).pwr.seq = powerOrder.filter fun d => !u.domFault d := by rw [hv]; rfl
    have hheld : (v.domStart 1).pwr.held = false := by rw [hv]; rfl
    rw [s.seqStart_of_free h1 h2 h3, ← hu, ← hv]
    refine ⟨fun d h => (hfault d).trans (hf h), fun d h => ?_, fun o ho => ?_, ⟨_, _, false, _, by rw [hv, e]; rfl⟩,
      fun _ _ _ => ⟨?_, hheld, ?_⟩, fun h => ?_⟩
    · exact (State.domOn_of_reg ((hb.keeps _ (by decide)).trans (hvr _)) d).trans (hd h)
    · exact (hb.keeps o fun h => ho (by simp at h; simp [h, seqRegs])).trans ((hvr o).trans (hk.keeps o ho))
    · rw [hseq]
      simp only [hfault]
    · exact State.flag_setFlag_self v (domF R.PWR_DOM_BUSY 1) true (by decide) rfl
    · rcases h with h | h | h
      · exact absurd (h.symm.trans h1) (by decide)
      · exact absurd (h.symm.trans h2) (by decide)
      · exact absurd (h.symm.trans h3) (by decide)

end

end Sys2Proof.Machine
end

section
namespace Sys2Proof.Machine

/-! ## What a reset leaves (R477, R486) -/

/-- The registers of PD_AON that a reset writes. -/
def aonRegs : List Nat :=
  [R.SYS_RESET_REASON, R.SYS_BOOT_CTRL, R.PWR_STATUS, R.PWR_DOM_FAULT, R.PWR_DOM_ON, R.PWR_DOM_BUSY]

/-- The power state after a reset: the supplies and what holds a reset. -/
def Pwr.restarted (p : Pwr) : Pwr :=
  { aon := p.aon, pin := p.pin, hot := p.hot, cut := p.cut, ovp := p.ovp, vin := p.vin, temp := p.temp, cleared := p.cleared }

section
variable (s : State) (keep : Nat → Bool)

/-- Beside the boot control and the temperature's flags the kept registers stay, and the others are at their reset words. -/
theorem State.reg_resetTo {o : Nat} (h : o ∉ [R.SYS_BOOT_CTRL, R.PWR_STATUS]) :
    (s.resetTo keep).reg o = if keep o then s.reg o else resetWord o := by
  have hf := Tbl.get_filter_keys resetWord (fun k => !keep k) s.regs o
  simp only [Bool.not_not] at hf
  simp only [List.mem_cons, List.not_mem_nil, or_false, not_or] at h
  have h1 : (s.resetTo keep).reg o = Tbl.get resetWord (s.regs.filter fun e => keep e.1) o :=
    (State.reg_setFld_of_ne _ _ (Ne.symm h.2)).trans ((State.reg_setFld_of_ne _ _ (Ne.symm h.2)).trans
      (State.reg_put_of_ne _ _ (Ne.symm h.1)))
  rw [h1, hf]
  cases keep o <;> rfl

theorem State.resetTo_rest : (s.resetTo keep).warmReq = 0 ∧ (s.resetTo keep).flt.log = s.flt.log ∧
    (s.resetTo keep).clk.rtcU = s.clk.rtcU ∧ (s.resetTo keep).isOwner = false ∧ (s.resetTo keep).twn.ownOut = false ∧
    (s.resetTo keep).pwr = s.pwr.restarted := ⟨rfl, rfl, rfl, rfl, rfl, rfl⟩

/-- A kept power status loses the flags of the temperature and nothing else. -/
theorem State.vbat_resetTo (h : keep R.PWR_STATUS = true) :
    (s.resetTo keep).flag F.PWR_STATUS_on_vbat = s.flag F.PWR_STATUS_on_vbat := by
  have hf := Tbl.get_filter_keys resetWord (fun k => !keep k) s.regs R.PWR_STATUS
  simp only [Bool.not_not, h] at hf
  refine (State.flag_setFlag_of_apart _ _ _ _ (by decide) (by decide)).trans
    ((State.flag_setFlag_of_apart _ _ _ _ (by decide) (by decide)).trans (State.flag_of_reg (f := F.PWR_STATUS_on_vbat) ?_))
  exact (State.reg_put_of_ne _ _ (by decide)).trans hf

/-- A reset and the start of the sequence. -/
def State.restart (bits : Nat) : State := ((s.resetTo keep).reason bits).seqStart

/-- What a restart leaves. -/
structure State.Restarts (s t : State) (keep : Nat → Bool) (bits : Nat) : Prop where
  reason : t.reg R.SYS_RESET_REASON = s.reg R.SYS_RESET_REASON ||| word bits
  kept : ∀ o, o ∉ aonRegs → keep o = true → t.reg o = s.reg o
  reset : ∀ o, keep o = false → t.reg o = resetWord o
  fault : ∀ d, d < 19 → t.domFault d = (decide (3 ≤ d) && s.domFault d)
  off : ∀ d, 1 ≤ d → t.domOn d = false
  warmReq : t.warmReq = 0
  coldReq : t.pwr.coldReq = 0
  log : t.flt.log = s.flt.log
  rtc : t.clk.rtcU = s.clk.rtcU
  isOwner : t.isOwner = false
  ownOut : t.twn.ownOut = false
  supply : t.pwr.aon = s.pwr.aon ∧ t.pwr.cut = s.pwr.cut
  free : s.pwr.pin = false → s.pwr.hot = false → s.pwr.cut = false →
    t.pwr.seq = (powerOrder.filter fun d => !t.domFault d) ∧ t.pwr.held = false ∧ t.domBusy 1 = true
  held : s.pwr.pin = true ∨ s.pwr.hot = true ∨ s.pwr.cut = true → t.pwr.held = true ∧ t.pwr.seq = []
  vbat : t.flag F.PWR_STATUS_on_vbat = s.flag F.PWR_STATUS_on_vbat

theorem State.restart_restarts (bits : Nat) (hk : ∀ o ∈ aonRegs, keep o = true) : s.Restarts (s.restart keep bits) keep bits := by
  obtain ⟨u, hu⟩ : ∃ u, u = s.resetTo keep := ⟨_, rfl⟩
  obtain ⟨v, hv⟩ : ∃ v, v = u.reason bits := ⟨_, rfl⟩
  have hreg {o : Nat} (h : o ∉ [R.SYS_BOOT_CTRL, R.PWR_STATUS]) : u.reg o = if keep o then s.reg o else resetWord o :=
    hu ▸ s.reg_resetTo keep h
  obtain ⟨r1, r2, r3, r4, r5, r6⟩ := s.resetTo_rest keep
  rw [← hu] at r1 r2 r3 r4 r5 r6
  have hvo : State.OnlyRegs [R.SYS_RESET_REASON] u v := hv ▸ .put (by decide) _ _
  have hvp : v.pwr = u.pwr := hv ▸ rfl
  have hx : s.restart keep bits = v.seqStart := by rw [hv, hu]; rfl
  obtain ⟨qf, qo, qk, ⟨g, z, h, q, e⟩, qfree, qheld⟩ := v.seqStart_starts
  have hvb : u.flag F.PWR_STATUS_on_vbat = s.flag F.PWR_STATUS_on_vbat := hu ▸ s.vbat_resetTo keep (hk _ (by decide))
  have hvr : v.warmReq = u.warmReq ∧ v.flt = u.flt ∧ v.clk = u.clk ∧ v.twn = u.twn := hv ▸ ⟨rfl, rfl, rfl, rfl⟩
  obtain ⟨v1, v2, v3, v4⟩ := hvr
  have hp : v.pwr = s.pwr.restarted := hvp.trans r6
  rw [hp] at qfree qheld
  obtain ⟨w, hw⟩ : ∃ w, w = v.seqStart := ⟨_, rfl⟩
  rw [← hw] at e qf qo qk qfree qheld
  have hfault (d : Nat) : v.domFault d = s.domFault d := by
    refine State.domFault_of_reg ((hvo.keeps _ (by decide)).trans ((hreg (by decide)).trans ?_)) d
    rw [if_pos (hk _ (by decide))]
  have hwp : w.pwr.coldReq = 0 ∧ w.pwr.aon = s.pwr.aon ∧ w.pwr.cut = s.pwr.cut := by
    rw [e, hp]
    exact ⟨rfl, rfl, rfl⟩
  have hwv : w.warmReq = v.warmReq ∧ w.flt = v.flt ∧ w.clk = v.clk ∧ w.twn = v.twn := by
    rw [e]
    exact ⟨rfl, rfl, rfl, rfl⟩
  obtain ⟨w1, w2, w3, w4⟩ := hwv
  obtain ⟨hcold, hsupply⟩ := hwp
  have hreset (o : Nat) (ho : keep o = false) : w.reg o = resetWord o := by
    have hn {l : List Nat} (hl : l ⊆ aonRegs) : o ∉ l := fun h => absurd (ho.symm.trans (hk o (hl h))) (by decide)
    rw [qk o (hn (by decide)), hvo.keeps o (hn (by decide)), hreg (hn (by decide)), ho]
    rfl
  have hkept (o : Nat) (ho : o ∉ aonRegs) (hko : keep o = true) : w.reg o = s.reg o := by
    have h1 : o ∉ seqRegs := fun h => ho ((by decide : seqRegs ⊆ aonRegs) h)
    have h2 : o ∉ [R.SYS_RESET_REASON] := fun h => ho ((by decide : [R.SYS_RESET_REASON] ⊆ aonRegs) h)
    have h3 : o ∉ [R.SYS_BOOT_CTRL, R.PWR_STATUS] := fun h => ho ((by decide : [R.SYS_BOOT_CTRL, R.PWR_STATUS] ⊆ aonRegs) h)
    rw [qk o h1, hvo.keeps o h2, hreg h3, if_pos hko]
  have hreason : w.reg R.SYS_RESET_REASON = s.reg R.SYS_RESET_REASON ||| word bits := by
    rw [qk _ (by decide), hv, State.reason, State.reg_put_self, hreg (by decide), if_pos (hk _ (by decide))]
  have hvbat : w.flag F.PWR_STATUS_on_vbat = s.flag F.PWR_STATUS_on_vbat :=
    (State.flag_of_reg (f := F.PWR_STATUS_on_vbat) (qk _ (by decide))).trans
      ((State.flag_of_reg (f := F.PWR_STATUS_on_vbat) (hvo.keeps _ (by decide))).trans hvb)
  rw [hx, ← hw]
  exact {
    reason := hreason
    kept := hkept
    reset := hreset
    fault := fun d hd => (qf d hd).trans (by rw [hfault])
    off := qo
    warmReq := w1.trans (v1.trans r1)
    coldReq := hcold
    log := (congrArg Flt.log (w2.trans v2)).trans r2
    rtc := (by rw [w3, v3]; exact r3)
    isOwner := (congrArg Twin.pins (w4.trans v4)).trans r4
    ownOut := (congrArg Twin.ownOut (w4.trans v4)).trans r5
    supply := hsupply
    free := qfree
    held := qheld
    vbat := hvbat }

end

end Sys2Proof.Machine
end

section
namespace Sys2Proof.Machine

/-! ## Drains (R399, R478) -/

/-- A master's write keeps the drains. -/
theorem State.storeWords_drains (s : State) (m a : Nat) (ws : List Word) :
    ∃ n x o, s.storeWords m a ws = { s with mem := n, sram := x, outbox := o } ∧ x.drain = s.sram.drain := by
  obtain ⟨mem, hm⟩ := s.putMemWords_changes a ws
  unfold State.storeWords
  split
  · exact ⟨mem, s.sram, s.outbox, hm, rfl⟩
  · obtain ⟨n, x, o, h, hx⟩ := s.keepBad_changes (s.putMemWords a ws) m a (4 * ws.length)
    refine ⟨n, x, o, h.trans ?_, hx.trans ?_⟩ <;> rw [hm]

/-- The writes that still land keep the drains. -/
theorem State.landWrites_drains (s : State) (m : Nat) (landed : List (Eng × Nat)) :
    ∃ n x o, s.landWrites m landed = { s with mem := n, sram := x, outbox := o } ∧ x.drain = s.sram.drain := by
  have hfold (f : Nat × Nat × List Word → List Word) (ls : List (Nat × Nat × List Word)) (t : State) : ∃ n x o,
      ls.foldl (fun s l => s.storeWords (l.1 / 8) l.2.1 (f l)) t = { t with mem := n, sram := x, outbox := o } ∧
        x.drain = t.sram.drain := by
    induction ls generalizing t with
    | nil => exact ⟨t.mem, t.sram, t.outbox, rfl, rfl⟩
    | cons l ls ih =>
      obtain ⟨n, x, o, h, hx⟩ := t.storeWords_drains (l.1 / 8) l.2.1 (f l)
      obtain ⟨n', x', o', h', hx'⟩ := ih (t.storeWords (l.1 / 8) l.2.1 (f l))
      refine ⟨n', x', o', h'.trans (by rw [h]), hx'.trans ?_⟩
      rw [h]
      exact hx
  obtain ⟨n, x, o, h, hx⟩ := hfold (fun l => l.2.2.take (16 * (landed.find? fun x => x.1.val = l.1).elim 0 (·.2)))
    (s.sram.landing.filter fun l => drainOf m (32 + l.1)) s
  refine ⟨n, { x with landing := x.landing.filter fun l => !drainOf m (32 + l.1) }, o, ?_, hx⟩
  unfold State.landWrites
  rw [h]
  rfl

/-- The last drain ends: none is left, and the requests stay. -/
theorem State.drainEnds_last (s : State) (m cycles : Nat) (landed : List (Eng × Nat)) (h : s.sram.drain = [m]) :
    (s.drainEnds m cycles landed).drained = true ∧ (s.drainEnds m cycles landed).pwr = s.pwr ∧
      (s.drainEnds m cycles landed).warmReq = s.warmReq := by
  have hm : drainOf m m = true := by simp [drainOf]
  have hany : s.sram.drain.any (drainOf m) = true := by simp [h, hm]
  obtain ⟨n, x, o, e, hx⟩ := s.landWrites_drains m landed
  unfold State.drainEnds
  rw [if_pos hany, e]
  refine ⟨?_, rfl, rfl⟩
  have hf : x.drain.filter (fun k => !drainOf m k) = [] := by simp [hx, h, hm]
  exact List.isEmpty_iff.2 hf

/-- Fresh masters' drains start in their order, and each is counted. -/
theorem State.foldl_drainMaster (ms : List Nat) (s : State) (hn : ms.Nodup) (hd : ∀ m ∈ ms, m ∉ s.sram.drain) :
    (ms.foldl State.drainMaster s).sram.drain = s.sram.drain ++ ms ∧
    ((ms.foldl State.drainMaster s).reg R.XBR_DRAIN_CNT).toNat = min ((s.reg R.XBR_DRAIN_CNT).toNat + ms.length) 0xFFFFFFFF := by
  induction ms generalizing s with
  | nil =>
    have := (s.reg R.XBR_DRAIN_CNT).isLt
    refine ⟨(List.append_nil _).symm, ?_⟩
    simp only [List.foldl_nil, List.length_nil]
    omega
  | cons m ms ih =>
    obtain ⟨hm, hn'⟩ := List.nodup_cons.1 hn
    have hfresh : ¬s.sram.drain.contains m = true := fun h => hd m (by simp) (List.contains_iff_mem.1 h)
    obtain ⟨t, ht⟩ : ∃ t, t = s.drainMaster m := ⟨_, rfl⟩
    have e : t = ((s.setSram fun x => { x with drain := x.drain ++ [m] }).setFlag F.XBR_STATUS_drain true).count R.XBR_DRAIN_CNT :=
      ht.trans (if_neg hfresh)
    have hdr : t.sram.drain = s.sram.drain ++ [m] := by rw [e]; rfl
    have hc : (t.reg R.XBR_DRAIN_CNT).toNat = min ((s.reg R.XBR_DRAIN_CNT).toNat + 1) 0xFFFFFFFF := by
      rw [e, State.reg_count_toNat]
      exact congrArg (fun x : Word => min (x.toNat + 1) 0xFFFFFFFF)
        (State.reg_setFld_of_ne (f := F.XBR_STATUS_drain) _ _ (by decide))
    obtain ⟨h1, h2⟩ := ih t hn' fun k hk => by
      rw [hdr, List.mem_append, List.mem_singleton, not_or]
      exact ⟨hd k (by simp [hk]), fun h => hm (h ▸ hk)⟩
    rw [List.foldl_cons, ← ht]
    refine ⟨h1.trans (by rw [hdr]; simp), h2.trans ?_⟩
    rw [hc, List.length_cons]
    omega

/-- The drains that start leave everything but the registers that show them. -/
theorem State.foldl_drainMaster_drains (ms : List Nat) (s : State) : s.Drains (ms.foldl State.drainMaster s) := by
  induction ms generalizing s with
  | nil => exact ⟨⟨_, _, _, rfl⟩, fun _ _ => rfl, fun _ h => h⟩
  | cons m ms ih => exact (s.drainMaster_drains m).trans (ih _)

end Sys2Proof.Machine
end

section
namespace Sys2Proof.Machine

/-! ## Resets and their reason (R476 to R478) -/

theorem keptReg_of_aonRegs : ∀ o ∈ aonRegs, keptReg o = true := by decide

/-- The release of OWN before a reset leaves the power state and what the reset keeps of it. -/
theorem State.releaseOwn_leaves (s : State) : s.releaseOwn.pwr = s.pwr ∧ s.releaseOwn.clk = s.clk ∧ s.releaseOwn.flt = s.flt ∧
    s.releaseOwn.warmReq = s.warmReq ∧ s.releaseOwn.mem = s.mem ∧ s.releaseOwn.sram = s.sram ∧ s.KeepsRegs s.releaseOwn ownRegs := by
  obtain ⟨⟨_, _, _, _, _, _, e⟩, hk, _⟩ := State.Yields.releaseOwn s
  refine ⟨?_, ?_, ?_, ?_, ?_, ?_, hk⟩ <;> rw [e]

/-- A cold reset is a restart of the state that has released OWN. -/
theorem State.coldReset_restarts (s : State) (bits : Nat) : s.releaseOwn.Restarts (s.coldReset bits) keptReg bits :=
  s.releaseOwn.restart_restarts keptReg bits keptReg_of_aonRegs

/-- A cold reset keeps the reasons and adds its own (R478). -/
theorem State.reason_coldReset (s : State) (bits : Nat) :
    (s.coldReset bits).reg R.SYS_RESET_REASON = s.reg R.SYS_RESET_REASON ||| word bits := by
  obtain ⟨_, _, _, _, _, _, hk⟩ := s.releaseOwn_leaves
  rw [(s.coldReset_restarts bits).reason, hk _ (by decide)]

/-- A warm reset: besides, the host interface is reset, and what of it stays is kept. -/
theorem State.warmReset_restarts (s : State) (bits : Nat) :
    s.releaseOwn.hifReset.Restarts (s.warmReset bits) (fun o => keptReg o || isHif o) bits :=
  s.releaseOwn.hifReset.restart_restarts _ bits fun o h => by rw [keptReg_of_aonRegs o h]; rfl

/-- A register outside the host interface's block stays through that block's reset. -/
theorem State.reg_hifReset_of_not_hif (s : State) {o : Nat} (h : isHif o = false) : s.hifReset.reg o = s.reg o := by
  have hne {a : Nat} (ha : isHif a = true) : a ≠ o := fun e => Bool.eq_false_iff.1 h (e ▸ ha)
  rw [State.reg_hifReset, if_neg (hne (by decide)), if_neg (hne (by decide)), if_neg (hne (by decide)), if_neg (Bool.eq_false_iff.1 h)]

theorem State.link_hifReset (s : State) : s.hifReset.flag F.HIF_STATUS_link_up = s.flag F.HIF_STATUS_link_up := by
  have h : s.hifReset.reg R.HIF_STATUS = s.reg R.HIF_STATUS &&& 0x3F#32 := by
    rw [State.reg_hifReset, if_neg (by decide), if_pos rfl]
  rw [State.flag, State.flag, State.fld, State.fld, h, bitsOf_and_of_covers]
  decide

section
variable {s : State}

theorem State.execColdReset_waits (h : s.sram.drain ≠ []) : exec .coldReset s = .next s ∧ exec .warmReset s = .next s := by
  have hd : s.drained = false := by simpa [State.drained] using h
  exact ⟨congrArg Host.Outcome.next (if_neg (by simp [hd])), congrArg Host.Outcome.next (if_pos (by simp [hd]))⟩

theorem State.execColdReset_asked (h : s.sram.drain = []) (hc : s.pwr.coldReq ≠ 0) :
    exec .coldReset s = .next (s.coldReset s.pwr.coldReq) ∧ exec .warmReset s = .next (s.coldReset s.pwr.coldReq) := by
  have hd : s.drained = true := by simp [State.drained, h]
  refine ⟨congrArg Host.Outcome.next (if_pos (by simp [hd, hc])), congrArg Host.Outcome.next ?_⟩
  rw [if_neg (by simp [hd]), if_pos hc]

theorem State.execColdReset_idle (hc : s.pwr.coldReq = 0) : exec .coldReset s = .next s :=
  congrArg Host.Outcome.next (if_neg (by simp [hc]))

theorem State.execWarmReset_asked (h : s.sram.drain = []) (hc : s.pwr.coldReq = 0) (hw : s.warmReq ≠ 0) :
    exec .warmReset s = .next (if s.pwr.draining then s.warmReset s.warmReq else s.warmStart) := by
  have hd : s.drained = true := by simp [State.drained, h]
  refine congrArg Host.Outcome.next ?_
  rw [if_neg (by simp [hd]), if_neg (by simp [hc]), if_neg hw]

/-- A warm reset's first coming: OWN is released, and every master's drain starts. -/
theorem State.warmStart_drains (h : s.sram.drain = []) : s.warmStart.pwr.draining = true ∧ s.warmStart.sram.drain = List.range 17 ∧
    s.warmStart.isOwner = false ∧ s.warmStart.twn.ownOut = false ∧ s.warmStart.warmReq = s.warmReq ∧ s.warmStart.mem = s.mem ∧
    s.warmStart.reg R.XBR_DRAIN_CNT = word (min ((s.reg R.XBR_DRAIN_CNT).toNat + 17) 0xFFFFFFFF) := by
  obtain ⟨_, _, _, hw, hm, hs, hk⟩ := s.releaseOwn_leaves
  obtain ⟨v, hv⟩ : ∃ v, v = s.releaseOwn := ⟨_, rfl⟩
  obtain ⟨t, ht⟩ : ∃ t, t = (List.range 17).foldl State.drainMaster v := ⟨_, rfl⟩
  have hx : s.warmStart = t.setPwr fun p => { p with draining := true } := by rw [ht, hv]; rfl
  rw [← hv] at hw hm hs hk
  have hd : v.sram.drain = [] := by rw [hs, h]
  obtain ⟨h1, h2⟩ := State.foldl_drainMaster (List.range 17) v List.nodup_range fun m _ => by simp [hd]
  obtain ⟨⟨r, z, d, e⟩, _, _⟩ := State.foldl_drainMaster_drains (List.range 17) v
  rw [← ht] at h1 h2 e
  rw [hx]
  have htw : t.twn = v.twn ∧ t.warmReq = v.warmReq ∧ t.mem = v.mem := by rw [e]; exact ⟨rfl, rfl, rfl⟩
  obtain ⟨e1, e2, e3⟩ := htw
  refine ⟨rfl, ?_, ?_, ?_, e2.trans hw, e3.trans hm, ?_⟩
  · exact h1.trans (by rw [hd]; rfl)
  · exact (congrArg Twin.pins e1).trans (hv ▸ s.isOwner_releaseOwn)
  · exact (congrArg Twin.ownOut e1).trans (hv ▸ s.ownOut_releaseOwn)
  · refine BitVec.eq_of_toNat_eq (h2.trans ?_)
    rw [hk _ (by decide), List.length_range, word, BitVec.toNat_ofNat, Nat.mod_eq_of_lt (by omega)]

/-- At power-on, and at VIN's return, a cold reset with the supplies back. -/
theorem State.execPowerOn (h : s.pwr.aon = false ∨ s.pwr.cut = true) (hc : s.pwr.cut = false ∨ s.pwr.ovp = false) :
    exec .powerOnReset s = .next (((s.setPwr fun p => { p with aon := true, cut := false, coldReq := 0, vin := 440 }).setFlag
      F.PWR_STATUS_on_vbat false).coldReset (s.pwr.coldReq ||| 1)) := by
  refine congrArg Host.Outcome.next (if_neg ?_)
  rcases h with h | h
  · rcases hc with hc | hc <;> simp [h, hc]
  · rcases hc with hc | hc
    · exact absurd (h.symm.trans hc) (by decide)
    · simp [h, hc]

theorem State.execVinReturn (ha : s.pwr.aon = true) (hc : s.pwr.cut = true) (ho : s.pwr.ovp = true) :
    exec .vinReturn s = .next (((s.setPwr fun p =>
      { p with aon := true, cut := false, ovp := false, coldReq := 0, vin := 1799 }).setFlag
      F.PWR_STATUS_on_vbat false).coldReset s.pwr.coldReq) := by
  refine congrArg Host.Outcome.next ((if_pos (by simp [hc, ho])).trans ?_)
  rw [if_pos ha]
  rfl

theorem State.reason_setPwr_setFlag (f : Pwr → Pwr) :
    ((s.setPwr f).setFlag F.PWR_STATUS_on_vbat false).reg R.SYS_RESET_REASON = s.reg R.SYS_RESET_REASON :=
  State.reg_setFld_of_ne _ _ (by decide)

/-- A write of SYS_RESET_REASON clears the bits written 1 (R478). -/
theorem State.writeReason (w : Word) (ha : s.answers R.SYS_RESET_REASON = true) (hn : s.setNow R.SYS_RESET_REASON = 0) :
    exec (.registerWrite (BitVec.ofNat 24 R.SYS_RESET_REASON) w) s =
      .next (s.put R.SYS_RESET_REASON (s.reg R.SYS_RESET_REASON &&& ~~~(w &&& 0xFF#32))) := by
  obtain ⟨r, b, i, hf, hrw, h1⟩ : ∃ r b i, findReg R.SYS_RESET_REASON = some (r, b, i) ∧ r.rw = 0 ∧ r.w1c = 0xFF#32 :=
    ⟨_, _, _, rfl, rfl, rfl⟩
  have hx : exec (.registerWrite (BitVec.ofNat 24 R.SYS_RESET_REASON) w) s = .next (s.writeGen R.SYS_RESET_REASON w) :=
    congrArg Host.Outcome.next (if_pos ha)
  rw [hx, State.writeGen_of_find w hf, hrw, h1, hn, Word.and_not_zero, Word.and_not_zero]
  exact congrArg (fun v => Host.Outcome.next (s.put R.SYS_RESET_REASON (v &&& ~~~(w &&& 0xFF#32))))
    ((congrArg (s.reg R.SYS_RESET_REASON ||| ·) BitVec.and_zero).trans BitVec.or_zero)

end

/-- Settles O58: each reset is the restart of a state that has released OWN; drains and a cold reset go first. -/
theorem resetRequestsAreOrderedAndRemembered : Obligations.ResetRequestsAreOrderedAndRemembered := by
  unfold Obligations.ResetRequestsAreOrderedAndRemembered
  intro s m n w
  obtain ⟨hp, hc, hf, hw, hm, hs, hk⟩ := s.releaseOwn_leaves
  refine ⟨State.execColdReset_waits, fun hd ho => ?_, fun hd hq => ?_, fun hd hq hwq hdr => ⟨State.execColdReset_idle hq, ?_⟩,
    fun hd hq hwq hdr => ⟨State.execColdReset_idle hq, ?_⟩, by decide, fun ha hcut => ?_, fun ha hcut hovp => ?_, fun ha hn => ?_⟩
  · obtain ⟨h1, h2, h3⟩ := s.drainEnds_last m.val n [] hd
    have hany : s.sram.drain.any (drainOf m.val) = true := by simp [hd, drainOf]
    have hoff : (s.drainEnds m.val n []).offEnds m.val = s.drainEnds m.val n [] := by
      unfold State.offEnds
      rw [h2, ho]
      rfl
    exact ⟨_, congrArg Host.Outcome.next ((if_pos hany).trans hoff), h1, h2, h3⟩
  · obtain ⟨hx, hy⟩ := State.execColdReset_asked hd hq
    have h := s.coldReset_restarts s.pwr.coldReq
    have hfault (d : Nat) : s.releaseOwn.domFault d = s.domFault d := State.domFault_of_reg (hk _ (by decide)) d
    refine ⟨_, hx, hy, s.reason_coldReset _, h.coldReq, h.warmReq, h.reset, h.isOwner, h.ownOut, h.log.trans (congrArg Flt.log hf),
      h.rtc.trans (by rw [hc]), fun d hlt => (h.fault d hlt).trans (by rw [hfault]), fun h1 h2 h3 => ?_, fun h1 => ?_⟩
    · obtain ⟨hseq, hheld, hbusy⟩ := h.free (by rw [hp, h1]) (by rw [hp, h2]) (by rw [hp, h3])
      exact ⟨hseq, hheld, hbusy, h.off⟩
    · obtain ⟨hheld, hseq⟩ := h.held (.inl (by rw [hp, h1]))
      exact ⟨hheld, hseq, h.off⟩
  · exact ⟨_, (State.execWarmReset_asked hd hq hwq).trans (congrArg Host.Outcome.next (if_neg (by simp [hdr]))),
      State.warmStart_drains hd⟩
  · have h := s.warmReset_restarts s.warmReq
    have hlink : R.HIF_STATUS ∉ aonRegs ∧ R.HIF_CTRL ∉ aonRegs := by decide
    refine ⟨_, (State.execWarmReset_asked hd hq hwq).trans (congrArg Host.Outcome.next (if_pos hdr)), ?_, h.warmReq,
      fun o ho hi => h.reset o (by rw [ho, hi]; rfl), ?_, ?_, h.isOwner, h.ownOut, h.log.trans (congrArg Flt.log hf),
      h.rtc.trans (by rw [← hc]; rfl)⟩
    · rw [h.reason, State.reg_hifReset_of_not_hif _ (by decide), hk _ (by decide)]
    · rw [State.flag_of_reg (f := F.HIF_STATUS_link_up) (h.kept _ hlink.1 (by decide)), State.link_hifReset]
      exact State.flag_of_reg (f := F.HIF_STATUS_link_up) (hk _ (by decide))
    · rw [h.kept _ hlink.2 (by decide), State.reg_hifReset]
      rfl
  · exact ⟨_, State.execPowerOn ha hcut, by rw [State.reason_coldReset, State.reason_setPwr_setFlag]⟩
  · exact ⟨_, State.execVinReturn ha hcut hovp, by rw [State.reason_coldReset, State.reason_setPwr_setFlag]⟩
  · exact ⟨_, State.writeReason w ha hn, State.reg_put_self _ _ _, (State.OnlyRegs.put (by decide) _ _).keeps⟩

end Sys2Proof.Machine
end

section
/-!
PROOFS. One engine clock cycle on an empty queue: what the output frames and the passing time change (R378, R306, R310, R475).
-/

namespace Sys2Proof.Machine

section
variable (s : State)

/-! ## The output frames that are due (R378) -/

/-- Steps that only send, one after the other, only send. -/
theorem State.foldl_sends {α : Type} {f : State → α → State} (hf : ∀ s a, ∃ o, f s a = { s with outbox := o }) (as : List α) :
    ∃ o, as.foldl f s = { s with outbox := o } := by
  induction as generalizing s with
  | nil => exact ⟨s.outbox, rfl⟩
  | cons a as ih =>
    obtain ⟨o, h⟩ := hf s a
    rw [List.foldl_cons, h]
    exact ih { s with outbox := o }

/-- Position k sends frames, and changes nothing else. -/
theorem State.sendPos_changes (k : Nat) : ∃ o, s.sendPos k = { s with outbox := o } := by
  refine s.foldl_sends (fun s p => ?_) _
  unfold State.sendFrame State.drive
  split_ifs
  · exact ⟨_, rfl⟩
  · exact ⟨s.outbox, rfl⟩
  · exact ⟨s.outbox, rfl⟩
  · exact ⟨s.outbox, rfl⟩

/-- Where no port times its own frames, none are sent. -/
theorem State.sendPos_of_no_master (h : ∀ p : Fin 16, s.portMaster p = false) (k : Nat) : s.sendPos k = s :=
  List.foldl_fixed' (fun p => if_neg (Bool.eq_false_iff.1 (h p))) _

theorem State.tdmDue_changes (n : Nat) : ∃ o x, s.tdmDue n = { s with outbox := o, tdm := x } := by
  obtain ⟨o, h⟩ := s.foldl_sends State.sendPos_changes ((List.range n).drop s.tdm.sent)
  unfold State.tdmDue
  rw [h]
  exact ⟨_, _, rfl⟩

theorem State.tdmDue_of_no_master (h : ∀ p : Fin 16, s.portMaster p = false) (n : Nat) :
    s.tdmDue n = s.setTdm fun t => { t with sent := max n t.sent } :=
  congrArg (fun u : State => u.setTdm fun t => { t with sent := max n t.sent })
    (List.foldl_fixed' (s.sendPos_of_no_master h) ((List.range n).drop s.tdm.sent))

/-- Without a domain released in the cycle before there is no level to show. -/
theorem State.showLevels_of_none (h : s.pwr.levels = []) : s.showLevels = s := by
  have hs : { s with pwr := { s.pwr with levels := [] } } = s := by rw [← h]
  unfold State.showLevels
  rw [hs, h]
  rfl

/-! ## Time passes (R306, R309, R310, R229, R475) -/

theorem State.ppsFall_changes : ∃ o x, s.ppsFall = { s with outbox := o, clkx := x } := by
  unfold State.ppsFall
  split
  · split_ifs
    · exact ⟨_, _, rfl⟩
    · exact ⟨_, _, rfl⟩
  · exact ⟨_, _, rfl⟩

theorem State.clusterStart_changes : State.OnlyRegs [R.PWR_DOM_BUSY] s { s.clusterStart with pwr := s.pwr } := by
  unfold State.clusterStart
  split
  · split_ifs
    · exact State.OnlyRegs.setFlag (f := ⟨R.PWR_DOM_BUSY, _, _⟩) (by simp) s true
    · exact .refl _
  · exact .refl _

/-- What passing time changes: the clocks, what is sent, and the register that shows the switching domains. -/
theorem State.elapse_changes (u : Nat) : (∃ r z n t p f o x, s.elapse u =
    { s with regs := r, sets := z, now := n, twn := t, pwr := p, flt := f, outbox := o, clkx := x, clk := (s.passTime u).clk }) ∧
    s.KeepsRegs (s.elapse u) [R.PWR_DOM_BUSY] := by
  obtain ⟨v, hv⟩ : ∃ v, v = State.linkRun s.clk.freeU s.twn.msgs.length (s.passTime u).ppsFall := ⟨_, rfl⟩
  obtain ⟨o, x, hp⟩ := (s.passTime u).ppsFall_changes
  obtain ⟨w, o', hl⟩ := State.linkRun_changes s.clk.freeU s.twn.msgs.length (s.passTime u).ppsFall
  rw [hp] at hl
  have hve : v = { s.passTime u with twn := w, outbox := o', clkx := x } := hv.trans ((congrArg _ hp).trans hl)
  have hx : s.elapse u = v.clusterStart := by rw [hv]; rfl
  have hc := v.clusterStart_changes
  obtain ⟨r, z, e⟩ := hc.frame
  have hpwr (t : State) (h : { v.clusterStart with pwr := v.pwr } = t) : v.clusterStart = { t with pwr := v.clusterStart.pwr } := by
    rw [← h]
  rw [hx]
  refine ⟨⟨r, z, _, _, _, _, _, _, (hpwr _ e).trans (by rw [hve]; rfl)⟩, fun o ho => ?_⟩
  have hr : v.reg o = s.reg o := by rw [hve]; rfl
  exact (hc.keeps o ho).trans hr

/-- With nothing to send and no domain to switch on, only time passes. -/
theorem State.elapse_of_quiet (hm : s.twn.msgs = []) (hp : s.clkx.ppsEnd = none) (hq : s.pwr.seq = []) (u : Nat) :
    s.elapse u = s.passTime u := by
  have h1 : (s.passTime u).ppsFall = s.passTime u := by
    unfold State.ppsFall
    rw [State.passTime_clkx, hp]
  have h2 : (s.passTime u).clusterStart = s.passTime u := by
    unfold State.clusterStart
    rw [State.passTime_pwr, hq]
  unfold State.elapse
  rw [h1, hm]
  exact h2

/-- At the tick's end time stands still. -/
theorem State.idle_of_end (h : ¬ s.clk.tickPos + ((s.clk.frac + 5 * s.gridRate) / s.gridDen).toNat < s.tickLen) :
    s.idle = s := if_neg h

/-- Before the tick's end a cycle passes, and the grid moves on. -/
theorem State.idle_of_lt (h : s.clk.tickPos + ((s.clk.frac + 5 * s.gridRate) / s.gridDen).toNat < s.tickLen) (hd : s.domOn 1 = true) :
    s.idle = { s.elapse 5 with clk := { (s.elapse 5).clk with
      tickPos := s.clk.tickPos + ((s.clk.frac + 5 * s.gridRate) / s.gridDen).toNat
      frac := (s.clk.frac + 5 * s.gridRate) % s.gridDen } } := by
  have ho : (s.elapse 5).domOn 1 = true := (State.domOn_of_reg ((s.elapse_changes 5).2 _ (by decide)) 1).trans hd
  exact (if_pos h).trans (if_pos ho)

theorem State.gridDen_pos : 0 < s.gridDen := by
  unfold State.gridDen
  split <;> decide

end

/-- Settles O2: the frames that are due are sent, then one cycle passes unless the tick is at its end. -/
theorem emptyQueueLetsOneCyclePass : Obligations.EmptyQueueLetsOneCyclePass := by
  unfold Obligations.EmptyQueueLetsOneCyclePass
  intro s hpend hd hlev c pos
  obtain ⟨v, hv⟩ : ∃ v, v = s.tdmRun := ⟨_, rfl⟩
  obtain ⟨o, x, hx⟩ : ∃ o x, v = { s with outbox := o, tdm := x } := hv ▸ s.tdmDue_changes _
  have hstep : step s = .next v.idle := by
    unfold step
    rw [hpend, hv, State.rest, s.showLevels_of_none hlev]
  have hpos : v.clk.tickPos + ((v.clk.frac + 5 * v.gridRate) / v.gridDen).toNat = pos := by rw [hx]; rfl
  have hfrac : (v.clk.frac + 5 * v.gridRate) % v.gridDen = c % s.gridDen := by rw [hx]; rfl
  have hlen : v.tickLen = s.tickLen := by rw [hx]; rfl
  have hvd : v.domOn 1 = true := by rw [hx]; exact hd
  refine ⟨fun hf hr => ?_, fun h => ?_, fun h => ?_, fun h => ⟨v, ?_, ?_⟩⟩
  · have h5 : c / s.gridDen = 5 := by
      rw [show c = 5 * s.gridDen by rw [show c = s.clk.frac + 5 * s.gridRate from rfl, hf, hr, Int.zero_add]]
      exact Int.mul_ediv_cancel _ (Int.ne_of_gt s.gridDen_pos)
    rw [show pos = s.clk.tickPos + (c / s.gridDen).toNat from rfl, h5]
    rfl
  · rw [State.calRate, h]
    rfl
  · have hi := v.idle_of_lt (by rw [hpos, hlen]; exact h) hvd
    rw [hpos, hfrac] at hi
    obtain ⟨⟨r, z, n, t, p, f, o', y, e⟩, hk⟩ := v.elapse_changes 5
    have hreg (a : Nat) : v.idle.reg a = (v.elapse 5).reg a := by rw [hi]; rfl
    have hvr (a : Nat) : v.reg a = s.reg a := by rw [hx]; rfl
    have hdom : (if v.domOn 1 then 5 else 0) = 5 := if_pos hvd
    have hclk : v.idle.clk = { (v.passTime 5).clk with tickPos := pos, frac := c % s.gridDen } := by rw [hi, e]
    refine ⟨v.idle, hstep, by rw [hclk], by rw [hclk], ?_, ?_, ?_, fun ha => ?_, fun a ha => ?_, ?_, ?_, ?_, ?_, ?_, ?_⟩
    · rw [hclk, hx]; rfl
    · rw [hclk, State.passTime, hdom, hx]
    · rw [hclk, State.passTime, hdom, hx]
    · have hva : v.pwr.aon = true := by rw [hx]; exact ha
      rw [hclk, State.passTime, if_pos hva, hx]
      exact ⟨rfl, rfl⟩
    · rw [hreg, hk a ha, hvr]
    · rw [hi, e, hx]
    · rw [hi, e, hx]
    · rw [hi, e, hx]
    · rw [hi, e, hx]
    · rw [hi, e, hx]
    · intro hm hpps hq hport
      have hvo : v = s.setTdm fun t => { t with sent := max (min s.T (s.clk.tickPos * s.T / s.tickLen + 1)) t.sent } :=
        hv.trans (s.tdmDue_of_no_master hport _)
      have hel : v.elapse 5 = v.passTime 5 :=
        v.elapse_of_quiet (by rw [hx]; exact hm) (by rw [hx]; exact hpps) (by rw [hx]; exact hq) 5
      refine ⟨?_, fun a _ => ?_⟩
      · rw [hi, hel, hvo]; rfl
      · rw [hreg, hel, ← hvr]; rfl
  · rw [hstep, v.idle_of_end (by rw [hpos, hlen]; exact h)]
  · rw [hx]
    exact ⟨rfl, fun _ _ => rfl, rfl, rfl, rfl, rfl, rfl⟩

end Sys2Proof.Machine
end

section
/-!
PROOFS. The boundary that opens the next tick: the refuted obligation about it (R16, R22, R286, R290).
-/

namespace Sys2Proof.Machine

/-! ## The state (R198, R286) -/

/-- A number beyond the 512 transmit streams, for which R.STR_TX_SENT_CNT gives the offset of R.CLK_STATUS. -/
abbrev dpllStream : Nat := 0x1E000

/-- What waits on port A at tick 2: a late packet of the stream that stands for MAC_STATUS, and five that may still go of the one that
stands for CLK_STATUS. -/
def strayPackets : List TxPkt := ⟨statusStream, 0, []⟩ :: List.replicate 5 ⟨dpllStream, 5, []⟩

/-- PD_FABRIC has just been released, with lane 0 up but switched off; the DPLL is in HOLDOVER with no reference selected; the
partner's markers arrived until the boundary before the last; references 4, 2 us away, and 6 are qualified. -/
def strayPacket : State :=
  let s := ((Tests.allOn.setFlag (F.SDS_CTRL_en 0) false).put (R.SDS_STATUS 0) 4).put (R.MAC_STATUS 0) 1
  let s := (((s.put R.CLK_STATUS 0x73#32).setFlag (F.MAC_CTRL_tx_en 0) true).put (R.CLK_REF_CFG 6) 1).put (R.CLK_REF_CFG 4) 1
  { (s.setTwn fun t => { t with marker := true, noMark := 1 }).setTxQueue 0 strayPackets with
    pwr := { Tests.allOn.pwr with levels := [15] }
    clk := { tickNum := 2 }
    clkx := { refs := [(4, { q := true, phases := [2000000] }), (6, { q := true })] } }

/-! ## The boundary's stages (R22) -/

/-- The boundary up to the twin's part. -/
def State.beforeTwin (s : State) : State :=
  let n := s.clk.commitAs.getD s.tickNum
  let m := s.comingTick
  let commits := s.processing
  let s := ((s.showLevels).tdmDue s.T).elapse s.toBoundary.1
  let s := (((s.tdmTail).commitStep n).askAgain).ampTick n
  let s := if commits then s.meterTake else s
  let s := ((s.nextTick m).tdmEarly).runStep m
  let s := ((s.setStr fun t => { t with launched := false, txServe := t.tx }).clockTick).ringsEnable
  let s := (((s.meterPost).fenceAll).actions).inputs m
  let s := ((s.fabTake).hostTick).scrubSram.scrubDram
  if s.run = .running then s.startGraph else s

/-- The boundary after the markers' part of the twin's. -/
def State.afterMarks (s : State) : State :=
  (List.range 3).foldl State.twiServe ((((s.hoTick).resyncTick).revertTick).sendMarker).tickEvent

theorem State.boundary_eq (s : State) : s.boundary = s.beforeTwin.laneTick.markTick.afterMarks := rfl

/-- The second boundary in succession without a marker: the markers are gone. -/
def State.unmarked (s : State) : State :=
  (s.setTwn fun w => { w with noMark := w.noMark + 1 }).setTwn fun w => { w with marker := false }

theorem State.markTick_of_marker {s : State} (hm : s.twn.marker = true) (hn : 1 ≤ s.twn.noMark) : s.markTick = s.unmarked.ref6 :=
  if_pos (by simp [hm, hn])

/-! ## The switch (R287, R290) -/

/-- What a switch does beside the offset. -/
def State.switched (s : State) (old new : Nat) : State :=
  let s := s.setFld F.CLK_STATUS_sel_ref new
  let s := (s.setFlag F.CLK_STATUS_switching true).setFlag F.CLK_STATUS_switch_evt true
  let s := (s.setDpll 1).setClkx fun x => { x with bw := s.loopBw new 5 }
  (s.count R.CLK_SWITCH_CNT).postEvent 5 1 [BitVec.ofNat 8 old, BitVec.ofNat 8 new]

theorem State.switchTo_eq (s : State) (old new : Nat) : s.switchTo old new = (s.switchOffset old new).switched old new := rfl

/-- The mean of one phase offset is that offset. -/
theorem Ref.phase_single {r : Ref} {p : Int} (h : r.phases = [p]) : r.phase = p := by
  have h1 (a : Int) : openDivI 2 a 1 = a := by
    unfold openDivI
    split <;> simp
  rw [Ref.phase, h]
  simpa using h1 p

/-- In FREERUN, while the tick is stopped, a time reference more than 1 us away moves the clock (R290). -/
theorem State.switchOffset_of_far {s : State} {old new : Nat} {p : Int} (hd : s.dpll = 0) (ht : isTimeRef new = true)
    (hk : s.ticking = false) (hr : (s.ref new).phases = [p]) (hp : oneUs < p.natAbs) : s.switchOffset old new = s.moveTime p := by
  have hph := Ref.phase_single hr
  unfold State.switchOffset
  dsimp only
  rw [hph, if_pos (by simp only [hd, ht, hk, hp]; rfl)]

/-- What CLK_REF_STATUS shows of a reference without a frequency offset. -/
def State.refShown (s : State) (n : Nat) : State :=
  let r := s.ref n
  let st := if s.prio n = 0 then 0 else if r.q then (if s.disputed n then 4 else 3) else if r.act then 2 else 1
  ((s.setFld (F.CLK_REF_STATUS_state n) st).setFld (F.CLK_REF_STATUS_holdoff_left n) (r.wait.getD 0)).setFld
    (F.CLK_REF_STATUS_freq n) 0

theorem State.refStatus_of_still {s : State} {n : Nat} (h : (s.ref n).ppb = 0) : s.refStatus n = s.refShown n := by
  have h0 : (wordI (satN 16 (openDivI 2 0 10))).toNat = 0 := by
    unfold openDivI
    split <;> decide
  unfold State.refStatus
  dsimp only
  rw [h, h0]
  rfl

/-! ## The counterexample -/

/-- The state as the markers' loss is noted. -/
def strayLost : State := (strayPacket.memSeen {}).beforeTwin.laneTick.unmarked

set_option maxRecDepth 20000 in
theorem strayMarks : (strayPacket.memSeen {}).beforeTwin.laneTick.twn.marker = true ∧
    1 ≤ (strayPacket.memSeen {}).beforeTwin.laneTick.twn.noMark := by decide

set_option maxRecDepth 20000 in
theorem strayLost_qualified : strayLost.ref6Ok = false ∧ (strayLost.ref 6).q = true := by decide

/-- Reference 6 is no longer qualified. -/
def strayCut : State :=
  let r := { strayLost.ref 6 with q := false, wait := none, act := false }
  (strayLost.setClkx fun x => { x with refs := Tbl.set (fun _ => {}) x.refs 6 r }).refShown 6

set_option maxRecDepth 20000 in
theorem broken_strayLost : strayLost.broken 6 false = strayCut := State.refStatus_of_still (by decide)

/-- Its event is out. -/
def strayBroken : State :=
  let t := (strayCut.pruneDisputes.count R.CLK_DISQ_CNT).setFlag F.CLK_STATUS_disq_evt true
  t.postEvent 5 2 [BitVec.ofNat 8 6, BitVec.ofNat 8 (if t.sel = 6 then t.bestRef.getD 7 else t.sel)]

set_option maxRecDepth 20000 in
theorem refBreak_strayLost : strayLost.refBreak 6 false = strayBroken.reselect := by
  have hp : strayCut.prio 6 ≠ 0 := by decide
  obtain ⟨-, hq⟩ := strayLost_qualified
  unfold State.refBreak
  dsimp only
  rw [← State.broken, broken_strayLost, if_neg (by simp [hq, hp])]
  rfl

theorem ref6_strayLost : strayLost.ref6 = strayBroken.reselect := by
  obtain ⟨hok, hq⟩ := strayLost_qualified
  unfold State.ref6
  dsimp only
  rw [hok, hq, if_neg (by decide), if_pos rfl, refBreak_strayLost]

set_option maxRecDepth 20000 in
theorem strayBroken_choice : strayBroken.bestRef = some 4 ∧ strayBroken.selOk = false ∧ strayBroken.sel = 7 := by decide

set_option maxRecDepth 20000 in
theorem strayBroken_offset : strayBroken.dpll = 0 ∧ strayBroken.ticking = false ∧ (strayBroken.ref 4).phases = [2000000] ∧
    strayBroken.isFree = false ∧ ((strayBroken.gridU : Int) + 2000000 * 6 / 1000).toNat = 1512000 := by decide

/-- The clock has moved by 2 us. -/
def strayMoved : State := strayBroken.setGridU 1512000

theorem reselect_strayBroken : strayBroken.reselect = strayMoved.switched 7 4 := by
  obtain ⟨hbest, hsel, h7⟩ := strayBroken_choice
  obtain ⟨hd, hk, hr, hf, hu⟩ := strayBroken_offset
  have hs : strayBroken.reselect = strayBroken.switchTo 7 4 := by
    unfold State.reselect
    dsimp only
    rw [hbest, h7]
    exact if_pos (by rw [hsel]; rfl)
  rw [hs, State.switchTo_eq, State.switchOffset_of_far hd rfl hk hr (by decide), State.moveTime_of_grid hf, hu]
  rfl

set_option maxRecDepth 20000 in
theorem tickPos_strayMoved : (strayMoved.switched 7 4).afterMarks.clk.tickPos = 12000 := by decide

/-- Refutes O10: it ranges over states with packets of any stream number in a port's queue, where the module has 512 transmit streams
(chapter 06, before R186). As lane 0 leaves UP in the boundary's clock cycle, the late packet's count (R198) sets the link bit again,
and those that then go are counted in CLK_STATUS, whose DPLL state becomes FREERUN; so the loss of the markers in the same boundary
lets reference 4 move the stopped grid (R290), and the position in the new tick is not 0. -/
theorem not_boundaryOpensTheNextTick : ¬ Obligations.BoundaryOpensTheNextTick := by
  unfold Obligations.BoundaryOpensTheNextTick
  intro h
  have hon : strayPacket.domOn 1 = true := by decide
  have hdpll : strayPacket.dpll ≠ 0 := by decide
  obtain ⟨t, hx, -, hpos, -⟩ := h {} strayPacket hon rfl (.inr (.inl hdpll))
  have hb : exec (.tickBoundary {}) strayPacket = .next (strayPacket.memSeen {}).boundary :=
    congrArg Host.Outcome.next (State.ifCtrl_of_on hon _)
  obtain ⟨hm, hn⟩ := strayMarks
  have ht : t = (strayMoved.switched 7 4).afterMarks := by
    rw [← reselect_strayBroken, ← ref6_strayLost]
    refine (Host.Outcome.next.inj (hx.symm.trans hb)).trans ?_
    rw [State.boundary_eq, State.markTick_of_marker hm hn]
    rfl
  rw [ht, tickPos_strayMoved] at hpos
  exact absurd hpos (by decide)

end Sys2Proof.Machine
end

section
/-!
PROOFS. Switching PD_MEDIA off (R286, R288, R473): the refuted obligation about supplies, domains and reset sources.
-/

namespace Sys2Proof.Machine

/-! ## The write of PWR_DOM_REQ (R473) -/

/-- A write that asks for PD_MEDIA, domain 15, to be switched off. -/
abbrev mediaOff : Word := 0x77FFF#32

/-- The bits of domains that are asked to be on. -/
def State.domsOn (s : State) (l : List Nat) : State := l.foldl (fun s d => s.domReq d true) s

theorem foldl_mediaOff (f : State → Nat → Bool → State) (s : State) :
    ((List.range 16).map (3 + ·)).foldl
      (fun s d => if d = 18 && !mediaOff.getLsbD 18 && ReqSource.bar0 = .bar0 then s else f s d (mediaOff.getLsbD d)) s
    = [16, 17, 18].foldl (fun s d => f s d true) (f (((List.range 12).map (3 + ·)).foldl (fun s d => f s d true) s) 15 false) := rfl

theorem State.pwrReq_mediaOff (s : State) :
    s.pwrReq .bar0 mediaOff = ((s.domsOn ((List.range 12).map (3 + ·))).domReq 15 false).domsOn [16, 17, 18] :=
  foldl_mediaOff State.domReq s

/-- A released domain that stands still and may be switched off goes off. -/
theorem State.domReq_off {s : State} {d : Nat} (hreq : s.flag (domF R.PWR_DOM_REQ d) = true)
    (hseq : s.pwr.seq = []) (hs : let u := s.setFlag (domF R.PWR_DOM_REQ d) false
      u.domFault d = false ∧ u.domBusy d = false ∧ u.domOn d = true ∧ u.offOk d = true) :
    s.domReq d false = (s.setFlag (domF R.PWR_DOM_REQ d) false).domOff d := by
  obtain ⟨hfault, hbusy, hon, hok⟩ := hs
  simp [State.domReq, State.askOff, hreq, hfault, hbusy, hseq, hon, hok]

/-- PD_MEDIA's blocks are reset; reference 6 has yet to follow. -/
def State.mediaReset (s : State) : State :=
  let s := s.releaseOwn.resetRegs (inDomain 15)
  let s := { s with str := {}, eth := {}, twn := { ownIn := s.twn.ownIn, guardOk := s.twn.guardOk, relAt := s.twn.relAt } }
  s.setMix fun m => { m with props := [] }

/-- PD_MEDIA is off, and its master's drain runs. -/
def State.mediaDrain (s : State) : State :=
  let s := (s.setFlag (domF R.PWR_DOM_ON 15) false).drainMaster 15
  (s.setPwr fun p => { p with offs := p.offs ++ [15] }).setFlag (domF R.PWR_DOM_BUSY 15) true

theorem State.domOff_media (s : State) : s.domOff 15 = s.mediaReset.ref6.mediaDrain := rfl

/-! ## The counterexample -/

/-- A number beyond the 7 references, for which R.CLK_REF_STATUS gives the offset of port A's MAC_CTRL. -/
abbrev portRef : Nat := 0x3FFEC

/-- Every domain is on; reference 6 is enabled and qualified, and a dispute names a reference that does not exist. -/
def strayDispute : State :=
  { Tests.allOn.put (R.CLK_REF_CFG 6) 1 with
    clkx := { refs := [(6, { q := true })], disputes := [{ a := portRef, b := 6, keep := 6 }] } }

/-- The state as the write comes to PD_MEDIA's bit. -/
def disputeAsked : State := strayDispute.domsOn ((List.range 12).map (3 + ·))

set_option maxRecDepth 20000 in
theorem domReq_disputeAsked : disputeAsked.domReq 15 false = (disputeAsked.setFlag (domF R.PWR_DOM_REQ 15) false).domOff 15 :=
  State.domReq_off (by decide) (by decide) (by decide)

/-- PD_MEDIA's blocks are reset. -/
def disputeReset : State := (disputeAsked.setFlag (domF R.PWR_DOM_REQ 15) false).mediaReset

/-- Reference 6 is no longer qualified. -/
def disputeBroken : State :=
  let r := { disputeReset.ref 6 with q := false, wait := none, act := false }
  (disputeReset.setClkx fun x => { x with refs := Tbl.set (fun _ => {}) x.refs 6 r }).refShown 6

set_option maxRecDepth 20000 in
theorem broken_disputeReset : disputeReset.broken 6 false = disputeBroken := State.refStatus_of_still (by decide)

/-- The dispute is dropped. -/
def disputeDropped : State := ((disputeBroken.setClkx fun x => { x with disputes := [] }).refShown portRef).refShown 6

set_option maxRecDepth 20000 in
theorem pruneDisputes_disputeBroken : disputeBroken.pruneDisputes = disputeDropped := by
  have hrun : disputeBroken.pruneDisputes
      = ((disputeBroken.setClkx fun x => { x with disputes := [] }).refStatus portRef).refStatus 6 := rfl
  rw [hrun, State.refStatus_of_still (n := portRef) (by decide), State.refStatus_of_still (by decide)]
  rfl

/-- The event of the disqualification is out. -/
def disputeTold : State :=
  let t := (disputeDropped.count R.CLK_DISQ_CNT).setFlag F.CLK_STATUS_disq_evt true
  t.postEvent 5 2 [BitVec.ofNat 8 6, BitVec.ofNat 8 (if t.sel = 6 then t.bestRef.getD 7 else t.sel)]

set_option maxRecDepth 20000 in
theorem ref6_disputeReset : disputeReset.ref6 = disputeTold := by
  have hq : disputeReset.ref6Ok = false ∧ (disputeReset.ref 6).q = true := by decide
  have hprio : disputeBroken.prio 6 ≠ 0 := by decide
  have hnone : (∀ m < 7, (disputeTold.ref m).q = false) ∧ disputeTold.sel = 7 := by decide
  have hbreak : disputeReset.refBreak 6 false = disputeTold.reselect := by
    unfold State.refBreak
    dsimp only
    rw [← State.broken, broken_disputeReset, if_neg (by simp [hq.2, hprio]), pruneDisputes_disputeBroken]
    rfl
  unfold State.ref6
  dsimp only
  rw [hq.1, hq.2, if_neg (by decide), if_pos rfl, hbreak, State.reselect_of_none hnone.1 hnone.2]

set_option maxRecDepth 20000 in
theorem macCtrl_disputeTold :
    (disputeTold.mediaDrain.domsOn [16, 17, 18]).reg (R.MAC_CTRL 0) ≠ resetWord (R.MAC_CTRL 0) := by decide

/-- Refutes O59: it ranges over states with a dispute (R288) between any two numbers, where the module has 7 references (R282). As
PD_MEDIA goes off, its blocks are reset, the twin's among them, so reference 6 is disqualified (R286) and the dispute dropped; what
CLK_REF_STATUS shows of the reference that does not exist is then written to a MAC_CTRL of the domain just reset. -/
theorem not_suppliesDomainsAndResetSources : ¬ Obligations.SuppliesDomainsAndResetSources := by
  unfold Obligations.SuppliesDomainsAndResetSources
  intro h
  obtain ⟨-, -, -, -, -, -, hon, -⟩ := h strayDispute 0 0 .bar0 mediaOff 0 15 0 0 0 0 []
  obtain ⟨-, -, -, -, hreq⟩ := hon (by decide)
  obtain ⟨-, hoff⟩ := hreq (by decide) (by decide) rfl (by decide) (by decide) (by decide)
  obtain ⟨-, hgo, -⟩ := hoff (by decide) (by decide)
  obtain ⟨t, hx, -, -, hreset, -⟩ := hgo (by decide) (.inl (by decide))
  have hrun : exec (.pwrDomReqWrite .bar0 mediaOff) strayDispute = .next (strayDispute.pwrReq .bar0 mediaOff) :=
    congrArg Host.Outcome.next (if_pos (by decide))
  have ht : t = disputeTold.mediaDrain.domsOn [16, 17, 18] := by
    rw [← ref6_disputeReset, disputeReset, ← State.domOff_media, ← domReq_disputeAsked]
    exact (Host.Outcome.next.inj (hx.symm.trans hrun)).trans (State.pwrReq_mediaOff _)
  have hmac := hreset (R.MAC_CTRL 0) (by decide)
  rw [ht] at hmac
  exact macCtrl_disputeTold hmac

end Sys2Proof.Machine
end
